-- ==== Sys2Proof/Word.lean ====
section
/-! DEFINITION. Word types and their plainest arithmetic: what the manual treats as bits is a bit
vector, what it counts is a natural number. -/
namespace Sys2Proof

/-- A byte of a buffer, a packet or a memory (R12). -/
abbrev Byte := BitVec 8

/-- A 32-bit register word (R928). -/
abbrev Word := BitVec 32

/-- A lane data word or parameter word: 36 bits (R115, R131). -/
abbrev Word36 := BitVec 36

/-- A counter that saturates at its largest value (R931). -/
def satAdd (a b top : Nat) : Nat := min (a + b) top

/-- Round a number of units up to whole blocks of `b`. -/
def ceilDiv (a b : Nat) : Nat := if b = 0 then 0 else (a + b - 1) / b

theorem satAdd_le_top (a b top : Nat) : satAdd a b top ≤ top := Nat.min_le_right _ _

end Sys2Proof
end

