-- ==== Sys2Proof/Syntax.lean ====
section
/-! DEFINITION. The commands of the block: the operand types and the one inductive `Instr`, one
constructor per row of spec/opcode_table.json, in the table's order.  The table gives its rows no
operands; an operand here is what the manual leaves to the outside world at that step. -/
namespace Sys2Proof

/-- The requester class of a register access (R718, R929, R930). -/
inductive Requester where
  | pcie | ring | fabric | debug | steward
  deriving DecidableEq, Repr

/-- A command descriptor as read from its ring, with its whole input buffer (Table 14.3, R698).
`rsvd` is the reserved bytes 7:6 and then 15:12, as one 48-bit number.  `rbuf` doubles as TSEC.  `readAt` is the
instant at which its data arrived, in ns of running time (R692). -/
structure Desc where
  ring : Nat
  index : Nat
  flags : Nat := 0
  tag : Nat := 0
  session : Nat := 0
  seq : Nat := 0
  mac : Nat := 0
  rsvd : Nat := 0
  bufAddr : Nat := 0
  rlen : Nat := 0
  rbuf : Nat := 0
  a0 : Nat := 0
  a1 : Nat := 0
  a2 : Nat := 0
  a3 : Nat := 0
  buf : List Byte := []
  readAt : Nat := 0
  deriving DecidableEq, Repr

/-- A descriptor fetched from a ring: its opcode byte and its fields (R693, R697). -/
structure RawDesc where
  opcode : Nat
  d : Desc
  deriving DecidableEq, Repr

/-- Why a transfer of the host link fails (R719, R720). -/
inductive FetchKind where
  | descriptor | input | response | completion | event
  deriving DecidableEq, Repr

/-- How a protected word reads: without error, corrected, or uncorrectable (R175, R176, R220, R321). -/
inductive Ecc where
  | ok | corrected | bad
  deriving DecidableEq, Repr

/-- What the outside does to a lane's hardware while it issues one bundle: the error of the fetch, the bits that have
upset in the words which the two address slots load (0 to 35 of the word, 36 to 42 its check bits), and whether a
residue, parity or duplicate-unit check of the bundle's ops disagrees (R175, R176, R195, R196, R220). -/
structure LaneHw where
  fetch : Ecc := .ok
  x : List Nat := []
  y : List Nat := []
  mismatch : Bool := false
  deriving DecidableEq, Repr

/-- A bundle without any error. -/
def LaneHw.clean : LaneHw := {}

/-- One line moved by a cluster's transfer unit (R168): from region memory to a set of its
positions, or from one position to region memory. -/
structure Transfer where
  toLanes : Bool
  regionLine : Nat
  positions : List Nat
  laneAddr : Nat
  /-- How the read of a line of region memory goes (R321), and the bits that have upset in a line of lane memory: word
  of the line and bit (R175, R176). -/
  read : Ecc := .ok
  flips : List (Nat × Nat) := []
  deriving DecidableEq, Repr

/-- The lane whose wait on an import line ends, and what its hardware meets in the bundle that waited (R183). -/
structure WaitEnd where
  p : Nat
  hw : LaneHw := {}
  deriving DecidableEq, Repr

/-- The bundles that each fill of a cluster's instruction memory gets wrong: the reload after a memory test, and the one
more after a mismatch (R238, R310). -/
structure MemFills where
  first : List (Nat × BitVec 64) := []
  second : List (Nat × BitVec 64) := []
  deriving DecidableEq, Repr

/-- What a plan load meets: the bits that come out wrong in each fill of an instruction memory (cluster, bundle, bits),
and whether the supply monitor of each compute die reads good (R235, R237, R335, R899). -/
structure LoadEnv where
  upsets : List (Nat × Nat × BitVec 64) := []
  rail0 : Bool := true
  rail1 : Bool := true
  deriving DecidableEq, Repr

/-- How a target ends a transaction: with an error or not, and the upset bits of a read of DRAM (R732, R769). -/
structure RespEnd where
  error : Bool := false
  flips : List (Nat × Nat) := []
  deriving DecidableEq, Repr

/-- The sender that a frame names, and the VLAN ID of the frame's tag, 0 for an untagged frame (R516). -/
structure NetHost where
  addr : Nat
  vid : Nat := 0
  deriving DecidableEq, Repr

/-- The sense data of one channel for one tick, as the feed of R639 holds them: the densities of ISNS that the
decimation of R614 gives, in 2^-24. -/
structure ChanFeed where
  ch : Nat
  isns : List Nat := []
  deriving DecidableEq, Repr

/-- What a tick boundary meets outside the node's own state: the destinations whose release buffer
is not staged (route entries), the sources whose samples the die-links have not delivered into the input block of the
frame that ends (R35), the sense feeds, the groups of corrected sentinel memory reads, the servo's phase
offset in ns, and whether AUTH_IN was low for the whole preceding tick. -/
structure FlipEnv where
  unstaged : List Nat := []
  lost : List Nat := []
  feeds : List ChanFeed := []
  sentCe : List Nat := []
  theta : Option Int := none
  authInLow : Bool := true
  deriving DecidableEq, Repr

/-- What the outside does to a frame at its finish line (R49, R321 to R323): clusters whose promotion or mirror is
not done, upsets of staged samples (die, route entry, sample, change), whether each die staged its block,
uncorrectable die-link transfers by die, and the region reads for the release blocks that were
uncorrectable (die, route entry) or corrected. [DEDUCED, log 75] -/
structure FinishEnv where
  overruns : List Nat := []
  upsets : List (Nat × Nat × Nat × Int) := []
  staged0 : Bool := true
  staged1 : Bool := true
  linkUe0 : Bool := false
  linkUe1 : Bool := false
  regionUe : List (Nat × Nat) := []
  regionCe : Nat := 0
  deriving DecidableEq, Repr

/-- The doorbell page (Table 14.2): producer and consumer indices as read. -/
structure Doorbells where
  cmd : List Nat
  cpl : List Nat
  evt : Nat
  deriving DecidableEq, Repr

/-- The kernels of Table 3.2 with their allocation, and custom kernels with what they declare: F, P, lane words,
and the place of their signed object in the image (R125, R222, R234). -/
inductive Kernel where
  | gain | highPass
  | biquad (double : Bool)
  | fir (taps : Nat) (double : Bool)
  | delay (dmax : Nat)
  | delayDram
  | column (rows : Nat)
  | columnRamp (rows : Nat)
  | rmsLimiter | peakLimiter | meter | blend
  | custom (f p words object : Nat)
  deriving DecidableEq, Repr

/-- One kernel instance of a plan (R124 to R126, R258, R261): its logical lane (cluster x 8 + k), its kernel, the
objects it serves (class x 65,536 + index), and the lane where the plan places its copy in a new graph (R966). -/
structure Inst where
  lane : Nat
  kernel : Kernel
  objs : List Nat
  copy : Nat := lane
  deriving DecidableEq, Repr

/-- The allocation of a parameter object (R125): delay, FIR, biquad slots and row span. -/
structure Alloc where
  cls : Nat
  index : Nat
  dmax : Nat := 0
  dram : Bool := false
  firTaps : Nat := 0
  firDouble : Bool := false
  slots : Nat := 0
  doubleSlots : List Nat := []
  spanFirst : Nat := 0
  span : Nat := 0
  deriving DecidableEq, Repr

/-- A line of a transfer list (R168, R971): its cycle from the start of the pass, whether it goes from region memory
to the lane, the region line and the lane memory line. -/
structure Xfer where
  cycle : Nat
  toLane : Bool
  regionLine : Nat
  laneLine : Nat
  deriving DecidableEq, Repr

/-- An instance that a lane runs, in the order of its main schedule (R208, R260): the plan's instance, its kernel table
entry, the lane address of its descriptor, and whether it is the copy that a new graph runs (R966). -/
structure RunRef where
  inst : Nat
  kern : Nat
  desc : Nat
  copy : Bool := false
  deriving DecidableEq, Repr

/-- What a plan fixes for one logical lane beside its memory (R182, R258, R971): the state window, the first bundle
and descriptor list of the main schedule, the instances in its order, the transfer lists of the main pass, of each
source's cone and of each lane's fault cone, the addresses of the descriptor lists of those cones (R188), the first
region word of each export (S words each), the words that hold no kernel instance, and the lane addresses of parameter
words, as topcoat and in the shadow allocations, by item key (R328, R384, R400). -/
structure LaneSched where
  sb : Nat := 0
  sn : Nat := 0
  start : Nat := 0
  descs : Nat := 0
  runs : List RunRef := []
  xfers : List Xfer := []
  coneXfers : List (Nat × List Xfer) := []
  faultXfers : List (Nat × List Xfer) := []
  coneDescs : List (Nat × Nat) := []
  faultDescs : List (Nat × Nat) := []
  exports : List Nat := []
  other : Nat := 0
  params : List (Nat × Nat) := []
  shadow : List (Nat × Nat) := []
  deriving DecidableEq, Repr

/-- One lane's work in a variant of an alternate schedule: the logical lane that does it, the end of its work, its
first bundle, descriptor list, instances in order, and transfer list. [DEDUCED, log 26] -/
structure AltLane where
  lane : Nat
  finish : Nat
  start : Nat := 0
  descs : Nat := 0
  runs : List RunRef := []
  xfers : List Xfer := []
  deriving DecidableEq, Repr

/-- Words that an entry transfer moves from a checkpoint image of the cluster to an absorbing lane's memory, and the
exit transfer back (R316, R317). -/
structure ImageMove where
  lane : Nat
  addr : Nat
  words : Nat
  toLane : Nat
  toAddr : Nat
  deriving DecidableEq, Repr

/-- An alternate schedule of one cluster (R313, R317, R397): its three variants, the crossfade variant of each,
what its transfers move, and the lane on which each of the cluster's instances runs. [DEDUCED, log 26] -/
structure AltSched where
  cluster : Nat
  entry : List AltLane := []
  steady : List AltLane := []
  exit : List AltLane := []
  entryX : List AltLane := []
  steadyX : List AltLane := []
  exitX : List AltLane := []
  moves : List ImageMove := []
  place : List (Nat × Nat) := []
  deriving DecidableEq, Repr

/-- An undercoat item (Table 7.1). -/
structure Item where
  kind : Nat
  cls : Nat
  index : Nat
  offset : Nat
  value : Nat
  deriving DecidableEq, Repr

/-- A kernel table entry (R216): its first bundle, its kernel, and its descriptor's length. -/
structure KernEntry where
  entry : Nat
  kernel : Kernel
  dlen : Nat
  deriving DecidableEq, Repr

/-- The code of one cluster in a plan image (R235, R216). -/
structure ClusterCode where
  cluster : Nat
  bundles : List (BitVec 64)
  kernels : List KernEntry
  crc : Word
  deriving DecidableEq, Repr

/-- The memory image of one logical lane (R235 step 6) and what the plan fixes for it. -/
structure LaneImage where
  lane : Nat
  words : List (Nat × Word36)
  sched : LaneSched := {}
  deriving DecidableEq, Repr

/-- An item of a release block (R323): a destination's samples, a transmit context's packet, or a side-effect port
of a logical lane. -/
inductive RelItem where
  | dest (entry : Nat)
  | packet (context : Nat)
  | port (lane : Nat) (port : Nat)
  deriving DecidableEq, Repr

/-- Where a region's input block holds the S samples of a source (R24, R246). -/
structure InMap where
  src : Nat
  region : Nat
  word : Nat
  deriving DecidableEq, Repr

/-- A plan image: every item of R971.  The byte layout is Finmir's own, so the items stand here as
plain data; `crc` is the image's CRC-32C. [DEDUCED, log 34] -/
structure PlanImage where
  format : Nat := 1
  crc : Word := 0
  mode : Nat := 1
  len : Nat := 1
  rate : Nat := 1
  ins : Nat := 0
  outs : Nat := 0
  parts : List (Nat × Nat) := []
  caps : List (Nat × Nat) := []
  mains : List (Nat × Nat) := []
  insts : List Inst := []
  exports : List (Nat × Nat) := []
  cones : List (Nat × List Nat) := []
  faultCones : List (Nat × List Nat) := []
  changeCones : List (Nat × List Nat) := []
  allocs : List Alloc := []
  alts : List AltSched := []
  items : List Item := []
  code : List ClusterCode := []
  images : List LaneImage := []
  custom : List (List Byte) := []
  sinks : List (Nat × Nat × Bool) := []
  inputs : List InMap := []
  blockOrder : List RelItem := []
  slack : List (Nat × Nat × Nat) := []
  minRate : Nat := 0
  deriving DecidableEq, Repr

/-- The header extension of an authenticated stream packet, as its bytes spell it (Table 10.6). -/
structure AuthExt where
  ver : Nat
  keyId : Nat
  ctr : Nat
  tag : Nat
  deriving DecidableEq, Repr

/-- A received RTP packet, its Ethernet and IP fields and its raw RTP bytes (R541 to R546, R560). -/
structure Packet where
  port : Nat
  src : Nat
  dst : Nat
  udp : Nat
  ipLen : Nat
  rtp : Nat
  seq : Nat
  ssrc : Nat
  pt : Nat
  payload : List Byte
  raw : List Byte := []
  /-- VLAN ID of the frame's tag, 0 for an untagged frame (R516). -/
  vid : Nat := 0
  deriving DecidableEq, Repr

/-- The class of a frame at the switch (Table 10.1, R522). -/
inductive FrameKind where
  | unicast | broadcast | multicast | ptp | badFcs
  deriving DecidableEq, Repr

/-- A frame at an external port of the switch (R518 to R524). [DEDUCED, log 52] -/
structure NetFrame where
  port : Nat
  kind : FrameKind
  src : Nat
  dst : Nat
  ipLen : Nat
  dscp : Nat := 0
  pcp : Nat := 0
  /-- Whether the frame is an IGMP query, by which a multicast router shows itself (Table 10.1). -/
  query : Bool := false
  deriving DecidableEq, Repr

/-- The kinds of PTP message that the rules name (R441, R442, R446 to R451). -/
inductive PtpKind where
  | sync | followUp | delayReq | delayResp | pdelayReq | pdelayResp | pdelayRespFollowUp
  | announce | management | signaling
  deriving DecidableEq, Repr

/-- A PTP message at a port, with its AUTHENTICATION TLV where it carries one: SPP, key ID, ICV.
`origin` is its timestamp field in ns (t1 of a Sync or Follow_Up, t4 of a Delay_Resp, t2 of a
Pdelay_Resp), `origin2` the t3 of a Pdelay_Resp_Follow_Up, `correction` the correctionField in 2^-16 ns,
`ingress` and `egress` its raw timestamps in ns.  `sender` and `requester` are its sourcePortIdentity and its
requestingPortIdentity, `seq` its sequenceId, and from `clockClass` on stand the fields of an Announce.  `raw` is what the
message's ICV covers, `frame` the Ethernet frame without its FCS, in which the message stands from byte `at_` on, behind a
UDP header where `udp` says so; `vid` is the VLAN ID of the frame's tag, 0 for none.
[DEDUCED, log 52] [PRESUMED, log 69] -/
structure PtpMsg where
  port : Nat
  kind : PtpKind
  domain : Nat
  origin : Int := 0
  origin2 : Int := 0
  correction : Int := 0
  ingress : Int := 0
  egress : Int := 0
  twoStep : Bool := false
  clockClass : Nat := 248
  clockAccuracy : Nat := 254
  variance : Nat := 65535
  prio1 : Nat := 128
  prio2 : Nat := 128
  gm : Nat := 0
  steps : Nat := 0
  utc : Int := 0
  sender : Nat := 0
  requester : Nat := 0
  seq : Nat := 0
  tlv : Option (Nat × Nat × Nat) := none
  raw : List Byte := []
  frame : List Byte := []
  at_ : Nat := 0
  udp : Bool := true
  vid : Nat := 0
  deriving DecidableEq, Repr

/-- An Ouvfel frame as received (Table 6.3), with the CRC it carries. -/
structure OuvFrame where
  type : Nat
  flags : Nat
  seq : Nat
  tick : Nat
  payload : List Byte
  crc : Word
  /-- Whether the node that sends it is the secondary of a pair: no field of the frame carries its role (R339).
  [DEDUCED, log 31] -/
  secondary : Bool := true
  deriving DecidableEq, Repr

/-- Which reset of the host link (R679). -/
inductive LinkReset where
  | functionLevel | hot | perst | linkLoss
  deriving DecidableEq, Repr

/-- The cause of an IOD reset (R903, R907): the bits of SYS.RSTCAUSE. -/
inductive ResetCause where
  | pin | watchdog | lockstep | soft
  deriving DecidableEq, Repr

/-- What start-up meets outside the state (R753, R858 to R861, R890, R893): whether the boot ROM's own
tests and the security engine's known-answer tests passed, whether the KEK is valid, VBAT in 10 mV, the
two compute-die monitors, the board record's DRAM settings (`DRAM.CFG`), and the two scene directory copies.
[DESIGN CHOICE, log 83] -/
structure BootEnv where
  romOk : Bool := true
  cryptoOk : Bool := true
  kekOk : Bool := true
  vbat : Nat := 300
  cd0Ok : Bool := true
  cd1Ok : Bool := true
  dramCfg : Word := 0x3C#32
  /-- Whether the CRC of each scene directory copy stands (R407). -/
  dir0 : Bool := true
  dir1 : Bool := true
  /-- Ball OSCSEL, which power-on reset samples (R498). -/
  oscsel : Bool := false
  deriving DecidableEq, Repr

/-- A window measurement of the pilot (R660, R661): amplitudes in 0.1 mV and 0.1 mA, the phases of V and I in
0.01 degrees, and whether the programme's level near the pilot lay at least 20 dB below it. -/
structure PilotWindow where
  ch : Nat
  vAmp : Nat
  iAmp : Nat
  vArg : Int
  iArg : Int
  quiet : Bool
  deriving DecidableEq, Repr

/-- A fabric transaction (R729). -/
structure BusReq where
  master : Nat
  id : Nat
  write : Bool
  addr : Nat
  data : List Byte
  strobes : List Bool
  len : Nat
  qos : Nat
  deriving DecidableEq, Repr

/-- One sweep of a byte lane in training (R752, R753): channel, lane, set, and the taps at which reads and writes
pass, tap k as bit k; a later sweep of the same lane is a further attempt. -/
structure TrainLane where
  ch : Nat
  lane : Nat
  set : Nat
  rPass : Nat
  wPass : Nat
  deriving DecidableEq, Repr

/-- What needs a codeword that does not decode (R815, R836): nothing, a codeword of 4,096 bytes of a file
by its place, or samples of a take: the places of its channels, the first position and how many of each. -/
inductive CwUse where
  | idle
  | file (name : List Byte) (codeword : Nat)
  | take (num : Nat) (places : List Nat) (first : Nat) (count : Nat)
  deriving DecidableEq, Repr

/-- What a tracking burst measures of one byte lane (R755 to R757): the two edges of its read window and of
its write window, in taps. -/
structure TrackLane where
  rLo : Nat
  rHi : Nat
  wLo : Nat
  wHi : Nat
  deriving DecidableEq, Repr

/-- A DMA descriptor as fetched (Table 16.1). -/
structure DmaDesc where
  src : Nat
  dst : Nat
  chka : Nat
  count : Nat
  ctl : Nat
  rsvd : Nat
  link : Nat
  deriving DecidableEq, Repr

/-- The commands: one constructor per row of the table, its docstring the row's summary. [DEDUCED, log 7] -/
inductive Instr where
  /-- TICK_BOUNDARY (R13): The local time reaches the tick boundary T(n), and all work fixed to that boundary begins. -/
  | tickBoundary (e : FlipEnv)
  /-- INTAKE_CUTOFF (R24): At T(n+1) - 2.0 us the input block of frame n is built and sent over the die-links. -/
  | intakeCutoff
  /-- EDDY_DEADLINE (R29): The eddy window closes, and the concealment state of frame n is fixed. -/
  | eddyDeadline
  /-- FINISH_LINE (R31): At T(n+2) - 4.0 us all lane work for frame n ends. -/
  | finishLine (e : FinishEnv)
  /-- DELAY_PREFETCH_MISS (R35): A DRAM delay-line prefetch that has not finished by T(n+1) repeats the last sample and is counted. -/
  | delayPrefetchMiss (die : Nat) (cluster : Nat)
  /-- DELAY_WRITE_MISS (R36): A DRAM delay-line write that has not finished by T(n+3) is logged. -/
  | delayWriteMiss
  /-- RECORDING_GAP (R831): A frame not handed to the recording engine by T(n+3) sets its gap bit. -/
  | recordingGap
  /-- SENTINEL_FEED_MISS (R668): A sentinel that has not finished a feed by T(n+3) holds F, and the miss is counted. -/
  | sentinelFeedMiss (g : Nat)
  /-- BUNDLE_ISSUE (R200): A lane issues one 64-bit bundle, and its four slots act in the same cycle. -/
  | bundleIssue (p : Nat) (hw : LaneHw)
  /-- KEND_OVERDUE (R212): KEND has not issued 64 cycles after the expected count, so the lane raises a CYCLE fault. -/
  | kendOverdue (p : Nat)
  /-- TRANSFER_LINE (R168): The transfer unit moves a line between region memory and lane memories at its scheduled cycle. -/
  | transferLine (c : Nat) (x : Transfer)
  /-- IMPORT_WAIT_END (R183): A load waiting on an import line resumes when the line's ready bit is set. -/
  | importWaitEnd (w : WaitEnd)
  /-- EDDY_PASS_ADMISSION (R265): The arbiter places a late packet's pass and admits or refuses it against reserves and the finish line. -/
  | eddyPassAdmission
  /-- FAULT_REPLAY_ADMISSION (R282): The arbiter decides a fault replay request on the spare. -/
  | faultReplayAdmission
  /-- EDDY_PASS_RUN (R260): A lane part of an admitted pass starts at its placed time and runs the cone instances. -/
  | eddyPassRun
  /-- LANE_SELFTEST_END (R301): A 20 ms lane self-test ends, and the position becomes a spare, retests or is retired. -/
  | laneSelftestEnd (p : Nat) (pass : Bool)
  /-- SPARE_ROTATION (R305): Once per rotation period, a cluster moves a logical lane onto its spare. -/
  | spareRotation (c : Nat)
  /-- CLUSTER_MEMORY_TEST_END (R310): The 25 ms cluster memory test ends, and instruction memory is reloaded and checked. -/
  | clusterMemoryTestEnd (c : Nat) (pass : Bool) (fills : MemFills)
  /-- REBUILD_COMPLETE (R329): A rebuild ends, and the rebuilt die rejoins from the source die's tick-start state. -/
  | rebuildComplete
  /-- REBUILD_TIMEOUT (R330): A rebuild has not ended within 64 ticks, so the rebuilt die goes out. -/
  | rebuildTimeout (linkUe : Bool)
  /-- DIE_RELOAD_COMPLETE (R969): A die reload ends, and the die is rebuilt or restarts from the initial state. -/
  | dieReloadComplete (die : Nat) (ok : Bool)
  /-- COMPUTE_DIE_SUPPLY_TRIP (R899): A compute-die supply monitor trips, and that die goes out. -/
  | computeDieSupplyTrip (die : Nat)
  /-- SUPPLY_MONITOR_TRIP (R897): A monitor trips on a group 1-4 rail; outputs go off and MRAM writes stop. -/
  | supplyMonitorTrip (rail : Nat)
  /-- LAUNCH (R386): At T(L) the committed undercoat becomes the topcoat, and feathers and crossfades begin. -/
  | launch
  /-- PRIMING_START (R385): Shadow priming of the new graph begins at the first boundary after the shadow move ends. -/
  | primingStart
  /-- CROSSFADE_END (R388): At T(L+X+1) the transaction leaves the launching slot, and the old graph's instances stop. -/
  | crossfadeEnd
  /-- COLLECTION_COMMIT (R393): At the first boundary with the launching slot IDLE and the grid set, a collection is validated and committed. -/
  | collectionCommit
  /-- ZERO_CROSSING (R92): A waiting mute or unmute applies on the zero-crossing sample. -/
  | zeroCrossing (i : Nat) (k : Nat)
  /-- ZC_TIMEOUT (R94): No zero crossing occurred within the timeout, so the change starts as a feather. -/
  | zcTimeout (i : Nat)
  /-- DESCRIPTOR_FETCH (R693): The KN9640 fetches command descriptors for the rings in QoS order. -/
  | descriptorFetch (r : Nat) (descs : List RawDesc)
  /-- DOORBELL_POLL (R688): Once per tick the doorbell page is read, and the indices are applied. -/
  | doorbellPoll (page : Doorbells)
  /-- NUDGE (R689): A NUDGE write applies one ring index at once and triggers a fetch. -/
  | nudge (value : Word)
  /-- FETCH_DEADLINE (R720): A fetch deadline passes; the command ends with IO_ERROR or the ring halts. -/
  | fetchDeadline (r : Nat) (kind : FetchKind) (error : Bool)
  /-- PCIE_COMPLETION_TIMEOUT (R719): A PCI Express request times out and is retried once within the fetch deadline. -/
  | pcieCompletionTimeout (r : Nat) (kind : FetchKind)
  /-- CPL0_COMPLETION_DRAIN (R709): Held CPL0 completions are written in order as entries free. -/
  | cpl0CompletionDrain
  /-- EVENT_QUEUE_DRAIN (R725): Queued events are written when EVT has room, led by an events-lost event. -/
  | eventQueueDrain
  /-- HOST_LINK_RESET (R679): A function level, hot or PERST_N reset or a link loss resets the host interface alone. -/
  | hostLinkReset (kind : LinkReset)
  /-- RING_ENABLE (R687): Writing 1 to a ring pair's EN zeroes its indices and enables it. -/
  | ringEnable (q : Requester) (r : Nat) (value : Word)
  /-- RING_DISABLE (R964): Writing 0 to a ring pair's EN stops it and abandons fetched descriptors. -/
  | ringDisable (q : Requester) (r : Nat) (value : Word)
  /-- EVENT_RING_ENABLE (R687): Writing 1 to HOST.EVCFG.EN resets the event ring's indices and enables it. -/
  | eventRingEnable (q : Requester) (value : Word)
  /-- EVENT_RING_DISABLE (R964): Writing 0 to HOST.EVCFG.EN makes events wait in the queue. -/
  | eventRingDisable (q : Requester) (value : Word)
  /-- HOST_LOCK (R715): Setting HOST.CTRL.LOCK with REQ at 1 blocks all BAR0 writes outside HOST. -/
  | hostLock (q : Requester) (value : Word)
  /-- BLOCK_LOCK (R934): Setting a block lock bit locks that block's LK fields until reset. -/
  | blockLock (q : Requester) (offset : Nat) (value : Word)
  /-- COUNTER_CLEAR (R931): Writing 1 to a block's CLR_CNT clears the counters that the block names. -/
  | counterClear (q : Requester) (offset : Nat) (value : Word)
  /-- REGISTER_WRITE (R8): A write to a register that has no row of its own acts by field type. -/
  | registerWrite (q : Requester) (offset : Nat) (size : Nat) (value : Word)
  /-- SH_REGISTER_WRITE (R936): A write to SH fields becomes a register item in the open undercoat or a collection. -/
  | shRegisterWrite (q : Requester) (offset : Nat) (value : Word)
  /-- ROUTE_WINDOW_LOW_WRITE (R81): A low-word write to the route window replaces the pending low word. -/
  | routeWindowLowWrite (q : Requester) (i : Nat) (value : Word)
  /-- ROUTE_WINDOW_HIGH_WRITE (R81): A high-word or 64-bit route window write combines into a full entry item. -/
  | routeWindowHighWrite (q : Requester) (i : Nat) (wide : Bool) (low : Word) (value : Word)
  /-- SESSION_EXPIRY (R714): A session ends when the local time reaches NOTAFTER. -/
  | sessionExpiry (n : Nat)
  /-- SESSION_OPEN (R712): Verifies a role token and derives a session key. -/
  | sessionOpen (d : Desc)
  /-- SESSION_CLOSE (R714): Ends a session. -/
  | sessionClose (d : Desc)
  /-- WRITE_ITEMS (R708): Applies buffered undercoat items in order, stopping at the first failure. -/
  | writeItems (d : Desc)
  /-- REG_WRITE (R707): A masked write to a BAR0 register through a ring. -/
  | regWrite (d : Desc)
  /-- PLAN_LOAD (R235): Verifies, stops the engine, and loads a plan image into the clusters. -/
  | planLoad (d : Desc) (img : PlanImage)
  /-- PLAN_LOAD_COMPLETE (R237): The plan load finishes its CRC checks and sets TICK.CFG.PLAN, or leaves no plan. -/
  | planLoadComplete (env : LoadEnv)
  /-- TXN_BEGIN (R371): Opens an empty undercoat in the open slot. -/
  | txnBegin (d : Desc)
  /-- TXN_PREPARE (R374): Validates and budgets the undercoat and reports the earliest launch tick. -/
  | txnPrepare (d : Desc)
  /-- TXN_COMMIT (R382): Moves the prepared undercoat to the launching slot for launch T(L). -/
  | txnCommit (d : Desc)
  /-- TXN_ROLLBACK (R390): Discards an open or committed transaction before T(L-1). -/
  | txnRollback (d : Desc)
  /-- SCENE_STORE (R408): Writes the prepared undercoat to an MRAM scene slot. -/
  | sceneStore (d : Desc)
  /-- SCENE_RECALL (R412): Adds a scene slot's items to the undercoat. -/
  | sceneRecall (d : Desc)
  /-- SCENE_ERASE (R411): Clears a scene slot's directory entry. -/
  | sceneErase (d : Desc)
  /-- STREAM_OPEN (R529): Checks a receive or transmit context and schedules its opening. -/
  | streamOpen (d : Desc)
  /-- STREAM_OPEN_EFFECT (R535): At T(k) an accepted context opens, and its channels' concealment resets. -/
  | streamOpenEffect (tx : Bool) (i : Nat)
  /-- STREAM_CLOSE (R536): Schedules the closing of a stream context. -/
  | streamClose (d : Desc)
  /-- STREAM_CLOSE_EFFECT (R536): At T(k) the context's channels fade and are unmapped, or its transmission ends. -/
  | streamCloseEffect (tx : Bool) (i : Nat)
  /-- STREAM_STAT (R565): Returns a stream record, optionally clearing its counters. -/
  | streamStat (d : Desc)
  /-- TIME_SET (R420): Sets the time of day for a step with no PTP or partner slot. -/
  | timeSet (d : Desc)
  /-- RE_EPOCH (R431): Schedules a step of the local time at a tick boundary T(k). -/
  | reEpoch (d : Desc)
  /-- RE_EPOCH_STEP (R432): At T(k) the local time steps, frames are discarded and destinations ramp back. -/
  | reEpochStep (refTime : Nat)
  /-- REALIGN (R507): Schedules the realignment of clock outputs at T(k). -/
  | realign (d : Desc)
  /-- REALIGN_APPLY (R508): At T(k) the named outputs lengthen one period onto their aligned positions. -/
  | realignApply
  /-- REF_HISTORY (R706): Returns the 1,024-entry holdover history. -/
  | refHistory (d : Desc)
  /-- DIE_RESET (R333): Resets and reloads one compute die. -/
  | dieReset (d : Desc)
  /-- AUTH_HANDOVER (R358): Schedules an authority hand-over at T(m) and sends HANDOVER. -/
  | authHandover (d : Desc)
  /-- HANDOVER_BOUNDARY (R359): At T(m) the releasing node drops AUTH_OUT and the taking node raises it. -/
  | handoverBoundary
  /-- ALLSTOP (R631): The CMD0 hardware decoder starts a feathered or hard stop of the named groups. -/
  | allstop (d : Desc)
  /-- ALLSTOP_RELEASE (R633): Ends every all-stop in force and restarts the groups with a release ramp. -/
  | allstopRelease (d : Desc)
  /-- SC_CLEAR (R627): Clears a channel's retry history and starts a probe at once. -/
  | scClear (d : Desc)
  /-- SENSE_CAL (R636): Requests a sense-path offset calibration of a channel. -/
  | senseCal (d : Desc)
  /-- SENSE_CALIBRATION (R637): Measures the ISNS and VSNS offsets once the channel is quiet, or at once with FORCE. -/
  | senseCalibration (n : Nat) (iOfs : Int) (vOfs : Int)
  /-- SENSE_CAL_TIMEOUT (R636): The SENSE_CAL wait expires without calibration, and the command completes DEFERRED. -/
  | senseCalTimeout (n : Nat)
  /-- SENT_SET (R641): Checks and stores a sentinel channel record. -/
  | sentSet (d : Desc)
  /-- SENT_SET_EFFECT (R641): The stored record takes effect at its step instant. -/
  | sentSetEffect (n : Nat)
  /-- SENT_STAT (R673): Returns a sentinel status record. -/
  | sentStat (d : Desc)
  /-- Z_CAPTURE (R663): Captures the mean of 10 valid windows as the impedance reference. -/
  | zCapture (d : Desc)
  /-- Z_CAPTURE_TIMEOUT (R663): No 10 valid windows within 30 s, so Z_CAPTURE completes DEFERRED. -/
  | zCaptureTimeout (n : Nat)
  /-- SENT_RESTART (R671): Restarts a sentinel that is down. -/
  | sentRestart (d : Desc)
  /-- SELFTEST_LANES (R309): Requests a spare rotation and self-test in a cluster. -/
  | selftestLanes (d : Desc)
  /-- SELFTEST_CLUSTER_MEMORY (R311): Requests a test of a cluster's instruction and checkpoint memory. -/
  | selftestClusterMemory (d : Desc)
  /-- DRAM_FULL_RETRAIN (R758): Retrains both DRAM timing sets at quiesce. -/
  | dramFullRetrain (d : Desc)
  /-- DRAM_FREQUENCY_CHANGE (R759): Requests a change to DRAM timing set A or B. -/
  | dramFrequencyChange (d : Desc)
  /-- FREQUENCY_CHANGE (R761): In a slack window, DRAM switches timing sets through self-refresh. -/
  | frequencyChange
  /-- FREQUENCY_CHANGE_TIMEOUT (R760): No slack window within 100 ms, so the change completes DEFERRED. -/
  | frequencyChangeTimeout
  /-- PLAN_UNLOAD (R918): Stops the engine with no new plan and enters IDLE. -/
  | planUnload (d : Desc)
  /-- STANDBY (R919): Enters STANDBY from IDLE at quiesce. -/
  | standby (d : Desc)
  /-- WAKE (R920): Leaves STANDBY within 50 ms. -/
  | wake (d : Desc)
  /-- METER (R160): Returns a meter record. -/
  | meter (d : Desc)
  /-- TAP_CAPTURE (R704): Captures consecutive samples of a monitoring tap. -/
  | tapCapture (d : Desc)
  /-- OBJ_READ (R705): Returns topcoat parameter words of an object. -/
  | objRead (d : Desc)
  /-- REC_ARM (R829): Arms a take, checking bandwidth. -/
  | recArm (d : Desc)
  /-- REC_START (R830): Schedules the start of the take at T(k). -/
  | recStart (d : Desc)
  /-- RECORDING_START (R830): At T(k) the take begins holding frames. -/
  | recordingStart
  /-- REC_STOP (R830): Schedules the end of the take. -/
  | recStop (d : Desc)
  /-- RECORDING_STOP (R830): At the stop boundary the take ends. -/
  | recordingStop
  /-- PLAY_OPEN (R834): Maps take channels to playback channels and fills the 500 ms lead. -/
  | playOpen (d : Desc)
  /-- PLAY_START (R835): Schedules playback from take position p0 at T(k). -/
  | playStart (d : Desc)
  /-- PLAYBACK_START (R835): At T(k) playback samples take their presentation times. -/
  | playbackStart (n : Nat)
  /-- PLAY_STOP (R848): Stops a playback session at a named time. -/
  | playStop (d : Desc)
  /-- PLAYBACK_LEAD_EXHAUSTED (R837): The playback lead runs out, and the missing samples fade. -/
  | playbackLeadExhausted (n : Nat) (samples : Nat) (cite : Option Nat)
  /-- TAKE_LIST (R848): Lists the takes. -/
  | takeList (d : Desc)
  /-- TAKE_DELETE (R838): Deletes a take. -/
  | takeDelete (d : Desc)
  /-- STORE_FORMAT (R817): Formats the NAND store, building the bad-block table and spare pool. -/
  | storeFormat (d : Desc) (good : Nat) (bad : List Nat) (mib : Nat)
  /-- FILE_WRITE (R840): Writes one piece of a pending file version. -/
  | fileWrite (d : Desc)
  /-- FILE_READ (R848): Reads from a file. -/
  | fileRead (d : Desc)
  /-- FILE_DELETE (R848): Deletes a file. -/
  | fileDelete (d : Desc)
  /-- FILE_LIST (R848): Lists the files. -/
  | fileList (d : Desc)
  /-- PENDING_VERSION_TIMEOUT (R841): A pending version without a piece for 600 s is discarded. -/
  | pendingVersionTimeout (name : List Byte)
  /-- LOG_READ (R854): Returns silt log entries from a sequence number. -/
  | logRead (d : Desc)
  /-- LOG_EXPORT (R855): Exports a signed silt log. -/
  | logExport (d : Desc)
  /-- FW_STAGE (R841): Stages a piece of a firmware image as a file. -/
  | fwStage (d : Desc)
  /-- FW_INSTALL (R844): Verifies a staged image and writes it into the slot that did not boot. -/
  | fwInstall (d : Desc)
  /-- FW_STATUS (R848): Returns both install records. -/
  | fwStatus (d : Desc)
  /-- SCENE_IMPORT (R880): Checks a signed scene or show file and recalls a record into the undercoat. -/
  | sceneImport (d : Desc)
  /-- SCENE_EXPORT (R881): Writes an undercoat or scene slot as a signed scene file. -/
  | sceneExport (d : Desc)
  /-- KEY_IMPORT (R872): Imports a key of classes 1 to 4 into the key store. -/
  | keyImport (d : Desc)
  /-- KEY_DELETE (R876): Deletes a key. -/
  | keyDelete (d : Desc)
  /-- KEY_GEN (R874): Generates a class 5 recording key. -/
  | keyGen (d : Desc)
  /-- KEY_ACTIVATE (R875): Sets a stream key set's active transmit key ID. -/
  | keyActivate (d : Desc)
  /-- KEY_LIST (R871): Lists the stored keys. -/
  | keyList (d : Desc)
  /-- SVN_COMMIT (R866): Raises an anti-rollback counter. -/
  | svnCommit (d : Desc)
  /-- TOKEN_GEN (R877): Raises the token generation counter and closes older sessions. -/
  | tokenGen (d : Desc)
  /-- DEVID_CERT (R868): Returns the device identity certificate. -/
  | devidCert (d : Desc)
  /-- TAMPER_CLEAR (R886): Clears the tamper latch bits. -/
  | tamperClear (d : Desc) (levels : Nat)
  /-- ZEROISE (R889): Erases the KEK and key store and closes every session. -/
  | zeroise (d : Desc)
  /-- DEBUG_CHALLENGE (R888): Returns a debug-unlock challenge. -/
  | debugChallenge (d : Desc)
  /-- DEBUG_UNLOCK (R889): Verifies Finmir's signature, erases secrets and opens debug. -/
  | debugUnlock (d : Desc)
  /-- PACKET_RECEIVE (R541): The intake checks, merges and classes a received stream packet. -/
  | packetReceive (p : Packet)
  /-- ARP_REQUEST (R514): The port answers an ARP request for its address. -/
  | arpRequest (port : Nat) (target : Nat) (sender : NetHost)
  /-- ICMP_ECHO_REQUEST (R514): The port answers an ICMP echo request. -/
  | icmpEchoRequest (port : Nat) (target : Nat) (sender : NetHost) (payload : List Byte)
  /-- IGMP_REPORT (R521): IGMPv3 snooping registers a multicast group. -/
  | igmpReport (port : Nat) (group : Nat)
  /-- FRAME_FORWARD (R520): The switch forwards a frame within its bridge group. -/
  | frameForward (f : NetFrame)
  /-- EGRESS_FRAME_START (R522): An egress port starts the next frame from its strict-priority queues. -/
  | egressFrameStart (port : Nat)
  /-- FDB_AGEING (R520): A learned address ages out. -/
  | fdbAgeing (group : Nat) (mac : Nat)
  /-- LINK_STATE_CHANGE (R511): A network port's link goes up or down. -/
  | linkStateChange (port : Nat) (up : Bool) (fecLock : Bool)
  /-- STREAM_PATH_DOWN (R547): No packet accepted on a path for 10 ms, so the path is down. -/
  | streamPathDown (i : Nat) (pathB : Bool)
  /-- SLIP_WINDOW_END (R549): A 50 ms margin window ends, and at most one stream slip is made. -/
  | slipWindowEnd (i : Nat)
  /-- LATE_DROP_WINDOW_END (R291): A 1,000 ms window ends, and one event is posted per stream with late drops. -/
  | lateDropWindowEnd
  /-- STREAM_PACKET_LAUNCH (R555): A transmit stream packet leaves at its launch time. -/
  | streamPacketLaunch (i : Nat)
  /-- PACKET_TX_DEADLINE (R556): A stream packet not started by T(n+3) is not sent and is counted as TXMISS. -/
  | packetTxDeadline (i : Nat)
  /-- SWITCH_CONFIG_WRITE (R519): A NET.SW write sets bridge groups unless it would join a 2022-7 pair. -/
  | switchConfigWrite (q : Requester) (value : Word)
  /-- PTPCLK_WRITE (R437): A TIME.PTPCLK write returns every enabled port to INITIALIZING. -/
  | ptpclkWrite (q : Requester) (value : Word)
  /-- PTP_MESSAGE_RECEIVE (R455): A PTP message is received, authenticated and measured. -/
  | ptpMessageReceive (m : PtpMsg)
  /-- DELAY_REQ (R442): A master port answers a Delay_Req or Pdelay_Req, up to 2,048 per second. -/
  | delayReq (m : PtpMsg)
  /-- MANAGEMENT_MESSAGE (R441): Management and signalling messages are forwarded or discarded. -/
  | managementMessage (m : PtpMsg)
  /-- PTP_EVENT_FORWARD (R446): A transparent clock adds residence time to a forwarded event message. -/
  | ptpEventForward (m : PtpMsg) (egressPort : Nat)
  /-- SYNC_TRANSMIT (R449): A port originates a Sync, one-step or two-step. -/
  | syncTransmit (port : Nat) (egress : Int)
  /-- FOLLOW_UP (R451): The precise egress timestamp is sent within 100 us of the event message. -/
  | followUp (port : Nat)
  /-- ANNOUNCE_TRANSMIT (R440): A grandmaster announces its quality. -/
  | announceTransmit (port : Nat)
  /-- FIRST_LOCK_STEP (R423): The local time is stepped once at first lock, and the tick grid starts. -/
  | firstLockStep
  /-- REFERENCE_EDGE (R469): A reference edge is taken as a phase measurement of its slot. -/
  | referenceEdge (slot : Nat) (e : Nat)
  /-- REFERENCE_ACTIVITY_LOSS (R474): No activity for 2 periods, so the slot is disqualified for LOS. -/
  | referenceActivityLoss (slot : Nat)
  /-- FREQUENCY_GATE_END (R475): A 1 s frequency measurement ends and qualifies or disqualifies the slot. -/
  | frequencyGateEnd (slot : Nat) (freq : Int)
  /-- WAIT_TO_RESTORE_END (R476): A slot that stays qualified for WTR becomes selectable. -/
  | waitToRestoreEnd (slot : Nat)
  /-- HOLDOVER_HISTORY_WRITE (R491): Once per second a history entry is written, and the holdover value is recomputed. -/
  | holdoverHistoryWrite
  /-- EVENT_INPUT_EDGE (R456): An edge on an event input is filtered, timestamped, queued and posted. -/
  | eventInputEdge (i : Nat) (falling : Bool) (held : Nat) (atNs : Nat)
  /-- LAUNCH_OUTPUT_ARM (R463): Writing ARM judges and arms a launch output. -/
  | launchOutputArm (q : Requester) (j : Nat) (value : Word)
  /-- LAUNCH_OUTPUT_DISARM (R465): Writing DISARM stops a launch output after the pulse in progress. -/
  | launchOutputDisarm (q : Requester) (j : Nat) (value : Word)
  /-- LAUNCH_OUTPUT_PULSE (R462): The local time reaches the start time, and the output drives its active edge. -/
  | launchOutputPulse (j : Nat)
  /-- LAUNCH_OUTPUT_PULSE_END (R464): The pulse width expires, and any pending rearm is judged. -/
  | launchOutputPulseEnd (j : Nat)
  /-- HEARTBEAT (R344): A HEARTBEAT frame from the partner is received. -/
  | heartbeat (f : OuvFrame)
  /-- PARTNER_LOST (R344): HBMISS ticks without a valid HEARTBEAT, so the partner is lost. -/
  | partnerLost
  /-- CONFIG (R402): A CONFIG set is checked, acknowledged and scheduled for launch. -/
  | config (f : OuvFrame)
  /-- CONFIG_ACK_TIMEOUT (R346): No accepting ACK by T(L)-1, so the partner reads as joining. -/
  | configAckTimeout
  /-- IMAGE (R349): A state image frame is received and applied at the next boundary. -/
  | image (f : OuvFrame)
  /-- STATE_IMAGE_SEND (R348): Every IMGPER the authority node sends a complete state image. -/
  | stateImageSend
  /-- HANDOVER (R358): A HANDOVER frame naming tick m is received and acknowledged. -/
  | handover (f : OuvFrame)
  /-- ACK (R345): An ACK frame is received for a CONFIG or HANDOVER. -/
  | ack (f : OuvFrame)
  /-- HANDOVER_ACK_TIMEOUT (R358): No accepting ACK by T(m)-2, so AUTH_HANDOVER completes REFUSED. -/
  | handoverAckTimeout
  /-- TIME_FRAME (R473): A partner TIME frame yields link delay and phase for slot 9. -/
  | timeFrame (f : OuvFrame) (a2 : Nat)
  /-- AUTH_IN_SAMPLE (R354): 0.5 us after a boundary, a secondary that finds AUTH_IN high drops AUTH_OUT. -/
  | authInSample (level : Bool)
  /-- AUTHORITY_WATCHDOG (R357): No weir flip for TICKS ticks, so AUTH_OUT is driven low. -/
  | authorityWatchdog
  /-- STEWARD_LOCKSTEP_MISMATCH (R904): The steward lockstep fails; AUTH_OUT drops and an IOD reset follows. -/
  | stewardLockstepMismatch (b : BootEnv)
  /-- PORT_START (R591): Writing EN=1 to a serial port starts it after checking its configuration. -/
  | portStart (q : Requester) (p : Nat) (value : Word)
  /-- PORT_STOP (R592): Writing EN=0 mutes the slots and stops the port. -/
  | portStop (q : Requester) (p : Nat) (value : Word)
  /-- MASK_ARM (R574): Writing ARM schedules a slot mask change. -/
  | maskArm (q : Requester) (p : Nat) (value : Word)
  /-- PORT_FRAME (R581): A port frame starts: samples move, mask changes, fades and slips apply, DMA is requested. -/
  | portFrame (p : Nat) (rx : List Word) (fs : Nat)
  /-- SLOT_UNDERRUN (R584): A transmit sample missing 2 us before frame start plays the fading last sample. -/
  | slotUnderrun (p : Nat)
  /-- SAP_LOSS_OF_CLOCK (R587): A slave port with no frame start for 2 periods sets LOS. -/
  | sapLossOfClock (p : Nat)
  /-- SAP_RATE_MEASUREMENT (R588): Every 100 ms a slave port's rate is measured, setting or clearing FREQ. -/
  | sapRateMeasurement (p : Nat) (ppb : Int)
  /-- SLIP_LOG_WINDOW_END (R590): A 1,000 ms window with serial slips ends and writes one entry. -/
  | slipLogWindowEnd (p : Nat)
  /-- GROUP_ENABLE (R618): Writing EN=1 to a stage group checks it and starts it. -/
  | groupEnable (q : Requester) (g : Nat) (value : Word)
  /-- RAIL_QUALIFIED (R619): VRAIL stays within UV to OV for 10 ms, and the group's channels enter BOOT. -/
  | railQualified (g : Nat)
  /-- BOOT_END (R619): The BOOT carrier periods end, and the channels enter RUN with a ramp. -/
  | bootEnd (g : Nat)
  /-- CARRIER_PERIOD (R599): A carrier period starts: rail measured, k computed and limited, edges placed. -/
  | carrierPeriod (g : Nat) (bits : Nat)
  /-- SC_N_FALL (R621): SC_N falls; the channel goes off within 35 ns and latches SC_OFF. -/
  | scNFall (n : Nat)
  /-- PROBE_START (R623): 500 ms after SC_OFF with SC_N high, the channel probes the load. -/
  | probeStart (n : Nat)
  /-- PROBE_RESULT (R625): The probe window ends, and the channel re-arms, enters LOAD_SHORT or repeats. -/
  | probeResult (w : PilotWindow)
  /-- REARM_RAMP_END (R625): The 2 s re-arm ramp ends, and the channel is in RUN. -/
  | rearmRampEnd (n : Nat)
  /-- SC_WAIT_EXPIRY (R626): The oldest retry becomes 60 s old, and the waiting channel probes. -/
  | scWaitExpiry (n : Nat)
  /-- MUTE_N_FALL (R628): MUTE_N falls, and every channel is off within FILT + 15 ns. -/
  | muteNFall (held : Nat)
  /-- MUTE_N_RISE (R630): MUTE_N returns high. -/
  | muteNRise
  /-- PIN_ALLSTOP_END (R630): With LATCH 0, the pin all-stop ends 10 ms after MUTE_N rises. -/
  | pinAllstopEnd
  /-- RAIL_UNDERVOLTAGE (R620): VRAIL below UV for 1 ms fades the group to zero modulation. -/
  | railUndervoltage (g : Nat)
  /-- RAIL_OVERVOLTAGE (R620): VRAIL above OV drives the group off. -/
  | railOvervoltage (g : Nat)
  /-- STAGE_STATUS_FRAME (R616): A stage status frame is checked, and its fault flags act. -/
  | stageStatusFrame (g : Nat) (bits : Word)
  /-- STAGE_STATUS_TIMEOUT (R617): No valid status frame for 10 ms, so STATLOS is set. -/
  | stageStatusTimeout (g : Nat)
  /-- STAGE_FAULT_RESTART (R620): All faults clear for 100 ms, and the group restarts from BOOT. -/
  | stageFaultRestart (g : Nat)
  /-- SENSE_STUCK (R615): A sense bitstream holds one level for 256 bits. -/
  | senseStuck (n : Nat) (stream : Nat)
  /-- SENSE_STUCK_CLEAR (R615): After 1 ms of a changing stream, the stuck bit clears. -/
  | senseStuckClear (n : Nat) (stream : Nat)
  /-- PILOT_WINDOW_END (R660): A 1 s pilot window ends; impedance is reported and load alarms are updated. -/
  | pilotWindowEnd (w : PilotWindow)
  /-- SENTINEL_FAULT (R669): A sentinel faults and is restarted from its verified image. -/
  | sentinelFault (g : Nat) (cause : Nat)
  /-- SENTINEL_RESTART_DONE (R670): A restarted sentinel resumes from its latest mirror. -/
  | sentinelRestartDone (g : Nat)
  /-- SENTINEL_RESTART_TIMEOUT (R671): A restart not done within 50 ms puts the sentinel down and fades its group. -/
  | sentinelRestartTimeout (g : Nat)
  /-- BUS_REQUEST (R729): A master issues a fabric transaction. -/
  | busRequest (r : BusReq)
  /-- TARGET_GRANT (R735): A target port grants the highest-QoS pending request. -/
  | targetGrant (t : Nat) (writes : Bool)
  /-- TARGET_RESPONSE (R732): A target returns read data or a write response. -/
  | targetResponse (t : Nat) (e : RespEnd)
  /-- TARGET_RESPONSE_TIMEOUT (R733): No answer within 20 us, so the target returns an error and retires the ID. -/
  | targetResponseTimeout (t : Nat)
  /-- MASTER_RESET (R742): A master reset alone has its outstanding transactions closed out. -/
  | masterReset (m : Nat)
  /-- MASTER_PORT_CLOSED (R744): Every retired response has returned, and the port releases the master. -/
  | masterPortClosed (m : Nat)
  /-- DRAM_TRAINING_END (R753): DRAM training of sets A and B ends as ready or FAIL. -/
  | dramTrainingEnd (lanes : List TrainLane)
  /-- TRACKING_BURST (R755): Every PERIOD ms a tracking burst nudges each byte-lane delay. -/
  | trackingBurst (c : Nat) (l0 : TrackLane) (l1 : TrackLane)
  /-- REFRESH_DUE (R764): A refresh falls due and is issued, postponed or forced. -/
  | refreshDue (ch : Nat) (rank : Nat)
  /-- REFRESH_PAYBACK (R765): Postponed refreshes are paid back when no high-QoS transaction waits. -/
  | refreshPayback (rank : Nat)
  /-- RETRY_DATA_ARRIVAL (R772): Retried data of an uncorrectable DRAM read arrives and is delivered or failed. -/
  | retryDataArrival (flips : List (Nat × Nat))
  /-- ECC_WRITEBACK (R771): A corrected block is written back within 10 ms. -/
  | eccWriteback (block : Nat)
  /-- PATROL_SCRUB (R773): The patrol scrub reads a block in slack. -/
  | patrolScrub (block : Nat) (flips : List (Nat × Nat))
  /-- DMA_START (R808): Writing START to an IDLE channel fetches its descriptor. -/
  | dmaStart (q : Requester) (value : Word)
  /-- DMA_STOP (R810): Writing STOP halts the channel's chain. -/
  | dmaStop (q : Requester) (value : Word)
  /-- DMA_APPEND (R805): Writing APPEND sets the append flag and re-reads the tail link in TAILWAIT. -/
  | dmaAppend (q : Requester) (value : Word)
  /-- DMA_DESCRIPTOR_FETCH (R782): A fetched descriptor is checked, or ends as DESC_ERR. -/
  | dmaDescriptorFetch (c : Nat) (d : DmaDesc) (statusErr : Bool)
  /-- DMA_REQUEST (R786): A request line raises a request, which queues or is lost. -/
  | dmaRequest (line : Nat) (beats : Nat)
  /-- DMA_BURST_ISSUE (R790): The engine grants a burst to the highest-QoS ready channel. -/
  | dmaBurstIssue (engine : Nat) (data : List Byte) (rdErr : Option Nat) (wrErr : Option Nat)
  /-- DMA_DESCRIPTOR_COMPLETE (R798): All responses have returned; check record, status word and link are handled. -/
  | dmaDescriptorComplete (c : Nat) (recordErr : Bool) (statusErr : Bool) (link : Nat)
  /-- TAILWAIT_POLL (R806): Every POLL us the channel re-reads the tail link word. -/
  | tailwaitPoll (c : Nat) (link : Nat)
  /-- CODEWORD_TIMEOUT (R815): A codeword not decoded within 20 ms is uncorrectable. -/
  | codewordTimeout (chan : Nat) (ce : Nat) (block : Nat) (page : Nat) (use : CwUse)
  /-- PROGRAM_FAILURE (R818): A failed program or erase makes a grown bad block, and the data is reprogrammed. -/
  | programFailure (chan : Nat) (ce : Nat) (block : Nat)
  /-- BLOCK_REFRESH (R816): A block marked for refresh is copied and erased. -/
  | blockRefresh (block : Nat)
  /-- WEAR_MOVE (R821): Static wear levelling moves the least-erased block's data. -/
  | wearMove
  /-- NAND_SCRUB (R823): Every SCRUB days each written block is read. -/
  | nandScrub (block : Nat) (corrected : Nat) (stage : Nat)
  /-- JOURNAL_CHECKPOINT (R827): At 75 % journal fill, the map is checkpointed to NAND. -/
  | journalCheckpoint
  /-- STORE_MOUNT (R827): The journal replay ends, and store commands may start. -/
  | storeMount (targets : Nat) (wr : Nat) (rd : Nat) (result : Nat)
  /-- STORE_FULL (R833): The store fills during a recording, and the take ends. -/
  | storeFull
  /-- TAMPER_TRIP (R885): A tamper input trips and is latched, erasing keys with ACTION 1. -/
  | tamperTrip (i : Nat)
  /-- POWER_ON_RESET (R903): POR_N low resets the whole package except MRAM and the backup domain. -/
  | powerOnReset (b : BootEnv)
  /-- IOD_RESET (R903): An IOD reset from RESET_N, the watchdog, lockstep or software resets as power-on. -/
  | iodReset (cause : ResetCause) (b : BootEnv)
  /-- STEWARD_WATCHDOG (R904): The 100 ms steward watchdog expires and causes an IOD reset. -/
  | stewardWatchdog (b : BootEnv)
  /-- SOFT_RESET (R905): Writing SYS.RSTCTRL with KEY 0xA5 schedules an IOD reset 10 us later. -/
  | softReset (q : Requester) (value : Word)
  /-- BACKUP_POWER_ON (R901): With VDDIO_18 and VBAT both absent, the backup domain resets and the KEK is lost. -/
  | backupPowerOn
  /-- VBAT_SWITCHOVER (R902): The backup domain switches from VDDIO_18 to VBAT, and LOSSCNT increments. -/
  | vbatSwitchover
  /-- ENGINE_START (R912): Once GRID and PLAN are set, the engine computes its first frame m. -/
  | engineStart
  /-- ENGINE_STOP (R914): At T(s) a running plan stops for replacement, fading every destination. -/
  | engineStop
  /-- LATCHING_READ (R928): A read of TICK.NOW_LO, TXN.LAUNCH_LO, TIME.NOW_S_LO, DRAM.UEADDR_LO or HOST.SCTR_LO latches the upper registers for the reading requester class. -/
  | latchingRead (q : Requester) (offset : Nat)
  /-- OUVFEL_LINK_STATE_CHANGE (R472): The Ouvfel partner link goes down, trains or comes up, starting or stopping TIME frames and pairing traffic. -/
  | ouvfelLinkStateChange (state : Nat)
  /-- ANNOUNCE_RECEIPT_TIMEOUT (R435): A PTP port receives no Announce within announceReceiptTimeout intervals and leaves state SLAVE, so its reference slot loses its source. -/
  | announceReceiptTimeout (port : Nat)
  /-- DELAY_REQ_TRANSMIT (R435): At each logMinDelayReqInterval a slave or P2P port sends a Delay_Req or Pdelay_Req to measure its path delay. -/
  | delayReqTransmit (port : Nat) (egress : Nat)
  /-- FW_INSTALL_COMPLETE (R844): A running firmware install finishes writing its install record, completes the command and writes entry 0x0707. -/
  | fwInstallComplete (verified : Bool)
  /-- DRAM_RETRAIN_COMPLETE (R758): A full DRAM retrain ends, the ports grant again, entry 0x0508 is written and the command completes. -/
  | dramRetrainComplete (lanes : List TrainLane)
  deriving DecidableEq, Repr

end Sys2Proof
end

