-- ==== Sys2Proof/Config.lean ====
section
/-! DEFINITION. What one implementation fixes and the manual leaves open.  Every constant here is
OPAQUE: it has no body, so no proof can see a value of it, and a claim about the model holds for
every value.  Each is named in the assumption log. -/
namespace Sys2Proof.Config

/-- A fresh free value, numbered by the model's own counter (log entry 2). [DESIGN CHOICE, log 2] -/
opaque freeValue : Nat → Nat

/-- HMAC-SHA256 of a message under a key, as a number of 256 bits (R452, R710, R711, R882).
[DESIGN CHOICE, log 9] -/
opaque hmacSha256 : List Byte → List Byte → Nat
/-- SHA-384 of a message, as 48 bytes (R712, R843, R858, R879). [DESIGN CHOICE, log 9] -/
opaque sha384 : List Byte → List Byte
/-- ECDSA P-384 verification over a SHA-384 digest: public key, digest, signature (R712, R858).
[DESIGN CHOICE, log 9] -/
opaque ecdsaVerify : List Byte → List Byte → List Byte → Bool
/-- An ECDSA P-384 signature by the device identity key over a digest (R713, R855, R881). [DESIGN CHOICE, log 9] -/
opaque deviceSign : List Byte → List Byte
/-- The PCI vendor ID assigned to Finmir, which the manual does not number (R674). [DEDUCED, log 85] -/
opaque vendorId : Nat
/-- The 8 check bits of a 64-bit word of DRAM (R769): some SEC-DED code, which the spec does not name. [UNVERIFIED,
log 86] [DESIGN CHOICE, log 86] -/
opaque eccByte : BitVec 64 → Byte
/-- The device identity public key (R868, R881). -/
opaque devicePublicKey : List Byte
/-- The identity certificate, X.509 v3 in DER (R868). -/
opaque deviceCert : List Byte
/-- Finmir's root public key in mask-programmed memory (R856). -/
opaque rootKey : List Byte
/-- Finmir's debug-authorisation public key (R856). -/
opaque debugKey : List Byte
/-- The session key that HKDF-SHA384 derives from the two ephemeral keys (R713). -/
opaque sessionKey : List Byte → Nat → Nat → List Byte
/-- The part's ephemeral public key for one session (R713). -/
opaque ephemeralKey : Nat → List Byte
/-- The 64-bit AES-256-GMAC tag of a stream packet (R558, R560). -/
opaque gmac64 : List Byte → List Byte → List Byte → Nat
/-- AES-256-GCM opening of an imported secret key: session key, ring, SEQ, bytes (R872). -/
opaque gcmOpen : List Byte → Nat → Nat → List Byte → Option (List Byte)
/-- A key that the security engine generates: slot and free-value number (R874). -/
opaque drbgKey : Nat → Nat → List Byte
/-- AES-KW of a key under the KEK (R870). -/
opaque aesKw : List Byte → List Byte → List Byte

/-- Which of the two Butterworth sections of a 4th order carries the lower Q (R140). [DESIGN CHOICE, log 10] -/
opaque hpfLowFirst : Bool
/-- The fixed filter that makes pink noise of the white sequence at a sample rate: the coefficients of its numerator
from z^0 on and of its denominator from z^-1 on (R165). [DESIGN CHOICE, log 10] -/
opaque pinkFilter : Nat → List Rat × List Rat
/-- RCP and RSQ, within a relative error of 2^-26 (R194). [DESIGN CHOICE, log 10] -/
opaque laneRcp : Word36 → Word36
opaque laneRsq : Word36 → Word36

/-- Bits [35:16] of the word that STA or STB of a 16-bit register stores (Table 4.6 states none).
[DESIGN CHOICE, log 28] -/
opaque storeHigh : Nat → Nat
/-- Whether a post-modify that reaches an address register in the same cycle as a load stands (R204).
[DESIGN CHOICE, log 28] -/
opaque postStands : Bool

/-- The size of the servo's slew term in 10^-12 below 1 microsecond: theta in ns, bandwidth code (R426, R501). -/
opaque servoSlew : Int → Nat → Nat
/-- The currentUtcOffset in s that a grandmaster of this part announces (R418 gives no source). [DESIGN CHOICE, log 15] -/
opaque utcOffset : Int
/-- The slopes of the cubic Hermite interpolator at the two samples that it interpolates, in 2^-30 for each sample
period, of the samples presented so far, oldest first (R601 states none). [DESIGN CHOICE, log 84] -/
opaque hermiteSlopes : List Int → Int × Int
/-- What the payload of a custom kernel's signed object holds, in a layout that the manual does not give: F, P, DLEN and
the bundles of its code (R234, R863). [DESIGN CHOICE, log 34] -/
opaque kernelOf : List Byte → Nat × Nat × Nat × List (BitVec 64)
/-- Whether the running firmware supports a plan image's format version (R971). -/
opaque planFormat : Nat → Bool

/-- Where a rule gives a quotient in whole units and no rounding: whether it rounds up (num, den).
[DESIGN CHOICE, log 6] -/
opaque roundUp : Int → Nat → Bool
/-- The servo's prediction of a phase measurement in ns: last measurement, the slot's frequency and y
in 10^-12, elapsed ns (R474). -/
opaque phasePrediction : Int → Int → Int → Nat → Int
/-- The bytes of a KEY_LIST, TAKE_LIST and FILE_LIST response (Tables 17.2 and 18.5 give no layout):
one entry's fields as numbers. -/
opaque listEntry : List Nat → List Byte
/-- The enumeration codes that the manual does not number: the setting of entry 0x0808 by row of
Table 18.4, the algorithm of entry 0x0807, the cause of entry 0x0901 for several bits.
[DESIGN CHOICE, log 11] -/
opaque settingCode : Nat → Nat
opaque algorithmCode : Nat
/-- The code of a fetch kind in entry 0x0401, by its place in R719. [DESIGN CHOICE, log 11] -/
opaque fetchCode : Nat → Nat
/-- The code that names a rail in entry 0x0904, by compute die. [DESIGN CHOICE, log 11] -/
opaque railCode : Nat → Nat
/-- Codes of an upper deadline and of a retry state in entry 0x0505 (R776). -/
opaque deadlineCode : Nat → Nat
opaque retryCode : Nat → Nat

/-- A skim sample whose capture the port missed: slot and sample number (R586 covers the intake alone).
[DESIGN CHOICE, log 44] -/
opaque skimMissing : Nat → Nat → Int
/-- The outcome code of entry 0x0309 by outcome: 0 re-arm, 1 LOAD_SHORT, 2 repeat (Table 13.4). -/
opaque probeOutcome : Nat → Nat
/-- The cause code of entry 0x030E by cause: 0 misses, 1 memory, 2 trap, 3 restart, 4 down. -/
opaque sentinelCause : Nat → Nat
/-- The share of a tick in percent that a sentinel's feed processing takes: group, tick (`GLOAD`).
[DESIGN CHOICE, log 48] -/
opaque feedLoad : Nat → Nat → Nat

/-- The two top bits of the label of multi-bit linear audio in an AM824 word (R527). [DESIGN CHOICE, log 51] -/
opaque am824Label : Nat

end Sys2Proof.Config
end

