-- ==== Sys2Proof/Machine/Table.lean ====
section
/-! DEFINITION. Sparse tables with a default: a list of (key, value) pairs in one canonical form,
keys strictly rising and no entry equal to what an unlisted key reads as, so that equal tables are
equal data.  The register file, the route table, the parameter store and the memory are such
tables. -/
namespace Sys2Proof.Machine

/-- A sparse table: its listed keys and values. -/
abbrev Tbl (α : Type) := List (Nat × α)

/-- The value at a key; `d` is what an unlisted key reads as. -/
def tblGet {α : Type} (d : Nat → α) : Tbl α → Nat → α
  | [], k => d k
  | (k', v) :: r, k => if k' = k then v else tblGet d r k

/-- Take a key out. -/
def tblErase {α : Type} : Tbl α → Nat → Tbl α
  | [], _ => []
  | (k', v) :: r, k => if k' = k then tblErase r k else (k', v) :: tblErase r k

/-- Put a key's value in its place in the rising order. -/
def tblInsert {α : Type} : Tbl α → Nat → α → Tbl α
  | [], k, v => [(k, v)]
  | (k', v') :: r, k, v => if k < k' then (k, v) :: (k', v') :: r else (k', v') :: tblInsert r k v

/-- Write a key: a value equal to the default leaves no entry. -/
def tblSet {α : Type} [DecidableEq α] (d : Nat → α) (t : Tbl α) (k : Nat) (v : α) : Tbl α :=
  if v = d k then tblErase t k else tblInsert (tblErase t k) k v

/-- Keys strictly rising, and no entry equal to its default. -/
def tblWf {α : Type} [DecidableEq α] (d : Nat → α) : Tbl α → Bool
  | [] => true
  | (k, v) :: r => decide (v ≠ d k) && r.all (fun e => decide (k < e.1)) && tblWf d r

/-- A keyed list without default (a map from a key to a record): look up. -/
def mapGet {α : Type} (t : Tbl α) (k : Nat) : Option α :=
  match t with
  | [] => none
  | (k', v) :: r => if k' = k then some v else mapGet r k

/-- Look up with a stated default record. -/
def mapGetD {α : Type} (t : Tbl α) (k : Nat) (d : α) : α := (mapGet t k).getD d

/-- A keyed list without default: write. -/
def mapSet {α : Type} (t : Tbl α) (k : Nat) (v : α) : Tbl α := tblInsert (tblErase t k) k v

/-- A keyed list without default: remove. -/
def mapErase {α : Type} (t : Tbl α) (k : Nat) : Tbl α := tblErase t k

/-- Replace the element at a position of a list; out of range leaves the list. -/
def listSet {α : Type} (l : List α) (i : Nat) (v : α) : List α := l.set i v

end Sys2Proof.Machine
end

