-- ==== Sys2Proof/Machine/RegMap.lean ====
section
/-! DEFINITION. The register map: every register position of the twenty blocks (Table 20.1, R926),
each field with its place, access type and reset value, and the name of every field under the
manual's own spelling, `Reg.BLOCK.REGISTER.FIELD`. -/
namespace Sys2Proof.Machine

/-- Register access types (Table 0.4, R8). -/
inductive FType where
  | rw | ro | w1c | w1s | wo | sh | lk
  deriving DecidableEq, Repr

/-- A field inside a register: lowest bit, width, access type, reset value. -/
structure RField where
  lo : Nat
  w : Nat
  ty : FType
  rst : Nat
  deriving DecidableEq, Repr

/-- A register or an array of registers: first offset, stride, elements, fields (R926). -/
structure RDesc where
  base : Nat
  stride : Nat
  count : Nat
  fields : List RField
  deriving DecidableEq, Repr

/-- A named field of one register: BAR0 offset, lowest bit, width. -/
structure Fld where
  off : Nat
  lo : Nat
  w : Nat
  deriving DecidableEq, Repr

/-- The registers of block TICK. -/
def regsTick : List RDesc :=
  [⟨65536, 0, 1, [⟨0, 2, .ro, 1⟩, ⟨2, 2, .ro, 1⟩, ⟨8, 8, .ro, 12⟩, ⟨16, 1, .ro, 0⟩]⟩,
   ⟨65540, 0, 1, [⟨0, 7, .sh, 50⟩, ⟨8, 6, .sh, 25⟩]⟩,
   ⟨65544, 0, 1, [⟨0, 1, .wo, 0⟩]⟩,
   ⟨65552, 0, 1, [⟨0, 32, .ro, 0⟩]⟩,
   ⟨65556, 0, 1, [⟨0, 32, .ro, 0⟩]⟩,
   ⟨65560, 0, 1, [⟨0, 1, .ro, 0⟩, ⟨1, 1, .ro, 0⟩]⟩,
   ⟨65568, 0, 1, [⟨0, 16, .ro, 0⟩, ⟨16, 16, .ro, 0⟩]⟩,
   ⟨65792, 4, 32, [⟨0, 16, .ro, 0⟩, ⟨16, 7, .ro, 0⟩, ⟨31, 1, .ro, 0⟩]⟩,
   ⟨65572, 0, 1, [⟨0, 4, .sh, 1⟩, ⟨4, 8, .sh, 32⟩, ⟨12, 12, .sh, 256⟩]⟩,
   ⟨65576, 0, 1, [⟨0, 16, .ro, 0⟩, ⟨16, 16, .ro, 0⟩]⟩,
   ⟨65580, 0, 1, [⟨0, 16, .ro, 0⟩, ⟨16, 16, .ro, 0⟩]⟩,
   ⟨65584, 0, 1, [⟨0, 16, .ro, 0⟩, ⟨16, 16, .ro, 0⟩]⟩,
   ⟨65588, 0, 1, [⟨0, 18, .ro, 0⟩, ⟨18, 5, .ro, 0⟩, ⟨23, 3, .ro, 0⟩]⟩,
   ⟨65596, 0, 1, [⟨0, 1, .wo, 0⟩]⟩]

/-- The registers of block GRAPH. -/
def regsGraph : List RDesc :=
  [⟨131072, 0, 1, [⟨0, 12, .ro, 0⟩, ⟨12, 11, .ro, 0⟩]⟩,
   ⟨131076, 0, 1, [⟨0, 4, .sh, 7⟩, ⟨8, 1, .sh, 0⟩]⟩,
   ⟨131080, 0, 1, [⟨0, 10, .sh, 20⟩]⟩,
   ⟨131084, 0, 1, [⟨0, 14, .ro, 0⟩, ⟨16, 16, .ro, 0⟩]⟩,
   ⟨131088, 0, 1, [⟨0, 1, .wo, 0⟩]⟩,
   ⟨131136, 4, 6, [⟨0, 13, .ro, 0⟩, ⟨16, 14, .ro, 0⟩]⟩,
   ⟨131200, 4, 32, [⟨0, 20, .ro, 0⟩, ⟨20, 12, .ro, 0⟩]⟩]

/-- The registers of block LANE. -/
def regsLane : List RDesc :=
  [⟨262144, 0, 1, [⟨0, 1, .wo, 0⟩]⟩,
   ⟨262148, 0, 1, [⟨0, 32, .ro, 0⟩]⟩,
   ⟨262152, 0, 1, [⟨0, 32, .ro, 0⟩]⟩,
   ⟨262400, 32, 32, [⟨0, 4, .ro, 0⟩, ⟨4, 4, .ro, 1⟩, ⟨8, 4, .ro, 2⟩, ⟨12, 4, .ro, 3⟩, ⟨16, 4, .ro, 4⟩, ⟨20, 4, .ro, 5⟩, ⟨24, 4, .ro, 6⟩, ⟨28, 4, .ro, 7⟩]⟩,
   ⟨262404, 32, 32, [⟨0, 4, .ro, 0⟩, ⟨4, 4, .ro, 0⟩, ⟨8, 3, .ro, 0⟩, ⟨12, 14, .ro, 0⟩]⟩,
   ⟨262408, 32, 32, [⟨0, 8, .ro, 0⟩, ⟨8, 8, .ro, 0⟩, ⟨16, 8, .ro, 0⟩, ⟨24, 8, .ro, 0⟩]⟩,
   ⟨262412, 32, 32, [⟨0, 16, .ro, 0⟩, ⟨16, 16, .ro, 0⟩]⟩,
   ⟨262416, 32, 32, [⟨0, 32, .ro, 0⟩]⟩,
   ⟨262420, 32, 32, [⟨0, 15, .ro, 0⟩, ⟨16, 9, .ro, 0⟩]⟩,
   ⟨262424, 32, 32, [⟨0, 16, .ro, 0⟩, ⟨16, 16, .ro, 0⟩]⟩,
   ⟨262428, 32, 32, [⟨0, 2, .ro, 0⟩, ⟨2, 2, .ro, 0⟩, ⟨4, 2, .ro, 0⟩, ⟨6, 2, .ro, 0⟩, ⟨8, 2, .ro, 0⟩, ⟨10, 2, .ro, 0⟩, ⟨12, 2, .ro, 0⟩, ⟨14, 2, .ro, 0⟩, ⟨16, 2, .ro, 1⟩]⟩]

/-- The registers of block GUARD. -/
def regsGuard : List RDesc :=
  [⟨393216, 0, 1, [⟨0, 1, .wo, 0⟩]⟩,
   ⟨393220, 0, 1, [⟨0, 13, .rw, 100⟩, ⟨16, 1, .rw, 1⟩]⟩,
   ⟨393224, 0, 1, [⟨0, 2, .ro, 0⟩, ⟨2, 1, .ro, 0⟩, ⟨4, 2, .ro, 0⟩, ⟨6, 2, .ro, 0⟩, ⟨8, 7, .ro, 0⟩]⟩,
   ⟨393228, 0, 1, [⟨0, 16, .ro, 0⟩, ⟨16, 16, .ro, 0⟩]⟩,
   ⟨393232, 0, 1, [⟨0, 8, .ro, 0⟩, ⟨8, 8, .ro, 0⟩, ⟨16, 8, .ro, 0⟩, ⟨24, 8, .ro, 0⟩]⟩,
   ⟨393236, 0, 1, [⟨0, 6, .ro, 0⟩, ⟨6, 9, .ro, 0⟩, ⟨16, 8, .ro, 0⟩, ⟨24, 1, .ro, 0⟩, ⟨25, 1, .ro, 0⟩, ⟨26, 1, .ro, 0⟩]⟩,
   ⟨393280, 4, 8, [⟨0, 2, .ro, 0⟩, ⟨2, 1, .ro, 0⟩, ⟨4, 4, .ro, 0⟩, ⟨8, 16, .ro, 0⟩]⟩,
   ⟨393344, 0, 1, [⟨0, 1, .rw, 0⟩, ⟨1, 1, .rw, 0⟩, ⟨2, 1, .rw, 1⟩, ⟨4, 4, .rw, 3⟩, ⟨8, 7, .rw, 0⟩, ⟨16, 16, .rw, 1000⟩]⟩,
   ⟨393348, 0, 1, [⟨0, 2, .ro, 0⟩, ⟨2, 2, .ro, 0⟩, ⟨4, 1, .ro, 0⟩, ⟨5, 1, .ro, 0⟩, ⟨16, 16, .ro, 0⟩]⟩,
   ⟨393352, 0, 1, [⟨0, 16, .ro, 0⟩, ⟨16, 16, .ro, 0⟩]⟩,
   ⟨393356, 0, 1, [⟨0, 4, .rw, 2⟩]⟩]

/-- The registers of block TXN. -/
def regsTxn : List RDesc :=
  [⟨458752, 0, 1, [⟨0, 5, .rw, 1⟩]⟩,
   ⟨458756, 0, 1, [⟨0, 2, .ro, 0⟩, ⟨2, 2, .ro, 0⟩, ⟨4, 1, .ro, 0⟩, ⟨5, 4, .ro, 0⟩, ⟨9, 17, .ro, 0⟩]⟩,
   ⟨458760, 0, 1, [⟨0, 32, .ro, 0⟩]⟩,
   ⟨458764, 0, 1, [⟨0, 32, .ro, 0⟩]⟩,
   ⟨458768, 0, 1, [⟨0, 32, .ro, 0⟩]⟩,
   ⟨458772, 0, 1, [⟨0, 32, .ro, 0⟩]⟩,
   ⟨458776, 0, 1, [⟨0, 5, .ro, 0⟩]⟩,
   ⟨458784, 0, 1, [⟨0, 16, .ro, 0⟩, ⟨16, 16, .ro, 0⟩]⟩,
   ⟨458788, 0, 1, [⟨0, 16, .ro, 0⟩, ⟨16, 16, .ro, 0⟩]⟩,
   ⟨458792, 0, 1, [⟨0, 16, .ro, 0⟩, ⟨16, 16, .ro, 0⟩]⟩,
   ⟨458800, 0, 1, [⟨0, 9, .ro, 0⟩, ⟨9, 12, .ro, 0⟩]⟩,
   ⟨458804, 0, 1, [⟨0, 32, .ro, 0⟩]⟩,
   ⟨458812, 0, 1, [⟨0, 1, .wo, 0⟩]⟩]

/-- The registers of block TIME. -/
def regsTime : List RDesc :=
  [⟨524288, 0, 1, [⟨0, 1, .wo, 0⟩]⟩,
   ⟨524292, 0, 1, [⟨0, 1, .ro, 0⟩, ⟨1, 1, .ro, 0⟩, ⟨4, 4, .ro, 0⟩, ⟨8, 8, .ro, 0⟩]⟩,
   ⟨524304, 0, 1, [⟨0, 32, .ro, 0⟩]⟩,
   ⟨524308, 0, 1, [⟨0, 16, .ro, 0⟩]⟩,
   ⟨524312, 0, 1, [⟨0, 30, .ro, 0⟩]⟩,
   ⟨524316, 0, 1, [⟨0, 16, .ro, 0⟩]⟩,
   ⟨524320, 0, 1, [⟨0, 10, .rw, 50⟩, ⟨16, 16, .rw, 1000⟩]⟩,
   ⟨524324, 0, 1, [⟨0, 32, .ro, 0⟩]⟩,
   ⟨524328, 0, 1, [⟨0, 32, .ro, 0⟩]⟩,
   ⟨524336, 0, 1, [⟨0, 2, .rw, 0⟩, ⟨2, 2, .rw, 0⟩, ⟨4, 8, .rw, 0⟩, ⟨12, 8, .rw, 128⟩, ⟨20, 8, .rw, 128⟩, ⟨28, 1, .rw, 0⟩, ⟨29, 1, .rw, 0⟩]⟩,
   ⟨524340, 0, 1, [⟨0, 8, .rw, 248⟩, ⟨8, 8, .rw, 254⟩, ⟨16, 16, .rw, 65535⟩]⟩,
   ⟨524344, 0, 1, [⟨0, 4, .rw, 0⟩, ⟨4, 4, .rw, 1⟩, ⟨8, 4, .rw, 0⟩, ⟨12, 4, .rw, 3⟩]⟩,
   ⟨524348, 0, 1, [⟨0, 8, .rw, 0⟩, ⟨8, 8, .rw, 0⟩, ⟨16, 1, .rw, 0⟩]⟩,
   ⟨524352, 16, 4, [⟨0, 1, .rw, 0⟩, ⟨1, 1, .rw, 0⟩, ⟨2, 2, .rw, 0⟩, ⟨4, 1, .rw, 0⟩]⟩,
   ⟨524356, 16, 4, [⟨0, 4, .ro, 3⟩, ⟨16, 16, .ro, 0⟩]⟩,
   ⟨524360, 16, 4, [⟨0, 16, .rw, 0⟩, ⟨16, 16, .rw, 0⟩]⟩,
   ⟨524364, 16, 4, [⟨0, 16, .ro, 0⟩, ⟨16, 16, .ro, 0⟩]⟩,
   ⟨524544, 4, 16, [⟨0, 1, .rw, 0⟩, ⟨1, 2, .rw, 1⟩, ⟨3, 8, .rw, 0⟩, ⟨11, 16, .rw, 0⟩]⟩,
   ⟨524608, 4, 16, [⟨0, 16, .ro, 0⟩, ⟨16, 16, .ro, 0⟩]⟩,
   ⟨524800, 32, 8, [⟨0, 32, .rw, 0⟩]⟩,
   ⟨524804, 32, 8, [⟨0, 16, .rw, 0⟩]⟩,
   ⟨524808, 32, 8, [⟨0, 30, .rw, 0⟩]⟩,
   ⟨524812, 32, 8, [⟨0, 30, .rw, 1000⟩]⟩,
   ⟨524816, 32, 8, [⟨0, 30, .rw, 0⟩]⟩,
   ⟨524820, 32, 8, [⟨0, 1, .wo, 0⟩, ⟨1, 1, .wo, 0⟩, ⟨2, 1, .rw, 0⟩, ⟨3, 3, .ro, 0⟩]⟩]

/-- The registers of block REFSEL. -/
def regsRefsel : List RDesc :=
  [⟨589824, 0, 1, [⟨0, 1, .wo, 0⟩, ⟨1, 1, .rw, 0⟩]⟩,
   ⟨589828, 0, 1, [⟨0, 12, .rw, 10⟩, ⟨12, 8, .rw, 20⟩, ⟨20, 2, .rw, 1⟩]⟩,
   ⟨589832, 0, 1, [⟨0, 10, .rw, 300⟩, ⟨10, 9, .rw, 30⟩]⟩,
   ⟨589836, 0, 1, [⟨0, 4, .ro, 15⟩, ⟨4, 2, .ro, 0⟩, ⟨6, 1, .ro, 0⟩, ⟨7, 1, .ro, 0⟩]⟩,
   ⟨589840, 0, 1, [⟨0, 32, .ro, 0⟩]⟩,
   ⟨589844, 0, 1, [⟨0, 32, .ro, 0⟩]⟩,
   ⟨589848, 0, 1, [⟨0, 16, .ro, 0⟩, ⟨16, 16, .ro, 0⟩]⟩,
   ⟨589888, 16, 10, [⟨0, 1, .rw, 0⟩, ⟨2, 4, .rw, 15⟩, ⟨6, 8, .rw, 255⟩, ⟨14, 2, .rw, 1⟩, ⟨16, 8, .rw, 50⟩]⟩,
   ⟨589892, 16, 10, [⟨0, 1, .ro, 0⟩, ⟨1, 1, .ro, 0⟩, ⟨2, 1, .ro, 0⟩, ⟨3, 4, .ro, 0⟩, ⟨8, 8, .ro, 255⟩, ⟨16, 12, .ro, 0⟩]⟩,
   ⟨589896, 16, 10, [⟨0, 32, .ro, 0⟩]⟩,
   ⟨589900, 16, 10, [⟨0, 16, .ro, 0⟩, ⟨16, 16, .ro, 0⟩]⟩,
   ⟨590080, 16, 15, [⟨0, 1, .rw, 0⟩, ⟨1, 1, .rw, 0⟩, ⟨2, 2, .rw, 0⟩, ⟨4, 20, .rw, 100⟩]⟩,
   ⟨590084, 16, 15, [⟨0, 32, .rw, 0⟩]⟩,
   ⟨590088, 16, 15, [⟨0, 1, .ro, 0⟩, ⟨2, 30, .ro, 0⟩]⟩]

/-- The registers of block NET. -/
def regsNet : List RDesc :=
  [⟨655360, 0, 1, [⟨0, 1, .wo, 0⟩]⟩,
   ⟨655364, 0, 1, [⟨0, 2, .rw, 0⟩, ⟨2, 2, .rw, 1⟩, ⟨4, 2, .rw, 2⟩, ⟨6, 2, .rw, 3⟩, ⟨8, 1, .rw, 0⟩, ⟨16, 16, .rw, 300⟩]⟩,
   ⟨655368, 0, 1, [⟨0, 14, .ro, 0⟩, ⟨16, 12, .ro, 0⟩]⟩,
   ⟨655616, 64, 4, [⟨0, 1, .rw, 0⟩, ⟨1, 1, .rw, 0⟩, ⟨2, 2, .rw, 0⟩, ⟨4, 1, .rw, 0⟩, ⟨5, 14, .rw, 1500⟩]⟩,
   ⟨655620, 64, 4, [⟨0, 32, .rw, 0⟩]⟩,
   ⟨655624, 64, 4, [⟨0, 16, .rw, 0⟩]⟩,
   ⟨655628, 64, 4, [⟨0, 32, .rw, 0⟩]⟩,
   ⟨655632, 64, 4, [⟨0, 6, .rw, 24⟩]⟩,
   ⟨655636, 64, 4, [⟨0, 32, .rw, 0⟩]⟩,
   ⟨655640, 64, 4, [⟨0, 12, .rw, 0⟩, ⟨12, 3, .rw, 5⟩, ⟨15, 3, .rw, 6⟩, ⟨18, 6, .rw, 34⟩, ⟨24, 6, .rw, 46⟩]⟩,
   ⟨655644, 64, 4, [⟨0, 1, .ro, 0⟩, ⟨1, 1, .ro, 0⟩, ⟨16, 10, .ro, 0⟩]⟩,
   ⟨655648, 64, 4, [⟨0, 32, .ro, 0⟩]⟩,
   ⟨655652, 64, 4, [⟨0, 32, .ro, 0⟩]⟩,
   ⟨655656, 64, 4, [⟨0, 16, .ro, 0⟩, ⟨16, 16, .ro, 0⟩]⟩,
   ⟨655660, 64, 4, [⟨0, 16, .ro, 0⟩, ⟨16, 16, .ro, 0⟩]⟩]

/-- The registers of block STRM. -/
def regsStrm : List RDesc :=
  [⟨786432, 0, 1, [⟨0, 1, .wo, 0⟩]⟩,
   ⟨786436, 0, 1, [⟨0, 10, .ro, 0⟩, ⟨16, 10, .ro, 0⟩]⟩,
   ⟨786440, 0, 1, [⟨0, 13, .ro, 0⟩, ⟨16, 13, .ro, 0⟩]⟩,
   ⟨786444, 0, 1, [⟨0, 10, .ro, 0⟩, ⟨10, 10, .ro, 0⟩]⟩,
   ⟨786496, 4, 16, [⟨0, 32, .ro, 0⟩]⟩,
   ⟨786560, 4, 16, [⟨0, 32, .ro, 0⟩]⟩]

/-- The registers of block SAP. -/
def regsSap : List RDesc :=
  [⟨851968, 64, 32, [⟨0, 1, .rw, 0⟩, ⟨1, 1, .rw, 0⟩, ⟨2, 2, .rw, 0⟩, ⟨4, 1, .rw, 0⟩, ⟨5, 2, .rw, 0⟩, ⟨7, 1, .rw, 0⟩, ⟨8, 1, .rw, 0⟩, ⟨9, 1, .rw, 0⟩, ⟨10, 1, .rw, 1⟩, ⟨11, 1, .rw, 0⟩, ⟨12, 3, .rw, 0⟩]⟩,
   ⟨851972, 64, 32, [⟨0, 6, .rw, 2⟩, ⟨6, 2, .rw, 2⟩, ⟨8, 2, .rw, 1⟩]⟩,
   ⟨851976, 64, 32, [⟨0, 32, .rw, 3⟩]⟩,
   ⟨851980, 64, 32, [⟨0, 32, .ro, 3⟩]⟩,
   ⟨851984, 64, 32, [⟨0, 1, .w1s, 0⟩, ⟨1, 1, .rw, 0⟩, ⟨2, 4, .rw, 7⟩, ⟨6, 1, .rw, 0⟩]⟩,
   ⟨851988, 64, 32, [⟨0, 2, .ro, 0⟩, ⟨2, 4, .ro, 0⟩, ⟨6, 1, .ro, 0⟩, ⟨7, 1, .ro, 0⟩, ⟨8, 1, .ro, 0⟩, ⟨9, 1, .ro, 0⟩]⟩,
   ⟨851992, 64, 32, [⟨0, 16, .ro, 0⟩, ⟨16, 16, .ro, 0⟩]⟩,
   ⟨851996, 64, 32, [⟨0, 16, .ro, 0⟩, ⟨16, 16, .ro, 0⟩]⟩,
   ⟨852000, 64, 32, [⟨0, 16, .ro, 0⟩, ⟨16, 16, .ro, 0⟩]⟩,
   ⟨852004, 64, 32, [⟨0, 32, .ro, 0⟩]⟩,
   ⟨852008, 64, 32, [⟨0, 16, .ro, 0⟩]⟩,
   ⟨852012, 64, 32, [⟨0, 1, .wo, 0⟩]⟩]

/-- The registers of block MOD. -/
def regsMod : List RDesc :=
  [⟨1048576, 0, 1, [⟨0, 1, .wo, 0⟩, ⟨1, 1, .w1s, 0⟩]⟩,
   ⟨1048580, 0, 1, [⟨0, 8, .lk, 20⟩, ⟨8, 1, .lk, 1⟩, ⟨9, 11, .rw, 500⟩, ⟨20, 1, .ro, 0⟩, ⟨21, 1, .ro, 0⟩, ⟨22, 1, .ro, 0⟩]⟩,
   ⟨1048584, 0, 1, [⟨0, 6, .sh, 9⟩, ⟨6, 1, .sh, 0⟩]⟩,
   ⟨1048588, 0, 1, [⟨0, 16, .ro, 0⟩, ⟨16, 16, .ro, 0⟩]⟩,
   ⟨1048640, 4, 32, [⟨0, 16, .sh, 0⟩, ⟨16, 8, .sh, 0⟩, ⟨31, 1, .sh, 0⟩]⟩,
   ⟨1048832, 32, 16, [⟨0, 1, .rw, 0⟩, ⟨1, 1, .sh, 0⟩, ⟨2, 10, .lk, 128⟩, ⟨12, 10, .lk, 256⟩, ⟨22, 8, .lk, 16⟩, ⟨30, 1, .lk, 1⟩]⟩,
   ⟨1048836, 32, 16, [⟨0, 12, .sh, 0⟩, ⟨12, 12, .sh, 880⟩]⟩,
   ⟨1048840, 32, 16, [⟨0, 18, .ro, 0⟩, ⟨18, 1, .ro, 0⟩, ⟨19, 4, .ro, 0⟩]⟩,
   ⟨1048844, 32, 16, [⟨0, 16, .lk, 0⟩, ⟨16, 16, .lk, 0⟩]⟩,
   ⟨1048848, 32, 16, [⟨0, 16, .lk, 0⟩, ⟨16, 16, .lk, 0⟩]⟩,
   ⟨1048852, 32, 16, [⟨0, 16, .lk, 0⟩, ⟨16, 16, .lk, 0⟩]⟩,
   ⟨1048856, 32, 16, [⟨0, 2, .ro, 0⟩, ⟨2, 1, .ro, 0⟩, ⟨3, 1, .ro, 0⟩, ⟨4, 1, .ro, 0⟩, ⟨5, 1, .ro, 0⟩, ⟨6, 1, .ro, 0⟩, ⟨7, 1, .ro, 0⟩, ⟨8, 1, .ro, 0⟩, ⟨9, 1, .ro, 0⟩, ⟨10, 1, .ro, 0⟩, ⟨11, 10, .ro, 0⟩]⟩,
   ⟨1048860, 32, 16, [⟨0, 16, .ro, 0⟩, ⟨16, 16, .ro, 0⟩]⟩,
   ⟨1049600, 16, 128, [⟨0, 18, .sh, 32768⟩, ⟨18, 1, .rw, 0⟩]⟩,
   ⟨1049604, 16, 128, [⟨0, 3, .ro, 0⟩, ⟨3, 1, .ro, 1⟩, ⟨4, 1, .ro, 0⟩, ⟨5, 2, .ro, 0⟩, ⟨7, 1, .ro, 0⟩, ⟨8, 1, .ro, 0⟩]⟩,
   ⟨1049608, 16, 128, [⟨0, 16, .ro, 0⟩, ⟨16, 8, .ro, 0⟩, ⟨24, 8, .ro, 0⟩]⟩]

/-- The registers of block TILCA. -/
def regsTilca : List RDesc :=
  [⟨1179648, 0, 1, [⟨0, 1, .wo, 0⟩, ⟨1, 1, .w1s, 0⟩]⟩,
   ⟨1179652, 0, 1, [⟨0, 11, .lk, 1000⟩, ⟨11, 9, .lk, 50⟩]⟩,
   ⟨1179656, 0, 1, [⟨0, 16, .ro, 0⟩, ⟨16, 16, .ro, 0⟩]⟩,
   ⟨1179660, 0, 1, [⟨0, 8, .ro, 0⟩, ⟨8, 8, .ro, 0⟩, ⟨16, 8, .ro, 0⟩]⟩,
   ⟨1179712, 16, 16, [⟨0, 10, .lk, 560⟩, ⟨10, 6, .lk, 10⟩]⟩,
   ⟨1179716, 16, 16, [⟨0, 2, .ro, 0⟩, ⟨2, 6, .ro, 0⟩, ⟨8, 1, .ro, 0⟩, ⟨16, 8, .ro, 0⟩, ⟨24, 8, .ro, 0⟩]⟩,
   ⟨1179720, 16, 16, [⟨0, 16, .ro, 0⟩, ⟨16, 8, .ro, 0⟩, ⟨24, 8, .ro, 0⟩]⟩,
   ⟨1179724, 16, 16, [⟨0, 7, .ro, 0⟩]⟩,
   ⟨1180160, 4, 32, [⟨0, 6, .ro, 0⟩, ⟨8, 6, .ro, 0⟩, ⟨16, 6, .ro, 0⟩, ⟨24, 6, .ro, 0⟩, ⟨6, 1, .ro, 0⟩, ⟨14, 1, .ro, 0⟩, ⟨22, 1, .ro, 0⟩, ⟨30, 1, .ro, 0⟩, ⟨7, 1, .ro, 0⟩, ⟨15, 1, .ro, 0⟩, ⟨23, 1, .ro, 0⟩, ⟨31, 1, .ro, 0⟩]⟩]

/-- The registers of block SYS. -/
def regsSys : List RDesc :=
  [⟨32, 0, 1, [⟨0, 8, .ro, 0⟩, ⟨8, 8, .ro, 0⟩, ⟨16, 8, .ro, 0⟩, ⟨24, 8, .ro, 0⟩]⟩,
   ⟨16, 0, 1, [⟨0, 1, .ro, 0⟩]⟩,
   ⟨48, 0, 1, [⟨0, 1, .w1c, 1⟩, ⟨1, 1, .w1c, 0⟩, ⟨2, 1, .w1c, 0⟩, ⟨3, 1, .w1c, 0⟩, ⟨4, 1, .w1c, 0⟩, ⟨5, 1, .w1c, 0⟩]⟩,
   ⟨52, 0, 1, [⟨0, 1, .wo, 0⟩, ⟨8, 8, .wo, 0⟩]⟩,
   ⟨56, 0, 1, [⟨0, 3, .ro, 0⟩, ⟨3, 1, .ro, 0⟩, ⟨4, 1, .ro, 0⟩]⟩,
   ⟨0, 0, 1, [⟨0, 16, .ro, 38464⟩, ⟨16, 8, .ro, 176⟩]⟩,
   ⟨4, 0, 1, [⟨0, 32, .ro, 0⟩]⟩,
   ⟨8, 0, 1, [⟨0, 32, .ro, 0⟩]⟩]

/-- The registers of block HOST. -/
def regsHost : List RDesc :=
  [⟨1310720, 0, 1, [⟨0, 1, .wo, 0⟩, ⟨1, 1, .w1s, 0⟩]⟩,
   ⟨1310724, 0, 1, [⟨0, 1, .lk, 0⟩, ⟨1, 1, .rw, 0⟩, ⟨8, 16, .rw, 1000⟩]⟩,
   ⟨1310728, 0, 1, [⟨12, 20, .lk, 0⟩]⟩,
   ⟨1310732, 0, 1, [⟨0, 32, .lk, 0⟩]⟩,
   ⟨1310736, 0, 1, [⟨12, 20, .lk, 0⟩]⟩,
   ⟨1310740, 0, 1, [⟨0, 32, .lk, 0⟩]⟩,
   ⟨1310744, 0, 1, [⟨0, 1, .rw, 0⟩, ⟨1, 4, .lk, 4⟩, ⟨5, 1, .rw, 0⟩]⟩,
   ⟨1310752, 0, 1, [⟨0, 1, .ro, 0⟩, ⟨1, 1, .ro, 0⟩, ⟨2, 1, .ro, 0⟩, ⟨3, 5, .ro, 0⟩]⟩,
   ⟨1310756, 0, 1, [⟨0, 32, .ro, 0⟩]⟩,
   ⟨1310760, 0, 1, [⟨0, 32, .ro, 0⟩]⟩,
   ⟨1310764, 0, 1, [⟨0, 16, .ro, 0⟩, ⟨16, 16, .ro, 0⟩]⟩,
   ⟨1310976, 32, 16, [⟨12, 20, .lk, 0⟩]⟩,
   ⟨1310980, 32, 16, [⟨0, 32, .lk, 0⟩]⟩,
   ⟨1310984, 32, 16, [⟨12, 20, .lk, 0⟩]⟩,
   ⟨1310988, 32, 16, [⟨0, 32, .lk, 0⟩]⟩,
   ⟨1310992, 32, 16, [⟨0, 1, .rw, 0⟩, ⟨1, 4, .lk, 4⟩, ⟨5, 4, .lk, 0⟩, ⟨9, 1, .rw, 0⟩]⟩,
   ⟨1310996, 32, 16, [⟨0, 1, .ro, 0⟩, ⟨1, 1, .ro, 0⟩, ⟨2, 1, .ro, 0⟩, ⟨16, 16, .ro, 0⟩]⟩,
   ⟨1311000, 32, 16, [⟨0, 16, .ro, 0⟩, ⟨16, 16, .ro, 0⟩]⟩]

/-- The registers of block BUS. -/
def regsBus : List RDesc :=
  [⟨1376256, 0, 1, [⟨0, 1, .wo, 0⟩, ⟨1, 1, .w1s, 0⟩]⟩,
   ⟨1376320, 0, 1, [⟨0, 4, .lk, 10⟩]⟩,
   ⟨1376336, 0, 1, [⟨0, 4, .lk, 10⟩]⟩,
   ⟨1376352, 0, 1, [⟨0, 4, .lk, 8⟩]⟩,
   ⟨1376368, 0, 1, [⟨0, 4, .lk, 8⟩]⟩,
   ⟨1376384, 0, 1, [⟨0, 4, .lk, 12⟩]⟩,
   ⟨1376400, 0, 1, [⟨0, 4, .lk, 12⟩]⟩,
   ⟨1376416, 0, 1, [⟨0, 4, .lk, 6⟩]⟩,
   ⟨1376432, 0, 1, [⟨0, 4, .lk, 13⟩]⟩,
   ⟨1376448, 0, 1, [⟨0, 4, .lk, 13⟩]⟩,
   ⟨1376464, 0, 1, [⟨0, 4, .lk, 11⟩]⟩,
   ⟨1376480, 0, 1, [⟨0, 4, .lk, 9⟩]⟩,
   ⟨1376496, 0, 1, [⟨0, 4, .lk, 9⟩]⟩,
   ⟨1376512, 0, 1, [⟨0, 4, .lk, 7⟩]⟩,
   ⟨1376528, 0, 1, [⟨0, 4, .lk, 0⟩]⟩,
   ⟨1376324, 16, 14, [⟨0, 6, .ro, 0⟩, ⟨6, 1, .ro, 0⟩, ⟨8, 8, .ro, 0⟩]⟩,
   ⟨1376328, 16, 14, [⟨0, 16, .ro, 0⟩]⟩,
   ⟨1376768, 16, 9, [⟨0, 4, .ro, 0⟩, ⟨4, 1, .ro, 0⟩, ⟨16, 16, .ro, 0⟩]⟩,
   ⟨1376772, 16, 9, [⟨0, 7, .ro, 0⟩]⟩,
   ⟨1376776, 16, 9, [⟨0, 16, .ro, 0⟩]⟩]

/-- The registers of block DRAM. -/
def regsDram : List RDesc :=
  [⟨1441792, 0, 1, [⟨0, 1, .wo, 0⟩, ⟨1, 1, .w1s, 0⟩]⟩,
   ⟨1441796, 0, 1, [⟨0, 1, .lk, 0⟩, ⟨1, 1, .lk, 0⟩, ⟨2, 2, .lk, 3⟩, ⟨4, 2, .lk, 3⟩, ⟨6, 2, .lk, 0⟩]⟩,
   ⟨1441800, 0, 1, [⟨0, 2, .ro, 0⟩, ⟨2, 1, .ro, 0⟩, ⟨3, 1, .ro, 0⟩, ⟨4, 1, .ro, 0⟩, ⟨5, 1, .ro, 0⟩]⟩,
   ⟨1441804, 0, 1, [⟨0, 16, .ro, 0⟩]⟩,
   ⟨1441808, 0, 1, [⟨0, 10, .rw, 100⟩, ⟨10, 1, .rw, 1⟩]⟩,
   ⟨1441812, 0, 1, [⟨0, 4, .ro, 0⟩, ⟨16, 16, .ro, 0⟩]⟩,
   ⟨1441816, 0, 1, [⟨0, 16, .ro, 0⟩, ⟨16, 8, .ro, 0⟩, ⟨24, 8, .ro, 0⟩]⟩,
   ⟨1441820, 0, 1, [⟨0, 16, .ro, 0⟩]⟩,
   ⟨1441824, 0, 1, [⟨6, 26, .ro, 0⟩]⟩,
   ⟨1441828, 0, 1, [⟨0, 8, .ro, 0⟩]⟩,
   ⟨1442048, 32, 8, [⟨0, 1, .ro, 0⟩, ⟨1, 1, .ro, 0⟩, ⟨2, 1, .ro, 0⟩, ⟨8, 2, .ro, 0⟩]⟩,
   ⟨1442052, 32, 8, [⟨0, 7, .ro, 0⟩, ⟨8, 7, .ro, 0⟩, ⟨16, 7, .ro, 0⟩, ⟨24, 7, .ro, 0⟩]⟩,
   ⟨1442056, 32, 8, [⟨0, 7, .ro, 0⟩, ⟨8, 7, .ro, 0⟩, ⟨16, 7, .ro, 0⟩, ⟨24, 7, .ro, 0⟩]⟩,
   ⟨1442060, 32, 8, [⟨0, 8, .ro, 0⟩, ⟨16, 16, .ro, 0⟩]⟩]

/-- The registers of block DMA. -/
def regsDma : List RDesc :=
  [⟨1507328, 0, 1, [⟨0, 1, .wo, 0⟩]⟩,
   ⟨1507332, 0, 1, [⟨0, 32, .wo, 0⟩]⟩,
   ⟨1507336, 0, 1, [⟨0, 32, .wo, 0⟩]⟩,
   ⟨1507340, 0, 1, [⟨0, 32, .wo, 0⟩]⟩,
   ⟨1507344, 0, 1, [⟨0, 32, .ro, 0⟩]⟩,
   ⟨1507348, 0, 1, [⟨0, 32, .w1c, 0⟩]⟩,
   ⟨1507352, 0, 1, [⟨0, 32, .w1c, 0⟩]⟩,
   ⟨1507584, 16, 32, [⟨0, 7, .rw, 127⟩, ⟨7, 1, .ro, 0⟩, ⟨8, 4, .rw, 8⟩, ⟨12, 8, .rw, 0⟩]⟩,
   ⟨1507588, 16, 32, [⟨0, 3, .ro, 0⟩, ⟨3, 1, .ro, 0⟩, ⟨4, 3, .ro, 0⟩, ⟨8, 8, .ro, 0⟩, ⟨16, 8, .ro, 0⟩]⟩,
   ⟨1507592, 16, 32, [⟨6, 26, .rw, 0⟩]⟩,
   ⟨1507596, 16, 32, [⟨0, 32, .rw, 0⟩]⟩]

/-- The registers of block STORE. -/
def regsStore : List RDesc :=
  [⟨1572864, 0, 1, [⟨0, 1, .wo, 0⟩]⟩,
   ⟨1572868, 0, 1, [⟨0, 2, .ro, 0⟩, ⟨2, 1, .ro, 0⟩, ⟨3, 1, .ro, 0⟩, ⟨4, 4, .ro, 0⟩, ⟨8, 5, .ro, 0⟩]⟩,
   ⟨1572872, 0, 1, [⟨0, 22, .ro, 0⟩]⟩,
   ⟨1572876, 0, 1, [⟨0, 22, .ro, 0⟩]⟩,
   ⟨1572880, 0, 1, [⟨0, 8, .rw, 96⟩, ⟨8, 12, .rw, 500⟩, ⟨20, 5, .rw, 7⟩]⟩,
   ⟨1572884, 0, 1, [⟨0, 24, .rw, 50000⟩]⟩,
   ⟨1572888, 0, 1, [⟨0, 16, .ro, 0⟩, ⟨16, 8, .ro, 0⟩, ⟨24, 8, .ro, 0⟩]⟩,
   ⟨1572892, 0, 1, [⟨0, 16, .ro, 0⟩, ⟨16, 16, .ro, 0⟩]⟩,
   ⟨1572896, 0, 1, [⟨0, 16, .ro, 0⟩, ⟨16, 16, .ro, 0⟩]⟩,
   ⟨1572900, 0, 1, [⟨0, 16, .ro, 0⟩, ⟨16, 16, .ro, 0⟩]⟩,
   ⟨1572904, 0, 1, [⟨0, 32, .ro, 0⟩]⟩,
   ⟨1572908, 0, 1, [⟨0, 1, .ro, 0⟩, ⟨1, 1, .ro, 0⟩, ⟨2, 1, .ro, 0⟩, ⟨3, 1, .ro, 0⟩, ⟨8, 7, .ro, 0⟩]⟩]

/-- The registers of block SEC. -/
def regsSec : List RDesc :=
  [⟨1638400, 0, 1, [⟨0, 1, .wo, 0⟩, ⟨1, 1, .w1s, 0⟩]⟩,
   ⟨1638404, 0, 1, [⟨0, 1, .lk, 0⟩, ⟨4, 4, .rw, 0⟩]⟩,
   ⟨1638408, 0, 1, [⟨0, 2, .ro, 0⟩, ⟨2, 4, .ro, 0⟩, ⟨6, 2, .ro, 0⟩, ⟨8, 1, .ro, 0⟩, ⟨9, 1, .ro, 0⟩, ⟨10, 1, .ro, 0⟩]⟩,
   ⟨1638416, 0, 1, [⟨0, 16, .ro, 0⟩, ⟨16, 16, .ro, 0⟩]⟩,
   ⟨1638420, 0, 1, [⟨0, 16, .ro, 0⟩]⟩,
   ⟨1638424, 0, 1, [⟨0, 16, .ro, 0⟩, ⟨16, 16, .ro, 0⟩]⟩,
   ⟨1638428, 0, 1, [⟨0, 32, .ro, 0⟩]⟩,
   ⟨1638432, 0, 1, [⟨0, 16, .ro, 0⟩, ⟨16, 8, .ro, 0⟩, ⟨24, 8, .ro, 0⟩]⟩]

/-- The registers of block BKUP. -/
def regsBkup : List RDesc :=
  [⟨1703968, 0, 1, [⟨0, 1, .lk, 0⟩, ⟨8, 1, .lk, 0⟩, ⟨16, 1, .lk, 0⟩, ⟨24, 1, .lk, 0⟩, ⟨1, 1, .lk, 0⟩, ⟨9, 1, .lk, 0⟩, ⟨17, 1, .lk, 0⟩, ⟨25, 1, .lk, 0⟩, ⟨2, 1, .lk, 0⟩, ⟨10, 1, .lk, 0⟩, ⟨18, 1, .lk, 0⟩, ⟨26, 1, .lk, 0⟩, ⟨4, 4, .lk, 4⟩, ⟨12, 4, .lk, 4⟩, ⟨20, 4, .lk, 4⟩, ⟨28, 4, .lk, 4⟩]⟩,
   ⟨1703972, 0, 1, [⟨0, 4, .ro, 0⟩, ⟨4, 4, .ro, 0⟩]⟩,
   ⟨1703936, 0, 1, [⟨0, 1, .ro, 0⟩, ⟨1, 1, .ro, 0⟩, ⟨2, 1, .w1c, 1⟩]⟩,
   ⟨1703940, 0, 1, [⟨0, 10, .ro, 0⟩]⟩,
   ⟨1703944, 0, 1, [⟨0, 32, .ro, 0⟩]⟩]

/-- The block that an offset lies in (Table 20.1), with its registers. -/
def blockRegs (off : Nat) : List RDesc :=
  if off < 65536 then regsSys else
  if off < 131072 then regsTick else
  if off < 262144 then regsGraph else
  if off < 393216 then regsLane else
  if off < 458752 then regsGuard else
  if off < 524288 then regsTxn else
  if off < 589824 then regsTime else
  if off < 655360 then regsRefsel else
  if off < 786432 then regsNet else
  if off < 851968 then regsStrm else
  if off < 1048576 then regsSap else
  if off < 1179648 then regsMod else
  if off < 1310720 then regsTilca else
  if off < 1376256 then regsHost else
  if off < 1441792 then regsBus else
  if off < 1507328 then regsDram else
  if off < 1572864 then regsDma else
  if off < 1638400 then regsStore else
  if off < 1703936 then regsSec else
  if off < 1769472 then regsBkup else
  []

/-- Whether an offset is one of a descriptor's positions. -/
def RDesc.hits (d : RDesc) (off : Nat) : Bool :=
  if d.stride = 0 then off == d.base
  else decide (d.base ≤ off) && (off - d.base) % d.stride == 0 &&
    decide ((off - d.base) / d.stride < d.count)

/-- The fields of the register at an offset; none where no table lists it (R11). -/
def regFields (off : Nat) : Option (List RField) :=
  ((blockRegs off).find? (fun d => d.hits off)).map RDesc.fields

/-- Whether a register table lists the offset. -/
def regMapped (off : Nat) : Bool := (regFields off).isSome

/-- A word with one field set. -/
def putBits (word : Word) (lo w v : Nat) : Word :=
  (word &&& ~~~(BitVec.ofNat 32 ((2 ^ w - 1) * 2 ^ lo))) ||| BitVec.ofNat 32 ((v % 2 ^ w) * 2 ^ lo)

/-- One field of a word. -/
def getBits (word : Word) (lo w : Nat) : Nat := word.toNat / 2 ^ lo % 2 ^ w

/-- The reset value of the register at an offset (R938; MRAM, factory and input levels read 0, log
entry 3). [DESIGN CHOICE, log 3] -/
def resetWord (off : Nat) : Word :=
  match regFields off with
  | none => 0
  | some fs => fs.foldl (fun a f => putBits a f.lo f.w f.rst) 0

def Reg.TICK.CFG.LEN : Fld := ⟨65536, 0, 2⟩
def Reg.TICK.CFG.RATE : Fld := ⟨65536, 2, 2⟩
def Reg.TICK.CFG.SPT : Fld := ⟨65536, 8, 8⟩
def Reg.TICK.CFG.PLAN : Fld := ⟨65536, 16, 1⟩
def Reg.TICK.EDDY.DEADLINE : Fld := ⟨65540, 0, 7⟩
def Reg.TICK.EDDY.RESERVE : Fld := ⟨65540, 8, 6⟩
def Reg.TICK.CTRL.CLR_CNT : Fld := ⟨65544, 0, 1⟩
def Reg.TICK.NOW_LO.N : Fld := ⟨65552, 0, 32⟩
def Reg.TICK.NOW_HI.N : Fld := ⟨65556, 0, 32⟩
def Reg.TICK.STATUS.GRID : Fld := ⟨65560, 0, 1⟩
def Reg.TICK.STATUS.RUN : Fld := ⟨65560, 1, 1⟩
def Reg.TICK.MISS.STAGE : Fld := ⟨65568, 0, 16⟩
def Reg.TICK.MISS.PREFETCH : Fld := ⟨65568, 16, 16⟩
def Reg.TICK.CLSTAT.OVR (i : Nat) : Fld := ⟨65792 + 4 * i, 0, 16⟩
def Reg.TICK.CLSTAT.PEAK (i : Nat) : Fld := ⟨65792 + 4 * i, 16, 7⟩
def Reg.TICK.CLSTAT.HELD (i : Nat) : Fld := ⟨65792 + 4 * i, 31, 1⟩
def Reg.GRAPH.SIZE.INS : Fld := ⟨131072, 0, 12⟩
def Reg.GRAPH.SIZE.OUTS : Fld := ⟨131072, 12, 11⟩
def Reg.GRAPH.FEATHER.LEN : Fld := ⟨131076, 0, 4⟩
def Reg.GRAPH.FEATHER.XSHAPE : Fld := ⟨131076, 8, 1⟩
def Reg.GRAPH.ZC.TIMEOUT : Fld := ⟨131080, 0, 10⟩
def Reg.GRAPH.RTSTAT.USED : Fld := ⟨131084, 0, 14⟩
def Reg.GRAPH.RTSTAT.ZCTO : Fld := ⟨131084, 16, 16⟩
def Reg.GRAPH.CTRL.CLR_ZCTO : Fld := ⟨131088, 0, 1⟩
def Reg.GRAPH.RTPART.BASE (i : Nat) : Fld := ⟨131136 + 4 * i, 0, 13⟩
def Reg.GRAPH.RTPART.COUNT (i : Nat) : Fld := ⟨131136 + 4 * i, 16, 14⟩
def Reg.GRAPH.AGRP.TARGET (i : Nat) : Fld := ⟨131200 + 4 * i, 0, 20⟩
def Reg.GRAPH.AGRP.CAP (i : Nat) : Fld := ⟨131200 + 4 * i, 20, 12⟩
def Reg.LANE.CTRL.CLR_CNT : Fld := ⟨262144, 0, 1⟩
def Reg.LANE.LOADOK.OK : Fld := ⟨262148, 0, 32⟩
def Reg.LANE.FSUM.FAULT : Fld := ⟨262152, 0, 32⟩
def Reg.LANE.CL.ROLEMAP.POS0 (i : Nat) : Fld := ⟨262400 + 32 * i, 0, 4⟩
def Reg.LANE.CL.ROLEMAP.POS1 (i : Nat) : Fld := ⟨262400 + 32 * i, 4, 4⟩
def Reg.LANE.CL.ROLEMAP.POS2 (i : Nat) : Fld := ⟨262400 + 32 * i, 8, 4⟩
def Reg.LANE.CL.ROLEMAP.POS3 (i : Nat) : Fld := ⟨262400 + 32 * i, 12, 4⟩
def Reg.LANE.CL.ROLEMAP.POS4 (i : Nat) : Fld := ⟨262400 + 32 * i, 16, 4⟩
def Reg.LANE.CL.ROLEMAP.POS5 (i : Nat) : Fld := ⟨262400 + 32 * i, 20, 4⟩
def Reg.LANE.CL.ROLEMAP.POS6 (i : Nat) : Fld := ⟨262400 + 32 * i, 24, 4⟩
def Reg.LANE.CL.ROLEMAP.POS7 (i : Nat) : Fld := ⟨262400 + 32 * i, 28, 4⟩
def Reg.LANE.CL.FSTAT.CLASS (i : Nat) : Fld := ⟨262404 + 32 * i, 0, 4⟩
def Reg.LANE.CL.FSTAT.POS (i : Nat) : Fld := ⟨262404 + 32 * i, 4, 4⟩
def Reg.LANE.CL.FSTAT.LOG (i : Nat) : Fld := ⟨262404 + 32 * i, 8, 3⟩
def Reg.LANE.CL.FSTAT.BADDR (i : Nat) : Fld := ⟨262404 + 32 * i, 12, 14⟩
def Reg.LANE.CL.FCNT.ARITH (i : Nat) : Fld := ⟨262408 + 32 * i, 0, 8⟩
def Reg.LANE.CL.FCNT.MEM (i : Nat) : Fld := ⟨262408 + 32 * i, 8, 8⟩
def Reg.LANE.CL.FCNT.CYCLE (i : Nat) : Fld := ⟨262408 + 32 * i, 16, 8⟩
def Reg.LANE.CL.FCNT.OTHER (i : Nat) : Fld := ⟨262408 + 32 * i, 24, 8⟩
def Reg.LANE.CL.CECC.LM (i : Nat) : Fld := ⟨262412 + 32 * i, 0, 16⟩
def Reg.LANE.CL.CECC.IM (i : Nat) : Fld := ⟨262412 + 32 * i, 16, 16⟩
def Reg.LANE.CL.ICRC.CRC (i : Nat) : Fld := ⟨262416 + 32 * i, 0, 32⟩
def Reg.LANE.CL.IUSE.BUNDLES (i : Nat) : Fld := ⟨262420 + 32 * i, 0, 15⟩
def Reg.LANE.CL.IUSE.KERNELS (i : Nat) : Fld := ⟨262420 + 32 * i, 16, 9⟩
def Reg.LANE.CL.ACCOVF.SAT (i : Nat) : Fld := ⟨262424 + 32 * i, 0, 16⟩
def Reg.LANE.CL.ACCOVF.WAIT (i : Nat) : Fld := ⟨262424 + 32 * i, 16, 16⟩
def Reg.LANE.CL.LSTAT.ST0 (i : Nat) : Fld := ⟨262428 + 32 * i, 0, 2⟩
def Reg.LANE.CL.LSTAT.ST1 (i : Nat) : Fld := ⟨262428 + 32 * i, 2, 2⟩
def Reg.LANE.CL.LSTAT.ST2 (i : Nat) : Fld := ⟨262428 + 32 * i, 4, 2⟩
def Reg.LANE.CL.LSTAT.ST3 (i : Nat) : Fld := ⟨262428 + 32 * i, 6, 2⟩
def Reg.LANE.CL.LSTAT.ST4 (i : Nat) : Fld := ⟨262428 + 32 * i, 8, 2⟩
def Reg.LANE.CL.LSTAT.ST5 (i : Nat) : Fld := ⟨262428 + 32 * i, 10, 2⟩
def Reg.LANE.CL.LSTAT.ST6 (i : Nat) : Fld := ⟨262428 + 32 * i, 12, 2⟩
def Reg.LANE.CL.LSTAT.ST7 (i : Nat) : Fld := ⟨262428 + 32 * i, 14, 2⟩
def Reg.LANE.CL.LSTAT.ST8 (i : Nat) : Fld := ⟨262428 + 32 * i, 16, 2⟩
def Reg.TICK.CONCEAL.HOLD : Fld := ⟨65572, 0, 4⟩
def Reg.TICK.CONCEAL.FADE : Fld := ⟨65572, 4, 8⟩
def Reg.TICK.CONCEAL.RAMP : Fld := ⟨65572, 12, 12⟩
def Reg.TICK.ESTAT0.ADMIT : Fld := ⟨65576, 0, 16⟩
def Reg.TICK.ESTAT0.DROPRES : Fld := ⟨65576, 16, 16⟩
def Reg.TICK.ESTAT1.DROPDL : Fld := ⟨65580, 0, 16⟩
def Reg.TICK.ESTAT1.JOIN : Fld := ⟨65580, 16, 16⟩
def Reg.TICK.RSTAT.REPLAY : Fld := ⟨65584, 0, 16⟩
def Reg.TICK.RSTAT.HOLD : Fld := ⟨65584, 16, 16⟩
def Reg.TICK.RESLOW.LOW : Fld := ⟨65588, 0, 18⟩
def Reg.TICK.RESLOW.CL : Fld := ⟨65588, 18, 5⟩
def Reg.TICK.RESLOW.LOG : Fld := ⟨65588, 23, 3⟩
def Reg.TICK.ECTRL.CLR : Fld := ⟨65596, 0, 1⟩
def Reg.GUARD.CTRL.CLR_CNT : Fld := ⟨393216, 0, 1⟩
def Reg.GUARD.ROT.PERIOD : Fld := ⟨393220, 0, 13⟩
def Reg.GUARD.ROT.EN : Fld := ⟨393220, 16, 1⟩
def Reg.GUARD.NODE.MODE : Fld := ⟨393224, 0, 2⟩
def Reg.GUARD.NODE.LEAD : Fld := ⟨393224, 2, 1⟩
def Reg.GUARD.NODE.CD0 : Fld := ⟨393224, 4, 2⟩
def Reg.GUARD.NODE.CD1 : Fld := ⟨393224, 6, 2⟩
def Reg.GUARD.NODE.RBTICKS : Fld := ⟨393224, 8, 7⟩
def Reg.GUARD.DCMP.OUTVOTE : Fld := ⟨393228, 0, 16⟩
def Reg.GUARD.DCMP.DIVERGE : Fld := ⟨393228, 16, 16⟩
def Reg.GUARD.DIECNT.RESET0 : Fld := ⟨393232, 0, 8⟩
def Reg.GUARD.DIECNT.RESET1 : Fld := ⟨393232, 8, 8⟩
def Reg.GUARD.DIECNT.REBUILD : Fld := ⟨393232, 16, 8⟩
def Reg.GUARD.DIECNT.RMCE : Fld := ⟨393232, 24, 8⟩
def Reg.GUARD.HEALTH.NOSPARE : Fld := ⟨393236, 0, 6⟩
def Reg.GUARD.HEALTH.RETIRED : Fld := ⟨393236, 6, 9⟩
def Reg.GUARD.HEALTH.ALTREG : Fld := ⟨393236, 16, 8⟩
def Reg.GUARD.HEALTH.SINGLE : Fld := ⟨393236, 24, 1⟩
def Reg.GUARD.HEALTH.AUTH : Fld := ⟨393236, 25, 1⟩
def Reg.GUARD.HEALTH.ENGINE : Fld := ⟨393236, 26, 1⟩
def Reg.GUARD.ALT.CL (i : Nat) : Fld := ⟨393280 + 4 * i, 0, 2⟩
def Reg.GUARD.ALT.ACTIVE (i : Nat) : Fld := ⟨393280 + 4 * i, 2, 1⟩
def Reg.GUARD.ALT.PROV (i : Nat) : Fld := ⟨393280 + 4 * i, 4, 4⟩
def Reg.GUARD.ALT.ENTRIES (i : Nat) : Fld := ⟨393280 + 4 * i, 8, 16⟩
def Reg.GUARD.OUVCFG.EN : Fld := ⟨393344, 0, 1⟩
def Reg.GUARD.OUVCFG.ROLE : Fld := ⟨393344, 1, 1⟩
def Reg.GUARD.OUVCFG.AUTOTAKE : Fld := ⟨393344, 2, 1⟩
def Reg.GUARD.OUVCFG.HBMISS : Fld := ⟨393344, 4, 4⟩
def Reg.GUARD.OUVCFG.NODE : Fld := ⟨393344, 8, 7⟩
def Reg.GUARD.OUVCFG.IMGPER : Fld := ⟨393344, 16, 16⟩
def Reg.GUARD.OUVSTAT.LINK : Fld := ⟨393348, 0, 2⟩
def Reg.GUARD.OUVSTAT.PARTNER : Fld := ⟨393348, 2, 2⟩
def Reg.GUARD.OUVSTAT.AUTH_IN : Fld := ⟨393348, 4, 1⟩
def Reg.GUARD.OUVSTAT.AUTH_OUT : Fld := ⟨393348, 5, 1⟩
def Reg.GUARD.OUVSTAT.CRCERR : Fld := ⟨393348, 16, 16⟩
def Reg.GUARD.OUVCNT.LOST : Fld := ⟨393352, 0, 16⟩
def Reg.GUARD.OUVCNT.HANDOVER : Fld := ⟨393352, 16, 16⟩
def Reg.GUARD.AUTHWD.TICKS : Fld := ⟨393356, 0, 4⟩
def Reg.TXN.CFG.IXF : Fld := ⟨458752, 0, 5⟩
def Reg.TXN.STATUS.OSTATE : Fld := ⟨458756, 0, 2⟩
def Reg.TXN.STATUS.LSTATE : Fld := ⟨458756, 2, 2⟩
def Reg.TXN.STATUS.FULL : Fld := ⟨458756, 4, 1⟩
def Reg.TXN.STATUS.OWNER : Fld := ⟨458756, 5, 4⟩
def Reg.TXN.STATUS.ITEMS : Fld := ⟨458756, 9, 17⟩
def Reg.TXN.OID.ID : Fld := ⟨458760, 0, 32⟩
def Reg.TXN.LID.ID : Fld := ⟨458764, 0, 32⟩
def Reg.TXN.LAUNCH_LO.L : Fld := ⟨458768, 0, 32⟩
def Reg.TXN.LAUNCH_HI.L : Fld := ⟨458772, 0, 32⟩
def Reg.TXN.XFADE.X : Fld := ⟨458776, 0, 5⟩
def Reg.TXN.CNT0.COMMIT : Fld := ⟨458784, 0, 16⟩
def Reg.TXN.CNT0.LAUNCH : Fld := ⟨458784, 16, 16⟩
def Reg.TXN.CNT1.LATE : Fld := ⟨458788, 0, 16⟩
def Reg.TXN.CNT1.ROLLBACK : Fld := ⟨458788, 16, 16⟩
def Reg.TXN.IMPL.REJ : Fld := ⟨458792, 0, 16⟩
def Reg.TXN.IMPL.IGN : Fld := ⟨458792, 16, 16⟩
def Reg.TXN.SCENE.USED : Fld := ⟨458800, 0, 9⟩
def Reg.TXN.SCENE.FREE : Fld := ⟨458800, 9, 12⟩
def Reg.TXN.SCSEQ.SEQ : Fld := ⟨458804, 0, 32⟩
def Reg.TXN.CTRL.CLR_CNT : Fld := ⟨458812, 0, 1⟩
def Reg.TIME.CTRL.CLR_CNT : Fld := ⟨524288, 0, 1⟩
def Reg.TIME.STATUS.STEPPED : Fld := ⟨524292, 0, 1⟩
def Reg.TIME.STATUS.OFFALM : Fld := ⟨524292, 1, 1⟩
def Reg.TIME.STATUS.STEPSRC : Fld := ⟨524292, 4, 4⟩
def Reg.TIME.STATUS.EPOCHS : Fld := ⟨524292, 8, 8⟩
def Reg.TIME.NOW_S_LO.S_LO : Fld := ⟨524304, 0, 32⟩
def Reg.TIME.NOW_S_HI.S_HI : Fld := ⟨524308, 0, 16⟩
def Reg.TIME.NOW_NS.NS : Fld := ⟨524312, 0, 30⟩
def Reg.TIME.NOW_FR.FR : Fld := ⟨524316, 0, 16⟩
def Reg.TIME.SLOPE.LIMIT : Fld := ⟨524320, 0, 10⟩
def Reg.TIME.SLOPE.OFFALM : Fld := ⟨524320, 16, 16⟩
def Reg.TIME.RATE.Y : Fld := ⟨524324, 0, 32⟩
def Reg.TIME.OFFSET.THETA : Fld := ⟨524328, 0, 32⟩
def Reg.TIME.PTPCLK.TYPE : Fld := ⟨524336, 0, 2⟩
def Reg.TIME.PTPCLK.PROFILE : Fld := ⟨524336, 2, 2⟩
def Reg.TIME.PTPCLK.DOMAIN : Fld := ⟨524336, 4, 8⟩
def Reg.TIME.PTPCLK.PRIO1 : Fld := ⟨524336, 12, 8⟩
def Reg.TIME.PTPCLK.PRIO2 : Fld := ⟨524336, 20, 8⟩
def Reg.TIME.PTPCLK.GMCAP : Fld := ⟨524336, 28, 1⟩
def Reg.TIME.PTPCLK.TWOSTEP : Fld := ⟨524336, 29, 1⟩
def Reg.TIME.GMQ.CLASS : Fld := ⟨524340, 0, 8⟩
def Reg.TIME.GMQ.ACC : Fld := ⟨524340, 8, 8⟩
def Reg.TIME.GMQ.VAR : Fld := ⟨524340, 16, 16⟩
def Reg.TIME.PTPINT.SYNC : Fld := ⟨524344, 0, 4⟩
def Reg.TIME.PTPINT.ANN : Fld := ⟨524344, 4, 4⟩
def Reg.TIME.PTPINT.DREQ : Fld := ⟨524344, 8, 4⟩
def Reg.TIME.PTPINT.ANNTO : Fld := ⟨524344, 12, 4⟩
def Reg.TIME.AUTH.SPP : Fld := ⟨524348, 0, 8⟩
def Reg.TIME.AUTH.KEYID : Fld := ⟨524348, 8, 8⟩
def Reg.TIME.AUTH.EN : Fld := ⟨524348, 16, 1⟩
def Reg.TIME.PORT.PCFG.EN (i : Nat) : Fld := ⟨524352 + 16 * i, 0, 1⟩
def Reg.TIME.PORT.PCFG.DELAY (i : Nat) : Fld := ⟨524352 + 16 * i, 1, 1⟩
def Reg.TIME.PORT.PCFG.MODE (i : Nat) : Fld := ⟨524352 + 16 * i, 2, 2⟩
def Reg.TIME.PORT.PCFG.AUTHREQ (i : Nat) : Fld := ⟨524352 + 16 * i, 4, 1⟩
def Reg.TIME.PORT.PSTAT.STATE (i : Nat) : Fld := ⟨524356 + 16 * i, 0, 4⟩
def Reg.TIME.PORT.PSTAT.MLD (i : Nat) : Fld := ⟨524356 + 16 * i, 16, 16⟩
def Reg.TIME.PORT.PASYM.INLAT (i : Nat) : Fld := ⟨524360 + 16 * i, 0, 16⟩
def Reg.TIME.PORT.PASYM.EGLAT (i : Nat) : Fld := ⟨524360 + 16 * i, 16, 16⟩
def Reg.TIME.PORT.PCNT.AUTHFAIL (i : Nat) : Fld := ⟨524364 + 16 * i, 0, 16⟩
def Reg.TIME.PORT.PCNT.DISCARD (i : Nat) : Fld := ⟨524364 + 16 * i, 16, 16⟩
def Reg.TIME.EVCFG.EN (i : Nat) : Fld := ⟨524544 + 4 * i, 0, 1⟩
def Reg.TIME.EVCFG.EDGE (i : Nat) : Fld := ⟨524544 + 4 * i, 1, 2⟩
def Reg.TIME.EVCFG.FILT (i : Nat) : Fld := ⟨524544 + 4 * i, 3, 8⟩
def Reg.TIME.EVCFG.DIV (i : Nat) : Fld := ⟨524544 + 4 * i, 11, 16⟩
def Reg.TIME.EVSTAT.LOST (i : Nat) : Fld := ⟨524608 + 4 * i, 0, 16⟩
def Reg.TIME.EVSTAT.CLOSE (i : Nat) : Fld := ⟨524608 + 4 * i, 16, 16⟩
def Reg.TIME.ST.TS_LO (i : Nat) : Fld := ⟨524800 + 32 * i, 0, 32⟩
def Reg.TIME.ST.TS_HI (i : Nat) : Fld := ⟨524804 + 32 * i, 0, 16⟩
def Reg.TIME.ST.TNS (i : Nat) : Fld := ⟨524808 + 32 * i, 0, 30⟩
def Reg.TIME.ST.WIDTH (i : Nat) : Fld := ⟨524812 + 32 * i, 0, 30⟩
def Reg.TIME.ST.PERIOD (i : Nat) : Fld := ⟨524816 + 32 * i, 0, 30⟩
def Reg.TIME.ST.CTRL.ARM (i : Nat) : Fld := ⟨524820 + 32 * i, 0, 1⟩
def Reg.TIME.ST.CTRL.DISARM (i : Nat) : Fld := ⟨524820 + 32 * i, 1, 1⟩
def Reg.TIME.ST.CTRL.POL (i : Nat) : Fld := ⟨524820 + 32 * i, 2, 1⟩
def Reg.TIME.ST.CTRL.STAT (i : Nat) : Fld := ⟨524820 + 32 * i, 3, 3⟩
def Reg.REFSEL.CTRL.CLR_CNT : Fld := ⟨589824, 0, 1⟩
def Reg.REFSEL.CTRL.FORCEHO : Fld := ⟨589824, 1, 1⟩
def Reg.REFSEL.CFG.WTR : Fld := ⟨589828, 0, 12⟩
def Reg.REFSEL.CFG.DIS : Fld := ⟨589828, 12, 8⟩
def Reg.REFSEL.CFG.BW : Fld := ⟨589828, 20, 2⟩
def Reg.REFSEL.HCFG.WIN : Fld := ⟨589832, 0, 10⟩
def Reg.REFSEL.HCFG.GAP : Fld := ⟨589832, 10, 9⟩
def Reg.REFSEL.STATUS.SEL : Fld := ⟨589836, 0, 4⟩
def Reg.REFSEL.STATUS.STATE : Fld := ⟨589836, 4, 2⟩
def Reg.REFSEL.STATUS.EQALM : Fld := ⟨589836, 6, 1⟩
def Reg.REFSEL.STATUS.HOVALID : Fld := ⟨589836, 7, 1⟩
def Reg.REFSEL.HOSECS.SECS : Fld := ⟨589840, 0, 32⟩
def Reg.REFSEL.HOFREQ.FREQ : Fld := ⟨589844, 0, 32⟩
def Reg.REFSEL.CNT.SWITCH : Fld := ⟨589848, 0, 16⟩
def Reg.REFSEL.CNT.HOLD : Fld := ⟨589848, 16, 16⟩
def Reg.REFSEL.SLOT.CFG.EN (i : Nat) : Fld := ⟨589888 + 16 * i, 0, 1⟩
def Reg.REFSEL.SLOT.CFG.PRIO (i : Nat) : Fld := ⟨589888 + 16 * i, 2, 4⟩
def Reg.REFSEL.SLOT.CFG.QUAL (i : Nat) : Fld := ⟨589888 + 16 * i, 6, 8⟩
def Reg.REFSEL.SLOT.CFG.NOM (i : Nat) : Fld := ⟨589888 + 16 * i, 14, 2⟩
def Reg.REFSEL.SLOT.CFG.FWIN (i : Nat) : Fld := ⟨589888 + 16 * i, 16, 8⟩
def Reg.REFSEL.SLOT.STAT.QUALIFIED (i : Nat) : Fld := ⟨589892 + 16 * i, 0, 1⟩
def Reg.REFSEL.SLOT.STAT.SELECTABLE (i : Nat) : Fld := ⟨589892 + 16 * i, 1, 1⟩
def Reg.REFSEL.SLOT.STAT.OUTVOTED (i : Nat) : Fld := ⟨589892 + 16 * i, 2, 1⟩
def Reg.REFSEL.SLOT.STAT.REASON (i : Nat) : Fld := ⟨589892 + 16 * i, 3, 4⟩
def Reg.REFSEL.SLOT.STAT.EFFQ (i : Nat) : Fld := ⟨589892 + 16 * i, 8, 8⟩
def Reg.REFSEL.SLOT.STAT.WTRLEFT (i : Nat) : Fld := ⟨589892 + 16 * i, 16, 12⟩
def Reg.REFSEL.SLOT.FREQ (i : Nat) : Fld := ⟨589896 + 16 * i, 0, 32⟩
def Reg.REFSEL.SLOT.CNT.DISQ (i : Nat) : Fld := ⟨589900 + 16 * i, 0, 16⟩
def Reg.REFSEL.SLOT.CNT.PHIT (i : Nat) : Fld := ⟨589900 + 16 * i, 16, 16⟩
def Reg.REFSEL.OUT.CFG.EN (i : Nat) : Fld := ⟨590080 + 16 * i, 0, 1⟩
def Reg.REFSEL.OUT.CFG.POL (i : Nat) : Fld := ⟨590080 + 16 * i, 1, 1⟩
def Reg.REFSEL.OUT.CFG.RATE (i : Nat) : Fld := ⟨590080 + 16 * i, 2, 2⟩
def Reg.REFSEL.OUT.CFG.WIDTH (i : Nat) : Fld := ⟨590080 + 16 * i, 4, 20⟩
def Reg.REFSEL.OUT.OFS.OFFSET (i : Nat) : Fld := ⟨590084 + 16 * i, 0, 32⟩
def Reg.REFSEL.OUT.STAT.ALIGNED (i : Nat) : Fld := ⟨590088 + 16 * i, 0, 1⟩
def Reg.REFSEL.OUT.STAT.MIS (i : Nat) : Fld := ⟨590088 + 16 * i, 2, 30⟩
def Reg.NET.CTRL.CLR_CNT : Fld := ⟨655360, 0, 1⟩
def Reg.NET.SW.BRG0 : Fld := ⟨655364, 0, 2⟩
def Reg.NET.SW.BRG1 : Fld := ⟨655364, 2, 2⟩
def Reg.NET.SW.BRG2 : Fld := ⟨655364, 4, 2⟩
def Reg.NET.SW.BRG3 : Fld := ⟨655364, 6, 2⟩
def Reg.NET.SW.UNREG : Fld := ⟨655364, 8, 1⟩
def Reg.NET.SW.AGE : Fld := ⟨655364, 16, 16⟩
def Reg.NET.SWSTAT.FDB : Fld := ⟨655368, 0, 14⟩
def Reg.NET.SWSTAT.MCG : Fld := ⟨655368, 16, 12⟩
def Reg.NET.PORT.CFG.EN (i : Nat) : Fld := ⟨655616 + 64 * i, 0, 1⟩
def Reg.NET.PORT.CFG.SPEED (i : Nat) : Fld := ⟨655616 + 64 * i, 1, 1⟩
def Reg.NET.PORT.CFG.FEC (i : Nat) : Fld := ⟨655616 + 64 * i, 2, 2⟩
def Reg.NET.PORT.CFG.GUARD (i : Nat) : Fld := ⟨655616 + 64 * i, 4, 1⟩
def Reg.NET.PORT.CFG.MTU (i : Nat) : Fld := ⟨655616 + 64 * i, 5, 14⟩
def Reg.NET.PORT.MAC_LO (i : Nat) : Fld := ⟨655620 + 64 * i, 0, 32⟩
def Reg.NET.PORT.MAC_HI (i : Nat) : Fld := ⟨655624 + 64 * i, 0, 16⟩
def Reg.NET.PORT.IP.ADDR (i : Nat) : Fld := ⟨655628 + 64 * i, 0, 32⟩
def Reg.NET.PORT.NETM.PREFIX (i : Nat) : Fld := ⟨655632 + 64 * i, 0, 6⟩
def Reg.NET.PORT.GW (i : Nat) : Fld := ⟨655636 + 64 * i, 0, 32⟩
def Reg.NET.PORT.QOS.VID (i : Nat) : Fld := ⟨655640 + 64 * i, 0, 12⟩
def Reg.NET.PORT.QOS.PCPM (i : Nat) : Fld := ⟨655640 + 64 * i, 12, 3⟩
def Reg.NET.PORT.QOS.PCPP (i : Nat) : Fld := ⟨655640 + 64 * i, 15, 3⟩
def Reg.NET.PORT.QOS.DSCPM (i : Nat) : Fld := ⟨655640 + 64 * i, 18, 6⟩
def Reg.NET.PORT.QOS.DSCPP (i : Nat) : Fld := ⟨655640 + 64 * i, 24, 6⟩
def Reg.NET.PORT.STAT.LINK (i : Nat) : Fld := ⟨655644 + 64 * i, 0, 1⟩
def Reg.NET.PORT.STAT.FECLOCK (i : Nat) : Fld := ⟨655644 + 64 * i, 1, 1⟩
def Reg.NET.PORT.STAT.TXLOAD (i : Nat) : Fld := ⟨655644 + 64 * i, 16, 10⟩
def Reg.NET.PORT.RXFRM (i : Nat) : Fld := ⟨655648 + 64 * i, 0, 32⟩
def Reg.NET.PORT.TXFRM (i : Nat) : Fld := ⟨655652 + 64 * i, 0, 32⟩
def Reg.NET.PORT.RXERR.FCS (i : Nat) : Fld := ⟨655656 + 64 * i, 0, 16⟩
def Reg.NET.PORT.RXERR.DROP (i : Nat) : Fld := ⟨655656 + 64 * i, 16, 16⟩
def Reg.NET.PORT.TXDROP.BE (i : Nat) : Fld := ⟨655660 + 64 * i, 0, 16⟩
def Reg.NET.PORT.TXDROP.SCHED (i : Nat) : Fld := ⟨655660 + 64 * i, 16, 16⟩
def Reg.STRM.CTRL.CLR_CNT : Fld := ⟨786432, 0, 1⟩
def Reg.STRM.COUNT.RXOPEN : Fld := ⟨786436, 0, 10⟩
def Reg.STRM.COUNT.TXOPEN : Fld := ⟨786436, 16, 10⟩
def Reg.STRM.CHANS.RXCH : Fld := ⟨786440, 0, 13⟩
def Reg.STRM.CHANS.TXCH : Fld := ⟨786440, 16, 13⟩
def Reg.STRM.DOWN.RX : Fld := ⟨786444, 0, 10⟩
def Reg.STRM.DOWN.PATH : Fld := ⟨786444, 10, 10⟩
def Reg.STRM.RXMAP.OPEN (i : Nat) : Fld := ⟨786496 + 4 * i, 0, 32⟩
def Reg.STRM.TXMAP.OPEN (i : Nat) : Fld := ⟨786560 + 4 * i, 0, 32⟩
def Reg.SAP.P.CFG.EN (i : Nat) : Fld := ⟨851968 + 64 * i, 0, 1⟩
def Reg.SAP.P.CFG.ROLE (i : Nat) : Fld := ⟨851968 + 64 * i, 1, 1⟩
def Reg.SAP.P.CFG.FORMAT (i : Nat) : Fld := ⟨851968 + 64 * i, 2, 2⟩
def Reg.SAP.P.CFG.PATH (i : Nat) : Fld := ⟨851968 + 64 * i, 4, 1⟩
def Reg.SAP.P.CFG.PACK (i : Nat) : Fld := ⟨851968 + 64 * i, 5, 2⟩
def Reg.SAP.P.CFG.TXHIZ (i : Nat) : Fld := ⟨851968 + 64 * i, 7, 1⟩
def Reg.SAP.P.CFG.BCLKPOL (i : Nat) : Fld := ⟨851968 + 64 * i, 8, 1⟩
def Reg.SAP.P.CFG.FSPOL (i : Nat) : Fld := ⟨851968 + 64 * i, 9, 1⟩
def Reg.SAP.P.CFG.FSDLY (i : Nat) : Fld := ⟨851968 + 64 * i, 10, 1⟩
def Reg.SAP.P.CFG.FSW (i : Nat) : Fld := ⟨851968 + 64 * i, 11, 1⟩
def Reg.SAP.P.CFG.WSRC (i : Nat) : Fld := ⟨851968 + 64 * i, 12, 3⟩
def Reg.SAP.P.FRAME.NSLOT (i : Nat) : Fld := ⟨851972 + 64 * i, 0, 6⟩
def Reg.SAP.P.FRAME.SW (i : Nat) : Fld := ⟨851972 + 64 * i, 6, 2⟩
def Reg.SAP.P.FRAME.DW (i : Nat) : Fld := ⟨851972 + 64 * i, 8, 2⟩
def Reg.SAP.P.SLOTMASK_NEXT.MASK (i : Nat) : Fld := ⟨851976 + 64 * i, 0, 32⟩
def Reg.SAP.P.SLOTMASK.MASK (i : Nat) : Fld := ⟨851980 + 64 * i, 0, 32⟩
def Reg.SAP.P.MCTRL.ARM (i : Nat) : Fld := ⟨851984 + 64 * i, 0, 1⟩
def Reg.SAP.P.MCTRL.HARD (i : Nat) : Fld := ⟨851984 + 64 * i, 1, 1⟩
def Reg.SAP.P.MCTRL.MFLEN (i : Nat) : Fld := ⟨851984 + 64 * i, 2, 4⟩
def Reg.SAP.P.MCTRL.ZC (i : Nat) : Fld := ⟨851984 + 64 * i, 6, 1⟩
def Reg.SAP.P.STATUS.STATE (i : Nat) : Fld := ⟨851988 + 64 * i, 0, 2⟩
def Reg.SAP.P.STATUS.TAG (i : Nat) : Fld := ⟨851988 + 64 * i, 2, 4⟩
def Reg.SAP.P.STATUS.LOS (i : Nat) : Fld := ⟨851988 + 64 * i, 6, 1⟩
def Reg.SAP.P.STATUS.FREQ (i : Nat) : Fld := ⟨851988 + 64 * i, 7, 1⟩
def Reg.SAP.P.STATUS.CFGERR (i : Nat) : Fld := ⟨851988 + 64 * i, 8, 1⟩
def Reg.SAP.P.STATUS.FADE (i : Nat) : Fld := ⟨851988 + 64 * i, 9, 1⟩
def Reg.SAP.P.CNT0.OVR (i : Nat) : Fld := ⟨851992 + 64 * i, 0, 16⟩
def Reg.SAP.P.CNT0.UND (i : Nat) : Fld := ⟨851992 + 64 * i, 16, 16⟩
def Reg.SAP.P.CNT1.SLIPDROP (i : Nat) : Fld := ⟨851996 + 64 * i, 0, 16⟩
def Reg.SAP.P.CNT1.SLIPREP (i : Nat) : Fld := ⟨851996 + 64 * i, 16, 16⟩
def Reg.SAP.P.ERR.TAGERR (i : Nat) : Fld := ⟨852000 + 64 * i, 0, 16⟩
def Reg.SAP.P.ERR.LOSCNT (i : Nat) : Fld := ⟨852000 + 64 * i, 16, 16⟩
def Reg.SAP.P.RATE.PPB (i : Nat) : Fld := ⟨852004 + 64 * i, 0, 32⟩
def Reg.SAP.P.PHASE.PHI (i : Nat) : Fld := ⟨852008 + 64 * i, 0, 16⟩
def Reg.SAP.P.CTRL.CLR_CNT (i : Nat) : Fld := ⟨852012 + 64 * i, 0, 1⟩
def Reg.MOD.CTRL.CLR_CNT : Fld := ⟨1048576, 0, 1⟩
def Reg.MOD.CTRL.LOCK : Fld := ⟨1048576, 1, 1⟩
def Reg.MOD.STOP.FILT : Fld := ⟨1048580, 0, 8⟩
def Reg.MOD.STOP.LATCH : Fld := ⟨1048580, 8, 1⟩
def Reg.MOD.STOP.RELRAMP : Fld := ⟨1048580, 9, 11⟩
def Reg.MOD.STOP.PIN : Fld := ⟨1048580, 20, 1⟩
def Reg.MOD.STOP.LATCHED : Fld := ⟨1048580, 21, 1⟩
def Reg.MOD.STOP.RING : Fld := ⟨1048580, 22, 1⟩
def Reg.MOD.BANDCFG.GUARD : Fld := ⟨1048584, 0, 6⟩
def Reg.MOD.BANDCFG.LW : Fld := ⟨1048584, 6, 1⟩
def Reg.MOD.CNT.PINSTOP : Fld := ⟨1048588, 0, 16⟩
def Reg.MOD.CNT.RINGSTOP : Fld := ⟨1048588, 16, 16⟩
def Reg.MOD.BAND.FREQ (i : Nat) : Fld := ⟨1048640 + 4 * i, 0, 16⟩
def Reg.MOD.BAND.GUARD (i : Nat) : Fld := ⟨1048640 + 4 * i, 16, 8⟩
def Reg.MOD.BAND.EN (i : Nat) : Fld := ⟨1048640 + 4 * i, 31, 1⟩
def Reg.MOD.G.CFG.EN (i : Nat) : Fld := ⟨1048832 + 32 * i, 0, 1⟩
def Reg.MOD.G.CFG.ABOVE (i : Nat) : Fld := ⟨1048832 + 32 * i, 1, 1⟩
def Reg.MOD.G.CFG.DT (i : Nat) : Fld := ⟨1048832 + 32 * i, 2, 10⟩
def Reg.MOD.G.CFG.MINPW (i : Nat) : Fld := ⟨1048832 + 32 * i, 12, 10⟩
def Reg.MOD.G.CFG.BOOT (i : Nat) : Fld := ⟨1048832 + 32 * i, 22, 8⟩
def Reg.MOD.G.CFG.SCEN (i : Nat) : Fld := ⟨1048832 + 32 * i, 30, 1⟩
def Reg.MOD.G.CAR.IMIN (i : Nat) : Fld := ⟨1048836 + 32 * i, 0, 12⟩
def Reg.MOD.G.CAR.IMAX (i : Nat) : Fld := ⟨1048836 + 32 * i, 12, 12⟩
def Reg.MOD.G.CARSTAT.FREQ (i : Nat) : Fld := ⟨1048840 + 32 * i, 0, 18⟩
def Reg.MOD.G.CARSTAT.CARFAIL (i : Nat) : Fld := ⟨1048840 + 32 * i, 18, 1⟩
def Reg.MOD.G.CARSTAT.CONFL (i : Nat) : Fld := ⟨1048840 + 32 * i, 19, 4⟩
def Reg.MOD.G.RAIL.VNOM (i : Nat) : Fld := ⟨1048844 + 32 * i, 0, 16⟩
def Reg.MOD.G.RAIL.RAILFS (i : Nat) : Fld := ⟨1048844 + 32 * i, 16, 16⟩
def Reg.MOD.G.RAILLIM.UV (i : Nat) : Fld := ⟨1048848 + 32 * i, 0, 16⟩
def Reg.MOD.G.RAILLIM.OV (i : Nat) : Fld := ⟨1048848 + 32 * i, 16, 16⟩
def Reg.MOD.G.SNS.ISFS (i : Nat) : Fld := ⟨1048852 + 32 * i, 0, 16⟩
def Reg.MOD.G.SNS.VSFS (i : Nat) : Fld := ⟨1048852 + 32 * i, 16, 16⟩
def Reg.MOD.G.STAT.STATE (i : Nat) : Fld := ⟨1048856 + 32 * i, 0, 2⟩
def Reg.MOD.G.STAT.UV (i : Nat) : Fld := ⟨1048856 + 32 * i, 2, 1⟩
def Reg.MOD.G.STAT.OV (i : Nat) : Fld := ⟨1048856 + 32 * i, 3, 1⟩
def Reg.MOD.G.STAT.RAILFAIL (i : Nat) : Fld := ⟨1048856 + 32 * i, 4, 1⟩
def Reg.MOD.G.STAT.STATLOS (i : Nat) : Fld := ⟨1048856 + 32 * i, 5, 1⟩
def Reg.MOD.G.STAT.OTF (i : Nat) : Fld := ⟨1048856 + 32 * i, 6, 1⟩
def Reg.MOD.G.STAT.GDF (i : Nat) : Fld := ⟨1048856 + 32 * i, 7, 1⟩
def Reg.MOD.G.STAT.OTW (i : Nat) : Fld := ⟨1048856 + 32 * i, 8, 1⟩
def Reg.MOD.G.STAT.UVLO (i : Nat) : Fld := ⟨1048856 + 32 * i, 9, 1⟩
def Reg.MOD.G.STAT.CFGERR (i : Nat) : Fld := ⟨1048856 + 32 * i, 10, 1⟩
def Reg.MOD.G.STAT.TEMP (i : Nat) : Fld := ⟨1048856 + 32 * i, 11, 10⟩
def Reg.MOD.G.MEAS.VRAIL (i : Nat) : Fld := ⟨1048860 + 32 * i, 0, 16⟩
def Reg.MOD.G.MEAS.VMIN (i : Nat) : Fld := ⟨1048860 + 32 * i, 16, 16⟩
def Reg.MOD.CH.CFG.KGAIN (i : Nat) : Fld := ⟨1049600 + 16 * i, 0, 18⟩
def Reg.MOD.CH.CFG.EN (i : Nat) : Fld := ⟨1049600 + 16 * i, 18, 1⟩
def Reg.MOD.CH.STAT.STATE (i : Nat) : Fld := ⟨1049604 + 16 * i, 0, 3⟩
def Reg.MOD.CH.STAT.SCN (i : Nat) : Fld := ⟨1049604 + 16 * i, 3, 1⟩
def Reg.MOD.CH.STAT.CLIP (i : Nat) : Fld := ⟨1049604 + 16 * i, 4, 1⟩
def Reg.MOD.CH.STAT.RETRY (i : Nat) : Fld := ⟨1049604 + 16 * i, 5, 2⟩
def Reg.MOD.CH.STAT.ISNSF (i : Nat) : Fld := ⟨1049604 + 16 * i, 7, 1⟩
def Reg.MOD.CH.STAT.VSNSF (i : Nat) : Fld := ⟨1049604 + 16 * i, 8, 1⟩
def Reg.MOD.CH.CNT.CLIP (i : Nat) : Fld := ⟨1049608 + 16 * i, 0, 16⟩
def Reg.MOD.CH.CNT.SC (i : Nat) : Fld := ⟨1049608 + 16 * i, 16, 8⟩
def Reg.MOD.CH.CNT.SNSF (i : Nat) : Fld := ⟨1049608 + 16 * i, 24, 8⟩
def Reg.TILCA.CTRL.CLR_CNT : Fld := ⟨1179648, 0, 1⟩
def Reg.TILCA.CTRL.LOCK : Fld := ⟨1179648, 1, 1⟩
def Reg.TILCA.CFG.RECOV : Fld := ⟨1179652, 0, 11⟩
def Reg.TILCA.CFG.XHOLD : Fld := ⟨1179652, 11, 9⟩
def Reg.TILCA.SUM.RUN : Fld := ⟨1179656, 0, 16⟩
def Reg.TILCA.SUM.DOWN : Fld := ⟨1179656, 16, 16⟩
def Reg.TILCA.FBSUM.FOLD : Fld := ⟨1179660, 0, 8⟩
def Reg.TILCA.FBSUM.MUTED : Fld := ⟨1179660, 8, 8⟩
def Reg.TILCA.FBSUM.ALARM : Fld := ⟨1179660, 16, 8⟩
def Reg.TILCA.G.GCFG.STLIM (i : Nat) : Fld := ⟨1179712 + 16 * i, 0, 10⟩
def Reg.TILCA.G.GCFG.SHYST (i : Nat) : Fld := ⟨1179712 + 16 * i, 10, 6⟩
def Reg.TILCA.G.GSTAT.STATE (i : Nat) : Fld := ⟨1179716 + 16 * i, 0, 2⟩
def Reg.TILCA.G.GSTAT.FG (i : Nat) : Fld := ⟨1179716 + 16 * i, 2, 6⟩
def Reg.TILCA.G.GSTAT.GMUTE (i : Nat) : Fld := ⟨1179716 + 16 * i, 8, 1⟩
def Reg.TILCA.G.GSTAT.CHFOLD (i : Nat) : Fld := ⟨1179716 + 16 * i, 16, 8⟩
def Reg.TILCA.G.GSTAT.CHALM (i : Nat) : Fld := ⟨1179716 + 16 * i, 24, 8⟩
def Reg.TILCA.G.GCNT.MISS (i : Nat) : Fld := ⟨1179720 + 16 * i, 0, 16⟩
def Reg.TILCA.G.GCNT.RESTART (i : Nat) : Fld := ⟨1179720 + 16 * i, 16, 8⟩
def Reg.TILCA.G.GCNT.MECC (i : Nat) : Fld := ⟨1179720 + 16 * i, 24, 8⟩
def Reg.TILCA.G.GLOAD.LOAD (i : Nat) : Fld := ⟨1179724 + 16 * i, 0, 7⟩
def Reg.TILCA.FB.FT0 (i : Nat) : Fld := ⟨1180160 + 4 * i, 0, 6⟩
def Reg.TILCA.FB.FT1 (i : Nat) : Fld := ⟨1180160 + 4 * i, 8, 6⟩
def Reg.TILCA.FB.FT2 (i : Nat) : Fld := ⟨1180160 + 4 * i, 16, 6⟩
def Reg.TILCA.FB.FT3 (i : Nat) : Fld := ⟨1180160 + 4 * i, 24, 6⟩
def Reg.TILCA.FB.MUTED0 (i : Nat) : Fld := ⟨1180160 + 4 * i, 6, 1⟩
def Reg.TILCA.FB.MUTED1 (i : Nat) : Fld := ⟨1180160 + 4 * i, 14, 1⟩
def Reg.TILCA.FB.MUTED2 (i : Nat) : Fld := ⟨1180160 + 4 * i, 22, 1⟩
def Reg.TILCA.FB.MUTED3 (i : Nat) : Fld := ⟨1180160 + 4 * i, 30, 1⟩
def Reg.TILCA.FB.XACT0 (i : Nat) : Fld := ⟨1180160 + 4 * i, 7, 1⟩
def Reg.TILCA.FB.XACT1 (i : Nat) : Fld := ⟨1180160 + 4 * i, 15, 1⟩
def Reg.TILCA.FB.XACT2 (i : Nat) : Fld := ⟨1180160 + 4 * i, 23, 1⟩
def Reg.TILCA.FB.XACT3 (i : Nat) : Fld := ⟨1180160 + 4 * i, 31, 1⟩
def Reg.SYS.VIOL_COUNT.PCIE : Fld := ⟨32, 0, 8⟩
def Reg.SYS.VIOL_COUNT.RING : Fld := ⟨32, 8, 8⟩
def Reg.SYS.VIOL_COUNT.FABRIC : Fld := ⟨32, 16, 8⟩
def Reg.SYS.VIOL_COUNT.DEBUG : Fld := ⟨32, 24, 8⟩
def Reg.HOST.CTRL.CLR_CNT : Fld := ⟨1310720, 0, 1⟩
def Reg.HOST.CTRL.LOCK : Fld := ⟨1310720, 1, 1⟩
def Reg.HOST.CFG.REQ : Fld := ⟨1310724, 0, 1⟩
def Reg.HOST.CFG.DBEN : Fld := ⟨1310724, 1, 1⟩
def Reg.HOST.CFG.FTO : Fld := ⟨1310724, 8, 16⟩
def Reg.HOST.DB_LO.ADDR : Fld := ⟨1310728, 12, 20⟩
def Reg.HOST.DB_HI.ADDR : Fld := ⟨1310732, 0, 32⟩
def Reg.HOST.EVB_LO.ADDR : Fld := ⟨1310736, 12, 20⟩
def Reg.HOST.EVB_HI.ADDR : Fld := ⟨1310740, 0, 32⟩
def Reg.HOST.EVCFG.EN : Fld := ⟨1310744, 0, 1⟩
def Reg.HOST.EVCFG.SIZE : Fld := ⟨1310744, 1, 4⟩
def Reg.HOST.EVCFG.IRQEN : Fld := ⟨1310744, 5, 1⟩
def Reg.HOST.STAT.LINKUP : Fld := ⟨1310752, 0, 1⟩
def Reg.HOST.STAT.CPL0LOST : Fld := ⟨1310752, 1, 1⟩
def Reg.HOST.STAT.LOCKED : Fld := ⟨1310752, 2, 1⟩
def Reg.HOST.STAT.SESS : Fld := ⟨1310752, 3, 5⟩
def Reg.HOST.SCTR_LO.CTR : Fld := ⟨1310756, 0, 32⟩
def Reg.HOST.SCTR_HI.CTR : Fld := ⟨1310760, 0, 32⟩
def Reg.HOST.CNT.EVTLOST : Fld := ⟨1310764, 0, 16⟩
def Reg.HOST.CNT.FTO : Fld := ⟨1310764, 16, 16⟩
def Reg.HOST.RING.CB_LO.ADDR (i : Nat) : Fld := ⟨1310976 + 32 * i, 12, 20⟩
def Reg.HOST.RING.CB_HI.ADDR (i : Nat) : Fld := ⟨1310980 + 32 * i, 0, 32⟩
def Reg.HOST.RING.CPB_LO.ADDR (i : Nat) : Fld := ⟨1310984 + 32 * i, 12, 20⟩
def Reg.HOST.RING.CPB_HI.ADDR (i : Nat) : Fld := ⟨1310988 + 32 * i, 0, 32⟩
def Reg.HOST.RING.CFG.EN (i : Nat) : Fld := ⟨1310992 + 32 * i, 0, 1⟩
def Reg.HOST.RING.CFG.SIZE (i : Nat) : Fld := ⟨1310992 + 32 * i, 1, 4⟩
def Reg.HOST.RING.CFG.QOS (i : Nat) : Fld := ⟨1310992 + 32 * i, 5, 4⟩
def Reg.HOST.RING.CFG.IRQEN (i : Nat) : Fld := ⟨1310992 + 32 * i, 9, 1⟩
def Reg.HOST.RING.STAT.HALT (i : Nat) : Fld := ⟨1310996 + 32 * i, 0, 1⟩
def Reg.HOST.RING.STAT.BADIDX (i : Nat) : Fld := ⟨1310996 + 32 * i, 1, 1⟩
def Reg.HOST.RING.STAT.CPLFULL (i : Nat) : Fld := ⟨1310996 + 32 * i, 2, 1⟩
def Reg.HOST.RING.STAT.CIDX (i : Nat) : Fld := ⟨1310996 + 32 * i, 16, 16⟩
def Reg.HOST.RING.CNT.DONE (i : Nat) : Fld := ⟨1311000 + 32 * i, 0, 16⟩
def Reg.HOST.RING.CNT.DENIED (i : Nat) : Fld := ⟨1311000 + 32 * i, 16, 16⟩
def Reg.SYS.REMAP.SWAP : Fld := ⟨16, 0, 1⟩
def Reg.BUS.CTRL.CLR_CNT : Fld := ⟨1376256, 0, 1⟩
def Reg.BUS.CTRL.LOCK : Fld := ⟨1376256, 1, 1⟩
def Reg.BUS.M.CFG.QOS (i : Nat) : Fld := ⟨1376320 + 16 * i, 0, 4⟩
def Reg.BUS.M.STAT.OUTST (i : Nat) : Fld := ⟨1376324 + 16 * i, 0, 6⟩
def Reg.BUS.M.STAT.CLOSING (i : Nat) : Fld := ⟨1376324 + 16 * i, 6, 1⟩
def Reg.BUS.M.STAT.RESETS (i : Nat) : Fld := ⟨1376324 + 16 * i, 8, 8⟩
def Reg.BUS.M.CNT.ERR (i : Nat) : Fld := ⟨1376328 + 16 * i, 0, 16⟩
def Reg.BUS.T.STAT.PARK (i : Nat) : Fld := ⟨1376768 + 16 * i, 0, 4⟩
def Reg.BUS.T.STAT.PARKED (i : Nat) : Fld := ⟨1376768 + 16 * i, 4, 1⟩
def Reg.BUS.T.STAT.WAITMAX (i : Nat) : Fld := ⟨1376768 + 16 * i, 16, 16⟩
def Reg.BUS.T.LOAD.BUSY (i : Nat) : Fld := ⟨1376772 + 16 * i, 0, 7⟩
def Reg.BUS.T.CNT.TO (i : Nat) : Fld := ⟨1376776 + 16 * i, 0, 16⟩
def Reg.DRAM.CTRL.CLR_CNT : Fld := ⟨1441792, 0, 1⟩
def Reg.DRAM.CTRL.LOCK : Fld := ⟨1441792, 1, 1⟩
def Reg.DRAM.CFG.ECC : Fld := ⟨1441796, 0, 1⟩
def Reg.DRAM.CFG.RANKS : Fld := ⟨1441796, 1, 1⟩
def Reg.DRAM.CFG.DENS : Fld := ⟨1441796, 2, 2⟩
def Reg.DRAM.CFG.RATEA : Fld := ⟨1441796, 4, 2⟩
def Reg.DRAM.CFG.RATEB : Fld := ⟨1441796, 6, 2⟩
def Reg.DRAM.STAT.STATE : Fld := ⟨1441800, 0, 2⟩
def Reg.DRAM.STAT.SET : Fld := ⟨1441800, 2, 1⟩
def Reg.DRAM.STAT.BOK : Fld := ⟨1441800, 3, 1⟩
def Reg.DRAM.STAT.FREQBUSY : Fld := ⟨1441800, 4, 1⟩
def Reg.DRAM.STAT.RETRAIN : Fld := ⟨1441800, 5, 1⟩
def Reg.DRAM.SIZE.USABLE : Fld := ⟨1441804, 0, 16⟩
def Reg.DRAM.TRK.PERIOD : Fld := ⟨1441808, 0, 10⟩
def Reg.DRAM.TRK.EN : Fld := ⟨1441808, 10, 1⟩
def Reg.DRAM.REF.POSTMAX : Fld := ⟨1441812, 0, 4⟩
def Reg.DRAM.REF.FORCED : Fld := ⟨1441812, 16, 16⟩
def Reg.DRAM.ECCCNT.CE : Fld := ⟨1441816, 0, 16⟩
def Reg.DRAM.ECCCNT.RETRYOK : Fld := ⟨1441816, 16, 8⟩
def Reg.DRAM.ECCCNT.UE : Fld := ⟨1441816, 24, 8⟩
def Reg.DRAM.ECCLATE.LATE : Fld := ⟨1441820, 0, 16⟩
def Reg.DRAM.UEADDR_LO.ADDR : Fld := ⟨1441824, 6, 26⟩
def Reg.DRAM.UEADDR_HI.ADDR : Fld := ⟨1441828, 0, 8⟩
def Reg.DRAM.CH.STAT.TRA (i : Nat) : Fld := ⟨1442048 + 32 * i, 0, 1⟩
def Reg.DRAM.CH.STAT.TRB (i : Nat) : Fld := ⟨1442048 + 32 * i, 1, 1⟩
def Reg.DRAM.CH.STAT.MARGINAL (i : Nat) : Fld := ⟨1442048 + 32 * i, 2, 1⟩
def Reg.DRAM.CH.STAT.FAIL (i : Nat) : Fld := ⟨1442048 + 32 * i, 8, 2⟩
def Reg.DRAM.CH.BL0.RDLY (i : Nat) : Fld := ⟨1442052 + 32 * i, 0, 7⟩
def Reg.DRAM.CH.BL0.WDLY (i : Nat) : Fld := ⟨1442052 + 32 * i, 8, 7⟩
def Reg.DRAM.CH.BL0.RWIN (i : Nat) : Fld := ⟨1442052 + 32 * i, 16, 7⟩
def Reg.DRAM.CH.BL0.WWIN (i : Nat) : Fld := ⟨1442052 + 32 * i, 24, 7⟩
def Reg.DRAM.CH.BL1.RDLY (i : Nat) : Fld := ⟨1442056 + 32 * i, 0, 7⟩
def Reg.DRAM.CH.BL1.WDLY (i : Nat) : Fld := ⟨1442056 + 32 * i, 8, 7⟩
def Reg.DRAM.CH.BL1.RWIN (i : Nat) : Fld := ⟨1442056 + 32 * i, 16, 7⟩
def Reg.DRAM.CH.BL1.WWIN (i : Nat) : Fld := ⟨1442056 + 32 * i, 24, 7⟩
def Reg.DRAM.CH.TRK.MARGIN (i : Nat) : Fld := ⟨1442060 + 32 * i, 0, 8⟩
def Reg.DRAM.CH.TRK.BURSTS (i : Nat) : Fld := ⟨1442060 + 32 * i, 16, 16⟩
def Reg.DMA.CTRL.CLR_CNT : Fld := ⟨1507328, 0, 1⟩
def Reg.DMA.START.CH : Fld := ⟨1507332, 0, 32⟩
def Reg.DMA.STOP.CH : Fld := ⟨1507336, 0, 32⟩
def Reg.DMA.APPEND.CH : Fld := ⟨1507340, 0, 32⟩
def Reg.DMA.BUSY.CH : Fld := ⟨1507344, 0, 32⟩
def Reg.DMA.DONE.CH : Fld := ⟨1507348, 0, 32⟩
def Reg.DMA.ERR.CH : Fld := ⟨1507352, 0, 32⟩
def Reg.DMA.CH.CFG.REQ (i : Nat) : Fld := ⟨1507584 + 16 * i, 0, 7⟩
def Reg.DMA.CH.CFG.ERR (i : Nat) : Fld := ⟨1507584 + 16 * i, 7, 1⟩
def Reg.DMA.CH.CFG.QOS (i : Nat) : Fld := ⟨1507584 + 16 * i, 8, 4⟩
def Reg.DMA.CH.CFG.POLL (i : Nat) : Fld := ⟨1507584 + 16 * i, 12, 8⟩
def Reg.DMA.CH.STAT.STATE (i : Nat) : Fld := ⟨1507588 + 16 * i, 0, 3⟩
def Reg.DMA.CH.STAT.WBERR (i : Nat) : Fld := ⟨1507588 + 16 * i, 3, 1⟩
def Reg.DMA.CH.STAT.LAST (i : Nat) : Fld := ⟨1507588 + 16 * i, 4, 3⟩
def Reg.DMA.CH.STAT.APPIGN (i : Nat) : Fld := ⟨1507588 + 16 * i, 8, 8⟩
def Reg.DMA.CH.STAT.REQLOST (i : Nat) : Fld := ⟨1507588 + 16 * i, 16, 8⟩
def Reg.DMA.CH.DPTR_LO.ADDR (i : Nat) : Fld := ⟨1507592 + 16 * i, 6, 26⟩
def Reg.DMA.CH.DPTR_HI.ADDR (i : Nat) : Fld := ⟨1507596 + 16 * i, 0, 32⟩
def Reg.STORE.CTRL.CLR_CNT : Fld := ⟨1572864, 0, 1⟩
def Reg.STORE.STAT.STATE : Fld := ⟨1572868, 0, 2⟩
def Reg.STORE.STAT.JRN : Fld := ⟨1572868, 2, 1⟩
def Reg.STORE.STAT.REC : Fld := ⟨1572868, 3, 1⟩
def Reg.STORE.STAT.PLAY : Fld := ⟨1572868, 4, 4⟩
def Reg.STORE.STAT.TARGETS : Fld := ⟨1572868, 8, 5⟩
def Reg.STORE.CAP.MIB : Fld := ⟨1572872, 0, 22⟩
def Reg.STORE.FREE.MIB : Fld := ⟨1572876, 0, 22⟩
def Reg.STORE.NCFG.RTHR : Fld := ⟨1572880, 0, 8⟩
def Reg.STORE.NCFG.WDIFF : Fld := ⟨1572880, 8, 12⟩
def Reg.STORE.NCFG.SCRUB : Fld := ⟨1572880, 20, 5⟩
def Reg.STORE.RDLIM.LIMIT : Fld := ⟨1572884, 0, 24⟩
def Reg.STORE.ECCCNT.RETRY : Fld := ⟨1572888, 0, 16⟩
def Reg.STORE.ECCCNT.SOFT : Fld := ⟨1572888, 16, 8⟩
def Reg.STORE.ECCCNT.UNCORR : Fld := ⟨1572888, 24, 8⟩
def Reg.STORE.BLK.GROWN : Fld := ⟨1572892, 0, 16⟩
def Reg.STORE.BLK.SPARE : Fld := ⟨1572892, 16, 16⟩
def Reg.STORE.WEAR.MAXEC : Fld := ⟨1572896, 0, 16⟩
def Reg.STORE.WEAR.MINEC : Fld := ⟨1572896, 16, 16⟩
def Reg.STORE.PERF.WR : Fld := ⟨1572900, 0, 16⟩
def Reg.STORE.PERF.RD : Fld := ⟨1572900, 16, 16⟩
def Reg.STORE.SILT.HEAD : Fld := ⟨1572904, 0, 32⟩
def Reg.STORE.BOOT.BOOTED : Fld := ⟨1572908, 0, 1⟩
def Reg.STORE.BOOT.AVALID : Fld := ⟨1572908, 1, 1⟩
def Reg.STORE.BOOT.BVALID : Fld := ⟨1572908, 2, 1⟩
def Reg.STORE.BOOT.INSTALL : Fld := ⟨1572908, 3, 1⟩
def Reg.STORE.BOOT.PROGRESS : Fld := ⟨1572908, 8, 7⟩
def Reg.SEC.CTRL.CLR_CNT : Fld := ⟨1638400, 0, 1⟩
def Reg.SEC.CTRL.LOCK : Fld := ⟨1638400, 1, 1⟩
def Reg.SEC.CFG.UNSIGNED : Fld := ⟨1638404, 0, 1⟩
def Reg.SEC.CFG.RECKEY : Fld := ⟨1638404, 4, 4⟩
def Reg.SEC.STATUS.BOOT : Fld := ⟨1638408, 0, 2⟩
def Reg.SEC.STATUS.REASON : Fld := ⟨1638408, 2, 4⟩
def Reg.SEC.STATUS.CRYPTO : Fld := ⟨1638408, 6, 2⟩
def Reg.SEC.STATUS.KEK : Fld := ⟨1638408, 8, 1⟩
def Reg.SEC.STATUS.EVAL : Fld := ⟨1638408, 9, 1⟩
def Reg.SEC.STATUS.DEBUG : Fld := ⟨1638408, 10, 1⟩
def Reg.SEC.SVN0.STEWARD : Fld := ⟨1638416, 0, 16⟩
def Reg.SEC.SVN0.TILCA : Fld := ⟨1638416, 16, 16⟩
def Reg.SEC.SVN1.KERNEL : Fld := ⟨1638420, 0, 16⟩
def Reg.SEC.RUNSVN.STEWARD : Fld := ⟨1638424, 0, 16⟩
def Reg.SEC.RUNSVN.TILCA : Fld := ⟨1638424, 16, 16⟩
def Reg.SEC.TOKGEN.GEN : Fld := ⟨1638428, 0, 32⟩
def Reg.SEC.CNT.SIGFAIL : Fld := ⟨1638432, 0, 16⟩
def Reg.SEC.CNT.TAMPER : Fld := ⟨1638432, 16, 8⟩
def Reg.SEC.CNT.ZEROISE : Fld := ⟨1638432, 24, 8⟩
def Reg.BKUP.TAMPCFG.EN0 : Fld := ⟨1703968, 0, 1⟩
def Reg.BKUP.TAMPCFG.EN1 : Fld := ⟨1703968, 8, 1⟩
def Reg.BKUP.TAMPCFG.EN2 : Fld := ⟨1703968, 16, 1⟩
def Reg.BKUP.TAMPCFG.EN3 : Fld := ⟨1703968, 24, 1⟩
def Reg.BKUP.TAMPCFG.LEVEL0 : Fld := ⟨1703968, 1, 1⟩
def Reg.BKUP.TAMPCFG.LEVEL1 : Fld := ⟨1703968, 9, 1⟩
def Reg.BKUP.TAMPCFG.LEVEL2 : Fld := ⟨1703968, 17, 1⟩
def Reg.BKUP.TAMPCFG.LEVEL3 : Fld := ⟨1703968, 25, 1⟩
def Reg.BKUP.TAMPCFG.ACTION0 : Fld := ⟨1703968, 2, 1⟩
def Reg.BKUP.TAMPCFG.ACTION1 : Fld := ⟨1703968, 10, 1⟩
def Reg.BKUP.TAMPCFG.ACTION2 : Fld := ⟨1703968, 18, 1⟩
def Reg.BKUP.TAMPCFG.ACTION3 : Fld := ⟨1703968, 26, 1⟩
def Reg.BKUP.TAMPCFG.FILT0 : Fld := ⟨1703968, 4, 4⟩
def Reg.BKUP.TAMPCFG.FILT1 : Fld := ⟨1703968, 12, 4⟩
def Reg.BKUP.TAMPCFG.FILT2 : Fld := ⟨1703968, 20, 4⟩
def Reg.BKUP.TAMPCFG.FILT3 : Fld := ⟨1703968, 28, 4⟩
def Reg.BKUP.TAMPSTAT.LATCH : Fld := ⟨1703972, 0, 4⟩
def Reg.BKUP.TAMPSTAT.LEVEL : Fld := ⟨1703972, 4, 4⟩
def Reg.SYS.RSTCAUSE.POR : Fld := ⟨48, 0, 1⟩
def Reg.SYS.RSTCAUSE.PIN : Fld := ⟨48, 1, 1⟩
def Reg.SYS.RSTCAUSE.WDOG : Fld := ⟨48, 2, 1⟩
def Reg.SYS.RSTCAUSE.LOCKSTEP : Fld := ⟨48, 3, 1⟩
def Reg.SYS.RSTCAUSE.SOFT : Fld := ⟨48, 4, 1⟩
def Reg.SYS.RSTCAUSE.SUPPLY : Fld := ⟨48, 5, 1⟩
def Reg.SYS.RSTCTRL.IOD : Fld := ⟨52, 0, 1⟩
def Reg.SYS.RSTCTRL.KEY : Fld := ⟨52, 8, 8⟩
def Reg.SYS.PWR.STATE : Fld := ⟨56, 0, 3⟩
def Reg.SYS.PWR.CD0OK : Fld := ⟨56, 3, 1⟩
def Reg.SYS.PWR.CD1OK : Fld := ⟨56, 4, 1⟩
def Reg.BKUP.STATUS.ONVBAT : Fld := ⟨1703936, 0, 1⟩
def Reg.BKUP.STATUS.VBATOK : Fld := ⟨1703936, 1, 1⟩
def Reg.BKUP.STATUS.BLOST : Fld := ⟨1703936, 2, 1⟩
def Reg.BKUP.VBAT.MV10 : Fld := ⟨1703940, 0, 10⟩
def Reg.BKUP.LOSSCNT.COUNT : Fld := ⟨1703944, 0, 32⟩
def Reg.SYS.ID.PART : Fld := ⟨0, 0, 16⟩
def Reg.SYS.ID.STEP : Fld := ⟨0, 16, 8⟩
def Reg.SYS.SN_LO.SN : Fld := ⟨4, 0, 32⟩
def Reg.SYS.SN_HI.SN : Fld := ⟨8, 0, 32⟩

end Sys2Proof.Machine
end

