-- ==== Sys2Proof/Machine/State.lean ====
section
/-! DEFINITION. The state of the block as plain data: every register, queue, counter, mode and pin
that the manual gives it, the queue of commands that wait, and the state after reset. -/
namespace Sys2Proof.Machine

/-- Why a command stops the machine: no rule of the manual stops the block, so there is no fault.
Every undefined value is a free value and every violation is silent (R717): safe. [DEDUCED, log 4] -/
inductive Fault where
  deriving DecidableEq, Repr

/-- Why a command is refused.  `notModelled` would be raised by an arm of `exec` that has no meaning
yet; no arm is left so (safe: it stops). [DEDUCED, log 4] -/
inductive Refusal where
  | notModelled (mnemonic : String)
  deriving DecidableEq, Repr

/-- An entry of the silt log (Table 17.4); its CRC is a function of the rest (R851). -/
structure SiltEntry where
  seq : Nat
  code : Nat
  cite : Option Nat
  unstepped : Bool
  cont : Bool
  ncont : Nat
  tick : Nat
  data : List Byte
  deriving DecidableEq, Repr

/-- An event before it is written: TYPE and its 24 payload bytes (R723). -/
structure Evt where
  typ : Nat
  payload : List Byte
  deriving DecidableEq, Repr

/-- An event entry as written to the event ring: SEQ, PHASE and the event (R723 to R725). -/
structure EvtEntry where
  seq : Nat
  phase : Nat
  evt : Evt
  deriving DecidableEq, Repr

/-- A completion (Table 14.4). -/
structure Cpl where
  tag : Nat
  opcode : Nat
  status : Nat
  cidx : Nat
  result : List Byte
  mac : Nat
  phase : Nat := 0
  deriving DecidableEq, Repr

/-- A command in execution on a ring (R691): its descriptor, its opcode, the ring index it was
fetched at, the session key in force when it started (R714), and whether its completion is
discarded (R679, R964). -/
structure Running where
  opcode : Nat
  d : Desc
  key : List Byte := []
  drop : Bool := false
  since : Nat := 0
  deriving DecidableEq, Repr

/-- One command and completion ring pair inside the part (R680 to R684): the known producer index,
the count of fetched descriptors, the completion ring's two indices, and the fetched descriptors. -/
structure RingS where
  cmdP : Nat := 0
  cmdC : Nat := 0
  cplP : Nat := 0
  cplC : Nat := 0
  fetched : List RawDesc := []
  run : Option Running := none
  deriving DecidableEq, Repr

/-- An open session (R710 to R714). -/
structure Session where
  roles : Nat
  gen : Nat
  mask : Nat
  notAfter : Nat
  key : List Byte
  seqs : List Nat
  deriving DecidableEq, Repr

/-- The host interface (chapter 14). -/
structure HostS where
  rings : List RingS := List.replicate 16 {}
  /-- Completions held for CPL0, oldest first (R709). -/
  cpl0Held : List Cpl := []
  evP : Nat := 0
  evC : Nat := 0
  /-- Sequence number of the next event (R724). -/
  evSeq : Nat := 0
  /-- Events waiting for space, oldest first, at most 256 (R725). -/
  evQueue : List Evt := []
  /-- Events lost since the last events-lost event (R725). -/
  evLost : Nat := 0
  sessions : List (Option Session) := List.replicate 16 none
  /-- Whether R715 applies. -/
  lockHard : Bool := false
  /-- Vectors owed a signal at the end of this tick, and those signalled in it (R696). -/
  irqDue : List Nat := []
  irqSent : List Nat := []
  /-- What the part last wrote to host memory: completion entries by ring x 65,536 + slot, event
  entries by slot, responses by address (R685, R699). -/
  cplMem : Tbl Cpl := []
  evtMem : Tbl EvtEntry := []
  rspMem : Tbl (List Byte) := []
  /-- PCI Express completion timeouts beneath the fetch of each ring, one entry for each (R719, R722). -/
  retried : List Nat := []
  deriving DecidableEq, Repr

/-- One latched register group of one requester class (R928, R929): the first register's offset and
the words that the group's further registers read next. -/
structure Latch where
  q : Requester
  first : Nat
  words : List Word
  deriving DecidableEq, Repr

/-- The time base (R414 to R434).  Times are counted in 2^-40 ns, the visible 2^-16 ns with the 24
further bits of R415. [DESIGN CHOICE, log 83] -/
structure TimeS where
  /-- The local time since the PTP epoch. -/
  now : Nat := 0
  /-- The remainder of the increment below 2^-40 ns, in 10^-12 of it (no rounding drift, R415). -/
  rem : Nat := 0
  /-- The same count without the steps of R420 and R431: durations are counted in it. -/
  mono : Nat := 0
  /-- The rate correction y in 10^-12 (`TIME.RATE`). -/
  y : Int := 0
  /-- The estimated frequency of the selected reference in 10^-12, without the slew term. -/
  freq : Int := 0
  /-- The last estimates, newest first, each with the running ns since which it stands (R478, R494). -/
  freqs : List (Nat × Int) := []
  /-- The nominal frequency of the local oscillator in Hz, as ball OSCSEL chose it at power-on reset (R498).
  [DESIGN CHOICE, log 83] -/
  oscHz : Nat := 10000000
  /-- The phase offset in ns. -/
  theta : Int := 0
  /-- A TIME_SET that waits for its PPS edge: seconds and the earliest running time in ns. -/
  ppsSet : Option (Nat × Nat) := none
  /-- The number of the first boundary that the present grid has. -/
  gridFirst : Nat := 0
  deriving DecidableEq, Repr

/-- An accepted RE_EPOCH (R431): the step tick once it is known, and what the new time comes from:
0 the reference, 1 a PPS edge still awaited, 2 a commanded time.  `base` is the commanded time in ns
and `at` the local instant in ns it belongs to. -/
structure EpochS where
  k : Nat
  src : Nat
  base : Nat
  at_ : Nat
  deriving DecidableEq, Repr

/-- An event input's capture state (R456 to R461): the level that its glitch filter holds, none before the first
(R457), and the payloads of the captured edges that wait to be posted, oldest first (R460). -/
structure EvIn where
  last : Option Nat := none
  seen : Nat := 0
  seq : Nat := 0
  ovf : Bool := false
  epoch : Bool := false
  level : Option Bool := none
  queue : List (List Byte) := []
  deriving DecidableEq, Repr

/-- An ARM that waits for the end of the pending pulse: that pulse's start, and the start, WIDTH and PERIOD as they stood
at the write (R464, R467). -/
structure Rearm where
  after : Nat
  start : Nat
  width : Nat
  period : Nat
  deriving DecidableEq, Repr

/-- A launch output (R462 to R467): the armed start in ns, WIDTH and PERIOD as armed, the start and the end of the
pulse in progress, an ARM that waits for the end of the pending pulse, and whether the output stops at the end of the
pulse. -/
structure LaunchOut where
  armed : Option Nat := none
  width : Nat := 0
  period : Nat := 0
  began : Nat := 0
  pulseEnd : Option Nat := none
  rearm : Option Rearm := none
  stopAfter : Bool := false
  deriving DecidableEq, Repr

/-- A PTP message that a port sent last (R440, R446 to R454): its kind, sequenceId and requester, timestamp field in ns,
correctionField in 2^-16 ns, SPP, key ID and ICV of its TLV, what an Announce carries (R418, R440), the marks of a frame
of the node's own (R516, R517), and the Ethernet frame as it left, with its FCS (R450). -/
structure PtpSent where
  kind : PtpKind
  seq : Nat := 0
  requester : Nat := 0
  origin : Int := 0
  correction : Int := 0
  key : Option Nat := none
  clockClass : Nat := 0
  clockAcc : Nat := 0
  variance : Nat := 0
  prio1 : Nat := 0
  prio2 : Nat := 0
  gm : Nat := 0
  steps : Nat := 0
  utc : Int := 0
  spp : Nat := 0
  vid : Nat := 0
  pcp : Nat := 0
  dscp : Nat := 0
  icv : Option Nat := none
  frame : List Byte := []
  fcs : Word := 0
  deriving DecidableEq, Repr

/-- What an Announce says of a clock: the sender's port identity, the grandmaster's identity, priorities and quality, the
steps removed and currentUtcOffset (R418, R440, R470). [PRESUMED, log 15] -/
structure Announced where
  sender : Nat
  gm : Nat
  prio1 : Nat
  cls : Nat
  acc : Nat
  var : Nat
  prio2 : Nat
  steps : Nat
  utc : Int
  deriving DecidableEq, Repr

/-- A foreign master of a port: its latest Announce and the running ns of the last two. [PRESUMED, log 15] -/
structure Foreign where
  ds : Announced
  seen : List Nat
  deriving DecidableEq, Repr

/-- A residence correction in 2^-16 ns that waits for its general message: kind, the port by which that message comes,
sequenceId, and the port identity that it names (R447). -/
structure Owed where
  kind : PtpKind
  from_ : Nat
  seq : Nat
  who : Nat
  res : Int
  deriving DecidableEq, Repr

/-- A PTP port (R435 to R455). -/
structure PtpPort where
  /-- Instant in ns of running time of the last Announce. -/
  lastAnnounce : Option Nat := none
  /-- Consecutive offset measurements that agree within 1 us, the last of them in ns, and the last up to four. -/
  agree : Nat := 0
  offset : Int := 0
  recent : List Int := []
  /-- The path or link delay in ns, which `MLD` shows saturated. -/
  path : Int := 0
  /-- Quality of the Announce in use: clockClass and clockAccuracy. -/
  clockClass : Nat := 255
  clockAcc : Nat := 254
  /-- Requests answered in the second `reqSec` (R442). -/
  reqSec : Nat := 0
  reqs : Nat := 0
  /-- The last Sync's t1, t2 and sequenceId, the last request's departure and sequenceId, and the t2 and t4 of its
  response. -/
  syncT1 : Int := 0
  syncT2 : Int := 0
  syncSeq : Nat := 0
  reqAt : Int := 0
  reqSeq : Nat := 0
  respT2 : Int := 0
  respT4 : Int := 0
  /-- The follow-ups owed, oldest first: their event messages' kind, sequenceId and requester, and the egress time in
  2^-16 ns (R451). -/
  followUps : List (PtpKind × Nat × Nat × Int) := []
  /-- The sequenceId of the next Sync or Announce of its own. -/
  txSeq : Nat := 0
  /-- Residence corrections of general messages that leave by this port (R447). -/
  owed : List Owed := []
  /-- Foreign masters, the Announce in use (R470), and the running ns until which PRE_MASTER lasts. -/
  foreign : List Foreign := []
  parent : Option Announced := none
  preUntil : Option Nat := none
  /-- The message that failed last, so that it counts once in `AUTHFAIL`: kind, sender, sequenceId, ingress (R455). -/
  lastFail : Option (PtpKind × Nat × Nat × Int) := none
  sent : Option PtpSent := none
  deriving DecidableEq, Repr

/-- A reference slot (R468 to R478). -/
structure RefSlot where
  /-- Running time in ns of the last activity. -/
  last : Option Nat := none
  /-- The last phase offset in ns and the measurements of the last 2 activity periods. -/
  theta : Int := 0
  recent : List (Nat × Int) := []
  /-- Gates completed since the source last became active (R475), and the start of this one. -/
  gates : Nat := 0
  gateFrom : Option Nat := none
  /-- The last ten 1 s frequency measurements, newest first: the running ns of each gate's end, and 10^-12 (R483). -/
  freqs : List (Nat × Int) := []
  /-- The running ns at which EN was last set. -/
  enAt : Nat := 0
  /-- Disqualified since EN was last set, and the running ns since which it is qualified (R476). -/
  hit : Bool := false
  since : Option Nat := none
  deriving DecidableEq, Repr

/-- A holdover history entry (R491, R706). -/
structure HistEntry where
  secs : Nat
  slot : Nat
  valid : Bool
  freq : Int
  /-- Written since the last power-on reset (R492). -/
  used : Bool := true
  /-- Written before the last reset of another kind, at which the local time began again (R419, R492). -/
  past : Bool := false
  deriving DecidableEq, Repr

/-- A period in progress that an enable or a REALIGN stretches: its start, the end of its active level and the first
edge of the new grid, in 1/768 ns of running time (R502, R508). -/
structure Stretch where
  start : Int
  high : Int
  next : Int
  deriving DecidableEq, Repr

/-- A clock output (R502 to R508): running, settings as last enabled or realigned, misalignment. -/
structure ClkOut where
  running : Bool := false
  rate : Nat := 0
  pol : Nat := 0
  ofs : Int := 0
  /-- Position of the output's grid of rising edges in ns of running time modulo its period. -/
  phase : Int := 0
  mis : Int := 0
  stretch : Option Stretch := none
  deriving DecidableEq, Repr

/-- Reference selection (chapter 09). -/
structure RefS where
  slots : List RefSlot := List.replicate 10 {}
  history : List HistEntry := []
  /-- Sum and count of the estimated frequency over the ticks since the last history entry (R491). -/
  acc : Int := 0
  accN : Nat := 0
  /-- Start of the present holdover in ns of running time. -/
  holdFrom : Option Nat := none
  /-- Whether one slot stayed selected and qualified since the last history entry (R491). -/
  whole : Bool := false
  outs : List ClkOut := List.replicate 15 {}
  /-- Accepted REALIGNs that wait, first in first: tick and output mask (R507). -/
  realign : List (Nat × Nat) := []
  /-- The partner's TIME frame: SEQ, its arrival in 2^-16 ns, its SLOT, QUAL and STEPPED (R472 to R474). -/
  ptSeq : Nat := 0
  ptRx : Nat := 0
  ptSlot : Nat := 15
  ptQual : Nat := 255
  ptStepped : Bool := false
  /-- Departure of each of this node's TIME frames not yet answered: SEQ and 2^-16 ns. -/
  sentTime : List (Nat × Nat) := []
  deriving DecidableEq, Repr

/-- A gain ramp (R87, R90): from `g0` to `g1` over `n` samples from sample `k0` of frame `l`.  A
settled gain has `n = 0`. -/
structure Ramp where
  g0 : Int
  g1 : Int
  n : Nat
  l : Nat
  k0 : Nat := 0
  deriving DecidableEq, Repr

/-- The mute of a route entry (R91 to R97): its factor in Q2.33 as a ramp, and a zero-crossing wait: the launch
frame and whether the entry goes to silence.  A mute change with ZC set whose entry still feathers holds
the gain reached until the change applies.  [DESIGN CHOICE, log 78] -/
structure MuteS where
  ramp : Ramp
  wait : Option (Nat × Bool) := none
  deriving DecidableEq, Repr

/-- The gains that feather, in the topcoat's graph: strips and cells by parameter key, mutes and skim
gains by route entry (R85 to R97, R965). -/
structure GainS where
  strips : Tbl Ramp := []
  cells : Tbl Ramp := []
  mutes : Tbl MuteS := []
  skims : Tbl Ramp := []
  /-- KGAIN of each modulator channel in Q2.15 (R603). -/
  kgains : Tbl Ramp := []
  /-- Phase origin frame of each test generator (R163). -/
  origins : Tbl Nat := []
  deriving DecidableEq, Repr

/-- A scene record as MRAM holds it (Table 7.3, R405): items by key, and its run of blocks. -/
structure SceneRec where
  planCrc : Nat
  txnId : Nat
  name : List Byte
  secs : Nat
  nsecs : Nat
  items : Tbl Nat
  crc : Word
  first : Nat
  blocks : Nat
  deriving DecidableEq, Repr

/-- The transaction unit (chapter 07).  The states of the two slots, their numbers, owner, launch
tick and crossfade length stand in the TXN registers. -/
structure TxnS where
  /-- The number that the next transaction takes (R369). -/
  next : Nat := 1
  /-- The open slot's items by item key (R364, R967). -/
  items : Tbl Nat := []
  /-- LAT excluding COMP, and COMP, of every entry of the undercoat, as the last TXN_PREPARE computed them, and
  those of the launching slot (R84). -/
  fin : Tbl (Nat × Nat) := []
  lFin : Tbl (Nat × Nat) := []
  /-- Whether the last TXN_PREPARE was validated against the launching slot (R375). -/
  against : Bool := false
  /-- The NOCOVER of the last TXN_PREPARE (R379). -/
  noCover : Bool := false
  /-- The launching slot: its items, its ring (none for a collection), clusters without cover, the
  local instant in ns at which the shadow move ends, whether priming runs, and whether it was
  rolled back and frees at the next boundary (R384, R385, R390). -/
  lItems : Tbl Nat := []
  lRing : Option Nat := none
  lNoCover : List Nat := []
  moveEnd : Nat := 0
  priming : Bool := false
  ending : Bool := false
  /-- The pending low word of the route window (R81). -/
  low : Option (Nat × Nat) := none
  /-- The first collected item discarded by R392, as its key and value, and how many were. -/
  rejected : Option (Nat × Nat) := none
  refused : Nat := 0
  /-- The scene directory in force (R406): records by slot, SEQ, and which copy holds it. -/
  scenes : Tbl SceneRec := []
  dirSeq : Nat := 0
  dirCopy : Nat := 0
  /-- The directory copy that is not current: its SEQ and entries (R406). -/
  prevDir : Nat × Tbl SceneRec := (0, [])
  deriving DecidableEq, Repr

/-- The engine's hold on its plan: the loaded image, its custom kernel signatures, a load in
progress with its ring, and the frames of the start and the stop. -/
structure PlanS where
  image : Option PlanImage := none
  /-- The image being loaded between R235 and R237. -/
  loading : Option PlanImage := none
  /-- The registers that SH fields still read until the first release of a new plan (R937). -/
  shown : Option (Tbl Word) := none
  deriving DecidableEq, Repr

/-- Received samples of one source for one frame: (sample index, value in Q5.30). -/
abbrev Heard := List (Nat × Int)

/-- A late packet's request to the arbiter (R245, R246): its stream (none for a serial slot), the
frame, the cycle after T(n+1) at which it reaches the arbiter, and its samples by source number. -/
structure EddyReq where
  stream : Option Nat
  frame : Nat
  cycle : Nat
  data : List (Nat × Heard)
  /-- The path that its packet came on, and whether an on-time portion of it has already counted it as used. -/
  pathB : Bool := false
  counted : Bool := true
  /-- Whether its packet has been counted as a duplicate for another portion. -/
  dupDone : Bool := false
  deriving DecidableEq, Repr

/-- One lane's part of an admitted pass (R260 to R264): its cost, the cycle after T(n+1) at which it is placed, and
whether it has started. -/
structure PassPart where
  lane : Nat
  cost : Nat
  start : Nat
  started : Bool := false
  deriving DecidableEq, Repr

/-- An admitted pass (R264 to R269, R281): its parts, its start on each die in cycles after T(n+1), the instances of
its cone (true: a new graph's copy), the late samples that it applies, and the logical lane whose fault cone it runs. -/
structure Pass where
  stream : Option Nat
  frame : Nat
  parts : List PassPart
  s0 : Nat
  s1 : Nat
  insts : List (Nat × Bool) := []
  data : List (Nat × Heard) := []
  fault : Option Nat := none
  deriving DecidableEq, Repr

/-- A fault of a logical lane that waits for the arbiter (R277): flat position, logical lane
(cluster x 8 + k), fault class and cycle f. -/
structure FaultReq where
  pos : Nat
  lane : Nat
  cls : Nat
  f : Nat
  deriving DecidableEq, Repr

/-- The concealment state of one source (R249 to R257): the hold buffer, the level and the miss
count. -/
structure Conceal where
  u : List Int := []
  g : Rat := 0
  m : Nat := 0
  deriving DecidableEq, Repr

/-- A silt entry caused by a frame, held for its weir flip (R274, R360): code, DATA, what it concerns (a flat cluster
index, 64 + d for die d, 99 else), and the codes of the lower-level entries from which it may follow.
[DEDUCED, log 89] -/
structure HeldLog where
  code : Nat
  data : List Byte
  scope : Nat := 99
  cites : List Nat := []
  deriving DecidableEq, Repr

/-- The samples of one destination for one frame, by route entry: the graph's part, and the weights in
Q2.33 of the skim path's samples, empty where it has no part (R113). -/
structure DestBlock where
  entry : Nat
  samples : List Int
  skim : List Int := []
  /-- The route word whose skim source those weights apply to. -/
  skimE : Nat := 0
  deriving DecidableEq, Repr

/-- Counters of a frame held until its weir flip (R274, R290). -/
structure HeldCnt where
  newPass : Nat := 0
  dropRes : Nat := 0
  dropDl : Nat := 0
  join : Nat := 0
  replay : Nat := 0
  hold : Nat := 0
  /-- Zero-crossing timeouts (R94) and DRAM delay-line prefetch misses (R35). -/
  zcto : Nat := 0
  prefetch : Nat := 0
  /-- Corrected reads of region memory (R33, R321). -/
  rmce : Nat := 0
  /-- By stream: late-applied and late-dropped packets, duplicates that the arbiter found, and late packets used,
  with their path. -/
  applied : List Nat := []
  dropped : List Nat := []
  dups : List Nat := []
  used : List (Nat × Bool) := []
  deriving DecidableEq, Repr

/-- The engine and the eddy arbiter (chapters 01 and 05). -/
structure EngS where
  /-- The first frame m of the start in force, and the boundary of a stop in progress (R912, R914). -/
  first : Option Nat := none
  stopAt : Option Nat := none
  /-- The frame whose main pass runs. -/
  frame : Nat := 0
  /-- Whether that frame's finish line has passed, and its eddy deadline. -/
  finished : Bool := false
  eddyClosed : Bool := false
  /-- Whether the input block of the next frame has been built (R249). -/
  cutDone : Bool := false
  /-- Samples in the backwater by frame x 65,536 + source: network channels from 0, serial slots
  from 32,768. -/
  water : Tbl Heard := []
  /-- Samples delivered for a frame, same keys (R250), and sources concealed in it. -/
  delivered : Tbl (List Int) := []
  concealed : List Nat := []
  conceal : Tbl Conceal := []
  /-- The concealment states before the frame in the main pass (R256). -/
  concealOld : Tbl Conceal := []
  reqs : List EddyReq := []
  faults : List FaultReq := []
  passes : List Pass := []
  /-- Remaining reserve and free time of each logical lane (R243). -/
  lanes : Tbl (Nat × Nat) := []
  /-- The frame's decided lane faults: the request and the flat position that serves it, none where
  the replay was refused and the lane's outputs hold (R282 to R285). -/
  decided : List (FaultReq × Option Nat) := []
  /-- Clusters that overran in the frame (R49). -/
  overrun : List Nat := []
  counts : HeldCnt := {}
  /-- Counts of serial port records held until the flip of their frame (R274, R586, R590): frame, port, and 0 a receive
  sample that missed its deadline, 1 a sample repeated, 2 a sample dropped. -/
  late : List (Nat × Nat × Nat) := []
  logs : List HeldLog := []
  /-- Lowest reserve and latest ends of the frames of the last 1,000 ms: (frame, lane, cycles) and
  (frame, cluster, percent). -/
  lows : List (Nat × Nat × Nat) := []
  peaks : List (Nat × Nat × Nat) := []
  /-- Die fault flags of the frame (R322). -/
  flag0 : Bool := false
  flag1 : Bool := false
  crc0 : Word := 0
  crc1 : Word := 0
  staged0 : Bool := false
  staged1 : Bool := false
  /-- The destination samples staged for the frame, and those last released (R32, R33). -/
  staged : List DestBlock := []
  /-- What the second die of a Duplex node stages. -/
  stage1 : List DestBlock := []
  released : List DestBlock := []
  /-- The blocks released one tick before. -/
  prior : List DestBlock := []
  /-- Entries with a staging miss in the frame released last, and in the one before (R54). -/
  relMiss : List Nat := []
  priorMiss : List Nat := []
  relFrame : Nat := 0
  /-- The frame from whose release destinations ramp back over 256 smp (R432). -/
  ramp : Option Nat := none
  /-- Clusters with a DRAM delay-line prefetch miss in the frame (R35). -/
  pfMiss : List Nat := []
  /-- The DRAM write block released last of each object, newest sample first, and whether the writes of the frame
  released last were missed (R35, R274). -/
  wrPend : Tbl (List Int) := []
  wrMiss : Bool := false
  deriving DecidableEq, Repr

/-- A write of a lane result that is not yet visible (Table 4.9): of D, A, O, B and L registers, of an
accumulator as multiply ops see it and as the other ops see it, and of a bit slice of both views. -/
inductive LaneWr where
  | d (i : Nat) (v : Word36)
  | a (i v : Nat)
  | o (i v : Nat)
  | b (i v : Nat)
  | l (i v : Nat)
  | accM (i : Nat) (v : Int)
  | accR (i : Nat) (v : Int)
  | accPart (i lo w v : Nat)
  deriving DecidableEq, Repr

/-- A result on its way: the lane cycle at which it becomes readable, its place in R204's order, and the
write. -/
structure LanePend where
  due : Nat
  rank : Nat
  wr : LaneWr
  deriving DecidableEq, Repr

/-- A LOOP or REP in progress (R206): first and last bundle of its body and runs left. -/
structure LaneLoop where
  first : Nat
  last : Nat
  left : Nat
  deriving DecidableEq, Repr

/-- A kernel run (R208 to R212): the bundle to return to, the cycle of its KRUN, the expected count. -/
structure LaneRun where
  ret : Nat
  since : Nat
  expect : Nat
  deriving DecidableEq, Repr

/-- A physical lane position (chapter 04): its lane memory, the logical lane whose pass it runs, the
registers of Table 4.3 (ACC as Q19.60 integers, as multiply ops and as the other ops see them), Yp,
the results on their way, the fetch address, cycles since T(n+1), loops, kernel run, whether the lane
waits on an import line, whether its pass has ended, whether it faulted, import lines whose ready bit
is clear, lines of the pass's transfer list that have not moved, exports of an earlier pass of the tick still due, at
cycles from T(n+1) (R168), the pass's first cycle, the instances that a
repair pass or priming has still to run (table entry, descriptor), those that follow the main schedule, whether the lane has started in the tick, lines
written in it (R171), words corrected in it, and the upset bits of each word of 36 bits and 7 check bits (R175).
[DESIGN CHOICE, log 3] -/
structure LaneP where
  mem : Tbl Word36 := []
  log : Option Nat := none
  d : List Word36 := []
  accM : List Int := []
  accR : List Int := []
  a : List Nat := []
  o : List Nat := []
  b : List Nat := []
  l : List Nat := []
  yp : Word36 := 0
  pend : List LanePend := []
  pc : Nat := 0
  cyc : Nat := 0
  loops : List LaneLoop := []
  run : Option LaneRun := none
  waiting : Bool := false
  halted : Bool := true
  faulted : Bool := false
  unready : List Nat := []
  xfers : List Xfer := []
  late : List Xfer := []
  since : Nat := 0
  seq : Option (List (Nat × Nat)) := none
  next : List (Nat × Nat) := []
  ran : Bool := false
  written : List Nat := []
  fixes : List Nat := []
  upset : Tbl Nat := []
  deriving DecidableEq, Repr

/-- A logical lane (R167, R170, R177): its checkpoint image, BANK, what the plan fixes for it, the pending
values of its side-effect ports (R185), and the last sample of each export as committed (R276). -/
structure LogL where
  image : Tbl Word36 := []
  bank : Nat := 0
  sched : LaneSched := {}
  ports : Tbl Word36 := []
  last : Tbl Word36 := []
  deriving DecidableEq, Repr

/-- The instruction memory and the kernel table of a cluster, with the bundles whose fetch failed and that are not
rewritten yet (R221); unlisted words read 0. -/
structure CluMem where
  code : Tbl (BitVec 64) := []
  kern : Tbl (BitVec 64) := []
  bad : List Nat := []
  deriving DecidableEq, Repr

/-- Lanes, clusters and regions (chapter 04): positions by flat lane index, logical lanes by cluster x 8
+ k, clusters with the copy of their segments in region memory (R235 step 3), region memory by region x
2,097,152 + word, and what the ports' sinks hold by sink (R186). -/
structure LanesS where
  pos : Tbl LaneP := []
  logl : Tbl LogL := []
  cl : Tbl CluMem := []
  seg : Tbl CluMem := []
  region : Tbl Word36 := []
  sinks : Tbl Int := []
  deriving DecidableEq, Repr

/-- State of one biquad section (R135): the last two inputs in Q5.30 and outputs, in Q5.30 for a
single-limb slot and at 72 bits for a double-limb one, 60 of them fraction bits, saturated as R116 states. -/
structure BqS where
  x1 : Int := 0
  x2 : Int := 0
  y1 : Int := 0
  y2 : Int := 0
  deriving DecidableEq, Repr, Inhabited

/-- State of one strip (R62, R63): sections of the high-pass stage, biquad slots, delay and FIR
histories with the newest sample first (of a DRAM delay the head of two frames, R148), the write block that the frame
staged for a DRAM delay (none while it holds), the delay's last delivered sample, limiter detector with 60 fraction
bits, envelopes and hold count, the last sample that the strip's source passed, the last output sample of each of its
kernels (R49, R53), and the strip's last output sample.  A strip starts with detector 0, gains 1.0 and hold count 0.  [DESIGN CHOICE, log 79] -/
structure StripS where
  hp : List BqS := [{}, {}]
  bq : List BqS := []
  delay : List Int := []
  wr : List Int := []
  line : Int := 0
  fir : List Int := []
  rmsM : Int := 0
  rmsG : Int := 8589934592
  pkG : Int := 8589934592
  hold : Nat := 0
  src : Int := 0
  lasts : Tbl Int := []
  out : Int := 0
  deriving DecidableEq, Repr, Inhabited

/-- State of one graph: strips by index, last samples of the columns, compensation lines and last
destination samples by route entry. -/
structure GraphS where
  ins : Tbl StripS := []
  outs : Tbl StripS := []
  cols : Tbl Int := []
  comp : Tbl (List Int) := []
  dst : Tbl Int := []
  deriving DecidableEq, Repr, Inhabited

/-- A meter record (Table 3.8), and the mean square of its RMS level with 60 fraction bits.  Before its first
publication a record holds PEAK 0, RMS 0, GR 1.0 and FRAME 0.  [DESIGN CHOICE, log 79] -/
structure MeterR where
  peak : Nat := 0
  ms : Nat := 0
  rms : Nat := 0
  gr : Int := 8589934592
  sat : Nat := 0
  frame : Nat := 0
  deriving DecidableEq, Repr

/-- The end of a zero-crossing wait in a frame: the entry, whether the timeout ends it, and the mute from the sample
on which the change applies (R92, R94). -/
structure ZcHit where
  entry : Nat
  timeout : Bool
  ramp : Ramp
  deriving DecidableEq, Repr

/-- One die's signal processing: the topcoat's graph, the new graph of a transaction while it is primed
or crossfades in, the last staged sample of each destination by route entry (R49, R53), and the meters of the frame that
is computed, by class x 65,536 + index. -/
structure DspS where
  g : GraphS := {}
  new : Option GraphS := none
  dlast : Tbl Int := []
  pend : Tbl MeterR := []
  /-- Ends of zero-crossing waits that the staged frame meets. -/
  hits : List ZcHit := []
  deriving DecidableEq, Repr

/-- What governed frames before a launch, and the crossfade's old graph (R27, R102): the launch tick, the
crossfade length in ticks, and the topcoat. -/
structure OldS where
  l : Nat
  x : Nat
  params : Tbl Word36
  routes : Tbl (BitVec 64)
  gains : GainS
  regs : Tbl Word
  /-- The changed objects of the transaction: its change cones (R966). -/
  cone : List Nat
  deriving DecidableEq, Repr

/-- A tap capture in progress (R704): taps' entry, samples wanted and taken. -/
structure CaptureS where
  tap : Nat
  want : Nat
  start : Nat
  got : List Int := []
  deriving DecidableEq, Repr

/-- A physical position beside its LSTAT and ROLEMAP registers (R299 to R304): the end of its
self-test in ns of running time, a test passed since the last boundary, consecutive failures, and the instants of its faults. -/
structure PosS where
  testEnd : Option Nat := none
  passed : Bool := false
  fails : Nat := 0
  faults : List Nat := []
  deriving DecidableEq, Repr

/-- A cluster's containment state: next logical lane to rotate, the instant in ns of running time of
its last rotation, the lane that the tick's rotation moves and whether it serves a SELFTEST, the tick in
which a SELFTEST was read that waits for its rotation, the position that one freed, requested memory
tests as boundary and ring, running ones as end in ns of running time and ring, whether a second reload failed
(R238), the variant of the alternate schedule that runs (0 none, 1 entry, 2 steady, 3 exit), and a fault
of this tick (R305 to R320). -/
structure ClusS where
  rotNext : Nat := 0
  rotLast : Nat := 0
  rotating : Option (Nat × Bool) := none
  testWait : Option Nat := none
  testPos : Option Nat := none
  memTest : List (Nat × Nat) := []
  memEnd : List (Nat × Nat) := []
  stuck : Bool := false
  alt : Nat := 0
  faulted : Bool := false
  deriving DecidableEq, Repr

/-- A compute die (R320 to R338, R968 to R970): instants of its die outs in ns of running time,
whether it stays out, the end of a reload, whether DIE_RESET asked for it, whether its reload has ended and a rebuild
follows at the next weir flip, the first frame that it computes after a reload or rebuild, the tick that
decided a rebuild, whether that rebuild has ended and its die joins at the next boundary, and the first frame after a
restart from the initial state, whose release brings its service back. -/
structure DieS where
  outs : List Nat := []
  stays : Bool := false
  reload : Option Nat := none
  asked : Bool := false
  ready : Bool := false
  restart : Option Nat := none
  rebuild : Option Nat := none
  ended : Bool := false
  back : Option Nat := none
  deriving DecidableEq, Repr

/-- Fault containment (chapter 06). -/
structure GuardS where
  pos : Tbl PosS := []
  cl : Tbl ClusS := []
  die0 : DieS := {}
  die1 : DieS := {}
  /-- Instants of silent divergences, in ns of running time (R333). -/
  diverge : List Nat := []
  /-- The retirement map in MRAM: flat lane indices (R304). -/
  retired : List Nat := []
  /-- Tick of the last weir flip, for the authority watchdog (R357). -/
  lastFlip : Nat := 0
  deriving DecidableEq, Repr

/-- The pairing over the Ouvfel link (R339 to R359, R401 to R403). -/
structure OuvS where
  txSeq : Nat := 0
  /-- Frames sent since the last tick boundary, oldest first. -/
  out : List OuvFrame := []
  /-- The partner's last HEARTBEAT: arrival tick, its TICK, NODE, AUTH, STATE, PLANCRC, TOPGEN. -/
  hbTick : Nat := 0
  hbSent : Nat := 0
  hbNode : Nat := 0
  /-- Whether the sender of the last HEARTBEAT is the secondary of the pair (R339). -/
  hbSecond : Bool := true
  hbAuth : Nat := 0
  hbState : Nat := 0
  hbPlan : Nat := 0
  hbGen : Nat := 0
  heard : Bool := false
  /-- Launches since plan load (Table 6.5). -/
  topGen : Nat := 0
  /-- A CONFIG set sent and not yet acknowledged: launch tick and SEQ of its last frame (R346). -/
  cfgWait : Option (Nat × Nat) := none
  /-- The CONFIG set being received, and the one accepted from the partner, by launch tick. -/
  cfgIn : Option (Nat × Tbl Nat) := none
  /-- A state image being received: sequence and words, and one complete for the next boundary. -/
  imgIn : List (Nat × Nat) := []
  imgSeq : Nat := 0
  imgReady : Option (Nat × List (Nat × Nat)) := none
  /-- Instant in ns of running time of the last image sent (R348), and the images sent. -/
  imgLast : Nat := 0
  imgSent : Nat := 0
  /-- A hand-over: tick m, whether this node releases, SEQ of its HANDOVER, acknowledged (R358). -/
  hand : Option (Nat × Bool × Nat × Bool) := none
  /-- Whether AUTH_IN was low for the whole preceding tick (R352). -/
  inLow : Bool := true
  /-- Whether this node releases authority (HEARTBEAT AUTH 2), and the reason for which it took it at the
  last boundary while it may still withdraw (R354, R355). -/
  releasing : Bool := false
  justTaken : Option Nat := none
  deriving DecidableEq, Repr

/-- A receive stream context (Table 10.3) with its record (Table 10.7).  `state`: 0 closed, 1 opens at
tick `at_`, 2 open, 3 closes at tick `at_`, 4 closed, with the packets of frame `at_` still taken (R536). -/
structure RxCtx where
  state : Nat := 0
  at_ : Nat := 0
  format : Nat := 0
  nch : Nat := 1
  ptime : Nat := 0
  rxofs : Nat := 1
  dual : Bool := false
  slipen : Bool := false
  auth : Bool := false
  ssrcchk : Bool := false
  pt : Nat := 0
  porta : Nat := 0
  keyset : Nat := 0
  rtpofs : Nat := 0
  srca : Nat := 0
  dsta : Nat := 0
  udpa : Nat := 0
  ssrc : Nat := 0
  srcb : Nat := 0
  dstb : Nat := 0
  udpb : Nat := 0
  map : List Nat := []
  pktA : Nat := 0
  pktB : Nat := 0
  gapA : Nat := 0
  gapB : Nat := 0
  dup : Nat := 0
  lateApp : Nat := 0
  lateDrop : Nat := 0
  stale : Nat := 0
  conceal : Nat := 0
  slipDrop : Nat := 0
  slipRep : Nat := 0
  authFail : Nat := 0
  fmtErr : Nat := 0
  early : Nat := 0
  /-- Margins of the last 1,000 ms: (instant in ns of running time, margin in 0.1 us). -/
  margins : List (Nat × Int) := []
  upA : Bool := false
  upB : Bool := false
  /-- Last accepted packet of each path: instant in ns of running time and RTP sequence number. -/
  lastA : Option (Nat × Nat) := none
  lastB : Option (Nat × Nat) := none
  /-- Slip offset k, the frame from which it applies and the offset before it (R549, R550); when the
  context opened, the sum and count of the margins in ns of its first second and of the present 50 ms
  window (R548). -/
  slipK : Int := 0
  slipAt : Nat := 0
  slipOld : Int := 0
  openedAt : Nat := 0
  m0Sum : Int := 0
  m0Cnt : Nat := 0
  winSum : Int := 0
  winCnt : Nat := 0
  winFrom : Nat := 0
  /-- When the context closes, where it is told to before it has opened (R536). -/
  closeAt : Option Nat := none
  /-- Authentication: highest CTR, the CTR and tag of every accepted packet, failures of the
  present and the previous 1,000 ms window with its start (R562, R564). -/
  ctrMax : Nat := 0
  ctrSeen : List (Nat × Nat) := []
  failWin : Nat := 0
  failPrev : Nat := 0
  failFrom : Nat := 0
  /-- Late drops of the present 1,000 ms window (R291). -/
  dropWin : Nat := 0
  /-- The record as of the latest weir flip (R565). -/
  pub : List Byte := List.replicate 64 0
  deriving DecidableEq, Repr

/-- The header fields of a copy of a stream packet as it left: VLAN tag (0 none) and PCP, DSCP, time to live, source
and destination addresses and UDP ports, and source MAC address (R514, R516, R517, Table 10.4). -/
structure TxHead where
  port : Nat
  vid : Nat
  pcp : Nat
  dscp : Nat
  ttl : Nat
  src : Nat
  dst : Nat
  sport : Nat
  udp : Nat
  mac : Nat
  deriving DecidableEq, Repr

/-- A packet of a transmit context waiting for its launch (R552 to R557): launch instant and release
flip in ns of local time, RTP timestamp, payload, CTR, tag and RTP sequence number, and the paths it still goes to (true: B). -/
structure TxPkt where
  launch : Nat
  flip : Nat
  rtp : Nat
  payload : List Byte
  ctr : Nat
  tag : Nat
  seq : Nat
  paths : List Bool
  /-- The RTP header as sent, with its extension (R552, R558). -/
  head : List Byte := []
  /-- The headers under which its copies left (R516, R517, R557). -/
  heads : List TxHead := []
  deriving DecidableEq, Repr

/-- A transmit stream context (Table 10.4) with its record (Table 10.8). -/
structure TxCtx where
  state : Nat := 0
  at_ : Nat := 0
  closeAt : Option Nat := none
  format : Nat := 0
  nch : Nat := 1
  ptime : Nat := 0
  dual : Bool := false
  auth : Bool := false
  pt : Nat := 96
  porta : Nat := 0
  lofs : Nat := 0
  keyset : Nat := 0
  ttl : Nat := 1
  rtpofs : Nat := 0
  dsta : Nat := 0
  udpa : Nat := 0
  sport : Nat := 0
  ssrc : Nat := 0
  dstb : Nat := 0
  udpb : Nat := 0
  map : List Nat := []
  pktA : Nat := 0
  pktB : Nat := 0
  txMiss : Nat := 0
  latest : List (Nat × Nat) := []
  ctr : Nat := 0
  rtpSeq : Nat := 0
  /-- Samples gathered for a packet longer than the tick, by sample number since the epoch. -/
  part : List (Nat × List Int) := []
  queue : List TxPkt := []
  /-- The packet sent last, and the record as of the latest weir flip. -/
  sent : Option TxPkt := none
  pub : List Byte := List.replicate 32 0
  deriving DecidableEq, Repr

/-- The stream contexts (chapter 10). -/
structure StrmS where
  rx : Tbl RxCtx := []
  tx : Tbl TxCtx := []
  /-- Receive channels that fade in the frame of their context's closing (R536): frame and channels. -/
  closing : List (Nat × List Nat) := []
  deriving DecidableEq, Repr

/-- A frame in an egress queue of a port: queue 0 to 2 (R522), VLAN tag and size. -/
structure Egress where
  queue : Nat
  bytes : Nat
  deriving DecidableEq, Repr

/-- A reply or report of the node: its port, 0 ARP reply, 1 echo reply, 2 report that joins, 3 report that leaves, the
address it goes to or reports, a report's source (0 for any), its VLAN tag (0 none) and an echo's payload. -/
structure NetReply where
  port : Nat
  kind : Nat
  addr : Nat
  src : Nat := 0
  vid : Nat := 0
  data : List Byte := []
  deriving DecidableEq, Repr

/-- The network ports and the switch (chapter 10). -/
structure NetS where
  /-- Learned addresses: bridge group, MAC, port, instant of the last frame in ns of running time. -/
  fdb : List (Nat × Nat × Nat × Nat) := []
  /-- Registered multicast groups: group address, port, instant of the last report. -/
  mcg : List (Nat × Nat × Nat) := []
  queues : List (List Egress) := List.replicate 4 []
  /-- The node's replies and reports waiting. -/
  replies : List NetReply := []
  /-- Ports behind which a multicast router has shown itself, and the frame that the internal port took last with the
  port by which it came (R520, Table 10.1). -/
  routers : List Nat := []
  inner : Option NetFrame := none
  deriving DecidableEq, Repr

/-- A file of the store (R839); `corrupt` holds the places of its codewords of 4,096 bytes that do not decode
(R813, R815), `blocks` the NAND blocks that hold it (R820). -/
structure FileRec where
  name : List Byte
  data : List Byte
  corrupt : List Nat := []
  blocks : List Nat := []
  deriving DecidableEq, Repr

/-- A pending version (R840, R841): the instant in ns of running time of its last piece. -/
structure PendFile where
  name : List Byte
  data : List Byte
  last : Nat
  blocks : List Nat := []
  deriving DecidableEq, Repr

/-- A block of 64 frames of a take (R831): its first frame, gap map, and per frame the samples of every
channel. -/
structure TakeBlk where
  first : Nat
  gap : Nat := 0
  frames : List (List (List Int)) := []
  deriving DecidableEq, Repr

/-- A take (R828 to R833, R882): `bad` holds what its codewords that do not decode carry (places, first position,
count), `nand` the NAND blocks that hold it (R815, R820). -/
structure Take where
  num : Nat
  width : Nat
  chans : List Nat
  enc : Option (Nat × Nat) := none
  spt : Nat := 12
  blocks : List TakeBlk := []
  bad : List (List Nat × Nat × Nat) := []
  nand : List Nat := []
  deriving DecidableEq, Repr

/-- The take that is armed or records: its boundaries once named, and whether it runs (R829, R830); the frames of
it that are programmed and journaled, and since when in ns of running time (R826, R827). -/
structure RecS where
  take : Nat
  start : Option Nat := none
  stop : Option Nat := none
  running : Bool := false
  done : Nat := 0
  at_ : Nat := 0
  deriving DecidableEq, Repr

/-- An open playback session (R834 to R837): playback channel of each take channel (65,535 skip), the
boundaries named, p0, whether it runs, and spans of positions whose samples came too late. -/
structure PlayS where
  take : Nat
  map : List Nat
  start : Option Nat := none
  p0 : Nat := 0
  stop : Option Nat := none
  running : Bool := false
  missing : List (Nat × Nat) := []
  deriving DecidableEq, Repr

/-- A slot of the boot flash: its image and the 64 bytes of its install record (R842, R843).
[DESIGN CHOICE, log 3] [DEDUCED, log 18] -/
structure BootSlot where
  image : List Byte := []
  record : List Byte := List.replicate 64 0xFF#8
  deriving DecidableEq, Repr

/-- A NAND block: erase count, reads since the last erase, whether it holds data, whether it is marked
for refresh, and the running ns of its last write or scrub (R816 to R823). [DEDUCED, log 71] -/
structure NandBlk where
  erases : Nat := 0
  reads : Nat := 0
  used : Bool := false
  refresh : Bool := false
  seen : Nat := 0
  deriving DecidableEq, Repr

/-- The flash store (chapter 17). [DEDUCED, log 71] -/
structure StoreS where
  formatted : Bool := false
  /-- Good blocks, and all blocks, at the format. -/
  good : Nat := 0
  total : Nat := 0
  /-- Bad-block table: factory and grown. -/
  bad : List Nat := []
  blocks : Tbl NandBlk := []
  /-- Capacity in MiB and grown bad blocks since the format (`STORE.CAP`, `STORE.BLK.GROWN`). -/
  mib : Nat := 0
  grown : Nat := 0
  /-- Blocks left in the spare pool. -/
  spare : Nat := 0
  /-- Journal records since the last checkpoint (R825). -/
  journal : Nat := 0
  files : List FileRec := []
  pend : List PendFile := []
  takes : List Take := []
  nextTake : Nat := 1
  rcd : Option RecS := none
  /-- A take that a reset cut, to be closed at the mount. -/
  cut : Option Nat := none
  plays : Tbl PlayS := []
  /-- A running install: the slot it writes and the staged image. -/
  install : Option (Nat × List Byte) := none
  slotA : BootSlot := {}
  slotB : BootSlot := {}
  deriving DecidableEq, Repr

/-- A stored key: class, slot or set, position (0 current, 1 next), key ID, material (R871). -/
structure KeyRec where
  cls : Nat
  slot : Nat
  pos : Nat
  id : Nat
  key : List Byte
  deriving DecidableEq, Repr

/-- The security engine (chapter 18). -/
structure SecS where
  keys : List KeyRec := []
  /-- The key-encryption key, in the backup domain (R869). -/
  kek : Option (List Byte) := none
  /-- Why the KEK was last lost: 0 lost, 1 tamper, 2 ZEROISE (R878, Table 18.6). -/
  kekCause : Nat := 0
  /-- Active transmit key ID of each stream key set (R875). -/
  active : Tbl Nat := []
  /-- The latest debug challenge: DEVSN, nonce, session counter (R888). -/
  challenge : Option (List Byte) := none
  /-- Tamper trips on VBAT alone, recorded at the next boot: input and action (R885). -/
  trips : List (Nat × Nat) := []
  deriving DecidableEq, Repr

/-- A transaction in the fabric (R729): its target, the generation tag it was issued under, its strobes
by byte, the source beat a DMA transaction starts at and the DMA burst it belongs to, when it was
requested and granted, and whether its response is discarded (R742, R775). -/
structure BusTxn where
  master : Nat
  id : Nat
  write : Bool
  addr : Nat
  target : Nat
  len : Nat
  qos : Nat
  gen : Nat
  data : List Byte
  strobes : List Bool
  since : Nat
  at_ : Nat := 0
  beat : Nat := 0
  burst : Nat := 0
  dead : Bool := false
  deriving DecidableEq, Repr

/-- The last response of a master (R732, R733): ID, read data, whether it is an error. -/
structure BusResp where
  id : Nat
  data : List Byte
  err : Bool
  deriving DecidableEq, Repr

/-- The bus matrix (chapter 15). -/
structure BusS where
  /-- The fabric memories by address: DRAM, SRAM, MRAM, ROM and XSPI; unlisted bytes read 0. -/
  mem : List Host.Cell := []
  /-- Requests that wait for their grant, and transactions granted, in order. -/
  queue : List BusTxn := []
  granted : List BusTxn := []
  resp : Tbl BusResp := []
  /-- Master that a port granted last at a QoS, by port, direction and QoS (R735). -/
  lastQ : Tbl Nat := []
  gens : Tbl Nat := []
  /-- Ports that close a master out: writes completed empty, reads discarded (R742 to R744). -/
  closing : Tbl (Nat × Nat) := []
  /-- Waits from request to grant of the last 1,000 ms: port, running ns, wait in ns. -/
  waits : List (Nat × Nat × Nat) := []
  /-- Spans with a transaction in progress of the last 1,000 ms: port, start, end; start of the present
  one by port. -/
  spans : List (Nat × Nat × Nat) := []
  busyFrom : Tbl Nat := []
  deriving DecidableEq, Repr

/-- A DRAM read that is read once more (R772): its transaction (none for the patrol scrub), the block's
fabric address, running ns of the first data, the upper deadline that acted meanwhile and whether
its entry has been written (R775, R776). -/
structure RetryS where
  txn : Option BusTxn
  block : Nat
  at_ : Nat
  late : Option Nat := none
  told : Bool := false
  deriving DecidableEq, Repr

/-- The memory controller beside its registers. -/
structure DramS where
  /-- Inline ECC as of the training at start-up (R768). -/
  ecc : Bool := false
  /-- Read delay, write delay, read window, write window by set x 16 + channel x 2 + byte lane. -/
  lanes : Tbl (List Nat) := []
  /-- Postponed refreshes by rank, and their counts over the last 1,000 ms (R764). -/
  post : Tbl Nat := []
  postLog : List (Nat × Nat) := []
  /-- Running ns at which a full retrain began (R733, R758). -/
  retrainAt : Nat := 0
  /-- A frequency change that waits: its set and the running ns of its timeout (R760). -/
  freq : Option (Nat × Nat) := none
  /-- Running ns of each channel's last tracking burst, and channels that owe one before the first grant after
  WAKE (R920). -/
  lastTrk : Tbl Nat := []
  owed : List Nat := []
  /-- Blocks whose corrected data is to be written back: running ns and fabric address (R771). -/
  back : List (Nat × Nat) := []
  retries : List RetryS := []
  deriving DecidableEq, Repr

/-- A byte in a channel's holding register (R783, R797): value, strobe, source beat. -/
structure HeldByte where
  byte : Byte
  on : Bool
  beat : Nat
  deriving DecidableEq, Repr

/-- A DMA burst in flight (R787 to R791): its channel, first source beat, beats, the bytes read so far,
transactions whose responses are due, and the byte of the burst at which its host write fails. -/
structure Burst where
  uid : Nat
  ch : Nat
  first : Nat
  beats : Nat
  got : List HeldByte := []
  reads : Nat := 0
  writes : Nat := 0
  wrErr : Option Nat := none
  deriving DecidableEq, Repr

/-- A DMA channel beside its registers (chapter 16): the descriptor in hand, whether a fetch is due,
beats issued, bursts issued on a request line, destination bytes written, pending requests, holding
register, bytes written with their strobes, the error (cause, beat), the append flag, running ns of
the last link read. -/
structure DmaCh where
  desc : Option DmaDesc := none
  fetch : Bool := false
  issued : Nat := 0
  reqs : Nat := 0
  src : Nat := 0
  dst : Nat := 0
  pend : List Nat := []
  hold : List HeldByte := []
  wrote : List Byte := []
  err : Option (Nat × Nat) := none
  cite : Option Nat := none
  append : Bool := false
  polled : Nat := 0
  deriving DecidableEq, Repr

/-- The DMA engines. -/
structure DmaS where
  chans : List DmaCh := List.replicate 32 {}
  flight : List Burst := []
  uid : Nat := 1
  /-- Channel granted last, by engine and QoS (R790). -/
  lastCh : Tbl Nat := []
  /-- What channels wrote to host memory, by byte address. -/
  host : Tbl Byte := []
  deriving DecidableEq, Repr

/-- One slot of a serial port (R573 to R592): its mask gain as a ramp over port frames (none: settled as
the mask says), the start and stop mute of each direction as ramps and zero-crossing waits (first port
frame, to silence), the last receive and transmit sample that the mute saw, the last sample sent from
the port buffer, and the underrun gain in Q2.33. -/
structure SapSlot where
  mask : Option Ramp := none
  rx : Ramp := { g0 := 0, g1 := 0, n := 0, l := 0 }
  tx : Ramp := { g0 := 0, g1 := 0, n := 0, l := 0 }
  rxWait : Option (Nat × Bool) := none
  txWait : Option (Nat × Bool) := none
  rxPrev : Int := 0
  txPrev : Int := 0
  sent : Int := 0
  und : Int := 0
  deriving DecidableEq, Repr

/-- A serial port beside its registers (chapter 11).  Frame starts are counted in thirds of a ns of local
time.  `no` numbers its port frames, `last` is its last frame start, `map` is the sample
number of the next port frame and `wrap` whether its phase counts from the instant before (R589). -/
structure SapS where
  no : Nat := 0
  last : Option Nat := none
  from_ : Nat := 0
  /-- Instant of an ARM write, and the port frame at which the armed mask takes effect with that mask and
  its fade length. -/
  arm : Option Nat := none
  swap : Option (Nat × Nat × Nat) := none
  fadeEnd : Nat := 0
  /-- Whether the stop mute has begun. -/
  muting : Bool := false
  map : Option Nat := none
  wrap : Bool := false
  /-- The next port frame underruns (R584). -/
  under : Bool := false
  /-- Blocks of the DMA path: received ones that wait, ones fetched for transmit (R583). -/
  rxq : List (List Word) := []
  txq : List (List Word) := []
  lost : Bool := false
  /-- The ramp after a gap in Q2.33 (R583). -/
  gain : Int := 0
  /-- Slips of the present 1,000 ms window: its start, drops, repeats (R590). -/
  slips : Option (Nat × Nat × Nat) := none
  slots : Tbl SapSlot := []
  /-- What SAP_DO carries in the present port frame, by slot, none for high impedance; and what its last slot carried in the
  one before, whose last bit a data delay puts after the frame start (Table 11.1). -/
  out : List (Option Nat) := []
  tail : Option Nat := none
  deriving DecidableEq, Repr

/-- A gain that moves linearly in running time: from `g0` to `g1` over `len` ns from `from_`. -/
structure TimeRamp where
  g0 : Rat := 1
  g1 : Rat := 1
  from_ : Nat := 0
  len : Rat := 0
  deriving DecidableEq, Repr

/-- A modulator channel beside its registers (chapter 12): its state without any all-stop (Table 12.1), its
start and fault fade, the start of its re-arm ramp and its retries in ns of running time, when it
went off or its probe began, a probe that fell due under an all-stop, its carrier periods in BOOT, the last
clip, the last sample at or above -80 dBFS, the last instant without an injected pilot, the modulation of the present carrier period, its four edges in steps of 156.25 ps from the period's start with their carried
errors, the level of the lower switches in BOOT, and the measured sense offsets. -/
structure ModCh where
  base : Nat := 0
  fade : TimeRamp := {}
  rearm : Option Nat := none
  retries : List Nat := []
  offAt : Nat := 0
  due : Bool := false
  boots : Nat := 0
  clipAt : Option Nat := none
  loudAt : Nat := 0
  noPilot : Nat := 0
  k : Rat := 0
  edges : List Int := []
  err : List Rat := []
  lower : Bool := false
  /-- Level of SC_N as the rows tell it. -/
  scn : Bool := true
  iOfs : Int := 0
  vOfs : Int := 0
  deriving DecidableEq, Repr

/-- A stage group beside its registers: whether an all-stop names it and its gain S, whether the next
start uses the release ramp, the carrier in force in 10 Hz units and one that waits for a tick, the
start of the present carrier period in 2^-40 ns of local time, the carrier periods since step 3 of R619 while the
group is in it, the rail in 0.1 V with its measurements of the last 1 ms and its averages of the last 1,000 ms,
and the instants since which it lies between UV and OV, since which it lies below UV, since which no fault stands
and at which the last valid status frame came, in ns of running time. -/
structure ModG where
  stop : Bool := false
  s : TimeRamp := {}
  rel : Bool := false
  fc : Nat := 0
  next : Option (Nat × Nat) := none
  period : Nat := 0
  boot : Option Nat := none
  inAt : Option Nat := none
  underAt : Option Nat := none
  clearAt : Option Nat := none
  frameAt : Nat := 0
  vrail : Rat := 0
  recent : List (Nat × Rat) := []
  avgs : List (Nat × Rat) := []
  deriving DecidableEq, Repr

/-- Fold-back of Table 13.2: steps of 0.5 dB, mute, start of a recovery ramp and of the fold-back in ns
of running time. -/
structure FoldS where
  k : Nat := 0
  mute : Bool := false
  recov : Option Nat := none
  since : Nat := 0
  deriving DecidableEq, Repr, Inhabited

/-- The model state of one sentinel channel (R645 to R651): temperature rises in K, thermal fold-back,
excursion steps, the excursion filter's state and the last frame over the limit. [DEDUCED, log 47] -/
structure TilM where
  dvc : Rat := 0
  dm : Rat := 0
  ft : FoldS := {}
  fx : Nat := 0
  xs : List Rat := [0, 0, 0, 0]
  overAt : Option Nat := none
  deriving DecidableEq, Repr, Inhabited

/-- A sentinel channel (chapter 13): its record and one that waits for a step instant, its model, the
fold-back gain F as applied, the peaks of the last 1,000 ms in 0.01 mm, the last valid window, the
instants of the valid windows of 60 s, the second at which the last window ended, runs of windows that meet and that do not meet each alarm's
condition, the alarms, the reference, a capture in progress and the published status record. -/
structure TilCh where
  record : List Byte := List.replicate 64 0
  next : List (List Byte × Nat) := []
  m : TilM := {}
  f : Ramp := { g0 := 8589934592, g1 := 8589934592, n := 0, l := 0 }
  peaks : List (Nat × Rat) := []
  zmag : Nat := 0
  zph : Int := 0
  valid : List Nat := []
  winSec : Nat := 0
  met : List Nat := [0, 0, 0, 0]
  unmet : List Nat := [0, 0, 0, 0]
  alarms : List Bool := [false, false, false, false]
  ref : Option (Nat × Int) := none
  capt : Option (List (Nat × Int)) := none
  pub : List Byte := List.replicate 32 0
  deriving DecidableEq, Repr

/-- A sentinel (chapter 13): group fold-back, consecutive misses and whether one fell in this tick, its
faults, the start of its restart and its loads of the last 1,000 ms, in ns of running time, its latest mirror, and whether SENT_RESTART restarts it. -/
structure TilG where
  fg : FoldS := {}
  misses : Nat := 0
  missed : Bool := false
  faults : List Nat := []
  restartAt : Nat := 0
  loads : List (Nat × Nat) := []
  mirror : Option (Nat × List TilM × FoldS) := none
  asked : Bool := false
  deriving DecidableEq, Repr

/-- What MRAM holds, with the map of the store that its journal gives, when a supply monitor trips: no later
write reaches it (R826, R849, R897). -/
structure MramS where
  regs : Tbl Word
  silt : List SiltEntry
  history : List HistEntry
  scenes : Tbl SceneRec
  dirSeq : Nat
  dirCopy : Nat
  prevDir : Nat × Tbl SceneRec
  retired : List Nat
  store : StoreS
  keys : List KeyRec
  tilCh : Tbl TilCh
  deriving DecidableEq, Repr

/-- Power, reset and the outputs that they hold (chapter 19). -/
structure PwrS where
  /-- A supply monitor tripped: outputs off until POR_N rises, and the MRAM contents as they then stood (R897). -/
  tripped : Bool := false
  mram : Option MramS := none
  /-- The boot ROM found no slot (R861). -/
  halted : Bool := false
  /-- Running ns at which a software reset falls due (R905). -/
  softAt : Option Nat := none
  deriving DecidableEq, Repr

/-- The whole state of the KN9640 as seen from its ports. -/
structure State where
  /-- The commands that wait, first in, first out (the block's queue). -/
  pending : List Instr := []
  /-- The model's own counter of free values taken (log entry 2); no statement rests on it. -/
  free : Nat := 0
  /-- Every register position of Table 20.1, by BAR0 offset; unlisted reads its reset value. -/
  regs : Tbl Word := []
  /-- The latches of Table 20.3, one per requester class and group. -/
  latches : List Latch := []
  /-- The silt log ring, oldest first, at most 65,536 entries (R850). -/
  silt : List SiltEntry := []
  time : TimeS := {}
  epoch : Option EpochS := none
  ports : List PtpPort := List.replicate 4 {}
  evins : List EvIn := List.replicate 16 {}
  starts : List LaunchOut := List.replicate 8 {}
  ref : RefS := {}
  host : HostS := {}
  /-- Topcoat route entries; an unlisted entry reads its reset value (Table 2.6). -/
  routes : Tbl (BitVec 64) := []
  /-- Topcoat parameter words by item key; an unlisted word reads its Reset value (R133). -/
  params : Tbl Word36 := []
  gains : GainS := {}
  txn : TxnS := {}
  plan : PlanS := {}
  eng : EngS := {}
  guard : GuardS := {}
  ouv : OuvS := {}
  strm : StrmS := {}
  net : NetS := {}
  store : StoreS := {}
  sec : SecS := {}
  pwr : PwrS := {}
  bus : BusS := {}
  dram : DramS := {}
  dma : DmaS := {}
  dsp0 : DspS := {}
  dsp1 : DspS := {}
  old : Option OldS := none
  /-- Topcoats of launches whose earlier frames may still play out, the latest launch first (R27, R60). -/
  past : List OldS := []
  /-- Published meter records by class x 65,536 + index, classes 0 input strip, 1 output strip, 2 tap. -/
  meters : Tbl MeterR := []
  /-- Tap captures by ring. -/
  caps : Tbl CaptureS := []
  /-- Serial ports, and the last samples captured for the skim path by slot (sample number, value). -/
  sap : Tbl SapS := []
  skimIn : Tbl (List (Nat × Int)) := []
  modCh : Tbl ModCh := []
  modG : Tbl ModG := []
  /-- Instant of MUTE_N's last rise in ns of running time (R630). -/
  muteRise : Nat := 0
  /-- Fade gain in Q2.33 and last sample of each modulator destination (R54), by route entry. -/
  modFade : Tbl (Int × Int) := []
  tilCh : Tbl TilCh := []
  tilG : Tbl TilG := []
  lanes : LanesS := {}
  /-- What DRAM holds of the DRAM delay lines: by object, newest sample first, from the frame before the one
  released last (R148, R274). -/
  dramLines : Tbl (List Int) := []
  deriving DecidableEq, Repr

/-- The machine right after reset: every register at its Reset value (R938), every queue empty.
[DESIGN CHOICE, log 3] [DESIGN CHOICE, log 73] -/
def State.reset : State := {}

end Sys2Proof.Machine
end

