-- ==== Sys2Proof/Machine/Ops.lean ====
section
/-! DEFINITION. The named operations over the state: register fields, saturating counters, the time
grid, the silt log, events and completions. -/
namespace Sys2Proof.Machine

/-- The outcome of a command. -/
abbrev Out := Host.Outcome State Fault Refusal

/-! ### Bytes -/

/-- The little-endian bytes of a number (R12). -/
def le : Nat → Nat → List Byte
  | 0, _ => []
  | n + 1, v => BitVec.ofNat 8 v :: le n (v / 256)

/-- The two's complement of an integer in `w` bits. -/
def ofInt (w : Nat) (v : Int) : Nat := (v % (2 ^ w : Int)).toNat

/-- The signed value of a number of `w` bits. -/
def toInt (w : Nat) (v : Nat) : Int := if v < 2 ^ (w - 1) then (v : Int) else (v : Int) - 2 ^ w

/-- A measurement of 4 bytes, signed (R852). -/
def leInt (n : Nat) (v : Int) : List Byte := le n (ofInt (8 * n) v)

/-- A big-endian number in n bytes. -/
def be (n v : Nat) : List Byte := (le n v).reverse

/-- A little-endian number read from bytes (R12). -/
def unLe : List Byte → Nat
  | [] => 0
  | b :: r => b.toNat + 256 * unLe r

/-- The little-endian number in `n` bytes of a buffer from byte `off`. -/
def rdLe (buf : List Byte) (off n : Nat) : Nat := unLe ((buf.drop off).take n)

/-- Bytes padded with zeros, or cut, to a length. -/
def padTo (n : Nat) (l : List Byte) : List Byte := (l ++ List.replicate (n - l.length) 0).take n

/-- One byte into the CRC-16 of polynomial 0x1021, most significant bit first (R851). -/
def crc16Step (c : BitVec 16) (b : Byte) : BitVec 16 :=
  (List.range 8).foldl (fun c _ => if c.msb then (c <<< 1) ^^^ 0x1021#16 else c <<< 1)
    (c ^^^ (b.zeroExtend 16 <<< 8))

/-- The CRC-16 of the silt log: initial value 0xFFFF, no reflection, no final XOR (R851). -/
def crc16 (l : List Byte) : BitVec 16 := l.foldl crc16Step 0xFFFF#16

/-- One byte into a reflected CRC of 32 bits. -/
def crc32Step (poly : BitVec 32) (c : BitVec 32) (b : Byte) : BitVec 32 :=
  (List.range 8).foldl (fun c _ => if c.getLsbD 0 then (c >>> 1) ^^^ poly else c >>> 1)
    (c ^^^ b.zeroExtend 32)

/-- The CRC-32C of bytes in ascending order (R336, R405). -/
def crc32c (l : List Byte) : BitVec 32 := ~~~(l.foldl (crc32Step 0x82F63B78#32) 0xFFFFFFFF#32)

/-- The frame check sequence of an Ethernet frame, IEEE 802.3's CRC-32 (R450). [PRESUMED, log 69] -/
def ethFcs (l : List Byte) : BitVec 32 := ~~~(l.foldl (crc32Step 0xEDB88320#32) 0xFFFFFFFF#32)

/-! ### Registers -/

/-- The stored word at a BAR0 offset. -/
def State.word (s : State) (off : Nat) : Word := tblGet resetWord s.regs off

/-- Store a word at a BAR0 offset. -/
def State.setWord (s : State) (off : Nat) (w : Word) : State :=
  { s with regs := tblSet resetWord s.regs off w }

/-- A register field's value. -/
def State.rd (s : State) (f : Fld) : Nat := getBits (s.word f.off) f.lo f.w

/-- Set a register field, as the part itself does. -/
def State.wr (s : State) (f : Fld) (v : Nat) : State :=
  s.setWord f.off (putBits (s.word f.off) f.lo f.w v)

/-- Whether a one-bit field reads 1. -/
def State.on (s : State) (f : Fld) : Bool := s.rd f != 0

/-- Set a one-bit field. -/
def State.put (s : State) (f : Fld) (b : Bool) : State := s.wr f (if b then 1 else 0)

/-- A signed field's value. -/
def State.rdInt (s : State) (f : Fld) : Int := toInt f.w (s.rd f)

/-- Set a signed field, saturating at its ends. -/
def State.wrInt (s : State) (f : Fld) (v : Int) : State :=
  s.wr f (ofInt f.w (max (-(2 ^ (f.w - 1) : Int)) (min v (2 ^ (f.w - 1) - 1))))

/-- Set an unsigned field, saturating at its largest value. -/
def State.wrSat (s : State) (f : Fld) (v : Nat) : State := s.wr f (min v (2 ^ f.w - 1))

/-- Count `n` events in a counter field, which saturates and stays (R931). -/
def State.count (s : State) (f : Fld) (n : Nat := 1) : State :=
  s.wr f (satAdd (s.rd f) n (2 ^ f.w - 1))

/-- Count one event when a condition holds. -/
def State.countIf (s : State) (b : Bool) (f : Fld) : State := if b then s.count f else s

/-- Take a register range back to its Reset values (R938). -/
def State.resetRange (s : State) (lo hi : Nat) : State :=
  { s with regs := s.regs.filter (fun e => !(decide (lo ≤ e.1) && decide (e.1 < hi))) }

/-- The `SYS.VIOL_COUNT` field of a requester class (R718). [DEDUCED, log 62] -/
def violFld : Requester → Fld
  | .pcie => Reg.SYS.VIOL_COUNT.PCIE
  | .ring => Reg.SYS.VIOL_COUNT.RING
  | .fabric => Reg.SYS.VIOL_COUNT.FABRIC
  | .debug => Reg.SYS.VIOL_COUNT.DEBUG
  | .steward => Reg.SYS.VIOL_COUNT.FABRIC

/-- An access violation: counted, and otherwise silent (R717, R718). -/
def State.violate (s : State) (q : Requester) : State := s.count (violFld q)

/-- A quotient in whole units where the manual states no rounding: exact where it divides, else one of
the two neighbours (log entry 6). [DESIGN CHOICE, log 6] -/
def quot (a : Int) (b : Nat) : Int :=
  if a % b = 0 then a / b else a / b + (if Config.roundUp a b then 1 else 0)

/-- The average of a list, 0 for an empty one. [DESIGN CHOICE, log 6] -/
def average (l : List Int) : Int := if l.isEmpty then 0 else quot l.sum l.length

/-- A fresh free value (log entry 2). [DESIGN CHOICE, log 2] -/
def State.fresh (s : State) : Nat × State := (Config.freeValue s.free, { s with free := s.free + 1 })

/-! ### The grid -/

/-- 2^-40 ns units in one ns. -/
def tu : Nat := 2 ^ 40

/-- The local time in whole ns. -/
def State.ns (s : State) : Nat := s.time.now / tu

/-- The running time in whole ns: local time without its steps. -/
def State.run (s : State) : Nat := s.time.mono / tu

/-- The seconds and nanoseconds of the local time (R414). -/
def State.secs (s : State) : Nat := s.ns / 1000000000

/-- The tick length L in ns (`TICK.CFG.LEN`). -/
def State.tickNs (s : State) : Nat := 62500 * 2 ^ s.rd Reg.TICK.CFG.LEN

/-- The engine sample rate in Hz (`TICK.CFG.RATE`). -/
def State.fs (s : State) : Nat := 48000 * 2 ^ s.rd Reg.TICK.CFG.RATE

/-- Samples per tick (Table 1.1). -/
def State.spt (s : State) : Nat := s.tickNs * s.fs / 1000000000

/-- Lane cycles per tick, C (Table 1.1). -/
def State.cycles (s : State) : Nat := s.tickNs * 3 / 2

/-- The tick number of the local time (R14). -/
def State.tick (s : State) : Nat := s.ns / s.tickNs

/-- The local instant of boundary T(n) in ns (R13). -/
def State.tAt (s : State) (n : Nat) : Nat := n * s.tickNs

/-- A local instant rounded up to a tick boundary at least `g` ticks after the instant `from_` (R381, R507, R830). -/
def State.tickFrom (s : State) (from_ ns g : Nat) : Nat :=
  max (ceilDiv ns s.tickNs) (ceilDiv (from_ + g * s.tickNs) s.tickNs)

/-- The same, after now. -/
def State.tickFor (s : State) (ns g : Nat) : Nat := s.tickFrom s.ns ns g

/-- Time since a command was read, and the local instant at which it was (R692). -/
def State.readAgo (s : State) (d : Desc) : Nat := s.run - d.readAt
def State.readNs (s : State) (d : Desc) : Nat := s.ns - s.readAgo d

/-- The eddy reserve of every lane (R38). -/
def State.reserve (s : State) : Nat := s.cycles * s.rd Reg.TICK.EDDY.RESERVE / 100

/-- The guard at every tick length (R39). -/
def guardCycles : Nat := 6000

/-- The main limit for a reserve percentage (R40). -/
def mainLimit (c pct : Nat) : Nat := c - c * pct / 100 - guardCycles

/-- Bring the local time and the running time to a local instant that has not passed. [DEDUCED, log 21] -/
def State.reach (s : State) (ns : Nat) : State :=
  if s.time.now < ns * tu then
    { s with time := { s.time with now := ns * tu, mono := s.time.mono + (ns * tu - s.time.now) } }
  else s

/-- Once the grid and a plan stand, the first frame m lies at the first boundary at least 2 ticks on
(R912). -/
def State.planStart (s : State) : State :=
  if s.on Reg.TICK.STATUS.GRID && s.on Reg.TICK.CFG.PLAN && !s.on Reg.TICK.STATUS.RUN && s.eng.first.isNone then
    { s with eng := { s.eng with first := some (s.tickFor 0 2) } }
  else s

/-- What outlasts a start or a stop of the engine: entries and counts that wait for their weir flip (R33, R274, R360). -/
def EngS.keep (e : EngS) : EngS := { logs := e.logs, late := e.late }

/-! ### Events -/

/-- Entries of the event ring. -/
def State.evSize (s : State) : Nat := 2 ^ s.rd Reg.HOST.EVCFG.SIZE

/-- Free entries of the event ring; none while it is disabled (R687, R964). -/
def State.evFree (s : State) : Nat :=
  if s.on Reg.HOST.EVCFG.EN then s.evSize - (s.host.evP + 65536 - s.host.evC) % 65536 else 0

/-- Add an interrupt vector owed in this tick, once (R696). -/
def HostS.owe (h : HostS) (v : Nat) : HostS :=
  if h.irqDue.contains v then h else { h with irqDue := h.irqDue ++ [v] }

/-- Write one event entry: it takes its SEQ and the pass's PHASE (R685, R723, R724). -/
def State.writeEvt (s : State) (e : Evt) : State :=
  let h := s.host
  let slot := h.evP % s.evSize
  let h' := { h with
    evtMem := mapSet h.evtMem slot ⟨h.evSeq, (1 + h.evP / s.evSize) % 2, e⟩
    evP := (h.evP + 1) % 65536
    evSeq := (h.evSeq + 1) % 2 ^ 32 }
  { s with host := if s.on Reg.HOST.EVCFG.IRQEN then h'.owe 16 else h' }

/-- Post an event: written at once, queued up to 256, or lost and counted (R724, R725). [DEDUCED, log 13] -/
def State.post (s : State) (typ : Nat) (payload : List Byte) : State :=
  let e : Evt := ⟨typ, padTo 24 payload⟩
  if s.host.evQueue.isEmpty && s.host.evLost == 0 && decide (0 < s.evFree) then s.writeEvt e
  else if s.host.evQueue.length < 256 then
    { s with host := { s.host with evQueue := s.host.evQueue ++ [e] } }
  else
    { s with host := { s.host with evSeq := (s.host.evSeq + 1) % 2 ^ 32, evLost := s.host.evLost + 1 } }.count
      Reg.HOST.CNT.EVTLOST

/-- Write queued events while the ring has room. -/
def drainFrom : List Evt → State → State
  | [], s => { s with host := { s.host with evQueue := [] } }
  | e :: r, s =>
    if 0 < s.evFree then drainFrom r (s.writeEvt e)
    else { s with host := { s.host with evQueue := e :: r } }

/-- A capture payload with its OVF flag as the input posts it (R460, Table 8.4). -/
def withOvf (p : List Byte) (ovf : Bool) : List Byte := if ovf then p.set 1 (p.getD 1 0 ||| 4) else p

/-- Post the edges that wait at an input while the ring has room, each of at most n (R460, R461). -/
def postEdges : Nat → Nat → State → State
  | 0, _, s => s
  | n + 1, i, s =>
    let x := s.evins.getD i {}
    match x.queue with
    | [] => s
    | p :: r =>
      if s.evFree = 0 then s
      else postEdges n i (({ s with evins := s.evins.set i { x with queue := r, ovf := false } } : State).writeEvt
        ⟨0x0001, padTo 24 (withOvf p x.ovf)⟩)

/-- Post the waiting edges of every input (R461). -/
def State.postInputs (s : State) : State := (List.range 16).foldl (fun (a : State) i => postEdges 64 i a) s

/-- Once space returns, the events-lost event leads, and the queue and the captured edges follow (R460, R725). -/
def State.drainEvents (s : State) : State :=
  if s.evFree = 0 then s
  else
    let s1 :=
      if s.host.evLost = 0 then s
      else { s with host := { s.host with evLost := 0 } }.writeEvt ⟨0x001A, padTo 24 (le 4 s.host.evLost)⟩
    (drainFrom s1.host.evQueue s1).postInputs

/-! ### The silt log -/

/-- Capacity of the silt log ring (R850). -/
def siltSize : Nat := 65536

/-- The DATA pieces of 10 bytes, at least one, at most eight (R852). -/
def chunks10 : Nat → List Byte → List (List Byte)
  | 0, _ => []
  | n + 1, l => padTo 10 l :: (if l.length ≤ 10 then [] else chunks10 n (l.drop 10))

/-- The TICK of an entry written now: the tick number, or ns since reset before the step (R851). -/
def State.siltTick (s : State) : Nat :=
  if s.on Reg.TIME.STATUS.STEPPED then s.tick else s.run

/-- The entries of one cause: the first and its continuations (R851, R852). -/
def siltEntries (first code tick : Nat) (unstepped : Bool) (cite : Option Nat)
    (pieces : List (List Byte)) : List SiltEntry :=
  pieces.zipIdx.map fun (p, i) =>
    { seq := (first + i) % 2 ^ 32
      code := if i = 0 then code else 0x0001
      cite := if i = 0 then cite else some first
      unstepped := unstepped
      cont := decide (i ≠ 0)
      ncont := pieces.length - 1 - i
      tick := tick
      data := p }

/-- Write a silt log entry with its continuations and advance the head (R850). [DEDUCED, log 12]
[DEDUCED, log 13] -/
def State.siltWrite (s : State) (code : Nat) (data : List Byte) (cite : Option Nat := none) : State :=
  let pieces := chunks10 8 data
  let head := s.rd Reg.STORE.SILT.HEAD
  let es := siltEntries head code s.siltTick (!s.on Reg.TIME.STATUS.STEPPED) cite pieces
  let all := s.silt ++ es
  ({ s with silt := all.drop (all.length - siltSize) }).wr Reg.STORE.SILT.HEAD
    ((head + pieces.length) % 2 ^ 32)

/-- Write a silt log entry and post its log event (Table 14.9, TYPE 0x0002). [DEDUCED, log 13] -/
def State.log (s : State) (code : Nat) (data : List Byte) (cite : Option Nat := none) : State :=
  let seq := s.rd Reg.STORE.SILT.HEAD
  (s.siltWrite code data cite).post 0x0002 (le 4 seq ++ le 2 code ++ le 8 s.siltTick)

/-- The 32 bytes of a silt log entry (Table 17.4). -/
def SiltEntry.bytes (e : SiltEntry) : List Byte :=
  let flags := (if e.cite.isSome then 1 else 0) + (if e.unstepped then 2 else 0) +
    (if e.cont then 4 else 0)
  let body := le 4 e.seq ++ le 2 e.code ++ le 1 flags ++ le 1 e.ncont ++ le 8 e.tick ++
    le 4 (e.cite.getD 0) ++ padTo 10 e.data
  body ++ le 2 (crc16 body).toNat

/-! ### Lists of items -/

/-- Change the element at a position; a position outside the list names no item (R7). -/
def modAt {α : Type} (l : List α) (i : Nat) (f : α → α) : List α :=
  match l[i]? with
  | none => l
  | some x => l.set i (f x)

/-- The element at a position, with a stated default. -/
def atD {α : Type} (l : List α) (i : Nat) (d : α) : α := (l[i]?).getD d

end Sys2Proof.Machine
end

