-- ==== Sys2Proof/Machine/Clock.lean ====
section
/-! DEFINITION. The 250 MHz cycle of the time base. -/
namespace Sys2Proof.Machine

/-- One cycle adds 4 ns x (1 + y) to the local time, with no rounding drift (R415). [DESIGN CHOICE, log 1] -/
def clockCycle (s : State) : State :=
  let inc := ((4 * 2 ^ 40 : Int) * (1000000000000 + s.time.y)).toNat + s.time.rem
  { s with time := { s.time with
      now := s.time.now + inc / 1000000000000
      mono := s.time.mono + inc / 1000000000000
      rem := inc % 1000000000000 } }

end Sys2Proof.Machine
end

