-- ==== Sys2Proof/Machine/Fabric.lean ====
section
/-! DEFINITION. The fabric: its memories, the address map of the bus matrix, requests, grants and the
resets of its masters, and the memory controller's address mapping (chapter 15). -/
namespace Sys2Proof.Machine

/-! ### Memory -/

/-- What an unlisted byte reads as: the manual gives no contents of unwritten memory (log entry 40).
[DESIGN CHOICE, log 40] -/
def Memory.blank : Nat → Byte := fun _ => 0

/-- The byte at a fabric address. [DESIGN CHOICE, log 40] -/
def Memory.read (m : List Host.Cell) (a : Nat) : Byte := tblGet Memory.blank m a

/-- Write one byte. -/
def Memory.write (m : List Host.Cell) (a : Nat) (b : Byte) : List Host.Cell := tblSet Memory.blank m a b

/-- The canonical form: addresses strictly rising, no entry equal to what an unlisted address reads. -/
abbrev Memory.wf (m : List Host.Cell) : Bool := tblWf Memory.blank m

/-- `n` bytes from an address. -/
def Memory.readN (m : List Host.Cell) (a n : Nat) : List Byte :=
  (List.range n).map fun i => Memory.read m (a + i)

/-- Write the bytes whose strobe is set, from an address upward (R729, R743). -/
def Memory.writeN : List Host.Cell → Nat → List Byte → List Bool → List Host.Cell
  | m, _, [], _ => m
  | m, _, _ :: _, [] => m
  | m, a, b :: bs, k :: ks => Memory.writeN (if k then Memory.write m a b else m) (a + 1) bs ks

/-! ### Address map (Tables 15.1 to 15.3) -/

/-- Base of DRAM in the fabric. -/
def dramBase : Nat := 0x800000000

/-- Usable bytes of DRAM (`DRAM.SIZE`). -/
def State.dramBytes (s : State) : Nat := s.rd Reg.DRAM.SIZE.USABLE * 1048576

/-- Device address of an offset with inline ECC (R748). [DEDUCED, log 38] -/
def eccDevice (a : Nat) : Nat :=
  let b := a / 64
  512 * (b / 7) + 64 * (b % 7) + a % 64

/-- Channel of a DRAM offset, and its in-channel address (R747, R748). -/
def dramPlace (ecc : Bool) (a : Nat) : Nat × Nat :=
  if ecc then
    let d := eccDevice a
    ((d / 512) % 8, (d / 4096) * 512 + d % 512)
  else ((a / 256) % 8, (a / 2048) * 256 + a % 256)

/-- Device address of the check word of an offset's block (R749). -/
def eccCheck (a : Nat) : Nat :=
  let b := a / 64
  512 * (b / 7) + 448 + 8 * (b % 7)

/-- What inline ECC finds in a word of a read (R769): the upset bits among its 64 data and 8 check bits. -/
def wordFlips (flips : List (Nat × Nat)) (w : Nat) : Nat := ((List.range 72).filter fun b => flips.contains (w, b)).length

/-- The 64-bit words, from the one that holds the first byte, that a read of `n` bytes touches. -/
def eccWords (a n : Nat) : Nat := (a % 8 + n + 7) / 8

/-- The 64-byte block of word `w` of a read from an address. -/
def wordBlock (a w : Nat) : Nat := (a / 8 + w) * 8 / 64 * 64

/-- The blocks of a read with a word that has one upset bit: SEC-DED corrects it (R769, R771). -/
def correctedBlocks (a n : Nat) (flips : List (Nat × Nat)) : List Nat :=
  (((List.range (eccWords a n)).filter fun w => wordFlips flips w == 1).map (wordBlock a)).eraseDups

/-- The first block of a read with a word that has two upset bits or more: SEC-DED detects it (R769, R772).
[DESIGN CHOICE, log 86] -/
def failedBlock (a n : Nat) (flips : List (Nat × Nat)) : Option Nat :=
  ((List.range (eccWords a n)).find? fun w => decide (2 ≤ wordFlips flips w)).map (wordBlock a)

/-- The bytes of a read without inline ECC: upset data bits are delivered as they are read (R768). -/
def upsetBytes (a : Nat) (flips : List (Nat × Nat)) (data : List Byte) : List Byte :=
  data.zipIdx.map fun (b, i) =>
    let o := a % 8 + i
    (List.range 8).foldl (fun (x : Byte) k => if flips.contains (o / 8, o % 8 * 8 + k) then x ^^^ BitVec.ofNat 8 (2 ^ k) else x) b

/-- Rank of an in-channel address: its most significant bit, with two ranks (R750). -/
def State.dramRank (s : State) (inch : Nat) : Nat :=
  if s.rd Reg.DRAM.CFG.RANKS = 1 then inch / (512 * 1048576 * [1, 2, 3, 4].getD (s.rd Reg.DRAM.CFG.DENS) 4) else 0

/-- A 64-bit word of DRAM, from its fabric address. -/
def State.dramWord (s : State) (a : Nat) : BitVec 64 :=
  BitVec.ofNat 64 (((List.range 8).map fun i => (Memory.read s.bus.mem (a + i)).toNat * 256 ^ i).sum)

/-- The check word of a block: the check bytes of its 8 words in word order (R769). -/
def State.checkWord (s : State) (block : Nat) : List Byte :=
  (List.range 8).map fun i => Config.eccByte (s.dramWord (block + 8 * i))

/-- The byte at a device address with inline ECC: a data byte, a check byte, or nothing where it is reserved
(R748, R749, R769). -/
def State.deviceByte (s : State) (d : Nat) : Option Byte :=
  let o := d % 512
  let base (q : Nat) : Nat := dramBase + (d / 512 * 7 + q) * 64
  if o < 448 then some (Memory.read s.bus.mem (base (o / 64) + o % 64))
  else if o < 504 then (s.checkWord (base ((o - 448) / 8)))[(o - 448) % 8]?
  else none

/-- Number of the rank that holds a fabric address of DRAM, counted over the channels. [DESIGN CHOICE, log 86] -/
def State.rankAt (s : State) (a : Nat) : Nat :=
  let p := dramPlace s.dram.ecc (a - dramBase)
  p.1 * (s.rd Reg.DRAM.CFG.RANKS + 1) + s.dramRank p.2

/-- Whether a transaction of QoS 12 or above waits for a rank (R764). -/
def State.rankWaits (s : State) (rank : Nat) : Bool :=
  (s.bus.queue ++ s.bus.granted).any fun x => decide (x.target ≤ 3) && decide (12 ≤ x.qos) &&
    (List.range ((x.addr + x.len - 1) / 64 + 1 - x.addr / 64)).any fun i => s.rankAt ((x.addr / 64 + i) * 64) == rank

/-- The address that a master sees as `a`, in the addresses of Table 15.2 (R740). -/
def State.unswap (s : State) (m a : Nat) : Nat :=
  if m = 1 && s.on Reg.SYS.REMAP.SWAP then
    if a < 0x800000 then a + 0x10000000
    else if 0x10000000 ≤ a && a < 0x10040000 then a - 0x10000000
    else if a < 0x10800000 then 2 ^ 40
    else a
  else a

/-- Target of a fabric address (Table 15.2). -/
def State.targetAt (s : State) (a : Nat) : Option Nat :=
  if dramBase ≤ a then
    if a - dramBase < s.dramBytes then some ((dramPlace s.dram.ecc (a - dramBase)).1 / 2) else none
  else if 0x10000000 ≤ a && a < 0x10800000 then some 4
  else if 0x20000000 ≤ a && a < 0x21000000 then some 5
  else if a < 0x40000 then some 6
  else if 0x40000000 ≤ a && a < 0x44000000 then some 7
  else if 0x30000000 ≤ a && a < 0x40000000 then some 8
  else none

/-- Table 15.3: whether a master has a path to a target. -/
def busPath (m t : Nat) : Bool :=
  if t ≤ 3 then m ≤ 12 && m != 9
  else if t = 4 then m ≤ 12
  else if t = 5 then m == 1 || m == 6 || m == 12
  else if t = 6 then m == 1 || m == 12
  else if t = 7 then m ≤ 3
  else m == 1 || m == 12

/-- Requester of a master (R728, R925). -/
def busClass (m : Nat) : Requester :=
  if m = 0 then .pcie else if m = 13 then .debug else if m = 1 then .steward else .fabric

/-- The target that an access of `n` bytes reaches, none where it is a violation (R728); the address is
already that of Table 15.2. -/
def State.busTarget (s : State) (m a n : Nat) : Option Nat :=
  if n = 0 || a / 4096 ≠ (a + n - 1) / 4096 then none
  else match s.targetAt a, s.targetAt (a + n - 1) with
    | some t, some _ => if busPath m t || (m == 13 && s.on Reg.SEC.STATUS.DEBUG) then some t else none
    | _, _ => none

/-- Whether a target is a DRAM port. -/
def isDram (t : Nat) : Bool := decide (t ≤ 3)

/-- Whether a target's bytes can be written in this state: ROM and the XSPI window cannot, MRAM not
after a supply monitor trip (R897). [DEDUCED, log 38] -/
def State.writable (s : State) (t : Nat) : Bool :=
  isDram t || t == 4 || (t == 5 && !s.pwr.tripped)

/-! ### Requests (R729 to R734, R738 to R741) -/

/-- Outstanding transactions of a master, at most 32; what a DMA engine has beyond them still waits inside it
(R731). -/
def State.outstanding (s : State) (m : Nat) : Nat :=
  min 32 ((s.bus.queue.filter (fun t => t.master == m)).length + (s.bus.granted.filter (fun t => t.master == m)).length)

/-- Show `BUS.M[m].STAT.OUTST`. -/
def State.showOutst (s : State) (m : Nat) : State := s.wrSat (Reg.BUS.M.STAT.OUTST m) (s.outstanding m)

/-- QoS of a transaction: the source's where Table 15.1 gives one per transaction, else the master's
default; 15 is served as 14 but for a CMD0 descriptor write by PCIE (R734). [DEDUCED, log 36] -/
def State.busQos (s : State) (m : Nat) (write : Bool) (asked : Nat) : Nat :=
  let q := if [0, 2, 3, 7, 8, 11].contains m then asked % 16 else s.rd (Reg.BUS.M.CFG.QOS m)
  if q = 15 && !(m == 0 && write) then 14 else q

/-- The generation tag of a master (R775). -/
def State.busGen (s : State) (m : Nat) : Nat := mapGetD s.bus.gens m 0

/-- Put a transaction into its target port's queue; a port with a pending request is not parked (R737).
[DEDUCED, log 36] -/
def State.enqueue (s : State) (t : BusTxn) : State :=
  ((({ s with bus := { s.bus with queue := s.bus.queue ++ [t] } }) : State).showOutst t.master).put
    (Reg.BUS.T.STAT.PARKED t.target) false

/-- Record the response that a master receives; an error response is counted. -/
def State.respond (s : State) (m : Nat) (r : BusResp) : State :=
  (({ s with bus := { s.bus with resp := mapSet s.bus.resp m r } }) : State).countIf r.err (Reg.BUS.M.CNT.ERR m)

/-- BUS_REQUEST: a transaction waits at its port; a violation reads zero at once (R717, R728, R731).
[DEDUCED, log 36] -/
def doBusRequest (r : BusReq) (s : State) : State :=
  let n := if r.write then r.data.length else r.len
  let a := s.unswap r.master r.addr
  if 14 ≤ r.master || n = 0 || 16 < (a + n - 1) / 32 + 1 - a / 32 || 2 ^ 40 ≤ r.addr ||
      s.on (Reg.BUS.M.STAT.CLOSING r.master) || 32 ≤ s.outstanding r.master then s
  else match s.busTarget r.master a n with
    | none =>
      (s.violate (busClass r.master)).respond r.master
        ⟨r.id, if r.write then [] else List.replicate n 0, false⟩
    | some t =>
      s.enqueue {
        master := r.master, id := r.id, write := r.write, addr := a, target := t, len := n
        qos := s.busQos r.master r.write r.qos, gen := s.busGen r.master
        data := if r.write then r.data else []
        strobes := if r.write then (r.strobes ++ List.replicate (n - r.strobes.length) false).take n else []
        since := s.run }

/-! ### Arbitration (R735 to R737, R758, R761) -/

/-- Key of the last master granted, by port, direction and QoS. -/
def arbKey (t : Nat) (write : Bool) (q : Nat) : Nat := (t * 2 + (if write then 1 else 0)) * 16 + q

/-- The requests that may be granted at a port now: among the 32 outstanding ones of their master, with no older
request of its ID waiting (R730, R731). [DEDUCED, log 37] -/
def State.grantable (s : State) (t : Nat) (write : Bool) : List BusTxn :=
  let out (m : Nat) : Nat := (s.bus.granted.filter (fun y => y.master == m)).length
  let rec go (old rest : List BusTxn) : List BusTxn :=
    match rest with
    | [] => []
    | x :: r =>
      let ok := x.target == t && x.write == write && old.all (fun y => y.master != x.master || y.id != x.id) &&
        decide ((old.filter (fun y => y.master == x.master)).length + out x.master < 32)
      (if ok then [x] else []) ++ go (old ++ [x]) r
  go [] s.bus.queue

/-- Distance of a master after the one granted last, wrapping from 13 to 0 (R735). [DEDUCED, log 37] -/
def afterLast (last m : Nat) : Nat := (m + 14 - (last + 1) % 14) % 14

/-- The request that the arbiter takes: highest QoS, then the first master after the last, then the
oldest (R735). [DEDUCED, log 37] -/
def State.arbitrate (s : State) (t : Nat) (write : Bool) : Option BusTxn :=
  let c := s.grantable t write
  let q := c.foldl (fun a x => max a x.qos) 0
  let last := mapGetD s.bus.lastQ (arbKey t write q) 13
  let best := c.filter (fun x => x.qos == q)
  let d := best.foldl (fun a x => min a (afterLast last x.master)) 14
  best.find? (fun x => afterLast last x.master == d)

/-- Whether the node is in STANDBY (R919). -/
def State.inStandby (s : State) : Bool := s.rd Reg.SYS.PWR.STATE == 4

/-- Whether a port grants: DRAM not while it is untrained, retrains or is in self-refresh, nor before the tracking
bursts after WAKE (R758, R917, R920). -/
def State.portGrants (s : State) (t : Nat) : Bool :=
  !isDram t || (decide (2 ≤ s.rd Reg.DRAM.STAT.STATE) && !s.on Reg.DRAM.STAT.RETRAIN && !s.inStandby &&
    (s.dram.owed.isEmpty || !s.on Reg.DRAM.TRK.EN))

/-- One second in ns. -/
def sec1 : Nat := 1000000000

/-- Show a port's longest wait and load over the last 1,000 ms. -/
def State.showPort (s : State) (t : Nat) : State :=
  let from_ := s.run - sec1
  let waits := s.bus.waits.filter (fun x => decide (from_ ≤ x.2.1))
  let spans := s.bus.spans.filter (fun x => decide (from_ < x.2.2))
  let w := (waits.filter (fun x => x.1 == t)).foldl (fun a x => max a (x.2.2 / 10)) 0
  let open_ := match mapGet s.bus.busyFrom t with
    | some f => s.run - max f from_
    | none => 0
  let b := (spans.filter (fun x => x.1 == t)).foldl (fun a x => a + (x.2.2 - max x.2.1 from_)) open_
  ((({ s with bus := { s.bus with waits := waits, spans := spans } }) : State).wrSat
    (Reg.BUS.T.STAT.WAITMAX t) w).wrSat (Reg.BUS.T.LOAD.BUSY t) (b * 100 / sec1)

/-- TARGET_GRANT (R735 to R737): the whole transaction is granted, and the port parks on its master once no
request waits at it. -/
def doGrant (t : Nat) (write : Bool) (s : State) : State :=
  if 9 ≤ t || !s.portGrants t then s
  else match s.arbitrate t write with
    | none => s
    | some x =>
      let b := s.bus
      let s1 : State := { s with bus := { b with
        queue := b.queue.erase x
        granted := b.granted ++ [{ x with at_ := s.run }]
        lastQ := mapSet b.lastQ (arbKey t write x.qos) x.master
        waits := b.waits ++ [(t, s.run, s.run - x.since)]
        busyFrom := if (mapGet b.busyFrom t).isSome then b.busyFrom else mapSet b.busyFrom t s.run } }
      let free := s1.bus.queue.all fun y => y.target != t
      (((s1.wr (Reg.BUS.T.STAT.PARK t) x.master).put (Reg.BUS.T.STAT.PARKED t) free).showPort t)

/-! ### The end of a transaction -/

/-- Whether two transactions touch one 64-byte block. [DEDUCED, log 37] -/
def sameBlock (x y : BusTxn) : Bool :=
  decide (x.addr / 64 ≤ (y.addr + y.len - 1) / 64) && decide (y.addr / 64 ≤ (x.addr + x.len - 1) / 64)

/-- The transaction of a port that its target answers next: the oldest with no older one of its master
and ID, and on DRAM none older of its block where one of the two writes (R730, R766, R767, R770); a read that
is being read once more waits (R772). -/
def State.answerable (s : State) (t : Nat) : Option BusTxn :=
  let rec go (old rest : List BusTxn) : Option BusTxn :=
    match rest with
    | [] => none
    | x :: r =>
      if x.target == t && !s.dram.retries.any (fun r => r.txn == some x) && old.all (fun y => (y.master != x.master || y.id != x.id) &&
          !(isDram t && y.target == t && (y.write || x.write) && sameBlock x y)) then some x
      else go (old ++ [x]) r
  go [] s.bus.granted

/-- Take a granted transaction out of its port. -/
def State.retireTxn (s : State) (x : BusTxn) : State :=
  let b := s.bus
  let left := b.granted.erase x
  let idle := !left.any (fun y => y.target == x.target)
  let spans := match mapGet b.busyFrom x.target with
    | some f => if idle then b.spans ++ [(x.target, f, s.run)] else b.spans
    | none => b.spans
  let s1 : State := { s with bus := { b with
    granted := left
    spans := spans
    busyFrom := if idle then mapErase b.busyFrom x.target else b.busyFrom } }
  (s1.showOutst x.master).showPort x.target

/-- An upper deadline acts on a master's outstanding transactions (R775): the generation tag advances,
and a DRAM retry of it becomes late. -/
def State.advanceGen (s : State) (m deadline : Nat) : State :=
  let hit (r : RetryS) : RetryS := match r.txn with
    | some x => if x.master = m && r.late.isNone then { r with late := some deadline } else r
    | none => r
  let rs := s.dram.retries.map hit
  { s with
    bus := { s.bus with gens := mapSet s.bus.gens m (s.busGen m + 1) }
    dram := { s.dram with retries := rs } }

/-- Data of entry 0x0505: master, deadline, retry state (0 failed, 1 pending, 2 recovered too late). -/
def lateEntry (m deadline state : Nat) : List Byte :=
  le 1 m ++ le 1 (Config.deadlineCode deadline) ++ le 1 (Config.retryCode state)

/-- At a weir flip, entry 0x0505 of each retry that is still pending under a passed deadline (R776). -/
def State.tellLate (s : State) : State :=
  let due := s.dram.retries.filter (fun r => r.late.isSome && !r.told)
  let all := s.dram.retries.map (fun (r : RetryS) => if r.late.isSome then { r with told := true } else r)
  let s1 : State := { s with dram := { s.dram with retries := all } }
  due.foldl (fun (a : State) r =>
    a.log 0x0505 (lateEntry ((r.txn.map BusTxn.master).getD 15) (r.late.getD 0) 1)) s1

/-! ### Master resets (R742 to R745) -/

/-- A reset master's port is closed: it parks on no master, and entry 0x0507 names the writes completed empty and the
reads discarded (R744). -/
def State.portClosed (s : State) (m wr rds : Nat) : State :=
  ((List.range 9).foldl (fun (a : State) t =>
    if a.rd (Reg.BUS.T.STAT.PARK t) = m then a.put (Reg.BUS.T.STAT.PARKED t) false else a) s).log 0x0507
    (le 1 m ++ le 1 wr ++ le 1 rds)

/-- MASTER_RESET: writes granted end empty, the rest is dropped or discarded (R742, R743); a port with requests alone,
none granted, waits for no response (R744).  A port that is closing keeps what it has counted.
[DEDUCED, log 36] -/
def doMasterReset (m : Nat) (s : State) : State :=
  if 14 ≤ m then s
  else
    let b := s.bus
    let held := s.on (Reg.BUS.M.STAT.CLOSING m)
    let asked := b.queue.any fun x => x.master == m
    let mine := b.granted.filter (fun x => x.master == m)
    let cut (x : BusTxn) : BusTxn :=
      if x.master = m then { x with dead := true, strobes := x.strobes.map (fun _ => false) } else x
    let wr := (mine.filter (fun x => x.write)).length
    let rds := mine.length - wr
    let s1 : State := { s with bus := { b with
      queue := b.queue.filter (fun x => x.master != m)
      granted := b.granted.map cut
      gens := mapSet b.gens m (s.busGen m + 1)
      closing := if mine.isEmpty || held then b.closing else mapSet b.closing m (wr, rds) } }
    let s2 := ((s1.count (Reg.BUS.M.STAT.RESETS m)).put (Reg.BUS.M.STAT.CLOSING m) (!mine.isEmpty)).showOutst m
    if mine.isEmpty && held then ({ s2 with bus := { s2.bus with closing := mapErase b.closing m } } : State).portClosed m
      (mapGetD b.closing m (0, 0)).1 (mapGetD b.closing m (0, 0)).2
    else if mine.isEmpty && asked then s2.portClosed m 0 0
    else s2

/-- MASTER_PORT_CLOSED: every response of the master has returned (R744). -/
def doPortClosed (m : Nat) (s : State) : State :=
  if 14 ≤ m || !s.on (Reg.BUS.M.STAT.CLOSING m) || s.bus.granted.any (fun x => x.master == m) then s
  else
    let (wr, rds) := mapGetD s.bus.closing m (0, 0)
    let s1 : State := { s with bus := { s.bus with closing := mapErase s.bus.closing m } }
    (s1.put (Reg.BUS.M.STAT.CLOSING m) false).portClosed m wr rds

end Sys2Proof.Machine
end

