-- ==== Sys2Proof/Machine/Command.lean ====
section
/-! DEFINITION. The command protocol of the host rings: admission of a descriptor at the head of its
ring, its effect, its response and its completion (R691 to R711, R716). -/
namespace Sys2Proof.Machine

/-! ### Status codes (Table 14.5) -/

def stOk : Nat := 0x00
def stBusy : Nat := 0x01
def stRefused : Nat := 0x02
def stInvalid : Nat := 0x03
def stDeferred : Nat := 0x04
def stNoTxn : Nat := 0x05
def stNotPrepared : Nat := 0x06
def stNoBudget : Nat := 0x07
def stFull : Nat := 0x08
def stLate : Nat := 0x09
def stTooLate : Nat := 0x0A
def stNoSpace : Nat := 0x0B
def stMismatch : Nat := 0x0C
def stCorrupt : Nat := 0x0D
def stConflict : Nat := 0x0E
def stNoBandwidth : Nat := 0x0F
def stDenied : Nat := 0x10
def stIoError : Nat := 0x11

/-- What a command comes to: the state it leaves, its status, RESULT bytes and response, or that it
goes on executing and completes later. -/
structure Res where
  st : State
  status : Nat := 0
  result : List Byte := []
  resp : List Byte := []
  long : Bool := false

/-- OK with RESULT bytes and a response. -/
def okRes (s : State) (result resp : List Byte := []) : Res := { st := s, result := result, resp := resp }

/-- A status without effect. -/
def failRes (s : State) (status : Nat) (result : List Byte := []) : Res :=
  { st := s, status := status, result := result }

/-- INVALID at a descriptor byte (Table 14.5). -/
def badDesc (s : State) (off : Nat) : Res := failRes s stInvalid (le 4 off ++ [0])

/-- INVALID at a buffer byte, or at an item of the buffer (Table 14.5). -/
def badBuf (s : State) (off : Nat) : Res := failRes s stInvalid (le 4 off ++ [1])

/-- A command that goes on executing. -/
def longRes (s : State) : Res := { st := s, long := true }

/-! ### Rings -/

/-- A ring pair; a ring number above 15 names none. -/
def State.ring (s : State) (r : Nat) : RingS := atD s.host.rings r {}

/-- Change a ring pair. -/
def State.setRing (s : State) (r : Nat) (x : RingS) : State :=
  { s with host := { s.host with rings := s.host.rings.set r x } }

/-- Entries of a ring pair's rings (R680). -/
def State.ringSize (s : State) (r : Nat) : Nat := 2 ^ s.rd (Reg.HOST.RING.CFG.SIZE r)

/-- Free entries of CPLr. -/
def State.cplFree (s : State) (r : Nat) : Nat :=
  s.ringSize r - ((s.ring r).cplP + 65536 - (s.ring r).cplC) % 65536

/-- Show CPLFULL as R695 states it: rings 1 to 15, CPLr enabled without a free entry. -/
def State.showFull (s : State) (r : Nat) : State :=
  if r = 0 then s
  else s.put (Reg.HOST.RING.STAT.CPLFULL r) (s.on (Reg.HOST.RING.CFG.EN r) && s.cplFree r == 0)

/-- Whether ring r may start the command at its head (R691, R695, R720, R964). [DEDUCED, log 58] -/
def State.mayStart (s : State) (r : Nat) : Bool :=
  decide (r < 16) && s.on (Reg.HOST.RING.CFG.EN r) && !s.on (Reg.HOST.RING.STAT.HALT r) &&
    (s.ring r).run.isNone && (r == 0 || decide (0 < s.cplFree r))

/-- Whether a descriptor stands at the head of its ring and may start. -/
def State.ready (s : State) (op : Nat) (d : Desc) : Bool :=
  s.mayStart d.ring && (s.ring d.ring).fetched.head? == some ⟨op, d⟩

/-- Take the head descriptor of a ring into execution; a command of a session keeps that session's
key for its completion MAC (R714). -/
def State.start (s : State) (op : Nat) (d : Desc) : State :=
  let key := match atD s.host.sessions (d.session - 1) none with
    | some x => x.key
    | none => []
  s.setRing d.ring { s.ring d.ring with
    fetched := (s.ring d.ring).fetched.drop 1
    run := some { opcode := op, d := d, key := key, since := s.run } }

/-! ### Completions -/

/-- The first 64 bits of HMAC-SHA256 (R710, R711). -/
def mac64 (key msg : List Byte) : Nat := Config.hmacSha256 key msg / 2 ^ 192

/-- Descriptor bytes 0-15 and 24-63 in order (R710, Table 14.3). -/
def descMacBytes (d : Desc) (op : Nat) : List Byte :=
  le 1 op ++ le 1 d.flags ++ le 2 d.tag ++ le 2 d.session ++ le 2 d.rsvd ++ le 4 d.seq ++
    le 4 (d.rsvd / 65536) ++ le 8 d.bufAddr ++ le 4 d.buf.length ++ le 4 d.rlen ++ le 8 d.rbuf ++
    le 4 d.a0 ++ le 4 d.a1 ++ le 4 d.a2 ++ le 4 d.a3

/-- The completion bytes 0-23 (Table 14.4). -/
def Cpl.bytes (c : Cpl) : List Byte :=
  le 2 c.tag ++ le 1 c.phase ++ le 1 c.opcode ++ le 2 c.status ++ le 2 c.cidx ++ padTo 16 c.result

/-- Write a completion entry into CPLr (R685, R696). -/
def State.writeCpl (s : State) (r : Nat) (c : Cpl) (key resp : List Byte) (session : Nat) : State :=
  let g := s.ring r
  let phase := (1 + g.cplP / s.ringSize r) % 2
  let c1 := { c with phase := phase }
  let c2 := { c1 with mac := if session = 0 || r = 0 then 0 else mac64 key (le 1 r ++ c1.bytes ++ resp) }
  let s1 := s.setRing r { g with cplP := (g.cplP + 1) % 65536 }
  let h := s1.host
  let h1 := { h with cplMem := mapSet h.cplMem (r * 65536 + g.cplP % s.ringSize r) c2 }
  let h2 :=
    if s.on (Reg.HOST.RING.CFG.IRQEN r) then
      if r = 0 then { h1 with irqSent := h1.irqSent ++ [0] } else h1.owe r
    else h1
  ({ s1 with host := h2 }).showFull r

/-- Completions that CPL0 can hold inside the part (R709). -/
def cpl0Hold : Nat := 64

/-- Write a completion, or hold or lose it on CPL0 (R700, R709). -/
def State.emitCpl (s : State) (r : Nat) (c : Cpl) (key resp : List Byte) (session : Nat) : State :=
  if r = 0 && (s.cplFree 0 == 0 || !s.host.cpl0Held.isEmpty) then
    if s.host.cpl0Held.length < cpl0Hold then
      { s with host := { s.host with cpl0Held := s.host.cpl0Held ++ [c] } }
    else s.put Reg.HOST.STAT.CPL0LOST true
  else s.writeCpl r c key resp session

/-- End the command executing on ring r with a status; its completion is written unless it is to be
discarded (R679, R964); a DENIED completion is counted twice (R718). -/
def State.finish (s : State) (r status : Nat) (result resp : List Byte) : State :=
  match (s.ring r).run with
  | none => s
  | some x =>
    let s1 := s.setRing r { s.ring r with run := none }
    let s2 := s1.count (Reg.HOST.RING.CNT.DONE r)
    let s3 :=
      if status = stDenied then
        (s2.count (Reg.HOST.RING.CNT.DENIED r)).count Reg.SYS.VIOL_COUNT.RING
      else s2
    if x.drop then s3
    else
      let s4 :=
        if status = stOk && !resp.isEmpty then
          { s3 with host := { s3.host with rspMem := mapSet s3.host.rspMem x.d.rbuf resp } }
        else s3
      s4.emitCpl r ⟨x.d.tag, x.opcode, status, (x.d.index + 1) % 65536, padTo 16 result, 0, 0⟩ x.key
        resp x.d.session

/-- The ring whose executing command has an opcode and satisfies a test on its descriptor. -/
def State.ringOf (s : State) (op : Nat) (p : Desc → Bool := fun _ => true) : Option Nat :=
  (List.range 16).find? fun r =>
    match (s.ring r).run with
    | some x => x.opcode == op && p x.d
    | none => false

/-- Complete the executing command of an opcode, where there is one. -/
def State.finishOp (s : State) (op status : Nat) (result resp : List Byte := [])
    (p : Desc → Bool := fun _ => true) : State :=
  match s.ringOf op p with
  | none => s
  | some r => s.finish r status result resp

/-! ### Admission -/

/-- Role bits (Table 14.7). -/
def roleM : Nat := 1
def roleO : Nat := 2
def roleE : Nat := 4
def roleX : Nat := 8

/-- Whether R710 accepts a descriptor that names a session; at NOTAFTER a session has ended (R714). -/
def State.sessionOk (s : State) (op role : Nat) (d : Desc) : Bool :=
  match atD s.host.sessions (d.session - 1) none with
  | none => false
  | some x =>
    decide (d.session ≤ 16) && (x.notAfter == 0 || decide (s.secs < x.notAfter)) && x.mask.testBit d.ring &&
      decide (atD x.seqs d.ring 0 < d.seq) &&
      d.mac == mac64 x.key (le 1 d.ring ++ descMacBytes d op ++ d.buf) && (x.roles &&& role) == role

/-- Whether a descriptor may act at all: R710 with a session, R716 without one. [DEDUCED, log 5] -/
def State.allowed (s : State) (op role : Nat) (d : Desc) : Bool :=
  if d.session = 0 then !s.on Reg.HOST.CFG.REQ || op == 0x01 || op == 0x02
  else s.sessionOk op role d

/-- Note the SEQ that a session's descriptor brought (R710); 0xFFFF_FFFF ends the session (R714). -/
def State.noteSeq (s : State) (d : Desc) : State :=
  if d.session = 0 then s
  else
    match atD s.host.sessions (d.session - 1) none with
    | none => s
    | some x =>
      let x' := if d.seq = 0xFFFFFFFF then none else some { x with seqs := x.seqs.set d.ring d.seq }
      let s1 := { s with host := { s.host with sessions := s.host.sessions.set (d.session - 1) x' } }
      if d.seq = 0xFFFFFFFF then s1.wr Reg.HOST.STAT.SESS (s1.rd Reg.HOST.STAT.SESS - 1) else s1

/-- Whether FLAGS.CLEAR may be set on an opcode (R703). -/
def clearOk (op : Nat) : Bool := op == 0x70 || op == 0x32

/-- Opcodes that Table 14.6 accepts. -/
def knownOp (op : Nat) : Bool :=
  [0x01, 0x02, 0x10, 0x11, 0x18, 0x20, 0x21, 0x22, 0x23, 0x24, 0x25, 0x26, 0x30, 0x31, 0x32, 0x40,
    0x41, 0x42, 0x43, 0x48, 0x49, 0x50, 0x51, 0x52, 0x53, 0x54, 0x55, 0x56, 0x57, 0x60, 0x61, 0x62,
    0x70, 0x71, 0x72, 0x80, 0x81, 0x82, 0x83, 0x84, 0x85, 0x86, 0x87, 0x88, 0x89, 0x8A, 0x8B, 0x8C, 0x8D, 0x8E,
    0x90, 0x91, 0x98, 0x99, 0x9A, 0xA0, 0xA1, 0xA2, 0xA3, 0xA4, 0xA5, 0xA6, 0xA7, 0xA8, 0xA9, 0xAA,
    0xAB].contains op

/-- The first byte that makes a descriptor of CMD1 to CMD15 INVALID: its opcode, or a reserved or forbidden one (R697,
R702, R703, R709). [DEDUCED, log 5] -/
def descBad (d : Desc) (op : Nat) : Option Nat :=
  if !knownOp op || op == 0x50 then some 0
  else if d.flags / 2 ≠ 0 then some 1
  else if d.flags % 2 = 1 && !clearOk op then some 1
  else if d.rsvd % 65536 ≠ 0 then some 6
  else if d.rsvd / 65536 ≠ 0 then some 12
  else if 16777216 < d.buf.length then some 32
  else none

/-- What a descriptor of CMD1 to CMD15 comes to (R697, R702, R703, R709, R710, R716), then its
effect.  A session's MAC needs cryptography (R890).  Admission comes before the reserved fields (log entry 5).
[DEDUCED, log 5] -/
def Res.permit (s : State) (op role : Nat) (d : Desc) (eff : State → Res) : Res :=
  if d.ring = 0 then badDesc s 0
  else if d.session ≠ 0 && s.rd Reg.SEC.STATUS.CRYPTO = 2 then failRes s stRefused
  else if !s.allowed op role d then failRes s stDenied
  else
    let s1 := s.noteSeq d
    match descBad d op with
    | some b => badDesc s1 b
    | none => eff s1

/-- Complete a started command as its effect says; a response longer than RLEN makes it INVALID,
without effect (R699). [DEDUCED, log 5] -/
def State.settle (s : State) (d : Desc) (x : Res) : State :=
  if x.long then x.st
  else if x.status = stOk && decide (d.rlen < x.resp.length) then
    (s.noteSeq d).finish d.ring stInvalid (le 4 36 ++ [0]) []
  else x.st.finish d.ring x.status x.result x.resp

/-- Complete, in ring order, every head descriptor whose opcode names no command (R702), and on CMD0
every one but ALLSTOP (R709). -/
def pumpUnknown : Nat → Nat → State → State
  | 0, _, s => s
  | n + 1, r, s =>
    match (s.ring r).fetched.head? with
    | none => s
    | some x =>
      if s.mayStart r && (!knownOp x.opcode || (r == 0 && x.opcode != 0x50) ||
          (r != 0 && x.opcode == 0x50)) then
        let s1 := s.start x.opcode x.d
        let res := if r = 0 then badDesc s1 0 else Res.permit s1 x.opcode 0 x.d (fun t => badDesc t 0)
        pumpUnknown n r (s1.settle x.d res)
      else s

/-- The command at the head of its ring executes, and what no row names behind it completes. -/
def hostAct (op role : Nat) (d : Desc) (eff : State → Res) (s : State) : State :=
  let s1 := s.start op d
  pumpUnknown 4 d.ring (s1.settle d (Res.permit s1 op role d eff))

/-- A command of a ring: it acts only when its descriptor stands at the head of its enabled ring
(R691, R695), once what no row names before it has completed (R702); otherwise the part has not come to it, and nothing
changes but CPLFULL. [DEDUCED, log 5] -/
def hostCmd (op role : Nat) (d : Desc) (eff : State → Res) (s : State) : State :=
  if s.ready op d then hostAct op role d eff s
  else
    let t := pumpUnknown 4 d.ring s
    if t.ready op d then hostAct op role d eff t else t.showFull d.ring

end Sys2Proof.Machine
end

