-- ==== Sys2Proof/Machine/Graph.lean ====
section
/-! DEFINITION. The signal-flow graph's tables: route entries, parameter words, their checks at
TXN_PREPARE, and path latency with the alignment groups (chapters 02 and 03). -/
namespace Sys2Proof.Machine

/-! ### Item keys

An item's key orders items as R967 does: registers by offset, then route entries by index, then
parameter words by class, index and offset. -/

/-- Key of a register item. -/
def keyReg (off : Nat) : Nat := off
/-- Key of a route item. -/
def keyRoute (i : Nat) : Nat := 2 ^ 52 + i
/-- Key of a parameter item. -/
def keyParam (cls idx off : Nat) : Nat := 2 * 2 ^ 52 + cls * 2 ^ 48 + idx * 2 ^ 32 + off

/-- KIND of a key (Table 7.1). -/
def keyKind (k : Nat) : Nat := if k < 2 ^ 52 then 3 else if k < 2 * 2 ^ 52 then 2 else 1
/-- CLASS of a key. -/
def keyCls (k : Nat) : Nat := if keyKind k = 1 then k / 2 ^ 48 % 16 else 0
/-- INDEX of a key. -/
def keyIdx (k : Nat) : Nat :=
  if keyKind k = 1 then k / 2 ^ 32 % 65536 else if keyKind k = 2 then k % 2 ^ 52 else 0
/-- OFFSET of a key. -/
def keyOff (k : Nat) : Nat := if keyKind k = 2 then 0 else k % 2 ^ 32

/-- Bytes 0-7 of the item that a key names (Table 7.1, R967). -/
def keyBytes (k : Nat) : List Byte :=
  le 1 (keyKind k) ++ le 1 (keyCls k) ++ le 2 (keyIdx k) ++ le 4 (keyOff k)

/-- The key of an item; none where KIND is invalid or the fields do not suit it. -/
def itemKey (x : Item) : Option Nat :=
  if x.kind = 1 then
    if decide (1 ≤ x.cls) && decide (x.cls ≤ 4) then some (keyParam x.cls x.index x.offset) else none
  else if x.kind = 2 then
    if x.cls = 0 && x.offset = 0 && decide (x.index < 8192) then some (keyRoute x.index) else none
  else if x.kind = 3 then
    if x.cls = 0 && x.index = 0 && x.offset % 4 = 0 then some (keyReg x.offset) else none
  else none

/-- Put an item among others: it replaces one of the same word or entry, and register items merge
their masks, the later value winning (R364). -/
def putItem (items : Tbl Nat) (k v : Nat) : Tbl Nat :=
  if keyKind k = 3 then
    match mapGet items k with
    | none => mapSet items k v
    | some old =>
      let m := v / 2 ^ 32
      let keep := (old % 2 ^ 32) &&& ((2 ^ 32 - 1) - m % 2 ^ 32)
      mapSet items k ((keep ||| ((v % 2 ^ 32) &&& m)) + ((old / 2 ^ 32) ||| m) * 2 ^ 32)
  else mapSet items k v

/-- Items of kinds 1 and 3, the count that R365 limits. -/
def itemCount (items : Tbl Nat) : Nat := (items.filter (fun e => keyKind e.1 != 2)).length

/-- The limit of R365. -/
def itemLimit : Nat := 65536

/-! ### Route entries -/

/-- The reset value of a route entry: FLEN 7 (Table 2.6). -/
def routeDflt (_ : Nat) : BitVec 64 := 0x70000#64

/-- The topcoat entry as stored. -/
def State.route (s : State) (i : Nat) : Nat := (tblGet routeDflt s.routes i).toNat

/-- Fields of a route entry (Table 2.6). -/
def rtScls (e : Nat) : Nat := e % 16
def rtSidx (e : Nat) : Nat := e / 2 ^ 4 % 4096
def rtFlen (e : Nat) : Nat := e / 2 ^ 16 % 16
def rtZc (e : Nat) : Bool := e / 2 ^ 20 % 2 == 1
def rtAgrp (e : Nat) : Nat := e / 2 ^ 21 % 32
def rtMute (e : Nat) : Bool := e / 2 ^ 26 % 2 == 1
def rtComp (e : Nat) : Nat := e / 2 ^ 28 % 4096
def rtGen (e : Nat) : Nat := e / 2 ^ 40 % 16
def rtLat (e : Nat) : Nat := e / 2 ^ 44 % 2 ^ 20

/-- Whether an entry is a skim route (R111). -/
def rtSkim (e : Nat) : Bool := rtScls e == 7 || rtScls e == 8

/-- Skim gain code of an entry (R77). -/
def rtSkg (e : Nat) : Nat := rtComp e

/-- The partition that holds an entry: class and destination index (R69). -/
def State.partOf (s : State) (i : Nat) : Option (Nat × Nat) :=
  ((List.range 6).find? fun k =>
    decide (s.rd (Reg.GRAPH.RTPART.BASE k) ≤ i) &&
      decide (i < s.rd (Reg.GRAPH.RTPART.BASE k) + s.rd (Reg.GRAPH.RTPART.COUNT k))).map
    fun k => (k, i - s.rd (Reg.GRAPH.RTPART.BASE k))

/-- Route entry of a destination, where it exists (R69). -/
def State.destEntry (s : State) (cls d : Nat) : Option Nat :=
  if d < s.rd (Reg.GRAPH.RTPART.COUNT cls) then some (s.rd (Reg.GRAPH.RTPART.BASE cls) + d) else none

/-- What a read of the route window returns (R71, R79). -/
def State.routeRead (s : State) (i : Nat) : Nat := if (s.partOf i).isSome then s.route i else 0

/-- A capacity of Table 2.2 given at 96 kHz, at the plan's rate. [DEDUCED, log 67] -/
def State.cap (s : State) (at96 : Nat) : Nat := at96 * 2 / 2 ^ s.rd Reg.TICK.CFG.RATE

/-- Serial slots per port, M (Table 2.2). -/
def State.slotsM (s : State) : Nat := s.cap 16

/-- Sources of a class at the plan's rate (Table 2.4). -/
def State.srcCap (s : State) (cls : Nat) : Nat :=
  match cls with
  | 1 => s.cap 2048
  | 2 => 32 * s.slotsM
  | 3 => s.cap 2048
  | 4 => 16
  | 5 => s.cap 1024
  | 6 => s.cap 512
  | 7 => 32 * s.slotsM
  | 8 => 16
  | _ => 0

/-- Whether a destination class permits a source (Table 2.5, R66, R73). -/
def srcPermitted (dcls scls sidx : Nat) : Bool :=
  scls == 0 ||
  match dcls with
  | 0 => decide (scls ≤ 4)
  | 1 => (scls == 6 && decide (sidx < 128)) || scls == 7 || scls == 8
  | 2 => decide (scls ≤ 8)
  | _ => decide (scls ≤ 6)

/-- An entry's fields as a write sets them: RO bits ignored, and bits [39:28] only as SKG (R82). -/
def rtWritable (v : Nat) : Nat :=
  v % 2 ^ 27 + (if rtSkim v then rtComp v * 2 ^ 28 else 0)

/-! ### Parameter words -/

/-- The Reset value of a parameter word (Tables 3.4 to 3.9). -/
def paramDflt (k : Nat) : Word36 :=
  match keyCls k, keyOff k with
  | 1, 0 => 1
  | 1, 1 => BitVec.ofNat 36 (2 ^ 33)
  | 2, 1 => BitVec.ofNat 36 (2 ^ 33)
  | 2, 5 => BitVec.ofNat 36 (50 + 10 * 2 ^ 12 + 50 * 2 ^ 24)
  | 2, 7 => BitVec.ofNat 36 (10 + 100 * 2 ^ 12)
  | 4, 2 => BitVec.ofNat 36 1000000
  | 4, 3 => BitVec.ofNat 36 20000000
  | 4, 4 => BitVec.ofNat 36 1000
  | _, _ => 0

/-- A topcoat parameter word. -/
def State.param (s : State) (k : Nat) : Nat := (tblGet paramDflt s.params k).toNat

/-- The allocation of a parameter object in the loaded plan (R125); a column has that of its pair, of which the two
columns share one span (R151). -/
def State.alloc (s : State) (cls idx : Nat) : Alloc :=
  match s.plan.image with
  | none => { cls := cls, index := idx }
  | some p =>
    let mine (a : Alloc) : Bool := a.cls == cls && (a.index == idx || (cls == 3 && a.index / 2 == idx / 2))
    ((p.allocs.find? mine).map fun a => { a with index := idx }).getD { cls := cls, index := idx }

/-- Whether the loaded plan has a parameter object (R130, R705). -/
def State.objExists (s : State) (cls idx : Nat) : Bool :=
  match cls with
  | 1 => decide (idx < s.rd Reg.GRAPH.SIZE.INS)
  | 2 => decide (idx < s.rd Reg.GRAPH.SIZE.OUTS)
  | 3 => decide (idx < s.rd Reg.GRAPH.SIZE.OUTS)
  | 4 => decide (idx < 16) && s.plan.image.isSome
  | _ => false

/-- FIR coefficient words of an allocation (Table 3.5). -/
def firWords (a : Alloc) : Nat := if a.firDouble then a.firTaps else a.firTaps / 2

/-- Whether a biquad word fits its slot: inside the allocation, no reserved bit set (Table 3.7). -/
def bqWordOk (a : Alloc) (most b w v : Nat) : Bool :=
  decide (b < most) && decide (b < a.slots) &&
    (a.doubleSlots.contains b || (w == 0 || w == 1 || (w == 2 && decide (v < 2 ^ 18)) || v == 0))

/-- Whether a word of a parameter object has the container (R120, R131, R132, R134, R146, R150,
R164); the stability of a biquad slot is judged apart. [DEDUCED, log 76] -/
def State.wordOk (s : State) (cls idx off v : Nat) : Bool :=
  let a := s.alloc cls idx
  decide (v < 2 ^ 36) && s.objExists cls idx &&
  match cls with
  | 1 =>
    if off = 0 then decide (v < 2 ^ 5)
    else if off = 1 then decide (v < 2 ^ 35)
    else if off = 2 then decide (v ≤ a.dmax) && decide (v < 2 ^ 20)
    else if off < 8 then v == 0
    else bqWordOk a 12 ((off - 8) / 5) ((off - 8) % 5) v
  | 2 =>
    if off = 0 then decide (v < 2)
    else if off = 1 then decide (v < 2 ^ 35)
    else if off = 2 then decide (v ≤ a.dmax) && decide (v < 2 ^ 20)
    else if off = 3 then decide (v < 2 ^ 14) && decide (v % 2 ^ 13 ≤ a.firTaps - 1)
    else if off = 4 || off = 6 then
      decide (v < 2 ^ 17) && decide (-6000 ≤ toInt 16 (v % 2 ^ 16)) &&
        decide (toInt 16 (v % 2 ^ 16) ≤ 2400)
    else if off = 5 then
      decide (1 ≤ v % 2 ^ 12) && decide (v % 2 ^ 12 ≤ 2000) && decide (1 ≤ v / 2 ^ 12 % 2 ^ 12) &&
        decide (v / 2 ^ 12 % 2 ^ 12 ≤ 1000) && decide (1 ≤ v / 2 ^ 24) && decide (v / 2 ^ 24 ≤ 400)
    else if off = 7 then
      decide (v < 2 ^ 24) && decide (v % 2 ^ 12 ≤ 1000) && decide (1 ≤ v / 2 ^ 12) &&
        decide (v / 2 ^ 12 ≤ 4000)
    else if off < 88 then bqWordOk a 16 ((off - 8) / 5) ((off - 8) % 5) v
    else decide (off - 88 < firWords a)
  | 3 => decide (a.spanFirst ≤ off) && decide (off < a.spanFirst + a.span) && decide (v < 2 ^ 18)
  | 4 =>
    if off = 0 then decide (v ≤ 5)
    else if off = 1 then decide (v ≤ 2 ^ 33)
    else if off = 2 || off = 3 then decide (1000 ≤ v) && decide (v ≤ 450 * s.fs)
    else if off = 4 then decide (10 ≤ v) && decide (v ≤ 60000)
    else false
  | _ => false

/-- Whether a word exists for a read (R132, R705). -/
def State.wordExists (s : State) (cls idx off : Nat) : Bool := s.wordOk cls idx off 0 ||
  (s.objExists cls idx &&
    match cls with
    | 2 => off == 5 || off == 7
    | 4 => off == 2 || off == 3 || off == 4
    | _ => false)

/-- Stability of a biquad's denominator in its own scale: |a2| < 1 and |a1| < 1 + a2 (R138). -/
def bqStable (one a1 a2 : Int) : Bool := decide (|a2| < one) && decide (|a1| < one + a2)

/-! ### The undercoat over the topcoat (R374) -/

/-- A register as it would read with items applied: only SH bits under the mask change (R362). -/
def shMask (off : Nat) : Nat :=
  match regFields off with
  | none => 0
  | some fs => fs.foldl (fun a f => if f.ty = .sh then a ||| ((2 ^ f.w - 1) * 2 ^ f.lo) else a) 0

/-- Apply one register item to a word (R362). -/
def applyReg (off word v : Nat) : Nat :=
  let m := (v / 2 ^ 32) &&& shMask off
  (word &&& ((2 ^ 32 - 1) - m)) ||| ((v % 2 ^ 32) &&& m)

/-- The configuration that items would make: lists of items applied in order over the topcoat. -/
structure View where
  s : State
  lower : Tbl Nat
  upper : Tbl Nat
  /-- LAT excluding COMP, and COMP, of each entry as TXN_PREPARE computed them; empty before (R84). -/
  fin : Tbl (Nat × Nat) := []

/-- A register word in a view. -/
def View.reg (v : View) (off : Nat) : Nat :=
  let w := (v.s.word off).toNat
  let w1 := match mapGet v.lower (keyReg off) with
    | some x => applyReg off w x
    | none => w
  match mapGet v.upper (keyReg off) with
  | some x => applyReg off w1 x
  | none => w1

/-- A register field in a view. -/
def View.fld (v : View) (f : Fld) : Nat := v.reg f.off / 2 ^ f.lo % 2 ^ f.w

/-- A route entry in a view, without LAT, COMP and GEN. -/
def View.route (v : View) (i : Nat) : Nat :=
  match mapGet v.upper (keyRoute i) with
  | some x => rtWritable x
  | none => match mapGet v.lower (keyRoute i) with
    | some x => rtWritable x
    | none => rtWritable (v.s.route i)

/-- A parameter word in a view. -/
def View.param (v : View) (cls idx off : Nat) : Nat :=
  match mapGet v.upper (keyParam cls idx off) with
  | some x => x
  | none => match mapGet v.lower (keyParam cls idx off) with
    | some x => x
    | none => v.s.param (keyParam cls idx off)

/-- The route entries that a view lists, rising. -/
def View.entries (v : View) : List Nat :=
  let ks := v.s.routes.map (fun e => e.1) ++
    (v.lower.filter (fun e => keyKind e.1 == 2)).map (fun e => keyIdx e.1) ++
    (v.upper.filter (fun e => keyKind e.1 == 2)).map (fun e => keyIdx e.1)
  (ks.mergeSort (fun a b => decide (a ≤ b))).eraseDups

/-! ### Latency (R104 to R109) -/

/-- Receive offset in ticks of an open context that maps a network channel (R74, R539). -/
def State.rxOffset (s : State) (ch : Nat) : Option Nat :=
  (s.strm.rx.find? (fun e => (e.2.state == 2 || e.2.state == 3) && e.2.map.contains ch)).map
    (fun e => e.2.rxofs)

/-- The intake term I of a source of class 1 to 4 (R104). -/
def State.intake (s : State) (cls idx : Nat) : Nat :=
  match cls with
  | 1 => ((s.rxOffset idx).getD 0) * s.spt
  | 2 => 2
  | _ => 0

/-- The output term E of a destination class (Table 1.2). -/
def outTerm (dcls : Nat) : Nat := if dcls = 1 || dcls = 2 then 1 else 0

/-- FIR latency of an output strip: DLAT, or 0 when bypassed (R144, R145). -/
def View.firLat (v : View) (k : Nat) : Nat :=
  let c := v.param 2 k 3
  if c / 2 ^ 13 % 2 = 1 then 0 else c % 2 ^ 13

/-- LAT of an entry without COMP (Table 2.7). -/
def View.lat (v : View) (dcls d e : Nat) : Nat :=
  let sp := v.s.spt
  let c := rtScls e
  let x := rtSidx e
  if c = 0 then 0
  else if c = 7 || c = 8 then 4
  else if dcls = 0 then v.s.intake c x + v.param 1 d 2 % 2 ^ 20
  else if c = 6 then 2 * sp + v.param 2 x 2 % 2 ^ 20 + v.firLat x + outTerm dcls
  else if c = 5 then 2 * sp + outTerm dcls
  else v.s.intake c x + 2 * sp + outTerm dcls

/-- LAT without COMP of entry i in a view. -/
def View.latOf (v : View) (i : Nat) : Nat :=
  match v.s.partOf i with
  | none => 0
  | some (k, d) => v.lat k d (v.route i)

/-- The members of an alignment group in a view. -/
def View.members (v : View) (g : Nat) : List Nat :=
  v.entries.filter fun i => rtAgrp (v.route i) == g && (v.s.partOf i).isSome

/-- The group target: the largest LAT-excluding-COMP among the members (R107). -/
def View.target (v : View) (g : Nat) : Nat :=
  if g = 0 then 0 else (v.members g).foldl (fun a i => max a (v.latOf i)) 0

/-- LAT excluding COMP, and COMP, of an entry (R107); an entry of no group has no COMP.  TXN_PREPARE fixes both
(R84). -/
def View.latComp (v : View) (i : Nat) : Nat × Nat := match mapGet v.fin i with
  | some x => x
  | none =>
    let g := rtAgrp (v.route i)
    (v.latOf i, if g = 0 then 0 else v.target g - v.latOf i)

/-- COMP of an entry. -/
def View.comp (v : View) (i : Nat) : Nat := (v.latComp i).2

/-- What TXN_PREPARE computes for every entry of the undercoat (R84). -/
def View.lats (v : View) : Tbl (Nat × Nat) :=
  let w : View := { v with fin := [] }
  v.entries.map fun i => (i, w.latComp i)

/-- The entry as it launches, without GEN: writable fields, COMP or SKG, and LAT (R84). -/
def View.final (v : View) (i : Nat) : Nat :=
  let e := v.route i
  let c := v.comp i
  let mid := if rtSkim e then rtSkg e else c % 4096
  e % 2 ^ 28 + mid * 2 ^ 28 + (((v.latComp i).1 + (if rtSkim e then 0 else c)) % 2 ^ 20) * 2 ^ 44

/-! ### Validation (R83, R374, R967) -/

/-- Whether a skim source slot's port fits R112: "enabled at the engine sample rate" is read from the output's
registers as written, not from the rate last enabled or realigned (R504). [DESIGN CHOICE, log 67]
[DEDUCED, log 67] -/
def State.skimPortOk (s : State) (idx : Nat) : Bool :=
  let p := idx / s.slotsM
  let src := s.rd (Reg.SAP.P.CFG.WSRC p)
  s.on (Reg.SAP.P.CFG.ROLE p) ||
    (decide (4 ≤ src) && s.on (Reg.REFSEL.OUT.CFG.EN (src - 4)) &&
      s.rd (Reg.REFSEL.OUT.CFG.RATE (src - 4)) == s.rd Reg.TICK.CFG.RATE)

/-- Whether one route item passes R83, R108, R109, R112 and R114. -/
def View.routeOk (v : View) (i : Nat) : Bool :=
  match v.s.partOf i with
  | none => false
  | some (k, _) =>
    let e := v.route i
    let c := rtScls e
    let x := rtSidx e
    let g := rtAgrp e
    srcPermitted k c x && (c == 0 || decide (x < v.s.srcCap c)) && decide (rtFlen e < 14) &&
      (g == 0 ||
        (decide (k ≠ 0) && c != 0 && !rtSkim e && v.s.rd (Reg.GRAPH.AGRP.CAP g) != 0 &&
          decide (v.comp i ≤ v.s.rd (Reg.GRAPH.AGRP.CAP g)) &&
          (v.members g).all (fun j =>
            decide (5 ≤ rtScls (v.route j)) == decide (5 ≤ c)))) &&
      (c != 7 || v.s.skimPortOk x)

/-- Whether one register item passes R42 and the ranges that the register tables give. -/
def View.regOk (v : View) (off : Nat) : Bool :=
  let get (f : Fld) := v.fld f
  if off = Reg.TICK.EDDY.DEADLINE.off then
    decide (get Reg.TICK.EDDY.DEADLINE ≤ 90) && decide (get Reg.TICK.EDDY.RESERVE ≤ 50)
  else if off = Reg.TICK.CONCEAL.HOLD.off then
    decide (get Reg.TICK.CONCEAL.HOLD ≤ 8) && get Reg.TICK.CONCEAL.FADE != 0 &&
      get Reg.TICK.CONCEAL.RAMP != 0
  else if off = Reg.GRAPH.FEATHER.LEN.off then decide (get Reg.GRAPH.FEATHER.LEN < 14)
  else if off = Reg.GRAPH.ZC.TIMEOUT.off then
    decide (1 ≤ get Reg.GRAPH.ZC.TIMEOUT) && decide (get Reg.GRAPH.ZC.TIMEOUT ≤ 1000)
  else if off = Reg.MOD.BANDCFG.GUARD.off then
    decide (1 ≤ get Reg.MOD.BANDCFG.GUARD) && decide (get Reg.MOD.BANDCFG.GUARD ≤ 50)
  else
    let g := (off - 0x100100) / 0x20
    let n := (off - 0x100400) / 0x10
    if decide (0x100100 ≤ off) && decide (g < 16) && off == (Reg.MOD.G.CAR.IMIN g).off then
      decide (get (Reg.MOD.G.CAR.IMIN g) ≤ get (Reg.MOD.G.CAR.IMAX g))
    else if decide (0x100400 ≤ off) && decide (n < 128) && off == (Reg.MOD.CH.CFG.KGAIN n).off then
      decide (get (Reg.MOD.CH.CFG.KGAIN n) < 2 ^ 17)
    else true

/-- Whether the biquad slot of a parameter item is stable in a view (R138). -/
def View.slotOk (v : View) (cls idx off : Nat) : Bool :=
  if decide (off < 8) || decide (2 < cls) || (cls == 2 && decide (88 ≤ off)) then true
  else
    let b := (off - 8) / 5
    let base := 8 + 5 * b
    if (v.s.alloc cls idx).doubleSlots.contains b then
      bqStable (2 ^ 33) (toInt 36 (v.param cls idx (base + 3))) (toInt 36 (v.param cls idx (base + 4)))
    else
      bqStable (2 ^ 15) (toInt 18 (v.param cls idx (base + 1) / 2 ^ 18))
        (toInt 18 (v.param cls idx (base + 2) % 2 ^ 18))

/-- Whether one item passes validation in a view. -/
def View.itemOk (v : View) (k x : Nat) : Bool :=
  match keyKind k with
  | 3 => v.regOk (keyOff k)
  | 2 => v.routeOk (keyIdx k)
  | _ => v.s.wordOk (keyCls k) (keyIdx k) (keyOff k) x && v.slotOk (keyCls k) (keyIdx k) (keyOff k)

/-- Whether an entry's computed COMP exceeds its group's capacity (R109). -/
def View.compOver (v : View) (i : Nat) : Bool :=
  let g := rtAgrp (v.route i)
  g != 0 && (v.s.partOf i).isSome && decide (v.s.rd (Reg.GRAPH.AGRP.CAP g) < v.comp i)

/-- The first failing item of a view's upper items, in the order of R967; a route entry of a group fails
also where another item makes its COMP exceed the capacity (R83, R109). [DEDUCED, log 76] -/
def View.firstBad (v : View) : Option Nat :=
  let bad := (v.upper.filter (fun e => !v.itemOk e.1 e.2)).map (fun e => e.1)
  let rts := bad.filter (fun k => keyKind k == 2) ++ (v.entries.filter v.compOver).map keyRoute
  match bad.find? (fun k => keyKind k == 3), rts.min?, bad with
  | some k, _, _ => some k
  | none, some k, _ => some k
  | none, none, l => l.head?

/-! ### What crossfades, and what it costs (R98, R128, R966) -/

/-- The word bits of a strip control word that feather (R965): POL. -/
def polBit (cls : Nat) : Nat := if cls = 1 then 16 else 1

/-- Whether an item of a view changes something that crossfades (R98): the upper value against the
view below it. -/
def View.crossfades (v : View) (k x : Nat) : Bool :=
  let below : View := { v with upper := [] }
  match keyKind k with
  | 3 => false
  | 2 =>
    let o := below.route (keyIdx k)
    let e := rtWritable x
    rtScls o != rtScls e || rtSidx o != rtSidx e || rtAgrp o != rtAgrp e
  | _ =>
    let c := keyCls k
    let o := below.param c (keyIdx k) (keyOff k)
    if c = 3 then false
    else if (c = 1 || c = 2) && keyOff k = 1 then false
    else if (c = 1 || c = 2) && keyOff k = 0 then o / (2 * polBit c) != x / (2 * polBit c) ||
      o % polBit c != x % polBit c
    else o != x

/-- COMP of an entry below a view's upper items: the topcoat's, or what the launching slot's items make of it (R374). -/
def View.compBelow (v : View) (i : Nat) : Nat :=
  if v.lower.isEmpty then rtComp (v.s.route i)
  else ({ s := v.s, lower := [], upper := v.lower, fin := v.s.txn.lFin } : View).comp i % 4096

/-- The entries whose COMP the view changes (R110, R374). -/
def View.compChanged (v : View) : List Nat :=
  let below : View := { v with upper := [], fin := [] }
  v.entries.filter fun i =>
    !rtSkim (v.route i) && !rtSkim (below.route i) && (v.s.partOf i).isSome && v.comp i % 4096 != v.compBelow i &&
      (rtAgrp (v.route i) != 0 || v.compBelow i != 0)

/-- The objects of a view whose priming the plan charges: crossfaded words' objects, crossfaded route
entries (as class 5), and columns whose cells feather (R128, R966). -/
def View.costly (v : View) : List Nat :=
  let fromItems := v.upper.filterMap fun (k, x) =>
    if v.crossfades k x then
      some (if keyKind k = 2 then 5 * 65536 + keyIdx k else keyCls k * 65536 + keyIdx k)
    else if keyKind k = 1 && keyCls k = 3 && v.fld Reg.GRAPH.FEATHER.LEN != 0 &&
        x != ({ v with upper := [] } : View).param 3 (keyIdx k) (keyOff k) then
      some (3 * 65536 + keyIdx k)
    else none
  (fromItems ++ v.compChanged.map (fun i => 5 * 65536 + i)).eraseDups

/-- Whether a view launches with a crossfade at all (R387). -/
def View.hasCross (v : View) : Bool :=
  v.upper.any (fun e => v.crossfades e.1 e.2) || !v.compChanged.isEmpty

/-! ### Kernel costs (Table 3.2, R124 to R129, R966) -/

/-- F and P of a kernel in lane cycles. -/
def kernCycles : Kernel → Nat × Nat
  | .gain => (4, 2)
  | .highPass => (8, 22)
  | .biquad false => (4, 6)
  | .biquad true => (4, 11)
  | .fir a false => (24, a / 2 + 4)
  | .fir a true => (24, a + 4)
  | .delay _ => (4, 2)
  | .delayDram => (12, 2)
  | .column n => (8, n + 6)
  | .columnRamp n => (8, 3 * n / 2 + 6)
  | .rmsLimiter => (6, 10)
  | .peakLimiter => (6, 6)
  | .meter => (10, 2)
  | .blend => (4, 2)
  | .custom f p _ _ => (f, p)

/-- Cycles of one run, F + P x S (R124, R211). -/
def kernCost (spt : Nat) (k : Kernel) : Nat := (kernCycles k).1 + (kernCycles k).2 * spt

/-- Parameter words, state words that stand in both banks, and words of circular history (R126); a write pointer
is a banked word. -/
def kernState (spt : Nat) : Kernel → Nat × Nat × Nat
  | .gain => (1, 3, 0)
  | .highPass => (10, 12, 0)
  | .biquad false => (3, 4, 0)
  | .biquad true => (5, 6, 0)
  | .fir a false => (a / 2, 1, a + spt)
  | .fir a true => (a, 1, a + spt)
  | .delay dmax => (1, 1, dmax + spt)
  | .delayDram => (1, 1, 0)
  | .column n => (n, 0, 0)
  | .columnRamp n => (2 * n, 2, 0)
  | .rmsLimiter => (4, 3, 0)
  | .peakLimiter => (3, 2, 0)
  | .meter => (0, 4, 0)
  | .blend => (0, 0, 0)
  | .custom _ _ w _ => (w, 0, 0)

/-- Lane words of an instance: parameters and history once, banked words twice (R126). -/
def kernWords (spt : Nat) (k : Kernel) : Nat :=
  let w := kernState spt k
  w.1 + 2 * w.2.1 + w.2.2

/-- What the ramping variant of a column pair takes beyond the steady one, in cycles and words (R128). -/
def rampExtra (spt : Nat) : Kernel → Nat × Nat
  | .column n => (kernCost spt (.columnRamp n) - kernCost spt (.column n), kernWords spt (.columnRamp n) - kernWords spt (.column n))
  | _ => (0, 0)

/-- Cycles of a list of a plan's instances. -/
def instCost (p : PlanImage) (spt : Nat) (l : List Nat) : Nat :=
  ((l.filterMap fun i => p.insts[i]?).map fun x => kernCost spt x.kernel).sum

/-- Words written into a lane memory. -/
def putWords (m : Tbl Word36) (l : List (Nat × Word36)) : Tbl Word36 :=
  l.foldl (fun m e => tblSet (fun _ => 0) m e.1 e.2) m

/-- Parameter words written where the plan places them, into the checkpoint image of each logical lane and the lane memory
that holds it (R384, R386, R400). -/
def State.placeWords (s : State) (pick : LaneSched → List (Nat × Nat)) (word : Nat → Option Word36) : State :=
  let due (k : LogL) : List (Nat × Word36) := (pick k.sched).filterMap fun e => (word e.2).map fun w => (e.1, w)
  let l := s.lanes
  { s with lanes := { l with
    logl := l.logl.map fun e => (e.1, { e.2 with image := putWords e.2.image (due e.2) })
    pos := l.pos.map fun e => (e.1, match e.2.log.bind (mapGet l.logl) with
      | some k => { e.2 with mem := putWords e.2.mem (due k), upset := (due k).foldl (fun t w => mapErase t w.1) e.2.upset }
      | none => e.2) } }

/-- The alternate schedule that the plan provides for a cluster (R313). -/
def altFor (p : PlanImage) (c : Nat) : Option AltSched := p.alts.find? (fun a => a.cluster == c)

/-- Whether the region of a cluster runs an alternate schedule, and for which cluster (R315). -/
def State.altOf (s : State) (region : Nat) : Option Nat :=
  if s.on (Reg.GUARD.ALT.ACTIVE region) then some (region * 4 + s.rd (Reg.GUARD.ALT.CL region)) else none

/-- The lane that runs an instance, or its copy in a new graph, in a variant of an alternate schedule. -/
def variantLane (v : List AltLane) (i : Nat) (copy : Bool) : Option Nat :=
  (v.find? fun x => x.runs.any fun r => r.inst == i && r.copy == copy).map fun x => x.lane

/-- The lane of an instance or its copy whose cluster's work runs in a variant of an alternate schedule: an absorbing
lane (R313, R397). -/
def absorbed (a : AltSched) (v : List AltLane) (i : Nat) (copy : Bool) (home : Nat) : Nat :=
  if copy then (variantLane v i true).getD ((mapGet a.place i).getD home)
  else (mapGet a.place i).getD ((variantLane v i false).getD home)

/-- The plan's lane of an instance, or of its copy in a new graph (R966). -/
def homeLane (x : Inst) (copy : Bool) : Nat := if copy then x.copy else x.lane

/-- The lane on which an instance or its copy runs: the plan's, or the absorbing lane where its cluster's work runs on the
alternate schedule, in the variant that `pick` takes (R313, R318). -/
def State.placeIn (s : State) (p : PlanImage) (pick : AltSched → List AltLane) (i : Nat) (copy : Bool) : Option Nat :=
  (p.insts[i]?).map fun x =>
    let home := homeLane x copy
    if s.altOf (home / 32) == some (home / 8) then
      match altFor p (home / 8) with
      | some a => absorbed a (pick a) i copy home
      | none => home
    else home

/-- Instances in the change cones of objects (R966). -/
def changeCone (p : PlanImage) (objs : List Nat) : List Nat :=
  (((p.changeCones.filter fun e => objs.contains e.1).map fun e => e.2).flatten).eraseDups

/-- What the ramping variants of the column pairs of some columns cost on a logical lane (R128); `loc` places an instance
or its copy. [DEDUCED, log 105] -/
def rampOn (p : PlanImage) (spt : Nat) (loc : Nat → Bool → Option Nat) (cols : List Nat) (lane : Nat) : Nat × Nat :=
  (p.insts.zipIdx.filter fun x => x.1.objs.any cols.contains && loc x.2 false == some lane).foldl
    (fun a x => (a.1 + (rampExtra spt x.1.kernel).1, a.2 + (rampExtra spt x.1.kernel).2)) (0, 0)

/-- Priming cycles and words that objects cost on a logical lane: the copies of the instances in the change cones
of those that crossfade, and the ramping variants of columns (R41, R128, R129, R966); `loc` places an instance or its
copy. -/
def primeOn (p : PlanImage) (spt : Nat) (loc : Nat → Bool → Option Nat) (objs : List Nat) (lane : Nat) : Nat × Nat :=
  let mine := ((changeCone p objs).filter fun i => loc i true == some lane).filterMap fun i => p.insts[i]?
  let r := rampOn p spt loc (objs.filter fun o => o / 65536 == 3) lane
  ((mine.map fun x => kernCost spt x.kernel).sum + r.1, (mine.map fun x => kernWords spt x.kernel).sum + r.2)

/-- What a plan fixes for a logical lane; in Duplex the second die has the segments of the first (R235 step 3). -/
def schedOf (p : PlanImage) (lane : Nat) : LaneSched :=
  match p.images.find? fun x => x.lane == lane || (p.mode == 1 && x.lane + 128 == lane) with
  | some x => x.sched
  | none => {}

/-- Words of a lane's memory that the plan leaves free (R126, R129). -/
def freeWords (p : PlanImage) (spt lane : Nat) : Nat :=
  0x8000 - ((p.insts.filter fun x => x.lane == lane).map fun x => kernWords spt x.kernel).sum - (schedOf p lane).other

/-- The end of a lane's work in a variant, m where the variant gives it none. -/
def altEnd (v : List AltLane) (lane m : Nat) : Nat := ((v.find? fun x => x.lane == lane).map fun x => x.finish).getD m

/-- The end of a lane's schedule beside a new graph: the plan's, or that of the alternate schedule of the new graph in a
region that runs one (R318): its steady crossfade variant. [DEDUCED, log 26] -/
def State.mainEnd (s : State) (p : PlanImage) (lane m : Nat) : Nat :=
  match s.altOf (lane / 32) with
  | none => m
  | some c => match altFor p c with
    | none => m
    | some a => altEnd a.steadyX lane m

/-- NO_BUDGET's place: cluster, logical lane, detail (Table 14.5). -/
abbrev Short := Nat × Nat × Nat

/-- The first lane whose main schedule and priming exceed the main limit, or whose free words do not
hold the new graph (R41, R129); the limit takes the larger reserve. -/
def View.laneShort (v : View) (p : PlanImage) : Option Short :=
  let objs := v.costly
  let pct := max (v.s.rd Reg.TICK.EDDY.RESERVE) (v.fld Reg.TICK.EDDY.RESERVE)
  let lim := mainLimit v.s.cycles pct
  let loc := v.s.placeIn p fun a => a.steadyX
  match p.mains.find? (fun (l, m) => decide (lim < v.s.mainEnd p l m + (primeOn p v.s.spt loc objs l).1)) with
  | some (l, _) => some (l / 8, l % 8, 0)
  | none =>
    match p.mains.find? (fun (l, _) => decide (freeWords p v.s.spt l < (primeOn p v.s.spt loc objs l).2)) with
    | some (l, _) => some (l / 8, l % 8, 1)
    | none => none

/-- Whether a variant of an alternate schedule ends after the finish line with the priming of some objects: the copies of
its cluster's instances are primed on the absorbing lanes (R378). -/
def variantLate (p : PlanImage) (spt fin : Nat) (a : AltSched) (objs : List Nat) (v : List AltLane) : Bool :=
  let loc (i : Nat) (copy : Bool) : Option Nat := (p.insts[i]?).map fun x =>
    if homeLane x copy / 8 = a.cluster then absorbed a v i copy (homeLane x copy) else homeLane x copy
  v.any fun x => decide (fin < x.finish + (primeOn p spt loc objs x.lane).1)

/-- Clusters of a view's cones whose alternate schedule would end after the finish line with the
priming (R378). -/
def View.uncovered (v : View) (p : PlanImage) : List Nat :=
  let objs := v.costly
  let cones := (((changeCone p objs).filterMap fun i => p.insts[i]?).map fun x => [x.lane / 8, x.copy / 8]).flatten
  (p.alts.filter fun a => cones.contains a.cluster && [a.entryX, a.steadyX, a.exitX].any
    (variantLate p v.s.spt (v.s.cycles - guardCycles) a objs)).map fun a => a.cluster

end Sys2Proof.Machine
end

