-- ==== Sys2Proof/Machine/Ouvfel.lean ====
section
/-! DEFINITION. Frames of the Ouvfel link and the conditions of the pair that other units use
(R339 to R347). -/
namespace Sys2Proof.Machine

/-- Frame types (Table 6.4). -/
def ouvHeartbeat : Nat := 1
def ouvConfig : Nat := 2
def ouvImage : Nat := 3
def ouvHandover : Nat := 4
def ouvAck : Nat := 5
def ouvTime : Nat := 6

/-- The bytes that a frame's CRC covers: 0 to 15 + LEN (Table 6.3). -/
def ouvBytes (f : OuvFrame) : List Byte :=
  le 1 f.type ++ le 1 f.flags ++ le 2 f.payload.length ++ le 4 f.seq ++ le 8 f.tick ++ f.payload

/-- Whether the link is up. -/
def State.ouvUp (s : State) : Bool := s.rd Reg.GUARD.OUVSTAT.LINK == 2

/-- Send a frame on an enabled link that is up; it takes the next SEQ. -/
def State.ouvSend (s : State) (type flags : Nat) (payload : List Byte) : State :=
  if s.on Reg.GUARD.OUVCFG.EN && s.ouvUp then
    let f : OuvFrame := {
      type := type, flags := flags, seq := s.ouv.txSeq, tick := s.tick, payload := payload, crc := 0
      secondary := s.on Reg.GUARD.OUVCFG.ROLE }
    { s with ouv := { s.ouv with
        txSeq := (s.ouv.txSeq + 1) % 2 ^ 32
        out := s.ouv.out ++ [{ f with crc := crc32c (ouvBytes f) }] } }
  else s

/-- The partner as read in OUVSTAT: 0 none or lost, 1 incompatible, 2 joining, 3 in step. -/
def State.partner (s : State) : Nat := s.rd Reg.GUARD.OUVSTAT.PARTNER

/-- Whether the partner last heard has the opposite role (R339). [DEDUCED, log 31] -/
def State.opposite (s : State) : Bool := s.ouv.hbSecond != s.on Reg.GUARD.OUVCFG.ROLE

/-- Whether the node is one of a pair (R339). -/
def State.paired (s : State) : Bool := s.on Reg.GUARD.OUVCFG.EN && s.opposite && decide (2 ≤ s.partner)

/-- Whether the node holds authority. -/
def State.holds (s : State) : Bool := s.on Reg.GUARD.OUVSTAT.AUTH_OUT

/-- A paired node without authority (R347, R396). -/
def State.follower (s : State) : Bool := s.paired && !s.holds

/-- The CRC-32C of the loaded plan image; 0 with none. -/
def State.planCrc (s : State) : Nat := match s.plan.image with
  | some p => p.crc.toNat
  | none => 0

/-- Split a list into pieces of at most `n`. -/
def pieces {α : Type} (n : Nat) : Nat → List α → List (List α)
  | 0, _ => []
  | f + 1, l => l.take n :: (if l.length ≤ n then [] else pieces n f (l.drop n))

/-- The 16 bytes of an item (Table 7.1). -/
def itemBytes (k v : Nat) : List Byte := keyBytes k ++ le 8 v

/-- Send a CONFIG set for launch tick `l`: frames of up to 511 items, the last with LAST (R345,
Table 6.4); an empty set is one frame (R403). -/
def State.sendConfig (s : State) (l : Nat) (items : Tbl Nat) : State :=
  let ps := pieces 511 (items.length + 1) items
  (ps.zipIdx).foldl (fun (a : State) (p, i) =>
    a.ouvSend ouvConfig (if i + 1 = ps.length then 1 else 0)
      (le 8 l ++ (p.map (fun e => itemBytes e.1 e.2)).flatten)) s

end Sys2Proof.Machine
end

