-- ==== Sys2Proof/Machine/Ref.lean ====
section
/-! DEFINITION. Reference slots, their monitors, selection, holdover and the clock outputs
(chapter 09). -/
namespace Sys2Proof.Machine

/-! ### Slots -/

/-- Reason bits of a slot (Table 9.4). -/
def reasonLos : Nat := 0
def reasonFreq : Nat := 1
def reasonPhase : Nat := 2
def reasonSrc : Nat := 3

/-- A reference slot's further state. -/
def State.slot (s : State) (i : Nat) : RefSlot := atD s.ref.slots i {}
/-- Set a reference slot's further state. -/
def State.setSlot (s : State) (i : Nat) (x : RefSlot) : State :=
  { s with ref := { s.ref with slots := s.ref.slots.set i x } }

/-- The selected slot, 15 for none. -/
def State.sel (s : State) : Nat := s.rd Reg.REFSEL.STATUS.SEL
/-- Whether the node is in holdover. -/
def State.inHoldover (s : State) : Bool := s.rd Reg.REFSEL.STATUS.STATE == 3
/-- The 10 s average frequency of a slot. -/
def State.slotFreq (s : State) (i : Nat) : Int := s.rdInt (Reg.REFSEL.SLOT.FREQ i)

/-- Nanoseconds of a logarithmic PTP interval, 2^x s with x signed in 4 bits. -/
def logIntervalNs (x : Nat) : Nat :=
  if x < 8 then 1000000000 * 2 ^ x else 1000000000 / 2 ^ (16 - x)

/-- The word clock rate of slots 4 and 5 in Hz (`NOM`). -/
def State.nomRate (s : State) (i : Nat) : Nat := 48000 * 2 ^ s.rd (Reg.REFSEL.SLOT.CFG.NOM i)

/-- Twice the activity period of a slot in ns (Table 9.1, Table 9.4). -/
def State.twoPeriods (s : State) (i : Nat) : Nat :=
  if i < 4 then 2 * logIntervalNs (s.rd Reg.TIME.PTPINT.SYNC)
  else if i < 6 then ceilDiv 2000000000 (s.nomRate i)
  else if i = 6 then 200
  else if i < 9 then 2000000000
  else 2 * s.tickNs

/-- Base quality of a clockClass (Table 9.2). -/
def classBase (c : Nat) : Nat :=
  if c = 6 then 16 else if c = 7 then 24 else if c = 13 then 32 else if c = 14 then 40
  else if c = 52 || c = 58 then 96 else if c = 187 || c = 193 then 112
  else if c = 248 then 160 else if 1 ≤ c && c ≤ 127 then 128 else 192

/-- Adder of a clockAccuracy (Table 9.2). -/
def accAdder (a : Nat) : Nat :=
  if 0x17 ≤ a && a ≤ 0x21 then 0 else if 0x22 ≤ a && a ≤ 0x23 then 1
  else if 0x24 ≤ a && a ≤ 0x25 then 2 else if 0x26 ≤ a && a ≤ 0x31 then 4 else 6

/-- The PTP port p's further state. -/
def State.port (s : State) (p : Nat) : PtpPort := atD s.ports p {}
/-- Set a PTP port's further state. -/
def State.setPort (s : State) (p : Nat) (x : PtpPort) : State := { s with ports := s.ports.set p x }

/-- Effective quality of a slot: slot 9's sum saturates at 254 (R470, R471). -/
def State.quality (s : State) (i : Nat) : Nat :=
  if i < 4 then
    let p := s.port i
    if p.clockClass = 255 then 255 else classBase p.clockClass + accAdder p.clockAcc
  else
    let q := s.rd (Reg.REFSEL.SLOT.CFG.QUAL i)
    if i < 9 then q
    else if q = 255 then 255 else min 254 (s.ref.ptQual + q)

/-- The Source monitor (Table 9.4): whether it disqualifies the slot. -/
def State.sourceBad (s : State) (i : Nat) : Bool :=
  !s.on (Reg.REFSEL.SLOT.CFG.EN i) ||
    (decide (i < 4) && (s.rd (Reg.TIME.PORT.PSTAT.STATE i) != 9 || (s.port i).clockClass == 255)) ||
    (i == 9 && (!s.ref.ptStepped || s.ref.ptSlot == 9 || s.ref.ptQual == 255))

/-- The reason bits of a slot. -/
def State.reasons (s : State) (i : Nat) : Nat := s.rd (Reg.REFSEL.SLOT.STAT.REASON i)

/-- One reason bit set or cleared. -/
def State.putReason (s : State) (i bit : Nat) (b : Bool) : State :=
  let r := s.reasons i
  let off := if r.testBit bit then r - 2 ^ bit else r
  s.wr (Reg.REFSEL.SLOT.STAT.REASON i) (if b then off + 2 ^ bit else off)

/-- Take an estimated frequency of the reference. -/
def State.setFreq (s : State) (f : Int) : State :=
  { s with time := { s.time with freq := f, freqs := ((s.run, f) :: s.time.freqs).take 16 } }

/-- Discard the servo's measurements of a slot that loses its qualification, of phase and of frequency: the estimate and
the phase go back to what they were 2 activity periods before (R478, R483, R494). -/
def State.discardMeasures (s : State) (i : Nat) : State :=
  let x := s.slot i
  let old (m : Nat × Int) : Bool := decide (m.1 + s.twoPeriods i ≤ s.run)
  let kept := x.recent.filter old
  let gates := x.freqs.filter old
  let s1 := (s.setSlot i { x with recent := kept, theta := (kept.head?.map (fun m => m.2)).getD 0, freqs := gates }).wrInt
    (Reg.REFSEL.SLOT.FREQ i) (average (gates.map fun m => m.2))
  if s.sel = i then
    let old := s.time.freqs.filter fun m => decide (m.1 + s.twoPeriods i ≤ s.run)
    { s1 with
      time := { s1.time with freq := (old.head?.map fun m => m.2).getD 0, freqs := old }
      ref := { s1.ref with whole := false } }
  else s1

/-- A monitor disqualifies a slot: the reason bit, and where the slot had none, the count, the restart
of its wait, the discard and the entry (R474, R477, R478, R487, R509). -/
def State.disqualify (s : State) (i bit : Nat) : State :=
  if (s.reasons i).testBit bit then s
  else
    let first := s.reasons i == 0
    let s1 := s.putReason i bit true
    if !first then s1
    else
      let s2 := (s1.count (Reg.REFSEL.SLOT.CNT.DISQ i)).discardMeasures i
      let s3 := ((s2.put (Reg.REFSEL.SLOT.STAT.QUALIFIED i) false).put
        (Reg.REFSEL.SLOT.STAT.SELECTABLE i) false).put (Reg.REFSEL.SLOT.STAT.OUTVOTED i) false
      let s4 := (s3.setSlot i { s3.slot i with hit := true, since := none }).wr
        (Reg.REFSEL.SLOT.STAT.WTRLEFT i) 0
      s4.log 0x0201 (le 1 i ++ le 1 (s4.reasons i))

/-- Whether the wait-to-restore of a slot is over or was never needed (R476). -/
def State.restored (s : State) (i : Nat) : Bool :=
  let x := s.slot i
  !x.hit ||
    match x.since with
    | some t => decide (t + s.rd Reg.REFSEL.CFG.WTR * 1000000000 ≤ s.run)
    | none => false

/-- Bring QUALIFIED, SELECTABLE, EFFQ and WTRLEFT of a slot to what its monitors say (R471, R475,
R476, R497). -/
def State.judge (s : State) (i : Nat) : State :=
  let q := s.quality i
  let s1 := s.wr (Reg.REFSEL.SLOT.STAT.EFFQ i) q
  let ok := s.reasons i == 0 && decide (1 ≤ (s.slot i).gates) && s.on (Reg.REFSEL.SLOT.CFG.EN i)
  if !ok then
    (s1.put (Reg.REFSEL.SLOT.STAT.QUALIFIED i) false).put (Reg.REFSEL.SLOT.STAT.SELECTABLE i) false
  else
    let x := s1.slot i
    let s2 := s1.setSlot i { x with since := some (x.since.getD s1.run) }
    let left := match (s2.slot i).since with
      | some t => if x.hit then ceilDiv (t + s.rd Reg.REFSEL.CFG.WTR * 1000000000 - s.run) 1000000000 else 0
      | none => 0
    let s3 := (s2.put (Reg.REFSEL.SLOT.STAT.QUALIFIED i) true).wr (Reg.REFSEL.SLOT.STAT.WTRLEFT i) left
    s3.put (Reg.REFSEL.SLOT.STAT.SELECTABLE i)
      (s3.restored i && !s3.on (Reg.REFSEL.SLOT.STAT.OUTVOTED i) && q != 255)

/-- Run the Source monitor of a slot (Table 9.4), then judge it. -/
def State.sourceTest (s : State) (i : Nat) : State :=
  let s1 := if s.sourceBad i then s.disqualify i reasonSrc else s.putReason i reasonSrc false
  s1.judge i

/-- A slot is enabled or disabled: enabling clears its history of disqualification (R476). -/
def State.slotEnable (s : State) (i : Nat) (on : Bool) : State :=
  let s1 := if on then s.setSlot i { enAt := s.run } else s
  let s2 := if on then (s1.wr (Reg.REFSEL.SLOT.STAT.REASON i) 0).put (Reg.REFSEL.SLOT.STAT.OUTVOTED i) false
    else s1
  s2.sourceTest i

/-! ### Phase offset and its alarm -/

/-- Show a phase offset, and raise or clear the offset alarm (R429). -/
def State.setTheta (s : State) (th : Int) : State :=
  let lim := (s.rd Reg.TIME.SLOPE.OFFALM : Int) * 1000
  let s1 := ({ s with time := { s.time with theta := th } }).wrInt Reg.TIME.OFFSET.THETA (max (-2147483647) th)
  if lim < |th| then
    if s.on Reg.TIME.STATUS.OFFALM then s1
    else (s1.put Reg.TIME.STATUS.OFFALM true).post 0x0016 (leInt 4 (max (-2147483648) (min th 2147483647)))
  else if 2 * |th| < lim then s1.put Reg.TIME.STATUS.OFFALM false
  else s1

/-- Something arrives from the source of a slot: its activity, which starts the first gate (R474, R475). -/
def State.heard (s : State) (i : Nat) : State :=
  let x := s.slot i
  let fresh := x.last.isNone
  (s.setSlot i { x with
    last := some s.run
    gates := if fresh then 0 else x.gates
    gateFrom := if fresh then some s.run else x.gateFrom }).putReason i reasonLos false

/-- Half the engine sample period in ns, compared without rounding: twice |d| times fs (Table 9.4). -/
def State.overHalfSample (s : State) (d : Int) : Bool := decide (1000000000 < 2 * |d| * s.fs)

/-- Take a phase measurement of a slot: activity, the Phase monitor, and θ where the slot is selected
(R469, R473, R474, R489). -/
def State.measure (s : State) (i : Nat) (th : Int) : State :=
  let x := s.slot i
  let fresh := x.last.isNone
  let predicted := Config.phasePrediction x.theta (s.slotFreq i) s.time.y (s.run - x.last.getD s.run)
  let bad := !fresh && s.overHalfSample (th - predicted)
  let s0 := s.heard i
  let s1 := s0.setSlot i { s0.slot i with theta := th, recent := (s.run, th) :: x.recent.take 15 }
  let s2 :=
    if bad then ((s1.count (Reg.REFSEL.SLOT.CNT.PHIT i)).disqualify i reasonPhase)
    else s1.putReason i reasonPhase false
  let s3 := s2.sourceTest i
  if s.sel = i && !bad then s3.setTheta th else s3

/-- The integer multiple of 1/rate seconds nearest to e, minus e, in ns (R469). -/
def gridOffset (rate e : Nat) : Int :=
  let k := (2 * e * rate + 1000000000) / 2000000000
  quot ((k : Int) * 1000000000 - (e : Int) * rate) rate

/-- REFERENCE_EDGE: a rising edge of the source of slots 4 to 8 at local time e (R469).  A RE_EPOCH that
waits for a PPS edge takes its instants from it (R431). -/
def doRefEdge (i e : Nat) (s : State) : State :=
  if i < 4 || 8 < i || !s.on (Reg.REFSEL.SLOT.CFG.EN i) then s
  else
    let rate := if i < 6 then s.nomRate i else if i = 6 then 10000000 else 1
    let s1 := s.measure i (gridOffset rate e)
    match s1.epoch with
    | none => s1
    | some x =>
      if x.src = 1 && decide (7 ≤ i) && s1.sel = i && decide (x.at_ ≤ e) then
        let k := max (ceilDiv e s1.tickNs) (ceilDiv (e + 2 * s1.tickNs) s1.tickNs)
        ({ s1 with epoch := some { x with k := k, src := 2, at_ := e } }).finishOp 0x41 stOk (le 8 k)
      else s1

/-- REFERENCE_ACTIVITY_LOSS: nothing arrived for 2 activity periods (Table 9.4). -/
def doActivityLoss (i : Nat) (s : State) : State :=
  let x := s.slot i
  let due := match x.last with
    | some t => decide (t + s.twoPeriods i ≤ s.run)
    | none => decide (x.enAt + s.twoPeriods i ≤ s.run)
  if 10 ≤ i || !s.on (Reg.REFSEL.SLOT.CFG.EN i) || !due then s
  else
    let s1 := s.disqualify i reasonLos
    (s1.setSlot i { s1.slot i with last := none, gates := 0, gateFrom := none, freqs := [] }).judge i

/-- FREQUENCY_GATE_END: a 1 s frequency measurement ends (R475, R483, Table 9.4). -/
def doGateEnd (i : Nat) (freq : Int) (s : State) : State :=
  let x := s.slot i
  let due := match x.gateFrom with
    | some t => decide (t + 1000000000 ≤ s.run)
    | none => false
  if 10 ≤ i || !s.on (Reg.REFSEL.SLOT.CFG.EN i) || !due then s
  else
    let fs := ((s.run, freq) :: x.freqs).take 10
    let s1 := (s.setSlot i { x with gates := x.gates + 1, gateFrom := some s.run, freqs := fs }).wrInt
      (Reg.REFSEL.SLOT.FREQ i) (average (fs.map fun m => m.2))
    let bad := decide ((s.rd (Reg.REFSEL.SLOT.CFG.FWIN i) : Int) * 1000000 < |freq|)
    let s2 := if bad then s1.disqualify i reasonFreq else s1.putReason i reasonFreq false
    let s3 := s2.judge i
    if s.sel = i && !bad then s3.setFreq (s3.slotFreq i) else s3

/-- WAIT_TO_RESTORE_END: a slot that stayed qualified for WTR becomes selectable (R476). [DEDUCED, log 8] -/
def doWtrEnd (i : Nat) (s : State) : State := if i < 10 then s.judge i else s

/-! ### Holdover -/

/-- Entries of the history that count (R491, R492). -/
def State.validHistory (s : State) : List HistEntry := s.ref.history.filter fun h => h.valid && h.used

/-- The holdover value at second t, and whether it rests on valid history; entries from before a reset at which the local
time began again are older than any instant since (R492 to R494). [DEDUCED, log 19] -/
def State.holdoverValue (s : State) (t : Nat) : Int × Bool :=
  let win := s.rd Reg.REFSEL.HCFG.WIN
  let gap := s.rd Reg.REFSEL.HCFG.GAP
  let span := s.validHistory.filter fun h => !h.past && decide (t ≤ h.secs + gap + win) && decide (h.secs + gap ≤ t)
  if win ≤ 2 * span.length then (average (span.map (fun h => h.freq)), true)
  else
    let old := s.validHistory.filter fun h => h.past || decide (h.secs + gap ≤ t)
    if old.isEmpty then (s.time.freq, false) else (average (old.map (fun h => h.freq)), true)

/-- Show a holdover value. -/
def State.showHoldover (s : State) (v : Int × Bool) : State :=
  (s.wrInt Reg.REFSEL.HOFREQ.FREQ v.1).put Reg.REFSEL.STATUS.HOVALID v.2

/-- HOLDOVER_HISTORY_WRITE: once per second while a slot is selected (R491, R497); the holdover value is
recomputed while no holdover is in progress. -/
def doHistory (s : State) : State :=
  if s.sel = 15 || s.on Reg.REFSEL.CTRL.FORCEHO then
    if s.inHoldover then s else s.showHoldover (s.holdoverValue s.secs)
  else
    let f := if s.ref.accN = 0 then s.time.freq else quot s.ref.acc s.ref.accN
    let h : HistEntry := { secs := s.secs, slot := s.sel, valid := s.ref.whole, freq := f }
    let hs := s.ref.history ++ [h]
    let s1 := { s with ref := { s.ref with
      history := hs.drop (hs.length - 1024)
      acc := 0
      accN := 0
      whole := s.on (Reg.REFSEL.SLOT.STAT.QUALIFIED s.sel) } }
    s1.showHoldover (s1.holdoverValue s1.secs)

/-! ### Selection at a tick boundary (R479 to R497) -/

/-- Whether two frequencies agree within the threshold `REFSEL.CFG.DIS`. -/
def State.agree (s : State) (a b : Int) : Bool := decide (|a - b| ≤ (s.rd Reg.REFSEL.CFG.DIS : Int) * 100000)

/-- The rank of a slot: effective quality, then priority (R479). -/
def State.rank (s : State) (i : Nat) : Nat :=
  s.rd (Reg.REFSEL.SLOT.STAT.EFFQ i) * 16 + s.rd (Reg.REFSEL.SLOT.CFG.PRIO i)

/-- The set S of selectable slots with the best rank, rising (R481, R497). -/
def State.bestSet (s : State) : List Nat :=
  if s.on Reg.REFSEL.CTRL.FORCEHO then []
  else
    let l := (List.range 10).filter (fun i => s.on (Reg.REFSEL.SLOT.STAT.SELECTABLE i))
    l.filter (fun i => l.all (fun j => decide (s.rank i ≤ s.rank j)))

/-- The support count of a slot of S (R484). -/
def State.support (s : State) (i : Nat) : Nat :=
  let others := (List.range 10).filter fun j => j != i && s.on (Reg.REFSEL.SLOT.STAT.QUALIFIED j) &&
    s.agree (s.slotFreq i) (s.slotFreq j)
  others.length +
    (if s.on Reg.REFSEL.STATUS.HOVALID && s.agree (s.slotFreq i) (s.rdInt Reg.REFSEL.HOFREQ.FREQ) then 1 else 0)

/-- The slot kept or taken where no vote decides: the selected one in S, else the lowest (R482, R485). -/
def State.keep (s : State) (set : List Nat) : Nat :=
  if set.contains s.sel then s.sel else set.headD 15

/-- Clear the equal-rank alarm with its entry (R486). -/
def State.clearEqualm (s : State) (w : Nat) : State :=
  if s.on Reg.REFSEL.STATUS.EQALM then (s.put Reg.REFSEL.STATUS.EQALM false).log 0x0206 (le 1 w) else s

/-- The vote over a non-empty S: the slot to select and the state with alarms and outvoted marks
(R482 to R486). -/
def State.vote (s : State) (set : List Nat) : Nat × State :=
  if set.all (fun i => set.all (fun j => s.agree (s.slotFreq i) (s.slotFreq j))) then
    (s.keep set, s.clearEqualm (s.keep set))
  else
    let top := set.foldl (fun a i => max a (s.support i)) 0
    match set.filter (fun i => s.support i == top) with
    | [w] =>
      let s1 := (set.filter (fun i => i != w)).foldl (fun (a : State) i =>
        ((a.put (Reg.REFSEL.SLOT.STAT.OUTVOTED i) true).put (Reg.REFSEL.SLOT.STAT.SELECTABLE i) false).log
          0x0207 (le 1 i ++ le 1 w ++ le 4 (s.support i) ++ le 4 top)) s
      (w, s1.clearEqualm w)
    | _ =>
      let s1 :=
        if s.on Reg.REFSEL.STATUS.EQALM then s
        else (s.put Reg.REFSEL.STATUS.EQALM true).log 0x0205
          ((set.map (fun i => le 1 i)).flatten ++ (set.map (fun i => leInt 4 (s.slotFreq i))).flatten)
      (s.keep set, s1)

/-- Enter holdover (R481, R493 to R495). [DEDUCED, log 19] -/
def State.enterHoldover (s : State) : State :=
  let v := s.holdoverValue s.secs
  let lost := s.sel
  let s1 := ((s.wr Reg.REFSEL.STATUS.SEL 15).wr Reg.REFSEL.STATUS.STATE 3).showHoldover v
  let s2 := { s1 with ref := { s1.ref with holdFrom := some s.run, whole := false, acc := 0, accN := 0 } }
  (((s2.setTheta 0).wr Reg.REFSEL.HOSECS.SECS 0).count Reg.REFSEL.CNT.HOLD).log 0x0203
    (le 1 lost ++ leInt 4 v.1 ++ le 1 (if v.2 then 1 else 0))

/-- Take a slot as the reference (R489, R490, R496). [DEDUCED, log 19] -/
def State.switchTo (s : State) (w : Nat) : State :=
  if w = s.sel then s
  else
    let held := match s.ref.holdFrom with
      | some t => (s.run - t) / 1000000000
      | none => 0
    let s1 := if s.inHoldover then (s.wrSat Reg.REFSEL.HOSECS.SECS held).log 0x0204 (le 1 w ++ le 4 held) else s
    let th := (s.slot w).theta
    let s2 : State := { s1.setFreq (s1.slotFreq w) with
      ref := { s1.ref with holdFrom := none, whole := false, acc := 0, accN := 0 } }
    let s3 := (((s2.wr Reg.REFSEL.STATUS.SEL w).wr Reg.REFSEL.STATUS.STATE 2).count Reg.REFSEL.CNT.SWITCH).log
      0x0202 (le 1 s.sel ++ le 1 w ++ leInt 4 (max (-2147483648) (min th 2147483647)))
    s3.setTheta th

/-- An outvoted slot comes back once its frequency agrees with the selected slot's (R487). -/
def State.unvote (s : State) : State :=
  (List.range 10).foldl (fun (a : State) i =>
    if a.on (Reg.REFSEL.SLOT.STAT.OUTVOTED i) && a.sel != 15 && a.agree (a.slotFreq i) (a.slotFreq a.sel) then
      (a.put (Reg.REFSEL.SLOT.STAT.OUTVOTED i) false).judge i
    else a) s

/-- The selector at a tick boundary (R480 to R490, R495 to R497). -/
def State.selectTick (s : State) : State :=
  let s0 := ((List.range 10).foldl (fun (a : State) i => a.judge i) s).unvote
  let set := s0.bestSet
  let s1 :=
    if set.isEmpty then
      let s0 := s0.clearEqualm s0.sel
      if s0.sel != 15 || (s0.on Reg.REFSEL.CTRL.FORCEHO && !s0.inHoldover) then s0.enterHoldover else s0
    else
      let (w, t) := s0.vote set
      t.switchTo w
  match s1.ref.holdFrom with
  | some t => s1.wrSat Reg.REFSEL.HOSECS.SECS ((s1.run - t) / 1000000000)
  | none => s1

/-- The servo at a tick boundary: y, its display, and the state of lock (R425 to R428, R495). -/
def State.servoTick (s : State) (theta : Option Int) : State :=
  let s0 := match theta with
    | some th => if s.sel = 15 then s else s.setTheta th
    | none => s
  if s0.inHoldover then
    let v := s0.rdInt Reg.REFSEL.HOFREQ.FREQ
    ({ s0 with time := { s0.time with y := v } }).wrInt Reg.TIME.RATE.Y v
  else if s0.sel = 15 then s0
  else
    let th := s0.time.theta
    let lim : Int := (s0.rd Reg.TIME.SLOPE.LIMIT : Int) * 100000
    let size : Int := if 1000 ≤ |th| then lim else min (Config.servoSlew th (s0.rd Reg.REFSEL.CFG.BW)) lim
    let slew : Int := if th < 0 then -size else if th = 0 then 0 else size
    let y := s0.time.freq + slew
    let s1 := { s0 with
      time := { s0.time with y := y }
      ref := { s0.ref with acc := s0.ref.acc + s0.time.freq, accN := s0.ref.accN + 1 } }
    (s1.wrInt Reg.TIME.RATE.Y y).wr Reg.REFSEL.STATUS.STATE (if |th| < 1000 then 1 else 2)

/-! ### Partner time (R472, R473) -/

/-- The fields of the TIME frame that leaves now (Table 9.3). -/
def State.timePayload (s : State) : List Byte :=
  let r := s.ref
  let sel := s.sel
  let rx := r.ptRx / 65536
  le 6 s.secs ++ le 4 (s.ns % 1000000000) ++ le 2 (s.time.now / 2 ^ 24 % 65536) ++ le 4 r.ptSeq ++
    le 6 (rx / 1000000000) ++ le 4 (rx % 1000000000) ++ le 2 (r.ptRx % 65536) ++
    le 1 (if s.inHoldover then 14 else sel) ++
    le 1 (if s.inHoldover then 254 else if sel = 15 then 255 else s.rd (Reg.REFSEL.SLOT.STAT.EFFQ sel)) ++
    le 1 (if s.on Reg.TIME.STATUS.STEPPED then 1 else 0) ++ le 1 0

/-- Send the tick's TIME frame (R472). -/
def State.sendTime (s : State) : State :=
  if s.on Reg.GUARD.OUVCFG.EN && s.ouvUp then
    let s1 := { s with ref := { s.ref with sentTime := ((s.ouv.txSeq, s.time.now / 2 ^ 24) :: s.ref.sentTime).take 16 } }
    s1.ouvSend ouvTime 0 s.timePayload
  else s

/-- Whether a received frame passes R342; one that does not is discarded and counted. -/
def frameOk (type maxLen : Nat) (f : OuvFrame) : Bool :=
  f.type == type && decide (f.payload.length ≤ maxLen) && f.crc == crc32c (ouvBytes f)

/-- Discard a frame (R342). -/
def State.discardFrame (s : State) : State := s.count Reg.GUARD.OUVSTAT.CRCERR

/-- TIME_FRAME: the partner's time, arriving at local instant a2 in 2^-16 ns (R471 to R474). -/
def doTimeFrame (f : OuvFrame) (a2 : Nat) (s : State) : State :=
  if !s.on Reg.GUARD.OUVCFG.EN || !s.ouvUp then s
  else if !frameOk ouvTime 8192 f then s.discardFrame
  else if f.payload.length ≠ 32 then s
  else
    let b := f.payload
    let b2 : Int := (((rdLe b 0 6 * 1000000000 + rdLe b 6 4) * 65536 + rdLe b 10 2 : Nat) : Int)
    let eseq := rdLe b 12 4
    let b1 : Int := (((rdLe b 16 6 * 1000000000 + rdLe b 22 4) * 65536 + rdLe b 26 2 : Nat) : Int)
    let s1 := { s with ref := { s.ref with
      ptSeq := f.seq
      ptRx := a2
      ptSlot := rdLe b 28 1
      ptQual := rdLe b 29 1
      ptStepped := rdLe b 30 1 % 2 == 1 } }
    match s1.ref.sentTime.find? (fun e => e.1 == eseq) with
    | none => if s1.on (Reg.REFSEL.SLOT.CFG.EN 9) then (s1.heard 9).sourceTest 9 else s1.sourceTest 9
    | some (_, a1) =>
      -- twice d, in 2^-16 ns
      let d := ((a2 : Int) - a1) - (b2 - b1)
      if s1.on (Reg.REFSEL.SLOT.CFG.EN 9) then s1.measure 9 (quot (2 * (b2 - (a2 : Int)) + d) 131072) else s1

/-! ### A step of the local time -/

/-- The representative nearest to 0 of a number modulo m. -/
def centered (x : Int) (m : Nat) : Int := (x + m / 2) % m - m / 2

/-- A slot's phase offset after the local time has stepped by d ns (R468, R469). [DEDUCED, log 77] -/
def State.thetaAfter (s : State) (i : Nat) (th d : Int) : Int :=
  if i < 4 || i == 9 then th - d
  else
    let rate := if i < 6 then s.nomRate i else if i = 6 then 10000000 else 1
    quot (centered ((th - d) * rate) 1000000000) rate

/-- What is kept in local time moves with a step of it by d ns: phase offsets, PTP and TIME timestamps, the last
captured edges and pulses in progress. [DEDUCED, log 77] -/
def State.shiftLocal (s : State) (d : Int) : State :=
  let slots := s.ref.slots.zipIdx.map fun e => { e.1 with
    theta := s.thetaAfter e.2 e.1.theta d, recent := e.1.recent.map fun m => (m.1, s.thetaAfter e.2 m.2 d) }
  let mv (t : Nat) : Nat := ((t : Int) + d).toNat
  let mvFine (t : Nat) : Nat := ((t : Int) + d * 65536).toNat
  { s with
    ref := { s.ref with slots := slots, ptRx := mvFine s.ref.ptRx, sentTime := s.ref.sentTime.map fun e => (e.1, mvFine e.2) }
    ports := s.ports.map fun p => { p with syncT2 := p.syncT2 + d, reqAt := p.reqAt + d, respT4 := p.respT4 + d }
    evins := s.evins.map fun e => { e with last := e.last.map mv }
    starts := s.starts.map fun x => { x with began := mv x.began, pulseEnd := x.pulseEnd.map mv } }

/-! ### Clock outputs (R502 to R508) -/

/-- A clock output's state. -/
def State.out (s : State) (j : Nat) : ClkOut := atD s.ref.outs j {}
/-- Set a clock output; every output is low after a supply trip (R896, R897). -/
def State.setOut (s : State) (j : Nat) (x : ClkOut) : State :=
  let y : ClkOut := { x with running := x.running && !s.pwr.tripped }
  { s with ref := { s.ref with outs := s.ref.outs.set j y } }

/-- Units of 1/768 ns in one ns: every output's period is a whole number of them (Table 9.6). -/
def outUnit : Nat := 768

/-- Rising edges of an output per second, or none for one edge per tick; a master clock's edges are those of its own
rate, of which each 48 kHz sample instant is one (Table 9.6). [DEDUCED, log 77] -/
def outRate (j code : Nat) : Option Nat :=
  if j < 4 then some (48000 * 2 ^ code)
  else if j < 6 then (if code = 0 then some 1 else none)
  else if j = 6 then some 10000000
  else some (24576000 * 2 ^ code)

/-- Period of an output in 1/768 ns. -/
def State.outPeriod (s : State) (j code : Nat) : Nat := match outRate j code with
  | some r => 1000000000 * outUnit / r
  | none => s.tickNs * outUnit

/-- The active part of a period in 1/768 ns: WIDTH us of a pulse output, or half the period where WIDTH reaches it;
50 % of the period of any other output (R505). -/
def State.outHigh (s : State) (j per : Nat) : Nat :=
  let w := s.rd (Reg.REFSEL.OUT.CFG.WIDTH j) * 1000 * outUnit
  if (j == 4 || j == 5) && decide (w < per) then w else per / 2

/-- Position of the grid of an output that starts aligned, relative to running time: the local time minus
the running time, plus OFFSET. -/
def State.alignedPhase (s : State) (ofs : Int) : Int := (s.run : Int) - s.ns + ofs

/-- An instant of running time in 1/768 ns. -/
def State.runU (s : State) : Int := (s.run : Int) * outUnit

/-- The latest rising edge of an output's grid, in 1/768 ns. -/
def State.lastEdge (s : State) (j : Nat) : Int :=
  let x := s.out j
  s.runU - (s.runU - x.phase * outUnit) % s.outPeriod j x.rate

/-- The first edge of a grid that is not before an instant t, in 1/768 ns. -/
def edgeFrom (t phase : Int) (per : Nat) : Int := t + (phase - t) % per

/-- The period in progress, where an enable or a REALIGN stretches it. -/
def State.stretched (s : State) (j : Nat) : Option Stretch :=
  (s.out j).stretch.filter fun x => decide (s.runU < x.next)

/-- An output's misalignment in ns: its latest edge against the aligned position nearest to it; a stretched period
keeps that of its start (R506). -/
def State.misOf (s : State) (j : Nat) : Int :=
  let x := s.out j
  if (s.stretched j).isSome then x.mis
  else
    let per := s.outPeriod j x.rate
    let d := (x.phase - s.alignedPhase x.ofs) * outUnit
    quot ((d + per / 2) % per - per / 2) outUnit

/-- The level of an output: low while it does not run, else the active level for the active part of each period
(R503, R505). -/
def State.outLevel (s : State) (j : Nat) : Bool :=
  let x := s.out j
  let high := match s.stretched j with
    | some y => decide (s.runU < y.high)
    | none => decide (s.runU - s.lastEdge j < s.outHigh j (s.outPeriod j x.rate))
  x.running && (high != (x.pol == 1))

/-- Show ALIGNED and MIS of an output (R506). -/
def State.showOut (s : State) (j : Nat) : State :=
  if !(s.out j).running then s
  else
    let m := s.misOf j
    ((s.setOut j { s.out j with mis := m }).wrInt (Reg.REFSEL.OUT.STAT.MIS j) m).put
      (Reg.REFSEL.OUT.STAT.ALIGNED j) (decide (|m| ≤ 2))

/-- The settings that an output takes at an enable or a REALIGN.  An output that runs finishes its period, lengthened
up to the first aligned position; one that starts is inactive up to it (R502, R504, R508). -/
def State.alignOut (s : State) (j : Nat) : State :=
  let x := s.out j
  let ofs := s.rdInt (Reg.REFSEL.OUT.OFS.OFFSET j)
  let rate := s.rd (Reg.REFSEL.OUT.CFG.RATE j)
  let phase := s.alignedPhase ofs
  let first (t : Int) : Int := edgeFrom t (phase * outUnit) (s.outPeriod j rate)
  let st : Stretch :=
    if x.running then
      let per := s.outPeriod j x.rate
      match s.stretched j with
      | some y => { y with next := first y.next }
      | none => { start := s.lastEdge j, high := s.lastEdge j + s.outHigh j per, next := first (s.lastEdge j + per) }
    else { start := s.runU, high := s.runU, next := first s.runU }
  (s.setOut j {
    running := true
    rate := rate
    pol := s.rd (Reg.REFSEL.OUT.CFG.POL j)
    ofs := ofs
    phase := phase
    mis := if x.running then s.misOf j else 0
    stretch := some st }).showOut j

/-- EN of an output was written (R502, R503): enabled, it starts; disabled, it is held low.  Before first
lock the first edge falls on the aligned position of the time that runs. [DESIGN CHOICE, log 77] -/
def State.outEnable (s : State) (j : Nat) (on : Bool) : State :=
  if on then (if (s.out j).running then s else s.alignOut j)
  else s.setOut j {}

/-- REALIGN (R507). [DEDUCED, log 77] -/
def realignRes (d : Desc) (s : State) : Res :=
  if 2 ^ 15 ≤ d.a0 then badDesc s 48
  else if 1000000000 ≤ d.a2 then badDesc s 56
  else if !s.on Reg.TIME.STATUS.STEPPED then failRes s stRefused
  else
    let k := s.tickFrom (s.readNs d) (d.rbuf * 1000000000 + d.a2) 2
    okRes { s with ref := { s.ref with realign := s.ref.realign ++ [(k, d.a0)] } } (le 8 k)

/-- REALIGN_APPLY: at T(k) the named outputs go onto their aligned positions (R508, R509). -/
def doRealign (s : State) : State :=
  match s.ref.realign.find? (fun e => decide (e.1 ≤ s.tick)) with
  | none => s
  | some (k, mask) =>
      let js := (List.range 15).filter (fun j => mask.testBit j && (s.out j).running)
      let s1 := js.foldl (fun (a : State) j => a.alignOut j)
        { s with ref := { s.ref with realign := s.ref.realign.erase (k, mask) } }
      s1.log 0x0208 (le 4 mask ++ (js.map (fun j => leInt 4 (s.misOf j))).flatten)

/-- REF_HISTORY (R706): 1,024 entries of 16 bytes, oldest first; places never written read zero. -/
def histBytes (h : HistEntry) : List Byte :=
  le 6 h.secs ++ le 1 h.slot ++ le 1 (if h.valid then 1 else 0) ++ leInt 4 h.freq ++ le 4 0

/-- REF_HISTORY. -/
def refHistoryRes (_ : Desc) (s : State) : Res :=
  okRes s [] (List.replicate ((1024 - s.ref.history.length) * 16) 0 ++ (s.ref.history.map histBytes).flatten)

/-! ### Rows -/

/-- REFERENCE_EDGE (R469). -/
def execReferenceEdge (slot e : Nat) (s : State) : Out := .next (doRefEdge slot e s)
/-- REFERENCE_ACTIVITY_LOSS (R474). -/
def execReferenceActivityLoss (slot : Nat) (s : State) : Out := .next (doActivityLoss slot s)
/-- FREQUENCY_GATE_END (R475). -/
def execFrequencyGateEnd (slot : Nat) (freq : Int) (s : State) : Out := .next (doGateEnd slot freq s)
/-- WAIT_TO_RESTORE_END (R476). -/
def execWaitToRestoreEnd (slot : Nat) (s : State) : Out := .next (doWtrEnd slot s)
/-- HOLDOVER_HISTORY_WRITE (R491). -/
def execHoldoverHistoryWrite (s : State) : Out := .next (doHistory s)
/-- TIME_FRAME (R473). -/
def execTimeFrame (f : OuvFrame) (a2 : Nat) (s : State) : Out := .next (doTimeFrame f a2 s)
/-- REALIGN (R507). -/
def execRealign (d : Desc) (s : State) : Out := .next (hostCmd 0x42 roleE d (realignRes d) s)
/-- REALIGN_APPLY (R508). -/
def execRealignApply (s : State) : Out := .next (doRealign s)
/-- REF_HISTORY (R706). -/
def execRefHistory (d : Desc) (s : State) : Out := .next (hostCmd 0x43 roleM d (refHistoryRes d) s)

end Sys2Proof.Machine
end

