-- ==== Sys2Proof/Machine/Carrier.lean ====
section
/-! DEFINITION. The choice of the modulators' carriers (R607 to R612). -/
namespace Sys2Proof.Machine

/-- What the model holds of a stage group beside its registers. -/
def State.mg (s : State) (g : Nat) : ModG := mapGetD s.modG g {}
/-- Change it. -/
def State.setMg (s : State) (g : Nat) (x : ModG) : State := { s with modG := mapSet s.modG g x }

/-- The highest index of a mode. -/
def topIndex (above : Bool) : Nat := if above then 160 else 880

/-- Frequency of a candidate in Hz (R607). -/
def candHz (above : Bool) (i : Nat) : Nat := if above then 1800000 + 5000 * i else 300000 + 750 * i

/-- The protected spans in Hz (R608). -/
def State.bands (s : State) : List (Nat × Nat) :=
  let dflt := s.rd Reg.MOD.BANDCFG.GUARD * 1000
  let es := (List.range 32).filterMap fun j =>
    if s.on (Reg.MOD.BAND.EN j) then
      let f := s.rd (Reg.MOD.BAND.FREQ j) * 500
      let g := s.rd (Reg.MOD.BAND.GUARD j) * 1000
      let g1 := if g = 0 then dflt else g
      some (f - g1, f + g1)
    else none
  if s.on Reg.MOD.BANDCFG.LW then (148500 - dflt, 283500 + dflt) :: es else es

/-- Frequencies checked for a candidate: its harmonics, and the beats with the groups below (R609). -/
def checked (above : Bool) (others : List Nat) (fc : Nat) : List Nat :=
  let hs := if above then (List.range (30000000 / fc)).map fun h => (h + 1) * fc
    else (List.range 15).map fun h => (h + 1) * fc
  let beats := ((others.filter fun o => o != fc).map fun o =>
    (List.range 15).map fun h => (h + 1) * (max o fc - min o fc)).flatten
  hs ++ beats

/-- Checked frequencies that conflict. -/
def conflicts (bands : List (Nat × Nat)) (fs : List Nat) : Nat :=
  (fs.filter fun f => bands.any fun b => decide (b.1 ≤ f) && decide (f ≤ b.2)).length

/-- The candidate of fewest conflicts, the lowest on a tie: (conflicts, Hz) (R610, R611). -/
def bestOf (bands : List (Nat × Nat)) (above : Bool) (others : List Nat) : List Nat → Option (Nat × Nat)
  | [] => none
  | i :: r =>
    let fc := candHz above i
    let c := conflicts bands (checked above others fc)
    if c = 0 then some (0, fc)
    else match bestOf bands above others r with
      | some (c2, f2) => if c2 < c then some (c2, f2) else some (c, fc)
      | none => some (c, fc)

/-- Whether a group runs with a chosen carrier. -/
def State.groupLive (s : State) (g : Nat) : Bool :=
  s.rd (Reg.MOD.G.STAT.STATE g) != 0 && s.rd (Reg.MOD.G.CARSTAT.FREQ g) != 0

/-- The candidate indices of a group (R607). -/
def State.indices (s : State) (g : Nat) : List Nat :=
  let top := topIndex (s.on (Reg.MOD.G.CFG.ABOVE g))
  let lo := min top (s.rd (Reg.MOD.G.CAR.IMIN g))
  let hi := min top (s.rd (Reg.MOD.G.CAR.IMAX g))
  (List.range (hi + 1 - lo)).map fun i => lo + i

/-- Choose a group's carrier; it waits for the first carrier period at or after a tick boundary (R610 to
R612). -/
def State.chooseCarrier (s : State) (g tick : Nat) : State :=
  let others := ((List.range g).filter s.groupLive).map fun o => s.rd (Reg.MOD.G.CARSTAT.FREQ o) * 10
  match bestOf s.bands (s.on (Reg.MOD.G.CFG.ABOVE g)) others (s.indices g) with
  | none => s
  | some (c, hz) =>
    let s1 := ((s.wr (Reg.MOD.G.CARSTAT.FREQ g) (hz / 10)).put (Reg.MOD.G.CARSTAT.CARFAIL g) (c != 0)).wrSat
      (Reg.MOD.G.CARSTAT.CONFL g) c
    let x := s1.mg g
    let s2 := s1.setMg g { x with next := some (hz / 10, tick) }
    if c = 0 then s2
    else s2.post 0x0019 (le 1 g ++ [0] ++ le 4 (s2.word (Reg.MOD.G.STAT.STATE g).off).toNat)

/-- Whether a register item concerns the carriers of a group, none for every group. -/
def carrierItem (off : Nat) : Option (Option Nat) :=
  let b0 := (Reg.MOD.BAND.FREQ 0).off
  let g0 := (Reg.MOD.G.CFG.EN 0).off
  if off = Reg.MOD.BANDCFG.GUARD.off || (decide (b0 ≤ off) && decide (off < b0 + 128)) then some none
  else if g0 ≤ off && off < g0 + 512 && (off - g0) % 32 ≤ 4 then some (some ((off - g0) / 32))
  else none

/-- The carriers that a launch at T(L) with these register offsets changes (R612). -/
def State.launchCarriers (s : State) (offs : List Nat) (l : Nat) : State :=
  let hits := offs.filterMap carrierItem
  ((List.range 16).filter fun g =>
    (hits.contains none || hits.contains (some g)) && s.rd (Reg.MOD.G.STAT.STATE g) != 0).foldl
    (fun (a : State) g => a.chooseCarrier g (l + 2)) s

end Sys2Proof.Machine
end

