-- ==== Sys2Proof/Machine/Num.lean ====
section
/-! DEFINITION. Numbers that the manual gives by formula: rounded quotients, square roots, decibels,
exponentials and sines, computed with 192 fraction bits and rounded once at the end. -/
namespace Sys2Proof.Machine

/-- Unity in Q2.33. -/
def one33 : Int := 2 ^ 33

/-- An exact quotient rounded to nearest, ties away from zero (R88, R117). -/
def roundDiv (a : Int) (b : Nat) : Int :=
  let q := (2 * a.natAbs + b) / (2 * b)
  if a < 0 then -(q : Int) else q

/-- Bits of an integer square root from bit n - 1 down, over a root r found so far. -/
def sqrtFrom : Nat → Nat → Nat → Nat
  | 0, _, r => r
  | n + 1, v, r => if (r + 2 ^ n) * (r + 2 ^ n) ≤ v then sqrtFrom n v (r + 2 ^ n) else sqrtFrom n v r

/-- The integer square root of a number below 2^256. -/
def isqrt (v : Nat) : Nat := sqrtFrom 128 v 0

/-- Fraction bits of the intermediate numbers. -/
def fx : Nat := 192

/-- The circle's ratio, the natural logarithms of 2 and of 10, with 192 fraction bits. -/
def piFx : Int := 19720096697726538562396133364228268891463450865190089732560
def ln2Fx : Int := 4350955369971217654477563090224794165364344896676135745069
def ln10Fx : Int := 14453560883108425870374435737727394665043423914827363902522

/-- A product of two numbers with 192 fraction bits. -/
def mulFx (a b : Int) : Int := a * b / 2 ^ fx

/-- The exponential series from its term t of order k on. -/
def expTerms : Nat → Nat → Int → Int → Int
  | 0, _, _, _ => 0
  | n + 1, k, x, t => t + expTerms n (k + 1) x (mulFx t x / (k + 1 : Nat))

/-- exp(x), with x and the result of 192 fraction bits: the powers of 2 are taken apart first. -/
def expFx (x : Int) : Int :=
  let n := x / ln2Fx
  let y := expTerms 60 0 (x - n * ln2Fx) (2 ^ fx)
  if 0 ≤ n then y * 2 ^ n.toNat else y / 2 ^ (-n).toNat

/-- The series of the inverse hyperbolic tangent from its power t of order k on. -/
def atanhTerms : Nat → Nat → Int → Int → Int
  | 0, _, _, _ => 0
  | n + 1, k, z2, t => t / (2 * k + 1 : Nat) + atanhTerms n (k + 1) z2 (mulFx t z2)

/-- The power of 2 at or below a quotient, from the bit lengths of its terms. -/
def log2Fx (num den : Nat) : Int := (Nat.log2 num : Int) - Nat.log2 den

/-- ln(num / den), with 192 fraction bits; num and den are not 0. -/
def lnFx (num den : Nat) : Int :=
  let e := log2Fx num den
  let a : Int := if 0 ≤ e then num else num * 2 ^ (-e).toNat
  let b : Int := if 0 ≤ e then den * 2 ^ e.toNat else den
  let z := (a - b) * 2 ^ fx / (a + b)
  e * ln2Fx + 2 * atanhTerms 100 0 (mulFx z z) z

/-- The sine series from its term t of order 2k + 1 on. -/
def sinTerms : Nat → Nat → Int → Int → Int
  | 0, _, _, _ => 0
  | n + 1, k, x2, t => t + sinTerms n (k + 1) x2 (-(mulFx t x2) / ((2 * k + 2) * (2 * k + 3) : Nat))

/-- The sine of num / den of a quarter turn, up to one quarter, with 192 fraction bits. -/
def sinQuarter (num den : Nat) : Int :=
  let x := piFx * num / (2 * den : Nat)
  sinTerms 40 0 (mulFx x x) x

/-- The sine of num / den of a turn, with 192 fraction bits: exact at the four quarters. -/
def sinTurn (num den : Nat) : Int :=
  let r := num % den * 4
  let q := r / den
  let p := r % den
  match q with
  | 0 => if p = 0 then 0 else sinQuarter p den
  | 1 => if p = 0 then 2 ^ fx else sinQuarter (den - p) den
  | 2 => if p = 0 then 0 else -(sinQuarter p den)
  | _ => if p = 0 then -(2 ^ fx) else -(sinQuarter (den - p) den)

/-- A number with 192 fraction bits rounded to `fb` of them, to nearest, ties away from zero (R88). -/
def roundFx (fb : Nat) (v : Int) : Int := roundDiv v (2 ^ (fx - fb))

/-- A fraction with 192 fraction bits as a rational number. -/
def ratFx (v : Int) : Rat := (v : Rat) / 2 ^ fx

/-- The tangent of half the angular corner, tan(pi f / fs), and its square, as rationals: the bilinear transform with
the corner kept (R140, R650). [DEDUCED, log 84] -/
def tanHalf (num den : Nat) : Rat := ratFx (sinTurn num (2 * den)) / ratFx (sinTurn (den + 2 * num) (4 * den))

/-- The coefficients b0, b1, b2, a1, a2 of a second-order section, of tan(pi f / fs) and 1 / Q: low-pass, or
high-pass. [DEDUCED, log 84] -/
def bilinear (low : Bool) (t iq : Rat) : List Rat :=
  let n := 1 + t * iq + t * t
  let b := (if low then t * t else 1) / n
  [b, if low then 2 * b else -2 * b, b, 2 * (t * t - 1) / n, (1 - t * iq + t * t) / n]

/-- The amplitude 10^(n / d), rounded to `fb` fraction bits: n / d is the level in units of 20 dB. -/
def dbGain (fb : Nat) (n : Int) (d : Nat) : Int := roundFx fb (expFx (ln10Fx * n / d))

/-- exp(-num / den) in Q2.33, rounded to nearest. -/
def expNeg33 (num den : Nat) : Int := roundFx 33 (expFx (-(2 ^ fx * num / den : Int)))

/-! ### Arithmetic (R115 to R122) -/

/-- Saturate to Q5.30 within -16.0 and 16.0 - 2^-30 (R116), with whether it saturated. -/
def satSample (v : Int) : Int × Nat :=
  if v < -(2 ^ 34 : Int) then (-(2 ^ 34 : Int), 1)
  else if (2 ^ 34 : Int) - 1 < v then ((2 ^ 34 : Int) - 1, 1)
  else (v, 0)

/-- A sum with `fb` fraction bits rounded once to Q5.30 and saturated (R117). -/
def toSample (fb : Nat) (v : Int) : Int × Nat := satSample (roundDiv v (2 ^ (fb - 30)))

/-- An integer sample of W bits as a graph sample (R121). -/
def fromInt (w : Nat) (v : Int) : Int :=
  if w ≤ 31 then v * 2 ^ (31 - w) else roundDiv v (2 ^ (w - 31))

/-- A graph sample as an integer of W bits, rounded and saturated (R122). -/
def toIntW (w : Nat) (x : Int) : Int :=
  let v := if w ≤ 31 then roundDiv x (2 ^ (31 - w)) else x * 2 ^ (w - 31)
  max (-(2 ^ (w - 1) : Int)) (min v (2 ^ (w - 1) - 1))

/-- A product with a Q2.33 factor as the accumulator holds it: 60 fraction bits, the rest discarded
towards minus infinity (R190). -/
def quad33 (x c : Int) : Int := (x * c) / 8

/-- A sample times a factor in Q2.33 in quad form: at accumulator precision, rounded once and saturated
(R116, R117, R190). -/
def mul33 (x c : Int) : Int × Nat := toSample 60 (quad33 x c)

/-- A feedback value of a double-limb section: 72 bits with 60 fraction bits, saturated within the range of
R116, so that no accumulator overflows (R116, R118, R135).  [DEDUCED, log 41] -/
def sat72 (v : Int) : Int := max (-(2 ^ 64 : Int)) (min v (2 ^ 64 - 2 ^ 30))

/-- Whether sample x is a zero crossing after sample y (R93). -/
def crosses (y x : Int) : Bool := x == 0 || decide (x * y < 0)

/-- The root of a quotient in whole units: exact where it divides, else one of the two neighbours (log entry 6).
[DESIGN CHOICE, log 6] -/
def rootQuot (a b : Nat) : Nat :=
  let r := isqrt (a / b)
  if r * r * b = a then r else r + (if Config.roundUp a b then 1 else 0)

/-- One step of a first-order average with coefficient c in Q2.33: c x old + (1 - c) x new (R153). -/
def smooth (c : Nat) (old new : Int) : Int := quot ((c : Int) * old + (2 ^ 33 - c) * new) (2 ^ 33)

end Sys2Proof.Machine
end

