-- ==== Sys2Proof/Machine/Txn.lean ====
section
/-! DEFINITION. The transaction unit: undercoat, prepare, commit, launch, collections and the scene
store (chapter 07). -/
namespace Sys2Proof.Machine

/-! ### Slot states -/

def osIdle : Nat := 0
def osOpen : Nat := 1
def osPrepared : Nat := 2
def osCollecting : Nat := 3

/-- State of the open slot (R368). -/
def State.os (s : State) : Nat := s.rd Reg.TXN.STATUS.OSTATE
/-- State of the launching slot: 0 IDLE, 1 COMMITTED, 2 CROSSFADE (R368). -/
def State.ls (s : State) : Nat := s.rd Reg.TXN.STATUS.LSTATE
/-- The launch tick of the launching slot. -/
def State.launchTick (s : State) : Nat :=
  s.rd Reg.TXN.LAUNCH_LO.L + s.rd Reg.TXN.LAUNCH_HI.L * 2 ^ 32

/-- Set the launch tick registers. -/
def State.setLaunch (s : State) (l : Nat) : State :=
  (s.wr Reg.TXN.LAUNCH_LO.L (l % 2 ^ 32)).wr Reg.TXN.LAUNCH_HI.L (l / 2 ^ 32)

/-- Set the open slot's items and their shown count (R367). -/
def State.setItems (s : State) (items : Tbl Nat) : State :=
  ({ s with txn := { s.txn with items := items } }).wr Reg.TXN.STATUS.ITEMS (itemCount items)

/-- Empty the open slot: state IDLE, number 0, no owner. -/
def State.clearOpen (s : State) : State :=
  let s1 := { s with txn := { s.txn with items := [], fin := [], against := false, rejected := none, refused := 0 } }
  ((((s1.wr Reg.TXN.STATUS.ITEMS 0).wr Reg.TXN.STATUS.OSTATE osIdle).wr Reg.TXN.OID.ID 0).wr
    Reg.TXN.STATUS.OWNER 0).wr Reg.TXN.STATUS.FULL 0

/-- Empty the launching slot. -/
def State.clearLaunch (s : State) : State :=
  let s1 : State := { s with
    old := none
    txn := { s.txn with lItems := [], lFin := [], lRing := none, lNoCover := [], priming := false, ending := false } }
  (((s1.wr Reg.TXN.STATUS.LSTATE 0).wr Reg.TXN.LID.ID 0).setLaunch 0).wr Reg.TXN.XFADE.X 0

/-- The next transaction number, taken: numbers skip 0 (R369). -/
def State.takeNumber (s : State) : Nat × State :=
  (s.txn.next, { s with txn := { s.txn with next := if s.txn.next + 1 < 2 ^ 32 then s.txn.next + 1 else 1 } })

/-- The launching slot's items that are not yet in the topcoat (R374). -/
def State.ahead (s : State) : Tbl Nat := if s.ls = 1 && !s.txn.ending then s.txn.lItems else []

/-- The configuration that the open slot would make (R374); once it is PREPARED, LAT and COMP stand as its
TXN_PREPARE computed them (R84). -/
def State.view (s : State) : View :=
  { s := s, lower := s.ahead, upper := s.txn.items, fin := if s.os = osPrepared then s.txn.fin else [] }

/-- The configuration that the launching slot makes. -/
def State.lView (s : State) : View := { s := s, lower := [], upper := s.txn.lItems, fin := s.txn.lFin }

/-- The boundary at which the launching slot is next free (R377, R388, R390). -/
def State.slotFree (s : State) : Nat :=
  if s.ls = 0 then 0
  else if s.txn.ending then s.tick + 1
  else s.launchTick + s.rd Reg.TXN.XFADE.X + 1

/-- Writes outside a transaction are refused or ignored on a paired node without authority and
without a plan (R396). -/
def State.noCollect (s : State) : Bool := s.follower || !s.on Reg.TICK.CFG.PLAN

/-! ### Items -/

/-- Whether an item would be the 65,537th of kinds 1 and 3 (R366). -/
def overLimit (items : Tbl Nat) (k : Nat) : Bool :=
  keyKind k != 2 && (mapGet items k).isNone && decide (itemLimit ≤ itemCount items)

/-- Add an item to an OPEN or PREPARED undercoat; the flag says whether it was taken.  A BAR0 write that adds
no item past the limit is taken after FULL too, which bars commands only (R364, R366).  [DEDUCED, log 82] -/
def State.addOpen (s : State) (k v : Nat) : Bool × State :=
  if overLimit s.txn.items k then (false, s.put Reg.TXN.STATUS.FULL true)
  else (true, (s.setItems (putItem s.txn.items k v)).wr Reg.TXN.STATUS.OSTATE osOpen)

/-- Add an item to a collection, which an IDLE slot starts (R392). -/
def State.addCollect (s : State) (k v : Nat) : Bool × State :=
  if overLimit s.txn.items k then
    (false, ({ s with txn := { s.txn with
      rejected := match s.txn.rejected with
        | none => some (k, v)
        | some x => some x
      refused := s.txn.refused + 1 } }).count Reg.TXN.IMPL.REJ)
  else (true, (s.setItems (putItem s.txn.items k v)).wr Reg.TXN.STATUS.OSTATE osCollecting)

/-- A BAR0 write to SH fields or to the route window (R372, R392, R396). -/
def State.barItem (s : State) (k v : Nat) : State :=
  if s.os = osOpen || s.os = osPrepared then (s.addOpen k v).2
  else if s.noCollect then s.count Reg.TXN.IMPL.IGN
  else (s.addCollect k v).2

/-- The register item of a BAR0 write (R363). -/
def State.shItem (s : State) (off : Nat) (value : Word) : State :=
  s.barItem (keyReg off) (value.toNat + shMask off * 2 ^ 32)

/-- Whether a BAR0 write that would join a collection is ignored: the slot is neither OPEN nor PREPARED, and no collection
may start or grow (R372, R396). -/
def State.barIgnored (s : State) : Bool := s.os != osOpen && s.os != osPrepared && s.noCollect

/-- Route window: a low word waits; without an undercoat or a collection to join it is ignored and counted (R81, R372,
R396). -/
def State.routeLow (s : State) (i : Nat) (value : Word) : State :=
  if s.barIgnored then s.count Reg.TXN.IMPL.IGN
  else { s with txn := { s.txn with low := some (i, value.toNat) } }

/-- Route window: a high word combines with the pending low word of its entry, or with the topcoat's;
either combination consumes the pending word (R71, R81, R82). [DEDUCED, log 74] -/
def State.routeHigh (s : State) (i : Nat) (value : Word) : State :=
  let lo := match s.txn.low with
    | some (j, w) => if j = i then w else s.route i % 2 ^ 32
    | none => s.route i % 2 ^ 32
  let s1 : State := { s with txn := { s.txn with low := none } }
  if (s.partOf i).isSome || s.barIgnored then s1.barItem (keyRoute i) (lo + value.toNat * 2 ^ 32) else s1

/-- Route window: a 64-bit write brings both words, and is one write where it is ignored (R80, R81, R396). -/
def State.routeWide (s : State) (i : Nat) (low value : Word) : State :=
  if s.barIgnored then s.count Reg.TXN.IMPL.IGN else (s.routeLow i low).routeHigh i value

/-- The item in 16 bytes (Table 7.1). -/
def itemOf (b : List Byte) : Item :=
  { kind := rdLe b 0 1, cls := rdLe b 1 1, index := rdLe b 2 2, offset := rdLe b 4 4, value := rdLe b 8 8 }

/-- The key of an item that may be written; a route item must name an entry of a partition (R71). -/
def State.itemKeyOk (s : State) (x : Item) : Option Nat :=
  match itemKey x with
  | none => none
  | some k => if keyKind k = 2 && (s.partOf (keyIdx k)).isNone then none else some k

/-- Add items in buffer order up to the first failure: how many were taken, why it stopped (0 not,
else a status), and the state (R366, R392, R708). -/
def addItems (add : State → Nat → Nat → Bool × State) : List (List Byte) → Nat → State → Nat × Nat × State
  | [], n, s => (n, 0, s)
  | b :: r, n, s =>
    let x := itemOf b
    match s.itemKeyOk x with
    | none => (n, stInvalid, s)
    | some k =>
      match add s k x.value with
      | (true, s1) => addItems add r (n + 1) s1
      | (false, s1) => (n, stFull, s1)

/-! ### Which slot a command names (R370, R373) -/

/-- 1 the open slot, 2 the launching slot, 0 neither. -/
def State.names (s : State) (d : Desc) : Nat :=
  if d.a0 = 0 then 0
  else if d.a0 = s.rd Reg.TXN.OID.ID && (s.os = osOpen || s.os = osPrepared) then
    if s.rd Reg.TXN.STATUS.OWNER = d.ring then 1 else 0
  else if d.a0 = s.rd Reg.TXN.LID.ID && s.ls ≠ 0 then
    if s.txn.lRing = some d.ring then 2 else 0
  else 0

/-- WRITE_ITEMS (R371, R373, R392, R396, R708). -/
def writeItemsRes (d : Desc) (s : State) : Res :=
  if d.buf.length = 0 || d.buf.length % 16 ≠ 0 || 4096 < d.buf.length / 16 then badDesc s 32
  else
    let items := pieces 16 (d.buf.length / 16) d.buf
    let done (x : Nat × Nat × State) : Res :=
      if x.2.1 = stInvalid then { st := x.2.2, status := stInvalid, result := le 4 x.1 ++ [1] }
      else { st := x.2.2, status := x.2.1, result := le 4 x.1 }
    if d.a0 = 0 then
      if s.os = osOpen || s.os = osPrepared then failRes s stBusy
      else if s.noCollect then failRes s stRefused
      else done (addItems State.addCollect items 0 s)
    else if s.names d = 1 then
      if s.on Reg.TXN.STATUS.FULL then failRes s stFull else done (addItems State.addOpen items 0 s)
    else if s.names d = 2 then failRes s stBusy
    else failRes s stNoTxn

/-- TXN_BEGIN (R347, R369, R371). -/
def txnBeginRes (d : Desc) (s : State) : Res :=
  if !s.on Reg.TICK.CFG.PLAN || s.follower then failRes s stRefused
  else if s.os ≠ osIdle then failRes s stBusy
  else
    let (n, s1) := s.clearOpen.takeNumber
    let s2 := ((s1.wr Reg.TXN.STATUS.OSTATE osOpen).wr Reg.TXN.OID.ID n).wr Reg.TXN.STATUS.OWNER d.ring
    okRes s2 (le 4 n)

/-- The budget checks of R374 and R378 on a view: the shortfall to report. -/
def View.budget (v : View) (noCover : Bool) : Option Short :=
  match v.s.plan.image with
  | none => none
  | some p =>
    match v.laneShort p with
    | some x => some x
    | none => if noCover then none else (v.uncovered p).head?.map (fun c => (c, 0, 2))

/-- Clusters without cover of a view (R379). -/
def View.bare (v : View) : List Nat := match v.s.plan.image with
  | none => []
  | some p => v.uncovered p

/-- RESULT of NO_BUDGET (Table 14.5). -/
def shortBytes (x : Short) : List Byte := le 1 x.1 ++ le 1 x.2.1 ++ le 1 x.2.2

/-- The earliest launch tick counted from an instant: the completion of TXN_PREPARE (R377), the read of TXN_COMMIT
(R381, R383). -/
def State.earliest (s : State) (from_ : Nat) : Nat := max (s.tickFrom from_ 0 2) s.slotFree

/-- TXN_PREPARE (R366, R371, R374 to R379, R967). -/
def txnPrepareRes (d : Desc) (s : State) : Res :=
  if s.names d = 2 then failRes s stBusy
  else if s.names d ≠ 1 then failRes s stNoTxn
  else if s.on Reg.TXN.STATUS.FULL then failRes s stFull
  else
    let noCover := d.a1 % 2 = 1
    let v : View := { s.view with fin := [] }
    match v.firstBad with
    | some k => failRes s stInvalid (le 4 0 ++ [2] ++ le 3 0 ++ keyBytes k)
    | none =>
      match v.budget noCover with
      | some x => failRes s stNoBudget (shortBytes x)
      | none =>
        let s1 := { s with txn := { s.txn with against := decide (s.ls = 1), noCover := noCover, fin := v.lats } }
        okRes (s1.wr Reg.TXN.STATUS.OSTATE osPrepared) (le 8 (s.earliest s.ns) ++ le 2 v.bare.length)

/-- The parameter words of items as lane memory holds them. -/
def itemWord (items : Tbl Nat) (k : Nat) : Option Word36 := (mapGet items k).map fun v => BitVec.ofNat 36 v

/-- The shadow move ends within 40 us of the commit (R384; the bound is taken). -/
def moveNs : Nat := 40000

/-- Put items into the launching slot as a committed transaction for T(l); they move into the shadow allocations (R382,
R384, R387). -/
def State.commitTo (s : State) (id l x : Nat) (items : Tbl Nat) (fin : Tbl (Nat × Nat)) (ring : Option Nat)
    (bare : List Nat) : State :=
  let cross := ({ s := s, lower := [], upper := items, fin := fin } : View).hasCross
  let s1 := { s with txn := { s.txn with
    lItems := items, lFin := fin, lRing := ring, lNoCover := bare, moveEnd := s.ns + moveNs, priming := false, ending := false } }
  let s1 := s1.placeWords (fun k => k.shadow) (itemWord items)
  let s2 := (((s1.wr Reg.TXN.STATUS.LSTATE 1).wr Reg.TXN.LID.ID id).setLaunch l).wr Reg.TXN.XFADE.X
    (if cross then x else 0)
  let s3 := s2.count Reg.TXN.CNT0.COMMIT
  if s3.paired && s3.holds then
    let s4 := s3.sendConfig l items
    { s4 with ouv := { s4.ouv with cfgWait := some (l, (s4.ouv.txSeq + 2 ^ 32 - 1) % 2 ^ 32) } }
  else s3

/-- TXN_COMMIT; a FULL undercoat is in no state that the command accepts (R366, R371, R380 to R384, R387, R404).
[DEDUCED, log 82] Of an empty undercoat, of which nothing launches, the launch tick given is 0, whatever slot and time it
finds. [DESIGN CHOICE, log 100] -/
def txnCommitRes (d : Desc) (s : State) : Res :=
  if s.names d = 2 then failRes s stNotPrepared
  else if s.names d ≠ 1 then failRes s stNoTxn
  else if s.os ≠ osPrepared || s.on Reg.TXN.STATUS.FULL then failRes s stNotPrepared
  else if 16 < d.a1 then badDesc s 52
  else if 1000000000 ≤ d.a2 then badDesc s 56
  else
    let at_ := d.rbuf * 1000000000 + d.a2
    if s.readNs d + 3600 * 1000000000 < at_ then badDesc s 40
    else if !s.on Reg.TICK.STATUS.GRID then failRes s stRefused
    else if s.txn.items.isEmpty then okRes (s.clearOpen.count Reg.TXN.CNT0.COMMIT) (le 8 0)
    else if s.ls ≠ 0 then failRes s stBusy
    else
      let l := if at_ = 0 then s.earliest (s.readNs d) else ceilDiv at_ s.tickNs
      if s.tAt l < s.readNs d + 2 * s.tickNs then
        failRes (s.count Reg.TXN.CNT1.LATE) stLate (le 8 (s.earliest (s.readNs d)))
      else
        match s.view.budget s.txn.noCover with
        | some x => failRes (s.wr Reg.TXN.STATUS.OSTATE osOpen) stNoBudget (shortBytes x)
        | none =>
          let bare := if s.txn.noCover then s.view.bare else []
          let s1 := s.commitTo (s.rd Reg.TXN.OID.ID) l d.a1 s.txn.items s.txn.fin (some d.ring) bare
          okRes s1.clearOpen (le 8 l)

/-- TXN_ROLLBACK; a second one of a transaction that still holds its slot is accepted and changes nothing (R371,
R375, R381, R390, R403).  [DEDUCED, log 82] -/
def txnRollbackRes (d : Desc) (s : State) : Res :=
  if s.names d = 1 then okRes (s.clearOpen.count Reg.TXN.CNT1.ROLLBACK)
  else if s.names d = 2 then
    if s.ls = 1 && s.txn.ending then okRes (s.count Reg.TXN.CNT1.ROLLBACK)
    else if s.ls = 1 && decide (s.readNs d < s.tAt (s.launchTick - 1)) then
      let s1 := ({ s with txn := { s.txn with ending := true } }).count Reg.TXN.CNT1.ROLLBACK
      let s2 := if s1.os = osPrepared && s1.txn.against then s1.wr Reg.TXN.STATUS.OSTATE osOpen else s1
      let s3 := if s2.paired && s2.holds then
        { s2.sendConfig s2.launchTick [] with ouv := { (s2.sendConfig s2.launchTick []).ouv with cfgWait := none } }
        else s2
      okRes s3
    else failRes s stTooLate
  else failRes s stNoTxn

/-- Discard the open slot, with its event: cause 0 plan load, 1 authority lost, 2 host-link reset
(R391, R401, R679).  A collection goes as a transaction does, and its event names number 0. [DESIGN CHOICE, log 102] -/
def State.discardOpen (s : State) (cause : Nat) : State :=
  if s.os = osIdle then s else (s.clearOpen).post 0x0011 (le 4 (s.rd Reg.TXN.OID.ID) ++ le 1 cause)

/-- Discard the launching slot at a plan load (R391). -/
def State.discardLaunch (s : State) : State :=
  if s.ls = 0 then s else (s.clearLaunch).post 0x0011 (le 4 (s.rd Reg.TXN.LID.ID) ++ le 1 0)

/-! ### Ramps (R85 to R90, R965) -/

/-- Samples of a feather length code (Table 2.6). -/
def featherLen (code : Nat) : Nat := if code = 0 then 0 else 2 ^ (code - 1)

/-- The value of a ramp on sample k of frame f with `spt` samples per tick (R87 to R89). -/
def Ramp.val (r : Ramp) (f k spt : Nat) : Int :=
  let i : Int := ((f : Int) - r.l) * spt + k - r.k0
  if i < 0 then r.g0
  else if r.n ≤ 1 || (r.n : Int) ≤ i + 1 then r.g1
  else roundDiv (r.g0 * r.n + (r.g1 - r.g0) * (i + 1)) r.n

/-- The value applied on the last sample before frame f (R90). -/
def Ramp.before (r : Ramp) (f spt : Nat) : Int := if f = 0 then r.g0 else r.val (f - 1) (spt - 1) spt

/-- A settled gain. -/
def settled (g : Int) : Ramp := { g0 := g, g1 := g, n := 0, l := 0 }

/-- The signed gain s x g of a strip from its words (R965), in Q2.33. -/
def signedGain (cls ctrl gain : Nat) : Int :=
  if ctrl / polBit cls % 2 = 1 then -(gain : Int) else gain

/-- The ramp of a strip's signed gain in force. -/
def State.stripRamp (s : State) (cls idx : Nat) : Ramp :=
  mapGetD s.gains.strips (keyParam cls idx 1)
    (settled (signedGain cls (s.param (keyParam cls idx 0)) (s.param (keyParam cls idx 1))))

/-- The ramp of a confluence cell in force, in Q2.15. -/
def State.cellRamp (s : State) (col row : Nat) : Ramp :=
  mapGetD s.gains.cells (keyParam 3 col row) (settled (toInt 18 (s.param (keyParam 3 col row))))

/-- The mute of an entry in force. -/
def State.muteOf (s : State) (i : Nat) : MuteS :=
  mapGetD s.gains.mutes i { ramp := settled (if rtMute (s.route i) then 0 else one33) }

/-- The linear gain of a skim gain code in Q2.33: +12.00 dB - 0.05 dB x g, and silence at 4,095 (R77); rounded as
R88 states for its feather. -/
def skimGain (g : Nat) : Int := if g = 4095 then 0 else dbGain 33 (240 - g) 400

/-- The skim gain ramp of an entry in force. -/
def State.skimOf (s : State) (i : Nat) : Ramp :=
  mapGetD s.gains.skims i (settled (skimGain (rtSkg (s.route i))))

/-- Set the mute of an entry. -/
def State.setMute (s : State) (i : Nat) (m : MuteS) : State :=
  { s with gains := { s.gains with mutes := mapSet s.gains.mutes i m } }

/-- Set the skim gain ramp of an entry. -/
def State.setSkim (s : State) (i : Nat) (r : Ramp) : State :=
  { s with gains := { s.gains with skims := mapSet s.gains.skims i r } }

/-- Start a ramp at frame l from the value applied before it. -/
def Ramp.to (r : Ramp) (g : Int) (n l spt : Nat) : Ramp :=
  { g0 := r.before l spt, g1 := g, n := if n = 0 then 1 else n, l := l }

/-! ### Launch (R386) -/

/-- The strips whose signed gain an undercoat sets. -/
def gainStrips (items : Tbl Nat) : List (Nat × Nat) :=
  (items.filterMap (fun (k, _) =>
    if keyKind k = 1 && decide (keyCls k ≤ 2) && decide (keyOff k ≤ 1) then some (keyCls k, keyIdx k)
    else none)).eraseDups

/-- Start the feathers of strip gains and of cells (R86, R90, R152, R965). -/
def State.launchGains (s : State) (v : View) (l : Nat) : State :=
  let n := featherLen (v.fld Reg.GRAPH.FEATHER.LEN)
  let sp := s.spt
  let s1 := (gainStrips v.upper).foldl (fun (a : State) (c, i) =>
    let r := s.stripRamp c i
    let g := signedGain c (v.param c i 0) (v.param c i 1)
    if g = r.g1 then a
    else { a with gains := { a.gains with strips := mapSet a.gains.strips (keyParam c i 1) (r.to g n l sp) } }) s
  v.upper.foldl (fun (a : State) (k, x) =>
    if keyKind k = 1 && keyCls k = 3 then
      let r := s.cellRamp (keyIdx k) (keyOff k)
      if toInt 18 x = r.g1 then a
      else { a with gains := { a.gains with cells := mapSet a.gains.cells k (r.to (toInt 18 x) n l sp) } }
    else a) s1

/-- Start one entry's mute change: a feather, or a zero-crossing wait (R91, R92, R96). [DESIGN CHOICE, log 78] -/
def State.launchMute (s : State) (i l old new : Nat) : State :=
  if rtMute old = rtMute new then s
  else
    let m := s.muteOf i
    let g : Int := if rtMute new then 0 else one33
    -- a feather that still runs stops at the gain reached (log 78)
    let m' : MuteS :=
      if rtZc new then { ramp := settled (m.ramp.before l s.spt), wait := some (l, rtMute new) }
      else { ramp := m.ramp.to g (featherLen (rtFlen new)) l s.spt, wait := none }
    s.setMute i m'

/-- Start one entry's skim gain change (R60, R86). -/
def State.launchSkim (s : State) (i l old new : Nat) : State :=
  if rtSkim new && rtSkim old && rtSkg old != rtSkg new then
    s.setSkim i ((s.skimOf i).to (skimGain (rtSkg new)) (featherLen (rtFlen new)) l s.spt)
  else if rtSkim new && !rtSkim old then
    s.setSkim i (settled (skimGain (rtSkg new)))
  else s

/-- Store a route entry. -/
def State.setRoute (s : State) (i v : Nat) : State :=
  { s with routes := tblSet routeDflt s.routes i (BitVec.ofNat 64 v) }

/-- Store one entry as launched; GEN counts a change of any field (R78, R84). -/
def State.launchRoute (s : State) (v : View) (l i : Nat) : State :=
  let old := s.route i
  let new := v.final i
  let oldBare := old - rtGen old * 2 ^ 40
  if (s.partOf i).isNone || oldBare = new then s
  else
    let s1 := (s.launchMute i l old new).launchSkim i l old new
    s1.setRoute i (new + (rtGen old + 1) % 16 * 2 ^ 40)

/-- Store the parameter words and registers of a launch (R27, R386). -/
def State.launchWords (s : State) (items : Tbl Nat) : State :=
  items.foldl (fun (a : State) (k, x) =>
    match keyKind k with
    | 3 => a.setWord (keyOff k) (BitVec.ofNat 32 (applyReg (keyOff k) (a.word (keyOff k)).toNat x))
    | 2 => a
    | _ => { a with params := tblSet paramDflt a.params k (BitVec.ofNat 36 x) }) s

/-- Phase origins of the generators of which a launch changes a word; `s` holds the words before it (R163). -/
def State.launchGens (s : State) (old : State) (items : Tbl Nat) (l : Nat) : State :=
  items.foldl (fun (a : State) (k, x) =>
    if keyKind k = 1 && keyCls k = 4 && x != old.param k then
      { a with gains := { a.gains with origins := mapSet a.gains.origins (keyIdx k) l } }
    else a) s

/-- Show the group targets as launched, and the count of used entries (R107). -/
def State.showRoutes (s : State) : State :=
  let v : View := { s := s, lower := [], upper := [] }
  let s1 := (List.range 31).foldl (fun (a : State) g =>
    a.wr (Reg.GRAPH.AGRP.TARGET (g + 1))
      ((v.members (g + 1)).foldl (fun m i => max m (rtLat (s.route i) - rtComp (s.route i))) 0)) s
  s1.wr Reg.GRAPH.RTSTAT.USED (v.entries.filter (fun i => rtScls (s.route i) != 0)).length

/-- KGAIN of a modulator channel in force, in Q2.15 (R603). -/
def State.kgainRamp (s : State) (n : Nat) : Ramp :=
  mapGetD s.gains.kgains n (settled (s.rd (Reg.MOD.CH.CFG.KGAIN n)))

/-- Start the KGAIN feathers of a launch; its words are stored already (R603). -/
def State.launchKgains (s : State) (old : State) (l : Nat) (offs : List Nat) : State :=
  let n := featherLen (s.rd Reg.GRAPH.FEATHER.LEN)
  let c0 := (Reg.MOD.CH.CFG.KGAIN 0).off
  (offs.filter fun o => decide (c0 ≤ o) && decide (o < c0 + 2048) && (o - c0) % 16 == 0).foldl
    (fun (a : State) o =>
      let c := (o - c0) / 16
      let r := old.kgainRamp c
      let g : Int := a.rd (Reg.MOD.CH.CFG.KGAIN c)
      if g = r.g1 then a
      else { a with gains := { a.gains with kgains := mapSet a.gains.kgains c (r.to g n l s.spt) } }) s

/-- Make items the topcoat at frame l (R84 to R90, R386, R603, R612). -/
def State.makeTopcoat (s : State) (items : Tbl Nat) (l : Nat) : State :=
  let v : View := { s := s, lower := [], upper := items, fin := s.txn.lFin }
  let s1 := v.entries.foldl (fun a i => a.launchRoute v l i) (s.launchGains v l)
  let offs := (items.filter (fun e => keyKind e.1 == 3)).map fun e => keyOff e.1
  let s2 := (((s1.launchWords items).launchGens s items l).showRoutes).placeWords (fun k => k.params) (itemWord items)
  (s2.launchKgains s l offs).launchCarriers (offs.filter fun o => s2.word o != s.word o) l

/-- The objects that a view's crossfaded changes name: class x 65,536 + index, route entries as class 5
(R98, R110, R966). -/
def View.changed (v : View) : List Nat :=
  ((v.upper.filterMap fun (k, x) =>
    if v.crossfades k x then
      some (if keyKind k = 2 then 5 * 65536 + keyIdx k else keyCls k * 65536 + keyIdx k)
    else none) ++ v.compChanged.map (fun i => 5 * 65536 + i)).eraseDups

/-- Keep what governs frames before a launch, and the crossfade's old graph (R27, R102). -/
def State.keepOld (s : State) : State :=
  let o : OldS :=
    { l := s.launchTick, x := s.rd Reg.TXN.XFADE.X, params := s.params, routes := s.routes, gains := s.gains
      regs := s.regs, cone := s.lView.changed }
  { s with old := some o, past := o :: s.past.filter fun q => decide (s.launchTick < q.l + q.x + 4) }

/-- LAUNCH: at T(L) the committed undercoat becomes the topcoat (R386, R389). -/
def doLaunch (s0 : State) : State :=
  let s := s0.keepOld
  if s.ls = 1 && !s.txn.ending && decide (s.launchTick ≤ s.tick) then
    let l := s.launchTick
    let s1 := (s.makeTopcoat s.txn.lItems l).wr Reg.TXN.STATUS.LSTATE 2
    let s2 := { s1 with ouv := { s1.ouv with topGen := (s1.ouv.topGen + 1) % 2 ^ 32 } }
    (s2.count Reg.TXN.CNT0.LAUNCH).post 0x0010 (le 4 (s.rd Reg.TXN.LID.ID) ++ le 8 l)
  else s0

/-- PRIMING_START: shadow priming begins with the main pass that starts at the first boundary after the move; between
boundaries no main pass starts (R384, R385). -/
def doPriming (s : State) : State :=
  if s.ls = 1 && !s.txn.ending && decide (s.txn.moveEnd ≤ s.ns) && s.ns == s.tAt s.tick then
    { s with txn := { s.txn with priming := true } }
  else s

/-- CROSSFADE_END: the transaction leaves the launching slot at T(L + X + 1) (R388). -/
def doCrossfadeEnd (s : State) : State :=
  if s.ls = 2 && decide (s.launchTick + s.rd Reg.TXN.XFADE.X + 1 ≤ s.tick) then s.clearLaunch else s

/-- A rolled back transaction frees its slot at the next boundary (R390). -/
def State.txnTick (s : State) : State := if s.txn.ending then s.clearLaunch else s

/-! ### Collections (R393 to R395) -/

/-- Discard the items that fail validation, first to last: those left, and those discarded; all of them where
the failing entry is no collected item. [DEDUCED, log 76] -/
def winnow : Nat → View → List (Nat × Nat) → Tbl Nat × List (Nat × Nat)
  | 0, v, out => (v.upper, out)
  | n + 1, v, out =>
    match v.firstBad with
    | none => (v.upper, out)
    | some k => match mapGet v.upper k with
      | none => ([], out ++ v.upper)
      | some x => winnow n { v with upper := mapErase v.upper k } (out ++ [(k, x)])

/-- Count several events (R931). -/
def State.countN (s : State) (f : Fld) (n : Nat) : State := if n = 0 then s else s.count f n

/-- COLLECTION_COMMIT, on a tick boundary (R393 to R395).  A collection is committed as one with NOCOVER: clusters that it
leaves without cover discard no item. [DESIGN CHOICE, log 101] -/
def doCollect (s : State) : State :=
  if s.os = osCollecting && s.ls = 0 && s.on Reg.TICK.STATUS.GRID && s.ns == s.tAt s.tick then
    let v := s.view
    let (left, bad) := winnow v.upper.length v []
    let first := match s.txn.rejected with
      | some x => some x
      | none => bad.head?
    let told := bad.length + s.txn.refused
    let s1 := s.countN Reg.TXN.IMPL.REJ bad.length
    let s2 := match first with
      | none => s1
      | some (k, x) => s1.post 0x0012 (itemBytes k x ++ le 4 told)
    let v2 : View := { v with s := s, upper := left }
    if left.isEmpty then s2.clearOpen
    else
      match v2.budget true with
      | some _ =>
        let (k, x) := left.headD (0, 0)
        ((s2.countN Reg.TXN.IMPL.REJ left.length).post 0x0012 (itemBytes k x ++ le 4 left.length)).clearOpen
      | none =>
        let (id, s3) := s2.takeNumber
        let s4 := s3.clearOpen
        s4.commitTo id (s4.tick + 2) (s4.rd Reg.TXN.CFG.IXF) left v2.lats none v2.bare
  else s

/-! ### Zero crossings (R92 to R96) -/

/-- Samples of the zero-crossing timeout (R94): the values of TIMEOUT and FLEN that govern the frame count, also
where a later launch has changed them during the wait. [DESIGN CHOICE, log 78] -/
def State.zcFrames (s : State) : Nat := s.fs * s.rd Reg.GRAPH.ZC.TIMEOUT / 1000

/-- Where a wait that began on sample 0 of frame l ends in the samples of frame f from sample k on, after sample
p: the sample counted from the wait's first one, and whether the timeout ends it (R92 to R94). -/
def zcScan (l limit f spt : Nat) : Nat → Int → List Int → Option (Nat × Bool)
  | _, _, [] => none
  | k, p, x :: r =>
    let i := (f - l) * spt + k
    if limit ≤ i then some (i, true)
    else if crosses p x then some (i, false)
    else zcScan l limit f spt (k + 1) x r

/-- How the wait of entry i ends in frame f, of which it passes the samples xs after sample p. -/
def State.zcMeet (s : State) (f i : Nat) (p : Int) (xs : List Int) : Option (Nat × Bool) := match (s.muteOf i).wait with
  | none => none
  | some (l, _) => if f < l then none else zcScan l s.zcFrames f s.spt 0 p xs

/-- The mute of entry i once its wait has ended so: at once on a crossing, a feather from the timeout on (R92,
R94). -/
def State.zcRamp (s : State) (i : Nat) (hit : Nat × Bool) : Ramp :=
  let m := s.muteOf i
  let (l, mute) := m.wait.getD (0, rtMute (s.route i))
  let n := if hit.2 then max 1 (featherLen (rtFlen (s.route i))) else 1
  { g0 := m.ramp.g1, g1 := if mute then 0 else one33, n := n, l := l, k0 := hit.1 }

/-- The mute of entry i over a frame of which it passes the samples xs after sample p (R91 to R97). -/
def State.muteRamp (s : State) (f i : Nat) (p : Int) (xs : List Int) : Ramp := match s.zcMeet f i p xs with
  | some h => s.zcRamp i h
  | none => (s.muteOf i).ramp

/-- The gains with a wait of entry i that began at frame l ended. -/
def GainS.endWait (g : GainS) (h : ZcHit) : GainS := match mapGet g.mutes h.entry with
  | some m => match m.wait with
    | some (l, _) => if l = h.ramp.l then { g with mutes := mapSet g.mutes h.entry { ramp := h.ramp, wait := none } } else g
    | none => g
  | none => g

/-- Apply a waiting change as the staged frame met it, in every topcoat that still governs a frame; a timeout
counts with the frame (R94). -/
def State.endWait (s : State) (h : ZcHit) : State :=
  let up (o : OldS) : OldS := { o with gains := o.gains.endWait h }
  let c := s.eng.counts
  { s with
    gains := s.gains.endWait h, old := s.old.map up, past := s.past.map up
    eng := { s.eng with counts := { c with zcto := c.zcto + (if h.timeout then 1 else 0) } }
    dsp0 := { s.dsp0 with hits := s.dsp0.hits.filter fun x => x.entry != h.entry }
    dsp1 := { s.dsp1 with hits := s.dsp1.hits.filter fun x => x.entry != h.entry } }

/-- The ends of waits that the staged frame has met, of the die whose block counts. -/
def State.zcHits (s : State) : List ZcHit := if s.dsp0.hits.isEmpty then s.dsp1.hits else s.dsp0.hits

/-- ZERO_CROSSING: the waiting change of entry i applies on sample k, counted from the wait's first one, where that is
the first crossing that the frame's final pass has shown (R92, R93); the weir flip applies every one that is left. -/
def doZeroCross (i k : Nat) (s : State) : State :=
  match s.zcHits.find? fun h => h.entry == i && !h.timeout && h.ramp.k0 == k with
  | none => s
  | some h => s.endWait h

/-- ZC_TIMEOUT: no crossing came within the timeout, so the change of entry i starts as a feather (R94).
[DESIGN CHOICE, log 78] -/
def doZcTimeout (i : Nat) (s : State) : State := match s.zcHits.find? fun h => h.entry == i && h.timeout with
  | none => s
  | some h => s.endWait h

/-! ### The scene store (R405 to R412) -/

/-- Blocks of the scene store. -/
def sceneBlocks : Nat := 2560

/-- Blocks of 4 KiB that a record of n items takes (R405). -/
def recBlocks (n : Nat) : Nat := ceilDiv (64 + 16 * n + 4) 4096

/-- The bytes of a record that its CRC covers (Table 7.3). -/
def recBytes (r : SceneRec) : List Byte :=
  le 4 1 ++ le 4 r.planCrc ++ le 4 r.items.length ++ le 4 r.txnId ++ padTo 16 r.name ++ le 8 r.secs ++
    le 4 r.nsecs ++ le 20 0 ++ (r.items.map (fun e => itemBytes e.1 e.2)).flatten

/-- Whether a block is referenced by the current directory. -/
def State.blockUsed (s : State) (b : Nat) : Bool :=
  s.txn.scenes.any (fun e => decide (e.2.first ≤ b) && decide (b < e.2.first + e.2.blocks))

/-- The lowest free run of n blocks (R408 step 1, R410). -/
def State.freeRun (s : State) (n : Nat) : Option Nat :=
  (List.range (sceneBlocks + 1 - n)).find? fun b => (List.range n).all (fun i => !s.blockUsed (b + i))

/-- Show the current directory: slots in use, free blocks and SEQ. -/
def State.showScenes (s : State) : State :=
  let used := s.txn.scenes.foldl (fun a e => a + e.2.blocks) 0
  ((s.wr Reg.TXN.SCENE.USED s.txn.scenes.length).wr Reg.TXN.SCENE.FREE (sceneBlocks - used)).wr
    Reg.TXN.SCSEQ.SEQ (s.txn.dirSeq % 2 ^ 32)

/-- Write the other directory copy with SEQ one higher, which makes it the current one, and show the store; the
copy that was current stands beside it (R406, R408 step 3). -/
def State.setScenes (s : State) (t : Tbl SceneRec) : State :=
  let x : TxnS := { s.txn with
    prevDir := (s.txn.dirSeq, s.txn.scenes), scenes := t, dirSeq := s.txn.dirSeq + 1, dirCopy := 1 - s.txn.dirCopy }
  ({ s with txn := x } : State).showScenes

/-- The directory at start-up: the copy with a valid CRC and the higher SEQ, where SEQ 0 stands for a copy that was
never written; with neither the directory is empty, which is logged (R407). -/
def State.mountScenes (s : State) (ok0 ok1 : Bool) : State :=
  let x := s.txn
  let ok (c : Nat) : Bool := if c = 0 then ok0 else ok1
  if ok x.dirCopy && x.dirSeq != 0 then s.showScenes
  else if ok (1 - x.dirCopy) && x.prevDir.1 != 0 then
    let y : TxnS := { x with scenes := x.prevDir.2, dirSeq := x.prevDir.1, dirCopy := 1 - x.dirCopy, prevDir := (0, []) }
    ({ s with txn := y } : State).showScenes
  else
    let y : TxnS := { x with scenes := [], dirSeq := 0, dirCopy := 0, prevDir := (0, []) }
    (({ s with txn := y } : State).showScenes).log 0x0702 []

/-- SCENE_STORE, from any ring (R370, R408, R410).  The record is read back and its CRC compared before the directory copy
takes its entry: what MRAM returns is what was written. [DEDUCED, log 40] -/
def sceneStoreRes (d : Desc) (s : State) : Res :=
  if 256 ≤ d.a1 then badDesc s 52
  else if d.buf.length ≠ 16 then badDesc s 32
  else if s.os ≠ osPrepared || s.on Reg.TXN.STATUS.FULL then failRes s stNotPrepared
  else if d.a0 = 0 || d.a0 ≠ s.rd Reg.TXN.OID.ID then failRes s stNoTxn
  else
    let n := recBlocks s.txn.items.length
    match s.freeRun n with
    | none => failRes s stNoSpace
    | some b =>
      let r0 : SceneRec :=
        { planCrc := s.planCrc, txnId := d.a0, name := d.buf, secs := s.secs, nsecs := s.ns % 1000000000,
          items := s.txn.items, crc := 0, first := b, blocks := n }
      let r := { r0 with crc := crc32c (recBytes r0) }
      okRes (s.setScenes (mapSet s.txn.scenes d.a1 r)) (le 4 ((s.txn.dirSeq + 1) % 2 ^ 32))

/-- Recall a record's items into the undercoat of the open slot, all or none (R412, R880). -/
def recallItems (s : State) (items : Tbl Nat) : Res :=
  match items.find? (fun e => keyKind e.1 == 2 && (s.partOf (keyIdx e.1)).isNone) with
  | some (k, _) => failRes s stInvalid (le 4 0 ++ [2] ++ le 3 0 ++ keyBytes k)
  | none =>
    let all := items.foldl (fun t e => putItem t e.1 e.2) s.txn.items
    if s.on Reg.TXN.STATUS.FULL || itemLimit < itemCount all then failRes s stFull
    else okRes ((s.setItems all).wr Reg.TXN.STATUS.OSTATE osOpen) (le 4 items.length)

/-- SCENE_RECALL (R412). -/
def sceneRecallRes (d : Desc) (s : State) : Res :=
  if 256 ≤ d.a1 then badDesc s 52
  else if s.names d = 2 then failRes s stBusy
  else if s.names d ≠ 1 then failRes s stNoTxn
  else
    match mapGet s.txn.scenes d.a1 with
    | none => badDesc s 52
    | some r =>
      if r.planCrc ≠ s.planCrc then failRes s stMismatch (le 4 r.planCrc)
      else if crc32c (recBytes r) ≠ r.crc then failRes s stCorrupt
      else recallItems s r.items

/-- SCENE_ERASE (R411). -/
def sceneEraseRes (d : Desc) (s : State) : Res :=
  if 256 ≤ d.a1 then badDesc s 52
  else okRes (s.setScenes (mapErase s.txn.scenes d.a1)) (le 4 ((s.txn.dirSeq + 1) % 2 ^ 32))

/-! ### The commands -/


/-- TXN_BEGIN (R371). -/
def execTxnBegin (d : Desc) (s : State) : Out := .next (hostCmd 0x20 roleO d (txnBeginRes d) s)
/-- TXN_PREPARE (R374). -/
def execTxnPrepare (d : Desc) (s : State) : Out := .next (hostCmd 0x21 roleO d (txnPrepareRes d) s)
/-- TXN_COMMIT (R382). -/
def execTxnCommit (d : Desc) (s : State) : Out := .next (hostCmd 0x22 roleO d (txnCommitRes d) s)
/-- TXN_ROLLBACK (R390). -/
def execTxnRollback (d : Desc) (s : State) : Out := .next (hostCmd 0x23 roleO d (txnRollbackRes d) s)
/-- WRITE_ITEMS (R708). -/
def execWriteItems (d : Desc) (s : State) : Out := .next (hostCmd 0x10 roleO d (writeItemsRes d) s)
/-- SCENE_STORE (R408). -/
def execSceneStore (d : Desc) (s : State) : Out := .next (hostCmd 0x24 roleO d (sceneStoreRes d) s)
/-- SCENE_RECALL (R412). -/
def execSceneRecall (d : Desc) (s : State) : Out := .next (hostCmd 0x25 roleO d (sceneRecallRes d) s)
/-- SCENE_ERASE (R411). -/
def execSceneErase (d : Desc) (s : State) : Out := .next (hostCmd 0x26 roleE d (sceneEraseRes d) s)
/-- LAUNCH (R386). -/
def execLaunch (s : State) : Out := .next (doLaunch s)
/-- PRIMING_START (R385). -/
def execPrimingStart (s : State) : Out := .next (doPriming s)
/-- CROSSFADE_END (R388). -/
def execCrossfadeEnd (s : State) : Out := .next (doCrossfadeEnd s)
/-- COLLECTION_COMMIT (R393). -/
def execCollectionCommit (s : State) : Out := .next (doCollect s)
/-- ZERO_CROSSING (R92). -/
def execZeroCrossing (i k : Nat) (s : State) : Out := .next (doZeroCross i k s)
/-- ZC_TIMEOUT (R94). -/
def execZcTimeout (i : Nat) (s : State) : Out := .next (doZcTimeout i s)
/-- ROUTE_WINDOW_LOW_WRITE (R81); a BAR0 write that R715 blocks is a violation. -/
def execRouteWindowLowWrite (q : Requester) (i : Nat) (value : Word) (s : State) : Out :=
  .next (if q = .pcie && s.host.lockHard || 8192 ≤ i then s.violate q else s.routeLow i value)
/-- ROUTE_WINDOW_HIGH_WRITE (R81): a 64-bit write brings both words. -/
def execRouteWindowHighWrite (q : Requester) (i : Nat) (wide : Bool) (low value : Word) (s : State) : Out :=
  .next (if q = .pcie && s.host.lockHard || 8192 ≤ i then s.violate q
    else if wide then s.routeWide i low value else s.routeHigh i value)

end Sys2Proof.Machine
end

