-- ==== Sys2Proof/Machine/Time.lean ====
section
/-! DEFINITION. The step of the local time, PTP, event inputs and launch outputs (chapter 08). -/
namespace Sys2Proof.Config

open Sys2Proof.Machine

/-- The Ethernet frame, without its FCS, in which a port sends a message of its own: IEEE 1588's layout and the
port's headers, which the spec does not give (R450, R454). -/
opaque ptpFrame : Nat → PtpSent → List Byte

end Sys2Proof.Config

namespace Sys2Proof.Machine

/-! ### Steps of the local time (R419 to R434) -/

/-- Set the local time to a new value in ns; the running time goes on (R420, R431), and so do the clock outputs
(R434, R503), whose misalignment shows (R506). [DEDUCED, log 77] -/
def State.setLocal (s : State) (ns : Nat) : State :=
  let s1 := s.shiftLocal ((ns : Int) - s.ns)
  let s2 := { s1 with time := { s1.time with now := ns * tu, rem := 0, gridFirst := ceilDiv ns s1.tickNs } }
  let s3 := (List.range 15).foldl (fun (a : State) j => a.showOut j) s2
  if s3.sel = 15 then s3 else s3.setTheta (s3.slot s3.sel).theta

/-- The step at first lock, from a slot or 15 (R420, R423). [DEDUCED, log 20] -/
def State.stepTime (s : State) (ns slot : Nat) : State :=
  let s1 := ({ s with time := { s.time with ppsSet := none } }).setLocal ns
  let s2 := ((s1.put Reg.TIME.STATUS.STEPPED true).wr Reg.TIME.STATUS.STEPSRC slot).put Reg.TICK.STATUS.GRID true
  (s2.log 0x0211 (le 1 slot ++ le 6 s2.secs)).planStart

/-- FIRST_LOCK_STEP: the step condition of Table 8.1 for slots 0 to 3, 7 to 8 and 9 (R420). [DEDUCED, log 19] -/
def doFirstLock (s : State) : State :=
  let i := s.sel
  if s.on Reg.TIME.STATUS.STEPPED then s
  else if i < 4 then
    let p := s.port i
    if s.rd (Reg.TIME.PORT.PSTAT.STATE i) = 9 && 4 ≤ p.agree then
      (s.stepTime (s.ns + p.offset).toNat i).setTheta 0
    else s
  else if i = 9 then
    if s.ref.ptStepped then (s.stepTime (s.ns + (s.slot 9).theta).toNat 9).setTheta 0 else s
  else if i = 7 || i = 8 then
    match s.time.ppsSet with
    | some (sec, earliest) =>
      if earliest ≤ s.run && (s.slot i).last == some s.run then s.stepTime (sec * 1000000000) i else s
    | none => s
  else s

/-- TIME_SET (R420 to R422). [DEDUCED, log 19] -/
def timeSetRes (d : Desc) (s : State) : Res :=
  let i := s.sel
  let pps := i = 7 || i = 8
  if 1000000000 ≤ d.a2 then badDesc s 56
  else if pps && d.a2 ≠ 0 then badDesc s 56
  else if s.on Reg.TIME.STATUS.STEPPED || i < 4 || i = 9 then failRes s stRefused
  else if pps then okRes { s with time := { s.time with ppsSet := some (d.rbuf, d.readAt + 10000000) } }
  else okRes (s.stepTime (d.rbuf * 1000000000 + d.a2 + s.readAgo d) i)

/-- Whether any stream context is open (R430, R919). -/
def State.anyStream (s : State) : Bool :=
  s.strm.rx.any (fun e => e.2.state != 0 && e.2.state != 4) || s.strm.tx.any (fun e => e.2.state != 0)

/-- Whether a recording or playback runs (R430, R838). -/
def State.storeRuns (s : State) : Bool :=
  (match s.store.rcd with
    | some r => r.running || r.start.isSome
    | none => false) || s.store.plays.any (fun e => e.2.running || e.2.start.isSome)

/-- RE_EPOCH (R430, R431). [DEDUCED, log 20] -/
def reEpochRes (d : Desc) (s : State) : Res :=
  let i := s.sel
  let pps := i = 7 || i = 8
  if 1000000000 ≤ d.a2 then badDesc s 56
  else if !s.on Reg.TIME.STATUS.STEPPED || s.anyStream || s.storeRuns || s.ls ≠ 0 || s.epoch.isSome then
    failRes s stRefused
  else if pps then
    if d.a2 ≠ 0 then badDesc s 56
    else longRes { s with epoch := some { k := 0, src := 1, base := d.rbuf * 1000000000, at_ := s.readNs d + 10000000 } }
  else
    let k := s.tickFrom (s.readNs d) 0 2
    let x : EpochS :=
      if i < 4 || i = 9 then { k := k, src := 0, base := 0, at_ := s.readNs d }
      else { k := k, src := 2, base := d.rbuf * 1000000000 + d.a2, at_ := s.readNs d }
    okRes { s with epoch := some x } (le 8 k)

/-! ### Launch outputs (R462 to R467) -/

/-- A launch output's state. -/
def State.lout (s : State) (j : Nat) : LaunchOut := atD s.starts j {}
/-- Set a launch output's state. -/
def State.setLout (s : State) (j : Nat) (x : LaunchOut) : State := { s with starts := s.starts.set j x }

/-- The start time of a launch output in ns. -/
def State.startOf (s : State) (j : Nat) : Nat :=
  (s.rd (Reg.TIME.ST.TS_HI j) * 2 ^ 32 + s.rd (Reg.TIME.ST.TS_LO j)) * 1000000000 + s.rd (Reg.TIME.ST.TNS j)

/-- The start, WIDTH and PERIOD that an ARM takes with it (R462, R467). -/
def State.program (s : State) (j : Nat) : Rearm :=
  { after := 0, start := s.startOf j, width := s.rd (Reg.TIME.ST.WIDTH j), period := s.rd (Reg.TIME.ST.PERIOD j) }

/-- Judge a programmed start of a launch output (R463). -/
def State.judgeArm (s : State) (j : Nat) (r : Rearm) : State :=
  let x := s.lout j
  let st (a : State) (v : Nat) : State := a.wr (Reg.TIME.ST.CTRL.STAT j) v
  let off := { x with armed := none, rearm := none }
  if !s.on Reg.TIME.STATUS.STEPPED then st (s.setLout j off) 4
  else if r.width < 10 || 999999999 < r.width || (r.period ≠ 0 && (r.period ≤ r.width || r.period < 1000)) then
    st (s.setLout j off) 3
  else if r.start < s.ns + 1000 then (st (s.setLout j off) 2).post 0x0017 (le 1 j)
  else st (s.setLout j { x with
    armed := some r.start, width := r.width, period := r.period, rearm := none, stopAfter := false }) 1

/-- ARM was written: it replaces the pending start, or waits for the end of a pending pulse less than 1 us away, with
START, WIDTH and PERIOD as they stand now (R463, R464, R467). -/
def State.arm (s : State) (j : Nat) : State :=
  let x := s.lout j
  match x.armed with
  | some t => if t < s.ns + 1000 then s.setLout j { x with rearm := some { s.program j with after := t } }
    else s.judgeArm j (s.program j)
  | none => s.judgeArm j (s.program j)

/-- DISARM was written: no further pulse; one in progress ends first (R465). -/
def State.disarm (s : State) (j : Nat) : State :=
  let x := s.lout j
  if x.pulseEnd.isSome then s.setLout j { x with armed := none, stopAfter := true, rearm := none }
  else (s.setLout j { x with armed := none, rearm := none }).wr (Reg.TIME.ST.CTRL.STAT j) 0

/-- LAUNCH_OUTPUT_PULSE: the local time reaches the start (R462). -/
def doPulse (j : Nat) (s : State) : State :=
  let x := s.lout j
  match x.armed with
  | none => s
  | some t =>
    if s.ns < t || x.pulseEnd.isSome then s
    else s.setLout j { x with
      began := t
      pulseEnd := some (t + x.width)
      armed := if x.period = 0 then none else some (t + x.period) }

/-- LAUNCH_OUTPUT_PULSE_END: the width expires; a stop is taken, and an ARM that waited for this pulse is judged (R462,
R464, R465). -/
def doPulseEnd (j : Nat) (s : State) : State :=
  let x := s.lout j
  match x.pulseEnd with
  | none => s
  | some t =>
    if s.ns < t then s
    else
      let s1 := s.setLout j { x with pulseEnd := none, stopAfter := false }
      let idle (a : State) : State := a.wr (Reg.TIME.ST.CTRL.STAT j) 0
      if x.stopAfter then idle s1
      else match x.rearm with
        | some r => if r.after ≤ x.began then s1.judgeArm j r else s1
        | none => if x.armed.isNone && s.rd (Reg.TIME.ST.CTRL.STAT j) = 1 then idle s1 else s1

/-- Whether START_OUTj stands at its active level (R462, R466). -/
def State.startActive (s : State) (j : Nat) : Bool := (s.lout j).pulseEnd.isSome

/-- The level of START_OUTj; a supply trip holds it low (R462, R466, R896). -/
def State.startLevel (s : State) (j : Nat) : Bool :=
  !s.pwr.tripped && (s.startActive j != s.on (Reg.TIME.ST.CTRL.POL j))

/-- RE_EPOCH disarms every launch output (R433). -/
def State.disarmAll (s : State) : State :=
  (List.range 8).foldl (fun (a : State) j =>
    (a.setLout j { a.lout j with armed := none, rearm := none }).wr (Reg.TIME.ST.CTRL.STAT j) 5) s

/-! ### Event inputs (R456 to R461) -/

/-- Captured edges of an input that still wait to be posted (R460). -/
def State.waitingEdges (s : State) (i : Nat) : Nat := (atD s.evins i {}).queue.length

/-- The payload of a capture event, without OVF (Table 8.4). -/
def State.capturePayload (s : State) (i : Nat) (falling : Bool) (t : Nat) (x : EvIn) : List Byte :=
  let un := !s.on Reg.TIME.STATUS.STEPPED
  let flags := (if falling then 1 else 0) + (if un then 2 else 0) + (if x.epoch then 8 else 0)
  le 1 i ++ le 1 flags ++ le 2 x.seq ++ le 6 (t / 1000000000) ++ le 4 (t % 1000000000) ++
    le 8 (if un then 0 else t / s.tickNs) ++ le 2 0

/-- Post the waiting edges of an input, once no other event waits for the ring (R460, R461, R725). [DEDUCED, log 13] -/
def State.postInput (s : State) (i : Nat) : State :=
  if s.host.evQueue.isEmpty && s.host.evLost == 0 then postEdges 64 i s else s

/-- A qualifying edge of an input: DIV, the 50 ns after a captured edge, and the input's queue of 64 (R458 to R461). -/
def State.qualify (s : State) (i : Nat) (falling : Bool) (t : Nat) : State :=
  let x := atD s.evins i {}
  let put (a : State) (y : EvIn) : State := { a with evins := a.evins.set i y }
  let close := match x.last with
    | some l => decide (t < l + 50)
    | none => false
  let turn := x.seen % (s.rd (Reg.TIME.EVCFG.DIV i) + 1) == 0
  let x1 := { x with seen := x.seen + 1 }
  if close then (put s x1).count (Reg.TIME.EVSTAT.CLOSE i)
  else if !turn then put s x1
  else if 64 ≤ s.waitingEdges i then
    (put s { x1 with last := some t, ovf := true }).count (Reg.TIME.EVSTAT.LOST i)
  else
    (put s { x1 with
      last := some t, seq := (x.seq + 1) % 65536, epoch := false
      queue := x.queue ++ [s.capturePayload i falling t x] }).postInput i

/-- EVENT_INPUT_EDGE: an edge that crossed the ball at local instant t and whose level was held for `held` ns: a level held
for less than FILT is ignored, and with it the edge back to the level that the filter holds (R456 to R461).
[DEDUCED, log 59] -/
def doEdge (i : Nat) (falling : Bool) (held t : Nat) (s : State) : State :=
  let sel := s.rd (Reg.TIME.EVCFG.EDGE i)
  let wanted := if falling then sel / 2 % 2 == 1 else sel % 2 == 1
  let x := atD s.evins i {}
  if 16 ≤ i || held < s.rd (Reg.TIME.EVCFG.FILT i) || x.level == some (!falling) then s
  else
    let s1 : State := { s with evins := s.evins.set i { x with level := some (!falling) } }
    if !s.on (Reg.TIME.EVCFG.EN i) || !wanted then s1 else s1.qualify i falling t

/-- An input was enabled: its next qualifying edge is captured (R458). -/
def State.edgeEnable (s : State) (i : Nat) : State :=
  { s with evins := s.evins.set i { atD s.evins i {} with seen := 0, last := none } }

/-! ### PTP (R435 to R455) -/

/-- Whether the node runs as a transparent clock; under 802.1AS that type is a boundary clock (R439). -/
def State.transparent (s : State) : Bool :=
  s.rd Reg.TIME.PTPCLK.TYPE == 2 && s.rd Reg.TIME.PTPCLK.PROFILE != 3

/-- Whether the node runs as a boundary clock (R438, R439). -/
def State.boundary (s : State) : Bool :=
  s.rd Reg.TIME.PTPCLK.TYPE == 1 || (s.rd Reg.TIME.PTPCLK.TYPE == 2 && s.rd Reg.TIME.PTPCLK.PROFILE == 3)

/-- The domain in use (`DOMAIN`, 0 under 802.1AS). -/
def State.ptpDomain (s : State) : Nat :=
  if s.rd Reg.TIME.PTPCLK.PROFILE = 3 then 0 else s.rd Reg.TIME.PTPCLK.DOMAIN

/-- Whether a port measures by peer delay: `DELAY`, forced under 802.1AS; the AES67 profile has E2E alone
(Table 8.2). [DEDUCED, log 59] -/
def State.peerDelay (s : State) (p : Nat) : Bool :=
  s.rd Reg.TIME.PTPCLK.PROFILE == 3 || (s.rd Reg.TIME.PTPCLK.PROFILE != 1 && s.on (Reg.TIME.PORT.PCFG.DELAY p))

/-- The state of a port. -/
def State.portState (s : State) (p : Nat) : Nat := s.rd (Reg.TIME.PORT.PSTAT.STATE p)

/-- A key of the store by class, slot and key ID, current or next (R453, R558). -/
def State.keyById (s : State) (cls slot id : Nat) : Option KeyRec :=
  s.sec.keys.find? (fun k => k.cls == cls && k.slot == slot && k.id == id)

/-- The ICV of a message: HMAC-SHA256 cut to 128 bits (R452). -/
def icv128 (key raw : List Byte) : Nat := Config.hmacSha256 key raw / 2 ^ 128

/-- Whether a message's TLV is valid for the node's SPP (R452, R453, R455). -/
def State.tlvOk (s : State) (m : PtpMsg) : Bool := match m.tlv with
  | none => false
  | some (spp, id, icv) =>
    spp == s.rd Reg.TIME.AUTH.SPP &&
      (match s.keyById 3 0 id with
        | some k => icv == icv128 k.key m.raw
        | none => false)

/-- Bridge group of a port. -/
def State.brg (s : State) (p : Nat) : Nat := s.word Reg.NET.SW.BRG0.off |>.toNat |> (· / 2 ^ (2 * p) % 4)

/-- Whether a port is enabled. -/
def State.portOn (s : State) (p : Nat) : Bool := decide (p < 4) && s.on (Reg.NET.PORT.CFG.EN p)

/-- Other enabled external ports of a port's bridge group (R518). -/
def State.peers (s : State) (p : Nat) : List Nat :=
  (List.range 4).filter fun q => q != p && s.brg q == s.brg p && s.portOn q

/-- Put a frame into an egress queue of a port. [DEDUCED, log 49] -/
def State.enqueueFrame (s : State) (p queue bytes : Nat) : State :=
  { s with net := { s.net with queues := modAt s.net.queues p fun l => l ++ [{ queue := queue, bytes := bytes }] } }

/-- Whether a frame for the node comes with a tag that a port takes: its own, or none (R516). -/
def State.vidOk (s : State) (p vid : Nat) : Bool := vid == 0 || vid == s.rd (Reg.NET.PORT.QOS.VID p)

/-- Whether a port takes a message by its authentication: with a TLV it must be valid, without one AUTHREQ must be 0
(R455). -/
def State.ptpAuth (s : State) (m : PtpMsg) : Bool :=
  s.tlvOk m || (m.tlv.isNone && !s.on (Reg.TIME.PORT.PCFG.AUTHREQ m.port))

/-- A message fails authentication; it counts once, though the switch and the internal port both meet it (R455).
[DEDUCED, log 52] -/
def State.ptpFail (s : State) (m : PtpMsg) : State :=
  let k := (m.kind, m.sender, m.seq, m.ingress)
  if (s.port m.port).lastFail = some k then s
  else (s.setPort m.port { s.port m.port with lastFail := some k }).count (Reg.TIME.PORT.PCNT.AUTHFAIL m.port)

/-- The front end of every received message: an enabled port, its VLAN and authentication.  The flag says whether the
message goes on (R455, R515, R516). -/
def State.ptpAccept (s : State) (m : PtpMsg) : Bool × State :=
  if 4 ≤ m.port || !s.on (Reg.TIME.PORT.PCFG.EN m.port) then (false, s)
  else if !s.vidOk m.port m.vid then (false, s.count (Reg.NET.PORT.RXERR.DROP m.port))
  else if !s.ptpAuth m then (false, s.ptpFail m)
  else (true, s)

/-! ### The best master clock algorithm (R435, R438 to R440)

IEEE 1588's data set comparison and state decision, which the spec names and does not restate. [PRESUMED, log 15] -/

/-- Whether a list of numbers comes before another: the first place where they differ decides.
[PRESUMED, log 15] -/
def listLt : List Nat → List Nat → Bool
  | a :: r, b :: t => decide (a < b) || (a == b && listLt r t)
  | [], _ :: _ => true
  | _, [] => false

/-- A data set in the order in which its members decide. [PRESUMED, log 15] -/
def Announced.key (a : Announced) : List Nat := [a.prio1, a.cls, a.acc, a.var, a.prio2, a.gm, a.steps, a.sender]

/-- The better of two data sets, of the first where they are equal. -/
def better (a b : Announced) : Announced := if listLt b.key a.key then b else a

/-- The best of a list of data sets. -/
def bestAnnounced : List Announced → Option Announced
  | [] => none
  | a :: r => some (r.foldl better a)

/-- The clock identity of the node: the MAC address of NP0 as an EUI-64. [PRESUMED, log 15] -/
def State.clockId (s : State) : Nat :=
  let mac := s.rd (Reg.NET.PORT.MAC_HI 0) * 2 ^ 32 + s.rd (Reg.NET.PORT.MAC_LO 0)
  mac / 2 ^ 24 * 2 ^ 40 + 0xFFFE * 2 ^ 24 + mac % 2 ^ 24

/-- The identity of a port of the node. [PRESUMED, log 15] -/
def State.portId (s : State) (p : Nat) : Nat := s.clockId * 65536 + p + 1

/-- Whether a port is slave-only: its MODE, and every port while GMCAP is 0 (R440). -/
def State.slaveOnly (s : State) (p : Nat) : Bool :=
  !s.on Reg.TIME.PTPCLK.GMCAP || s.rd (Reg.TIME.PORT.PCFG.MODE p) == 2
/-- Whether a port is master-only. -/
def State.masterOnly (s : State) (p : Nat) : Bool := s.rd (Reg.TIME.PORT.PCFG.MODE p) == 1

/-- The node's own data set as grandmaster (R440). -/
def State.ownSet (s : State) (p : Nat) : Announced := {
  sender := s.portId p, gm := s.clockId, prio1 := s.rd Reg.TIME.PTPCLK.PRIO1, cls := s.rd Reg.TIME.GMQ.CLASS
  acc := s.rd Reg.TIME.GMQ.ACC, var := s.rd Reg.TIME.GMQ.VAR, prio2 := s.rd Reg.TIME.PTPCLK.PRIO2, steps := 0
  utc := Config.utcOffset }

/-- The announce interval in ns. -/
def State.annNs (s : State) : Nat := logIntervalNs (s.rd Reg.TIME.PTPINT.ANN)

/-- Whether a foreign master of a port counts: it is the one in use, or two of its Announces came within 4 intervals; one
is enough under 802.1AS. [PRESUMED, log 15] -/
def State.counted (s : State) (p : Nat) (f : Foreign) : Bool :=
  s.rd Reg.TIME.PTPCLK.PROFILE == 3 || (s.port p).parent.any (fun a => a.sender == f.ds.sender) ||
    decide (2 ≤ (f.seen.filter fun t => decide (s.run ≤ t + 4 * s.annNs)).length)

/-- The best master that a port hears. -/
def State.erBest (s : State) (p : Nat) : Option Announced :=
  bestAnnounced (((s.port p).foreign.filter (s.counted p)).map fun f => f.ds)

/-- The ports of a port's clock: an ordinary clock's own port, else every enabled port (Table 8.3). -/
def State.clockPorts (s : State) (p : Nat) : List Nat :=
  if s.boundary || s.transparent then (List.range 4).filter fun q => s.on (Reg.TIME.PORT.PCFG.EN q) else [p]

/-- The best master that a clock hears, with its port. -/
def State.eBest (s : State) (p : Nat) : Option (Nat × Announced) :=
  (s.clockPorts p).foldl (fun a q => match a, s.erBest q with
    | none, some y => some (q, y)
    | some x, some y => some (if listLt y.key x.2.key then (q, y) else x)
    | x, none => x) none

/-- What the state decision recommends for a port: a state of `PSTAT`, with 9 for a slave, and the Announce to use.  The
internal port of a transparent clock is one port of an ordinary clock: it is shown at the external port by which its
master is heard, or at every one as a master (R438, Table 8.3). [PRESUMED, log 15] [DESIGN CHOICE, log 15] -/
def State.recommend (s : State) (p : Nat) : Nat × Option Announced :=
  let d0 := s.ownSet p
  let own := s.erBest p
  match s.eBest p with
  | none => if s.masterOnly p && !s.slaveOnly p then (6, none)
    else if s.slaveOnly p || s.portState p = 4 then (4, none) else (6, none)
  | some (q, a) =>
    if s.slaveOnly p then (if q = p then (9, some a) else (4, none))
    else if s.masterOnly p then (6, none)
    else if own.isNone && s.portState p = 4 then (4, none)
    else if d0.cls < 128 && (own.all fun o => listLt d0.key o.key) then (6, none)
    else if d0.cls < 128 then (7, none)
    else if listLt d0.key a.key then (6, none)
    else if q = p then (9, some a)
    else if s.transparent then (4, none)
    else if own.any fun o => o.gm == a.gm then (7, none)
    else (5, none)

/-- Set the state of a port. [PRESUMED, log 69] -/
def State.setPortState (s : State) (p v : Nat) : State := (s.wr (Reg.TIME.PORT.PSTAT.STATE p) v).sourceTest p

/-- Take an Announce into use on a port, none where it has no master: the slot's quality follows it (R470). -/
def State.useAnnounce (s : State) (p : Nat) (a : Option Announced) : State :=
  s.setPort p { s.port p with
    parent := a, clockClass := (a.map fun y => y.cls).getD 255, clockAcc := (a.map fun y => y.acc).getD 254 }

/-- Act on a recommendation: a new master is UNCALIBRATED before it is SLAVE, and a port of a clock that follows another
port waits in PRE_MASTER. [PRESUMED, log 15] -/
def State.decidePort (s : State) (p : Nat) (r : Nat × Option Announced) : State :=
  let x := s.port p
  let st := s.portState p
  if !s.on (Reg.TIME.PORT.PCFG.EN p) || st = 1 then s
  else match r with
    | (9, some a) =>
      let same := decide (8 ≤ st) && (x.parent.any fun y => y.sender == a.sender)
      let s1 := s.useAnnounce p (some a)
      if same then s1.sourceTest p
      else (s1.setPort p { s1.port p with agree := 0, recent := [] }).setPortState p 8
    | (5, _) =>
      if st = 6 || st = 5 then s
      else if s.rd Reg.TIME.PTPCLK.PROFILE = 3 then (s.useAnnounce p none).setPortState p 6
      else
        let s1 := s.useAnnounce p none
        (s1.setPort p { s1.port p with preUntil := some (s.run + 2 * s.annNs) }).setPortState p 5
    | (v, _) => if st = v then s else (s.useAnnounce p none).setPortState p v

/-- The state decision of a port's clock: every port takes its recommendation. [PRESUMED, log 15] -/
def State.decideClock (s : State) (p : Nat) : State :=
  (s.clockPorts p).foldl (fun (a : State) q => a.decidePort q (s.recommend q)) s

/-- An Announce of a port's network is noted, and the clock decides anew; the node's own and one 255 steps removed are
not.  [PRESUMED, log 15] -/
def State.hearAnnounce (s : State) (p : Nat) (a : Announced) : State :=
  if a.gm = s.clockId || a.sender / 65536 = s.clockId || 255 ≤ a.steps then s
  else
    let x := s.port p
    let old := (x.foreign.find? fun f => f.ds.sender == a.sender).map fun f => f.seen
    let rest := x.foreign.filter fun f => f.ds.sender != a.sender
    let inUse := x.parent.any fun y => y.sender == a.sender
    let y := { x with
      foreign := rest ++ [{ ds := a, seen := (s.run :: old.getD []).take 2 }]
      lastAnnounce := if inUse then some s.run else x.lastAnnounce }
    (s.setPort p y).decideClock p

/-- A port is enabled or disabled: it forgets its masters (R437). -/
def State.portEnable (s : State) (p : Nat) (on : Bool) : State :=
  let s1 := s.useAnnounce p none
  (s1.setPort p { s1.port p with agree := 0, recent := [], foreign := [], lastAnnounce := none }).setPortState p
    (if on then 1 else 3)

/-- What PTP does at a tick boundary: a port that has initialised listens, or is a master where it may be nothing else, and
PRE_MASTER ends. [PRESUMED, log 15] -/
def State.ptpTick (s : State) : State :=
  (List.range 4).foldl (fun (a : State) p =>
    if !a.on (Reg.TIME.PORT.PCFG.EN p) then a
    else if a.portState p = 1 then
      (a.setPort p { a.port p with lastAnnounce := some a.run }).setPortState p
        (if a.masterOnly p && !a.slaveOnly p then 6 else 4)
    else if a.portState p = 5 && (a.port p).preUntil.all (fun t => decide (t ≤ a.run)) then a.setPortState p 6
    else a) s

/-! ### Measurements -/

/-- How many of the newest measurements all lie within 1 us of each other (Table 8.1). -/
def agreeing (l : List Int) : Nat :=
  ((List.range l.length).filter fun k =>
    (l.take (k + 1)).all fun a => (l.take (k + 1)).all fun b => decide (|a - b| ≤ 1000)).length

/-- Note an offset measurement of a port against its master, which makes an UNCALIBRATED port SLAVE; consecutive ones that
agree within 1 us are counted (Table 8.1), and the slot is fed as Table 8.3 states. [PRESUMED, log 15] -/
def State.ptpOffset (s : State) (p : Nat) (th : Int) : State :=
  let x := s.port p
  let l := (th :: x.recent.take x.agree).take 4
  let s0 := s.setPort p { x with agree := agreeing l, offset := th, recent := l }
  let s1 := if s0.portState p = 8 then s0.setPortState p 9 else s0
  if s1.portState p = 9 && s1.on (Reg.REFSEL.SLOT.CFG.EN p) then s1.measure p th else s1

/-- Note a path delay and show it (`MLD`). -/
def State.setMld (s : State) (p : Nat) (v : Int) : State :=
  (s.setPort p { s.port p with path := v }).wrSat (Reg.TIME.PORT.PSTAT.MLD p) v.toNat

/-- The offset of the master of a port: t1 + correction + path delay - t2, in ns. -/
def State.masterOffset (s : State) (p : Nat) (t1 corr t2 : Int) : Int :=
  t1 + quot corr 65536 + (s.port p).path - t2

/-- Whether a message comes from the master of a port. -/
def State.fromMaster (s : State) (m : PtpMsg) : Bool :=
  decide (8 ≤ s.portState m.port) && (s.port m.port).parent.any fun a => a.sender == m.sender

/-- Whether a message answers the last request of a port. [PRESUMED, log 15] -/
def State.answersUs (s : State) (m : PtpMsg) : Bool :=
  m.requester == s.portId m.port && m.seq == (s.port m.port).reqSeq

/-- What an Announce says. -/
def announcedBy (m : PtpMsg) : Announced := {
  sender := m.sender, gm := m.gm, prio1 := m.prio1, cls := m.clockClass, acc := m.clockAccuracy, var := m.variance
  prio2 := m.prio2, steps := m.steps, utc := m.utc }

/-- A Sync of the master: a measurement at once, or with its Follow_Up; either way the source is heard (R443, R445,
R474). -/
def State.takeSync (s : State) (m : PtpMsg) : State :=
  let p := m.port
  let x := s.port p
  let inn := m.ingress + s.rdInt (Reg.TIME.PORT.PASYM.INLAT p)
  if m.twoStep then
    let s1 := s.setPort p { x with syncT2 := inn - quot m.correction 65536, syncSeq := m.seq }
    if s1.on (Reg.REFSEL.SLOT.CFG.EN p) then s1.heard p else s1
  else (s.setPort p { x with syncT1 := m.origin + quot m.correction 65536, syncT2 := inn, syncSeq := m.seq }).ptpOffset p
    (s.masterOffset p m.origin m.correction inn)

/-- PTP_MESSAGE_RECEIVE (R443, R445, R455, R470): the message is authenticated and measured. [PRESUMED, log 15] -/
def doPtp (m : PtpMsg) (s : State) : State :=
  let (go, s1) := s.ptpAccept m
  if !go || m.domain != s.ptpDomain then s1
  else
    let p := m.port
    let x := s1.port p
    let inn := m.ingress + s1.rdInt (Reg.TIME.PORT.PASYM.INLAT p)
    match m.kind with
    | .sync => if s1.fromMaster m then s1.takeSync m else s1
    | .followUp =>
      if s1.fromMaster m && m.seq == x.syncSeq then
        (s1.setPort p { x with syncT1 := m.origin + quot m.correction 65536 }).ptpOffset p
          (s1.masterOffset p m.origin m.correction x.syncT2)
      else s1
    | .announce => s1.hearAnnounce p (announcedBy m)
    | .delayResp =>
      if s1.fromMaster m && s1.answersUs m then
        s1.setMld p (quot ((x.syncT2 - x.syncT1) + (m.origin - x.reqAt) - quot m.correction 65536) 2)
      else s1
    | .pdelayResp =>
      if !s1.answersUs m then s1
      else if m.twoStep then s1.setPort p { x with respT2 := m.origin - quot m.correction 65536, respT4 := inn }
      else s1.setMld p (quot ((inn - x.reqAt) - quot m.correction 65536) 2)
    | .pdelayRespFollowUp =>
      if s1.answersUs m then
        s1.setMld p (quot ((x.respT4 - x.reqAt) - (m.origin2 - x.respT2) - quot m.correction 65536) 2)
      else s1
    | .delayReq | .pdelayReq | .management | .signaling => s1

/-- The key ID of the TLV that an originated message carries (R453, R454). -/
def State.txTlv (s : State) : Option Nat :=
  if s.on Reg.TIME.AUTH.EN then some (s.rd Reg.TIME.AUTH.KEYID) else none

/-- Whether a port originates two-step (R448). -/
def State.twoStep (s : State) (p : Nat) : Bool :=
  s.on Reg.TIME.PTPCLK.TWOSTEP || s.on (Reg.TIME.PORT.PCFG.AUTHREQ p) || s.on Reg.TIME.AUTH.EN ||
    s.rd Reg.TIME.PTPCLK.PROFILE == 3

/-! ### Changes on the fly (R446, R447, R449, R450) -/

/-- Bytes as big-endian words of 16 bits. -/
def words16 : List Byte → List Nat
  | a :: b :: r => (a.toNat * 256 + b.toNat) :: words16 r
  | [a] => [a.toNat * 256]
  | [] => []

/-- A sum of 16-bit words with its carries folded in. -/
def fold16 (n : Nat) : Nat :=
  let a := n % 65536 + n / 65536
  a % 65536 + a / 65536

/-- A UDP checksum updated for words that change: zero stays zero, and a sum that comes out as zero is sent as its
other form (R450). -/
def udpUpdate (sum : Nat) (old new : List Byte) : Nat :=
  if sum = 0 then 0
  else
    let t := fold16 ((65535 - sum) + ((words16 old).map fun w => 65535 - w).sum + (words16 new).sum)
    if t = 65535 then 65535 else 65535 - t

/-- Bytes with `new` written from place i on; nothing past the end. -/
def splice (l : List Byte) (i : Nat) (new : List Byte) : List Byte :=
  if l.length < i + new.length then l else l.take i ++ new ++ l.drop (i + new.length)

/-- A frame with bytes of its PTP message changed from offset `ofs` on, the message standing at byte p: its UDP checksum
is updated (R450). [PRESUMED, log 69] -/
def onTheFly (udp : Bool) (p : Nat) (frame : List Byte) (ofs : Nat) (new : List Byte) : List Byte :=
  let f := splice frame (p + ofs) new
  if udp then
    let sum := ((words16 ((frame.drop (p - 2)).take 2)).head?).getD 0
    splice f (p - 2) (be 2 (udpUpdate sum ((frame.drop (p + ofs)).take new.length) new))
  else f

/-- The correctionField of a message in 2^-16 ns, at byte 8 of the message (IEEE 1588). [PRESUMED, log 69] -/
def corrBytes (c : Int) : List Byte := be 8 (ofInt 64 c)

/-- An originTimestamp in ns, at byte 34 of the message (IEEE 1588). [PRESUMED, log 69] -/
def stampBytes (t : Int) : List Byte := be 6 (t.toNat / 1000000000) ++ be 4 (t.toNat % 1000000000)

/-- Whether the node's own messages travel over UDP (Table 8.2). -/
def State.ptpUdp (s : State) : Bool := s.rd Reg.TIME.PTPCLK.PROFILE != 3

/-- Where a PTP message stands in a frame of the node with a VLAN ID: behind Ethernet with its tag, and IPv4 and UDP
headers (R516, Table 8.2). [PRESUMED, log 69] -/
def State.ptpAt (s : State) (vid : Nat) : Nat := (if s.ptpUdp then 42 else 14) + if vid = 0 then 0 else 4

/-- The frame of a message that a port originates; a one-step Sync or Pdelay_Resp takes its times as it leaves (R449,
R450). -/
def State.ownFrame (s : State) (p : Nat) (m : PtpSent) (oneStep : Bool) : List Byte :=
  if oneStep then
    let at_ := s.ptpAt m.vid
    let f := onTheFly s.ptpUdp at_ (Config.ptpFrame p { m with origin := 0, correction := 0 }) 8 (corrBytes m.correction)
    if m.kind = .sync then onTheFly s.ptpUdp at_ f 34 (stampBytes m.origin) else f
  else Config.ptpFrame p m

/-- The ICV of a message under a key of the node's SPP, of what the frame holds (R452). -/
def State.icvOf (s : State) (id : Option Nat) (raw : List Byte) : Option Nat :=
  id.bind fun i => (s.keyById 3 0 i).map fun k => icv128 k.key raw

/-- A frame of the node's own with its ICV in place: the last 16 bytes of the message, of all that stands before them
(R452, R454). [PRESUMED, log 69] -/
def State.sealFrame (s : State) (at_ : Nat) (id : Option Nat) (f : List Byte) : Option Nat × List Byte :=
  let cut := (f.drop at_).length - 16
  let icv := s.icvOf id ((f.drop at_).take cut)
  (icv, match icv with
    | some v => onTheFly s.ptpUdp at_ f cut (be 16 v)
    | none => f)

/-- Send a message of a port: its marks, its TLV with SPP and ICV, and the frame as it leaves, by the first queue (R450,
R454, R516, R517, R522). -/
def State.ptpSend (s : State) (p : Nat) (m : PtpSent) : State :=
  let m1 := { m with
    key := s.txTlv, spp := if s.txTlv.isSome then s.rd Reg.TIME.AUTH.SPP else 0
    vid := s.rd (Reg.NET.PORT.QOS.VID p), pcp := s.rd (Reg.NET.PORT.QOS.PCPP p), dscp := s.rd (Reg.NET.PORT.QOS.DSCPP p) }
  let f := s.ownFrame p m1 ((m.kind = .sync || m.kind = .pdelayResp) && !s.twoStep p)
  let (icv, f1) := s.sealFrame (s.ptpAt m1.vid) m1.key f
  (s.setPort p { s.port p with sent := some { m1 with icv := icv, frame := f1, fcs := ethFcs f1 } }).enqueueFrame p 0
    (f1.length + 4)

/-- Discard and count a message (R441, R442). -/
def State.ptpDiscard (s : State) (p : Nat) : State := s.count (Reg.TIME.PORT.PCNT.DISCARD p)

/-- DELAY_REQ: a master port answers, up to 2,048 requests per second (R442, R448, R449). -/
def doDelayReq (m : PtpMsg) (s : State) : State :=
  let (go, s1) := s.ptpAccept m
  let p := m.port
  if !go || m.domain != s.ptpDomain || s1.portState p ≠ 6 then s1
  else
    let x := s1.port p
    let n := if x.reqSec = s1.secs then x.reqs else 0
    if 2048 ≤ n then s1.ptpDiscard p
    else
      let s2 := s1.setPort p { x with reqSec := s1.secs, reqs := n + 1 }
      let inn := m.ingress + s1.rdInt (Reg.TIME.PORT.PASYM.INLAT p)
      let out := m.egress + s1.rdInt (Reg.TIME.PORT.PASYM.EGLAT p)
      match m.kind with
      | .pdelayReq =>
        let r : PtpSent := { kind := .pdelayResp, seq := m.seq, requester := m.sender }
        if s2.twoStep p then
          let s3 := s2.setPort p { s2.port p with
            followUps := (s2.port p).followUps ++ [(.pdelayResp, m.seq, m.sender, out * 65536)] }
          s3.ptpSend p { r with origin := inn }
        else s2.ptpSend p { r with correction := m.correction + (out - inn) * 65536 }
      | _ => s2.ptpSend p { kind := .delayResp, seq := m.seq, requester := m.sender, origin := inn, correction := m.correction }

/-- The general message that carries an event message's correction (R447); a Pdelay_Req's goes with the
Pdelay_Resp_Follow_Up that comes back, which the rule leaves out. [DESIGN CHOICE, log 52] -/
def generalOf : PtpKind → PtpKind
  | .sync => .followUp
  | .delayReq => .delayResp
  | .pdelayResp => .pdelayRespFollowUp
  | .pdelayReq => .pdelayRespFollowUp
  | k => k

/-- A message as a transparent clock forwards it with correctionField c: unchanged where that is the one it came with,
else with checksum and FCS of what leaves, and the ICV recomputed (R446, R447, R450). -/
def State.forwarded (s : State) (m : PtpMsg) (c : Int) : PtpSent :=
  let id := m.tlv.map fun t => t.2.1
  let spp := (m.tlv.map fun t => t.1).getD 0
  let x : PtpSent := {
    kind := m.kind, seq := m.seq, requester := m.requester, origin := m.origin, correction := c, key := id, spp := spp }
  if c = m.correction then
    { x with icv := m.tlv.map fun t => t.2.2, frame := m.frame, fcs := ethFcs m.frame }
  else
    let f := onTheFly m.udp m.at_ m.frame 8 (corrBytes c)
    let raw := splice m.raw 8 (corrBytes c)
    let icv := s.icvOf id raw
    let f1 := match icv with
      | some v => onTheFly m.udp m.at_ f m.raw.length (be 16 v)
      | none => f
    { x with icv := icv, frame := f1, fcs := ethFcs f1 }

/-- Forward a message by an egress port. -/
def State.passOn (s : State) (m : PtpMsg) (e : Nat) (c : Int) : State :=
  s.setPort e { s.port e with sent := some (s.forwarded m c) }

/-- MANAGEMENT_MESSAGE: a transparent clock forwards it in its bridge group, another discards and counts it (R441,
R520). -/
def doManagement (m : PtpMsg) (s : State) : State :=
  let (go, s1) := s.ptpAccept m
  if !go then s1
  else if s1.transparent then (s1.peers m.port).foldl (fun (a : State) e => a.passOn m e m.correction) s1
  else s1.ptpDiscard m.port

/-- Where the correction of an authenticated event message waits: with the port by which its general message leaves, and
with the port by which that comes; a request's general message comes back the other way (R447). -/
def owedAt (m : PtpMsg) (e : Nat) : Nat × Nat := match m.kind with
  | .delayReq | .pdelayReq => (m.port, e)
  | _ => (e, m.port)

/-- Whether a correction waits for a message: its kind, the port by which it came, its sequenceId, and the sender of the
event message that it follows or answers (R447). -/
def owedFor (m : PtpMsg) (o : Owed) : Bool :=
  o.kind == m.kind && o.from_ == m.port && o.seq == m.seq && (o.who == m.sender || o.who == m.requester)

/-- PTP_EVENT_FORWARD: a transparent clock adds the residence time, or owes it to the general message where the event
message is authenticated; a message leaves by another port of its bridge group alone, and one that its port does not
accept is discarded and counted (R446, R447, R450, R455, R518, R520). -/
def doForward (m : PtpMsg) (e : Nat) (s : State) : State :=
  if !s.transparent || 4 ≤ m.port || !(s.peers m.port).contains e then s
  else if !s.ptpAuth m then s.ptpFail m
  else
    let p := m.port
    let inn := m.ingress + s.rdInt (Reg.TIME.PORT.PASYM.INLAT p)
    let out := m.egress + s.rdInt (Reg.TIME.PORT.PASYM.EGLAT e)
    let link : Int := if m.kind = .sync && s.peerDelay p then (s.port p).path else 0
    let res := (out - inn + link) * 65536
    match m.kind with
    | .sync | .delayReq | .pdelayReq | .pdelayResp =>
      if m.tlv.isSome then
        let s1 := s.passOn m e m.correction
        let (q, from_) := owedAt m e
        let o : Owed := { kind := generalOf m.kind, from_ := from_, seq := m.seq, who := m.sender, res := res }
        s1.setPort q { s1.port q with owed := (s1.port q).owed ++ [o] }
      else s.passOn m e (m.correction + res)
    | _ =>
      let x := s.port e
      let mine := x.owed.filter (owedFor m)
      (s.setPort e { x with owed := x.owed.filter fun o => !owedFor m o }).passOn m e
        (m.correction + (mine.map fun o => o.res).sum)

/-- The sequenceId that a port's next message takes. -/
def State.takeSeq (s : State) (p : Nat) : Nat × State :=
  let x := s.port p
  (x.txSeq, s.setPort p { x with txSeq := (x.txSeq + 1) % 65536 })

/-- SYNC_TRANSMIT: a master port originates a Sync at egress, in 2^-16 ns (R443, R445, R448, R449,
R454). -/
def doSync (p : Nat) (egress : Int) (s : State) : State :=
  if 4 ≤ p || !s.on (Reg.TIME.PORT.PCFG.EN p) || s.portState p ≠ 6 then s
  else
    let t := egress + s.rdInt (Reg.TIME.PORT.PASYM.EGLAT p) * 65536
    let (n, s1) := s.takeSeq p
    if s1.twoStep p then
      (s1.setPort p { s1.port p with followUps := (s1.port p).followUps ++ [(.sync, n, 0, t)] }).ptpSend p
        { kind := .sync, seq := n }
    else s1.ptpSend p { kind := .sync, seq := n, origin := t / 65536, correction := t % 65536 }

/-- FOLLOW_UP: the precise egress timestamp follows its event message, the oldest one owed first (R451). -/
def doFollowUp (p : Nat) (s : State) : State :=
  match (s.port p).followUps with
  | [] => s
  | (k, n, who, t) :: r =>
    (s.setPort p { s.port p with followUps := r }).ptpSend p
      { kind := generalOf k, seq := n, requester := who, origin := t / 65536, correction := t % 65536 }

/-- ANNOUNCE_TRANSMIT: a master port announces the node's quality as grandmaster, else its parent's, with
currentUtcOffset (R418, R440, R454). -/
def doAnnounce (p : Nat) (s : State) : State :=
  if 4 ≤ p || !s.on (Reg.TIME.PORT.PCFG.EN p) || s.portState p ≠ 6 then s
  else
    let slave := (List.range 4).find? fun q => s.boundary && s.portState q == 9
    let a := match slave.bind fun q => (s.port q).parent with
      | some y => { y with steps := y.steps + 1 }
      | none => s.ownSet p
    let (n, s1) := s.takeSeq p
    s1.ptpSend p {
      kind := .announce, seq := n, clockClass := a.cls, clockAcc := a.acc, variance := a.var, prio1 := a.prio1
      prio2 := a.prio2, gm := a.gm, steps := a.steps, utc := a.utc }

/-- ANNOUNCE_RECEIPT_TIMEOUT: no Announce in use has come for announceReceiptTimeout intervals: the port forgets its
master, and where it hears no other, one that may be master is MASTER and any other LISTENING (R435, R440, Table 8.2).
[PRESUMED, log 15] [PRESUMED, log 69] -/
def doAnnTimeout (p : Nat) (s : State) : State :=
  let wait := s.rd Reg.TIME.PTPINT.ANNTO * s.annNs
  let due := match (s.port p).lastAnnounce with
    | some t => decide (t + wait ≤ s.run)
    | none => true
  let st := s.portState p
  if 4 ≤ p || !s.on (Reg.TIME.PORT.PCFG.EN p) || !(st = 4 || 7 ≤ st) || !due then s
  else
    let x := s.port p
    let rest := x.foreign.filter fun f => x.parent.all fun a => f.ds.sender != a.sender
    let s1 := (s.setPort p { x with agree := 0, recent := [], foreign := rest, lastAnnounce := some s.run }).useAnnounce p none
    let s2 := s1.setPortState p 4
    if (s2.erBest p).isSome then s2.decideClock p
    else if s2.slaveOnly p || (s2.transparent && (s2.eBest p).isSome) then s2 else s2.setPortState p 6

/-- DELAY_REQ_TRANSMIT: a slave port or a peer-delay port sends its request at `egress` (R435, R445). -/
def doReqTransmit (p egress : Nat) (s : State) : State :=
  if 4 ≤ p || !s.on (Reg.TIME.PORT.PCFG.EN p) || !(s.peerDelay p || s.portState p = 8 || s.portState p = 9) then s
  else
    let t := (egress : Int) + s.rdInt (Reg.TIME.PORT.PASYM.EGLAT p)
    let n := ((s.port p).reqSeq + 1) % 65536
    (s.setPort p { s.port p with reqAt := t, reqSeq := n }).ptpSend p
      { kind := if s.peerDelay p then .pdelayReq else .delayReq, seq := n }

/-- A write of PTPCLK returns every enabled port to INITIALIZING (R437). -/
def State.ptpRestart (s : State) : State :=
  (List.range 4).foldl (fun (a : State) p => if a.on (Reg.TIME.PORT.PCFG.EN p) then a.portEnable p true else a) s

/-- The intervals of a profile: SYNC, ANN, DREQ, ANNTO (Table 8.2, R435). [DEDUCED, log 59] -/
def profileInts (p : Nat) : Nat × Nat × Nat × Nat :=
  match p with
  | 0 => (0, 1, 0, 3)
  | 1 => (13, 1, 13, 3)
  | 2 => (13, 14, 13, 3)
  | _ => (13, 0, 0, 3)

/-- Whether an interval fits the current profile: field 0 SYNC, 1 ANN, 2 DREQ, 3 ANNTO (R436). -/
def intervalOk (profile fld v : Nat) : Bool :=
  let x := toInt 4 v
  let within (lo hi : Int) : Bool := decide (lo ≤ x) && decide (x ≤ hi)
  match profile, fld with
  | _, 3 => decide (2 ≤ v) && decide (v ≤ 10)
  | 0, 0 => within (-1) 1
  | 0, 1 => within 0 4
  | 0, _ => within 0 5
  | 1, 0 => within (-4) 1
  | 1, 1 => within 0 4
  | 1, _ => within (-3) 5
  | 2, 0 => within (-7) (-1)
  | 2, 1 => within (-3) 1
  | 2, _ => within (-7) 5
  | _, 0 => within (-5) 0
  | _, 1 => within 0 3
  | _, _ => within (-3) 3

/-! ### Rows -/

/-- FIRST_LOCK_STEP (R420, R423). -/
def execFirstLockStep (s : State) : Out := .next (doFirstLock s)
/-- TIME_SET (R420). -/
def execTimeSet (d : Desc) (s : State) : Out := .next (hostCmd 0x40 roleE d (timeSetRes d) s)
/-- RE_EPOCH (R431). -/
def execReEpoch (d : Desc) (s : State) : Out := .next (hostCmd 0x41 roleE d (reEpochRes d) s)
/-- EVENT_INPUT_EDGE (R456). -/
def execEventInputEdge (i : Nat) (falling : Bool) (held atNs : Nat) (s : State) : Out :=
  .next (doEdge i falling held atNs s)
/-- LAUNCH_OUTPUT_PULSE (R462). -/
def execLaunchOutputPulse (j : Nat) (s : State) : Out := .next (doPulse j s)
/-- LAUNCH_OUTPUT_PULSE_END (R464). -/
def execLaunchOutputPulseEnd (j : Nat) (s : State) : Out := .next (doPulseEnd j s)
/-- PTP_MESSAGE_RECEIVE (R455). -/
def execPtpMessageReceive (m : PtpMsg) (s : State) : Out := .next (doPtp m s)
/-- DELAY_REQ (R442). -/
def execDelayReq (m : PtpMsg) (s : State) : Out := .next (doDelayReq m s)
/-- MANAGEMENT_MESSAGE (R441). -/
def execManagementMessage (m : PtpMsg) (s : State) : Out := .next (doManagement m s)
/-- PTP_EVENT_FORWARD (R446). -/
def execPtpEventForward (m : PtpMsg) (egressPort : Nat) (s : State) : Out := .next (doForward m egressPort s)
/-- SYNC_TRANSMIT (R449). -/
def execSyncTransmit (port : Nat) (egress : Int) (s : State) : Out := .next (doSync port egress s)
/-- FOLLOW_UP (R451). -/
def execFollowUp (port : Nat) (s : State) : Out := .next (doFollowUp port s)
/-- ANNOUNCE_TRANSMIT (R440). -/
def execAnnounceTransmit (port : Nat) (s : State) : Out := .next (doAnnounce port s)
/-- ANNOUNCE_RECEIPT_TIMEOUT (R435). -/
def execAnnounceReceiptTimeout (port : Nat) (s : State) : Out := .next (doAnnTimeout port s)
/-- DELAY_REQ_TRANSMIT (R435). -/
def execDelayReqTransmit (port egress : Nat) (s : State) : Out := .next (doReqTransmit port egress s)

end Sys2Proof.Machine
end

