-- ==== Sys2Proof/Machine/Store.lean ====
section
/-! DEFINITION. The flash store, recording and playback, files, firmware staging and install, and the
silt log's commands (chapter 17). -/
namespace Sys2Proof.Machine

/-! ### The store's state -/

/-- State of the medium: 0 none, 1 ready, 2 READONLY, 3 unformatted. -/
def State.medium (s : State) : Nat := s.rd Reg.STORE.STAT.STATE

/-- A command of a storage family: none starts until the journal replay has ended (R827). -/
def storeCmd (op role : Nat) (d : Desc) (eff : State → Res) (s : State) : State :=
  if s.on Reg.STORE.STAT.JRN then s else hostCmd op role d eff s

/-- A storage command whose buffers are in DRAM: none starts during a full retrain either (R758). -/
def bufferCmd (op role : Nat) (d : Desc) (eff : State → Res) (s : State) : State :=
  if s.on Reg.DRAM.STAT.RETRAIN then s else storeCmd op role d eff s

/-- Bytes of one sample of a take. -/
def sampleBytes (width : Nat) : Nat := if width = 0 then 3 else 4

/-- Bytes that a take's frames hold. [DEDUCED, log 22] -/
def Take.bytes (t : Take) : Nat :=
  t.blocks.foldl (fun a b => a + b.frames.length) 0 * t.spt * t.chans.length * sampleBytes t.width

/-- Bytes in use on the medium: files, pending versions and takes. [DEDUCED, log 22] -/
def State.storeUsed (s : State) : Nat :=
  s.store.files.foldl (fun a f => a + f.data.length) 0 + s.store.pend.foldl (fun a f => a + f.data.length) 0 +
    s.store.takes.foldl (fun a t => a + t.bytes) 0

/-- Bytes still free on the medium. [DEDUCED, log 22] -/
def State.storeFree (s : State) : Nat := s.rd Reg.STORE.CAP.MIB * 1048576 - s.storeUsed

/-- Show free capacity, open sessions and recording. -/
def State.showStore (s : State) : State :=
  let s1 := s.wrSat Reg.STORE.FREE.MIB (s.storeFree / 1048576)
  let s2 := s1.wrSat Reg.STORE.STAT.PLAY s1.store.plays.length
  s2.put Reg.STORE.STAT.REC (match s2.store.rcd with
    | some r => r.running
    | none => false)

/-- One change of the map is journaled (R825, R826). -/
def State.journal (s : State) : State :=
  { s with store := { s.store with journal := s.store.journal + 1 } }

/-! ### NAND blocks (R813, R816, R820 to R824) -/

/-- A block's record. -/
def State.blk (s : State) (b : Nat) : NandBlk := mapGetD s.store.blocks b {}
/-- Set a block's record. -/
def State.setBlk (s : State) (b : Nat) (x : NandBlk) : State :=
  { s with store := { s.store with blocks := mapSet s.store.blocks b x } }

/-- Show the erase counts. -/
def State.showWear (s : State) : State :=
  let all := s.store.blocks.map (fun e => e.2.erases)
  let used := (s.store.blocks.filter (fun e => e.2.used)).map (fun e => e.2.erases)
  (s.wrSat Reg.STORE.WEAR.MAXEC (all.foldl max 0)).wrSat Reg.STORE.WEAR.MINEC (used.foldl min (used.headD 0))

/-- Data bytes of a block: the usable capacity over the blocks outside the spare pool. [DESIGN CHOICE, log 87] -/
def State.blockBytes (s : State) : Nat :=
  s.store.mib * 1048576 / max 1 (s.store.good - s.store.good * 2 / 100)

/-- The good blocks that hold no data. -/
def State.freeNums (s : State) : List Nat :=
  (List.range s.store.total).filter fun b => !s.store.bad.contains b && !(s.blk b).used

/-- A free block: the one with the lowest erase count for a new write, with a high one for the least-worn data; the
lowest number among equals (R820, R821). [DESIGN CHOICE, log 87] -/
def State.freeBlk (s : State) (high : Bool) : Option Nat :=
  s.freeNums.foldl (fun (a : Option Nat) b => match a with
    | none => some b
    | some c =>
      let better := if high then decide ((s.blk c).erases < (s.blk b).erases) else decide ((s.blk b).erases < (s.blk c).erases)
      if better then some b else a) none

/-- A block takes data. -/
def State.useBlk (s : State) (b : Nat) : State :=
  s.setBlk b { (s.blk b) with used := true, reads := 0, refresh := false, seen := s.run }

/-- A block is erased (R816, R822). -/
def State.eraseBlk (s : State) (b : Nat) : State :=
  s.setBlk b { (s.blk b) with erases := (s.blk b).erases + 1, reads := 0, used := false, refresh := false }

/-- Add `n` blocks to those that hold some data, each the best free one (R820). -/
def growBlocks : Nat → List Nat → State → List Nat × State
  | 0, l, s => (l, s)
  | n + 1, l, s => match s.freeBlk false with
    | some b => growBlocks n (l ++ [b]) (s.useBlk b)
    | none => (l, s)

/-- The blocks of `n` bytes of data, of which `l` are there. -/
def State.holdBytes (s : State) (l : List Nat) (n : Nat) : List Nat × State :=
  if s.blockBytes = 0 then (l, s) else growBlocks (ceilDiv n s.blockBytes - l.length) l s

/-- Blocks whose data is gone are erased. -/
def State.eraseAll (s : State) (l : List Nat) : State := (l.foldl State.eraseBlk s).showWear

/-- A read of bytes o to o + n - 1 of what blocks hold: each counts the pages of 16,384 bytes read (R812, R822).
[DESIGN CHOICE, log 87] -/
def State.readPages (s : State) (l : List Nat) (o n : Nat) : State :=
  l.zipIdx.foldl (fun (a : State) (b, i) =>
    let lo := max o (i * s.blockBytes)
    let hi := min (o + n) ((i + 1) * s.blockBytes)
    if lo < hi then a.setBlk b { (a.blk b) with reads := (a.blk b).reads + ((hi - 1) / 16384 - lo / 16384 + 1) } else a) s

/-- What held data in block b holds it in block f. -/
def State.rehome (s : State) (b f : Nat) : State :=
  let m (l : List Nat) : List Nat := l.map fun x => if x = b then f else x
  { s with store := { s.store with
    files := s.store.files.map fun x => { x with blocks := m x.blocks }
    pend := s.store.pend.map fun x => { x with blocks := m x.blocks }
    takes := s.store.takes.map fun x => { x with nand := m x.nand } } }

/-- Move a block's data into a free block and erase it (R816, R821). -/
def State.moveBlk (s : State) (b : Nat) (high : Bool) : State :=
  let s1 := match s.freeBlk high with
    | some f => (s.useBlk f).rehome b f
    | none => s
  ((s1.eraseBlk b).journal).showWear

/-! ### Files (R839 to R841) -/

/-- The 32-byte name at the head of a buffer. -/
def fileName (b : List Byte) : List Byte := b.take 32

/-- A file by name. -/
def State.file (s : State) (n : List Byte) : Option FileRec := s.store.files.find? (fun f => f.name == n)

/-- Set the files of the store. -/
def State.setFiles (s : State) (l : List FileRec) : State := { s with store := { s.store with files := l } }
/-- Set the pending versions of the store. -/
def State.setPend (s : State) (l : List PendFile) : State := { s with store := { s.store with pend := l } }
/-- Set the takes of the store. -/
def State.setTakes (s : State) (l : List Take) : State := { s with store := { s.store with takes := l } }
/-- The files but one name. -/
def otherFiles (l : List FileRec) (n : List Byte) : List FileRec := l.filter (fun f => f.name != n)

/-- The blocks that hold a file. -/
def State.fileBlocks (s : State) (n : List Byte) : List Nat := ((s.file n).map fun f => f.blocks).getD []

/-- Write a whole file, of which the blocks `held` hold a part (R820, R826, R839). -/
def State.putFile (s : State) (n data : List Byte) (held : List Nat := []) : State :=
  let r := s.holdBytes held data.length
  let f : FileRec := { name := n, data := data, blocks := r.1 }
  (((r.2.setFiles (otherFiles s.store.files n ++ [f])).eraseAll (s.fileBlocks n)).journal).showStore

/-- Whether a file may be written: the medium is ready, with room and a free name; the status to give
otherwise (R819, R839). -/
def State.fileBar (s : State) (n : List Byte) (size : Nat) : Option Nat :=
  if s.medium ≠ 1 then some stRefused
  else if 2 ^ 32 < size || s.storeFree < size then some stNoSpace
  else if (s.file n).isNone && 4096 ≤ s.store.files.length then some stNoSpace
  else none

/-- FILE_WRITE and FW_STAGE: one piece of a pending version (R840, R841). -/
def pieceRes (d : Desc) (s : State) : Res :=
  if d.buf.length < 32 then badDesc s 32
  else if 2 ≤ d.a2 then badDesc s 56
  else
    let n := fileName d.buf
    let data := d.buf.drop 32
    let others := s.store.pend.filter (fun f => f.name != n)
    let gone := ((s.store.pend.find? (fun f => f.name == n)).map fun f => f.blocks).getD []
    let put (old : List Byte) (held : List Nat) : Res :=
      let all := old ++ data
      let s0 := if d.a0 = 0 then (s.setPend others).eraseAll gone else s.setPend others
      match (s.setPend others).fileBar n all.length with
      | some st => failRes s st
      | none =>
        if d.a2 = 1 then
          okRes (s0.putFile n all held) (le 4 all.length)
        else
          let r := s0.holdBytes held all.length
          let v : PendFile := { name := n, data := all, last := s.run, blocks := r.1 }
          okRes (r.2.setPend (others ++ [v])).showStore (le 4 all.length)
    if d.a0 = 0 then
      if 8 ≤ others.length then failRes s stBusy else put [] []
    else
      match s.store.pend.find? (fun f => f.name == n) with
      | none => badDesc s 48
      | some f => if f.data.length = d.a0 then put f.data f.blocks else badDesc s 48

/-- Whether `n` bytes of a file from byte `o` need a codeword that does not decode (R813, R815). -/
def FileRec.needsBad (f : FileRec) (o n : Nat) : Bool :=
  f.corrupt.any fun k => decide (0 < n) && decide (k * 4096 < o + n) && decide (o < (k + 1) * 4096)

/-- FILE_READ (R815, R822, R848). -/
def fileReadRes (d : Desc) (s : State) : Res :=
  if d.buf.length ≠ 32 then badDesc s 32
  else match s.file d.buf with
    | none => badBuf s 0
    | some f =>
      let b := (f.data.drop d.a0).take d.rlen
      let s1 := s.readPages f.blocks d.a0 b.length
      if f.needsBad d.a0 b.length then failRes s1 stCorrupt else okRes s1 (le 4 b.length) b

/-- FILE_DELETE (R848). -/
def fileDeleteRes (d : Desc) (s : State) : Res :=
  if d.buf.length ≠ 32 then badDesc s 32
  else if s.medium ≠ 1 then failRes s stRefused
  else match s.file d.buf with
    | none => badBuf s 0
    | some _ =>
      okRes ((((s.setFiles (otherFiles s.store.files d.buf)).eraseAll (s.fileBlocks d.buf)).journal).showStore)

/-- FILE_LIST (R848): the layout of an entry is not stated. -/
def fileListRes (_ : Desc) (s : State) : Res :=
  okRes s (le 4 s.store.files.length)
    (s.store.files.map (fun f => Config.listEntry (f.data.length :: f.name.map BitVec.toNat))).flatten

/-- PENDING_VERSION_TIMEOUT: 600 s without a piece (R841). -/
def doPendTimeout (n : List Byte) (s : State) : State :=
  let live (f : PendFile) : Bool := f.name != n || decide (s.run < f.last + 600000000000)
  let gone := (s.store.pend.filter (fun f => !live f)).flatMap fun f => f.blocks
  ((s.setPend (s.store.pend.filter live)).eraseAll gone).showStore

/-! ### Recording (R828 to R833) -/

/-- A take by number. -/
def State.take (s : State) (n : Nat) : Option Take := s.store.takes.find? (fun t => t.num == n)

/-- Change a take. -/
def State.modTake (s : State) (n : Nat) (f : Take → Take) : State :=
  s.setTakes (s.store.takes.map (fun t => if t.num = n then f t else t))

/-- Numbers of 2 bytes each. -/
def u16s (b : List Byte) : List Nat := (pieces 2 (b.length / 2) b).map unLe

/-- Index of the first element that a test refuses. -/
def firstBadIdx (l : List Nat) (ok : Nat → Bool) : Option Nat := l.findIdx? (fun x => !ok x)

/-- Rate of a set of channels in bytes per second. -/
def State.byteRate (s : State) (chans width : Nat) : Nat := chans * s.fs * sampleBytes width

/-- The class 5 key of a slot. -/
def State.recKey (s : State) (slot : Nat) : Option KeyRec :=
  s.sec.keys.find? (fun k => k.cls == 5 && k.slot == slot)

/-- The key check value over a take number (R882). -/
def keyCheck (k : List Byte) (take : Nat) : Nat :=
  unLe ((le 32 (Config.hmacSha256 k (le 4 take))).reverse.take 4)

/-- REC_ARM (R828, R829, R832, R882, R883, R890). -/
def recArmRes (d : Desc) (s : State) : Res :=
  let chans := u16s d.buf
  if 2 ≤ d.a0 then badDesc s 48
  else if 2 ≤ d.a2 then badDesc s 56
  else if d.buf.length % 2 ≠ 0 || d.buf.isEmpty then badDesc s 32
  else match firstBadIdx chans (fun c => decide (c < s.cap 2048)) with
  | some i => badBuf s i
  | none =>
    if s.cap 2048 < chans.length then badDesc s 32
    else if s.medium ≠ 1 || s.inStandby then failRes s stRefused
    else if s.store.rcd.isSome then failRes s stBusy
    else if d.a2 = 1 && (s.rd Reg.SEC.STATUS.CRYPTO == 2 || (s.recKey (s.rd Reg.SEC.CFG.RECKEY)).isNone) then
      failRes s stRefused
    else if s.rd Reg.STORE.PERF.WR * 600000 < s.byteRate chans.length d.a0 then failRes s stNoBandwidth
    else
      let n := s.store.nextTake
      let slot := s.rd Reg.SEC.CFG.RECKEY
      let enc := match s.recKey slot with
        | some k => if d.a2 = 1 then some (slot, keyCheck k.key n) else none
        | none => none
      let t : Take := { num := n, width := d.a0, chans := chans, enc := enc, spt := s.spt }
      okRes ({ s with store := { s.store with
        takes := s.store.takes ++ [t], nextTake := (n + 1) % 2 ^ 32, rcd := some { take := n } } }.journal) (le 4 n)

/-- The tick boundary that a command's time names, at least `g` ticks ahead. -/
def State.boundaryOf (s : State) (d : Desc) (g : Nat) : Nat := s.tickFrom (s.readNs d) (d.rbuf * 1000000000 + d.a2) g

/-- REC_START (R830). -/
def recStartRes (d : Desc) (s : State) : Res :=
  if 1000000000 ≤ d.a2 then badDesc s 56
  else match s.store.rcd with
    | none => failRes s stRefused
    | some r =>
      if r.start.isSome then failRes s stBusy
      else
        let k := s.boundaryOf d 2
        okRes { s with store := { s.store with rcd := some { r with start := some k } } } (le 8 k)

/-- RECORDING_START: at T(k) the take begins (R830). -/
def doRecStart (s : State) : State := match s.store.rcd with
  | none => s
  | some r => match r.start with
    | none => s
    | some k =>
      if s.tick < k then s
      else ({ s with store := { s.store with rcd := some { r with running := true, at_ := s.run } } }).showStore

/-- REC_STOP (R830): RESULT names the last frame recorded. -/
def recStopRes (d : Desc) (s : State) : Res :=
  if 1000000000 ≤ d.a2 then badDesc s 56
  else match s.store.rcd with
    | none => failRes s stRefused
    | some r =>
      let k := s.boundaryOf d 2
      okRes { s with store := { s.store with rcd := some { r with stop := some k } } } (le 8 (k - 3))

/-- RECORDING_STOP: at the stop boundary the take ends (R830). -/
def doRecStop (s : State) : State := match s.store.rcd with
  | none => s
  | some r => match r.stop with
    | none => s
    | some k =>
      if s.tick < k then s else (({ s with store := { s.store with rcd := none } }).journal).showStore

/-- The last frame that a take holds. -/
def Take.lastFrame (t : Take) : Nat := match t.blocks.getLast? with
  | none => 0
  | some b => b.first + b.frames.length - 1

/-- Add a frame to a take in blocks of 64 (R831). -/
def Take.add (t : Take) (n : Nat) (x : List (List Int)) : Take :=
  match t.blocks.getLast? with
  | some b =>
    if b.frames.length < 64 then
      { t with blocks := t.blocks.dropLast ++ [{ b with frames := b.frames ++ [x] }] }
    else { t with blocks := t.blocks ++ [{ first := n, frames := [x] }] }
  | none => { t with blocks := [{ first := n, frames := [x] }] }

/-- The take that records frame n: the one whose boundaries hold the frame's output presentation (R830). -/
def State.recordsIn (s : State) (n : Nat) : Option Nat := match s.store.rcd with
  | none => none
  | some r => match r.start with
    | none => none
    | some k =>
      if decide (k ≤ n + 2) && (match r.stop with
        | some e => decide (n + 2 < e)
        | none => true) then some r.take else none

/-- Frames that a take holds. -/
def Take.count (t : Take) : Nat := t.blocks.foldl (fun a b => a + b.frames.length) 0

/-- Bytes of a frame of a take. [DEDUCED, log 22] -/
def Take.frameBytes (t : Take) : Nat := t.spt * t.chans.length * sampleBytes t.width

/-- Whether a further frame of a take fits the store (R833). -/
def State.frameFits (s : State) (t : Take) : Bool := decide (t.frameBytes ≤ s.storeFree)

/-- Record frame n at its flip, rounded to the take's width and saturated (R122, R830, R831); `x` gives the samples
of a recording channel.  A frame that does not fit the store is not in the take (R833). -/
def State.record (s : State) (n : Nat) (x : Nat → List Int) : State :=
  match (s.recordsIn n).bind s.take with
  | none => s
  | some t =>
    if !s.frameFits t then s
    else
      let r := s.holdBytes t.nand (t.bytes + t.frameBytes)
      (r.2.modTake t.num fun t =>
        { t.add n (t.chans.map fun c => (x c).map (toIntW (8 * sampleBytes t.width))) with nand := r.1 }).showStore

/-- RECORDING_GAP: the newest frame was not handed over in time; it is stored as silence (R831). -/
def doRecGap (s : State) : State := match s.store.rcd with
  | none => s
  | some r => s.modTake r.take fun t => match t.blocks.getLast? with
    | none => t
    | some b =>
      let i := b.frames.length - 1
      let silent := (b.frames.getLast?.getD []).map (fun c => c.map (fun _ => (0 : Int)))
      { t with blocks := t.blocks.dropLast ++
        [{ b with gap := b.gap ||| 2 ^ i, frames := b.frames.dropLast ++ [silent] }] }

/-- Whether the recording has frames to program: a whole block of 64, or frames whose journal record is due within
250 ms of the last (R827, R831). [DESIGN CHOICE, log 87] -/
def State.recWaits (s : State) : Bool := match s.store.rcd with
  | none => false
  | some r =>
    let n := ((s.take r.take).map Take.count).getD 0
    decide (r.done / 64 < n / 64) || (decide (r.done < n) && decide (r.at_ + 250000000 ≤ s.run + s.tickNs))

/-- The waiting recording work is served at a boundary: frames are programmed, and their journal record is written
(R824, R826, R827). -/
def State.serveRec (s : State) : State :=
  if s.recWaits then match s.store.rcd with
    | none => s
    | some r =>
      let n := ((s.take r.take).map Take.count).getD 0
      ({ s with store := { s.store with rcd := some { r with done := n, at_ := s.run } } } : State).journal
  else s

/-- STORE_FULL: the take ends at the last frame that fits (R833). -/
def doStoreFull (s : State) : State := match s.store.rcd with
  | none => s
  | some r =>
    if (s.take r.take).any (fun t => s.frameFits t) then s else
    let last := ((s.take r.take).map Take.lastFrame).getD 0
    (((({ s with store := { s.store with rcd := none } }).journal).showStore).log 0x0709 (le 4 r.take ++ le 8 last))

/-! ### Playback (R834 to R837) -/

/-- Whether a take's key still fits (R883). -/
def State.playKeyOk (s : State) (t : Take) : Bool := match t.enc with
  | none => true
  | some (slot, check) => match s.recKey slot with
    | none => false
    | some k => keyCheck k.key t.num == check

/-- Rate of the open playback sessions in bytes per second. -/
def State.playRate (s : State) : Nat :=
  s.store.plays.foldl (fun a e =>
    a + ((s.take e.2.take).map (fun t => s.byteRate (e.2.map.filter (fun c => c != 65535)).length t.width)).getD 0) 0

/-- PLAY_OPEN (R828, R829, R834, R883, R890). -/
def playOpenRes (d : Desc) (s : State) : Res :=
  let map := u16s d.buf
  let live := map.filter (fun c => c != 65535)
  match s.take d.a0 with
  | none => badDesc s 48
  | some t =>
    if 8 ≤ d.a1 then badDesc s 52
    else if d.buf.length ≠ 2 * t.chans.length then badDesc s 32
    else match firstBadIdx map (fun c => c == 65535 || decide (c < s.cap 2048)) with
    | some i => badBuf s i
    | none =>
      if s.medium = 0 || s.medium = 3 || s.inStandby then failRes s stRefused
      else if (mapGet s.store.plays d.a1).isSome then failRes s stBusy
      else match s.store.plays.find? (fun e => e.2.map.any (fun c => live.contains c)) with
      | some e => failRes s stConflict (le 2 e.1)
      | none =>
        if t.enc.isSome && s.rd Reg.SEC.STATUS.CRYPTO == 2 then failRes s stRefused
        else if !s.playKeyOk t then failRes s stDenied
        else if s.rd Reg.STORE.PERF.RD * 600000 < s.playRate + s.byteRate live.length t.width then
          failRes s stNoBandwidth
        else
          let x : PlayS := { take := d.a0, map := map }
          okRes ({ s with store := { s.store with plays := mapSet s.store.plays d.a1 x } }).showStore

/-- PLAY_START (R835): a session that plays is silent from the command until its new boundary.
[DESIGN CHOICE, log 106] -/
def playStartRes (d : Desc) (s : State) : Res :=
  if 8 ≤ d.a1 then badDesc s 52
  else if 1000000000 ≤ d.a2 then badDesc s 56
  else match mapGet s.store.plays d.a1 with
    | none => badDesc s 52
    | some x =>
      let k := s.boundaryOf d 2
      okRes { s with store := { s.store with
        plays := mapSet s.store.plays d.a1 { x with start := some k, p0 := d.a3, running := false } } } (le 8 k)

/-- PLAYBACK_START: at T(k) the samples take their presentation times (R835). -/
def doPlayStart (n : Nat) (s : State) : State := match mapGet s.store.plays n with
  | none => s
  | some x => match x.start with
    | none => s
    | some k =>
      if s.tick < k then s
      else { s with store := { s.store with plays := mapSet s.store.plays n { x with running := true } } }

/-- PLAY_STOP: the session ends at the named boundary (R848, Table 17.2). -/
def playStopRes (d : Desc) (s : State) : Res :=
  if 8 ≤ d.a1 then badDesc s 52
  else if 1000000000 ≤ d.a2 then badDesc s 56
  else match mapGet s.store.plays d.a1 with
    | none => badDesc s 52
    | some x =>
      let k := s.boundaryOf d 0
      okRes { s with store := { s.store with plays := mapSet s.store.plays d.a1 { x with stop := some k } } }

/-- Sessions whose stop boundary has come end. -/
def State.stopTick (s : State) : State :=
  let left := s.store.plays.filter fun e => match e.2.stop with
    | some k => decide (s.tick < k)
    | none => true
  if left.length = s.store.plays.length then s
  else ({ s with store := { s.store with plays := left } }).showStore

/-- The take position that session x presents as sample i of frame n (R835). -/
def PlayS.posAt (x : PlayS) (spt n i : Nat) : Option Nat := match x.start with
  | none => none
  | some k => if n < k then none else some (x.p0 + (n - k) * spt + i)

/-- At a boundary, the blocks of a take that running sessions come to are read (R822, R834). [DESIGN CHOICE, log 87] -/
def State.playTick (s : State) : State :=
  s.stopTick.store.plays.foldl (fun (a : State) (_, x) =>
    match s.take x.take, x.posAt s.spt s.tick 0 with
    | some t, some p =>
      let f := p / t.spt
      if f % 64 < max 1 (ceilDiv s.spt t.spt) || x.start = some s.tick then a.readPages t.nand (f / 64 * 64 * t.frameBytes) (64 * t.frameBytes)
      else a
    | _, _ => a) s.stopTick

/-- The sample of a take at a channel place and position, with whether it is good: a gap frame and the
space outside the take are silence (R831, R835). -/
def Take.sample (t : Take) (c p : Nat) : Int × Bool :=
  let f := p / t.spt
  match t.blocks[f / 64]? with
  | none => (0, true)
  | some b =>
    match b.frames[f % 64]? with
    | none => (0, true)
    | some x => (atD (atD x c []) (p % t.spt) 0,
      t.bad.all fun w => !w.1.contains c || decide (p < w.2.1) || decide (w.2.1 + w.2.2 ≤ p))

/-- Whether position p of a session plays its true sample. -/
def PlayS.goodAt (x : PlayS) (t : Take) (c p : Nat) : Bool :=
  (t.sample c p).2 && x.missing.all (fun m => decide (p < m.1) || decide (m.1 + m.2 ≤ p))

/-- Samples back from p to the last position of the other kind, at most `n`. -/
def runLength (same : Nat → Bool) : Nat → Nat → Nat
  | 0, _ => 0
  | n + 1, p => if same p then (if p = 0 then n + 1 else 1 + runLength same n (p - 1)) else 0

/-- The sample that a session plays at a position, with the fade and the ramp of R836 and R837. -/
def PlayS.play (x : PlayS) (t : Take) (c p : Nat) : Int :=
  if x.goodAt t c p then
    let r := runLength (x.goodAt t c) 256 p
    let v := (t.sample c p).1
    if 256 ≤ r || p + 1 = r then v else roundDiv (v * r) 256
  else
    let j := runLength (fun q => !x.goodAt t c q) 32 p
    if 32 ≤ j || p < j then 0 else roundDiv ((t.sample c (p - j)).1 * (32 - j)) 32

/-- A citation of an entry 0x0704, if the silt log holds one of that number. -/
def State.citesBad (s : State) (cite : Option Nat) : Option Nat :=
  cite.filter fun n => s.silt.any fun e => e.seq == n && e.code == 0x0704

/-- PLAYBACK_LEAD_EXHAUSTED: the samples from the position that now plays are concealed (R837). -/
def doLeadOut (n count : Nat) (cite : Option Nat) (s : State) : State := match mapGet s.store.plays n with
  | none => s
  | some x => match x.posAt s.spt s.tick 0 with
    | none => s
    | some p =>
      ({ s with store := { s.store with
        plays := mapSet s.store.plays n { x with missing := x.missing ++ [(p, count)] } } }).siltWrite 0x0705
        (le 1 n ++ le 4 count) (s.citesBad cite)

/-- TAKE_LIST (R848): the layout of an entry is not stated. -/
def takeListRes (_ : Desc) (s : State) : Res :=
  okRes s (le 4 s.store.takes.length)
    (s.store.takes.map (fun t => Config.listEntry ([t.num, t.width, t.lastFrame] ++ t.chans))).flatten

/-- TAKE_DELETE (R838). -/
def takeDeleteRes (d : Desc) (s : State) : Res :=
  match s.take d.a0 with
  | none => badDesc s 48
  | some t =>
    if s.medium ≠ 1 then failRes s stRefused
    else if (s.store.rcd.map (fun r => r.take)) = some d.a0 || s.store.plays.any (fun e => e.2.take == d.a0) then
      failRes s stBusy
    else okRes ((((s.setTakes (s.store.takes.filter (fun t => t.num != d.a0))).eraseAll t.nand).journal).showStore)

/-! ### The medium (R814 to R827) -/

/-- Show the spare pool, and make the store read-only below 0.5 % (R819). -/
def State.showSpare (s : State) : State :=
  let v := if s.store.good = 0 then 0 else s.store.spare * 10000 / s.store.good
  let s1 := s.wr Reg.STORE.BLK.SPARE v
  if v < 50 && s.medium = 1 then (s1.wr Reg.STORE.STAT.STATE 2).siltWrite 0x0708 (le 4 v) else s1

/-- STORE_FORMAT (R817, R819, R838): `good` and `bad` are what the markers show, `mib` what the medium
then offers.  What is armed or open but does not run goes with the takes and files. [DEDUCED, log 71] -/
def storeFormatRes (good : Nat) (bad : List Nat) (mib : Nat) (_ : Desc) (s : State) : Res :=
  if s.medium = 0 || s.medium = 2 || s.storeRuns || s.store.install.isSome then failRes s stRefused
  else
    let s1 := { s with store := { s.store with
      formatted := true, good := good, total := good + bad.length, bad := bad, blocks := [], spare := good * 2 / 100, journal := 0,
      files := [], pend := [], takes := [], rcd := none, plays := [], mib := mib, grown := 0 } }
    let s2 := ((s1.wr Reg.STORE.STAT.STATE 1).wrSat Reg.STORE.CAP.MIB mib).wr Reg.STORE.BLK.GROWN 0
    okRes ((s2.showSpare).showWear).showStore (le 8 (min mib (2 ^ 22 - 1)))

/-- CODEWORD_TIMEOUT: a codeword is uncorrectable (R815, R836). [DEDUCED, log 71] -/
def doCodeword (chan ce block page : Nat) (use : CwUse) (s : State) : State :=
  let s1 := (s.count Reg.STORE.ECCCNT.UNCORR).siltWrite 0x0704 (le 1 chan ++ le 1 ce ++ le 4 block ++ le 4 page)
  match use with
  | .idle => s1
  | .file n k =>
    s1.setFiles (s1.store.files.map (fun f =>
      if f.name = n && !f.corrupt.contains k then { f with corrupt := f.corrupt ++ [k] } else f))
  | .take num places first count =>
    s1.modTake num (fun t => { t with bad := t.bad ++ [(places, first, count)] })

/-- PROGRAM_FAILURE: a grown bad block; its data goes into another block (R818, R819). -/
def doProgramFail (chan ce block : Nat) (s : State) : State :=
  let s0 := { s with store := { s.store with
    bad := if s.store.bad.contains block then s.store.bad else s.store.bad ++ [block]
    blocks := mapErase s.store.blocks block
    spare := s.store.spare - 1, grown := s.store.grown + 1 } }
  let s1 := match s0.freeBlk false with
    | some f => if (s.blk block).used then (s0.useBlk f).rehome block f else s0
    | none => s0
  ((((s1.wrSat Reg.STORE.BLK.GROWN s1.store.grown).siltWrite 0x0703 (le 1 chan ++ le 1 ce ++ le 4 block)).journal).showSpare).showWear

/-- Work of the NAND engine, in its order of priority (R824). -/
inductive NandWork where
  | recording | playback | file | refresh | wear | scrub
  deriving DecidableEq, Repr

/-- Priority of work: 0 is served first (R824). -/
def NandWork.prio : NandWork → Nat
  | .recording => 0
  | .playback => 1
  | .file => 2
  | .refresh => 3
  | .wear => 4
  | .scrub => 5

/-- Whether a block is due for a refresh: marked, or read too often (R816, R822). -/
def State.refreshDue (s : State) (x : NandBlk) : Bool :=
  x.used && (x.refresh || decide (s.rd Reg.STORE.RDLIM.LIMIT ≤ x.reads))

/-- The least-erased block whose data is to be moved: the erase counts of the blocks in use differ by more than
WDIFF (R821). -/
def State.wearDue (s : State) : Option Nat :=
  let used := s.store.blocks.filter (fun e => e.2.used)
  let lo := used.foldl (fun a e => min a e.2.erases) ((used.head?.map (fun e => e.2.erases)).getD 0)
  let hi := used.foldl (fun a e => max a e.2.erases) 0
  if s.rd Reg.STORE.NCFG.WDIFF < hi - lo then (used.find? (fun e => e.2.erases == lo)).map Prod.fst else none

/-- Whether a written block is due for a scrub: SCRUB days since its last write or scrub (R823). -/
def State.scrubDue (s : State) (x : NandBlk) : Bool :=
  x.used && decide (x.seen + s.rd Reg.STORE.NCFG.SCRUB * 86400000000000 ≤ s.run)

/-- A session whose lead has run out waits for its reads (R834, R837). -/
def State.playWaits (s : State) : Bool := s.store.plays.any fun e =>
  match e.2.posAt s.spt s.tick 0 with
  | some p => e.2.running && e.2.missing.any fun m => decide (m.1 ≤ p) && decide (p < m.1 + m.2)
  | none => false

/-- The work that waits at the NAND engine (R824). [DESIGN CHOICE, log 87] -/
def State.nandQueue (s : State) : List NandWork :=
  let w (b : Bool) (x : NandWork) : List NandWork := if b then [x] else []
  let fileOps : List Nat := [0x89, 0x8A, 0x8B, 0x98]
  let file := (List.range 16).any fun r =>
    (s.ring r).run.isNone && ((s.ring r).fetched.head?.map fun x => fileOps.contains x.opcode).getD false
  w s.recWaits .recording ++ w s.playWaits .playback ++ w file .file ++
    w (s.store.blocks.any fun e => s.refreshDue e.2) .refresh ++ w s.wearDue.isSome .wear ++
    w (s.store.blocks.any fun e => s.scrubDue e.2) .scrub

/-- Whether the engine serves work now: nothing of a higher priority waits (R824). -/
def State.nandServes (s : State) (x : NandWork) : Bool := s.nandQueue.all fun y => decide (x.prio ≤ y.prio)

/-- BLOCK_REFRESH: a marked block, or one read too often, is copied and erased (R816, R822, R824). -/
def doRefresh (b : Nat) (s : State) : State :=
  if s.refreshDue (s.blk b) && s.nandServes .refresh then s.moveBlk b false else s

/-- WEAR_MOVE: static wear levelling (R821, R824). -/
def doWearMove (s : State) : State := match s.wearDue with
  | some b => if s.nandServes .wear then s.moveBlk b true else s
  | none => s

/-- NAND_SCRUB: a written block is read; `stage` is 0 hard, 1 read-retry, 2 soft, 3 undecoded, which
CODEWORD_TIMEOUT counts and logs (R814 to R816, R822 to R824). -/
def doNandScrub (b corrected stage : Nat) (s : State) : State :=
  let x := s.blk b
  let mark := stage = 2 || s.rd Reg.STORE.NCFG.RTHR < corrected
  let s1 := s.setBlk b { x with reads := x.reads + s.blockBytes / 16384, refresh := x.refresh || mark, seen := s.run }
  if !(s.scrubDue x && s.nandServes .scrub) then s
  else if stage = 1 then s1.count Reg.STORE.ECCCNT.RETRY
  else if stage = 2 then s1.count Reg.STORE.ECCCNT.SOFT
  else s1

/-- JOURNAL_CHECKPOINT: the map is checkpointed to NAND (R827). -/
def doCheckpoint (s : State) : State := { s with store := { s.store with journal := 0 } }

/-- STORE_MOUNT: the replay has ended; a take that a reset cut is closed (R827, Table 19.3). [DEDUCED, log 12] -/
def doMount (targets wr rd result : Nat) (s : State) : State :=
  if !s.on Reg.STORE.STAT.JRN then s
  else
    let st := if targets = 0 then 0 else if !s.store.formatted then 3 else 1
    let s1 := (((s.put Reg.STORE.STAT.JRN false).wr Reg.STORE.STAT.STATE st).wrSat Reg.STORE.STAT.TARGETS
      (min targets 16)).wrSat Reg.STORE.PERF.WR wr
    let s2 := (s1.wrSat Reg.STORE.PERF.RD rd).siltWrite 0x0701 (le 4 s.store.journal ++ le 1 result)
    let s3 := match s2.store.cut with
      | none => s2
      | some _ => ({ s2 with store := { s2.store with cut := none } }).siltWrite 0x0902 []
    let s4 := (s3.wrSat Reg.STORE.CAP.MIB s.store.mib).wrSat Reg.STORE.BLK.GROWN s.store.grown
    (((s4.showSpare).showWear).showStore)

/-! ### Signed objects and the boot slots (R842 to R847, R857, R858) -/

/-- The verification of a signed object: 0, or the reason code of `SEC.STATUS.REASON` (R858). -/
def objCheck (typ ctr : Nat) (b : List Byte) : Nat :=
  let part (o n : Nat) : List Byte := (b.drop o).take n
  let zero (o n : Nat) : Bool := (part o n).all (fun x => x == 0)
  let len := rdLe b 16 4
  if b.length < 512 + len || rdLe b 0 4 ≠ 0x4F4E4B46 || rdLe b 4 4 ≠ 1 || rdLe b 8 1 ≠ typ || !zero 9 3 ||
      !zero 14 2 || !zero 165 3 || !zero 364 148 then 1
  else if !Config.ecdsaVerify Config.rootKey (Config.sha384 (part 68 104)) (part 172 96) then 2
  else if !Config.ecdsaVerify (part 68 97) (Config.sha384 (part 0 268)) (part 268 96) then 3
  else if part 20 48 ≠ Config.sha384 (part 512 len) then 4
  else if rdLe b 12 2 < ctr then 5
  else 0

/-- SVN of an object. -/
def objSvn (b : List Byte) : Nat := rdLe b 12 2

/-- The Tilca object of a slot image, after the steward object (R857). -/
def tilcaObj (b : List Byte) : List Byte := b.drop (512 + rdLe b 16 4)

/-- The verification of an image: object type (1 steward, 2 Tilca) and reason of the first failure. -/
def State.imageCheck (s : State) (b : List Byte) : Option (Nat × Nat) :=
  let a := objCheck 1 (s.rd Reg.SEC.SVN0.STEWARD) b
  let t := objCheck 2 (s.rd Reg.SEC.SVN0.TILCA) (tilcaObj b)
  if a ≠ 0 then some (1, a) else if t ≠ 0 then some (2, t) else none

/-- Whether a slot's install record is valid (R843). [DEDUCED, log 18] -/
def BootSlot.valid (x : BootSlot) : Bool :=
  rdLe x.record 0 4 == 1 && rdLe x.record 60 4 == (crc32c (x.record.take 60)).toNat &&
    (x.record.drop 12).take 48 == Config.sha384 (x.image.take (rdLe x.record 8 4))

/-- SEQ of a slot's record. -/
def BootSlot.seq (x : BootSlot) : Nat := rdLe x.record 4 4

/-- A boot slot: 0 A, 1 B. -/
def State.bootSlot (s : State) (i : Nat) : BootSlot := if i = 0 then s.store.slotA else s.store.slotB
/-- Set a boot slot and show its validity. -/
def State.setBootSlot (s : State) (i : Nat) (x : BootSlot) : State :=
  if i = 0 then ({ s with store := { s.store with slotA := x } }).put Reg.STORE.BOOT.AVALID x.valid
  else ({ s with store := { s.store with slotB := x } }).put Reg.STORE.BOOT.BVALID x.valid

/-- The install record of an image (R843). -/
def installRecord (seq : Nat) (image : List Byte) : List Byte :=
  let b := le 4 1 ++ le 4 seq ++ le 4 image.length ++ padTo 48 (Config.sha384 image)
  b ++ le 4 (crc32c b).toNat

/-- The SEQ of the next record: one above the highest valid one (R844). -/
def State.nextSeq (s : State) : Nat :=
  max (if s.store.slotA.valid then s.store.slotA.seq else 0) (if s.store.slotB.valid then s.store.slotB.seq else 0) + 1

/-- FW_INSTALL (R844, R845, R864): both objects are verified, then the slot is erased; PROGRESS is a free value
while it runs. [DESIGN CHOICE, log 18] -/
def fwInstallRes (d : Desc) (s : State) : Res :=
  if d.buf.length ≠ 32 then badDesc s 32
  else if s.store.install.isSome then failRes s stBusy
  else match s.file d.buf with
    | none => badBuf s 0
    | some f =>
      if s.rd Reg.SEC.STATUS.CRYPTO = 2 then failRes s stRefused
      else if !f.corrupt.isEmpty then failRes s stCorrupt
      else if 33550336 < f.data.length then badBuf s 0
      else match s.imageCheck f.data with
      | some _ => failRes (s.count Reg.SEC.CNT.SIGFAIL) stDenied
      | none =>
        let i := 1 - s.rd Reg.STORE.BOOT.BOOTED
        let s1 := s.setBootSlot i {}
        let (r, s2) := s1.fresh
        longRes (((({ s2 with store := { s2.store with install := some (i, f.data) } }).put
          Reg.STORE.BOOT.INSTALL true).wr Reg.STORE.BOOT.PROGRESS (min r 100)))

/-- FW_INSTALL_COMPLETE: the image is programmed and verified, the record written last (R844); an
image that does not verify leaves the slot without a record. [DEDUCED, log 18] -/
def doFwDone (verified : Bool) (s : State) : State := match s.store.install with
  | none => s
  | some (i, image) =>
    let s1 := (({ s with store := { s.store with install := none } }).put Reg.STORE.BOOT.INSTALL false).wr
      Reg.STORE.BOOT.PROGRESS 0
    if verified then
      let seq := s.nextSeq
      ((s1.setBootSlot i { image := image, record := installRecord seq image }).siltWrite 0x0707
        (le 1 i ++ le 4 seq)).finishOp 0x99 stOk (le 4 seq)
    else (s1.setBootSlot i { image := image }).finishOp 0x99 stCorrupt

/-- FW_STATUS (R848). -/
def fwStatusRes (_ : Desc) (s : State) : Res :=
  okRes s (le 1 (s.rd Reg.STORE.BOOT.BOOTED)) (padTo 64 s.store.slotA.record ++ padTo 64 s.store.slotB.record)

/-! ### The silt log's commands (R854, R855) -/

/-- The entries from a sequence number on, or from the oldest held (R854). -/
def State.siltFrom (s : State) (seq : Nat) : List SiltEntry :=
  let head := s.rd Reg.STORE.SILT.HEAD
  if (seq + 2 ^ 32 - head) % 2 ^ 32 < 2 ^ 31 then []
  else s.silt.filter (fun e => decide ((e.seq + 2 ^ 32 - seq) % 2 ^ 32 < 2 ^ 31))

/-- LOG_READ (R854). -/
def logReadRes (d : Desc) (s : State) : Res :=
  let es := (s.siltFrom d.a0).take (d.rlen / 32)
  okRes s (le 4 es.length) (es.map SiltEntry.bytes).flatten

/-- DEVSN, the device serial number. -/
def State.devSn (s : State) : Nat := s.rd Reg.SYS.SN_LO.SN + s.rd Reg.SYS.SN_HI.SN * 2 ^ 32

/-- A signed silt log (R855). -/
def State.siltExport (s : State) (es : List SiltEntry) (first : Nat) : List Byte :=
  let h := le 4 0x544C4953 ++ le 4 1 ++ le 8 s.devSn ++ le 4 first ++ le 4 es.length ++ le 6 s.secs ++
    le 4 (s.ns % 1000000000) ++ le 30 0
  let body := h ++ (es.map SiltEntry.bytes).flatten
  body ++ padTo 96 (Config.deviceSign (Config.sha384 body))

/-- LOG_EXPORT (R855, Table 17.2). -/
def logExportRes (d : Desc) (s : State) : Res :=
  if 2 ≤ d.a2 then badDesc s 56
  else if d.a2 = 1 && d.buf.length ≠ 32 then badDesc s 32
  else if s.rd Reg.SEC.STATUS.CRYPTO = 2 then failRes s stRefused
  else
    let all := s.siltFrom d.a0
    let es := if d.a1 = 0 then all else all.take d.a1
    let first := (es.head?.map (fun e => e.seq)).getD d.a0
    let b := s.siltExport es first
    let done (a : State) : State := a.siltWrite 0x070A (le 4 first ++ le 4 es.length)
    if d.a2 = 1 then
      match s.fileBar d.buf b.length with
      | some st => failRes s st
      | none => okRes (done (s.putFile d.buf b)) (le 4 es.length)
    else okRes (done s) (le 4 es.length) b

/-! ### Rows -/

/-- REC_ARM (R829). -/
def execRecArm (d : Desc) (s : State) : Out := .next (bufferCmd 0x80 roleO d (recArmRes d) s)
/-- REC_START (R830). -/
def execRecStart (d : Desc) (s : State) : Out := .next (storeCmd 0x81 roleO d (recStartRes d) s)
/-- RECORDING_START (R830). -/
def execRecordingStart (s : State) : Out := .next (doRecStart s)
/-- REC_STOP (R830). -/
def execRecStop (d : Desc) (s : State) : Out := .next (storeCmd 0x82 roleO d (recStopRes d) s)
/-- RECORDING_STOP (R830). -/
def execRecordingStop (s : State) : Out := .next (doRecStop s)
/-- RECORDING_GAP (R831). -/
def execRecordingGap (s : State) : Out := .next (doRecGap s)
/-- STORE_FULL (R833). -/
def execStoreFull (s : State) : Out := .next (doStoreFull s)
/-- PLAY_OPEN (R834). -/
def execPlayOpen (d : Desc) (s : State) : Out := .next (bufferCmd 0x83 roleO d (playOpenRes d) s)
/-- PLAY_START (R835). -/
def execPlayStart (d : Desc) (s : State) : Out := .next (storeCmd 0x84 roleO d (playStartRes d) s)
/-- PLAYBACK_START (R835). -/
def execPlaybackStart (n : Nat) (s : State) : Out := .next (doPlayStart n s)
/-- PLAY_STOP (R848). -/
def execPlayStop (d : Desc) (s : State) : Out := .next (storeCmd 0x85 roleO d (playStopRes d) s)
/-- PLAYBACK_LEAD_EXHAUSTED (R837). -/
def execPlaybackLeadExhausted (n samples : Nat) (cite : Option Nat) (s : State) : Out :=
  .next (doLeadOut n samples cite s)
/-- TAKE_LIST (R848). -/
def execTakeList (d : Desc) (s : State) : Out := .next (storeCmd 0x86 roleO d (takeListRes d) s)
/-- TAKE_DELETE (R838). -/
def execTakeDelete (d : Desc) (s : State) : Out := .next (storeCmd 0x87 roleO d (takeDeleteRes d) s)
/-- STORE_FORMAT (R817). -/
def execStoreFormat (d : Desc) (good : Nat) (bad : List Nat) (mib : Nat) (s : State) : Out :=
  .next (storeCmd 0x88 roleE d (storeFormatRes good bad mib d) s)
/-- FILE_WRITE (R840). -/
def execFileWrite (d : Desc) (s : State) : Out := .next (storeCmd 0x89 roleE d (pieceRes d) s)
/-- FILE_READ (R848). -/
def execFileRead (d : Desc) (s : State) : Out := .next (storeCmd 0x8A roleE d (fileReadRes d) s)
/-- FILE_DELETE (R848). -/
def execFileDelete (d : Desc) (s : State) : Out := .next (storeCmd 0x8B roleE d (fileDeleteRes d) s)
/-- FILE_LIST (R848). -/
def execFileList (d : Desc) (s : State) : Out := .next (storeCmd 0x8C roleE d (fileListRes d) s)
/-- PENDING_VERSION_TIMEOUT (R841). -/
def execPendingVersionTimeout (name : List Byte) (s : State) : Out := .next (doPendTimeout name s)
/-- LOG_READ (R854). -/
def execLogRead (d : Desc) (s : State) : Out := .next (hostCmd 0x90 roleM d (logReadRes d) s)
/-- LOG_EXPORT (R855). -/
def execLogExport (d : Desc) (s : State) : Out := .next (storeCmd 0x91 roleM d (logExportRes d) s)
/-- FW_STAGE (R841). -/
def execFwStage (d : Desc) (s : State) : Out := .next (storeCmd 0x98 roleX d (pieceRes d) s)
/-- FW_INSTALL (R844). -/
def execFwInstall (d : Desc) (s : State) : Out := .next (storeCmd 0x99 roleX d (fwInstallRes d) s)
/-- FW_INSTALL_COMPLETE (R844). -/
def execFwInstallComplete (verified : Bool) (s : State) : Out := .next (doFwDone verified s)
/-- FW_STATUS (R848). -/
def execFwStatus (d : Desc) (s : State) : Out := .next (hostCmd 0x9A roleX d (fwStatusRes d) s)
/-- CODEWORD_TIMEOUT (R815). -/
def execCodewordTimeout (chan ce block page : Nat) (use : CwUse) (s : State) : Out :=
  .next (doCodeword chan ce block page use s)
/-- PROGRAM_FAILURE (R818). -/
def execProgramFailure (chan ce block : Nat) (s : State) : Out := .next (doProgramFail chan ce block s)
/-- BLOCK_REFRESH (R816). -/
def execBlockRefresh (block : Nat) (s : State) : Out := .next (doRefresh block s)
/-- WEAR_MOVE (R821). -/
def execWearMove (s : State) : Out := .next (doWearMove s)
/-- NAND_SCRUB (R823). -/
def execNandScrub (block corrected stage : Nat) (s : State) : Out := .next (doNandScrub block corrected stage s)
/-- JOURNAL_CHECKPOINT (R827). -/
def execJournalCheckpoint (s : State) : Out := .next (doCheckpoint s)
/-- STORE_MOUNT (R827). -/
def execStoreMount (targets wr rd result : Nat) (s : State) : Out := .next (doMount targets wr rd result s)

end Sys2Proof.Machine
end

