-- ==== Sys2Proof/Machine/Sec.lean ====
section
/-! DEFINITION. Security functions: the key store, signed scene files, tamper inputs, debug unlock and
the evaluated configuration (chapter 18). -/
namespace Sys2Proof.Machine

/-! ### Sessions -/

/-- Show the number of open sessions. -/
def State.showSessions (s : State) : State :=
  s.wrSat Reg.HOST.STAT.SESS (s.host.sessions.filter Option.isSome).length

/-- End session n; commands that it started keep its key (R714). -/
def State.endSession (s : State) (n : Nat) : State :=
  ({ s with host := { s.host with sessions := s.host.sessions.set (n - 1) none } }).showSessions

/-- End every session that a test names. -/
def State.endSessions (s : State) (p : Session → Bool) : State :=
  ({ s with host := { s.host with
    sessions := s.host.sessions.map (fun (x : Option Session) => if x.any p then none else x) } }).showSessions

/-! ### The evaluated configuration (R891) -/

/-- The settings of Table 18.4, row by row. [DEDUCED, log 55] -/
def State.evalRows (s : State) : List Bool :=
  [s.on Reg.HOST.CFG.REQ && s.on Reg.HOST.CTRL.LOCK,
   !s.on Reg.SEC.CFG.UNSIGNED,
   s.on Reg.SEC.CTRL.LOCK && s.on Reg.MOD.CTRL.LOCK && s.on Reg.TILCA.CTRL.LOCK,
   s.rd Reg.SEC.SVN0.STEWARD == s.rd Reg.SEC.RUNSVN.STEWARD && s.rd Reg.SEC.SVN0.TILCA == s.rd Reg.SEC.RUNSVN.TILCA,
   (List.range 4).all (fun p => !s.on (Reg.TIME.PORT.PCFG.EN p) ||
     (s.on (Reg.TIME.PORT.PCFG.AUTHREQ p) && s.on Reg.TIME.AUTH.EN)),
   s.strm.rx.all (fun e => e.2.state == 0 || e.2.state == 4 || e.2.auth) && s.strm.tx.all (fun e => e.2.state == 0 || e.2.auth),
   !s.on Reg.SEC.STATUS.DEBUG]

/-- Show EVAL; a change writes entry 0x0808.  `old` is the configuration before (R891). -/
def State.showEval (s old : State) : State :=
  let all := s.evalRows.all id
  if all = s.on Reg.SEC.STATUS.EVAL then s
  else
    let row := ((s.evalRows.zip old.evalRows).findIdx? (fun x => x.1 != x.2)).getD 0
    (s.put Reg.SEC.STATUS.EVAL all).siltWrite 0x0808 (le 1 (Config.settingCode row))

/-! ### The key store (R869 to R876) -/

/-- Whether a key slot exists (Table 18.2). -/
def keySlotOk (cls slot : Nat) : Bool :=
  match cls with
  | 1 => slot == 0
  | 2 => decide (slot < 8)
  | 3 => slot == 0
  | 4 => decide (slot < 64)
  | 5 => decide (slot < 16)
  | _ => false

/-- Length of a class's key material in bytes. -/
def keyLen (cls : Nat) : Nat := if cls ≤ 2 then 97 else if cls = 5 then 64 else 32

/-- A stored key by class, slot and position. [DEDUCED, log 16] -/
def State.keyAt (s : State) (cls slot pos : Nat) : Option KeyRec :=
  s.sec.keys.find? (fun k => k.cls == cls && k.slot == slot && k.pos == pos)

/-- The KEK: where it is absent, one is generated (R869). -/
def State.needKek (s : State) : State := match s.sec.kek with
  | some _ => s
  | none =>
    let (n, s1) := s.fresh
    { s1 with sec := { s1.sec with kek := some (padTo 32 (Config.drbgKey 255 n)) } }

/-- A key as the key store region holds it: wrapped under the KEK (R870). -/
def State.wrapped (s : State) (k : KeyRec) : Option (List Byte) := s.sec.kek.map fun e => Config.aesKw e k.key

/-- Put a key in its place; the first one generates the KEK (R869). -/
def State.putKey (s0 : State) (k : KeyRec) : State :=
  let s := s0.needKek
  let rest := s.sec.keys.filter (fun x => !(x.cls == k.cls && x.slot == k.slot && x.pos == k.pos))
  (({ s with sec := { s.sec with keys := rest ++ [k] } }).put Reg.SEC.STATUS.KEK true).siltWrite 0x0803
    (le 1 k.cls ++ le 1 k.slot ++ le 1 k.id)

/-- Erase the KEK and with it every key of the security engine (R885, R889); cause as in 0x0805. -/
def State.eraseKeys (s : State) (cause : Nat) : State :=
  (({ s with sec := { s.sec with keys := [], kek := none, active := [], kekCause := cause } }).put
    Reg.SEC.STATUS.KEK false).count Reg.SEC.CNT.ZEROISE

/-- Whether a latched tamper input with ACTION 1 bars new keys (R886). -/
def State.tamperBar (s : State) : Bool :=
  (List.range 4).any fun i => (s.rd Reg.BKUP.TAMPSTAT.LATCH).testBit i &&
    (s.rd ⟨Reg.BKUP.TAMPCFG.ACTION0.off, 8 * i + 2, 1⟩) == 1

/-- Commands that need cryptography are refused after a failed self-test (R890). -/
def State.cryptoDown (s : State) : Bool := s.rd Reg.SEC.STATUS.CRYPTO == 2

/-- KEY_IMPORT (R872, R873, R886). [DEDUCED, log 16] -/
def keyImportRes (d : Desc) (s : State) : Res :=
  if d.a0 = 0 || 4 < d.a0 then badDesc s 48
  else if !keySlotOk d.a0 d.a1 then badDesc s 52
  else if 2 ≤ d.a2 || (d.a2 = 1 && d.a0 ≤ 2) then badDesc s 56
  else if 256 ≤ d.a3 then badDesc s 60
  else if s.cryptoDown || s.tamperBar then failRes s stRefused
  else
    let put (key : List Byte) : Res := okRes (s.putKey { cls := d.a0, slot := d.a1, pos := d.a2, id := d.a3, key := key })
    if d.a0 ≤ 2 then
      if d.a0 = 1 && d.session = 0 && (s.keyAt 1 0 0).isSome then failRes s stDenied
      else if d.buf.length ≠ keyLen d.a0 then badDesc s 32
      else put d.buf
    else if d.session = 0 then failRes s stDenied
    else
      let skey := match (s.ring d.ring).run with
        | some x => x.key
        | none => []
      match Config.gcmOpen skey d.ring d.seq d.buf with
      | none => failRes s stDenied
      | some key => if key.length ≠ keyLen d.a0 then badDesc s 32 else put key

/-- Whether a key is in use (R876). -/
def State.keyBusy (s : State) (k : KeyRec) : Bool :=
  (k.cls == 4 && mapGet s.sec.active k.slot == some k.id &&
    s.strm.tx.any (fun e => e.2.state != 0 && e.2.auth && e.2.keyset == k.slot)) ||
  (k.cls == 3 && s.on Reg.TIME.AUTH.EN && s.rd Reg.TIME.AUTH.KEYID == k.id)

/-- KEY_DELETE (R876). -/
def keyDeleteRes (d : Desc) (s : State) : Res :=
  if d.a0 = 0 || 5 < d.a0 then badDesc s 48
  else if !keySlotOk d.a0 d.a1 then badDesc s 52
  else if 2 ≤ d.a2 then badDesc s 56
  else match s.keyAt d.a0 d.a1 d.a2 with
    | none => badDesc s 52
    | some k =>
      if s.keyBusy k then failRes s stBusy
      else
        okRes (({ s with sec := { s.sec with keys := s.sec.keys.filter (fun x => x != k) } }).siltWrite 0x0803
          (le 1 k.cls ++ le 1 k.slot ++ le 1 k.id))

/-- KEY_GEN (R874, R882, R886). [DESIGN CHOICE, log 2] -/
def keyGenRes (d : Desc) (s : State) : Res :=
  if 16 ≤ d.a1 then badDesc s 52
  else if s.cryptoDown || s.tamperBar then failRes s stRefused
  else
    let (n, s1) := s.fresh
    let key := padTo 64 (Config.drbgKey d.a1 n)
    okRes (s1.putKey { cls := 5, slot := d.a1, pos := 0, id := 0, key := key }) (le 4 (keyCheck key 0))

/-- KEY_ACTIVATE (R875). -/
def keyActivateRes (d : Desc) (s : State) : Res :=
  if 64 ≤ d.a1 then badDesc s 52
  else match s.keyById 4 d.a1 d.a3 with
    | none => badDesc s 60
    | some _ => okRes { s with sec := { s.sec with active := mapSet s.sec.active d.a1 d.a3 } }

/-- KEY_LIST (R871): the layout of an entry is not stated. -/
def keyListRes (_ : Desc) (s : State) : Res :=
  okRes s (le 4 s.sec.keys.length) (s.sec.keys.map (fun k => Config.listEntry [k.cls, k.slot, k.pos, k.id])).flatten

/-! ### Anti-rollback and tokens (R865 to R868, R877) -/

/-- Highest SVN of the loaded plan's custom kernels (R866). -/
def State.kernelSvn (s : State) : Nat := match s.plan.image with
  | none => 0
  | some p => (p.custom.map objSvn).foldl max 0

/-- The counter that a number names, and the most that a commit may set (R866). -/
def State.svnOf (s : State) (i : Nat) : Fld × Nat :=
  if i = 0 then (Reg.SEC.SVN0.STEWARD, s.rd Reg.SEC.RUNSVN.STEWARD)
  else if i = 1 then (Reg.SEC.SVN0.TILCA, s.rd Reg.SEC.RUNSVN.TILCA)
  else (Reg.SEC.SVN1.KERNEL, s.kernelSvn)

/-- SVN_COMMIT (R866). -/
def svnCommitRes (d : Desc) (s : State) : Res :=
  if 3 ≤ d.a0 then badDesc s 48
  else
    let f := (s.svnOf d.a0).1
    let top := (s.svnOf d.a0).2
    let old := s.rd f
    if d.a1 < old || top < d.a1 then failRes s stRefused
    else if d.a1 = old then okRes s
    else okRes (((s.wr f d.a1).siltWrite 0x0802 (le 1 d.a0 ++ le 4 old ++ le 4 d.a1)).showEval s)

/-- TOKEN_GEN (R877). -/
def tokenGenRes (d : Desc) (s : State) : Res :=
  if d.a0 ≤ s.rd Reg.SEC.TOKGEN.GEN then okRes s
  else okRes ((s.wr Reg.SEC.TOKGEN.GEN d.a0).endSessions (fun x => decide (x.gen < d.a0)))

/-- DEVID_CERT (R868). -/
def devidCertRes (_ : Desc) (s : State) : Res :=
  let c := Config.deviceCert.take 1024
  okRes s (le 2 c.length) c

/-! ### Signed scene and show files (R879 to R881) -/

/-- The record length that a count of items makes (R405). -/
def recLen (n : Nat) : Nat := 64 + 16 * n + 4

/-- The records of a file's body, at most `n`, as their bytes. -/
def splitRecs : Nat → List Byte → List (List Byte)
  | 0, _ => []
  | n + 1, b =>
    if b.length < 68 then []
    else
      let l := recLen (rdLe b 8 4)
      b.take l :: splitRecs n (b.drop l)

/-- The items of a record's bytes; none where one is invalid (R967, Table 7.3). -/
def recItems (b : List Byte) : Option (Tbl Nat) :=
  let n := rdLe b 8 4
  (pieces 16 n ((b.drop 64).take (16 * n))).foldl (fun (a : Option (Tbl Nat)) i =>
    match a with
    | none => none
    | some t => if i.length < 16 then a else match itemKey (itemOf i) with
      | none => none
      | some k => some (putItem t k (itemOf i).value)) (some [])

/-- The first 8 bytes of the SHA-384 of a public key (Table 18.3). -/
def signerOf (key : List Byte) : Nat := rdLe (Config.sha384 key) 0 8

/-- Whether a scene or show file's signature holds (R879, R880). -/
def State.sceneSigOk (s : State) (b : List Byte) : Bool :=
  let signer := rdLe b 20 8
  let len := 64 + rdLe b 28 4
  if signer = 0 then s.on Reg.SEC.CFG.UNSIGNED && b.length == len
  else
    match s.sec.keys.find? (fun k => k.cls == 2 && signerOf k.key == signer) with
    | none => false
    | some k => b.length == len + 96 &&
        Config.ecdsaVerify k.key (Config.sha384 (b.take len)) ((b.drop len).take 96)

/-- Whether the header of a scene or show file is well formed (Table 18.3). -/
def sceneHeadOk (b : List Byte) : Bool :=
  let kind := rdLe b 8 1
  let n := rdLe b 10 2
  decide (64 ≤ b.length) && rdLe b 0 4 == 0x464E4353 && rdLe b 4 4 == 1 &&
    ((kind == 1 && n == 1) || (kind == 2 && decide (1 ≤ n) && decide (n ≤ 256))) && rdLe b 9 1 == 0 &&
    ((b.drop 32).take 32).all (fun x => x == 0)

/-- SCENE_IMPORT (R880): the checks of the file, then as SCENE_RECALL. -/
def sceneImportRes (d : Desc) (s : State) : Res :=
  if d.buf.length ≠ 32 then badDesc s 32
  else if s.cryptoDown then failRes s stRefused
  else match s.file d.buf with
    | none => badBuf s 0
    | some f =>
      let b := f.data
      let sn := rdLe b 12 8
      if !f.corrupt.isEmpty then failRes s stCorrupt
      else if !sceneHeadOk b then failRes s stDenied
      else if !s.sceneSigOk b then failRes (s.count Reg.SEC.CNT.SIGFAIL) stDenied
      else if (sn ≠ 0 && sn ≠ s.devSn) || rdLe b 10 2 ≤ d.a1 then failRes s stDenied
      else if s.names d = 2 then failRes s stBusy
      else if s.names d ≠ 1 then failRes s stNoTxn
      else
        match (splitRecs 256 ((b.drop 64).take (rdLe b 28 4)))[d.a1]? with
        | none => failRes s stCorrupt
        | some r =>
          let n := recLen (rdLe r 8 4) - 4
          if rdLe r 4 4 ≠ s.planCrc then failRes s stMismatch (le 4 (rdLe r 4 4))
          else if rdLe r n 4 ≠ (crc32c (r.take n)).toNat then failRes s stCorrupt
          else match recItems r with
            | none => failRes s stCorrupt
            | some items => recallItems s items

/-- The bytes of a KIND 1 file of one record, signed with the device identity key (R881). -/
def sceneFile (r : SceneRec) : List Byte :=
  let body := recBytes r ++ le 4 r.crc.toNat
  let h := le 4 0x464E4353 ++ le 4 1 ++ le 1 1 ++ le 1 0 ++ le 2 1 ++ le 8 0 ++
    le 8 (signerOf Config.devicePublicKey) ++ le 4 body.length ++ le 32 0
  h ++ body ++ padTo 96 (Config.deviceSign (Config.sha384 (h ++ body)))

/-- The record of the PREPARED undercoat of the open slot (R405, R881). -/
def State.openRec (s : State) (id : Nat) : SceneRec :=
  let r : SceneRec := {
    planCrc := s.planCrc, txnId := id, name := [], secs := s.secs, nsecs := s.ns % 1000000000
    items := s.txn.items, crc := 0, first := 0, blocks := 0 }
  { r with crc := crc32c (recBytes r) }

/-- SCENE_EXPORT (R881). -/
def sceneExportRes (d : Desc) (s : State) : Res :=
  if d.buf.length ≠ 32 then badDesc s 32
  else if s.cryptoDown then failRes s stRefused
  else
    let put (r : SceneRec) : Res :=
      let b := sceneFile r
      match s.fileBar d.buf b.length with
      | some st => failRes s st
      | none => okRes (s.putFile d.buf b) (le 4 b.length)
    if d.a0 = 0 then
      match (if d.a1 < 256 then mapGet s.txn.scenes d.a1 else none) with
      | none => badDesc s 52
      | some r => put r
    else if s.names d ≠ 1 then failRes s stNoTxn
    else if s.os ≠ osPrepared then failRes s stNotPrepared
    else put (s.openRec d.a0)

/-! ### Tamper, zeroisation and debug (R884 to R889) -/

/-- A field of TAMPCFG for input i, at bit `b` of its byte. -/
def tampFld (i b w : Nat) : Fld := ⟨Reg.BKUP.TAMPCFG.EN0.off, 8 * i + b, w⟩

/-- TAMPER_TRIP: an enabled input held its active level for FILT samples (R884, R885). [DEDUCED, log 14] -/
def doTamper (i : Nat) (s : State) : State :=
  if 4 ≤ i || !s.on (tampFld i 0 1) then s
  else
    let act := s.rd (tampFld i 2 1)
    let latch := s.rd Reg.BKUP.TAMPSTAT.LATCH
    let s1 := (s.wr Reg.BKUP.TAMPSTAT.LATCH (latch ||| 2 ^ i)).wr
      ⟨Reg.BKUP.TAMPSTAT.LEVEL.off, 4 + i, 1⟩ (s.rd (tampFld i 1 1))
    let s2 := if act = 1 then s1.eraseKeys 1 else s1
    if s.on Reg.BKUP.STATUS.ONVBAT then
      { s2 with sec := { s2.sec with trips := s2.sec.trips ++ [(i, act)] } }
    else
      let s3 := if act = 1 then s2.endSessions (fun _ => true) else s2
      (s3.count Reg.SEC.CNT.TAMPER).siltWrite 0x0804 (le 1 i ++ le 1 act)

/-- TAMPER_CLEAR (R886): `levels` are the present levels of TAMPER[3:0]. -/
def tamperClearRes (levels : Nat) (_ : Desc) (s : State) : Res :=
  let s1 := s.wr Reg.BKUP.TAMPSTAT.LEVEL (levels % 16)
  let active := (List.range 4).any fun i =>
    s.on (tampFld i 0 1) && (if levels.testBit i then 1 else 0) == s.rd (tampFld i 1 1)
  if active then failRes s1 stRefused else okRes (s1.wr Reg.BKUP.TAMPSTAT.LATCH 0)

/-- ZEROISE (R889): step 1 without the scene store, and every session closed. [DEDUCED, log 14] -/
def zeroiseRes (_ : Desc) (s : State) : Res := okRes ((s.eraseKeys 2).endSessions (fun _ => true))

/-- DEBUG_CHALLENGE (R888). -/
def debugChallengeRes (_ : Desc) (s : State) : Res :=
  if s.cryptoDown then failRes s stRefused
  else
    let (n, s1) := s.fresh
    let c := le 8 s.devSn ++ le 32 n ++ le 4 (s.rd Reg.HOST.SCTR_LO.CTR) ++ le 4 (s.rd Reg.HOST.SCTR_HI.CTR)
    okRes { s1 with sec := { s1.sec with challenge := some c } } [] c

/-- Erase the scene blocks and both directories (R889). -/
def State.eraseScenes (s : State) : State :=
  ((({ s with txn := { s.txn with scenes := [], dirSeq := 0, dirCopy := 0, prevDir := (0, []) } }).wr Reg.TXN.SCENE.USED 0).wr
    Reg.TXN.SCENE.FREE sceneBlocks).wr Reg.TXN.SCSEQ.SEQ 0

/-- DEBUG_UNLOCK (R888, R889): the signature covers the latest challenge. -/
def debugUnlockRes (d : Desc) (s : State) : Res :=
  if d.buf.length ≠ 96 then badDesc s 32
  else if s.on Reg.TICK.CFG.PLAN || s.cryptoDown then failRes s stRefused
  else match s.sec.challenge with
    | none => failRes s stDenied
    | some c =>
      if !Config.ecdsaVerify Config.debugKey (Config.sha384 c) d.buf then failRes s stDenied
      else
        let s1 := ((s.eraseKeys 2).eraseScenes).siltWrite 0x0806 ((c.drop 8).take 8)
        let s2 := ({ s1 with sec := { s1.sec with challenge := none } }).put Reg.SEC.STATUS.DEBUG true
        okRes (s2.showEval s)

/-! ### Rows -/

/-- SCENE_IMPORT (R880). -/
def execSceneImport (d : Desc) (s : State) : Out := .next (storeCmd 0x8D roleE d (sceneImportRes d) s)
/-- SCENE_EXPORT (R881). -/
def execSceneExport (d : Desc) (s : State) : Out := .next (storeCmd 0x8E roleE d (sceneExportRes d) s)
/-- KEY_IMPORT (R872). -/
def execKeyImport (d : Desc) (s : State) : Out := .next (hostCmd 0xA0 roleX d (keyImportRes d) s)
/-- KEY_DELETE (R876). -/
def execKeyDelete (d : Desc) (s : State) : Out := .next (hostCmd 0xA1 roleX d (keyDeleteRes d) s)
/-- KEY_GEN (R874). -/
def execKeyGen (d : Desc) (s : State) : Out := .next (hostCmd 0xA2 roleX d (keyGenRes d) s)
/-- KEY_ACTIVATE (R875). -/
def execKeyActivate (d : Desc) (s : State) : Out := .next (hostCmd 0xA3 roleX d (keyActivateRes d) s)
/-- KEY_LIST (R871). -/
def execKeyList (d : Desc) (s : State) : Out := .next (hostCmd 0xA4 roleX d (keyListRes d) s)
/-- SVN_COMMIT (R866). -/
def execSvnCommit (d : Desc) (s : State) : Out := .next (hostCmd 0xA5 roleX d (svnCommitRes d) s)
/-- TOKEN_GEN (R877). -/
def execTokenGen (d : Desc) (s : State) : Out := .next (hostCmd 0xA6 roleX d (tokenGenRes d) s)
/-- DEVID_CERT (R868). -/
def execDevidCert (d : Desc) (s : State) : Out := .next (hostCmd 0xA7 roleX d (devidCertRes d) s)
/-- TAMPER_CLEAR (R886). -/
def execTamperClear (d : Desc) (levels : Nat) (s : State) : Out :=
  .next (hostCmd 0xA8 roleX d (tamperClearRes levels d) s)
/-- ZEROISE (R889). -/
def execZeroise (d : Desc) (s : State) : Out := .next (hostCmd 0xA9 roleX d (zeroiseRes d) s)
/-- DEBUG_CHALLENGE (R888). -/
def execDebugChallenge (d : Desc) (s : State) : Out := .next (hostCmd 0xAA roleX d (debugChallengeRes d) s)
/-- DEBUG_UNLOCK (R889). -/
def execDebugUnlock (d : Desc) (s : State) : Out := .next (hostCmd 0xAB roleX d (debugUnlockRes d) s)
/-- TAMPER_TRIP (R885). -/
def execTamperTrip (i : Nat) (s : State) : Out := .next (doTamper i s)

end Sys2Proof.Machine
end

