-- ==== Sys2Proof/Machine/HostIf.lean ====
section
/-! DEFINITION. The host interface: indices, fetches and their deadlines, completions and events that
wait, the host-link reset, and sessions (chapter 14). -/
namespace Sys2Proof.Machine

/-! ### Indices (R682 to R684) -/

/-- `a - b` of two free-running 16-bit indices (R682). -/
def idxSub (a b : Nat) : Nat := (a % 65536 + 65536 - b % 65536) % 65536

/-- A producer index learned for CMDr (R684); a disabled ring learns none. [DEDUCED, log 17] -/
def State.learnCmd (s : State) (r new : Nat) : State :=
  let g := s.ring r
  if 16 ≤ r || !s.on (Reg.HOST.RING.CFG.EN r) || new % 65536 = g.cmdP then s
  else if idxSub new g.cmdC ≤ s.ringSize r && idxSub g.cmdP g.cmdC < idxSub new g.cmdC then
    s.setRing r { g with cmdP := new % 65536 }
  else s.put (Reg.HOST.RING.STAT.BADIDX r) true

/-- A consumer index learned for CPLr (R684). [DEDUCED, log 17] -/
def State.learnCpl (s : State) (r new : Nat) : State :=
  let g := s.ring r
  if 16 ≤ r || !s.on (Reg.HOST.RING.CFG.EN r) || new % 65536 = g.cplC then s
  else if idxSub new g.cplC ≤ idxSub g.cplP g.cplC then
    pumpUnknown 4 r ((s.setRing r { g with cplC := new % 65536 }).showFull r)
  else s.put (Reg.HOST.RING.STAT.BADIDX r) true

/-- A consumer index learned for EVT (R684). [DEDUCED, log 17] -/
def State.learnEvt (s : State) (new : Nat) : State :=
  let h := s.host
  if new % 65536 = h.evC || !s.on Reg.HOST.EVCFG.EN then s
  else if idxSub new h.evC ≤ idxSub h.evP h.evC then { s with host := { h with evC := new % 65536 } }
  else s

/-- The link is up while it carries an access (`HOST.STAT.LINKUP`). [DEDUCED, log 17] -/
def State.linkSeen (s : State) : State := s.put Reg.HOST.STAT.LINKUP true

/-- DOORBELL_POLL: the page's indices are applied (R688, Table 14.2). -/
def doPoll (page : Doorbells) (s : State) : State :=
  if !s.on Reg.HOST.CFG.DBEN then s
  else
    let s1 := (List.range 16).foldl (fun (a : State) r =>
      match page.cmd[r]? with
      | some v => a.learnCmd r v
      | none => a) s.linkSeen
    let s2 := (List.range 16).foldl (fun (a : State) r =>
      match page.cpl[r]? with
      | some v => a.learnCpl r v
      | none => a) s1
    s2.learnEvt page.evt

/-- NUDGE: one index is applied; a TARGET above 32 is a violation (R689). -/
def doNudge (value : Word) (s : State) : State :=
  let t := getBits value 0 6
  let v := getBits value 16 16
  let s1 := s.linkSeen
  if t < 16 then s1.learnCmd t v
  else if t < 32 then s1.learnCpl (t - 16) v
  else if t = 32 then s1.learnEvt v
  else s1.violate .pcie

/-! ### Fetches (R691 to R694, R719 to R722) -/

/-- Fetched descriptors that a ring holds at most (R693). -/
def fetchHold : Nat := 4

/-- Descriptors that ring r may fetch now (R684, R693, R720). -/
def State.fetchable (s : State) (r : Nat) : Nat :=
  let g := s.ring r
  if s.on (Reg.HOST.RING.CFG.EN r) && !s.on (Reg.HOST.RING.STAT.HALT r) then
    min (idxSub g.cmdP g.cmdC) (fetchHold - g.fetched.length)
  else 0

/-- Whether ring r is the one that fetches next: CMD0 at once, the others in descending QoS order,
lower numbers first among equals (R693, R694). -/
def State.fetchTurn (s : State) (r : Nat) : Bool :=
  r == 0 ||
    (List.range 16).all fun q => q == 0 || q == r || s.fetchable q == 0 ||
      decide (s.rd (Reg.HOST.RING.CFG.QOS q) < s.rd (Reg.HOST.RING.CFG.QOS r)) ||
      (s.rd (Reg.HOST.RING.CFG.QOS q) == s.rd (Reg.HOST.RING.CFG.QOS r) && decide (r < q))

/-- A descriptor takes its ring, its index and the instant of its arrival from the fetch (R692). -/
def rawAt (x : RawDesc) (r i t : Nat) : RawDesc := { x with d := { x.d with ring := r, index := i % 65536, readAt := t } }

/-- DESCRIPTOR_FETCH (R691 to R693, R698): descriptors arrive with their input buffers. [DEDUCED, log 58] -/
def doFetch (r : Nat) (descs : List RawDesc) (s : State) : State :=
  if 16 ≤ r || !s.fetchTurn r then s
  else
    let g := s.ring r
    let got := (descs.take (s.fetchable r)).zipIdx.map (fun (x, i) => rawAt x r (g.cmdC + i) s.run)
    let c := (g.cmdC + got.length) % 65536
    let s1 := (s.linkSeen.setRing r { g with fetched := g.fetched ++ got, cmdC := c }).wr
      (Reg.HOST.RING.STAT.CIDX r) c
    pumpUnknown 8 r { s1 with host := { s1.host with retried := s1.host.retried.filter (fun x => x != r) } }

/-- Place of a fetch kind in R719. -/
def fetchKindNo : FetchKind → Nat
  | .descriptor => 0
  | .input => 1
  | .response => 2
  | .completion => 3
  | .event => 4

/-- FETCH_DEADLINE (R720 to R722): `error` says whether the last attempt ended with an error completion; a request is
retried once; the tag of PCIE advances (R775). [DEDUCED, log 8] [DEDUCED, log 12] -/
def doDeadline (r : Nat) (kind : FetchKind) (error : Bool) (s : State) : State :=
  if 16 ≤ r then s
  else
    let timeouts := (s.host.retried.filter fun x => x == r).length
    let retries := if error || 0 < timeouts then 1 else 0
    let s0 := { s with host := { s.host with retried := s.host.retried.filter (fun x => x != r) } }
    let s1 := ((s0.count Reg.HOST.CNT.FTO).advanceGen 0 4).siltWrite 0x0401
      (le 1 r ++ le 1 (Config.fetchCode (fetchKindNo kind)) ++ le 4 timeouts ++ le 4 retries)
    match kind with
    | .descriptor => (s1.put (Reg.HOST.RING.STAT.HALT r) true).siltWrite 0x0403 []
    | .input | .response =>
      let res := le 1 (if kind = .response then 1 else 0) ++ le 1 (if error then 0 else 1)
      if (s1.ring r).run.isSome then s1.finish r stIoError res []
      else match (s1.ring r).fetched.head? with
        | some x =>
          if s1.mayStart r then (s1.start x.opcode x.d).finish r stIoError res [] else s1
        | none => s1
    | .completion | .event => s1

/-- PCIE_COMPLETION_TIMEOUT: it lies beneath the ring's fetch, whose request is retried once within the deadline, so that
at most two times out (R719, R722). [DEDUCED, log 8] -/
def doCplTimeout (r : Nat) (s : State) : State :=
  if 16 ≤ r || decide (2 ≤ (s.host.retried.filter fun x => x == r).length) then s
  else { s with host := { s.host with retried := s.host.retried ++ [r] } }

/-! ### Waiting completions and events -/

/-- Write held CPL0 completions while entries are free (R709). -/
def drainCpl0 : Nat → State → State
  | 0, s => s
  | n + 1, s =>
    match s.host.cpl0Held with
    | [] => s
    | c :: rest =>
      if s.cplFree 0 = 0 || !s.on (Reg.HOST.RING.CFG.EN 0) then s
      else drainCpl0 n (({ s with host := { s.host with cpl0Held := rest } }).writeCpl 0 c [] [] 0)

/-- The vectors owed in the tick that ends are signalled, once each (R696). -/
def State.signalTick (s : State) : State :=
  { s with host := { s.host with irqSent := s.host.irqDue, irqDue := [] } }

/-! ### Enabling and disabling rings (R687, R964) -/

/-- EN of a ring pair rises: all its indices are 0 and HALT is over (R687, R720). -/
def State.ringOn (s : State) (r : Nat) : State :=
  let s1 := s.setRing r { run := (s.ring r).run }
  ((s1.put (Reg.HOST.RING.STAT.HALT r) false).wr (Reg.HOST.RING.STAT.CIDX r) 0).showFull r

/-- EN of a ring pair is written 0: it stops at once (R964). -/
def State.ringOff (s : State) (r : Nat) : State :=
  let g := s.ring r
  let s1 := s.setRing r { g with fetched := [], run := g.run.map (fun x => { x with drop := true }) }
  let s2 := if r = 0 then { s1 with host := { s1.host with cpl0Held := [] } } else s1
  s2.showFull r

/-- EN of the event ring rises: its indices are 0 (R687). -/
def State.evtOn (s : State) : State := { s with host := { s.host with evP := 0, evC := 0 } }

/-! ### The host-link reset (R679) -/

/-- HOST_LINK_RESET: the host interface alone is reset (R679), and its matrix port closes out (R742). [DEDUCED, log 12] -/
def doLinkReset (kind : LinkReset) (s : State) : State :=
  let s1 := (List.range 16).foldl (fun (a : State) r => a.ringOff r) s
  let s2 := if s1.os = osOpen || s1.os = osPrepared then s1.discardOpen 2 else s1
  let req := s2.rd Reg.HOST.CFG.REQ
  let lo := s2.rd Reg.HOST.SCTR_LO.CTR
  let hi := s2.rd Reg.HOST.SCTR_HI.CTR
  let s3 := (s2.endSessions (fun _ => true)).resetRange 0x140000 0x150000
  let s4 := ((s3.wr Reg.HOST.CFG.REQ req).wr Reg.HOST.SCTR_LO.CTR lo).wr Reg.HOST.SCTR_HI.CTR hi
  let s5 := (s4.put Reg.HOST.STAT.LOCKED s4.host.lockHard).put Reg.HOST.STAT.LINKUP (kind != .linkLoss)
  let s6 := { s5 with host := { s5.host with irqDue := [], irqSent := [], retried := [] } }
  ((doMasterReset 0 s6).log 0x0402 []).showEval s

/-! ### Sessions (R712 to R714) -/

/-- The value of the session counter. -/
def State.sctr (s : State) : Nat := s.rd Reg.HOST.SCTR_LO.CTR + s.rd Reg.HOST.SCTR_HI.CTR * 2 ^ 32

/-- Whether a session request satisfies R712, but for the count of open sessions. -/
def State.requestOk (s : State) (b : List Byte) : Bool :=
  let part (o n : Nat) : List Byte := (b.drop o).take n
  let before := rdLe b 16 8
  let after := rdLe b 24 8
  b.length == 440 && rdLe b 0 1 == 1 && rdLe b 2 2 % 2 == 0 &&
    (part 129 15).all (fun x => x == 0) && (part 337 7).all (fun x => x == 0) &&
    (match s.keyAt 1 0 0 with
      | some k => Config.ecdsaVerify k.key (Config.sha384 (part 0 144)) (part 144 96)
      | none => false) &&
    rdLe b 8 8 == s.devSn && decide (s.rd Reg.SEC.TOKGEN.GEN ≤ rdLe b 4 4) &&
    (!s.on Reg.TIME.STATUS.STEPPED ||
      ((before == 0 || decide (before ≤ s.secs)) && (after == 0 || decide (s.secs ≤ after)))) &&
    Config.ecdsaVerify (part 32 97) (Config.sha384 (part 0 344 ++ le 8 s.sctr)) (part 344 96)

/-- SESSION_OPEN (R712, R713). [DESIGN CHOICE, log 2] [DEDUCED, log 16] -/
def sessionOpenRes (d : Desc) (s : State) : Res :=
  let b := d.buf
  if s.cryptoDown then failRes s stRefused
  else if !s.requestOk b then failRes s stDenied
  else match s.host.sessions.findIdx? Option.isNone with
    | none => failRes s stDenied
    | some i =>
      let (r, s1) := s.fresh
      let ctr := (s.sctr + 1) % 2 ^ 64
      let own := padTo 97 (Config.ephemeralKey r)
      let peer := (b.drop 240).take 97
      let x : Session := {
        roles := rdLe b 1 1, gen := rdLe b 4 4, mask := rdLe b 2 2, notAfter := rdLe b 24 8
        key := Config.sessionKey (peer ++ own) (i + 1) ctr, seqs := List.replicate 16 0 }
      let s2 := (s1.wr Reg.HOST.SCTR_LO.CTR (ctr % 2 ^ 32)).wr Reg.HOST.SCTR_HI.CTR (ctr / 2 ^ 32)
      let s3 := ({ s2 with host := { s2.host with sessions := s2.host.sessions.set i (some x) } }).showSessions
      okRes s3 (le 2 (i + 1) ++ le 6 0 ++ le 6 (rdLe b 24 8))
        (own ++ le 7 0 ++ padTo 96 (Config.deviceSign (Config.sha384 (peer ++ own))))

/-- SESSION_CLOSE: only the session itself ends it (R714). [DEDUCED, log 16] -/
def sessionCloseRes (d : Desc) (s : State) : Res :=
  if d.a0 = 0 || 16 < d.a0 then badDesc s 48
  else if d.session ≠ d.a0 then failRes s stDenied
  else okRes (s.endSession d.a0)

/-- SESSION_EXPIRY: the local time reaches NOTAFTER (R714). -/
def doExpiry (n : Nat) (s : State) : State :=
  match atD s.host.sessions (n - 1) none with
  | none => s
  | some x => if n ≠ 0 && x.notAfter ≠ 0 && x.notAfter ≤ s.secs then s.endSession n else s

/-! ### The PCI Express endpoint (R674 to R678, R910) -/

/-- The configuration identity of the endpoint (R674 to R676, R678). -/
structure Endpoint where
  vendor : Nat
  device : Nat
  classCode : Nat
  functions : Nat
  lanes : Nat
  megaTransfers : Nat
  maxPayload : Nat
  maxRead : Nat
  tags : Nat
  cmd0Tags : Nat
  vectors : Nat
  bars : List (Nat × Nat)
  sriov : Bool
  ats : Bool
  aspmL0s : Bool
  aspmL1 : Bool
  deriving DecidableEq, Repr

/-- The KN9640's endpoint: the manual names the vendor ID as the one assigned to Finmir (R674 to R676, R678). -/
def endpoint : Endpoint :=
  { vendor := Config.vendorId, device := 0x9640, classCode := 0x048000, functions := 1, lanes := 4, megaTransfers := 16000
    maxPayload := 256, maxRead := 512, tags := 32, cmd0Tags := 1, vectors := 32
    bars := [(0, 0x4000000), (2, 0x100000)]
    sriov := false, ats := false, aspmL0s := false, aspmL1 := false }

/-- The answer to a configuration request: none is Configuration Request Retry Status, until the power state leaves
BOOT; a part that halts in its boot enumerates (R861, R910). [DEDUCED, log 85] -/
def State.configAnswer (s : State) : Option Endpoint :=
  if s.rd Reg.SYS.PWR.STATE = 0 && !s.pwr.halted then none else some endpoint

/-- What an aligned 32-bit read of BAR2 returns: the ring status, and zero at NUDGE and at an offset that nothing
maps; none for the MSI-X structures, whose contents the host and its bus define (R676, R677, Table 14.1).
[DEDUCED, log 85] -/
def State.readBar2 (s : State) (off : Nat) : Option Word :=
  if off % 4 ≠ 0 then some 0
  else if 0x80000 ≤ off && off < 0x80200 || off == 0x90000 then none
  else if 0x1000 ≤ off && off < 0x1080 && off % 8 = 0 then
    let g := s.ring ((off - 0x1000) / 8)
    some (BitVec.ofNat 32 (g.cmdC + g.cplP * 65536))
  else if off = 0x1080 then some (BitVec.ofNat 32 s.host.evP)
  else some 0

/-! ### Rows -/

/-- DESCRIPTOR_FETCH (R693). -/
def execDescriptorFetch (r : Nat) (descs : List RawDesc) (s : State) : Out := .next (doFetch r descs s)
/-- DOORBELL_POLL (R688). -/
def execDoorbellPoll (page : Doorbells) (s : State) : Out := .next (doPoll page s)
/-- NUDGE (R689). -/
def execNudge (value : Word) (s : State) : Out := .next (doNudge value s)
/-- FETCH_DEADLINE (R720). -/
def execFetchDeadline (r : Nat) (kind : FetchKind) (error : Bool) (s : State) : Out :=
  .next (doDeadline r kind error s)
/-- PCIE_COMPLETION_TIMEOUT (R719). -/
def execPcieCompletionTimeout (r : Nat) (_ : FetchKind) (s : State) : Out := .next (doCplTimeout r s)
/-- CPL0_COMPLETION_DRAIN (R709). -/
def execCpl0CompletionDrain (s : State) : Out := .next (drainCpl0 64 s)
/-- EVENT_QUEUE_DRAIN (R725). -/
def execEventQueueDrain (s : State) : Out := .next s.drainEvents
/-- HOST_LINK_RESET (R679). -/
def execHostLinkReset (kind : LinkReset) (s : State) : Out := .next (doLinkReset kind s)
/-- SESSION_OPEN (R712). -/
def execSessionOpen (d : Desc) (s : State) : Out := .next (hostCmd 0x01 0 d (sessionOpenRes d) s)
/-- SESSION_CLOSE (R714). -/
def execSessionClose (d : Desc) (s : State) : Out := .next (hostCmd 0x02 0 d (sessionCloseRes d) s)
/-- SESSION_EXPIRY (R714). -/
def execSessionExpiry (n : Nat) (s : State) : Out := .next (doExpiry n s)

end Sys2Proof.Machine
end

