-- ==== Sys2Proof/Machine/Dram.lean ====
section
/-! DEFINITION. The memory controller beside its data path: training, drift tracking, retraining,
frequency change and refresh (chapter 15). -/
namespace Sys2Proof.Machine

/-! ### Training (R751 to R754) -/

/-- The widest contiguous passing window of a sweep of 128 taps: its first tap and its width; of two as wide the
one of the lower taps (R752). [DESIGN CHOICE, log 86] -/
def widestWindow (pass : Nat) : Nat × Nat :=
  let r := (List.range 128).foldl (fun (a : (Nat × Nat) × Nat × Nat) k =>
    let (cur, best) := a
    let cur' : Nat × Nat := if pass.testBit k then (if cur.2 = 0 then (k, 1) else (cur.1, cur.2 + 1)) else (0, 0)
    (cur', if best.2 < cur'.2 then cur' else best)) ((0, 0), 0, 0)
  r.2

/-- The middle of a window of `n` taps from `a`: (first + last) / 2, the remainder discarded (R752). -/
def midTap (w : Nat × Nat) : Nat := (w.1 + (w.1 + w.2 - 1)) / 2

/-- Key of a byte lane's result: set, channel, lane. -/
def laneKey (set ch lane : Nat) : Nat := set * 16 + ch * 2 + lane

/-- The result of a byte lane: delays (first + last) / 2 with the remainder discarded, and windows (R752). -/
def laneResult (x : TrainLane) : List Nat :=
  let r := widestWindow x.rPass
  let w := widestWindow x.wPass
  [midTap r, midTap w, r.2, w.2]

/-- A byte lane's stored result; an untrained one has windows of 0 taps. -/
def State.laneOf (s : State) (set ch lane : Nat) : List Nat :=
  mapGetD s.dram.lanes (laneKey set ch lane) [0, 0, 0, 0]

/-- The smaller of a lane's two widest windows. -/
def narrow (l : List Nat) : Nat := min (l.getD 2 0) (l.getD 3 0)

/-- Whether a byte lane passed: its widest window is at least 16 taps (R753). -/
def State.lanePass (s : State) (set ch lane : Nat) : Bool := decide (16 ≤ narrow (s.laneOf set ch lane))

/-- Whether a channel is trained in a set. -/
def State.chPass (s : State) (set ch : Nat) : Bool := s.lanePass set ch 0 && s.lanePass set ch 1

/-- Whether a set is trained on every byte lane. -/
def State.setPass (s : State) (set : Nat) : Bool := (List.range 8).all fun c => s.chPass set c

/-- Show BL0 and BL1 of a channel in the set in use. -/
def State.showLanes (s : State) (c : Nat) : State :=
  let set := s.rd Reg.DRAM.STAT.SET
  let a := s.laneOf set c 0
  let b := s.laneOf set c 1
  let s1 := (((s.wr (Reg.DRAM.CH.BL0.RDLY c) (a.getD 0 0)).wr (Reg.DRAM.CH.BL0.WDLY c) (a.getD 1 0)).wr
    (Reg.DRAM.CH.BL0.RWIN c) (min 127 (a.getD 2 0))).wr (Reg.DRAM.CH.BL0.WWIN c) (min 127 (a.getD 3 0))
  (((s1.wr (Reg.DRAM.CH.BL1.RDLY c) (b.getD 0 0)).wr (Reg.DRAM.CH.BL1.WDLY c) (b.getD 1 0)).wr
    (Reg.DRAM.CH.BL1.RWIN c) (min 127 (b.getD 2 0))).wr (Reg.DRAM.CH.BL1.WWIN c) (min 127 (b.getD 3 0))

/-- Show a channel's training result. [DESIGN CHOICE, log 39] -/
def State.showTrained (s : State) (c : Nat) : State :=
  let f (l : Nat) : Nat := if s.lanePass 0 c l && s.lanePass 1 c l then 0 else 2 ^ l
  (((s.put (Reg.DRAM.CH.STAT.TRA c) (s.chPass 0 c)).put (Reg.DRAM.CH.STAT.TRB c) (s.chPass 1 c)).wr
    (Reg.DRAM.CH.STAT.FAIL c) (f 0 + f 1)).showLanes c

/-- Entry 0x0501 of each byte lane that failed: channel, byte lane, set, widest window. -/
def State.logFailures (s : State) : State :=
  (List.range 32).foldl (fun (a : State) k =>
    let set := k / 16
    let c := k % 16 / 2
    let l := k % 2
    if a.lanePass set c l then a
    else a.log 0x0501 (le 1 c ++ le 1 l ++ le 1 set ++ le 1 (narrow (a.laneOf set c l)))) s

/-- The sweeps of a byte lane in the attempts of its training, at most three; an attempt without one passes
nowhere (R753). -/
def laneSweeps (lanes : List TrainLane) (set ch lane : Nat) : List (List Nat) :=
  ((lanes.filter fun x => x.set == set && x.ch == ch && x.lane == lane).map laneResult).take 3

/-- The results of a channel's two byte lanes in a set: those of the first attempt in which both pass, else of the
last one (R752, R753). -/
def channelResult (lanes : List TrainLane) (set ch : Nat) : List Nat × List Nat :=
  let a := laneSweeps lanes set ch 0
  let b := laneSweeps lanes set ch 1
  let n := max a.length b.length
  let res (k : Nat) : List Nat × List Nat := (a.getD k [0, 0, 0, 0], b.getD k [0, 0, 0, 0])
  let ok (k : Nat) : Bool := decide (16 ≤ narrow (res k).1) && decide (16 ≤ narrow (res k).2)
  res (((List.range n).find? ok).getD (n - 1))

/-- The results of a training of both sets (R752, R753). -/
def State.trained (s : State) (lanes : List TrainLane) : State :=
  let t := (List.range 16).foldl (fun (m : Tbl (List Nat)) k =>
    let r := channelResult lanes (k / 8) (k % 8)
    mapSet (mapSet m (laneKey (k / 8) (k % 8) 0) r.1) (laneKey (k / 8) (k % 8) 1) r.2) []
  let s1 : State := { s with dram := { s.dram with lanes := t } }
  let s2 := (List.range 8).foldl (fun (a : State) c => a.showTrained c) s1
  ((s2.wr Reg.DRAM.STAT.STATE (if s2.setPass 0 then 2 else 3)).put Reg.DRAM.STAT.BOK
    (s2.setPass 1)).logFailures

/-- Installed MiB: 8 x ranks x density / 8 (R746); seven eighths usable with inline ECC (R748). -/
def State.dramMib (s : State) : Nat :=
  let n := (s.rd Reg.DRAM.CFG.RANKS + 1) * [4, 8, 12, 16].getD (s.rd Reg.DRAM.CFG.DENS) 16 * 1024
  if s.on Reg.DRAM.CFG.ECC then n * 7 / 8 else n

/-- DRAM_TRAINING_END: training at start-up ends (R751 to R753, R768). [DESIGN CHOICE, log 39] -/
def doTrainingEnd (lanes : List TrainLane) (s : State) : State :=
  if s.rd Reg.DRAM.STAT.STATE ≠ 1 then s
  else
    let s1 : State := { s with dram := { s.dram with ecc := s.on Reg.DRAM.CFG.ECC } }
    (s1.wr Reg.DRAM.SIZE.USABLE s1.dramMib).trained lanes

/-! ### Drift tracking (R755 to R757) -/

/-- Move a delay by at most one tap towards a target (R756). -/
def nudgeTap (d t : Nat) : Nat := if d < t then min 127 (d + 1) else if t < d then d - 1 else d

/-- A byte lane's delays after a burst. -/
def State.trackLane (s : State) (c l : Nat) (x : TrackLane) : State :=
  let set := s.rd Reg.DRAM.STAT.SET
  let v := s.laneOf set c l
  let v' := [nudgeTap (v.getD 0 0) ((x.rLo + x.rHi) / 2), nudgeTap (v.getD 1 0) ((x.wLo + x.wHi) / 2), v.getD 2 0, v.getD 3 0]
  { s with dram := { s.dram with lanes := mapSet s.dram.lanes (laneKey set c l) v' } }

/-- The smallest distance of a window edge from the current delays of a byte lane, 0 outside the window (R757). -/
def State.trackMargin (s : State) (c l : Nat) (x : TrackLane) : Nat :=
  let v := s.laneOf (s.rd Reg.DRAM.STAT.SET) c l
  let d := v.getD 0 0
  let w := v.getD 1 0
  min (min (d - x.rLo) (x.rHi - d)) (min (w - x.wLo) (x.wHi - w))

/-- The slack window of a DRAM port that holds the present instant: its length and what is left of it, in ns;
without a plan the whole tick is one. [DEDUCED, log 86] -/
def State.slackNow (s : State) (port : Nat) : Nat × Nat :=
  let o := s.ns % s.tickNs
  match (if s.on Reg.TICK.CFG.PLAN then s.plan.image else none) with
  | none => (s.tickNs, s.tickNs - o)
  | some p =>
    match p.slack.find? (fun w => w.1 == port && decide (w.2.1 ≤ o) && decide (o < w.2.1 + w.2.2)) with
    | some w => (w.2.2, w.2.1 + w.2.2 - o)
    | none => (0, 0)

/-- Whether a channel's tracking burst is due: PERIOD ms after the last, or after WAKE (R755, R920). -/
def State.trackDue (s : State) (c : Nat) : Bool :=
  s.dram.owed.contains c || match mapGet s.dram.lastTrk c with
    | some t => decide (t + s.rd Reg.DRAM.TRK.PERIOD * 1000000 ≤ s.run)
    | none => true

/-- TRACKING_BURST on a channel (R755 to R757, R920). -/
def doTracking (c : Nat) (l0 l1 : TrackLane) (s : State) : State :=
  if 8 ≤ c || !s.on Reg.DRAM.TRK.EN || s.rd Reg.DRAM.STAT.STATE ≠ 2 || s.on Reg.DRAM.STAT.RETRAIN || s.inStandby ||
      !s.trackDue c || decide ((s.slackNow (c / 2)).2 < 2000) then s
  else
    let s1 := (s.trackLane c 0 l0).trackLane c 1 l1
    let s2 : State := { s1 with dram := { s1.dram with
      lastTrk := mapSet s1.dram.lastTrk c s.run, owed := s1.dram.owed.filter fun x => x != c } }
    let m0 := s.trackMargin c 0 l0
    let m1 := s.trackMargin c 1 l1
    let low := min m0 m1
    let lane := if m0 ≤ m1 then 0 else 1
    let old := if s.rd (Reg.DRAM.CH.TRK.BURSTS c) = 0 then 255 else s.rd (Reg.DRAM.CH.TRK.MARGIN c)
    let s3 := ((s2.showLanes c).wrSat (Reg.DRAM.CH.TRK.MARGIN c) (min old low)).count (Reg.DRAM.CH.TRK.BURSTS c)
    let entry := le 1 c ++ le 1 lane ++ le 1 low
    if low ≤ 4 then
      if s.on (Reg.DRAM.CH.STAT.MARGINAL c) then s3
      else (s3.put (Reg.DRAM.CH.STAT.MARGINAL c) true).log 0x0502 entry
    else if 8 ≤ low && s.on (Reg.DRAM.CH.STAT.MARGINAL c) then
      (s3.put (Reg.DRAM.CH.STAT.MARGINAL c) false).log 0x0502 entry
    else s3

/-! ### Retraining and frequency change (R758 to R762) -/

/-- Whether a DMA channel runs. -/
def State.dmaRuns (s : State) : Bool :=
  (List.range 32).any fun c => [1, 2, 3].contains (s.rd (Reg.DMA.CH.STAT.STATE c))

/-- Quiesce: no plan loaded, no recording, playback or DMA channel runs (R758). -/
def State.quiesce (s : State) : Bool :=
  !s.on Reg.TICK.CFG.PLAN && !(match s.store.rcd with | some r => r.running | none => false) &&
    s.store.plays.all (fun p => !p.2.running) && !s.dmaRuns

/-- Rate of a timing set in MT/s. -/
def State.setRate (s : State) (set : Nat) : Nat :=
  [3200, 4267, 5500, 6400].getD (s.rd (if set = 0 then Reg.DRAM.CFG.RATEA else Reg.DRAM.CFG.RATEB)) 6400

/-- Rate in force. -/
def State.dramRate (s : State) : Nat := s.setRate (s.rd Reg.DRAM.STAT.SET)

/-- Whether a set is trained. -/
def State.setTrained (s : State) (set : Nat) : Bool :=
  if set = 0 then s.rd Reg.DRAM.STAT.STATE == 2 else s.on Reg.DRAM.STAT.BOK

/-- DRAM_RETRAIN (R758 to R760); REFUSED in STANDBY (R919). -/
def dramRetrainRes (d : Desc) (s : State) : Res :=
  if 2 < d.a0 then badDesc s 48
  else if s.inStandby then failRes s stRefused
  else if d.a0 = 0 then
    if !s.quiesce || s.on Reg.DRAM.STAT.RETRAIN || s.on Reg.DRAM.STAT.FREQBUSY then failRes s stRefused
    else longRes (({ s with dram := { s.dram with retrainAt := s.run } } : State).put Reg.DRAM.STAT.RETRAIN true)
  else
    let set := d.a0 - 1
    let low := match s.plan.image with
      | some p => s.setRate set < p.minRate
      | none => false
    if !s.setTrained set || low then failRes s stRefused
    else if s.rd Reg.DRAM.STAT.SET = set then okRes s
    else if s.on Reg.DRAM.STAT.FREQBUSY || s.on Reg.DRAM.STAT.RETRAIN then failRes s stRefused
    else longRes (({ s with dram := { s.dram with freq := some (set, d.readAt + 100000000) } } : State).put
      Reg.DRAM.STAT.FREQBUSY true)

/-- The response deadlines of the DRAM ports did not run during a full retrain (R733, R758). -/
def State.resumePorts (s : State) : State :=
  let later (x : BusTxn) : BusTxn :=
    if isDram x.target then { x with at_ := x.at_ + (s.run - max x.at_ s.dram.retrainAt) } else x
  { s with bus := { s.bus with granted := s.bus.granted.map later } }

/-- DRAM_RETRAIN_COMPLETE (R758): the result per channel and set, and the command completes. -/
def doRetrainComplete (lanes : List TrainLane) (s : State) : State :=
  if !s.on Reg.DRAM.STAT.RETRAIN then s
  else
    let s1 := (s.resumePorts.put Reg.DRAM.STAT.RETRAIN false).trained lanes
    let m (set : Nat) : Nat := ((List.range 8).map fun c => if s1.chPass set c then 2 ^ c else 0).sum
    (s1.log 0x0508 (le 1 (m 0) ++ le 1 (m 1))).finishOp 0x61 stOk

/-- Whether every DRAM port is in a slack window of at least 8 us that holds the 6.0 us of a change (R760, R761).
[DEDUCED, log 86] -/
def State.slackOk (s : State) : Bool :=
  (List.range 4).all fun q => decide (8000 ≤ (s.slackNow q).1) && decide (6000 ≤ (s.slackNow q).2)

/-- Show POSTMAX: the most postponed refreshes over the last 1,000 ms. -/
def State.showPost (s : State) : State :=
  let keep := s.dram.postLog.filter (fun x => decide (s.run - sec1 ≤ x.1))
  (({ s with dram := { s.dram with postLog := keep } } : State)).wr Reg.DRAM.REF.POSTMAX
    (keep.foldl (fun a x => max a x.2) (s.dram.post.foldl (fun a x => max a x.2) 0))

/-- The set in use changes (R761, Table 15.4); postponed refreshes are paid back and the duration
is a free value of at most 6.0 us.
[DESIGN CHOICE, log 39] -/
def State.switchSet (s : State) (set : Nat) : State :=
  let (r, s1) := s.fresh
  let old := s.rd Reg.DRAM.STAT.SET
  let paid := s.dram.post.map fun x => (s.run, x.2)
  let s2 : State := { s1 with dram := { s1.dram with freq := none, post := [], postLog := s1.dram.postLog ++ paid } }
  let s3 := (List.range 8).foldl (fun (a : State) c => a.showLanes c) (s2.showPost.wr Reg.DRAM.STAT.SET set)
  (s3.put Reg.DRAM.STAT.FREQBUSY false).log 0x0503 (le 1 old ++ le 1 set ++ le 4 (min r 6000))

/-- FREQUENCY_CHANGE in a slack window (R760, R761). [DESIGN CHOICE, log 39] -/
def doFreqChange (s : State) : State :=
  match s.dram.freq with
  | none => s
  | some (set, dl) => if s.slackOk && s.run < dl then (s.switchSet set).finishOp 0x61 stOk else s

/-- FREQUENCY_CHANGE_TIMEOUT: no window within 100 ms (R760). -/
def doFreqTimeout (s : State) : State :=
  match s.dram.freq with
  | none => s
  | some (_, dl) =>
    if s.run < dl then s
    else (({ s with dram := { s.dram with freq := none } } : State).put Reg.DRAM.STAT.FREQBUSY false).finishOp
      0x61 stDeferred

/-! ### Refresh (R764, R765) -/

/-- REFRESH_DUE on a rank, counted over the channels (R764). -/
def doRefreshDue (ch rk : Nat) (s : State) : State :=
  let rank := ch * (s.rd Reg.DRAM.CFG.RANKS + 1) + rk
  if 8 ≤ ch || s.rd Reg.DRAM.CFG.RANKS < rk || !s.rankWaits rank then s
  else
    let n := mapGetD s.dram.post rank 0
    if 8 ≤ n then s.count Reg.DRAM.REF.FORCED
    else (({ s with dram := { s.dram with
      post := mapSet s.dram.post rank (n + 1)
      postLog := s.dram.postLog ++ [(s.run, n + 1)] } } : State)).showPost

/-- REFRESH_PAYBACK of a rank (R765). -/
def doPayback (rank : Nat) (s : State) : State :=
  if s.rankWaits rank then s
  else (({ s with dram := { s.dram with
    post := mapErase s.dram.post rank
    postLog := match mapGet s.dram.post rank with
      | some n => s.dram.postLog ++ [(s.run, n)]
      | none => s.dram.postLog } } : State)).showPost

/-! ### Rows -/

/-- DRAM_TRAINING_END (R753). -/
def execDramTrainingEnd (lanes : List TrainLane) (s : State) : Out := .next (doTrainingEnd lanes s)
/-- TRACKING_BURST (R755). -/
def execTrackingBurst (c : Nat) (l0 l1 : TrackLane) (s : State) : Out := .next (doTracking c l0 l1 s)
/-- DRAM_FULL_RETRAIN (R758). -/
def execDramFullRetrain (d : Desc) (s : State) : Out := .next (hostCmd 0x61 roleE d (dramRetrainRes d) s)
/-- DRAM_FREQUENCY_CHANGE (R759). -/
def execDramFrequencyChange (d : Desc) (s : State) : Out :=
  .next (hostCmd 0x61 roleE d (dramRetrainRes d) s)
/-- DRAM_RETRAIN_COMPLETE (R758). -/
def execDramRetrainComplete (lanes : List TrainLane) (s : State) : Out := .next (doRetrainComplete lanes s)
/-- FREQUENCY_CHANGE (R761). -/
def execFrequencyChange (s : State) : Out := .next (doFreqChange s)
/-- FREQUENCY_CHANGE_TIMEOUT (R760). -/
def execFrequencyChangeTimeout (s : State) : Out := .next (doFreqTimeout s)
/-- REFRESH_DUE (R764). -/
def execRefreshDue (ch rank : Nat) (s : State) : Out := .next (doRefreshDue ch rank s)
/-- REFRESH_PAYBACK (R765). -/
def execRefreshPayback (rank : Nat) (s : State) : Out := .next (doPayback rank s)
/-- BUS_REQUEST (R729). -/
def execBusRequest (r : BusReq) (s : State) : Out := .next (doBusRequest r s)
/-- TARGET_GRANT (R735). -/
def execTargetGrant (t : Nat) (writes : Bool) (s : State) : Out := .next (doGrant t writes s)
/-- MASTER_RESET (R742). -/
def execMasterReset (m : Nat) (s : State) : Out := .next (doMasterReset m s)
/-- MASTER_PORT_CLOSED (R744). -/
def execMasterPortClosed (m : Nat) (s : State) : Out := .next (doPortClosed m s)

end Sys2Proof.Machine
end

