-- ==== Sys2Proof/Machine/Contain.lean ====
section
/-! DEFINITION. Fault containment: positions, self-tests, rotations, alternate schedules, and the two
dies (chapter 06). -/
namespace Sys2Proof.Machine

/-! ### Positions and roles -/

/-- LSTAT field of position l of cluster c: 0 active, 1 spare, 2 self-test, 3 retired. -/
def lstatFld (c l : Nat) : Fld := ⟨(Reg.LANE.CL.LSTAT.ST0 c).off, 2 * l, 2⟩
/-- ROLEMAP field of logical lane k of cluster c. -/
def roleFld (c k : Nat) : Fld := ⟨(Reg.LANE.CL.ROLEMAP.POS0 c).off, 4 * k, 4⟩

/-- The state of a position. -/
def State.lstat (s : State) (c l : Nat) : Nat := s.rd (lstatFld c l)
/-- The flat lane index of a position (R2). -/
def flatPos (c l : Nat) : Nat := c * 9 + l
/-- The position that holds a logical lane. -/
def State.posOf (s : State) (c k : Nat) : Nat := s.rd (roleFld c k)

/-- The positions of a cluster in a state, rising. -/
def State.positions (s : State) (c st : Nat) : List Nat := (List.range 9).filter (fun l => s.lstat c l == st)

/-- A position's further state. -/
def State.posS (s : State) (p : Nat) : PosS := mapGetD s.guard.pos p {}
/-- Set a position's further state. -/
def State.setPosS (s : State) (p : Nat) (x : PosS) : State :=
  { s with guard := { s.guard with pos := mapSet s.guard.pos p x } }
/-- A cluster's containment state. -/
def State.clS (s : State) (c : Nat) : ClusS := mapGetD s.guard.cl c {}
/-- Set a cluster's containment state. -/
def State.setClS (s : State) (c : Nat) (x : ClusS) : State :=
  { s with guard := { s.guard with cl := mapSet s.guard.cl c x } }

/-- The position that serves a repair: the lowest spare, else the lowest in self-test (R972). -/
def State.server (s : State) (c : Nat) : Option Nat :=
  match (s.positions c 1).head? with
  | some l => some l
  | none => (s.positions c 2).head?

/-- The position that takes a role after a refused replay, in the same order, but for positions that faulted in
the tick (R296, R298, R972). -/
def State.taker (s : State) (c : Nat) (bad : List Nat) : Option Nat :=
  let ok (l : Nat) : Bool := !bad.contains (flatPos c l)
  match ((s.positions c 1).filter ok).head? with
  | some l => some l
  | none => ((s.positions c 2).filter ok).head?

/-- Length of a lane self-test (R299). -/
def laneTestNs : Nat := 20000000

/-- Hold a silt entry for the next weir flip: what it concerns, and the codes of the lower-level entries that it may
follow from (R274, R360). -/
def State.hold (s : State) (code : Nat) (data : List Byte) (scope : Nat := 99) (cites : List Nat := []) : State :=
  { s with eng := { s.eng with logs := s.eng.logs ++ [⟨code, data, scope, cites⟩] } }

/-- The level of a containment entry (Table 6.6): 0 lane, 1 cluster and region, 2 die and all others. -/
def logLevel (code : Nat) : Nat := if code / 16 = 0x10 then 0 else if code / 16 = 0x11 then 1 else 2

/-- Whether a held entry follows from another of the frame: of a lower level, and of the same cluster or of a cluster of
its die. [DEDUCED, log 89] -/
def HeldLog.follows (h x : HeldLog) : Bool :=
  h.cites.contains x.code && (h.scope == x.scope || (decide (64 ≤ h.scope) && decide (x.scope < 32) && x.scope / 16 + 64 == h.scope))

/-- Write the held entries at the flip, each with its event, the lower levels first: an entry that follows from one of
them carries the sequence number of the last such entry (R360). [DEDUCED, log 89] -/
def State.flushLogs (s : State) : State :=
  let due := ([0, 1, 2].map fun v => s.eng.logs.filter fun h => logLevel h.code == v).flatten
  let r := due.foldl (fun (a : State × List (HeldLog × Nat)) h =>
    let seq := a.1.rd Reg.STORE.SILT.HEAD
    (a.1.log h.code h.data ((a.2.find? fun x => h.follows x.1).map fun x => x.2), (h, seq) :: a.2)) (s, [])
  { r.1 with eng := { r.1.eng with logs := [] } }

/-- Span mode. -/
def State.span (s : State) : Bool := s.rd Reg.GUARD.NODE.MODE == 2
/-- Duplex mode. -/
def State.duplex (s : State) : Bool := s.rd Reg.GUARD.NODE.MODE == 1

/-- The state field of a die: 0 IN, 1 REBUILD, 2 OUT, 3 RESET. -/
def dieFld (d : Nat) : Fld := if d = 0 then Reg.GUARD.NODE.CD0 else Reg.GUARD.NODE.CD1
/-- The state of a die. -/
def State.die (s : State) (d : Nat) : Nat := s.rd (dieFld d)
/-- A die's further state. -/
def State.dieS (s : State) (d : Nat) : DieS := if d = 0 then s.guard.die0 else s.guard.die1
/-- Set a die's further state. -/
def State.setDieS (s : State) (d : Nat) (x : DieS) : State :=
  if d = 0 then { s with guard := { s.guard with die0 := x } } else { s with guard := { s.guard with die1 := x } }

/-- Whether a die computes frame f. -/
def State.computes (s : State) (d f : Nat) : Bool :=
  s.die d == 0 && match (s.dieS d).restart with
    | some j => decide (j ≤ f)
    | none => true

/-- Whether a die gives engine service: it is in, and after a restart its first frame has been released (R969). -/
def State.serves (s : State) (d : Nat) : Bool := s.die d == 0 && (s.dieS d).back.all fun j => decide (j ≤ s.eng.relFrame)

/-- Whether the node has engine service: it runs a plan on at least one die (R336). -/
def State.service (s : State) : Bool := s.on Reg.TICK.STATUS.RUN && (s.serves 0 || s.serves 1)

/-- Show the redundancy summary (`GUARD.HEALTH`). -/
def State.showHealth (s : State) : State :=
  let noSpare := ((List.range 32).filter (fun c => (s.positions c 1).isEmpty)).length
  let alts := (List.range 8).foldl (fun a r => a + (if s.on (Reg.GUARD.ALT.ACTIVE r) then 2 ^ r else 0)) 0
  let in0 := s.rd Reg.GUARD.NODE.CD0 == 0
  let in1 := s.rd Reg.GUARD.NODE.CD1 == 0
  let duplex := s.rd Reg.GUARD.NODE.MODE == 1
  let s1 := s.wr Reg.GUARD.HEALTH.NOSPARE noSpare
  let s2 := s1.wr Reg.GUARD.HEALTH.RETIRED s.guard.retired.length
  let s3 := s2.wr Reg.GUARD.HEALTH.ALTREG alts
  let s4 := s3.put Reg.GUARD.HEALTH.SINGLE (duplex && (in0 != in1))
  let s5 := s4.put Reg.GUARD.HEALTH.AUTH s.holds
  s5.put Reg.GUARD.HEALTH.ENGINE s.service

/-- Put a position into self-test; its earlier count of failures is kept (R295 to R303). -/
def State.enterTest (s : State) (c l : Nat) : State :=
  let p := flatPos c l
  (s.wr (lstatFld c l) 2).setPosS p { s.posS p with testEnd := some (s.run + laneTestNs), passed := false }

/-- A position's self-test ends with no result, and its count of failures is kept; a SELFTEST of the lanes that waits
for it ends DEFERRED (R303, R309). -/
def State.abandonTest (s : State) (c l : Nat) : State :=
  let p := flatPos c l
  let s1 := s.setPosS p { s.posS p with testEnd := none, passed := false }
  if (s1.clS c).testPos = some l then
    (s1.setClS c { s1.clS c with testPos := none }).finishOp 0x60 stDeferred [] [] (fun d => d.a0 == 0 && d.a1 == c)
  else s1

/-- Give logical lane k of a cluster to a position (R295, R296, R303, R306). -/
def State.giveRole (s : State) (c k l : Nat) : State :=
  ((s.wr (roleFld c k) l).wr (lstatFld c l) 0).abandonTest c l

/-- Retire a position for good (R301, R302, R304); reason 0 self-test, 1 repeated faults. -/
def State.retire (s : State) (c l reason : Nat) : State :=
  let p := flatPos c l
  let s1 := (s.wr (lstatFld c l) 3).setPosS p { s.posS p with testEnd := none, passed := false }
  let s2 := { s1 with guard := { s1.guard with
    retired := if s1.guard.retired.contains p then s1.guard.retired else s1.guard.retired ++ [p] } }
  s2.hold 0x0106 (le 2 p ++ le 1 reason)

/-! ### Dies going out (R332 to R338, R968 to R970) -/

/-- A die's reload ends within 50 ms (R332). -/
def reloadNs : Nat := 50000000

/-- Abandon the self-tests of a die; they start again after the reload (R334). -/
def State.dropTests (s : State) (d : Nat) : State :=
  (s.guard.pos.filter fun e => e.1 / 144 == d).foldl (fun (a : State) e => a.abandonTest (e.1 / 9) (e.1 % 9)) s

/-- The lanes of a die stop: a die that is out computes nothing (R332). -/
def State.stopDie (s : State) (d : Nat) : State :=
  { s with lanes := { s.lanes with pos := s.lanes.pos.map fun e =>
      (e.1, if e.1 / 144 = d then { e.2 with halted := true, waiting := false, xfers := [], ran := false } else e.2) } }

/-- A cluster's memory tests end without a result: the commands complete DEFERRED (R311 gives no status for a test that a
die reset or a plan load cuts). [DESIGN CHOICE, log 90] -/
def State.dropMemTests (s : State) (c : Nat) : State :=
  let x := s.clS c
  if x.memTest.isEmpty && x.memEnd.isEmpty then s
  else (s.setClS c { x with memTest := [], memEnd := [] }).finishOp 0x60 stDeferred [] [] (fun d => d.a0 == 1 && d.a1 == c)

/-- The clusters of a die that is reset: no alternate schedule runs, and rotations and memory tests are abandoned (R334). -/
def State.resetClusters (s : State) (d : Nat) : State :=
  let s1 := (List.range 4).foldl (fun (a : State) r => a.put (Reg.GUARD.ALT.ACTIVE (d * 4 + r)) false) s
  (List.range 16).foldl (fun (a : State) n =>
    let b := a.dropMemTests (d * 16 + n)
    b.setClS (d * 16 + n) { b.clS (d * 16 + n) with rotating := none, alt := 0, faulted := false }) s1

/-- Reset a die with its die-link's matrix port, and start its reload (R332, R334, R742). -/
def State.dieReset (s0 : State) (d : Nat) (asked : Bool) : State :=
  let s := s0.resetClusters d
  let s1 := ((s.dropTests d).stopDie d).setDieS d { s.dieS d with
    reload := some (s.run + reloadNs), asked := asked, ready := false, restart := none, rebuild := none, ended := false, back := none }
  let s2 := (doMasterReset (7 + d) s1).wr (dieFld d) 3
  (s2.wr Reg.GUARD.NODE.RBTICKS 0).count
    (if d = 0 then Reg.GUARD.DIECNT.RESET0 else Reg.GUARD.DIECNT.RESET1)

/-- A held entry 0x0124 of a die takes a lower cause that holds as well (R970). -/
def lowerCause (d cause : Nat) (h : HeldLog) : HeldLog :=
  let r := rdLe h.data 1 1
  if h.code = 0x0124 && rdLe h.data 0 1 = d then { h with data := le 1 d ++ le 1 (r / 64 * 64 + min (r % 64) cause) } else h

/-- One die goes out for a cause of Table 6.7, and is reset unless it stays out; of several causes of one die out the
lowest stands (R332, R335, R970). [DEDUCED, log 35] -/
def State.oneDieOut (s : State) (d cause : Nat) (service : Bool) : State :=
  if decide (2 ≤ s.die d) then { s with eng := { s.eng with logs := s.eng.logs.map (lowerCause d cause) } }
  else
    let outs := ((s.dieS d).outs.filter (fun t => decide (s.run < t + 600000000000))) ++ [s.run]
    let stays := decide (3 ≤ outs.length)
    let s1 := s.hold 0x0124 (le 1 d ++ le 1 (cause + (if stays then 64 else 0) + (if service then 128 else 0))) (64 + d) [0x0114, 0x0122]
    let s2 := s1.setDieS d { s1.dieS d with outs := outs, stays := (s1.dieS d).stays || stays }
    if stays then
      ((((s2.resetClusters d).dropTests d).stopDie d).wr (dieFld d) 2).setDieS d { s2.dieS d with
        reload := none, ready := false, restart := none, rebuild := none, ended := false, back := none }
    else s2.dieReset d false

/-- A die goes out; a die being rebuilt from it goes out as well (R336, R968). -/
def State.dieOut (s : State) (d cause : Nat) : State :=
  let other := 1 - d
  let alone := s.die other != 0
  let s1 := s.oneDieOut d cause (s.duplex && alone && s.die d == 0)
  let s2 := if s.duplex && s.die d = 0 && s.die other = 1 then s1.oneDieOut other 5 true else s1
  s2.showHealth

/-- Start the rebuild of a die from the other, which becomes the lead (R325, R327). -/
def State.rebuild (s : State) (d : Nat) : State :=
  (((s.wr (dieFld d) 1).wr Reg.GUARD.NODE.LEAD (1 - d)).wr Reg.GUARD.NODE.RBTICKS 0).setDieS d
    { s.dieS d with rebuild := some s.tick, restart := none, ready := false, ended := false, back := none }

/-! ### Alternate schedules (R312 to R320) -/

/-- Region of a cluster. -/
def regionOf (c : Nat) : Nat := c / 4

/-- Positions active or spare. -/
def State.able (s : State) (c : Nat) : Nat := (s.positions c 0).length + (s.positions c 1).length

/-- Whether a transaction stands between its commit and the last tick of its crossfade (R311, R316). -/
def State.txnBusy (s : State) : Bool :=
  s.ls != 0 && !s.txn.ending && decide (s.tick ≤ s.launchTick + s.rd Reg.TXN.XFADE.X)

/-- A cluster needs its alternate schedule: it enters, or its region is exhausted (R297, R315, R320,
R397, R398). [DEDUCED, log 26] -/
def State.needAlt (s : State) (c : Nat) : State :=
  let r := regionOf c
  let mine := s.altOf r == some c
  let provided := match s.plan.image with
    | some p => (altFor p c).isSome
    | none => false
  if mine then s
  else if provided && !s.on (Reg.GUARD.ALT.ACTIVE r) && !(s.txnBusy && s.txn.lNoCover.contains c) then
    let s1 := (s.wr (Reg.GUARD.ALT.CL r) (c % 4)).put (Reg.GUARD.ALT.ACTIVE r) true
    let s2 := (s1.count (Reg.GUARD.ALT.ENTRIES r)).setClS c { s.clS c with alt := 1 }
    s2.hold 0x0112 (le 1 r ++ le 1 c) c [0x0102, 0x0111]
  else
    let s1 := s.hold 0x0114 (le 1 r) c [0x0102, 0x0111]
    let s2 := if c / 16 = 0 then { s1 with eng := { s1.eng with flag0 := true } }
      else { s1 with eng := { s1.eng with flag1 := true } }
    s2.dieOut (c / 16) 2

/-- Put a cluster's logical lanes back: first each whose position is able keeps it, then the others in rising order
take the lowest spare (R316). -/
def State.replace (s : State) (c : Nat) : State :=
  let able (k : Nat) : Bool := decide (s.posOf c k < 9) && decide (s.lstat c (s.posOf c k) ≤ 1)
  let kept := ((List.range 8).filter able).foldl (fun (a : State) k => a.giveRole c k (s.posOf c k)) s
  ((List.range 8).filter fun k => !able k).foldl (fun (a : State) k => match (a.positions c 1).head? with
    | some sp => a.giveRole c k sp
    | none => a.wr (roleFld c k) 15) kept

/-- Whether a cluster's die has run a main pass in the tick that ends: of the first frame of the start in force, or of a
later one (R912). -/
def State.hasRun (s : State) (c : Nat) : Bool :=
  s.on Reg.TICK.STATUS.RUN && s.computes (c / 16) s.eng.frame && s.eng.first.any fun m => decide (m ≤ s.eng.frame)

/-- Advance a cluster's alternate schedule at a boundary; the entry variant stays until it has run a tick (R239, R313,
R316). [DEDUCED, log 26] -/
def State.altTick (s : State) (c : Nat) : State :=
  let x := s.clS c
  if x.alt = 0 || (x.alt == 1 && !s.hasRun c) then s
  else if x.alt = 3 then
    if 8 ≤ s.able c then
      let s1 := (s.replace c).put (Reg.GUARD.ALT.ACTIVE (regionOf c)) false
      (s1.setClS c { s1.clS c with alt := 0 }).hold 0x0113 (le 1 (regionOf c) ++ le 1 c)
    else s.setClS c { x with alt := 2 }
  else if 8 ≤ s.able c && !s.txnBusy && x.memEnd.isEmpty && (s.rd Reg.LANE.LOADOK.OK).testBit c then s.setClS c { x with alt := 3 }
  else s.setClS c { x with alt := 2 }

/-- The variant of an alternate schedule that runs in this tick: the crossfade variant while a transaction is in the
launching slot (R313, R318, R397). -/
def State.altVariant (s : State) (a : AltSched) : List AltLane :=
  let v := (s.clS a.cluster).alt
  if s.ls = 0 then (if v = 1 then a.entry else if v = 3 then a.exit else a.steady)
  else if v = 1 then a.entryX else if v = 3 then a.exitX else a.steadyX

/-- The alternate schedule that runs in a logical lane's region (R315). -/
def State.altRuns (s : State) (kid : Nat) : Option AltSched :=
  match s.altOf (kid / 32), s.plan.image with
  | some c, some p => altFor p c
  | _, _ => none

/-- What a logical lane does in this tick's variant of an alternate schedule of its region. -/
def State.altWork (s : State) (kid : Nat) : Option AltLane :=
  (s.altRuns kid).bind fun a => (s.altVariant a).find? fun x => x.lane == kid

/-- Whether a logical lane's work runs on its region's alternate schedule (R313). -/
def State.moved (s : State) (kid : Nat) : Bool := s.altOf (kid / 32) == some (kid / 8)

/-- The lane on which an instance of the plan runs: the plan's, or that of the alternate schedule which carries its
cluster (R313). -/
def State.instLane (s : State) (p : PlanImage) (i : Nat) : Option Nat := s.placeIn p s.altVariant i false
/-- The lane on which the copy of an instance in a new graph runs (R313, R318, R966). -/
def State.copyLane (s : State) (p : PlanImage) (i : Nat) : Option Nat := s.placeIn p s.altVariant i true

/-! ### Faults of the frame at its flip (R295 to R298, R302, R307) -/

/-- Note a fault of a position; three within 3,600 s retire it at the next boundary (R302). [DEDUCED, log 30] -/
def State.noteFault (s : State) (p : Nat) : State :=
  let x := s.posS p
  s.setPosS p { x with faults := (x.faults.filter (fun t => decide (s.run < t + 3600000000000))) ++ [s.run] }

/-- Place one faulted logical lane at T(n+2): entry, role change, self-test or retirement; `bad` are the positions
that faulted in the tick (R292, R295 to R298, R302). -/
def State.placeFault (s : State) (bad : List Nat) (q : FaultReq) (by_ : Option Nat) : State :=
  let c := q.pos / 9
  let l := q.pos % 9
  let k := q.lane % 8
  let code := if by_.isSome then 0x0101 else 0x0102
  let s1 := s.hold code (le 2 q.pos ++ le 2 q.lane ++ le 1 q.cls ++ le 4 q.f) c
  let leave (a : State) : State :=
    if 3 ≤ (a.posS q.pos).faults.length then a.retire c l 1 else a.enterTest c l
  match by_ with
  | some sp => leave (s1.giveRole c k (sp % 9))
  | none =>
    match s1.taker c bad with
    | some sp => leave (s1.giveRole c k sp)
    | none => (leave s1).needAlt c

/-- The rotation period in ns (`GUARD.ROT`). -/
def State.rotPeriod (s : State) : Nat := s.rd Reg.GUARD.ROT.PERIOD * 100000000

/-- Which period of its own a cluster is in at an instant of running time: the 32 clusters' periods begin evenly spread
over one period (R305). -/
def State.rotPhase (s : State) (c t : Nat) : Nat := (t + s.rotPeriod - c * s.rotPeriod / 32) / s.rotPeriod

/-- Whether a cluster's periodic rotation is due: none in its present period (R305). -/
def State.rotDue (s : State) (c : Nat) : Bool := decide (s.rotPhase c (s.clS c).rotLast < s.rotPhase c s.run)

/-- Rotate a cluster whose rotation tick had no fault; otherwise it is tried again (R306, R307). -/
def State.rotate (s : State) (c : Nat) : State :=
  let x := s.clS c
  match x.rotating with
  | none => s
  | some (k, asked) =>
    if x.faulted then s.setClS c { x with rotating := none }
    else match (s.positions c 1).head? with
      | none => s.setClS c { x with rotating := none }
      | some sp =>
        let old := s.posOf c k
        let s1 := (s.giveRole c k sp).enterTest c old
        let s2 := s1.setClS c { s1.clS c with
          rotating := none, rotNext := (k + 1) % 8
          rotLast := if asked && !s.rotDue c then s.run + s.rotPeriod else s.run
          testWait := if asked then none else x.testWait, testPos := if asked then some old else x.testPos }
        s2.hold 0x0103 (le 1 c ++ le 1 k ++ le 1 old ++ le 1 sp)

/-- Positions whose test passed become spares at the boundary (R300). -/
def State.newSpares (s : State) : State :=
  s.guard.pos.foldl (fun (a : State) (p, x) =>
    if x.passed && s.lstat (p / 9) (p % 9) = 2 then
      (a.wr (lstatFld (p / 9) (p % 9)) 1).setPosS p { x with passed := false, testEnd := none }
    else a) s

/-- Whether the loaded plan provides an alternate schedule for a cluster (R313). -/
def State.altProvided (s : State) (c : Nat) : Bool := match s.plan.image with
  | some p => (altFor p c).isSome
  | none => false

/-- The status with which a cluster memory test may not run (R311): 0 where it may. -/
def State.memTestBar (s : State) (c : Nat) : Nat :=
  if !s.altProvided c then stRefused
  else if s.txnBusy || (s.on (Reg.GUARD.ALT.ACTIVE (regionOf c)) && s.altOf (regionOf c) != some c) then stDeferred
  else 0

/-- The requested memory tests of a cluster whose boundary has come (R310, R311). -/
def State.memTestTick (s : State) (c : Nat) : State :=
  let due := (s.clS c).memTest.filter fun e => decide (e.1 ≤ s.tick)
  due.foldl (fun (a : State) e =>
    let a1 := a.setClS c { a.clS c with memTest := (a.clS c).memTest.erase e }
    if a.memTestBar c ≠ 0 then
      a1.finishOp 0x60 (a.memTestBar c) [] [] (fun d => d.a0 == 1 && d.a1 == c && d.ring == e.2)
    else
      let a2 := a1.needAlt c
      a2.setClS c { a2.clS c with memEnd := (a2.clS c).memEnd ++ [(s.run + 25000000, e.2)] }) s

/-- Everything chapter 06 does to positions and clusters at a weir flip; a cluster that enters its alternate
schedule here runs the entry variant in the coming tick (R313). -/
def State.containTick (s : State) : State :=
  let bad := s.eng.decided.map fun e => e.1.pos
  let s1 := s.eng.decided.foldl (fun (a : State) (q, b) => a.placeFault bad q b) s
  let s2 := s.eng.overrun.foldl (fun (a : State) c =>
    ((List.range 9).foldl (fun (b : State) l => if b.lstat c l = 3 then b else b.enterTest c l) a).needAlt c) s1
  let s3 := (List.range 32).foldl (fun (a : State) c =>
    let b := (a.rotate c).memTestTick c
    if (b.clS c).faulted then b.setClS c { b.clS c with faulted := false } else b) s2
  let s4 := s3.newSpares
  ((List.range 32).foldl (fun (a : State) c => if (s.clS c).alt = 0 then a else a.altTick c) s4).showHealth

/-! ### Rows -/

/-- LANE_SELFTEST_END (R299 to R303, R309). -/
def doSelftestEnd (p : Nat) (pass : Bool) (s : State) : State :=
  let c := p / 9
  let l := p % 9
  let x := s.posS p
  if decide (288 ≤ p) || s.lstat c l != 2 || !(x.testEnd.any fun t => decide (t ≤ s.run)) then s
  else
    let s1 :=
      if pass then
        (s.setPosS p { x with passed := true, testEnd := none, fails := 0 }).hold 0x0104 (le 2 p)
      else
        let s2 := (s.setPosS p { x with fails := x.fails + 1, testEnd := some (s.run + laneTestNs) }).hold
          0x0105 (le 2 p ++ le 1 (x.fails + 1))
        if 2 ≤ x.fails + 1 then s2.retire c l 0 else s2
    let cl := s1.clS c
    if cl.testPos = some l then
      (s1.setClS c { cl with testPos := none }).finishOp 0x60 stOk (le 1 (if pass then 0 else 1) ++ le 1 l)
        [] (fun d => d.a0 == 0 && d.a1 == c)
    else s1

/-- Whether a rotation is permitted in a cluster's region in this tick (R305, R309). -/
def State.mayRotate (s : State) (c : Nat) : Bool :=
  let x := s.clS c
  s.on Reg.TICK.STATUS.RUN && s.die (c / 16) == 0 && !(s.positions c 1).isEmpty && s.altOf (regionOf c) != some c &&
    x.rotating.isNone &&
    (List.range 4).all (fun i => (s.clS (regionOf c * 4 + i)).rotating.isNone) &&
    ((x.testWait.any fun t => decide (t < s.tick)) || (s.on Reg.GUARD.ROT.EN && s.rotDue c))

/-- SPARE_ROTATION (R305, R306): the tick's rotation begins; it takes effect at the flip. -/
def doRotation (c : Nat) (s : State) : State :=
  if c < 32 && s.mayRotate c then
    s.setClS c { s.clS c with
      rotating := some ((s.clS c).rotNext, (s.clS c).testWait.any fun t => decide (t < s.tick)) }
  else s

/-- SELFTEST of lanes (R309). -/
def selftestLanesRes (d : Desc) (s : State) : Res :=
  if d.a0 ≠ 0 then badDesc s 48
  else if 32 ≤ d.a1 then badDesc s 52
  else
    let x := s.clS d.a1
    if (s.positions d.a1 1).isEmpty || s.altOf (regionOf d.a1) = some d.a1 || !s.on Reg.TICK.STATUS.RUN then
      failRes s stRefused
    else if x.testWait.isSome || x.testPos.isSome then failRes s stBusy
    else longRes (s.setClS d.a1 { x with testWait := some s.tick })

/-- SELFTEST of cluster memory (R310, R311). -/
def selftestMemRes (d : Desc) (s : State) : Res :=
  if d.a0 ≠ 1 then badDesc s 48
  else if 32 ≤ d.a1 then badDesc s 52
  else if s.memTestBar d.a1 ≠ 0 then failRes s (s.memTestBar d.a1)
  else longRes (s.setClS d.a1 { s.clS d.a1 with memTest := (s.clS d.a1).memTest ++ [(s.tickFrom (s.readNs d) 0 2, d.ring)] })

/-- Ticks since the weir flip that decided a die's rebuild. [DEDUCED, log 70] -/
def State.rebuildAge (s : State) (d : Nat) : Nat := s.tick - (s.dieS d).rebuild.getD s.tick

/-- REBUILD_COMPLETE: the copy has ended, within 64 ticks of the decision; the die joins at the next boundary T(j)
(R329). [DEDUCED, log 70] -/
def doRebuildComplete (s : State) : State :=
  let fin (d : Nat) : State := if s.rebuildAge d < 64 then s.setDieS d { s.dieS d with ended := true } else s
  if s.die 0 = 1 then fin 0 else if s.die 1 = 1 then fin 1 else s

/-- A rebuild at a boundary T(j): one whose copy has ended brings its die back in, which computes frame j - 1 from now on;
one that has not ended within 64 ticks puts it out; else its ticks are shown (R327, R329, R330). [DEDUCED, log 70] -/
def State.rebuildTick (s : State) : State :=
  [0, 1].foldl (fun (a : State) d =>
    let x := a.dieS d
    let n := a.rebuildAge d
    if a.die d ≠ 1 then a
    else if x.ended then
      let b := ((a.wr (dieFld d) 0).wr Reg.GUARD.NODE.RBTICKS 0).setDieS d { x with rebuild := none, ended := false, restart := some (a.tick - 1) }
      ((b.count Reg.GUARD.DIECNT.REBUILD).hold 0x0123 (le 1 d ++ le 4 n)).showHealth
    else if 64 ≤ n then a.dieOut d 0
    else a.wrSat Reg.GUARD.NODE.RBTICKS n) s

/-- REBUILD_TIMEOUT: the rebuilt die goes out after 64 ticks or on a die-link error (R330). -/
def doRebuildTimeout (linkUe : Bool) (s : State) : State :=
  let out (d : Nat) : State :=
    if 64 ≤ s.rebuildAge d then s.dieOut d 0 else if linkUe then s.dieOut d 1 else s
  if s.die 0 = 1 then out 0 else if s.die 1 = 1 then out 1 else s

/-- DIE_RESET (R333). -/
def dieResetRes (d : Desc) (s : State) : Res :=
  if 2 ≤ d.a0 then badDesc s 48
  else
    let good := if d.a0 = 0 then s.on Reg.SYS.PWR.CD0OK else s.on Reg.SYS.PWR.CD1OK
    if s.die (1 - d.a0) ≠ 0 || s.plan.image.isNone || (s.dieS d.a0).stays || !good then failRes s stRefused
    else longRes ((s.dieReset d.a0 true).showHealth)

/-- COMPUTE_DIE_SUPPLY_TRIP: the die goes out (R899, R921). -/
def doDieSupply (d : Nat) (s : State) : State :=
  if 2 ≤ d then s
  else
    let s1 := s.put (if d = 0 then Reg.SYS.PWR.CD0OK else Reg.SYS.PWR.CD1OK) false
    (s1.dieOut d 3).siltWrite 0x0904 (le 1 (Config.railCode d))

/-- Reloaded dies at a weir flip: one whose reload has ended is rebuilt from the other where that computes (R325, R327,
R332), else it restarts from the initial state at the first boundary at least 2 ticks on; a restarting die is back
in at its boundary T(j), computes frames from j on and in Duplex becomes the lead (R338, R969). -/
def State.restartTick (s : State) : State :=
  [0, 1].foldl (fun (a : State) d =>
    let x := a.dieS d
    if x.ready then
      if a.duplex && a.die (1 - d) == 0 && a.on Reg.TICK.STATUS.RUN then a.rebuild d
      else a.setDieS d { x with ready := false, restart := some (a.tick + 2) }
    else match x.restart with
      | none => a
      | some j =>
        if a.tick < j || a.die d != 3 then a
        else
          let b := (a.wr (dieFld d) 0).setDieS d { x with back := some j }
          if !b.duplex then b
          else if a.die (1 - d) = 0 then (b.setDieS d { x with restart := none }).rebuild d
          else b.wr Reg.GUARD.NODE.LEAD d) s

/-- LANE_SELFTEST_END (R301). -/
def execLaneSelftestEnd (p : Nat) (pass : Bool) (s : State) : Out := .next (doSelftestEnd p pass s)
/-- SPARE_ROTATION (R305). -/
def execSpareRotation (c : Nat) (s : State) : Out := .next (doRotation c s)
/-- SELFTEST_LANES (R309). -/
def execSelftestLanes (d : Desc) (s : State) : Out := .next (hostCmd 0x60 roleE d (selftestLanesRes d) s)
/-- SELFTEST_CLUSTER_MEMORY (R311). -/
def execSelftestClusterMemory (d : Desc) (s : State) : Out := .next (hostCmd 0x60 roleE d (selftestMemRes d) s)
/-- REBUILD_COMPLETE (R329). -/
def execRebuildComplete (s : State) : Out := .next (doRebuildComplete s)
/-- REBUILD_TIMEOUT (R330). -/
def execRebuildTimeout (linkUe : Bool) (s : State) : Out := .next (doRebuildTimeout linkUe s)
/-- DIE_RESET (R333). -/
def execDieReset (d : Desc) (s : State) : Out := .next (hostCmd 0x48 roleE d (dieResetRes d) s)
/-- COMPUTE_DIE_SUPPLY_TRIP (R899). -/
def execComputeDieSupplyTrip (die : Nat) (s : State) : Out := .next (doDieSupply die s)

end Sys2Proof.Machine
end

