-- ==== Sys2Proof/Machine/Dsp.lean ====
section
/-! DEFINITION. What the fixed graph computes from a frame's inputs: the library kernels, the strips,
the confluence, the destinations with their crossfades, and the meters (chapters 02 and 03). -/
namespace Sys2Proof.Machine

/-- Run a kernel over the samples of a block: its state, its outputs, how often it saturated. -/
def runKernel {σ : Type} (f : σ → Int → σ × Int × Nat) (st : σ) : List Int → σ × List Int × Nat
  | [] => (st, [], 0)
  | x :: r =>
    let (st1, y, k) := f st x
    let (st2, ys, n) := runKernel f st1 r
    (st2, y :: ys, k + n)

/-! ### Kernels (R135 to R158) -/

/-- Coefficients of a section: b0, b1, b2, a1, a2. -/
abbrev Coefs := Int × Int × Int × Int × Int

/-- A double-limb section: outputs kept at 72 bits, 60 of them fraction bits (R135).  The product of a 72-bit output
and a Q2.33 coefficient is cut to 60 fraction bits towards minus infinity, as R190 cuts a product of one word:
the manual does not say where the product of two words is cut.  [DEDUCED, log 41] -/
def bqDouble (c : Coefs) (st : BqS) (x : Int) : BqS × Int × Nat :=
  let (b0, b1, b2, a1, a2) := c
  let acc := quad33 x b0 + quad33 st.x1 b1 + quad33 st.x2 b2 - (st.y1 * a1) / 2 ^ 33 - (st.y2 * a2) / 2 ^ 33
  let (y, k) := toSample 60 acc
  ({ x1 := x, x2 := st.x1, y1 := sat72 acc, y2 := st.y1 }, y, k)

/-- A single-limb section: coefficients in Q2.15, outputs in Q5.30. -/
def bqSingle (c : Coefs) (st : BqS) (x : Int) : BqS × Int × Nat :=
  let (b0, b1, b2, a1, a2) := c
  let (y, k) := toSample 45 (x * b0 + st.x1 * b1 + st.x2 * b2 - st.y1 * a1 - st.y2 * a2)
  ({ x1 := x, x2 := st.x1, y1 := y, y2 := st.y1 }, y, k)

/-- Coefficients of a biquad slot (Table 3.7). -/
def State.slotCoefs (s : State) (cls idx b : Nat) (double : Bool) : Coefs :=
  let w (j : Nat) := s.param (keyParam cls idx (8 + 5 * b + j))
  if double then (toInt 36 (w 0), toInt 36 (w 1), toInt 36 (w 2), toInt 36 (w 3), toInt 36 (w 4))
  else (toInt 18 (w 0 % 2 ^ 18), toInt 18 (w 0 / 2 ^ 18), toInt 18 (w 1 % 2 ^ 18), toInt 18 (w 1 / 2 ^ 18),
    toInt 18 (w 2 % 2 ^ 18))

/-- A section that passes its input unchanged (R140). -/
def passCoefs : Coefs := (2 ^ 33, 0, 0, 0, 0)

/-- 1/Q of a Butterworth section: the root of 2 in the 2nd order, twice the cosines of pi/8 and 3 pi/8 in the 4th (R140). -/
def butterworth (ord : Nat) (low : Bool) : Rat :=
  if ord = 0 then 2 * ratFx (sinTurn 1 8) else 2 * ratFx (sinTurn (if low then 3 else 1) 16)

/-- Coefficients of section j of the fixed high-pass stage in Q2.33, rounded to nearest (R140). [DEDUCED, log 84] -/
def State.hpCoefs (s : State) (ctrl j : Nat) : Coefs :=
  let ord := ctrl / 4 % 2
  if ctrl / 8 % 2 = 1 || (ord = 0 && j = 1) then passCoefs
  else
    let l := (bilinear false (tanHalf (10 * 2 ^ (ctrl % 4)) s.fs) (butterworth ord (Config.hpfLowFirst == (j == 0)))).map fun c =>
      roundDiv (c * 2 ^ 33).num (c * 2 ^ 33).den
    (l.getD 0 0, l.getD 1 0, l.getD 2 0, l.getD 3 0, l.getD 4 0)

/-- The fixed high-pass stage on one sample: one kernel of two sections, so that a sample counts as saturated once
(R123, R140). -/
def highPass (c0 c1 : Coefs) (st : BqS × BqS) (x : Int) : (BqS × BqS) × Int × Nat :=
  let (h0, y0, k0) := bqDouble c0 st.1 x
  let (h1, y1, k1) := bqDouble c1 st.2 y0
  ((h0, h1), y1, max k0 k1)

/-- A gain ramp over a block of frame f: signed gain in Q2.33 (R87, R965). -/
def gainBlock (r : Ramp) (f spt : Nat) (xs : List Int) : List Int × Nat :=
  let ys := xs.zipIdx.map fun (x, k) => mul33 x (r.val f k spt)
  (ys.map (fun y => y.1), (ys.map (fun y => y.2)).sum)

/-- A delay over a block (R146, R148): the history newest first, or for a DRAM line its head of the two frames before
this one, older samples coming from `dram`, which begins with the frame two before this one; a prefetch miss repeats
the line's last delivered sample for them (R35). -/
def delayBlock (a : Alloc) (d spt : Nat) (miss : Bool) (dram hist : List Int) (line : Int) (xs : List Int) :
    List Int × List Int × Int :=
  let out := xs.zipIdx.map fun (_, k) =>
    if a.dram && decide (k + 2 * spt < d) then (if miss then line else atD dram (d - k - 1 - spt) 0)
    else atD ((xs.take (k + 1)).reverse ++ hist) d 0
  ((xs.reverse ++ hist).take (if a.dram then 2 * spt else a.dmax + 1), out, out.getLastD line)

/-- FIR coefficients: h[k] with their fraction bits (Table 3.5). -/
def State.firCoefs (s : State) (a : Alloc) : List Int :=
  let w (j : Nat) := s.param (keyParam 2 a.index (88 + j))
  if a.firDouble then (List.range a.firTaps).map fun j => toInt 36 (w j)
  else (List.range a.firTaps).map fun j =>
    if j % 2 = 0 then toInt 18 (w (j / 2) % 2 ^ 18) else toInt 18 (w (j / 2) / 2 ^ 18)

/-- An FIR over a block (R142, R144). -/
def firBlock (a : Alloc) (h : List Int) (byp : Bool) (hist xs : List Int) : List Int × List Int × Nat :=
  let ys := xs.zipIdx.map fun (x, k) =>
    if byp || a.firTaps = 0 then (x, 0)
    else
      let w := (xs.take (k + 1)).reverse ++ hist
      if a.firDouble then toSample 60 ((h.zip w).map (fun (p : Int × Int) => quad33 p.2 p.1)).sum
      else toSample 45 ((h.zip w).map (fun (p : Int × Int) => p.1 * p.2)).sum
  ((xs.reverse ++ hist).take a.firTaps, ys.map (fun y => y.1), (ys.map (fun y => y.2)).sum)

/-- Threshold of a limiter word as an amplitude in Q5.30: 0.01 dBFS steps, 0 dBFS is 1.0 (R115, R134).  The nearest
value stands; the manual states no rounding.  [DESIGN CHOICE, log 10] -/
def thrOf (w : Nat) : Int := dbGain 30 (toInt 16 (w % 2 ^ 16)) 2000

/-- The per-sample coefficient exp(-1 / (tau x fs)) in Q2.33 of a time constant in ms, rounded to nearest. -/
def State.timeCoeff (s : State) (ms : Nat) : Nat := (expNeg33 1000 (ms * s.fs)).toNat

/-- One step of a limiter gain towards a target (R154, R155). -/
def gainStep (c : Nat) (g t : Int) : Int := smooth c g t

/-- The RMS limiter on one sample (R153, R154, R157): detector with 60 fraction bits, envelope in Q2.33, output,
applied gain.  The formats follow the three state words of Table 3.2.  [DEDUCED, log 10] -/
def State.rmsStep (s : State) (idx : Nat) (st : Int × Int) (x : Int) : (Int × Int) × (Int × Int) × Nat :=
  let wa := s.param (keyParam 2 idx 4)
  let wb := s.param (keyParam 2 idx 5)
  let m := smooth (s.timeCoeff (wb % 2 ^ 12)) st.1 (x * x)
  let thr := thrOf wa
  let t : Int := if thr * thr < m then rootQuot ((thr * thr).toNat * 2 ^ 66) m.toNat else one33
  let c := if t < st.2 then s.timeCoeff (wb / 2 ^ 12 % 2 ^ 12) else s.timeCoeff (wb / 2 ^ 24 * 10)
  let g := gainStep c st.2 t
  let on := if wa / 2 ^ 16 % 2 = 1 then g else one33
  let (y, k) := mul33 x on
  ((m, g), (y, on), k)

/-- The peak limiter on one sample (R155 to R157): envelope and hold count.  The target is cut down in Q2.33, and a
rising gain stops at the sample's target, so that the output keeps R156's bound.  [DEDUCED, log 10] -/
def State.pkStep (s : State) (idx : Nat) (st : Int × Nat) (x : Int) : (Int × Nat) × (Int × Int) × Nat :=
  let wa := s.param (keyParam 2 idx 6)
  let wb := s.param (keyParam 2 idx 7)
  let t : Int := if x = 0 then one33 else min one33 (thrOf wa * one33 / x.natAbs)
  let hold := (quot ((wb % 2 ^ 12 * s.fs : Nat) : Int) 10000).toNat
  let st1 :=
    if t < st.1 then (t, hold)
    else if st.2 ≠ 0 then (st.1, st.2 - 1)
    else (min t (gainStep (s.timeCoeff (wb / 2 ^ 12 % 2 ^ 12)) st.1 one33), 0)
  let on := if wa / 2 ^ 16 % 2 = 1 then st1.1 else one33
  let (y, k) := mul33 x on
  (st1, (y, on), k)

/-- Run a limiter over a block: outputs with the gains applied. -/
def runLim {σ : Type} (f : σ → Int → σ × (Int × Int) × Nat) (st : σ) : List Int → σ × List (Int × Int) × Nat
  | [] => (st, [], 0)
  | x :: r =>
    let (st1, y, k) := f st x
    let (st2, ys, n) := runLim f st1 r
    (st2, y :: ys, k + n)

/-! ### Strips (R62, R63) -/

/-- Object numbers: class x 65,536 + index. -/
def objNo (cls idx : Nat) : Nat := cls * 65536 + idx

/-- Kernels of an object whose outputs hold apart: gain, high-pass, delay, FIR, the limiters, a column, the meter, the
last instance of the object, and biquad slot b. -/
def kGain : Nat := 0
def kHigh : Nat := 1
def kDelay : Nat := 2
def kFir : Nat := 3
def kRms : Nat := 4
def kPeak : Nat := 5
def kColumn : Nat := 6
def kMeter : Nat := 7
def kLast : Nat := 8
def kBiquad (b : Nat) : Nat := 16 + b

/-- What an instance of a frame runs under: the frame, whether its prefetch was missed, and the kernels whose outputs
hold (R49, R53). -/
structure RunAt where
  frame : Nat
  miss : Bool := false
  held : Nat → Bool := fun _ => false

/-- A kernel of a strip over a block: one that holds repeats its last sample of the frame before and keeps its
tick-start state (R49, R50, R53); with the strip's last samples. [DEDUCED, log 103] -/
def holdOr {σ : Type} (at_ : RunAt) (spt k : Nat) (lasts : Tbl Int) (st : σ) (run : σ × List Int × Nat) :
    σ × List Int × Nat × Tbl Int :=
  let last := mapGetD lasts k 0
  if at_.held k then (st, List.replicate spt last, 0, lasts)
  else (run.1, run.2.1, run.2.2, mapSet lasts k (run.2.1.getLastD last))

/-- The biquad slots of a strip in turn: their states, the block, saturations, last samples. -/
def State.slots (s : State) (a : Alloc) (at_ : RunAt) :
    Nat → Nat → List BqS → Tbl Int → List Int → List BqS × List Int × Nat × Tbl Int
  | 0, _, _, t, xs => ([], xs, 0, t)
  | n + 1, b, st, t, xs =>
    let d := a.doubleSlots.contains b
    let c := s.slotCoefs a.cls a.index b d
    let x := st.headD {}
    let (st1, ys, k, t1) := holdOr at_ s.spt (kBiquad b) t x (runKernel (if d then bqDouble c else bqSingle c) x xs)
    let (sts, zs, m, t2) := s.slots a at_ n (b + 1) (st.drop 1) t1 ys
    (st1 :: sts, zs, k + m, t2)

/-- An input strip over a block: fixed high-pass, gain and polarity, delay, biquads. -/
def State.inStrip (s : State) (at_ : RunAt) (i : Nat) (st : StripS) (xs : List Int) : StripS × List Int × Nat :=
  let a := s.alloc 1 i
  let ctrl := s.param (keyParam 1 i 0)
  let h := (st.hp.headD {}, (st.hp.drop 1).headD {})
  let ((h0, h1), x2, k2, t2) := holdOr at_ s.spt kHigh st.lasts h (runKernel (highPass (s.hpCoefs ctrl 0) (s.hpCoefs ctrl 1)) h xs)
  let g := gainBlock (s.stripRamp 1 i) at_.frame s.spt x2
  let (_, x3, k3, t3) := holdOr at_ s.spt kGain t2 () ((), g)
  let d := delayBlock a (s.param (keyParam 1 i 2)) s.spt at_.miss (mapGetD s.dramLines (objNo 1 i) []) st.delay st.line x3
  let ((hist, line), x4, _, t4) := holdOr at_ s.spt kDelay t3 (st.delay, st.line) ((d.1, d.2.2), d.2.1, 0)
  let (bq, x5, k5, t5) := s.slots a at_ a.slots 0 st.bq t4 x4
  ({ st with
      hp := [h0, h1], bq := bq, delay := hist, wr := if a.dram && !at_.held kDelay then x3 else [], line := line
      lasts := t5, out := x5.getLastD st.out }, x5, k2 + k3 + k5)

/-- An output strip over a block: gain and polarity, crossover biquads, FIR, delay, RMS and peak
limiter; with the lowest product of the two gains, cut to Q2.33 towards zero: R160 states no rounding.
[DESIGN CHOICE, log 79] -/
def State.outStrip (s : State) (at_ : RunAt) (i : Nat) (st : StripS) (xs : List Int) :
    StripS × List Int × Nat × Int :=
  let a := s.alloc 2 i
  let fc := s.param (keyParam 2 i 3)
  let g := gainBlock (s.stripRamp 2 i) at_.frame s.spt xs
  let (_, x1, k1, t1) := holdOr at_ s.spt kGain st.lasts () ((), g)
  let (bq, x2, k2, t2) := s.slots a at_ a.slots 0 st.bq t1 x1
  let (fh, x3, k3, t3) := holdOr at_ s.spt kFir t2 st.fir (firBlock a (s.firCoefs a) (fc / 2 ^ 13 % 2 == 1) st.fir x2)
  let d := delayBlock a (s.param (keyParam 2 i 2)) s.spt at_.miss (mapGetD s.dramLines (objNo 2 i) []) st.delay st.line x3
  let ((dh, line), x4, _, t4) := holdOr at_ s.spt kDelay t3 (st.delay, st.line) ((d.1, d.2.2), d.2.1, 0)
  let on (j : Nat) (g : Int) : Int := if s.param (keyParam 2 i j) / 2 ^ 16 % 2 = 1 then g else one33
  let r := runLim (s.rmsStep i) (st.rmsM, st.rmsG) x4
  let ((m, rg), x5, k5, t5) := holdOr at_ s.spt kRms t4 (st.rmsM, st.rmsG) (r.1, r.2.1.map (fun p => p.1), r.2.2)
  let gr5 := if at_.held kRms then x4.map fun _ => on 4 st.rmsG else r.2.1.map fun p => p.2
  let q := runLim (s.pkStep i) (st.pkG, st.hold) x5
  let ((pg, hold), x6, k6, t6) := holdOr at_ s.spt kPeak t5 (st.pkG, st.hold) (q.1, q.2.1.map (fun p => p.1), q.2.2)
  let gr6 := if at_.held kPeak then x5.map fun _ => on 6 st.pkG else q.2.1.map fun p => p.2
  let gr := ((gr5.zip gr6).map (fun (p : Int × Int) => (p.1 * p.2) / 2 ^ 33)).foldl min one33
  ({ st with
      bq := bq, fir := fh, delay := dh, wr := if a.dram && !at_.held kDelay then x3 else [], line := line
      rmsM := m, rmsG := rg, pkG := pg, hold := hold, lasts := t6, out := x6.getLastD st.out },
    x6, k1 + k2 + k3 + k5 + k6, gr)

/-! ### Sources -/

/-- Keys of the intake: network channels from 0, serial slots from 32,768. -/
def waterKey (frame src : Nat) : Nat := frame * 65536 + src
/-- Intake number of a serial receive slot. -/
def serialSrc (idx : Nat) : Nat := 32768 + idx

/-- One step of the white noise register: feedback x^31 + x^28 + 1 (R165). [DEDUCED, log 41] -/
def lfsrStep (v : Nat) : Nat := (v * 2 + (v / 2 ^ 30 + v / 2 ^ 27) % 2) % 2 ^ 31

/-- The register after k samples of 31 steps each. [DEDUCED, log 41] -/
def lfsrAt (k : Nat) : Nat := Nat.repeat lfsrStep (31 * k) 1

/-- The white noise sample in Q2.33 before LEVEL: the 24 most significant bits as two's complement (R165). -/
def whiteAt (k : Nat) : Int := toInt 24 (lfsrAt k / 2 ^ 7) * 2 ^ 10

/-- |B|^2 of a polynomial in z^-1 at num / den of the sample rate. -/
def polyGain (b : List Rat) (num den : Nat) : Rat :=
  let sum (w : Nat → Int) : Rat := (b.zipIdx.map fun (c, j) => c * ratFx (w j)).sum
  let re := sum fun j => sinTurn (4 * (num * j) + den) (4 * den)
  let im := sum fun j => sinTurn (num * j) den
  re * re + im * im

/-- The power gain of a filter at num / den of the sample rate. -/
def filterGain (h : List Rat × List Rat) (num den : Nat) : Rat := polyGain h.1 num den / polyGain (1 :: h.2) num den

/-- Whether a filter keeps R165's bounds: its power gain times the frequency stays within 1 dB from 20 Hz to 20 kHz, at
every whole Hz, and its mean power gain within 0.5 dB of 1. [DESIGN CHOICE, log 10] -/
def pinkOk (fs : Nat) (h : List Rat × List Rat) : Bool :=
  let at_ := (List.range 19981).map fun j => filterGain h (j + 20) fs * (j + 20 : Nat)
  let top := at_.foldl max 0
  let low := at_.foldl min top
  let mean := ((List.range 65536).map fun j => filterGain h (2 * j + 1) 131072).sum / 65536
  decide (0 < low) && decide (top * 1000 ≤ low * 1258) && decide (891251 ≤ mean * 1000000) && decide (mean * 1000000 ≤ 1122018)

/-- A filter that keeps R165's bounds, for an implementation whose own would not: 16,385 symmetric taps of the amplitude
1 / sqrt(f) above 5 Hz, sampled and scaled to a mean power gain of 1. [DESIGN CHOICE, log 10] -/
def pinkSampled (fs : Nat) : List Rat :=
  let amp (j : Nat) : Rat := ratFx (isqrt ((2 ^ (2 * fx)) * 131072 / (max (j * fs / 131072) 5 * 131072)))
  let tap (i : Nat) : Rat := (amp 0 + 2 * ((List.range 65535).map fun j =>
    amp (j + 1) * ratFx (sinTurn (4 * ((j + 1) * i) + 131072) 524288)).sum) / 131072
  let half := (List.range 8193).map tap
  let taps := (half.drop 1).reverse ++ half
  let power := (taps.map fun c => c * c).sum
  let scale := ratFx (isqrt ((2 ^ (2 * fx) * power.den) / power.num.natAbs))
  taps.map fun c => c * scale

/-- The fixed filter that makes pink noise of the white sequence, within R165's bounds; which one is open.
[DESIGN CHOICE, log 10] -/
def pinkFilter (fs : Nat) : List Rat × List Rat :=
  if pinkOk fs (Config.pinkFilter fs) then Config.pinkFilter fs else (pinkSampled fs, [])

/-- The outputs of a filter on samples 0 to n - 1 of a sequence, newest first. -/
def filterRun (h : List Rat × List Rat) (x : Nat → Int) : Nat → List Rat
  | 0 => []
  | n + 1 =>
    let ys := filterRun h x n
    let b := (h.1.zipIdx.map fun (c, j) => if j ≤ n then c * (x (n - j) : Rat) else 0).sum
    (b - ((h.2.zip ys).map fun (p : Rat × Rat) => p.1 * p.2).sum) :: ys

/-- The pink noise sample in Q2.33 before LEVEL: the white sequence through the fixed filter, rounded to nearest, for
which R165 states nothing. [DESIGN CHOICE, log 10] -/
def pinkAt (fs k : Nat) : Int :=
  let y := (filterRun (pinkFilter fs) whiteAt (k + 1)).headD 0
  roundDiv y.num y.den

/-- The phase in turns, with 192 fraction bits, of the logarithmic sweep t / per after its start: the integral of
f1 x (f2 / f1)^(t / per), with f1 and f2 in mHz and t and per in samples (R165). -/
def sweepPhase (f1 f2 t per fs : Nat) : Int :=
  if f1 = f2 then f1 * t * 2 ^ fx / (1000 * fs : Nat)
  else
    let r := lnFx f2 f1
    f1 * per * ((expFx (r * t / per) - 2 ^ fx) * 2 ^ fx / r) / (1000 * fs : Nat)

/-- The logarithmic sweep in Q2.33: a sine that restarts at phase 0 every PERIOD (R165). -/
def sweepAt (f1 f2 ms k fs : Nat) : Int :=
  let per := ms * fs / 1000
  let p := sweepPhase f1 f2 (k % per) per fs
  roundFx 33 (sinTurn (p % 2 ^ fx).toNat (2 ^ fx))

/-- The sample of a test generator on sample count k since its phase origin (R162 to R165). [DEDUCED, log 41] -/
def State.genSample (s : State) (g k : Nat) : Int :=
  let w (j : Nat) := s.param (keyParam 4 g j)
  let lvl : Int := w 1
  let scale (u : Int) : Int := (toSample 66 (lvl * u)).1
  match w 0 with
  | 1 => scale (roundFx 33 (sinTurn (w 2 * k) (1000 * s.fs)))
  | 2 => scale (whiteAt k)
  | 3 => scale (pinkAt s.fs k)
  | 4 => scale (sweepAt (w 2) (w 3) (w 4) k s.fs)
  | 5 => if k % (w 4 * s.fs / 1000) = 0 then scale one33 else 0
  | _ => 0

/-- Samples since a generator's phase origin on sample k of frame f (R163).  A generator whose words no transaction
has changed counts from sample 0 of frame 0: R163 states no origin for it. [DESIGN CHOICE, log 79] A step of the local time
leaves origins as they are, and a frame before its origin counts from 0. [DESIGN CHOICE, log 96] A new graph that is primed
gives the changed words at the origin the generator had. [DESIGN CHOICE, log 93] -/
def State.genCount (s : State) (g f k : Nat) : Nat := (f - mapGetD s.gains.origins g 0) * s.spt + k

/-- The playback sample of a channel on sample k of frame f (R834, R835). -/
def State.playSample (s : State) (ch f k : Nat) : Int :=
  match s.store.plays.find? (fun e => e.2.running && e.2.map.contains ch) with
  | none => 0
  | some (_, x) =>
    match s.take x.take, x.posAt s.spt f k with
    | some t, some p => fromInt (8 * sampleBytes t.width) (x.play t (x.map.idxOf ch) p)
    | _, _ => 0

/-- The block of a source of class 1 to 4 for frame f, as delivered (R74, R250). -/
def State.srcBlock (s : State) (cls idx f : Nat) : List Int :=
  let dl (src : Nat) := (mapGet s.eng.delivered (waterKey f src)).getD (List.replicate s.spt 0)
  match cls with
  | 1 => dl idx
  | 2 => dl (serialSrc idx)
  | 3 => (List.range s.spt).map fun k => s.playSample idx f k
  | 4 => (List.range s.spt).map fun k => s.genSample idx (s.genCount idx f k)
  | _ => List.replicate s.spt 0

/-! ### One graph over a frame -/

/-- What a graph makes of a frame: its kept state, the outputs of its strips, destination samples before
the mute, and the meters of its strips (peak, saturations, lowest gain, samples). -/
structure GraphOut where
  g : GraphS
  ins : Tbl (List Int) := []
  outs : Tbl (List Int) := []
  dst : Tbl (List Int) := []
  met : List (Nat × Nat × Int × List Int) := []

/-- How a graph runs: the frame, the kernels of objects that hold, objects with a prefetch miss, and the graph to share
with outside the change cone. -/
structure GraphRun where
  frame : Nat
  held : Nat → Nat → Bool
  miss : Nat → Bool
  share : Option (GraphOut × (Nat → Bool)) := none

/-- Whether a graph runs an object itself. -/
def GraphRun.own (r : GraphRun) (obj : Nat) : Bool := match r.share with
  | none => true
  | some (_, cone) => cone obj

/-- The graph shared with. -/
def GraphRun.other (r : GraphRun) : GraphOut := match r.share with
  | none => { g := {} }
  | some (o, _) => o

/-- The entry of an input strip, where the plan gives it one, and what its source delivers of frame f: silence without an
entry (R69). -/
def State.stripSource (s : State) (i f : Nat) : Option Nat × List Int := match s.destEntry 0 i with
  | some j => (some j, s.srcBlock (rtScls (s.route j)) (rtSidx (s.route j)) f)
  | none => (none, List.replicate s.spt 0)

/-- Run the input strips of the loaded plan. -/
def State.runIns (s : State) (r : GraphRun) (g : GraphS) (o : GraphOut) : GraphOut :=
  (List.range (s.rd Reg.GRAPH.SIZE.INS)).foldl (fun (o : GraphOut) i =>
    let st := mapGetD g.ins i {}
    if !r.own (objNo 1 i) then
      { o with
        g := { o.g with ins := mapSet o.g.ins i (mapGetD r.other.g.ins i {}) }
        ins := mapSet o.ins i (mapGetD r.other.ins i []) }
    else
      let src := s.stripSource i r.frame
      let ramp := src.1.map fun j => s.muteRamp r.frame j st.src src.2
      let xs := match ramp with
        | some m => (gainBlock m r.frame s.spt src.2).1
        | none => src.2
      let (st1, ys, k) := s.inStrip ⟨r.frame, r.miss (objNo 1 i), r.held (objNo 1 i)⟩ i st xs
      { o with
        g := { o.g with ins := mapSet o.g.ins i { st1 with src := if r.held (objNo 1 i) kHigh then st.src else src.2.getLastD st.src } }
        ins := mapSet o.ins i ys
        met := o.met ++ [(objNo 0 i, k, one33, ys)] }) o

/-- The sum of a confluence column over its span (R149 to R152). -/
def State.column (s : State) (o : GraphOut) (f k : Nat) : List Int × Nat :=
  let a := s.alloc 3 k
  let rows := (List.range a.span).map fun j => a.spanFirst + j
  let ys := (List.range s.spt).map fun i =>
    toSample 45 ((rows.map fun r => (s.cellRamp k r).val f i s.spt * atD (mapGetD o.ins r []) i 0).sum)
  (ys.map (fun y => y.1), (ys.map (fun y => y.2)).sum)

/-- Run the columns and output strips. -/
def State.runOuts (s : State) (r : GraphRun) (g : GraphS) (o : GraphOut) : GraphOut :=
  (List.range (s.rd Reg.GRAPH.SIZE.OUTS)).foldl (fun (o : GraphOut) k =>
    let st := mapGetD g.outs k {}
    let last := mapGetD g.cols k 0
    if !r.own (objNo 2 k) then
      { o with
        g := { o.g with
          outs := mapSet o.g.outs k (mapGetD r.other.g.outs k {})
          cols := mapSet o.g.cols k (mapGetD r.other.g.cols k 0) }
        outs := mapSet o.outs k (mapGetD r.other.outs k []) }
    else
      let (xs, kc) := if r.held (objNo 3 k) kColumn then (List.replicate s.spt last, 0) else s.column o r.frame k
      let (st1, ys, n, gr) := s.outStrip ⟨r.frame, r.miss (objNo 2 k), r.held (objNo 2 k)⟩ k st xs
      { o with
        g := { o.g with outs := mapSet o.g.outs k st1, cols := mapSet o.g.cols k (xs.getLastD last) }
        outs := mapSet o.outs k ys
        met := o.met ++ [(objNo 1 k, n + kc, gr, ys)] }) o

/-- Destination entries that name a source, with class and index. -/
def State.dests (s : State) : List (Nat × Nat × Nat) :=
  (s.routes.map (fun e => e.1)).filterMap fun i => match s.partOf i with
    | some (c, d) => if c = 0 || rtScls (s.route i) = 0 then none else some (i, c, d)
    | none => none

/-- Run the destination selectors with their compensation lines (R107); a skim entry has no graph part.  A compensation
line that holds repeats its last sample and keeps its tick-start state (R49, R50, R53). -/
def State.runDests (s : State) (r : GraphRun) (g : GraphS) (o : GraphOut) : GraphOut :=
  s.dests.foldl (fun (o : GraphOut) (i, _, _) =>
   if !r.own (objNo 5 i) then
    { o with
      g := { o.g with
        comp := mapSet o.g.comp i (mapGetD r.other.g.comp i [])
        dst := mapSet o.g.dst i (mapGetD r.other.g.dst i 0) }
      dst := mapSet o.dst i (mapGetD r.other.dst i []) }
   else
    let e := s.route i
    let c := rtScls e
    let hist := mapGetD g.comp i []
    let last := mapGetD g.dst i 0
    if r.held (objNo 5 i) kDelay && !rtSkim e then
     { o with
       g := { o.g with comp := mapSet o.g.comp i hist, dst := mapSet o.g.dst i last }
       dst := mapSet o.dst i (List.replicate s.spt last) }
    else
    let xs : List Int :=
      if rtSkim e then List.replicate s.spt 0
      else if c = 5 then mapGetD o.ins (rtSidx e) []
      else if c = 6 then mapGetD o.outs (rtSidx e) []
      else s.srcBlock c (rtSidx e) r.frame
    let d := if rtSkim e then 0 else rtComp e
    let ys := xs.zipIdx.map fun (_, k) => atD ((xs.take (k + 1)).reverse ++ hist) d 0
    { o with
      g := { o.g with
        comp := mapSet o.g.comp i ((xs.reverse ++ hist).take 4096)
        dst := mapSet o.g.dst i (ys.getLastD last) }
      dst := mapSet o.dst i ys }) o

/-- One graph over a frame. [DESIGN CHOICE, log 25] -/
def State.runGraph (s : State) (r : GraphRun) (g : GraphS) : GraphOut :=
  s.runDests r g (s.runOuts r g (s.runIns r g { g := {} }))

/-! ### Crossfades (R98 to R103, R966) -/

/-- Whether an object is in the change cone of changed objects, under this graph's routes; a test generator's
cone begins at the entries that it feeds (R98, R966). [DEDUCED, log 76] -/
def State.inCone (s : State) (changed : List Nat) (obj : Nat) : Bool :=
  let genIn (e : Nat) : Bool := rtScls e == 4 && changed.contains (objNo 4 (rtSidx e))
  let insIn (i : Nat) : Bool :=
    changed.contains (objNo 1 i) || (s.destEntry 0 i).any fun j => changed.contains (objNo 5 j) || genIn (s.route j)
  let colIn (k : Nat) : Bool :=
    let a := s.alloc 3 k
    (List.range a.span).any fun j => insIn (a.spanFirst + j)
  let outIn (k : Nat) : Bool := changed.contains (objNo 2 k) || colIn k
  let i := obj % 65536
  match obj / 65536 with
  | 1 => insIn i
  | 2 => outIn i
  | 3 => colIn i
  | 5 =>
    let e := s.route i
    changed.contains obj || genIn e || (rtScls e == 5 && insIn (rtSidx e)) || (rtScls e == 6 && outIn (rtSidx e))
  | _ => false

/-- The node under an earlier topcoat. -/
def State.under (s : State) (o : OldS) : State :=
  { s with params := o.params, routes := o.routes, gains := o.gains, regs := o.regs }

/-- The node as it governed frames before the launch in progress. -/
def State.asOld (s : State) : State := match s.old with
  | none => s
  | some o => s.under o

/-- The node as it governs frame f: under the topcoat that the first launch after f replaced (R27). -/
def State.govern (s : State) (f : Nat) : State := match (s.past.filter fun o => decide (f < o.l)).getLast? with
  | some o => s.under o
  | none => s

/-- The node as the transaction being primed will make it, with the gains in force: a generator whose words it changes keeps
its phase origin until the launch (R102, R163, R385). [DESIGN CHOICE, log 93] -/
def State.asNew (s : State) : State :=
  let v := s.lView
  let s1 := s.launchWords s.txn.lItems
  v.entries.foldl (fun a i => a.setRoute i (v.final i)) s1

/-- Weights in Q2.33 of the new and the old graph on sample k of frame f, in a crossfade of x ticks from frame l
(R99, R100); rounded to nearest, for which the manual gives no format. [DESIGN CHOICE, log 79] -/
def State.weightsOf (s : State) (l x f k : Nat) : Int × Int :=
  let n := x * s.spt
  let i := (f - l) * s.spt + k + 1
  if n ≤ i then (one33, 0)
  else if s.on Reg.GRAPH.FEATHER.XSHAPE then (roundFx 33 (sinQuarter i n), roundFx 33 (sinQuarter (n - i) n))
  else (roundDiv (one33 * i) n, one33 - roundDiv (one33 * i) n)

/-- The weights of the crossfade in progress. [DESIGN CHOICE, log 79] -/
def State.weights (s : State) (f k : Nat) : Int × Int := s.weightsOf s.launchTick (s.rd Reg.TXN.XFADE.X) f k

/-- An entry's block with its mute applied, after the sample p that it passed last (R91 to R97). -/
def State.muted (s : State) (f i : Nat) (p : Int) (xs : List Int) : List Int :=
  (gainBlock (s.muteRamp f i p xs) f s.spt xs).1

/-- The ends of zero-crossing waits in frame f, which a graph starts in state g and of which it makes o (R92 to
R95); a skim route's wait is met at its captures. -/
def State.hitsOf (s : State) (f : Nat) (g : GraphS) (o : GraphOut) : List ZcHit :=
  (s.gains.mutes.filter fun e => e.2.wait.isSome).filterMap fun (i, _) =>
    let e := s.route i
    let met := match s.partOf i with
      | none => none
      | some (0, d) => s.zcMeet f i (mapGetD g.ins d {}).src (s.srcBlock (rtScls e) (rtSidx e) f)
      | some _ => if rtSkim e then none
        else s.zcMeet f i (mapGetD g.dst i 0) (mapGetD o.dst i (List.replicate s.spt 0))
    met.map fun h => { entry := i, timeout := h.2, ramp := s.zcRamp i h }

/-- Whether a route word names a source of the graph. -/
def graphSrc (e : Nat) : Bool := rtScls e != 0 && !rtSkim e

/-- The route word of an entry that is a skim route, else 0. -/
def skimWord (s : State) (i : Nat) : Nat := if rtSkim (s.route i) then s.route i else 0

/-- The destination blocks of one graph alone, which starts the frame in state g; a skim route has none. -/
def State.blocksOf (s : State) (f : Nat) (g : GraphS) (o : GraphOut) : List DestBlock :=
  (o.dst.filter fun e => graphSrc (s.route e.1)).map fun (i, xs) =>
    { entry := i, samples := s.muted f i (mapGetD g.dst i 0) xs }

/-- The destination blocks of a crossfade, whose graphs start the frame in states gn and go: new and old blended
where the entry is in the cone (R98 to R100).  An entry that keeps to the skim path is blended there.  A sample that the
blend itself saturates counts in no strip's record: the blend stands at a destination (R123). [DESIGN CHOICE, log 92] -/
def State.blend (s : State) (f : Nat) (cone : Nat → Bool) (go gn : GraphS) (old new : GraphOut) : List DestBlock :=
  let so := s.asOld
  let keys := (new.dst.map (fun e => e.1) ++ old.dst.map (fun e => e.1)).eraseDups
  (keys.filter fun i => graphSrc (s.route i) || (cone (objNo 5 i) && graphSrc (so.route i))).map fun i =>
    let a := s.muted f i (mapGetD gn.dst i 0) (mapGetD new.dst i (List.replicate s.spt 0))
    let b := so.muted f i (mapGetD go.dst i 0) (mapGetD old.dst i (List.replicate s.spt 0))
    let skN := rtSkim (s.route i)
    let skO := rtSkim (so.route i)
    if cone (objNo 5 i) then
      { entry := i
        samples := (List.range s.spt).map fun k =>
          let (wn, wo) := s.weights f k
          (toSample 60 (quad33 (atD a k 0) wn + quad33 (atD b k 0) wo)).1
        skim := if skN || skO then (List.range s.spt).map fun k =>
            let (wn, wo) := s.weights f k
            (if skN then wn else 0) + (if skO then wo else 0)
          else []
        skimE := if skN then skimWord s i else skimWord so i }
    else { entry := i, samples := a }

/-! ### A die's frame -/

/-- The signal processing of a die. -/
def State.dsp (s : State) (d : Nat) : DspS := if d = 0 then s.dsp0 else s.dsp1
/-- Set it. -/
def State.setDsp (s : State) (d : Nat) (x : DspS) : State := if d = 0 then { s with dsp0 := x } else { s with dsp1 := x }

/-- Whether a lane or cluster of die d counts: in Duplex its own die, else every one. -/
def State.countsOn (s : State) (d cluster : Nat) : Bool := !s.duplex || cluster / 16 == d

/-- The instances that serve an object, in the plan's order, with the kernel of the object that each runs: the b-th
biquad runs slot b. [DEDUCED, log 103] -/
def servers (p : PlanImage) (obj : Nat) : List (Nat × Nat) :=
  let mine := p.insts.zipIdx.filter fun x => x.1.objs.contains obj
  let isBq (k : Kernel) : Bool := match k with
    | .biquad _ => true
    | _ => false
  mine.zipIdx.map fun (x, j) =>
    (x.2, match x.1.kernel with
      | .gain => kGain
      | .highPass => kHigh
      | .biquad _ => kBiquad ((mine.take j).filter fun y => isBq y.1.kernel).length
      | .fir _ _ => kFir
      | .delay _ => kDelay
      | .delayDram => kDelay
      | .column _ => kColumn
      | .columnRamp _ => kColumn
      | .rmsLimiter => kRms
      | .peakLimiter => kPeak
      | .meter => kMeter
      | .blend => kLast
      | .custom _ _ _ _ => kLast)

/-- The lane on which a graph runs an instance: the topcoat's instances run on `instLane`, the copies that a new graph
has on `copyLane` (R966). -/
def State.runLane (s : State) (p : PlanImage) (copies : List Nat) (i : Nat) : Option Nat :=
  if copies.contains i then s.copyLane p i else s.instLane p i

/-- Lanes whose replay was refused in the frame run nothing more (R283). -/
def State.barred (s : State) (l : Nat) : Bool :=
  s.eng.decided.any fun q => q.1.lane == l && q.2.isNone

/-- Logical lanes of die d whose outputs hold in the frame: those whose replay was refused, and those of clusters that
overran (R49, R53). -/
def State.laneHolds (s : State) (d l : Nat) : Bool :=
  s.countsOn d (l / 8) && (s.barred l || s.eng.overrun.contains (l / 8))

/-- Whether the output of a kernel of an object holds in the frame on die d, in the graph that runs some copies; `kLast`
asks for the object's last instance (R49, R53, R283). [DEDUCED, log 103] -/
def State.held (s : State) (d : Nat) (copies : List Nat) (obj k : Nat) : Bool := match s.plan.image with
  | none => false
  | some p =>
    let mine := servers p obj
    (if k = kLast then mine.getLast?.toList else mine.filter fun x => x.2 == k).any fun x =>
      (s.runLane p copies x.1).any (s.laneHolds d)

/-- Instances that the new graph of the transaction in progress runs as copies (R966). -/
def State.newCopies (s : State) : List Nat := match s.plan.image with
  | some p => if s.ls = 2 then changeCone p ((s.old.map fun o => o.cone).getD []) else changeCone p s.lView.changed
  | none => []

/-- Objects of clusters whose DRAM prefetch was missed, alternate schedules observed (R313). -/
def State.missObjs (s : State) : List Nat := match s.plan.image with
  | none => []
  | some p => ((p.insts.zipIdx.filter fun x => (s.instLane p x.2).any fun l => s.eng.pfMiss.contains (l / 8)).map fun x =>
      x.1.objs).flatten

/-- The last sample of each staged block. -/
def lastSamples (t : Tbl Int) (blocks : List DestBlock) : Tbl Int :=
  blocks.foldl (fun (t : Tbl Int) b => mapSet t b.entry (b.samples.getLastD 0)) t

/-- The blocks of a frame in which the destinations whose last instance holds repeat the last sample staged for the frame
before, whatever mutes and crossfades do (R49, R53). [DEDUCED, log 103] -/
def State.holdBlocks (s : State) (d : Nat) (copies : List Nat) (dlast : Tbl Int) (blocks : List DestBlock) : List DestBlock :=
  blocks.map fun b =>
    if s.held d [] (objNo 5 b.entry) kLast || s.held d copies (objNo 5 b.entry) kLast then
      { b with samples := b.samples.map fun _ => mapGetD dlast b.entry 0 }
    else b

/-- The mean square of a meter after a block, with 60 fraction bits: a first-order average with the fixed 300 ms time
constant (R160). [DEDUCED, log 10] -/
def meterMs (fs : Nat) (ms : Nat) (xs : List Int) : Nat :=
  let c := (expNeg33 10 (3 * fs)).toNat
  xs.foldl (fun a x => (smooth c a (x * x)).toNat) ms

/-- The meters that a frame leaves pending: one for every strip and every tap of the plan; a meter that holds keeps the
values that it published last (R49, R53, R159, R160). -/
def State.pendMeters (s : State) (d f : Nat) (copies : List Nat) (o : GraphOut) (blocks : List DestBlock) : Tbl MeterR :=
  let one (key sat : Nat) (gr : Int) (xs : List Int) : Nat × MeterR :=
    let old := mapGetD s.meters key {}
    let ms := meterMs s.fs old.ms xs
    if key < objNo 2 0 && s.held d copies (key + 65536) kMeter then (key, { old with sat := sat, frame := f % 2 ^ 32 }) else
    (key, {
      peak := xs.foldl (fun a x => max a x.natAbs) 0
      ms := ms, rms := rootQuot ms 1
      gr := gr, sat := sat, frame := f % 2 ^ 32 })
  let taps := (List.range (s.rd (Reg.GRAPH.RTPART.COUNT 5))).map fun t =>
    let i := s.rd (Reg.GRAPH.RTPART.BASE 5) + t
    one (objNo 2 t) 0 one33 (((blocks.find? fun b => b.entry == i).map fun b => b.samples).getD (List.replicate s.spt 0))
  (o.met.map fun (k, n, gr, xs) => one k n gr xs) ++ taps

/-- The state from which the new graph runs: as primed, else a copy of the topcoat's, so that filter histories,
delay lines, detectors and envelopes go on (R142, R146, R148, R157, R385). [DEDUCED, log 41] -/
def DspS.newStart (x : DspS) : GraphS := x.new.getD x.g

/-- What die d computes of frame f: its kept state with the pending meters, and the blocks to stage.  From
the launch frame on the new graph runs whole, so that feathers act outside the cone too (R85, R102); with
crossfade length 0 it takes over after the frame before (R101). [DESIGN CHOICE, log 25] -/
def State.dieFrame (s : State) (d f : Nat) : DspS × List DestBlock :=
  let x := s.dsp d
  let copies := s.newCopies
  let run : GraphRun := { frame := f, held := s.held d [], miss := s.missObjs.contains }
  let runN : GraphRun := { run with held := s.held d copies }
  let old := match s.old with
    | some o => o.cone
    | none => []
  let done (v : State) (cs : List Nat) (o : GraphOut) (start g : GraphS) (new : Option GraphS) (bs : List DestBlock) :
      DspS × List DestBlock :=
    let blocks := s.holdBlocks d cs x.dlast bs
    ({ g := g, new := new, dlast := lastSamples x.dlast blocks, pend := v.pendMeters d f cs o blocks, hits := v.hitsOf f start o }, blocks)
  if s.ls = 2 && decide (s.launchTick ≤ f) then
    let cone := s.inCone old
    let x0 := s.rd Reg.TXN.XFADE.X
    let start := x.newStart
    let o := s.asOld.runGraph run x.g
    let n := s.runGraph runN start
    let last := decide (s.launchTick + x0 ≤ f + 1)
    done s copies n start (if last then n.g else o.g) (if last then none else some n.g)
      (if x0 = 0 then s.blocksOf f start n else s.blend f cone x.g start o n)
  else if s.ls = 2 then
    let so := s.asOld
    let o := so.runGraph run x.g
    let n := s.runGraph { runN with share := some (o, s.inCone old) } x.newStart
    let ends := s.rd Reg.TXN.XFADE.X = 0 && f + 1 == s.launchTick
    done so [] o x.g (if ends then n.g else o.g) (if ends then none else some n.g) (so.blocksOf f x.g o)
  else
    let o := s.runGraph run x.g
    let new : Option GraphS :=
      if s.ls = 1 && s.txn.priming then
        let sn := s.asNew
        some (sn.runGraph { runN with share := some (o, sn.inCone s.lView.changed) } x.newStart).g
      else none
    done s [] o x.g o.g new (s.blocksOf f x.g o)

/-- Meters of the objects that only instances on a die feed: keys of the records. -/
def diesMeters (p : PlanImage) (d : Nat) (key : Nat) : Bool :=
  let obj := if key < objNo 2 0 then key + 65536 else key
  let mine := p.insts.filter fun x => x.objs.contains obj
  !mine.isEmpty && mine.all fun x => x.lane / 128 == d

/-- Publish the pending meters of the dies whose block is released, once: in Duplex those of that die, else those of the
strips that the dies gone do not run (R158, R160, R273, R337). [DEDUCED, log 104] -/
def State.publishMeters (s : State) (dies : List Nat) : State :=
  let d := if s.duplex then dies.headD 0 else 0
  let gone (k : Nat) : Bool := !s.duplex && ([0, 1].filter fun e => !dies.contains e).any fun e =>
    (s.plan.image.map fun p => diesMeters p e k).getD false
  let due := if dies.isEmpty then [] else (s.dsp d).pend.filter fun e => !gone e.1
  let s1 := due.foldl (fun (a : State) (k, m) =>
    let old := (mapGetD a.meters k {}).sat
    { a with meters := mapSet a.meters k { m with sat := satAdd old m.sat 65535 } }) s
  { s1 with dsp0 := { s1.dsp0 with pend := [] }, dsp1 := { s1.dsp1 with pend := [] } }

/-! ### Queries (R160, R703 to R705) -/

/-- The four containers of a meter record (Table 3.8). -/
def MeterR.bytes (m : MeterR) : List Byte :=
  le 8 m.peak ++ le 8 m.rms ++ le 8 (ofInt 36 m.gr) ++ le 8 (m.sat + m.frame * 65536)

/-- METER (R160, R703). -/
def meterRes (d : Desc) (s : State) : Res :=
  let count := [s.rd Reg.GRAPH.SIZE.INS, s.rd Reg.GRAPH.SIZE.OUTS, 64].getD d.a0 0
  if 3 ≤ d.a0 then badDesc s 48
  else if count ≤ d.a1 then badDesc s 52
  else
    let k := objNo d.a0 d.a1
    let m := mapGetD s.meters k {}
    let s1 : State := if d.flags % 2 = 1 then { s with meters := mapSet s.meters k { m with sat := 0 } } else s
    okRes s1 [] m.bytes

/-- TAP_CAPTURE (R704): the capture runs from the first frame whose weir flip follows. [DEDUCED, log 72] -/
def tapRes (d : Desc) (s : State) : Res :=
  if 64 ≤ d.a0 then badDesc s 48
  else if d.a1 = 0 || 65536 < d.a1 then badDesc s 52
  else if d.rlen < 8 * d.a1 then badDesc s 36
  else longRes { s with caps := mapSet s.caps d.ring { tap := d.a0, want := d.a1, start := 0 } }

/-- A released frame's samples go to the captures that run (R704). [DEDUCED, log 72] -/
def State.feedCaps (s : State) (f : Nat) : State :=
  s.caps.foldl (fun (a : State) (r, c) =>
    let xs := match (a.eng.released.find? (fun b => a.partOf b.entry == some (5, c.tap))) with
      | some b => b.samples
      | none => List.replicate a.spt 0
    let start := if c.got.isEmpty then f else c.start
    let got := (c.got ++ xs).take c.want
    if c.want ≤ got.length then
      let b : State := { a with caps := mapErase a.caps r }
      b.finish r stOk (le 8 start) ((got.map (fun x => le 8 (ofInt 36 x))).flatten)
    else { a with caps := mapSet a.caps r { c with start := start, got := got } }) s

/-- OBJ_READ (R705). -/
def objReadRes (d : Desc) (s : State) : Res :=
  if d.a0 = 0 || 4 < d.a0 then badDesc s 48
  else if !s.objExists d.a0 d.a1 then badDesc s 52
  else if d.rlen % 8 ≠ 0 then badDesc s 36
  else
    okRes s [] (((List.range (d.rlen / 8)).map fun j =>
      le 8 (if s.wordExists d.a0 d.a1 (d.a2 + j) then s.param (keyParam d.a0 d.a1 (d.a2 + j)) else 0)).flatten)

/-- METER (R160). -/
def execMeter (d : Desc) (s : State) : Out := .next (hostCmd 0x70 roleM d (meterRes d) s)
/-- TAP_CAPTURE (R704). -/
def execTapCapture (d : Desc) (s : State) : Out := .next (hostCmd 0x71 roleM d (tapRes d) s)
/-- OBJ_READ (R705). -/
def execObjRead (d : Desc) (s : State) : Out := .next (hostCmd 0x72 roleM d (objReadRes d) s)

end Sys2Proof.Machine
end

