-- ==== Sys2Proof/Machine/Lanes.lean ====
section
/-! DEFINITION. The Dranko lanes: bundles, lane memory, the state window, import lines, kernel runs,
lane faults, checkpoints and region memory (chapter 04). -/
namespace Sys2Proof.Machine

/-! ### Access to lanes -/

/-- A physical position's lane. -/
def State.laneP (s : State) (p : Nat) : LaneP := mapGetD s.lanes.pos p {}
/-- Set a physical position's lane. -/
def State.setLaneP (s : State) (p : Nat) (x : LaneP) : State :=
  { s with lanes := { s.lanes with pos := mapSet s.lanes.pos p x } }
/-- A logical lane. -/
def State.logl (s : State) (k : Nat) : LogL := mapGetD s.lanes.logl k {}
/-- Set a logical lane. -/
def State.setLogl (s : State) (k : Nat) (x : LogL) : State :=
  { s with lanes := { s.lanes with logl := mapSet s.lanes.logl k x } }
/-- A cluster's instruction memory and kernel table. -/
def State.cluMem (s : State) (c : Nat) : CluMem := mapGetD s.lanes.cl c {}

/-- A word of lane memory; a word that nothing has written reads 0 (log entry 3). -/
def laneRead (m : Tbl Word36) (a : Nat) : Word36 := tblGet (fun _ => 0) m a
/-- Write a word of lane memory. -/
def laneWrite (m : Tbl Word36) (a : Nat) (v : Word36) : Tbl Word36 := tblSet (fun _ => 0) m a v

/-- Bits of a stored word that upset: 36 bits of the word and 7 check bits (R175). -/
def flipBits (mask : Nat) (bits : List Nat) : Nat := bits.foldl (fun m b => if b < 43 then m ^^^ 2 ^ b else m) mask

/-- What the check bits make of a word's upset bits: one is corrected, two are detected; that more are detected is taken
(R175, R176). [DESIGN CHOICE, log 91] -/
def eccOf (mask : Nat) : Ecc :=
  match ((List.range 43).filter mask.testBit).length with
  | 0 => .ok
  | 1 => .corrected
  | _ => .bad

/-- Upset bits in words of lane memory: each bit flips once more. -/
def LaneP.upsetAt (x : LaneP) (a : Nat) (bits : List Nat) : LaneP :=
  if bits.isEmpty then x else { x with upset := mapSet x.upset a (flipBits (mapGetD x.upset a 0) bits) }

/-- How a read of a word of lane memory goes. -/
def LaneP.eccAt (x : LaneP) (a : Nat) : Ecc := eccOf (mapGetD x.upset a 0)

/-- Words of lane memory are written: their check bits are made anew. -/
def LaneP.fresh (x : LaneP) (as : List Nat) : LaneP := { x with upset := as.foldl mapErase x.upset }

/-! ### Results on their way (R203, R204) -/

/-- Make one result visible. -/
def LaneP.apply (x : LaneP) (w : LaneWr) : LaneP :=
  let part (lo n v : Nat) (acc : Int) : Int :=
    let u := ofInt 80 acc
    toInt 80 (u % 2 ^ lo + v % 2 ^ n * 2 ^ lo + u / 2 ^ (lo + n) * 2 ^ (lo + n))
  match w with
  | .d i v => { x with d := x.d.set i v }
  | .a i v => { x with a := x.a.set i v }
  | .o i v => { x with o := x.o.set i v }
  | .b i v => { x with b := x.b.set i v }
  | .l i v => { x with l := x.l.set i v }
  | .accM i v => { x with accM := x.accM.set i v }
  | .accR i v => { x with accR := x.accR.set i v }
  | .accPart i lo w v =>
    { x with accM := modAt x.accM i (part lo w v), accR := modAt x.accR i (part lo w v) }

/-- Results that are due at a lane cycle become visible in R204's order: X load, Y load, C op, M op; of two results of
one slot the one that the later bundle issued stands.  Where a post-modify meets a load is open
(`Config.postStands`).  [DESIGN CHOICE, log 28] -/
def LaneP.mature (x : LaneP) (cyc : Nat) : LaneP :=
  let due := x.pend.filter fun q => decide (q.due ≤ cyc)
  let order := if Config.postStands then [1, 2, 0, 3, 4] else [0, 1, 2, 3, 4]
  let sorted := (order.map fun r => due.filter fun q => q.rank == r).flatten
  sorted.foldl (fun (a : LaneP) q => a.apply q.wr) { x with pend := x.pend.filter fun q => decide (cyc < q.due) }

/-- Issue a result that becomes readable `n` cycles on. -/
def LaneP.later (x : LaneP) (n rank : Nat) (w : LaneWr) : LaneP :=
  { x with pend := x.pend ++ [⟨x.cyc + n, rank, w⟩] }

/-- An accumulator result: readable after 1 cycle by accumulating ops, after 4 by the others.  A WRACC that another
bundle issues meanwhile holds for accumulating ops, and this result, due later, then stands for the others: each
result stands from its own distance on (R203).  [DEDUCED, log 28] -/
def LaneP.accLater (x : LaneP) (i : Nat) (v : Int) : LaneP :=
  (x.later 1 4 (.accM i v)).later 4 4 (.accR i v)

/-! ### Arithmetic (R190 to R194) -/

/-- The range of an accumulator, and whether it saturated (R191). -/
def satAcc (v : Int) : Int × Nat :=
  if v < -(2 ^ 79 : Int) then (-(2 ^ 79 : Int), 1)
  else if (2 ^ 79 : Int) - 1 < v then ((2 ^ 79 : Int) - 1, 1)
  else (v, 0)

/-- Saturation of R116 to the sample range. -/
def sat36 (v : Int) : Word36 := BitVec.ofInt 36 (max (-(2 ^ 34 : Int)) (min v (2 ^ 34 - 1)))

/-- The signed low and high halves of a word, Q2.15. -/
def loHalf (x : Word36) : Int := (x.extractLsb' 0 18).toInt
/-- The upper half. -/
def hiHalf (x : Word36) : Int := (x.extractLsb' 18 18).toInt

/-- The largest result of RCP and RSQ, 4.0 - 2^-33 (R194). -/
def rcpTop : Nat := 2 ^ 35 - 1

/-- Whether a result of RCP keeps R194's bound: v against 2^63 / x, or saturated. -/
def rcpOk (x v : Nat) : Bool :=
  decide (v ≤ rcpTop) && decide (2 ^ 26 * v * x < (2 ^ 26 + 1) * 2 ^ 63) &&
    (v == rcpTop || decide ((2 ^ 26 - 1) * 2 ^ 63 < 2 ^ 26 * v * x))

/-- Whether a result of RSQ keeps R194's bound: v^2 against 2^96 / x, or saturated. -/
def rsqOk (x v : Nat) : Bool :=
  decide (v ≤ rcpTop) && decide ((2 ^ 26 * v) ^ 2 * x < (2 ^ 26 + 1) ^ 2 * 2 ^ 96) &&
    (v == rcpTop || decide ((2 ^ 26 - 1) ^ 2 * 2 ^ 96 < (2 ^ 26 * v) ^ 2 * x))

/-- RCP: the value of R194 within its bound; which one is open. -/
def rcp (x : Word36) : Word36 :=
  if x.toInt ≤ 0 then BitVec.ofNat 36 rcpTop
  else if rcpOk x.toNat (Config.laneRcp x).toNat then Config.laneRcp x
  else BitVec.ofNat 36 (min rcpTop (2 ^ 63 / x.toNat))

/-- RSQ: the value of R194 within its bound; which one is open. -/
def rsq (x : Word36) : Word36 :=
  if x.toInt ≤ 0 then BitVec.ofNat 36 rcpTop
  else if rsqOk x.toNat (Config.laneRsq x).toNat then Config.laneRsq x
  else BitVec.ofNat 36 (min rcpTop (Nat.sqrt (2 ^ 96 / x.toNat)))

/-! ### Fields of a bundle (Tables 4.5 and 4.6) -/

/-- Bits of a bundle. -/
def bField (w : BitVec 64) (lo n : Nat) : Nat := w.toNat / 2 ^ lo % 2 ^ n

/-- An address op (X or Y slot). -/
structure AddrOp where
  kind : Nat
  areg : Nat
  oreg : Nat
  ce : Bool
  cp : Nat
  reg : Nat
  deriving DecidableEq, Repr

/-- The address op in a 16-bit slot. -/
def addrOp (w : BitVec 64) (lo : Nat) : AddrOp :=
  { kind := bField w (lo + 13) 3, areg := bField w (lo + 10) 3, oreg := bField w (lo + 7) 3
    ce := bField w (lo + 6) 1 == 1, cp := bField w (lo + 4) 2, reg := bField w lo 4 }

/-- Loads of an address op: LD, LDA, LDB. -/
def AddrOp.loads (o : AddrOp) : Bool := o.kind == 1 || o.kind == 3 || o.kind == 5
/-- Stores of an address op: ST, STA, STB. -/
def AddrOp.stores (o : AddrOp) : Bool := o.kind == 2 || o.kind == 4 || o.kind == 6
/-- Whether the op makes an access. -/
def AddrOp.accesses (o : AddrOp) : Bool := o.loads || o.stores
/-- LDB or STB with REG from 8 to 15 (R202). -/
def AddrOp.bad (o : AddrOp) : Bool := (o.kind == 5 || o.kind == 6) && decide (8 ≤ o.reg)
/-- Whether the op writes A6 (R214). [DEDUCED, log 29] -/
def AddrOp.writesA6 (o : AddrOp) : Bool := (o.kind != 0 && o.areg == 6) || (o.kind == 3 && o.reg == 6)

/-- Whether an M slot is of a multiply op. -/
def isMul (op : Nat) : Bool := decide (1 ≤ op) && decide (op ≤ 7)
/-- Whether an opcode is listed in Table 4.7. -/
def mListed (op : Nat) : Bool :=
  decide (op ≤ 0x0A) || (decide (0x10 ≤ op) && decide (op ≤ 0x16)) || (decide (0x18 ≤ op) && decide (op ≤ 0x1C)) ||
    op == 0x20 || op == 0x21

/-- The ILL conditions that stand in the bundle itself (R201, R202). -/
def illBits (w : BitVec 64) : Bool :=
  let op := bField w 14 6
  let cop := bField w 60 4
  !mListed op || decide (0x9 < cop) || (addrOp w 20).bad || (addrOp w 36).bad ||
    ((op == 3 || op == 4 || op == 5) && bField w 12 2 % 2 == 1) ||
    (isMul op && bField w 0 2 != 0) || ((cop == 7 || cop == 9) && bField w 52 8 != 0)

/-- The ILL conditions of the lane's control state (R206, R213, R214).  A bundle that a loop body may not hold faults when it
issues, not the LOOP or REP before it. [DESIGN CHOICE, log 98] -/
def illCtl (x : LaneP) (w : BitVec 64) : Bool :=
  let cop := bField w 60 4
  let loop := cop == 4 || cop == 5
  let jumps := decide (6 ≤ cop) && decide (cop ≤ 9)
  (loop && decide (2 ≤ x.loops.length)) || (jumps && !x.loops.isEmpty) ||
    (cop == 4 && decide (toInt 16 (atD x.o (bField w 57 3) 0) ≤ 0)) ||
    ((cop == 6 || cop == 9) && x.run.isSome) || (cop == 7 && x.run.isNone) ||
    (x.run.isSome && cop != 7 && ((addrOp w 20).writesA6 || (addrOp w 36).writesA6))

/-! ### Lane addresses (Table 4.2, R177 to R179, R183, R184) -/

/-- Whether an address is an ADDR fault: outside Table 4.2 or in the twin range of the window. -/
def addrFault (k : LogL) (a : Nat) : Bool :=
  decide (0x8040 ≤ a) || (decide (k.sched.sb + k.sched.sn ≤ a) && decide (a < k.sched.sb + 2 * k.sched.sn))

/-- The word that a program load from an address below 0x8000 reads (R177). -/
def loadAt (k : LogL) (a : Nat) : Nat :=
  if k.sched.sb ≤ a ∧ a < k.sched.sb + k.sched.sn then a + k.bank * k.sched.sn else a
/-- The word that a program store to an address below 0x8000 writes (R178). -/
def storeAt (k : LogL) (a : Nat) : Nat :=
  if k.sched.sb ≤ a ∧ a < k.sched.sb + k.sched.sn then a + (1 - k.bank) * k.sched.sn else a

/-- The address register after its post-modify (R197, R198). -/
def postMod (x : LaneP) (o : AddrOp) (a : Nat) : Nat :=
  let ofs := toInt 16 (atD x.o o.oreg 0)
  let v : Int := a + ofs
  let b : Int := atD x.b o.cp 0
  let len : Int := atD x.l o.cp 0
  let w : Int := if o.ce && len != 0 then (if b + len ≤ v then v - len else if v < b then v + len else v) else v
  (w % 65536).toNat

/-- The word that a store op stores; STA and STB of 16-bit registers leave the upper bits open.
[DESIGN CHOICE, log 28] -/
def storeWord (x : LaneP) (o : AddrOp) : Word36 :=
  let r16 (v : Nat) : Word36 := BitVec.ofNat 36 (v % 65536 + Config.storeHigh v % 2 ^ 20 * 65536)
  if o.kind = 2 then atD x.d o.reg 0
  else if o.kind = 4 then r16 (if o.reg < 8 then atD x.a o.reg 0 else atD x.o (o.reg - 8) 0)
  else r16 (if o.reg < 4 then atD x.b o.reg 0 else atD x.l (o.reg - 4) 0)

/-- The register write of a load op. [DESIGN CHOICE, log 28] -/
def loadWr (o : AddrOp) (v : Word36) : LaneWr :=
  let h := v.toNat % 65536
  if o.kind = 1 then .d o.reg v
  else if o.kind = 3 then (if o.reg < 8 then .a o.reg h else .o (o.reg - 8) h)
  else (if o.reg < 4 then .b o.reg h else .l (o.reg - 4) h)

/-! ### Slots -/

/-- A running bundle: the lane, its logical lane and saturations counted. -/
structure Issue where
  x : LaneP
  k : LogL
  sat : Nat := 0
  deriving DecidableEq, Repr

/-- Add an element to a list that holds it at most once. -/
def addTo (l : List Nat) (n : Nat) : List Nat := if l.contains n then l else l ++ [n]

/-- One slot's access at an address, with `old` the lane as the bundle began (R174, R183, R205). -/
def doAccess (old : LaneP) (o : AddrOp) (rank a : Nat) (i : Issue) : Issue :=
  if o.loads then
    let v : Word36 := if 0x8000 ≤ a then 0 else laneRead i.x.mem (loadAt i.k a)
    { i with x := i.x.later 2 rank (loadWr o v) }
  else if o.stores then
    let v := storeWord old o
    if 0x8000 ≤ a then { i with k := { i.k with ports := mapSet i.k.ports (a - 0x8000) v } }
    else
      let n := storeAt i.k a
      { i with x := { i.x with mem := laneWrite i.x.mem n v, written := addTo i.x.written (n / 8) }.fresh [n] }
  else i

/-- The address of each slot: Y uses the value after X's post-modify of the same register (R199). -/
def slotAddrs (x : LaneP) (ox oy : AddrOp) : Nat × Nat :=
  let ax := atD x.a ox.areg 0
  let ay := if ox.kind != 0 && ox.areg == oy.areg then postMod x ox ax else atD x.a oy.areg 0
  (ax, ay)

/-- Both address slots: accesses, X first, then the post-modifies (R174, R197 to R199). [DEDUCED, log 29] -/
def doAddr (ox oy : AddrOp) (i : Issue) : Issue :=
  let x := i.x
  let (ax, ay) := slotAddrs x ox oy
  let i1 := doAccess x ox 1 ax i
  let i2 := doAccess x oy 2 ay i1
  let i3 := if ox.kind = 0 then i2 else { i2 with x := i2.x.later 1 0 (.a ox.areg (postMod x ox ax)) }
  if oy.kind = 0 then i3 else { i3 with x := i3.x.later 1 0 (.a oy.areg (postMod x oy ay)) }

/-- Write an accumulator result, saturated and counted (R191). -/
def putAcc (i : Issue) (a : Nat) (v : Int) : Issue :=
  let (w, n) := satAcc v
  if a < 4 then { i with x := i.x.accLater a w, sat := i.sat + n } else i

/-- The ALU, logic, shift and special ops (Table 4.7, R193, R194): none for CMOV of a non-negative X. -/
def aluOp (op : Nat) (x y : Word36) : Option Word36 :=
  let n := y.toNat % 64
  match op with
  | 0x10 => some (sat36 (x.toInt + y.toInt))
  | 0x11 => some (sat36 (x.toInt - y.toInt))
  | 0x12 => some (sat36 (x.toInt.natAbs : Int))
  | 0x13 => some (sat36 (-x.toInt))
  | 0x14 => some (if x.toInt ≤ y.toInt then x else y)
  | 0x15 => some (if x.toInt ≤ y.toInt then y else x)
  | 0x16 => if x.toInt < 0 then some y else none
  | 0x18 => some (x &&& y)
  | 0x19 => some (x ||| y)
  | 0x1A => some (x ^^^ y)
  | 0x1B => some (sat36 (x.toInt * 2 ^ n))
  | 0x1C => some (BitVec.ofInt 36 (x.toInt / 2 ^ n))
  | 0x20 => some (rcp x)
  | 0x21 => some (rsq x)
  | _ => none

/-- The M slot, over the lane as the bundle began (Tables 4.4 and 4.7). [DEDUCED, log 29] -/
def doArith (old : LaneP) (w : BitVec 64) (i : Issue) : Issue :=
  let op := bField w 14 6
  let a := bField w 12 2
  let x : Word36 := atD old.d (bField w 8 4) 0
  let y : Word36 := atD old.d (bField w 4 4) 0
  let sg : Int := if bField w 3 1 = 1 then -1 else 1
  let aln := bField w 2 1 == 1
  let m (j : Nat) : Int := atD old.accM j 0
  let r (j : Nat) : Int := atD old.accR j 0
  let q : Int := if aln then (sg * x.toInt * y.toInt) / 8 else sg * x.toInt * y.toInt
  let p (h : Int) : Int := sg * x.toInt * h * 2 ^ 15
  let sp (u v : Int) : Int := u * v * 2 ^ 30
  let seen (j : Issue) : Issue := { j with x := { j.x with yp := y } }
  match op with
  | 0x01 => putAcc i a q
  | 0x02 => putAcc i a (m a + q)
  | 0x03 => seen (putAcc (putAcc i a (p (loHalf y))) (a + 1) (p (hiHalf y)))
  | 0x04 => seen (putAcc (putAcc i a (m a + p (loHalf y))) (a + 1) (m (a + 1) + p (hiHalf y)))
  | 0x05 => seen (putAcc (putAcc i a (m a + p (hiHalf old.yp))) (a + 1) (m (a + 1) + p (loHalf y)))
  | 0x06 =>
    putAcc (putAcc (putAcc (putAcc i 0 (m 0 + sp (loHalf x) (loHalf y))) 1 (m 1 + sp (loHalf x) (hiHalf y)))
      2 (m 2 + sp (hiHalf x) (loHalf y))) 3 (m 3 + sp (hiHalf x) (hiHalf y))
  | 0x07 =>
    putAcc (putAcc i a (m a + sp (loHalf x) (loHalf y) + sp (hiHalf x) (hiHalf y)))
      (a + 1) (m (a + 1) + sp (loHalf x) (hiHalf y) + sp (hiHalf x) (loHalf y))
  | 0x08 => putAcc i a (r a + r (bField w 8 2))
  | 0x09 => putAcc i a (r a - r (bField w 8 2))
  | 0x0A => putAcc i a 0
  | _ =>
    match aluOp op x y with
    | some v => { i with x := i.x.later (if op = 0x20 ∨ op = 0x21 then 6 else 2) 4 (.d (bField w 0 4) v) }
    | none => i

/-- RDACC of an accumulator in a mode (R192, Table 4.8). -/
def rdAcc (v : Int) (mode : Nat) : Word36 :=
  let u := ofInt 80 v
  match mode with
  | 0 => sat36 (roundDiv v (2 ^ 30))
  | 1 => BitVec.ofNat 36 (u % 2 ^ 36)
  | 2 => BitVec.ofNat 36 (u / 2 ^ 36 % 2 ^ 36)
  | _ => BitVec.ofInt 36 (toInt 8 (u / 2 ^ 72 % 2 ^ 8))

/-- The C slot's register effects and WRACC (Table 4.8). -/
def doMove (old : LaneP) (w : BitVec 64) (i : Issue) : Issue :=
  let arg := bField w 52 8
  let d : Word36 := atD old.d (arg % 16) 0
  let a := arg / 64
  let mode := arg / 16 % 4
  match bField w 60 4 with
  | 1 => { i with x := i.x.later 2 3 (.d (arg / 16) d) }
  | 2 => { i with x := i.x.later 2 3 (.d (arg % 16) (rdAcc (atD old.accR a 0) mode)) }
  | 3 =>
    match mode with
    | 0 => { i with x := (i.x.later 2 3 (.accM a (d.toInt * 2 ^ 30))).later 2 3 (.accR a (d.toInt * 2 ^ 30)) }
    | 1 => { i with x := i.x.later 2 3 (.accPart a 0 36 d.toNat) }
    | 2 => { i with x := i.x.later 2 3 (.accPart a 36 36 d.toNat) }
    | _ => { i with x := i.x.later 2 3 (.accPart a 72 8 d.toNat) }
  | _ => i

/-- The fetch address after a bundle that ends at `pc`: the innermost loop that ends there runs again or is
left, then the next one out (R206, R207).  An inner body that reaches beyond the outer one's end leaves the outer loop
open. [DESIGN CHOICE, log 99] -/
def nextFetch (pc : Nat) : List LaneLoop → Nat × List LaneLoop
  | [] => ((pc + 1) % 16384, [])
  | l :: r =>
    if l.last = pc then
      if 2 ≤ l.left then (l.first, { l with left := l.left - 1 } :: r) else nextFetch pc r
    else ((pc + 1) % 16384, l :: r)

/-- Fields of a kernel table entry (Table 4.10). -/
def kentry (e : BitVec 64) : Nat × Nat × Nat × Nat := (bField e 0 14, bField e 16 16, bField e 32 16, bField e 48 8)

/-- Control flow of a bundle (R206 to R215); the loop conditions hold. [DEDUCED, log 29] -/
def doFlow (kern : Tbl (BitVec 64)) (spt : Nat) (old : LaneP) (w : BitVec 64) (x : LaneP) : LaneP :=
  let arg := bField w 52 8
  let pc := old.pc
  let on (x : LaneP) : LaneP := let (p, ls) := nextFetch pc x.loops; { x with pc := p, loops := ls }
  match bField w 60 4 with
  | 4 => { x with
      pc := (pc + 1) % 16384
      loops := ⟨(pc + 1) % 16384, (pc + 1 + arg % 32) % 16384, (toInt 16 (atD old.o (arg / 32) 0)).toNat⟩ :: x.loops }
  | 5 => { x with
      pc := (pc + 1) % 16384
      loops := ⟨(pc + 1) % 16384, (pc + 1) % 16384, arg + 1⟩ :: x.loops }
  | 6 =>
    let (entry, f, p, dlen) := kentry (tblGet (fun _ => 0) kern arg)
    let a6 := atD old.a 6 0
    { (x.later 1 3 (.a 7 a6)).later 1 3 (.a 6 ((a6 + dlen) % 65536)) with
      pc := entry
      run := some ⟨(pc + 1) % 16384, old.cyc, f + p * spt⟩ }
  | 7 => { x with pc := ((x.run.map fun r => r.ret).getD (pc + 1)), run := none }
  | 8 => { x with pc := ((pc + 1 + (toInt 8 arg % 16384).toNat) % 16384) }
  | 9 => { x with halted := true }
  | _ => on x

/-! ### Region memory, substitutes and faults (R217 to R219, R276, R277) -/

/-- Words of a region in the table's key. -/
def regionKey (region w : Nat) : Nat := region * 2097152 + w

/-- A word of region memory. -/
def State.regionWord (s : State) (key : Nat) : Word36 := laneRead s.lanes.region key
/-- Write words of region memory. -/
def State.setRegion (s : State) (l : List (Nat × Word36)) : State :=
  { s with lanes := { s.lanes with region := l.foldl (fun m e => laneWrite m e.1 e.2) s.lanes.region } }

/-- The export of a logical lane that a region word belongs to: S words from its first. -/
def exportOf (k : LogL) (spt w : Nat) : Option Nat := k.sched.exports.findIdx? fun b => decide (b ≤ w ∧ w < b + spt)

/-- Fill region lines that a logical lane exports with the last committed sample of each export (R276). -/
def State.fillExports (s : State) (kid : Nat) (lines : List Nat) : State :=
  let k := s.logl kid
  s.setRegion (((lines.map fun l => (List.range 8).map fun i => l * 8 + i).flatten).filterMap fun w =>
    (exportOf k s.spt w).map fun j => (regionKey (kid / 32) w, mapGetD k.last j 0))

/-- Every line that holds words of a logical lane's exports. -/
def exportLines (k : LogL) (spt : Nat) : List Nat :=
  (k.sched.exports.map fun b => (List.range spt).map fun i => (b + i) / 8).flatten.eraseDups

/-- The last sample of each export as the frame leaves it (R276). -/
def State.commitExports (s : State) (kid : Nat) : Tbl Word36 :=
  (s.logl kid).sched.exports.zipIdx.map fun (b, j) => (j, s.regionWord (regionKey (kid / 32) (b + s.spt - 1)))

/-- A lane raises a fault: it stops, the exports that its pass has not transferred take substitutes, the cluster
records the report and requests a replay at this cycle; the fault counts against the physical lane. [DEDUCED, log 27] -/
def State.laneFault (s : State) (p cls : Nat) (x : LaneP) : State :=
  let c := p / 9
  let k := x.log.getD 0
  let s0 := s.fillExports k ((x.xfers.filter fun e => !e.toLane).map fun e => e.regionLine)
  let filled := (x.xfers.filter fun e => !e.toLane).map fun e => e.regionLine
  let s1 := s0.setLaneP p { x with
    faulted := true, halted := true, waiting := false, xfers := [], late := x.late.filter fun e => !filled.contains e.regionLine }
  let s2 := ((s1.wr (Reg.LANE.CL.FSTAT.CLASS c) cls).wr (Reg.LANE.CL.FSTAT.POS c) (p % 9)).wr
    (Reg.LANE.CL.FSTAT.LOG c) (k % 8)
  let s3 := s2.wr (Reg.LANE.CL.FSTAT.BADDR c) x.pc
  let s4 := s3.count (if cls = 1 then Reg.LANE.CL.FCNT.ARITH c else if cls = 2 then Reg.LANE.CL.FCNT.MEM c
    else if cls = 3 then Reg.LANE.CL.FCNT.CYCLE c else Reg.LANE.CL.FCNT.OTHER c)
  let s5 := s4.wr Reg.LANE.FSUM.FAULT (s4.rd Reg.LANE.FSUM.FAULT ||| 2 ^ c)
  let s6 := (s5.noteFault p).setClS c { s5.clS c with faulted := true }
  { s6 with eng := { s6.eng with faults := s6.eng.faults ++ [⟨p, k, cls, x.cyc⟩] } }

/-! ### Instruction memory (R220, R221, R235 step 4, R238) -/

/-- Set a cluster's instruction memory and kernel table. -/
def State.setCluMem (s : State) (c : Nat) (m : CluMem) : State :=
  { s with lanes := { s.lanes with cl := mapSet s.lanes.cl c m } }

/-- A bundle whose fetch failed waits for its repair (R221). -/
def State.markBad (s : State) (c pc : Nat) : State :=
  s.setCluMem c { s.cluMem c with bad := addTo (s.cluMem c).bad pc }

/-- The failing bundles of a cluster are rewritten from the plan's copy in region memory (R221). -/
def State.repairCode (s : State) (c : Nat) : State :=
  let m := s.cluMem c
  if m.bad.isEmpty then s
  else
    let seg := mapGetD s.lanes.seg c {}
    s.setCluMem c { m with code := m.bad.foldl (fun t a => mapSet t a (tblGet (fun _ => 0) seg.code a)) m.code, bad := [] }

/-- Fill a cluster's instruction memory and kernel table from region memory; `upsets` are bits that come out wrong, by
bundle (R235 step 4, R238). [DEDUCED, log 30] -/
def State.fillCode (s : State) (c : Nat) (upsets : List (Nat × BitVec 64)) : State :=
  let seg := mapGetD s.lanes.seg c {}
  let code := upsets.foldl (fun t e => mapSet t e.1 (tblGet (fun _ => 0) t e.1 ^^^ e.2)) seg.code
  s.setCluMem c { code := code, kern := seg.kern }

/-- CRC-32C over bundles in rising address order, each as 8 bytes with the lowest first.  The manual states no order
of bytes. [DESIGN CHOICE, log 80] -/
def codeCrc (l : List (BitVec 64)) : Word := crc32c ((l.map fun w => le 8 w.toNat).flatten)

/-- CRC-32C of a cluster's instruction memory, over the bundles that the plan uses.  [DESIGN CHOICE, log 80] -/
def State.memCrc (s : State) (c : Nat) : Word :=
  codeCrc ((List.range (s.rd (Reg.LANE.CL.IUSE.BUNDLES c))).map fun a => tblGet (fun _ => 0) (s.cluMem c).code a)

/-! ### Issue -/

/-- Whether a slot loads from an import line whose ready bit is clear (R183). -/
def waitsOn (x : LaneP) (o : AddrOp) (a : Nat) : Bool := o.loads && decide (a < 0x8000) && x.unready.contains (a / 8)
/-- Whether a slot stores to an import line whose ready bit is clear (R184). -/
def collides (x : LaneP) (o : AddrOp) (a : Nat) : Bool := o.stores && decide (a < 0x8000) && x.unready.contains (a / 8)

/-- The four slots of a bundle, over the lane as it began. [DEDUCED, log 27] -/
def runBundle (kern : Tbl (BitVec 64)) (spt : Nat) (w : BitVec 64) (x : LaneP) (k : LogL) : Issue :=
  let i1 := doAddr (addrOp w 20) (addrOp w 36) { x := x, k := k }
  let i3 := doArith x w (doMove x w i1)
  { i3 with x := doFlow kern spt x w i3.x }

/-- Whether a bundle uses a unit whose codes R195 and R196 check. -/
def checkedOp (w : BitVec 64) : Bool := bField w 14 6 != 0 || bField w 60 4 == 2 || bField w 60 4 == 3

/-- A lane whose main schedule has ended goes on with its priming (R243, R279, R385). [DEDUCED, log 81] -/
def goOn (x : LaneP) : LaneP :=
  if x.halted && !x.next.isEmpty then { x with halted := false, seq := some x.next, next := [] } else x

/-- A bundle that no import line holds up: its faults, else its effects (R200 to R218); corrected words are counted
one by one and rewritten in the guard window (R175). -/
def State.issue (s : State) (p : Nat) (hw : LaneHw) (x0 : LaneP) : State :=
  let c := p / 9
  let kid := x0.log.getD 0
  let k := s.logl kid
  let m := s.cluMem c
  let w := tblGet (fun _ => 0) m.code x0.pc
  let ox := addrOp w 20
  let oy := addrOp w 36
  let (ax, ay) := slotAddrs x0 ox oy
  let rx := ox.loads && decide (ax < 0x8000)
  let ry := oy.loads && decide (ay < 0x8000)
  let x1 := (if rx then x0.upsetAt (loadAt k ax) hw.x else x0)
  let x2 := (if ry then x1.upsetAt (loadAt k ay) hw.y else x1)
  let reads := (if rx then [loadAt k ax] else []) ++ (if ry then [loadAt k ay] else [])
  let fixed := reads.filter fun a => x2.eccAt a == .corrected
  let x := { x2 with fixes := fixed.foldl addTo x2.fixes }
  let s0 := if hw.fetch = .corrected then s.count (Reg.LANE.CL.CECC.IM c) else s
  let s1 := if fixed.isEmpty then s0 else s0.count (Reg.LANE.CL.CECC.LM c) fixed.length
  if hw.fetch = .bad || m.bad.contains x.pc then (s1.markBad c x.pc).laneFault p 6 x
  else if illBits w || illCtl x w then s1.laneFault p 5 x
  else if (ox.accesses && addrFault k ax) || (oy.accesses && addrFault k ay) then s1.laneFault p 4 x
  else if collides x ox ax || collides x oy ay then s1.laneFault p 7 x
  else if reads.any fun a => x.eccAt a == .bad then s1.laneFault p 2 x
  else
    let i := runBundle m.kern s.spt w x k
    let s2 := (s1.setLogl kid i.k).count (Reg.LANE.CL.ACCOVF.SAT c) i.sat
    let bad := match x.run with
      | some r => bField w 60 4 == 7 && x.cyc + 1 - r.since != r.expect
      | none => false
    let y := { i.x with waiting := false, cyc := x.cyc + 1 }
    if hw.mismatch && checkedOp w then s2.laneFault p 1 { y with pc := x.pc, cyc := x.cyc }
    else if bad then s2.laneFault p 3 { y with pc := x.pc, cyc := x.cyc }
    else s2.setLaneP p (goOn y)

/-- Whether the next bundle of a lane waits on an import line. [DEDUCED, log 27] -/
def State.mustWait (s : State) (p : Nat) (x : LaneP) : Bool :=
  let w := tblGet (fun _ => 0) (s.cluMem (p / 9)).code x.pc
  let (ax, ay) := slotAddrs x (addrOp w 20) (addrOp w 36)
  !illBits w && (waitsOn x (addrOp w 20) ax || waitsOn x (addrOp w 36) ay)

/-- A lane between the instances of a repair pass: KRUN of the next one, with A6 at its descriptor, or HALT after
the last (R208, R260, R261). [DEDUCED, log 81] -/
def State.nextRun (s : State) (p : Nat) (x : LaneP) : List (Nat × Nat) → State
  | [] => s.setLaneP p { x with halted := true, cyc := x.cyc + 1 }
  | (k, desc) :: r =>
    let (entry, f, q, dlen) := kentry (tblGet (fun _ => 0) (s.cluMem (p / 9)).kern k)
    s.setLaneP p { x with
      seq := some r, pc := entry, run := some ⟨x.pc, x.cyc, f + q * s.spt⟩, cyc := x.cyc + 1
      a := (x.a.set 7 desc).set 6 ((desc + dlen) % 65536) }

/-- BUNDLE_ISSUE: one cycle of a lane. A load from an import line that is not ready waits, and each cycle
of the wait counts towards the run; its corrected fetch counts (R183, R220). [DESIGN CHOICE, log 25] [DEDUCED, log 27] -/
def doBundle (p : Nat) (hw : LaneHw) (s : State) : State :=
  let x0 := s.laneP p
  if 288 ≤ p || x0.log.isNone || x0.halted || x0.faulted then s
  else
    let x := x0.mature x0.cyc
    if x.waiting then s.setLaneP p { x with cyc := x.cyc + 1 }
    else match x.seq, x.run with
      | some l, none => s.nextRun p x l
      | _, _ =>
        if s.mustWait p x && hw.fetch != .bad && !(s.cluMem (p / 9)).bad.contains x.pc then
          let s1 := if hw.fetch = .corrected then s.count (Reg.LANE.CL.CECC.IM (p / 9)) else s
          (s1.count (Reg.LANE.CL.ACCOVF.WAIT (p / 9))).setLaneP p { x with waiting := true, cyc := x.cyc + 1 }
        else s.issue p hw x

/-- IMPORT_WAIT_END: the line's ready bit is set, and the bundle issues with what its hardware meets (R183); a wait
outside a kernel run is a CYCLE fault as it ends (R263). [DEDUCED, log 81] -/
def doWaitEnd (w : WaitEnd) (s : State) : State :=
  let p := w.p
  let x0 := s.laneP p
  if 288 ≤ p || !x0.waiting || x0.halted || x0.faulted then s
  else
    let x := x0.mature x0.cyc
    if s.mustWait p x then s
    else if x.run.isNone then s.laneFault p 3 x
    else s.issue p w.hw { x with waiting := false }

/-- KEND_OVERDUE: KEND has not issued 64 cycles after the expected count (R212). -/
def doOverdue (p : Nat) (s : State) : State :=
  let x := s.laneP p
  match x.run with
  | some r => if x.halted || x.faulted || x.cyc < r.since + r.expect + 64 then s else s.laneFault p 3 x
  | none => s

/-! ### Transfers (R168, R176, R182, R321) -/

/-- Whether a line of a lane's transfer list is due: at its cycle from the start of the pass; a lane that has halted
no longer counts cycles. -/
def xferDue (x : LaneP) (e : Xfer) : Bool :=
  if x.halted then decide (x.cyc ≤ x.since + e.cycle) else x.cyc == x.since + e.cycle

/-- Whether a listed line is the one that a movement names. -/
def namesLine (t : Transfer) (e : Xfer) : Bool :=
  e.toLane == t.toLanes && e.regionLine == t.regionLine && e.laneLine == t.laneAddr / 8

/-- The line of a lane's transfer list that a movement carries out. -/
def xferOf (x : LaneP) (t : Transfer) : Option Xfer := x.xfers.find? fun e => namesLine t e && xferDue x e

/-- The export of an earlier pass of the tick that a movement carries out: until its cycle, counted from T(n+1) (R168,
R262). -/
def lateOf (x : LaneP) (t : Transfer) : Option Xfer :=
  x.late.find? fun e => namesLine t e && (x.halted || decide (x.cyc ≤ e.cycle))

/-- Set the fault flag of a die (R322). -/
def State.flagDie (s : State) (d : Nat) : State :=
  if d = 0 then { s with eng := { s.eng with flag0 := true } } else { s with eng := { s.eng with flag1 := true } }

/-- Corrected reads of region memory, counted at the frame's weir flip (R33, R321). -/
def State.noteRmce (s : State) (n : Nat) : State :=
  { s with eng := { s.eng with counts := { s.eng.counts with rmce := s.eng.counts.rmce + n } } }

/-- A line of region memory goes to the lanes of a cluster that await it now; one that reads uncorrectably delivers
zero and flags the die (R168, R182, R321). -/
def State.lineIn (s : State) (c : Nat) (t : Transfer) (read : Ecc) : State :=
  let mine := t.positions.filter fun l => decide (l < 9) && (xferOf (s.laneP (flatPos c l)) t).isSome
  if mine.isEmpty then s
  else
    let s1 := if read = .bad then s.flagDie (c / 16) else if read = .corrected then s.noteRmce 1 else s
    let word (w : Nat) : Word36 := if read = .bad then 0 else s.regionWord (regionKey (c / 4) (t.regionLine * 8 + w))
    let base := t.laneAddr / 8 * 8
    mine.foldl (fun (a : State) l =>
      let y := a.laneP (flatPos c l)
      let m := (List.range 8).foldl (fun (m : Tbl Word36) w => laneWrite m (base + w) (word w)) y.mem
      a.setLaneP (flatPos c l) { y.fresh ((List.range 8).map (base + ·)) with
        mem := m, unready := y.unready.filter (· != base / 8)
        xfers := match xferOf y t with
          | some e => y.xfers.erase e
          | none => y.xfers }) s1

/-- A line of a lane goes to region memory; a line that reads uncorrectably is a MEM fault of the lane (R168, R175,
R176). -/
def State.lineOut (s : State) (c l : Nat) (t : Transfer) : State :=
  let y0 := s.laneP (flatPos c l)
  if (xferOf y0 t).isNone && (lateOf y0 t).isNone then s
  else
    let base := t.laneAddr / 8 * 8
    let words := (List.range 8).map (base + ·)
    let y := (t.flips.filter fun f => decide (f.1 < 8)).foldl (fun (y : LaneP) f => y.upsetAt (base + f.1) [f.2]) y0
    if words.any fun a => y.eccAt a == .bad then s.laneFault (flatPos c l) 2 y
    else
      let fixed := words.filter fun a => y.eccAt a == .corrected
      let s1 := if fixed.isEmpty then s else s.count (Reg.LANE.CL.CECC.LM c) fixed.length
      let s2 := s1.setRegion ((List.range 8).map fun w =>
        (regionKey (c / 4) (t.regionLine * 8 + w), laneRead y.mem (base + w)))
      let z : LaneP := match xferOf y t, lateOf y t with
        | some e, _ => { y with xfers := y.xfers.erase e }
        | none, some e => { y with late := y.late.erase e }
        | none, none => y
      s2.setLaneP (flatPos c l) { z with fixes := fixed.foldl addTo y.fixes }

/-- TRANSFER_LINE: a line of the plan's transfer lists moves at its cycle; a line written to a lane sets its ready bit
(R168, R182). [DEDUCED, log 81] -/
def doTransfer (c : Nat) (t : Transfer) (s : State) : State :=
  if 32 ≤ c || 262144 ≤ t.regionLine || 0x8000 ≤ t.laneAddr || s.eng.finished then s
  else if t.toLanes then s.lineIn c t t.read
  else match t.positions with
    | l :: _ => if 9 ≤ l then s else s.lineOut c l t
    | [] => s

/-! ### Passes -/

/-- Start a pass of a logical lane on a position at a cycle: bundles whose fetch failed are rewritten first (R221),
every register but A6 is a free value (R188, R189), and the ready bits of the lines that the pass's transfer
list fills are clear; exports of an earlier pass of the tick that are still due stay so (R168, R182, R262). -/
def State.startPass (s0 : State) (p kid start descs cyc : Nat) (xfers : List Xfer) : State :=
  let s := s0.repairCode (p / 9)
  let n := s.free
  let v (i : Nat) : Nat := Config.freeValue (n + i)
  let s1 : State := { s with free := n + 49 }
  let x := s.laneP p
  s1.setLaneP p { mem := x.mem, log := some kid, pc := start, cyc := cyc, halted := false, ran := true
                  written := x.written, fixes := x.fixes, upset := x.upset, since := cyc, xfers := xfers
                  late := x.late ++ (x.xfers.filter fun e => !e.toLane).map fun e => { e with cycle := x.since + e.cycle }
                  d := (List.range 16).map fun i => BitVec.ofNat 36 (v i)
                  accM := (List.range 4).map fun i => toInt 80 (v (16 + i) % 2 ^ 80)
                  accR := (List.range 4).map fun i => toInt 80 (v (16 + i) % 2 ^ 80)
                  a := ((List.range 8).map fun i => v (20 + i) % 65536).set 6 descs
                  o := (List.range 8).map fun i => v (28 + i) % 65536
                  b := (List.range 4).map fun i => v (36 + i) % 65536
                  l := (List.range 4).map fun i => v (40 + i) % 32769
                  yp := BitVec.ofNat 36 (v 44)
                  unready := ((xfers.filter fun e => e.toLane).map fun e => e.laneLine).eraseDups }

/-- Load a checkpoint image into a position's lane memory (R173). [DEDUCED, log 30] -/
def State.loadImage (s : State) (p kid : Nat) : State :=
  s.setLaneP p { mem := (s.logl kid).image, log := some kid }

/-- The instances that a lane runs, in the order of its main schedule: those of the variant in force. -/
def State.runsOf (s : State) (kid : Nat) : List RunRef := match s.altWork kid with
  | some y => y.runs
  | none => (s.logl kid).sched.runs

/-- Start a lane's main schedule, or its part of the variant in force, at a cycle; priming follows it: the copies of
the instances in the cones of the transaction that is primed or crossfades in (R188, R279, R313, R385). -/
def State.startSched (s : State) (p kid cyc : Nat) (primed : List Nat) : State :=
  let s1 := match s.altWork kid with
    | some y => s.startPass p kid y.start y.descs cyc y.xfers
    | none => s.startPass p kid (s.logl kid).sched.start (s.logl kid).sched.descs cyc (s.logl kid).sched.xfers
  let next := ((s.runsOf kid).filter fun r => r.copy && primed.contains r.inst).map fun r => (r.kern, r.desc)
  s1.setLaneP p { s1.laneP p with next := next }

/-- Start the main pass of every logical lane of the loaded plan on its position at a tick boundary; the cluster that an
alternate schedule carries runs nothing itself (R167, R313). -/
def State.startMain (s : State) (primed : List Nat) : State :=
  s.lanes.logl.foldl (fun (a : State) (e : Nat × LogL) =>
    let l := a.posOf (e.1 / 8) (e.1 % 8)
    if l < 9 && a.die (e.1 / 128) == 0 && !a.moved e.1 then a.startSched (flatPos (e.1 / 8) l) e.1 0 primed else a) s

/-- What the entry transfers of the tick move into a logical lane: those of the alternate schedules whose entry variant
runs (R317). -/
def State.entryList (s : State) (kid : Nat) : List ImageMove := match s.plan.image with
  | some p => (((p.alts.filter fun (a : AltSched) => (s.clS a.cluster).alt == 1 && s.altOf (regionOf a.cluster) == some a.cluster).map
      fun (a : AltSched) => a.moves).flatten).filter fun m => m.toLane == kid
  | none => []

/-- The entry transfers into a logical lane act on the position that runs it: the cluster's checkpoint images go into its
lane memory, whose image follows at the next guard window (R317). -/
def State.moveIn (s : State) (p kid : Nat) : State :=
  (s.entryList kid).foldl (fun (a : State) (m : ImageMove) =>
    let x := a.laneP p
    let img := (a.logl m.lane).image
    let mem := (List.range m.words).foldl (fun t i => laneWrite t (m.toAddr + i) (laneRead img (m.addr + i))) x.mem
    a.setLaneP p { x.fresh ((List.range m.words).map (m.toAddr + ·)) with
      mem := mem, written := (List.range m.words).foldl (fun l i => addTo l ((m.toAddr + i) / 8)) x.written }) s

/-- A replay: the spare loads the checkpoint image from cycle f, with what an entry transfer of the tick moves into it, and
runs the lane's main schedule and priming, with its transfer list counted from the start of that run (R279, R317). -/
def State.startReplay (s : State) (p kid f : Nat) (primed : List Nat) : State :=
  ((s.loadImage p kid).moveIn p kid).startSched p kid (f + 4096) primed

/-- The position on which a logical lane runs: the spare that serves its replay, else its role's; none where it is
unplaced or its work has moved (R239, R284, R313). -/
def State.runsOn (s : State) (kid : Nat) : Option Nat :=
  match (s.eng.decided.find? fun q => q.1.lane == kid && q.2.isSome).bind fun q => q.2 with
  | some p => some p
  | none =>
    let l := s.posOf (kid / 8) (kid % 8)
    if l < 9 && !s.moved kid then some (flatPos (kid / 8) l) else none

/-- Whether a lane's position is free to start a lane part: its earlier work has ended, without a fault (R268). -/
def State.idleFor (s : State) (kid : Nat) : Bool := match s.runsOn kid with
  | some p => (s.laneP p).halted && !(s.laneP p).faulted
  | none => false

/-- A lane's part of a repair pass starts: its instances of the cone in the order of its main schedule, each at its full
cost, with the transfer list and the descriptor list of the pass (R168, R188, R260, R271). [DEDUCED, log 81] -/
def State.startPart (s : State) (kid : Nat) (insts : List (Nat × Bool)) (xfers : List Xfer) (descs cyc : Nat) : State :=
  match s.runsOn kid with
  | none => s
  | some p =>
    let s1 := s.startPass p kid 0 descs cyc xfers
    let mine := ((s.runsOf kid).filter fun r => insts.contains (r.inst, r.copy)).map fun r => (r.kern, r.desc)
    s1.setLaneP p { s1.laneP p with seq := some mine }

/-! ### The end of a tick -/

/-- Ports that were stored in the frame deliver at the flip, those of the dies whose block is released (R186, R324).
[DESIGN CHOICE, log 25] -/
def State.deliverPorts (s : State) (out : Nat → Bool) : State :=
  let sinks := match s.plan.image with
    | some p => p.sinks
    | none => []
  s.lanes.logl.foldl (fun (a : State) (e : Nat × LogL) =>
    let b := (if out (e.1 / 128) then e.2.ports else []).foldl (fun (b : State) (q : Nat × Word36) =>
      match sinks.find? fun x => x.1 == e.1 * 64 + q.1 with
      | some (_, to_, add) =>
        let v : Int := (if add then mapGetD b.lanes.sinks to_ 0 else 0) + q.2.toInt
        { b with lanes := { b.lanes with sinks := mapSet b.lanes.sinks to_ v } }
      | none => b) a
    if e.2.ports.isEmpty then b else b.setLogl e.1 { b.logl e.1 with ports := [] }) s

/-- Clusters with a lane whose work for the frame has not ended: its pass has not halted, or a part of an admitted
pass has not run (R49); a faulted lane is no overrun (R53). -/
def State.unended (s : State) : List Nat :=
  let lanes := (s.lanes.pos.filter fun e => e.2.ran && !e.2.halted && !e.2.faulted).map fun e => e.1 / 9
  let held (l : Nat) : Bool := s.eng.decided.any fun q => q.1.lane == l && q.2.isNone
  let parts := ((s.eng.passes.map fun x => x.parts).flatten.filter fun q =>
    !q.started && !held q.lane && (mapGet s.lanes.logl q.lane).isSome).map fun q => q.lane / 8
  (lanes ++ parts).eraseDups

/-- All lane work ends at the finish line (R31, R49). -/
def State.haltLanes (s : State) : State :=
  { s with lanes := { s.lanes with pos := s.lanes.pos.map fun e =>
      (e.1, { e.2 with halted := true, waiting := false, xfers := [], late := [] }) } }

/-- Copy 8-word lines of a memory. -/
def copyLines (src dst : Tbl Word36) (lines : List Nat) : Tbl Word36 :=
  lines.foldl (fun m l => (List.range 8).foldl (fun m w => laneWrite m (l * 8 + w) (laneRead src (l * 8 + w))) m) dst

/-- The guard window and promotion: each lane that worked without an unresolved fault has the lines that it wrote copied
to its checkpoint image (R171, R172, R284), and its BANK inverts unless its cluster overran (R180, R181); corrected
words are rewritten (R175), and the last sample of every export is committed (R276). -/
def State.promoteLanes (s : State) : State :=
  s.lanes.logl.foldl (fun (a : State) (e : Nat × LogL) =>
    let last := a.commitExports e.1
    match a.runsOn e.1 with
    | none => a.setLogl e.1 { e.2 with last := last }
    | some p =>
      let x := a.laneP p
      if x.faulted || !x.ran || x.log != some e.1 then a.setLogl e.1 { e.2 with last := last }
      else
        (a.setLogl e.1 { e.2 with
          last := last, image := copyLines x.mem e.2.image x.written
          bank := if a.eng.overrun.contains (e.1 / 8) then e.2.bank else 1 - e.2.bank }).setLaneP p
          { x.fresh x.fixes with written := [], fixes := [] }) s

/-- At a tick boundary each position forgets a logical lane that it no longer holds or whose work has moved to an alternate
schedule, and one that takes a logical lane loads its checkpoint image (R167, R173, R296, R316). -/
def State.reseatLanes (s : State) : State :=
  let keeps (p : Nat) (x : LaneP) : Bool := match x.log with
    | some k => s.posOf (k / 8) (k % 8) < 9 && flatPos (k / 8) (s.posOf (k / 8) (k % 8)) == p && !s.moved k
    | none => false
  let pos := s.lanes.pos.map fun e =>
    (e.1, { e.2 with log := if keeps e.1 e.2 then e.2.log else none, ran := false, written := [], fixes := [] })
  let s1 : State := { s with lanes := { s.lanes with pos := pos } }
  s1.lanes.logl.foldl (fun (a : State) (e : Nat × LogL) =>
    let l := a.posOf (e.1 / 8) (e.1 % 8)
    let p := flatPos (e.1 / 8) l
    if l < 9 && !a.moved e.1 && ((a.laneP p).log != some e.1 || (a.laneP p).faulted) then a.loadImage p e.1 else a) s1

/-- The entry transfers of the tick act on every absorbing lane (R317). -/
def State.entryMoves (s : State) : State :=
  (s.lanes.logl.map fun e => e.1).foldl (fun (a : State) k =>
    if (a.entryList k).isEmpty then a
    else match a.runsOn k with
      | some p => a.moveIn p k
      | none => a) s

/-- The exit transfer of a cluster that returns to its own lanes: its images take back what the absorbing lanes hold, as
the guard window of the exit tick left it in their images (R170, R316). -/
def State.exitMoves (s : State) (c : Nat) : State :=
  let ms := match s.plan.image.bind fun p => altFor p c with
    | some a => a.moves
    | none => []
  ms.foldl (fun (a : State) (m : ImageMove) =>
    let img := (a.logl m.toLane).image
    let k := a.logl m.lane
    a.setLogl m.lane { k with
      image := (List.range m.words).foldl (fun t i => laneWrite t (m.addr + i) (laneRead img (m.toAddr + i))) k.image }) s

/-- The clusters of a die that run on alternate schedules. -/
def State.altsOn (s : State) (d : Nat) : List Nat := ((List.range 4).filterMap fun r => s.altOf (d * 4 + r))

/-- What an alternate schedule moves, placed directly in the images of the absorbing lanes (R317, R328). -/
def State.placeMoves (s : State) (c : Nat) : State :=
  let ms := match s.plan.image.bind fun p => altFor p c with
    | some a => a.moves
    | none => []
  ms.foldl (fun (a : State) (m : ImageMove) =>
    let img := (a.logl m.lane).image
    let k := a.logl m.toLane
    a.setLogl m.toLane { k with
      image := (List.range m.words).foldl (fun t i => laneWrite t (m.toAddr + i) (laneRead img (m.addr + i))) k.image }) s

/-- A rebuild's copy of the persistent words of a die: images with BANK and last samples of its logical lanes, and its
region memory, to the same places of the other die, alternate schedules of both observed (R328, R329). -/
def State.copyDie (s : State) (src dst : Nat) : State :=
  let t := (s.altsOn src).foldl (fun (a : State) c => a.exitMoves c) s
  let mine := (t.lanes.logl.filter fun e => e.1 / 128 == src).map fun e => (e.1 - src * 128 + dst * 128, e.2)
  let words := (t.lanes.region.filter fun e => e.1 / 8388608 == src).map fun e => (e.1 - src * 8388608 + dst * 8388608, e.2)
  let s1 : State := { s with lanes := { s.lanes with
    pos := s.lanes.pos.filter fun e => e.1 / 144 != dst
    region := words.foldl (fun m e => laneWrite m e.1 e.2) (s.lanes.region.filter fun e => e.1 / 8388608 != dst) } }
  let s2 := mine.foldl (fun (a : State) e =>
    a.setLogl e.1 { a.logl e.1 with image := e.2.image, bank := e.2.bank, last := e.2.last, ports := [] }) s1
  (s2.altsOn dst).foldl (fun (a : State) c => a.placeMoves c) s2

/-- The boundary's containment with the exit transfers of the clusters that return in it (R313, R316). -/
def State.containAll (s : State) : State :=
  let t := s.containTick
  ((List.range 32).filter fun c => (s.clS c).alt == 3 && (t.clS c).alt == 0).foldl (fun (a : State) c => a.exitMoves c) t

/-- CLUSTER_MEMORY_TEST_END (R238, R310, R311): instruction memory is reloaded from region memory and its CRC compared
with ICRC; on a mismatch the cluster stays on the alternate schedule and reloads once more, and a second
mismatch keeps it there until the next plan load. [DEDUCED, log 30] -/
def doMemTestEnd (c : Nat) (pass : Bool) (fills : MemFills) (s : State) : State :=
  let x := s.clS c
  match x.memEnd with
  | [] => s
  | e :: rest =>
    if s.run < e.1 then s
    else
      let bit := 2 ^ c
      let ok := s.rd Reg.LANE.LOADOK.OK
      let on (a : State) : State := a.wr Reg.LANE.LOADOK.OK (ok ||| bit)
      let good (a : State) : Bool := (a.memCrc c).toNat == a.rd (Reg.LANE.CL.ICRC.CRC c)
      let s1 := (s.setClS c { x with memEnd := rest }).fillCode c fills.first
      let s2 := if x.stuck then s1
        else if good s1 then on s1
        else
          let s3 := s1.fillCode c fills.second
          if good s3 then on s3
          else (s3.wr Reg.LANE.LOADOK.OK (if ok.testBit c then ok - bit else ok)).setClS c { s3.clS c with stuck := true }
      s2.finishOp 0x60 stOk (le 1 (if pass then 0 else 1)) [] (fun d => d.a0 == 1 && d.a1 == c && d.ring == e.2)

/-! ### Rows -/

/-- BUNDLE_ISSUE (R200). -/
def execBundleIssue (p : Nat) (hw : LaneHw) (s : State) : Out := .next (doBundle p hw s)
/-- KEND_OVERDUE (R212). -/
def execKendOverdue (p : Nat) (s : State) : Out := .next (doOverdue p s)
/-- TRANSFER_LINE (R168). -/
def execTransferLine (c : Nat) (x : Transfer) (s : State) : Out := .next (doTransfer c x s)
/-- IMPORT_WAIT_END (R183). -/
def execImportWaitEnd (w : WaitEnd) (s : State) : Out := .next (doWaitEnd w s)
/-- CLUSTER_MEMORY_TEST_END (R310). -/
def execClusterMemoryTestEnd (c : Nat) (pass : Bool) (fills : MemFills) (s : State) : Out :=
  .next (doMemTestEnd c pass fills s)

end Sys2Proof.Machine
end

