-- ==== Sys2Proof/Machine/Arbiter.lean ====
section
/-! DEFINITION. The intake of a frame with its concealment, and the eddy arbiter: admission, placement
and runs of eddy passes and fault replays (chapters 01 and 05). -/
namespace Sys2Proof.Machine

/-! ### Concealment (R249 to R257) -/

/-- The settings of concealment: hold, fade and ramp lengths, whether the source is a serial slot
(R586). -/
structure ConcealCfg where
  hold : Nat
  fade : Nat
  ramp : Nat
  serial : Bool
  deriving DecidableEq, Repr

/-- g x sample, rounded to nearest, ties away from zero, where g is kept as an exact rational: R250 to R254 state neither
a rounding nor a format of g. [DESIGN CHOICE, log 88] -/
def scaleRat (g : Rat) (x : Int) : Int := roundDiv (g.num * x) g.den

/-- Samples from k on: the level, hold buffer and delivered samples (R250 to R254). -/
def concealFrom (c : ConcealCfg) (m : Nat) (heard : Heard) : Nat → Nat → List Int → Rat → Rat × List Int × List Int
  | 0, _, _, g => (g, [], [])
  | n + 1, k, u, g =>
    let old := u.headD 0
    match mapGet heard k with
    | some x =>
      let g1 := min 1 (g + 1 / (c.ramp : Rat))
      let (g2, us, ys) := concealFrom c m heard n (k + 1) (u.drop 1) g1
      (g2, x :: us, scaleRat g1 x :: ys)
    | none =>
      let g1 := if m ≤ c.hold && !c.serial then g else max 0 (g - 1 / (c.fade : Rat))
      let (g2, us, ys) := concealFrom c m heard n (k + 1) (u.drop 1) g1
      (g2, old :: us, scaleRat g1 old :: ys)

/-- One source's frame: its new concealment state, the delivered samples, and whether any is concealed
(R250 to R255). -/
def concealFrame (c : ConcealCfg) (spt : Nat) (st : Conceal) (heard : Heard) : Conceal × List Int × Bool :=
  let miss := (List.range spt).any fun k => (mapGet heard k).isNone
  let m := if miss then st.m + 1 else 0
  let (g, u, ys) := concealFrom c m heard spt 0 st.u st.g
  ({ u := u, g := g, m := m }, ys, miss)

/-- Concealed samples of a frame. -/
def missCount (spt : Nat) (heard : Heard) : Nat :=
  ((List.range spt).filter fun k => (mapGet heard k).isNone).length

/-- The settings in force for a frame. -/
def State.concealCfg (s : State) (f : Nat) (serial : Bool) : ConcealCfg :=
  let r := s.govern f
  { hold := r.rd Reg.TICK.CONCEAL.HOLD, fade := r.rd Reg.TICK.CONCEAL.FADE
    ramp := r.rd Reg.TICK.CONCEAL.RAMP, serial := serial }

/-- Network channels that frame f maps: those of the open receive contexts, and those that fade in it (R74,
R249, R536). -/
def State.mapped (s : State) (f : Nat) : List Nat :=
  let opened := ((s.strm.rx.filter (fun e => e.2.state == 2 || e.2.state == 3)).map (fun e => e.2.map)).flatten
  let closing := ((s.strm.closing.filter fun e => e.1 == f).map fun e => e.2).flatten
  ((opened ++ closing).filter fun c => decide (c < s.srcCap 1)).eraseDups

/-- Slots per port frame (Table 11.1). -/
def State.slotCount (s : State) (p : Nat) : Nat :=
  if s.rd (Reg.SAP.P.CFG.FORMAT p) = 2 then s.rd (Reg.SAP.P.FRAME.NSLOT p) else 2

/-- Slots in a mask, below the slot count (R573). -/
def State.maskSlots (s : State) (p mask : Nat) : List Nat := (List.range (s.slotCount p)).filter mask.testBit

/-- The active slots of the mask in force. -/
def State.active (s : State) (p : Nat) : List Nat := s.maskSlots p (s.rd (Reg.SAP.P.SLOTMASK.MASK p))

/-- Serial slots that concealment covers: on a running port in engine path, below the slot count, in the mask (R572, R573). -/
def State.serialLive (s : State) (idx : Nat) : Bool :=
  let p := idx / s.slotsM
  let k := idx % s.slotsM
  decide (2 ≤ s.rd (Reg.SAP.P.STATUS.STATE p)) && !s.on (Reg.SAP.P.CFG.PATH p) && (s.active p).contains k

/-- The concealed sources of the node. -/
def State.sources (s : State) (f : Nat) : List Nat :=
  s.mapped f ++ ((List.range (32 * s.slotsM)).filter s.serialLive).map serialSrc

/-- What has been heard of a source for a frame. -/
def State.heardOf (s : State) (f src : Nat) : Heard := (mapGet s.eng.water (waterKey f src)).getD []

/-- A source's samples go into the region memory of every region that imports them, on both dies of a Duplex node (R24,
R246). -/
def State.sendInput (s : State) (src : Nat) (ys : List Int) : State := match s.plan.image with
  | none => s
  | some p => s.setRegion (((p.inputs.filter fun x => x.src == src).map fun x =>
      ((if s.duplex && decide (x.region < 4) then [x.region, x.region + 4] else [x.region]).map fun r =>
        ys.zipIdx.map fun (y, j) => (regionKey r (x.word + j), BitVec.ofInt 36 y)).flatten).flatten)

/-- Conceal one source of a frame from a given state; a closed context's channels fade over 32 smp (R536). -/
def State.deliver (s : State) (f src : Nat) (st : Conceal) : State :=
  let (c, ys0, miss) := concealFrame (s.concealCfg f (decide (32768 ≤ src))) s.spt st (s.heardOf f src)
  let fades := s.strm.closing.any fun e => e.1 == f && e.2.contains src
  let ys := if fades then ys0.zipIdx.map fun (y, j) => roundDiv (y * max 0 (31 - (j : Int))) 32 else ys0
  let e := s.eng
  ({ s with eng := { e with
      conceal := mapSet e.conceal src c
      delivered := mapSet e.delivered (waterKey f src) ys
      concealed := if miss then addTo e.concealed (waterKey f src) else e.concealed.filter (fun x => x != waterKey f src) } } :
    State).sendInput src ys

/-- Build the input block of frame f (R249); states of the frame before are kept for R256. -/
def State.buildBlock (s : State) (f : Nat) : State :=
  let s1 : State := { s with eng := { s.eng with concealOld := s.eng.conceal, cutDone := true } }
  (s1.sources f).foldl (fun (a : State) src => a.deliver f src (mapGetD a.eng.conceal src {})) s1

/-- Add samples to what has been heard; a sample already heard stands (R247). -/
def addHeard (h : Heard) (x : Heard) : Heard :=
  x.foldl (fun h e => if (mapGet h e.1).isSome then h else mapSet h e.1 e.2) h

/-- Samples enter the backwater. -/
def State.soak (s : State) (f : Nat) (data : List (Nat × Heard)) : State :=
  data.foldl (fun (a : State) (src, x) =>
    { a with eng := { a.eng with water := mapSet a.eng.water (waterKey f src) (addHeard (a.heardOf f src) x) } }) s

/-- Late samples are applied to the frame in the main pass: its concealment is recomputed as if they had
arrived on time (R248, R256). -/
def State.applyLate (s : State) (f : Nat) (data : List (Nat × Heard)) : State :=
  let s1 := s.soak f data
  if s1.eng.cutDone then s1
  else data.foldl (fun (a : State) (src, _) => a.deliver f src (mapGetD s1.eng.concealOld src {})) s1

/-! ### Arrivals (R24, R25, R29, R30, R48, R245 to R248) -/

/-- Whether every sample of a packet has already been delivered (R247). -/
def State.alreadyIn (s : State) (f : Nat) (data : List (Nat × Heard)) : Bool :=
  data.all fun (src, x) => x.all fun e => (mapGet (s.heardOf f src) e.1).isSome

/-- The intake number of the source that a route word selects (Table 2.4). -/
def srcOfRoute (e : Nat) : Option Nat :=
  if rtScls e = 1 then some (rtSidx e) else if rtScls e = 2 then some (serialSrc (rtSidx e)) else none

/-- Instances that depend on a set of sources under a route table: the plan's cones, and the change cones of the entries
that select one of them (R258, R259, R966). [DEDUCED, log 81] -/
def coneOf (p : PlanImage) (routes : Tbl (BitVec 64)) (srcs : List Nat) : List Nat :=
  let fixed := ((p.cones.filter (fun c => srcs.contains c.1)).map (fun c => c.2)).flatten
  let mine := routes.filter fun e => (srcOfRoute e.2.toNat).any srcs.contains
  (fixed ++ changeCone p (mine.map fun e => objNo 5 e.1)).eraseDups

/-- Objects whose change cones the transaction in the launching slot computes beside the topcoat, until it leaves the slot
(R286, R385, R390). -/
def State.launchObjs (s : State) : List Nat :=
  if s.ls = 0 then [] else (View.costly { s := s.asOld, lower := [], upper := s.txn.lItems })

/-- The cone of a set of sources as instances, true for a new graph's copy: from a commit to the end of its crossfade
the union of the cone in the topcoat and that in the launching graph, whose changed instances are copies (R259, R286).
[DEDUCED, log 81] -/
def State.cone (s : State) (p : PlanImage) (srcs : List Nat) : List (Nat × Bool) :=
  let objs := s.launchObjs
  let old := coneOf p s.asOld.routes srcs
  if objs.isEmpty then old.map fun i => (i, false)
  else
    let copies := changeCone p objs
    let (mine, shared) := (coneOf p s.asNew.routes srcs).partition copies.contains
    ((old ++ shared).eraseDups.map fun i => (i, false)) ++ mine.map fun i => (i, true)

/-- The eddy deadline of frame f as a local instant in ns (R29). -/
def State.eddyAt (s : State) (f : Nat) : Nat :=
  s.tAt (f + 1) + (s.govern f).rd Reg.TICK.EDDY.DEADLINE * s.tickNs / 100

/-- Whether eddy passes run for frame f (R48). -/
def State.eddyOn (s : State) (f : Nat) : Bool :=
  (s.govern f).on Reg.TICK.EDDY.DEADLINE && (s.govern f).on Reg.TICK.EDDY.RESERVE

/-- The class that a packet's samples of one frame take. -/
inductive Arrival where
  | onTime | late | duplicate | dropped | stale | idle
  deriving DecidableEq, Repr

/-- Class the samples of frame f of a packet (Table 5.1). -/
def State.arrival (s : State) (f : Nat) (data : List (Nat × Heard)) : Arrival :=
  if s.tAt (f + 2) ≤ s.ns then .stale
  else if s.alreadyIn f data then .duplicate
  else if s.ns + 2000 < s.tAt (f + 1) && !(s.eng.cutDone && s.tick == f) then .onTime
  else if !s.on Reg.TICK.STATUS.RUN then .idle
  else if s.eddyAt f ≤ s.ns && s.tAt (f + 1) ≤ s.ns then .dropped
  else .late

/-- A request that lost: a late drop (R45). -/
def State.refusePass (s : State) (stream : Option Nat) (res : Bool) : State :=
  let c := s.eng.counts
  { s with eng := { s.eng with counts := { c with
      dropRes := c.dropRes + (if res then 1 else 0)
      dropped := c.dropped ++ stream.toList } } }

/-- A request that was served: its samples are applied and its stream counts it. -/
def State.servePass (s : State) (q : EddyReq) (joined : Bool) : State :=
  let c := s.eng.counts
  ({ s with eng := { s.eng with counts := { c with
      newPass := c.newPass + (if joined then 0 else 1)
      join := c.join + (if joined then 1 else 0)
      applied := c.applied ++ q.stream.toList
      used := if q.counted then c.used else c.used ++ q.stream.toList.map fun i => (i, q.pathB) } } } : State).applyLate q.frame q.data

/-- Whether the sources of a late packet have an empty cone (R248). -/
def State.bareCone (s : State) (q : EddyReq) : Bool := match s.plan.image with
  | some p => (s.cone p (q.data.map fun e => e.1)).isEmpty
  | none => true

/-- A queued copy whose samples have been delivered meanwhile: a duplicate, counted once for its packet (R247). -/
def State.dupPass (s : State) (q : EddyReq) : State :=
  let c := s.eng.counts
  { s with eng := { s.eng with counts := { c with dups := if q.dupDone then c.dups else c.dups ++ q.stream.toList } } }

/-- A packet whose cone is empty needs no pass: its samples are applied to the delivered frame (R48, R248); a copy whose
samples have been delivered meanwhile is a duplicate (R247). -/
def State.applyBare (s : State) (q : EddyReq) : State :=
  if s.alreadyIn q.frame q.data then
    s.dupPass q
  else if !s.eddyOn q.frame then s.refusePass q.stream false
  else s.servePass q true

/-- Held packets of frame f with an empty cone are applied at T(f+1); the others wait for the arbiter (R245, R248). -/
def State.presentHeld (s : State) (f : Nat) : State :=
  (s.eng.reqs.filter fun q => q.frame == f && s.bareCone q).foldl (fun (a : State) q =>
    ({ a with eng := { a.eng with reqs := a.eng.reqs.erase q } } : State).applyBare q) s

/-- Samples of frame f arrive for a stream or serial port: they enter the block, are applied where their cone is empty,
wait for the arbiter, or are dropped (R24, R29, R30, R245, R248). [DEDUCED, log 42] -/
def State.arrive (s : State) (stream : Option Nat) (f : Nat) (data : List (Nat × Heard)) (pathB : Bool := false)
    (counted : Bool := true) (dupDone : Bool := false) : State :=
  match s.arrival f data with
  | .onTime => s.soak f data
  | .late =>
    let q : EddyReq := { stream := stream, frame := f, cycle := (s.ns - s.tAt (f + 1)) * 3 / 2, data := data, pathB := pathB, counted := counted, dupDone := dupDone }
    if s.eng.frame = f && s.bareCone q then s.applyBare q
    else { s with eng := { s.eng with reqs := s.eng.reqs ++ [q] } }
  | .dropped =>
    let c := s.eng.counts
    { s with eng := { s.eng with counts := { c with
        dropDl := c.dropDl + 1
        dropped := c.dropped ++ stream.toList } } }
  | _ => s

/-! ### Placement (R260 to R269) -/

/-- Transfer allowance from lane u to lane l (Table 5.2). -/
def allowance (u l : Nat) : Nat :=
  if u / 8 = l / 8 then 64
  else if u / 32 = l / 32 then 312
  else if u / 128 = l / 128 then 1200
  else 3000

/-- The lane on which an instance of a cone runs, a copy where the new graph has it (R313, R318, R966).
[DEDUCED, log 105] -/
def State.coneLane (s : State) (p : PlanImage) (i : Nat × Bool) : Option Nat :=
  if i.2 then s.copyLane p i.1 else s.instLane p i.1

/-- The instances of a cone on a lane. -/
def State.coneOn (s : State) (p : PlanImage) (insts : List (Nat × Bool)) (lane : Nat) : List (Nat × Bool) :=
  insts.filter fun i => s.coneLane p i == some lane

/-- Columns with a cell whose feather runs in frame f (R86, R128). -/
def State.rampCols (s : State) (f : Nat) : List Nat :=
  ((s.gains.cells.filter fun e => decide (0 < e.2.n) && decide (f * s.spt < e.2.l * s.spt + e.2.k0 + e.2.n)).map fun e =>
    objNo 3 (keyIdx e.1)).eraseDups

/-- Cycles of an instance in the frame in the main pass: the ramping variant of a column pair in the ticks of its feather
(R128). -/
def State.instCycles (s : State) (p : PlanImage) (i : Nat) : Nat := match p.insts[i]? with
  | some x => kernCost s.spt x.kernel + (if x.objs.any (s.rampCols s.eng.frame).contains then (rampExtra s.spt x.kernel).1 else 0)
  | none => 0

/-- Cost of a lane's part: 32 + the sum of F + P x S over its cone instances, of both graphs (R261, R286).
[DEDUCED, log 105] -/
def State.lanePart (s : State) (p : PlanImage) (insts : List (Nat × Bool)) (lane : Nat) : Nat :=
  32 + ((s.coneOn p insts lane).map fun i => s.instCycles p i.1).sum

/-- Lanes of a set of instances. -/
def State.lanesOf (s : State) (p : PlanImage) (insts : List (Nat × Bool)) : List Nat :=
  (insts.filterMap (s.coneLane p)).eraseDups

/-- Entry offsets by repeated relaxation over the exports (R262). -/
def offsets (p : PlanImage) (w : Nat → Nat) (lanes : List Nat) : Nat → (Nat → Nat) → Nat → Nat
  | 0, e, l => e l
  | n + 1, e, l =>
    offsets p w lanes n (fun l => (p.exports.filter (fun x => x.2 == l && lanes.contains x.1)).foldl
      (fun a x => max a (e x.1 + w x.1 + allowance x.1 l)) 0) l

/-- The parts of a pass on a set of lanes: lane, cost, entry offset. -/
def State.partsOn (s : State) (p : PlanImage) (insts : List (Nat × Bool)) (lanes : List Nat) : List (Nat × Nat × Nat) :=
  lanes.map fun l => (l, s.lanePart p insts l, offsets p (s.lanePart p insts) lanes lanes.length (fun _ => 0) l)

/-- Remaining reserve and free time of a lane (R243). -/
def State.laneOfEng (s : State) (l : Nat) : Nat × Nat := mapGetD s.eng.lanes l (0, 0)

/-- The earliest start of a pass (R264). -/
def State.passStart (s : State) (ready : Nat) (parts : List (Nat × Nat × Nat)) : Nat :=
  parts.foldl (fun a x => max a ((s.laneOfEng x.1).2 - x.2.2)) ready

/-- Whether R265 holds on every lane. -/
def State.fits (s : State) (start : Nat) (parts : List (Nat × Nat × Nat)) : Bool :=
  parts.all fun x => decide (x.2.1 ≤ (s.laneOfEng x.1).1) &&
    decide (start + x.2.2 + x.2.1 ≤ s.cycles - guardCycles)

/-- Charge an admitted pass (R267). -/
def State.charge (s : State) (start : Nat) (parts : List (Nat × Nat × Nat)) : State :=
  parts.foldl (fun (a : State) x =>
    let r := a.laneOfEng x.1
    { a with eng := { a.eng with lanes := mapSet a.eng.lanes x.1 (r.1 - x.2.1, start + x.2.2 + x.2.1) } }) s

/-- Cycles of R246 from the presentation of a late packet to its ready time. -/
def readyCycles : Nat := 2250

/-- The parts of a pass on each die; a Duplex node places each die's parts apart, and only on the dies that
compute (R266, R289, R327). -/
def State.passParts (s : State) (p : PlanImage) (insts : List (Nat × Bool)) :
    List (Nat × Nat × Nat) × List (Nat × Nat × Nat) :=
  let lanes := (s.lanesOf p insts).filter fun l => !s.barred l
  if s.duplex then
    (s.partsOn p insts (lanes.filter fun l => l / 128 == 0 && s.computes 0 s.eng.frame),
      s.partsOn p insts (lanes.filter fun l => l / 128 == 1 && s.computes 1 s.eng.frame))
  else (s.partsOn p insts lanes, [])

/-- The placed parts of a pass that starts at a cycle (R262). -/
def placed (start : Nat) (parts : List (Nat × Nat × Nat)) : List PassPart :=
  parts.map fun x => { lane := x.1, cost := x.2.1, start := start + x.2.2 }

/-- Decide one eddy pass request (R48, R247, R248, R264 to R269, R293). [DEDUCED, log 42] -/
def State.decidePass (s : State) (p : PlanImage) (q : EddyReq) : State :=
  let insts := s.cone p (q.data.map fun e => e.1)
  let ready := q.cycle + readyCycles
  if insts.isEmpty || s.alreadyIn q.frame q.data then s.applyBare q
  else if !s.eddyOn q.frame then s.refusePass q.stream false
  else
    let joins (x : Pass) : Bool :=
      x.stream.isSome && x.stream == q.stream && x.frame == q.frame && x.parts.all (fun y => !y.started) &&
        decide (ready ≤ x.s0) && decide (ready ≤ x.s1)
    if s.eng.passes.any joins then s.servePass q true
    else
      let (a, b) := s.passParts p insts
      let s0 := s.passStart ready a
      let s1 := if s.duplex && !b.isEmpty then s.passStart ready b else s0
      if s.fits s0 a && s.fits s1 b then
        let t := (s.charge s0 a).charge s1 b
        let x : Pass := {
          stream := q.stream, frame := q.frame, parts := placed s0 a ++ placed s1 b
          s0 := if a.isEmpty then s1 else s0, s1 := s1, insts := insts, data := q.data }
        ({ t with eng := { t.eng with passes := t.eng.passes ++ [x] } } : State).servePass q false
      else s.refusePass q.stream true

/-- Whether the arbiter takes an eddy request before the oldest fault request (R241, R242). -/
def State.faultFirst (s : State) (cycle : Nat) : Bool := s.eng.faults.any fun x => decide (x.f ≤ cycle)

/-- EDDY_PASS_ADMISSION: the arbiter takes up its oldest eddy request of the frame in the main pass. -/
def doPassAdmission (s : State) : State :=
  match s.eng.reqs.find? (fun q => q.frame == s.eng.frame), s.plan.image with
  | some q, some p =>
    if !s.on Reg.TICK.STATUS.RUN || s.eng.finished || s.eng.eddyClosed || s.tAt (q.frame + 1) > s.ns || s.faultFirst q.cycle then s
    else ({ s with eng := { s.eng with reqs := s.eng.reqs.erase q } } : State).decidePass p q
  | _, _ => s

/-! ### Fault replays (R276 to R285) -/

/-- Cycles that a replay adds to the fault's cycle (R280). -/
def replayLoad : Nat := 4096

/-- Refuse a replay: the lane runs nothing more, later passes find its exports filled with substitutes, and its die's
flag is set (R276, R283, R322). -/
def State.refuseReplay (s : State) (q : FaultReq) : State :=
  let c := s.eng.counts
  ({ s with eng := { s.eng with
      decided := s.eng.decided ++ [(q, none)]
      counts := { c with hold := c.hold + 1 } } } : State).flagDie (q.lane / 128)

/-- The position that may serve a replay of a cluster: none once one has served in the frame, or when the
spare itself faulted (R278, R285, R972). -/
def State.replayServer (s : State) (q : FaultReq) : Option Nat :=
  let c := q.pos / 9
  if s.eng.decided.any (fun x => x.1.pos / 9 == c) || s.lstat c (q.pos % 9) ≠ 0 then none
  else (s.server c).map fun l => flatPos c l

/-- Lane k's parts of admitted passes run on the spare after its main replay: those that had started run again, and all
of them D cycles later (R279, R280, R284). -/
def shiftParts (k d : Nat) (x : Pass) : Pass :=
  { x with parts := x.parts.map fun y => if y.lane = k then { y with start := y.start + d, started := false } else y }

/-- Admit a replay (R278 to R282, R284): a position in self-test abandons its test. -/
def State.admitReplay (s : State) (p : PlanImage) (q : FaultReq) (by_ : Nat) : State :=
  let c := s.eng.counts
  let r := s.laneOfEng q.lane
  let d := q.f + replayLoad
  let s1 : State := { s with eng := { s.eng with
    decided := s.eng.decided ++ [(q, some by_)]
    counts := { c with replay := c.replay + 1 }
    passes := s.eng.passes.map (shiftParts q.lane d)
    lanes := mapSet s.eng.lanes q.lane (r.1 - d, r.2 + d) } }
  let s2 := if s.lstat (by_ / 9) (by_ % 9) = 2 then s1.abandonTest (by_ / 9) (by_ % 9) else s1
  s2.startReplay by_ q.lane q.f (if s.txn.priming || s.ls == 2 then changeCone p s.launchObjs else [])

/-- The fault cone of a logical lane: every instance on other lanes downstream of it, of both graphs while a
transaction launches (R281, R286). -/
def State.faultCone (s : State) (p : PlanImage) (lane : Nat) : List (Nat × Bool) :=
  let insts := (mapGet p.faultCones lane).getD []
  let copies := changeCone p s.launchObjs
  (insts.map fun i => (i, false)) ++ (insts.filter copies.contains).map fun i => (i, true)

/-- Decide one replay (R281 to R283): in Duplex the fault cone is placed on the faulting die only. -/
def State.decideReplay (s : State) (p : PlanImage) (q : FaultReq) : State :=
  match s.replayServer q with
  | none => s.refuseReplay q
  | some by_ =>
    let r := s.laneOfEng q.lane
    let d := q.f + replayLoad
    let insts := s.faultCone p q.lane
    let lanes := (s.lanesOf p insts).filter fun l =>
      l != q.lane && (!s.duplex || l / 128 == q.lane / 128) && !s.barred l
    let parts := s.partsOn p insts lanes
    let start := s.passStart (r.2 + d) parts
    if d ≤ r.1 && r.2 + d ≤ s.cycles - guardCycles && s.fits start parts then
      let s1 := (s.admitReplay p q by_).charge start parts
      if parts.isEmpty then s1
      else { s1 with eng := { s1.eng with passes := s1.eng.passes ++
          [{ stream := none, frame := s.eng.frame, parts := placed start parts, s0 := start, s1 := start, insts := insts, fault := some q.lane }] } }
    else s.refuseReplay q

/-- FAULT_REPLAY_ADMISSION: the arbiter takes up its oldest fault request; an eddy request that reached it
in an earlier cycle comes first (R241, R242). -/
def doReplayAdmission (s : State) : State :=
  match s.eng.faults, s.plan.image with
  | q :: rest, some p =>
    if s.eng.finished || s.eng.reqs.any (fun x => x.frame == s.eng.frame && decide (x.cycle < q.f)) then s
    else ({ s with eng := { s.eng with faults := rest } } : State).decideReplay p q
  | _, _ => s

/-- The arbiter decides each request in the cycle in which it takes it up, so that none of those that reached it by the
eddy deadline is open after it (R241, R256): up to n of them, in their order. -/
def State.decideAll : Nat → State → State
  | 0, s => s
  | n + 1, s =>
    if (s.eng.reqs.any fun q => q.frame == s.eng.frame && !s.faultFirst q.cycle) then State.decideAll n (doPassAdmission s)
    else if s.eng.faults.isEmpty then s
    else State.decideAll n (doReplayAdmission s)

/-- Faults that the arbiter has not decided by the finish line can no longer be replayed within it: their lanes hold
(R282, R283, R294). -/
def State.refuseLeft (s : State) : State :=
  s.eng.faults.foldl (fun (a : State) q => a.refuseReplay q) { s with eng := { s.eng with faults := [] } }

/-- The next lane part to start: the earliest by its placed cycle whose lane is free for it (R260, R268). -/
def State.nextPart (s : State) : Option (Nat × PassPart) :=
  let all := (s.eng.passes.zipIdx.map fun (x, i) =>
    (x.parts.filter fun q => !q.started && s.computes (q.lane / 128) s.eng.frame && s.idleFor q.lane && !s.barred q.lane).map
      fun q => (i, q)).flatten
  all.foldl (fun a x => match a with
    | none => some x
    | some y => if x.2.start < y.2.start then some x else some y) none

/-- The transfer list of a lane's part of a pass: those of its sources' cones, or of a lane's fault cone (R168, R271). -/
def State.passXfers (s : State) (x : Pass) (lane : Nat) : List Xfer :=
  let k := (s.logl lane).sched
  match x.fault with
  | some f => mapGetD k.faultXfers f []
  | none => ((k.coneXfers.filter fun e => x.data.any fun d => d.1 == e.1).map fun e => e.2).flatten.eraseDups

/-- The descriptor list of a lane's part of a pass: that of the first of its sources' cones that the lane has one for, or of
the lane's fault cone (R188). -/
def State.passDescs (s : State) (x : Pass) (lane : Nat) : Nat :=
  let k := (s.logl lane).sched
  match x.fault with
  | some f => mapGetD k.faultDescs f 0
  | none => (((k.coneDescs.filter fun e => x.data.any fun d => d.1 == e.1).map fun e => e.2).head?).getD 0

/-- Lanes of a pass's cone that do not run in it because their replay was refused (R283). -/
def State.barredIn (s : State) (x : Pass) : List Nat := match s.plan.image with
  | some p => (s.lanesOf p x.insts).filter s.barred
  | none => []

/-- Part q of pass i starts; downstream parts find substitutes in the exports of a lane that runs no part (R43, R283). -/
def State.runPart (s : State) (i : Nat) (q : PassPart) : State :=
  let start (x : Pass) : Pass := { x with parts := x.parts.map fun y => if y == q then { y with started := true } else y }
  let s1 : State := { s with eng := { s.eng with passes := modAt s.eng.passes i start } }
  match s.eng.passes[i]? with
  | some x =>
    let s2 := (s.barredIn x).foldl (fun (a : State) l => a.fillExports l (exportLines (a.logl l) a.spt)) s1
    s2.startPart q.lane x.insts (s.passXfers x q.lane) (s.passDescs x q.lane) q.start
  | none => s1

/-- EDDY_PASS_RUN: a lane part starts at its placed time (R260, R268). -/
def doPassRun (s : State) : State :=
  match s.nextPart with
  | none => s
  | some (i, q) =>
    if s.eng.finished then s else (s.reach (s.tAt (s.eng.frame + 1) + ceilDiv (q.start * 2) 3)).runPart i q

/-! ### Rows -/

/-- EDDY_PASS_ADMISSION (R265). -/
def execEddyPassAdmission (s : State) : Out := .next (doPassAdmission s)
/-- FAULT_REPLAY_ADMISSION (R282). -/
def execFaultReplayAdmission (s : State) : Out := .next (doReplayAdmission s)
/-- EDDY_PASS_RUN (R260). -/
def execEddyPassRun (s : State) : Out := .next (doPassRun s)

end Sys2Proof.Machine
end

