-- ==== Sys2Proof/Machine/Play.lean ====
section
/-! DEFINITION. What a modulator channel or a serial transmit slot plays on an engine sample instant: the
released samples and the skim path (R26, R54, R57 to R60, R111, R113). -/
namespace Sys2Proof.Machine

/-- Sample period in thirds of a ns. -/
def State.ts3 (s : State) : Nat := 62500 / 2 ^ s.rd Reg.TICK.CFG.RATE

/-- Whether a serial slot gives the skim path silence: its port is in DMA path, or its mask leaves it out (R572, R573). -/
def State.skimSilent (g : State) (idx : Nat) : Bool :=
  let p := idx / g.slotsM
  g.on (Reg.SAP.P.CFG.PATH p) || !(g.rd (Reg.SAP.P.SLOTMASK.MASK p)).testBit (idx % g.slotsM)

/-- The selected skim sample before its gain, of the slot or generator that a route word names, captured on
sample number `cap`, under the topcoat `g` (R57, R58, R111). [DESIGN CHOICE, log 44] -/
def State.skimRaw (g : State) (e cap : Nat) : Int :=
  if rtScls e = 8 then g.genSample (rtSidx e) (g.genCount (rtSidx e) (cap / g.spt) (cap % g.spt))
  else match (mapGetD g.skimIn (rtSidx e) []).find? (fun x => x.1 == cap) with
    | some x => x.2
    | none => if g.skimSilent (rtSidx e) then 0 else Config.skimMissing (rtSidx e) cap

/-- The skim sample of an entry after SKG, before MUTE, under the topcoat `g`. -/
def State.skimGained (g : State) (i e cap : Nat) : Int :=
  let r := mapGetD g.gains.skims i (settled (skimGain (rtSkg e)))
  (mul33 (g.skimRaw e cap) (r.val (cap / g.spt) (cap % g.spt) g.spt)).1

/-- The mute of a skim route on a capture.  The samples of a generator are known ahead, so that its wait is met
here; that of a serial slot is met at the capture itself (R92 to R94). -/
def State.skimMute (g : State) (i e cap : Nat) : Int :=
  let m := g.muteOf i
  let r := match m.wait with
    | some (l, _) =>
      let f := cap / g.spt
      if rtScls e = 8 && decide (l ≤ f) then
        let x (c : Nat) : Int := g.skimGained i e (l * g.spt + c)
        let p := if l = 0 then 0 else g.skimGained i e (l * g.spt - 1)
        match zcScan l g.zcFrames l g.spt 0 p ((List.range (cap - l * g.spt + 1)).map x) with
        | some h => g.zcRamp i h
        | none => m.ramp
      else m.ramp
    | none => m.ramp
  r.val (cap / g.spt) (cap % g.spt) g.spt

/-- The skim path's sample of an entry under the topcoat `g`: SKG and MUTE apply, and nothing else (R111). -/
def State.skimPlay (g : State) (i e cap : Nat) : Int := (mul33 (g.skimGained i e cap) (g.skimMute i e cap)).1

/-- The route word in force at the capture of a sample (R60). -/
def State.capRoute (s : State) (i cap : Nat) : Nat := (s.govern (cap / s.spt)).route i

/-- Whether a launch changes what an entry takes from the skim path: its route word or its generator. -/
def OldS.changes (o : OldS) (i eOld eNew : Nat) : Bool :=
  o.cone.contains (objNo 5 i) || [eOld, eNew].any fun e => rtScls e == 8 && o.cone.contains (objNo 4 (rtSidx e))

/-- What the skim path alone delivers of a capture: the entry's source in force at the capture (R60), blended with
the one before while a crossfade between skim sources, or one and none, runs (R98, R99). [DEDUCED, log 76] -/
def State.skimAt (s : State) (i cap : Nat) : Int :=
  let f := cap / s.spt
  let g := s.govern f
  let e := g.route i
  let one (u : State) (w : Nat) : Int := if rtSkim w then u.skimPlay i w cap else 0
  match s.past.find? (fun o => decide (o.l ≤ f) && decide (f < o.l + o.x)) with
  | none => one g e
  | some o =>
    let u := s.under o
    let e0 := u.route i
    if graphSrc e || graphSrc e0 || !o.changes i e0 e then one g e
    else
      let w := g.weightsOf o.l o.x f (cap % s.spt)
      (toSample 60 (quad33 (one g e) w.1 + quad33 (one u e0) w.2)).1

/-- The released block of an entry that holds presentation sample number `pn`. -/
def State.blockAt (s : State) (i pn : Nat) : Option DestBlock :=
  let n := pn / s.spt
  let l := if n = s.eng.relFrame + 2 then s.eng.released
    else if n = s.eng.relFrame + 1 then s.eng.prior
    else []
  l.find? fun b => b.entry == i

/-- Whether the frame that holds presentation sample number `pn` was not staged for an entry (R54). -/
def State.missAt (s : State) (i pn : Nat) : Bool :=
  let n := pn / s.spt
  if n = s.eng.relFrame + 2 then s.eng.relMiss.contains i
  else if n = s.eng.relFrame + 1 then s.eng.priorMiss.contains i
  else true

/-- The topcoat of the old graph of the crossfade that frame f is in, which keeps the old gains (R102); `g` where none
runs. -/
def State.fadesFrom (s g : State) (f : Nat) : State :=
  match s.past.find? (fun o => decide (o.l ≤ f) && decide (f < o.l + o.x)) with
  | some o => s.under o
  | none => g

/-- The samples of destination entry i for sample instant number `m`: output term 1 smp, skim path 4 smp
(Table 1.2, R57).  None where its release buffer is not staged.  A switch between a skim and a graph source acts
with the frame that plays (R113), every other skim change with the capture (R60). -/
def State.rawAt (s : State) (i m : Nat) : Option Int :=
  let pn := m - 1
  let cap := m - 4
  let ec := s.capRoute i cap
  let gp := s.govern (pn / s.spt - 2)
  let ep := gp.route i
  match s.blockAt i pn with
  | some b =>
    let k := pn % s.spt
    let w := atD b.skim k 0
    let g := atD b.samples k 0
    if b.samples.isEmpty then none
    else if w = 0 then some g
    else
      let f := pn / s.spt - 2
      let x := if rtSkim ec then (s.govern (cap / s.spt)).skimPlay i ec cap
        else (if rtSkim ep then gp else s.fadesFrom gp f).skimPlay i b.skimE cap
      some (satSample (g + (mul33 x w).1)).1
  | none =>
    if graphSrc ep then if s.missAt i pn then none else some 0
    else if rtSkim ep && graphSrc ec then some (gp.skimPlay i ep cap)
    else some (s.skimAt i cap)

/-- A skim sample captured of a serial slot: the waiting mute changes of the entries that it feeds meet it (R92 to
R94). -/
def State.skimWaits (s : State) (src cap : Nat) : State :=
  (s.gains.mutes.filter fun e => e.2.wait.isSome).foldl (fun (a : State) (i, m) =>
    let e := a.capRoute i cap
    let f := cap / a.spt
    let l := (m.wait.map fun w => w.1).getD 0
    if rtScls e = 7 && rtSidx e == src && decide (l ≤ f) then
      match zcScan l a.zcFrames f a.spt (cap % a.spt) (a.skimGained i e (cap - 1)) [a.skimGained i e cap] with
      | some h =>
        let b := a.endWait { entry := i, timeout := h.2, ramp := a.zcRamp i h }
        if h.2 then ({ b with eng := { b.eng with counts := a.eng.counts } } : State).count Reg.GRAPH.RTSTAT.ZCTO else b
      | none => a
    else a) s

/-- At a boundary, the waits of generators on the skim path that have ended in the ticks before (R92 to R94). -/
def State.skimGenWaits (s : State) : State :=
  (s.gains.mutes.filter fun e => e.2.wait.isSome).foldl (fun (a : State) (i, m) =>
    let e := a.route i
    let l := (m.wait.map fun w => w.1).getD 0
    if rtScls e = 8 && decide (l < a.tick) then
      let p := if l = 0 then 0 else a.skimGained i e (l * a.spt - 1)
      let xs := (List.range ((a.tick - l) * a.spt)).map fun c => a.skimGained i e (l * a.spt + c)
      match zcScan l a.zcFrames l a.spt 0 p xs with
      | some h =>
        let b := a.endWait { entry := i, timeout := h.2, ramp := a.zcRamp i h }
        if h.2 then ({ b with eng := { b.eng with counts := a.eng.counts } } : State).count Reg.GRAPH.RTSTAT.ZCTO else b
      | none => a
    else a) s

/-- The tick at whose boundary a fade to zero ends: an engine stop or a step of the local time (R432, R914). -/
def State.fadeTick (s : State) : Option Nat := match s.eng.stopAt, s.epoch with
  | some k, _ => some k
  | none, some x => if x.k = 0 then none else some x.k
  | none, none => none

/-- The gain of every destination on presentation instant `m`: the 32 smp fade that ends at a stop, and the
256 smp ramp from the first release after a step (R432, R914). [DEDUCED, log 20] [DEDUCED, log 42] -/
def State.destGain (s : State) (m : Nat) : Rat :=
  let a : Rat := match s.fadeTick with
    | some k => (min 32 (k * s.spt - m : Nat) : Nat) / 32
    | none => 1
  let b : Rat := match s.eng.ramp with
    | some f => (min 256 (m - (f + 2) * s.spt : Nat) : Nat) / 256
    | none => 1
  a * b

/-- Whether the first frame of the start in force has been released. -/
def State.playing (s : State) : Bool := s.on Reg.TICK.STATUS.RUN && match s.eng.first with
  | some m => decide (m ≤ s.eng.relFrame)
  | none => false

/-- What destination entry i plays on sample instant number `m`; zero before the first release (R913). -/
def State.playAt (s : State) (i m : Nat) : Option Int :=
  if s.playing then (s.rawAt i m).map fun x => scaleRat (s.destGain m) x else some 0

end Sys2Proof.Machine
end

