-- ==== Sys2Proof/Machine/Net.lean ====
section
/-! DEFINITION. The network ports, the switch and the audio streams (chapter 10). -/
namespace Sys2Proof.Machine

/-! ### Ports and the switch (R511 to R524) -/

/-- A frame discarded at a port. -/
def State.dropFrame (s : State) (p : Nat) : State := s.count (Reg.NET.PORT.RXERR.DROP p)

/-- The queue of a frame at an egress port (R522). -/
def State.queueOf (s : State) (p : Nat) (f : NetFrame) : Nat :=
  if f.kind = .ptp then 0
  else if f.dscp = s.rd (Reg.NET.PORT.QOS.DSCPM p) || 4 ≤ f.pcp then 1
  else 2

/-- Show the switch tables' fill. -/
def State.showSwitch (s : State) : State :=
  (s.wrSat Reg.NET.SWSTAT.FDB s.net.fdb.length).wrSat Reg.NET.SWSTAT.MCG
    ((s.net.mcg.map fun e => e.1).eraseDups).length

/-- Learn a source address (R520). -/
def State.learn (s : State) (p mac : Nat) : State :=
  let g := s.brg p
  let rest := s.net.fdb.filter fun e => !(e.1 == g && e.2.1 == mac)
  if rest.length < 8192 then
    ({ s with net := { s.net with fdb := rest ++ [(g, mac, p, s.run)] } }).showSwitch
  else s

/-- The MAC address of a port. -/
def State.macOf (s : State) (p : Nat) : Nat := s.rd (Reg.NET.PORT.MAC_HI p) * 2 ^ 32 + s.rd (Reg.NET.PORT.MAC_LO p)

/-- Whether the node has joined a group on a port of a bridge group (R534). -/
def State.joined (s : State) (g group : Nat) : Bool :=
  s.strm.rx.any fun e => e.2.state != 0 &&
    ((s.brg e.2.porta == g && e.2.dsta == group) || (e.2.dual && s.brg (e.2.porta + 2) == g && e.2.dstb == group))

/-- The internal port of the switch. -/
def innerPort : Nat := 4

/-- Ports that a frame leaves by (Table 10.1); a group that the node has joined counts as registered. [DEDUCED, log 52] -/
def State.forwardTo (s : State) (f : NetFrame) : List Nat :=
  let others := s.peers f.port
  match f.kind with
  | .badFcs => []
  | .broadcast => others ++ [innerPort]
  | .ptp => if s.transparent then others else [innerPort]
  | .unicast =>
    match s.net.fdb.find? (fun e => e.1 == s.brg f.port && e.2.1 == f.dst) with
    | some e => others.filter fun q => q == e.2.2.1
    | none => others
  | .multicast =>
    let heard := s.net.mcg.filter fun e => e.1 == f.dst && s.brg e.2.1 == s.brg f.port
    let mine := s.joined (s.brg f.port) f.dst
    let out :=
      if heard.isEmpty && !mine then (if s.on Reg.NET.SW.UNREG then others else [])
      else others.filter fun q => (heard.any fun e => e.2.1 == q) || s.net.routers.contains q
    out ++ (if mine then [innerPort] else [])

/-- A multicast router shows itself by a query (Table 10.1); the spec states no end of that. [DESIGN CHOICE, log 52] -/
def State.noteRouter (s : State) (f : NetFrame) : State :=
  if f.query && !s.net.routers.contains f.port then { s with net := { s.net with routers := s.net.routers ++ [f.port] } }
  else s

/-- Hand a frame to a port: the internal port takes it, an external one queues it (R520, R522). -/
def State.handTo (s : State) (f : NetFrame) (q : Nat) : State :=
  if q = innerPort then { s with net := { s.net with inner := some f } }
  else s.enqueueFrame q (s.queueOf q f) (f.ipLen + 18)

/-- FRAME_FORWARD: a frame at an external port (R513, R515, R518 to R524). -/
def doFrameForward (f : NetFrame) (s : State) : State :=
  if !s.portOn f.port then s
  else
    let s1 := s.count (Reg.NET.PORT.RXFRM f.port)
    if f.kind = .badFcs then s1.count (Reg.NET.PORT.RXERR.FCS f.port)
    else if s.rd (Reg.NET.PORT.CFG.MTU f.port) < f.ipLen then s1.dropFrame f.port
    else
      let s2 := (s1.learn f.port f.src).noteRouter f
      if f.kind = .unicast && f.dst == s.macOf f.port then s2.dropFrame f.port
      else (s2.forwardTo f).foldl (fun (a : State) q => a.handTo f q) s2

/-- A reply or report of the node itself leaves by the third queue, with the port's VLAN tag (R516). -/
def State.reply (s : State) (x : NetReply) (bytes : Nat) : State :=
  let y := { x with vid := s.rd (Reg.NET.PORT.QOS.VID x.port) }
  ({ s with net := { s.net with replies := s.net.replies ++ [y] } }).enqueueFrame x.port 2
    (bytes + if y.vid = 0 then 0 else 4)

/-- An IGMPv3 report of a path's destination, of kind 2 to join and 3 to leave, with its source or 0 for any; a
unicast destination has no group (R534, R536). -/
def State.report (s : State) (p kind addr src : Nat) : State :=
  if addr / 2 ^ 28 = 14 then s.reply { port := p, kind := kind, addr := addr, src := src } 60 else s

/-- ARP_REQUEST: answered for the port's own address (R514, R516). [DEDUCED, log 52] -/
def doArp (p target : Nat) (from_ : NetHost) (s : State) : State :=
  if !s.portOn p then s
  else
    let s1 := s.count (Reg.NET.PORT.RXFRM p)
    if s.rd (Reg.NET.PORT.IP.ADDR p) ≠ 0 && target == s.rd (Reg.NET.PORT.IP.ADDR p) && s.vidOk p from_.vid then
      s1.reply { port := p, kind := 0, addr := from_.addr } 46
    else s1

/-- ICMP_ECHO_REQUEST: answered for the port's own address, else discarded, as is one whose packet exceeds the MTU (R513
to R515). [DEDUCED, log 52] -/
def doEcho (p target : Nat) (from_ : NetHost) (payload : List Byte) (s : State) : State :=
  if !s.portOn p then s
  else
    let s1 := s.count (Reg.NET.PORT.RXFRM p)
    if s.rd (Reg.NET.PORT.CFG.MTU p) < payload.length + 28 then s1.dropFrame p
    else if s.rd (Reg.NET.PORT.IP.ADDR p) ≠ 0 && target == s.rd (Reg.NET.PORT.IP.ADDR p) && s.vidOk p from_.vid then
      s1.reply { port := p, kind := 1, addr := from_.addr, data := payload } (payload.length + 46)
    else s1.dropFrame p

/-- IGMP_REPORT: registers a group for the port, up to 2,048 groups (R521). -/
def doIgmp (p group : Nat) (s : State) : State :=
  if !s.portOn p then s
  else
    let s1 := s.count (Reg.NET.PORT.RXFRM p)
    let known := s.net.mcg.any fun e => e.1 == group
    let full := decide (2048 ≤ ((s.net.mcg.map fun e => e.1).eraseDups).length)
    if full && !known then s1
    else
      let rest := s.net.mcg.filter fun e => !(e.1 == group && e.2.1 == p)
      ({ s1 with net := { s1.net with mcg := rest ++ [(group, p, s.run)] } }).showSwitch

/-- FDB_AGEING: an address not seen for AGE seconds ages out (R520). -/
def doAgeing (group mac : Nat) (s : State) : State :=
  let due (e : Nat × Nat × Nat × Nat) : Bool :=
    e.1 == group && e.2.1 == mac && decide (e.2.2.2 + s.rd Reg.NET.SW.AGE * 1000000000 ≤ s.run)
  ({ s with net := { s.net with fdb := s.net.fdb.filter fun e => !due e } }).showSwitch

/-- LINK_STATE_CHANGE (R511). -/
def doLinkState (p : Nat) (up fecLock : Bool) (s : State) : State :=
  if 4 ≤ p || (up && s.rd Reg.SYS.PWR.STATE == 4) then s
  else (s.put (Reg.NET.PORT.STAT.LINK p) up).put (Reg.NET.PORT.STAT.FECLOCK p)
    (fecLock || s.rd (Reg.NET.PORT.CFG.FEC p) == 0)

/-! ### Contexts -/

/-- A receive context. -/
def State.rxc (s : State) (i : Nat) : RxCtx := mapGetD s.strm.rx i {}
/-- Set it. -/
def State.setRx (s : State) (i : Nat) (x : RxCtx) : State := { s with strm := { s.strm with rx := mapSet s.strm.rx i x } }
/-- A transmit context. -/
def State.txc (s : State) (i : Nat) : TxCtx := mapGetD s.strm.tx i {}
/-- Set it. -/
def State.setTx (s : State) (i : Nat) (x : TxCtx) : State := { s with strm := { s.strm with tx := mapSet s.strm.tx i x } }

/-- Open in the sense of the STRM registers: from T(k) of its opening to T(k) of its closing. -/
def ctxOpen (st : Nat) : Bool := st == 2 || st == 3

/-- Packet time in ns. -/
def ptimeNs (c : Nat) : Nat := [62500, 125000, 250000, 1000000].getD c 125000
/-- Samples per packet. -/
def State.spp (s : State) (c : Nat) : Nat := s.fs * ptimeNs c / 1000000000
/-- Bytes of a sample of a format. -/
def fmtBytes (f : Nat) : Nat := [2, 3, 4, 4].getD f 4

/-- The IP packet of a context in bytes. -/
def State.ipBytes (s : State) (fmt nch ptime : Nat) (auth : Bool) : Nat :=
  40 + (if auth then 20 else 0) + nch * s.spp ptime * fmtBytes fmt

/-- Bytes that a transmit packet takes on the wire of a port (R532). -/
def State.wireBytes (s : State) (p : Nat) (x : TxCtx) : Nat :=
  20 + max 64 (18 + (if s.rd (Reg.NET.PORT.QOS.VID p) = 0 then 0 else 4) + s.ipBytes x.format x.nch x.ptime x.auth)

/-- Ports of a context: path A, and the pair partner with DUAL (R7). -/
def pathPorts (porta : Nat) (dual : Bool) : List Nat := if dual then [porta, porta + 2] else [porta]

/-- Scheduled load of a port in bits per second, of these contexts. -/
def State.portLoad (s : State) (p : Nat) (xs : List TxCtx) : Nat :=
  ((xs.filter fun x => (pathPorts x.porta x.dual).contains p).map fun x =>
    s.wireBytes p x * 8 * (1000000000 / ptimeNs x.ptime)).sum

/-- Line rate of a port in bits per second. -/
def State.lineRate (s : State) (p : Nat) : Nat := if s.on (Reg.NET.PORT.CFG.SPEED p) then 25000000000 else 10000000000

/-- The transmit contexts in use. -/
def State.txUsed (s : State) : List TxCtx := (s.strm.tx.filter fun e => e.2.state != 0).map fun e => e.2

/-- Show the STRM registers and each port's load. -/
def State.showStrm (s : State) : State :=
  let rx := s.strm.rx.filter fun e => ctxOpen e.2.state
  let tx := s.strm.tx.filter fun e => ctxOpen e.2.state
  let bits (l : List Nat) (w : Nat) : Nat := ((l.filter fun i => i / 32 == w).map fun i => 2 ^ (i % 32)).sum
  let chans := (rx.map fun e => (e.2.map.filter fun c => c != 0xFFFF).length).sum
  let txch := (tx.map fun e => e.2.nch).sum
  let downs := rx.filter fun e => !e.2.upA && !(e.2.dual && e.2.upB)
  let half := rx.filter fun e => e.2.dual && (e.2.upA != e.2.upB)
  let s1 := (((((s.wr Reg.STRM.COUNT.RXOPEN rx.length).wr Reg.STRM.COUNT.TXOPEN tx.length).wrSat Reg.STRM.CHANS.RXCH
    chans).wrSat Reg.STRM.CHANS.TXCH txch).wr Reg.STRM.DOWN.RX downs.length).wr Reg.STRM.DOWN.PATH half.length
  let s2 := (List.range 16).foldl (fun (a : State) w =>
    (a.wr (Reg.STRM.RXMAP.OPEN w) (bits (rx.map fun e => e.1) w)).wr (Reg.STRM.TXMAP.OPEN w)
      (bits (tx.map fun e => e.1) w)) s1
  (List.range 4).foldl (fun (a : State) p =>
    a.wrSat (Reg.NET.PORT.STAT.TXLOAD p) (a.portLoad p a.txUsed * 1000 / a.lineRate p)) s2

/-! ### Records (R565) -/

/-- STATE byte of a receive record. -/
def rxState (x : RxCtx) : Nat :=
  (if ctxOpen x.state then 1 else 0) + (if x.upA then 2 else 0) + (if x.upB then 4 else 0)

/-- A saturating 32-bit counter. -/
def le32s (v : Nat) : List Byte := le 4 (min v (2 ^ 32 - 1))

/-- A receive record (Table 10.7). -/
def State.rxRecord (s : State) (x : RxCtx) : List Byte :=
  let ms := (x.margins.filter fun e => decide (s.run < e.1 + 1000000000)).map fun e => e.2
  let low := match ms with
    | [] => 0
    | m :: r => r.foldl min m
  le32s x.pktA ++ le32s x.pktB ++ le32s x.gapA ++ le32s x.gapB ++ le32s x.dup ++ le32s x.lateApp ++ le32s x.lateDrop ++
    le32s x.stale ++ le32s x.conceal ++ le 2 (min x.slipDrop 65535) ++ le 2 (min x.slipRep 65535) ++ le32s x.authFail ++
    le32s x.fmtErr ++ le32s x.early ++ leInt 4 low ++ le 1 (rxState x) ++ leInt 1 (max (-127) (min 127 x.slipK)) ++
    le 2 0 ++ le 4 s.eng.relFrame

/-- A transmit record (Table 10.8). -/
def State.txRecord (s : State) (x : TxCtx) : List Byte :=
  let late := (x.latest.filter fun e => decide (s.run < e.1 + 1000000000)).foldl (fun a e => max a e.2) 0
  le32s x.pktA ++ le32s x.pktB ++ le32s x.txMiss ++ le32s late ++ le 1 (if ctxOpen x.state then 1 else 0) ++
    List.replicate 11 0 ++ le 4 s.eng.relFrame

/-- A receive context with its counters at zero, in the record as published too; what is no counter stays (R565,
Table 10.7). -/
def RxCtx.cleared (x : RxCtx) : RxCtx :=
  { x with
    pub := List.replicate 52 0 ++ x.pub.drop 52
    pktA := 0, pktB := 0, gapA := 0, gapB := 0, dup := 0, lateApp := 0, lateDrop := 0, stale := 0, conceal := 0
    slipDrop := 0, slipRep := 0, authFail := 0, fmtErr := 0, early := 0 }

/-- A transmit context with its counters at zero, in the record as published too (R565, Table 10.8). -/
def TxCtx.cleared (x : TxCtx) : TxCtx :=
  { x with pktA := 0, pktB := 0, txMiss := 0, pub := List.replicate 12 0 ++ x.pub.drop 12 }

/-- STREAM_STAT. -/
def streamStatRes (d : Desc) (s : State) : Res :=
  let i := d.a1
  let clr := d.flags % 2 = 1
  if 2 ≤ d.a0 then badDesc s 48
  else if 512 ≤ i then badDesc s 52
  else if d.a0 = 0 then
    match mapGet s.strm.rx i with
    | none => okRes s [] (List.replicate 60 0 ++ le 4 s.eng.relFrame)
    | some x => okRes (if clr then s.setRx i x.cleared else s) [] x.pub
  else match mapGet s.strm.tx i with
    | none => okRes s [] (List.replicate 28 0 ++ le 4 s.eng.relFrame)
    | some x => okRes (if clr then s.setTx i x.cleared else s) [] x.pub

/-- Every stream record's counters at zero (`STRM.CTRL.CLR_CNT`). -/
def State.clearStreams (s : State) : State :=
  { s with strm := { s.strm with
      rx := s.strm.rx.map fun e => (e.1, e.2.cleared)
      tx := s.strm.tx.map fun e => (e.1, e.2.cleared) } }

/-! ### Opening and closing (R529 to R537) -/

/-- The reserved fields of a buffer that are not zero, each named by its first byte (R529, Table 14.5). -/
def nonZero (b : List Byte) (fields : List (Nat × Nat)) : List Nat :=
  (fields.filter fun f => rdLe b f.1 f.2 != 0).map fun f => f.1

/-- The channel map of a context buffer. -/
def mapOf (b : List Byte) (nch : Nat) : List Nat := (List.range nch).map fun c => rdLe b (64 + 2 * c) 2

/-- The least of a list of failing offsets. -/
def least (l : List Nat) : Option Nat :=
  l.foldl (fun a o => match a with
    | none => some o
    | some x => some (min x o)) none

/-- Ports whose MTU a context's packets exceed. -/
def State.mtuBad (s : State) (ports : List Nat) (bytes : Nat) : Bool :=
  ports.any fun p => decide (s.rd (Reg.NET.PORT.CFG.MTU p) < bytes)

/-- The first failing byte of a receive context structure (R529, R540). -/
def State.rxBad (s : State) (b : List Byte) : Option Nat :=
  let f (o n : Nat) := rdLe b o n
  let dual := (f 6 1).testBit 0
  let nch := f 3 1
  let cond (bad : Bool) (o : Nat) : List Nat := if bad then [o] else []
  let minOfs := max 1 (ceilDiv (ptimeNs (f 4 1)) s.tickNs)
  let maps := (mapOf b (min nch 64)).zipIdx.filterMap fun (c, i) =>
    if c ≠ 0xFFFF && s.srcCap 1 ≤ c then some (64 + 2 * i) else none
  least (cond (decide (512 ≤ f 0 2)) 0 ++ cond (decide (4 ≤ f 2 1)) 2 ++ cond (nch == 0 || decide (64 < nch)) 3 ++
    cond (decide (4 ≤ f 4 1)) 4 ++ cond (decide (f 5 1 < minOfs) || decide (64 < f 5 1)) 5 ++
    cond (decide (16 ≤ f 6 1)) 6 ++ cond (f 7 1 != 0 && (decide (f 7 1 < 96) || decide (127 < f 7 1))) 7 ++
    cond (decide (4 ≤ f 8 1) || (dual && decide (2 ≤ f 8 1)) ||
      s.mtuBad (pathPorts (f 8 1) dual) (s.ipBytes (f 2 1) nch (f 4 1) ((f 6 1).testBit 2))) 8 ++
    cond (decide (64 ≤ f 9 1)) 9 ++ nonZero b [(10, 2), (26, 2), (42, 22)] ++ maps)

/-- The first failing byte of a transmit context structure (R529, R554). -/
def State.txBad (s : State) (b : List Byte) : Option Nat :=
  let f (o n : Nat) := rdLe b o n
  let dual := (f 5 1).testBit 0
  let nch := f 3 1
  let cond (bad : Bool) (o : Nat) : List Nat := if bad then [o] else []
  let top := min (ptimeNs (f 4 1)) s.tickNs - 2000
  let maps := (mapOf b (min nch 64)).zipIdx.filterMap fun (c, i) =>
    if c ≠ 0xFFFF && s.srcCap 1 ≤ c then some (64 + 2 * i) else none
  least (cond (decide (512 ≤ f 0 2)) 0 ++ cond (decide (4 ≤ f 2 1)) 2 ++ cond (nch == 0 || decide (64 < nch)) 3 ++
    cond (decide (4 ≤ f 4 1)) 4 ++ cond (decide (4 ≤ f 5 1)) 5 ++ cond (decide (f 6 1 < 96) || decide (127 < f 6 1)) 6 ++
    cond (decide (4 ≤ f 7 1) || (dual && decide (2 ≤ f 7 1)) ||
      s.mtuBad (pathPorts (f 7 1) dual) (s.ipBytes (f 2 1) nch (f 4 1) ((f 5 1).testBit 1))) 7 ++
    cond (decide (top < f 8 2 * 10)) 8 ++ cond (decide (64 ≤ f 10 1)) 10 ++ cond (f 11 1 == 0) 11 ++
    nonZero b [(34, 30)] ++ maps)

/-- The receive context that a buffer spells. -/
def rxOf (b : List Byte) (k : Nat) : RxCtx :=
  let f (o n : Nat) := rdLe b o n
  let fl := f 6 1
  { state := 1, at_ := k, format := f 2 1, nch := f 3 1, ptime := f 4 1, rxofs := f 5 1
    dual := fl.testBit 0, slipen := fl.testBit 1, auth := fl.testBit 2, ssrcchk := fl.testBit 3
    pt := f 7 1, porta := f 8 1, keyset := f 9 1, rtpofs := f 12 4, srca := f 16 4, dsta := f 20 4
    udpa := f 24 2, ssrc := f 28 4, srcb := f 32 4, dstb := f 36 4, udpb := f 40 2, map := mapOf b (f 3 1) }

/-- The transmit context that a buffer spells. -/
def txOf (b : List Byte) (k seq : Nat) : TxCtx :=
  let f (o n : Nat) := rdLe b o n
  { state := 1, at_ := k, format := f 2 1, nch := f 3 1, ptime := f 4 1, dual := (f 5 1).testBit 0
    auth := (f 5 1).testBit 1, pt := f 6 1, porta := f 7 1, lofs := f 8 2, keyset := f 10 1, ttl := f 11 1
    rtpofs := f 12 4, dsta := f 16 4, udpa := f 20 2, sport := f 22 2, ssrc := f 24 4, dstb := f 28 4
    udpb := f 32 2, map := mapOf b (f 3 1), rtpSeq := seq % 65536 }

/-- Whether R530 refuses a receive context: a channel mapped twice, or an address taken. -/
def State.rxConflict (s : State) (x : RxCtx) : Bool :=
  let live := (s.strm.rx.filter fun e => e.2.state != 0 && e.2.state != 4).map fun e => e.2
  let mine := x.map.filter fun c => c != 0xFFFF
  let addrs (y : RxCtx) : List (Nat × Nat × Nat) :=
    (y.porta, y.dsta, y.udpa) :: (if y.dual then [(y.porta + 2, y.dstb, y.udpb)] else [])
  decide (mine.eraseDups.length < mine.length) ||
    live.any fun y => mine.any y.map.contains || (addrs x).any (addrs y).contains

/-- A receive context that closed has ended its last frame: the node leaves its groups (R536). -/
def State.leaveGroups (s : State) (i : Nat) : State :=
  let x := s.rxc i
  if x.state ≠ 4 then s
  else
    let s1 := (s.setRx i { x with state := 0 }).report x.porta 3 x.dsta x.srca
    if x.dual then s1.report (x.porta + 2) 3 x.dstb x.srcb else s1

/-- STREAM_OPEN (R529 to R534). [DEDUCED, log 49] -/
def streamOpenRes (d : Desc) (s : State) : Res :=
  let b := d.buf
  if 2 ≤ d.a0 then badDesc s 48
  else if b.length ≠ 192 then badDesc s 32
  else if s.rd Reg.SYS.PWR.STATE = 4 then failRes s stRefused
  else
    let i := rdLe b 0 2
    let k := s.tickFrom (s.readNs d) 0 2
    match if d.a0 = 0 then s.rxBad b else s.txBad b with
    | some o => badBuf s o
    | none =>
      if !s.on Reg.TICK.CFG.PLAN then failRes s stRefused
      else if d.a0 = 0 then
        let x := rxOf b k
        if (s.rxc i).state ≠ 0 && (s.rxc i).state ≠ 4 then failRes s stBusy
        else if s.rxConflict x then failRes s stConflict
        else
          let s1 := (s.leaveGroups i).setRx i x
          let s2 := s1.report x.porta 2 x.dsta x.srca
          okRes (if x.dual then s2.report (x.porta + 2) 2 x.dstb x.srcb else s2) (le 8 k)
      else
        let (v, s0) := s.fresh
        let x := txOf b k v
        if (s.txc i).state ≠ 0 then failRes s stBusy
        else if (pathPorts x.porta x.dual).any fun p =>
            decide (s.lineRate p * 8 < s.portLoad p (s.txUsed ++ [x]) * 10) then failRes s stNoBandwidth
        else okRes ((s0.setTx i x).showStrm.showEval s) (le 8 k)

/-- STREAM_OPEN_EFFECT (R534, R535). -/
def doStreamOpened (tx : Bool) (i : Nat) (s : State) : State :=
  if tx then
    let x := s.txc i
    if x.state ≠ 1 then s
    else (((s.reach (s.tAt x.at_)).setTx i { x with
      state := if x.closeAt.isSome then 3 else 2, at_ := x.closeAt.getD x.at_ }).showStrm)
  else
    let x := s.rxc i
    if x.state ≠ 1 then s
    else
      let s1 := s.reach (s.tAt x.at_)
      let e := s1.eng
      let s2 : State := { s1 with eng := { e with conceal := e.conceal.filter fun c => !x.map.contains c.1 } }
      ((s2.setRx i { x with
        state := if x.closeAt.isSome then 3 else 2, at_ := x.closeAt.getD x.at_
        openedAt := s1.run, winFrom := s1.run }).showStrm).showEval s

/-- STREAM_CLOSE (R536): a context that is to close already keeps its T(k), and one that has not opened closes after it
has. [DEDUCED, log 49] [DESIGN CHOICE, log 49] -/
def streamCloseRes (d : Desc) (s : State) : Res :=
  let i := d.a1
  let k := s.tickFrom (s.readNs d) 0 2
  if 2 ≤ d.a0 then badDesc s 48
  else if 512 ≤ i then badDesc s 52
  else if d.a0 = 0 then
    let x := s.rxc i
    if x.state = 0 || x.state = 4 then failRes s stRefused
    else if x.state = 3 then okRes s (le 8 x.at_)
    else if x.state = 1 then okRes (s.setRx i { x with closeAt := some (x.closeAt.getD k) }) (le 8 (x.closeAt.getD k))
    else okRes (s.setRx i { x with state := 3, at_ := k }) (le 8 k)
  else
    let x := s.txc i
    if x.state = 0 then failRes s stRefused
    else if x.state = 3 then okRes s (le 8 x.at_)
    else if x.state = 1 then okRes (s.setTx i { x with closeAt := some (x.closeAt.getD k) }) (le 8 (x.closeAt.getD k))
    else okRes (s.setTx i { x with state := 3, at_ := k }) (le 8 k)

/-- STREAM_CLOSE_EFFECT: at T(k) the channels begin their fade, and packets of frame k are still taken; from frame k+1 on
they are unmapped, and the node leaves the groups at its boundary (R536). -/
def doStreamClosed (tx : Bool) (i : Nat) (s : State) : State :=
  if tx then
    let x := s.txc i
    if x.state ≠ 3 then s
    else (((s.reach (s.tAt x.at_)).setTx i { x with state := 0, closeAt := none, part := [] }).showStrm).showEval s
  else
    let x := s.rxc i
    if x.state ≠ 3 then s
    else
      let s1 := (s.reach (s.tAt x.at_)).setRx i { x with state := 4, closeAt := none, upA := false, upB := false }
      let s2 : State := { s1 with strm := { s1.strm with
          closing := s1.strm.closing ++ [(x.at_, x.map.filter fun c => c != 0xFFFF)] } }
      (s2.showStrm).showEval s

/-- Post the stream state event of a context. -/
def State.streamEvent (s : State) (tx : Bool) (i st : Nat) : State :=
  s.post 0x0014 (le 1 (if tx then 1 else 0) ++ le 2 i ++ le 1 st)

/-- A plan load closes every open context at once (R537). [DEDUCED, log 49] -/
def State.closeStreams (s : State) : State :=
  let s1 := (s.strm.rx.filter fun e => e.2.state != 0).foldl (fun (a : State) e =>
    let b := a.setRx e.1 { e.2 with state := 0, closeAt := none, upA := false, upB := false }
    if e.2.state = 4 then b else b.streamEvent false e.1 0) s
  let s2 := (s1.strm.tx.filter fun e => e.2.state != 0).foldl (fun (a : State) e =>
    (a.setTx e.1 { e.2 with state := 0, closeAt := none, part := [], queue := [] }).streamEvent true e.1 0) s1
  ({ s2 with strm := { s2.strm with closing := [] } }).showStrm

/-! ### Packets (R538 to R551, R558 to R564) -/

/-- The engine sample instant, as a sample count since the epoch, that an RTP timestamp maps to: of the
congruent ones the nearest to now (R538). -/
def State.mapRtp (s : State) (rtp ofs : Nat) : Nat :=
  let now := s.ns * 3 / s.ts3
  let r := (rtp + ofs) % 2 ^ 32
  let base := now / 2 ^ 32 * 2 ^ 32 + r
  let far (x : Nat) : Nat := max x now - min x now
  let best (a b : Nat) : Nat := if far b < far a then b else a
  best base (best (base + 2 ^ 32) (if 2 ^ 32 ≤ base then base - 2 ^ 32 else base))

/-- A big-endian number. -/
def unBe (l : List Byte) : Nat := unLe l.reverse

/-- One sample of a payload as a graph sample (R526, R527). -/
def sampleIn (fmt : Nat) (b : List Byte) : Int :=
  match fmt with
  | 0 => fromInt 16 (toInt 16 (unBe b))
  | 1 => fromInt 24 (toInt 24 (unBe b))
  | 2 => fromInt 32 (toInt 32 (unBe b))
  | _ => fromInt 24 (toInt 24 (unBe b % 2 ^ 24))

/-- Presentation sample number of a stream sample, none where a slip drops it; a sample that a slip repeats
takes two (R539, R549, R550). -/
def RxCtx.placeAt (x : RxCtx) (spt m : Nat) : List Nat :=
  let at_ (k : Int) : Int := (m : Int) + x.rxofs * spt + k
  let f0 : Int := (x.slipAt * spt : Nat)
  let a := at_ x.slipOld
  let b := at_ x.slipK
  if a < f0 then (if x.slipOld < x.slipK && a + 1 == f0 then [a.toNat, (a + 1).toNat] else [a.toNat])
  else if b < f0 then []
  else [b.toNat]

/-- The source number under which the intake notes the samples of a context that maps no channel, so that a second copy
shows as one (R544). -/
def bareSrc (i : Nat) : Nat := 49152 + i

/-- The samples of a packet of context i by frame: for every mapped channel its samples of the frame; none of a frame
after the last of a context that closes (R536, R542). -/
def State.portions (s : State) (i : Nat) (x : RxCtx) (p : Packet) : List (Nat × List (Nat × Heard)) :=
  let m := s.mapRtp p.rtp x.rtpofs
  let w := fmtBytes x.format
  let spots := ((List.range (s.spp x.ptime)).map fun j => (x.placeAt s.spt (m + j)).map fun n => (j, n)).flatten
  let ends (f : Nat) : Bool := (x.state == 3 || x.state == 4) && decide (x.at_ < f)
  let frames := ((spots.map fun e => e.2 / s.spt).eraseDups).filter fun f => !ends f
  frames.map fun f =>
    let mine := spots.filter fun e => e.2 / s.spt == f
    if x.map.all fun c => c == 0xFFFF then (f, [(bareSrc i, mine.map fun e => (e.2 % s.spt, (0 : Int)))])
    else (f, x.map.zipIdx.filterMap fun (c, k) =>
      if c = 0xFFFF then none
      else some (c, mine.map fun (j, n) =>
        (n % s.spt, sampleIn x.format ((p.payload.drop ((j * x.nch + k) * w)).take w))))

/-- The context that a packet matches, and whether on path B: an open one, or one whose last frame still runs (R536,
R541, R544). -/
def State.matchRx (s : State) (p : Packet) : Option (Nat × Bool) :=
  let open_ := s.strm.rx.filter fun e => ctxOpen e.2.state || e.2.state == 4
  match open_.find? (fun e => e.2.porta == p.port && e.2.dsta == p.dst && e.2.udpa == p.udp) with
  | some e => some (e.1, false)
  | none =>
    (open_.find? fun e => e.2.dual && e.2.porta + 2 == p.port && e.2.dstb == p.dst && e.2.udpb == p.udp).map
      fun e => (e.1, true)

/-- Whether a packet's format differs from its context's (R541). -/
def State.fmtBad (s : State) (x : RxCtx) (pathB : Bool) (p : Packet) : Bool :=
  let src := if pathB then x.srcb else x.srca
  (src != 0 && src != p.src) || (x.ssrcchk && x.ssrc != p.ssrc) || (x.pt != 0 && x.pt != p.pt) ||
    p.payload.length != x.nch * s.spp x.ptime * fmtBytes x.format

/-- The key of a stream key set by its ID: current or next (R562). [DEDUCED, log 50] -/
def State.streamKey (s : State) (set id : Nat) : Option KeyRec :=
  s.sec.keys.find? fun k => k.cls == 4 && k.slot == set && k.id == id

/-- The GMAC tag of a packet (R560). [DEDUCED, log 50] -/
def streamTag (key : List Byte) (ssrc ctr : Nat) (raw : List Byte) : Nat :=
  Config.gmac64 key (be 4 ssrc ++ be 6 ctr ++ [0, 0]) raw

/-- What R562 makes of a packet: accepted, a duplicate, or a failure. -/
inductive AuthRes where
  | accept | dup | fail
  deriving DecidableEq, Repr

/-- The header extension that an RTP packet's bytes spell, with its place: X set, PROFILE 0xF160 and LENGTH 4 (R558,
Table 10.6). -/
def rtpExt (b : List Byte) : Option (Nat × AuthExt) :=
  let at_ := 12 + 4 * (rdLe b 0 1 % 16)
  let f (o n : Nat) : Nat := unBe ((b.drop (at_ + o)).take n)
  if (rdLe b 0 1).testBit 4 && f 0 2 == 0xF160 && f 2 2 == 4 && decide (at_ + 20 ≤ b.length) then
    some (at_, { ver := f 4 1, keyId := f 5 1, ctr := f 6 6, tag := f 12 8 })
  else none

/-- Whether the fields of a packet are those that its bytes spell (R541, R560). -/
def rtpSpells (p : Packet) : Bool :=
  let b := p.raw
  let f (o n : Nat) : Nat := unBe ((b.drop o).take n)
  f 1 1 % 128 == p.pt && f 2 2 == p.seq && f 4 4 == p.rtp && f 8 4 == p.ssrc &&
    (rtpExt b).all fun e => b.drop (e.1 + 20) == p.payload

/-- The check of R562, on the packet's bytes with TAG set to zero (R560). [DEDUCED, log 50] -/
def State.authCheck (s : State) (x : RxCtx) (p : Packet) : AuthRes :=
  if !x.auth then .accept
  else match rtpExt p.raw with
    | none => .fail
    | some (at_, e) =>
      if !rtpSpells p then .fail
      else if x.ctrSeen.contains (e.ctr, e.tag) then .dup
      else match s.streamKey x.keyset e.keyId with
        | none => .fail
        | some k =>
          if e.ver = 1 && !s.cryptoDown && streamTag k.key p.ssrc e.ctr (splice p.raw (at_ + 12) (be 8 0)) == e.tag &&
              decide (x.ctrMax < e.ctr + 64) && !(x.ctrSeen.any fun c => c.1 == e.ctr) then .accept
          else .fail

/-- An authentication failure: counted, with one event for the first in each 1,000 ms window (R564). -/
def State.authFailed (s : State) (i : Nat) : State :=
  let x := s.rxc i
  let w := s.run / 1000000000
  let fresh := x.failFrom != w || x.failWin == 0
  let prev := if x.failFrom = w then x.failPrev else if x.failFrom + 1 = w then x.failWin else 0
  let y : RxCtx := { x with
    authFail := x.authFail + 1, failFrom := w, failPrev := prev
    failWin := if x.failFrom = w then x.failWin + 1 else 1 }
  let s1 := s.setRx i y
  if fresh then s1.post 0x0015 (le 2 i ++ le 4 prev) else s1

/-- An accepted packet of a path: its sequence gap, and the path is up (R546, R547). -/
def State.pathSeen (s : State) (i : Nat) (pathB : Bool) (seq : Nat) : State :=
  let x := s.rxc i
  let old := if pathB then x.lastB else x.lastA
  let gap := match old with
    | none => 0
    | some (_, q) =>
      let d := (seq + 65536 - q) % 65536
      if d = 0 || 32768 ≤ d then 0 else d - 1
  let wasUp := if pathB then x.upB else x.upA
  let y : RxCtx :=
    if pathB then { x with lastB := some (s.run, seq), gapB := x.gapB + gap, upB := true }
    else { x with lastA := some (s.run, seq), gapA := x.gapA + gap, upA := true }
  let s1 := s.setRx i y
  if wasUp then s1 else (s1.streamEvent false i (rxState y)).showStrm

/-- Note the CTR and the tag of an accepted packet (R562). -/
def RxCtx.noteCtr (x : RxCtx) (p : Packet) : RxCtx :=
  match rtpExt p.raw with
  | some (_, e) => if x.auth then { x with ctrMax := max x.ctrMax e.ctr, ctrSeen := x.ctrSeen ++ [(e.ctr, e.tag)] } else x
  | none => x

/-- Note the margin of an accepted packet in ns (R548). -/
def RxCtx.noteMargin (x : RxCtx) (run : Nat) (m : Int) : RxCtx :=
  let kept := (x.margins.filter fun e => decide (run < e.1 + 1000000000)) ++ [(run, quot m 100)]
  let y := { x with margins := kept }
  if run < x.openedAt + 1000000000 then { y with m0Sum := x.m0Sum + m, m0Cnt := x.m0Cnt + 1 }
  else { y with winSum := x.winSum + m, winCnt := x.winCnt + 1 }

/-- The margin of a packet in ns: the cutoff of the frame that holds its first sample, minus now (R548). -/
def State.marginOf (s : State) (x : RxCtx) (p : Packet) : Int :=
  let n := (x.placeAt s.spt (s.mapRtp p.rtp x.rtpofs)).headD (s.mapRtp p.rtp x.rtpofs + x.rxofs * s.spt)
  ((s.tAt (n / s.spt + 1) : Nat) : Int) - 2000 - s.ns

/-- An accepted packet: its portions are classed and merged; one with any duplicate portion counts once (R247, R542 to
R544). -/
def State.takePacket (s : State) (i : Nat) (pathB : Bool) (p : Packet) : State :=
  let x := s.rxc i
  let ps := s.portions i x p
  let y := x.noteMargin s.run (s.marginOf x p)
  let kinds := ps.map fun (f, d) => s.arrival f d
  let used := kinds.contains .onTime
  let twice := kinds.contains .duplicate
  let z0 : RxCtx := { y with dup := y.dup + if twice then 1 else 0 }
  let z : RxCtx :=
    if used then (if pathB then { z0 with pktB := z0.pktB + 1 } else { z0 with pktA := z0.pktA + 1 })
    else if kinds.contains .stale && !kinds.contains .late then { z0 with stale := z0.stale + 1 }
    else z0
  ps.foldl (fun (a : State) (f, d) => a.arrive (some i) f d pathB used twice) (s.setRx i z)

/-- The frame whose intake is open (R24, R543). -/
def State.openFrame (s : State) : Nat :=
  if s.eng.cutDone || decide (s.tAt (s.tick + 1) ≤ s.ns + 2000) then s.tick + 1 else s.tick

/-- PACKET_RECEIVE (R513, R516, R541 to R548, R562 to R564). -/
def doPacket (p : Packet) (s : State) : State :=
  if !s.portOn p.port then s
  else
    let s1 := s.count (Reg.NET.PORT.RXFRM p.port)
    if s.rd (Reg.NET.PORT.CFG.MTU p.port) < p.ipLen then s1.dropFrame p.port
    else if !s.vidOk p.port p.vid then s1.dropFrame p.port
    else match s1.matchRx p with
      | none => s1.dropFrame p.port
      | some (i, pathB) =>
        let x := s1.rxc i
        if s1.fmtBad x pathB p then s1.setRx i { x with fmtErr := x.fmtErr + 1 }
        else match s1.authCheck x p with
          | .fail => s1.authFailed i
          | .dup => (s1.setRx i { x.noteMargin s1.run (s1.marginOf x p) with dup := x.dup + 1 }).pathSeen i pathB p.seq
          | .accept =>
            if (s1.portions i x p).any fun e => decide (s1.openFrame + 64 < e.1) then
              s1.setRx i { x with early := x.early + 1 }
            else ((s1.setRx i (x.noteCtr p)).pathSeen i pathB p.seq).takePacket i pathB p

/-- STREAM_PATH_DOWN: no packet has been accepted on the path for 10 ms (R547). -/
def doPathDown (i : Nat) (pathB : Bool) (s : State) : State :=
  let x := s.rxc i
  let due := match if pathB then x.lastB else x.lastA with
    | some e => decide (e.1 + 10000000 ≤ s.run)
    | none => true
  if !ctxOpen x.state || !(if pathB then x.upB else x.upA) || !due then s
  else
    let y : RxCtx := if pathB then { x with upB := false } else { x with upA := false }
    ((s.setRx i y).streamEvent false i (rxState y)).showStrm

/-- Samples of the backwater that a slip moves: those from sample 0 of frame f of the context's channels
(R550). -/
def State.shiftWater (s : State) (chans : List Nat) (f : Nat) (rep : Bool) : State :=
  let spt := s.spt
  let mine (k : Nat) : Bool := chans.contains (k % 65536) && decide (f ≤ k / 65536)
  let kept := s.eng.water.filter fun e => !mine e.1
  let moved := (s.eng.water.filter fun e => mine e.1).map fun e => e.2.map fun h =>
    (e.1 % 65536, e.1 / 65536 * spt + h.1, h.2)
  let flat := moved.flatten
  let base : State := { s with eng := { s.eng with water := kept } }
  let last (c : Nat) : List (Nat × Nat × Int) := match mapGet (s.heardOf (f - 1) c) (spt - 1) with
    | some v => [(c, f * spt, v)]
    | none => []
  let out := if rep then (flat.map fun e => (e.1, e.2.1 + 1, e.2.2)) ++ (chans.map last).flatten
    else flat.filterMap fun e => if e.2.1 = f * spt then none else some (e.1, e.2.1 - 1, e.2.2)
  out.foldl (fun (a : State) e => a.soak (e.2.1 / spt) [(e.1, [(e.2.1 % spt, e.2.2)])]) base

/-- SLIP_WINDOW_END: a 50 ms window of margins ends (R548 to R551). -/
def doSlipWindow (i : Nat) (s : State) : State :=
  let x := s.rxc i
  if !ctxOpen x.state || s.run < x.winFrom + 50000000 then s
  else if !x.slipen || x.m0Cnt = 0 || x.winCnt = 0 then s.setRx i { x with winSum := 0, winCnt := 0, winFrom := s.run }
  else
    let avg : Rat := (x.winSum : Rat) / x.winCnt
    let m0 : Rat := (x.m0Sum : Rat) / x.m0Cnt
    let ts : Rat := (s.ts3 : Rat) / 3
    let f := s.openFrame
    let chans := x.map.filter fun c => c != 0xFFFF
    let y := { x with winSum := 0, winCnt := 0, winFrom := s.run }
    if m0 + ts < avg then
      (s.setRx i { y with slipOld := x.slipK, slipK := x.slipK - 1, slipAt := f, slipDrop := x.slipDrop + 1 }).shiftWater
        chans f false
    else if avg < m0 - ts then
      (s.setRx i { y with slipOld := x.slipK, slipK := x.slipK + 1, slipAt := f, slipRep := x.slipRep + 1 }).shiftWater
        chans f true
    else s.setRx i y
/-- LATE_DROP_WINDOW_END (R291). -/
def doLateDrops (s : State) : State :=
  (s.strm.rx.filter fun e => e.2.dropWin != 0).foldl (fun (a : State) e =>
    (a.setRx e.1 { e.2 with dropWin := 0 }).post 0x0013 (le 2 e.1 ++ le 4 e.2.dropWin)) s

/-! ### Transmit (R552 to R557) -/

/-- The bits of a byte, the first transmitted first. [PRESUMED, log 51] -/
def byteBits (v : Nat) : List Bool := (List.range 8).map fun i => v.testBit i

/-- One bit through the check character's register of AES3: x^8 + x^4 + x^3 + x^2 + 1, from all ones. [PRESUMED, log 51] -/
def aesCrcStep (r : Nat) (b : Bool) : Nat :=
  let out := r.testBit 7 != b
  r * 2 % 256 ^^^ (if out then 0x1D else 0)

/-- The professional channel status block of AES3 for linear PCM at the engine rate with words of 24 bits: 23 bytes and
their check character (R527). [PRESUMED, log 51] -/
def State.statusBlock (s : State) : List Bool :=
  let rate := s.rd Reg.TICK.CFG.RATE
  let body : List Nat := [if rate = 0 then 0x81 else 0x01, 0, 0x2C, 0, if rate = 1 then 0x10 else if rate = 2 then 0x18 else 0] ++
    List.replicate 18 0
  let bits := (body.map byteBits).flatten
  let crc := bits.foldl aesCrcStep 0xFF
  bits ++ (List.range 8).map fun i => crc.testBit (7 - i)

/-- The label of an AM824 word of sample n and channel ch: block and frame start, even parity and the channel status bit
below the two bits of its kind (R527). [PRESUMED, log 51] -/
def State.am824 (s : State) (n ch v : Nat) : Nat :=
  let one (b : Bool) : Nat := if b then 1 else 0
  let c := s.statusBlock.getD (n % 192) false
  let ones := ((List.range 24).filter fun i => v.testBit i).length + one c
  Config.am824Label % 4 * 64 + one (n % 192 == 0) * 32 + one (ch % 2 == 0) * 16 + ones % 2 * 8 + one c * 4

/-- One sample of a payload (R526, R527). -/
def State.sampleOut (s : State) (fmt n ch : Nat) (x : Int) : List Byte :=
  match fmt with
  | 0 => be 2 (ofInt 16 (toIntW 16 x))
  | 1 => be 3 (ofInt 24 (toIntW 24 x))
  | 2 => be 4 (ofInt 32 (toIntW 32 x))
  | _ =>
    let v := ofInt 24 (toIntW 24 x)
    be 1 (s.am824 n ch v) ++ be 3 v

/-- The samples of a transmit context for the released frame, by sample number: none where a destination's
buffer is not staged (R54, R553). [DEDUCED, log 50] -/
def State.txFrame (s : State) (x : TxCtx) : Option (List (Nat × List Int)) :=
  let f := s.eng.relFrame
  let chans := x.map.map fun c =>
    if c = 0xFFFF then some (List.replicate s.spt 0)
    else match s.destEntry 3 c with
      | none => some (List.replicate s.spt 0)
      | some e =>
        match s.eng.released.find? fun b => b.entry == e with
        | some b => some b.samples
        | none => if s.eng.relMiss.contains e then none else some (List.replicate s.spt 0)
  if chans.any fun c => c.isNone then none
  else some ((List.range s.spt).map fun k => ((f + 2) * s.spt + k, chans.map fun c => atD (c.getD []) k 0))

/-- The header of a stream packet with its extension and a TAG (R558, R560). -/
def rtpHeader (x : TxCtx) (seq rtp key ctr tag : Nat) : List Byte :=
  be 1 (if x.auth then 0x90 else 0x80) ++ be 1 x.pt ++ be 2 seq ++ be 4 rtp ++ be 4 x.ssrc ++
    (if x.auth then be 2 0xF160 ++ be 2 4 ++ be 1 1 ++ be 1 key ++ be 6 ctr ++ be 8 tag else [])

/-- Build and release one packet of samples (R552 to R560). -/
def State.releasePacket (s : State) (i launch : Nat) (smps : List (Nat × List Int)) : State :=
  let x := s.txc i
  let pn := (smps.head?.map fun e => e.1).getD 0
  let rtp := (pn + x.rtpofs) % 2 ^ 32
  let payload := (smps.map fun (n, vs) => (vs.zipIdx.map fun (v, c) => s.sampleOut x.format n c v).flatten).flatten
  let ctr := if x.auth then x.ctr + 1 else x.ctr
  let id := mapGetD s.sec.active x.keyset 0
  let key := ((s.streamKey x.keyset id).map fun k => k.key).getD []
  let tag := if x.auth then streamTag key x.ssrc ctr (rtpHeader x x.rtpSeq rtp id ctr 0 ++ payload) else 0
  let pkt : TxPkt := { launch := launch, flip := s.tAt s.tick, rtp := rtp, payload := payload, ctr := ctr, tag := tag
                       seq := x.rtpSeq, paths := if x.dual then [false, true] else [false]
                       head := rtpHeader x x.rtpSeq rtp id ctr tag }
  s.setTx i { x with ctr := ctr, rtpSeq := (x.rtpSeq + 1) % 65536, queue := x.queue ++ [pkt] }

/-- The packets of a context that a weir flip releases. -/
def State.txRelease (s : State) (i : Nat) : State :=
  let x := s.txc i
  match s.txFrame x with
  | none => s.setTx i { x with part := [] }
  | some smps =>
    let n := s.spp x.ptime
    let flip := s.tAt s.tick
    if ptimeNs x.ptime ≤ s.tickNs then
      (List.range (s.spt / n)).foldl (fun (a : State) j =>
        a.releasePacket i (flip + x.lofs * 10 + j * ptimeNs x.ptime) ((smps.drop (j * n)).take n)) s
    else
      let part := (x.part ++ smps)
      let part := part.drop (match part.findIdx? (fun e => e.1 % n == 0) with
        | some j => j
        | none => part.length)
      if part.length < n then s.setTx i { x with part := part }
      else ((s.setTx i { x with part := part.drop n }).releasePacket i (flip + x.lofs * 10) (part.take n))

/-- All transmit contexts that are open at a weir flip that releases a frame: the last packets are those released
before the T(k) of a closing (R534, R536). -/
def State.txReleases (s : State) : State :=
  (s.strm.tx.filter fun e => e.2.state == 2 || (e.2.state == 3 && decide (s.tick < e.2.at_)) ||
    (e.2.state == 1 && decide (e.2.at_ ≤ s.tick))).foldl (fun (a : State) e => a.txRelease e.1) s

/-- The least of a list of instants. -/
def leastOf : List Nat → Option Nat
  | [] => none
  | l :: r => some (r.foldl min l)

/-- The port of a context's path. -/
def TxCtx.portOf (x : TxCtx) (b : Bool) : Nat := x.porta + if b then 2 else 0

/-- The earliest launch among the packets that wait for a port: those whose copy for it has not left (R555). -/
def State.firstLaunch (s : State) (p : Nat) : Option Nat :=
  leastOf ((s.strm.tx.map fun e => (e.2.queue.filter fun q => q.paths.any fun b => e.2.portOf b == p).map fun q =>
    q.launch).flatten)

/-- The tick from n on whose weir flip completes a packet of a packet time (R552, R553). -/
def State.flipFrom (s : State) (ptime n : Nat) : Nat :=
  let k := max 1 (s.spp ptime / s.spt)
  ceilDiv (n + 1) k * k - 1

/-- The next launch time of a stream packet on a port: of those that wait, and of those that the weir flips to come will
release (R523, R554). -/
def State.nextLaunch (s : State) (p : Nat) : Option Nat :=
  let soon := (s.strm.tx.filter fun e => (pathPorts e.2.porta e.2.dual).contains p).filterMap fun e =>
    let x := e.2
    let n := s.flipFrom x.ptime (if x.state = 1 then max x.at_ (s.tick + 1) else s.tick + 1)
    let ends := if x.state = 3 then some x.at_ else x.closeAt
    if x.state = 0 || !s.on Reg.TICK.STATUS.RUN || ends.any (fun k => decide (k ≤ n)) then none
    else some (s.tAt n + x.lofs * 10)
  leastOf (((s.firstLaunch p).toList) ++ soon)

/-- The headers of a context's copy on a path (R514, R516, R517, R557). -/
def State.headOf (s : State) (x : TxCtx) (b : Bool) : TxHead :=
  let p := x.porta + if b then 2 else 0
  { port := p, vid := s.rd (Reg.NET.PORT.QOS.VID p), pcp := s.rd (Reg.NET.PORT.QOS.PCPM p)
    dscp := s.rd (Reg.NET.PORT.QOS.DSCPM p), ttl := x.ttl, src := s.rd (Reg.NET.PORT.IP.ADDR p)
    dst := if b then x.dstb else x.dsta, sport := x.sport, udp := if b then x.udpb else x.udpa, mac := s.macOf p }

/-- Whether a port can start a stream packet: its link is up, and no PTP frame waits (R522, R555). -/
def State.portReady (s : State) (p : Nat) : Bool :=
  s.portOn p && s.on (Reg.NET.PORT.STAT.LINK p) && (atD s.net.queues p []).all fun e => e.queue != 0

/-- The first packet of a context whose copy on a path waits. -/
def TxCtx.headOn (x : TxCtx) (b : Bool) : Option TxPkt := x.queue.find? fun q => q.paths.contains b

/-- Whether a packet is the next of its path's port: launch time reached, no earlier launch waiting, T(n+3) not come
(R555, R556). -/
def State.mayLaunch (s : State) (x : TxCtx) (b : Bool) (q : TxPkt) : Bool :=
  s.portReady (x.portOf b) && decide (q.launch ≤ s.ns) && decide (s.ns < q.flip + s.tickNs) &&
    (s.firstLaunch (x.portOf b)).all fun l => decide (q.launch ≤ l)

/-- A copy of a context's packet leaves on a path (R516, R517, R555, R557). -/
def State.launchOn (s : State) (i : Nat) (b : Bool) : State :=
  let x := s.txc i
  match x.headOn b with
  | none => s
  | some q =>
    if !s.mayLaunch x b q then s
    else
      let left := x.queue.filterMap fun y =>
        if y.seq = q.seq && y.launch = q.launch then
          (if y.paths == [b] then none else some { y with paths := y.paths.filter fun c => c != b })
        else some y
      let was := match x.sent with
        | some y => if y.seq = q.seq && y.launch = q.launch then some y else none
        | none => none
      let y : TxCtx := { x with
        queue := left
        sent := some { q with
          paths := ((was.map fun y => y.paths).getD []) ++ [b]
          heads := ((was.map fun y => y.heads).getD []) ++ [s.headOf x b] }
        pktA := x.pktA + (if b then 0 else 1)
        pktB := x.pktB + (if b then 1 else 0)
        latest := (x.latest.filter fun e => decide (s.run < e.1 + 1000000000)) ++ [(s.run, (s.ns - q.launch) / 10)] }
      (s.setTx i y).count (Reg.NET.PORT.TXFRM (x.portOf b))

/-- STREAM_PACKET_LAUNCH: on each path whose port can send, the context's next packet leaves once its launch time has come,
in the launch-time order of that port (R555 to R557). -/
def doPacketLaunch (i : Nat) (s : State) : State :=
  let x := s.txc i
  let open_ := [false, true].filterMap fun b => if s.portReady (x.portOf b) then x.headOn b else none
  match leastOf (open_.map fun q => q.launch) with
  | none => s
  | some t => ((s.reach t).launchOn i false).launchOn i true

/-- PACKET_TX_DEADLINE: the context's first packet has not started to leave on some path by its deadline
(R556); NETTX's generation tag advances (R775). -/
def doTxDeadline (i : Nat) (s : State) : State :=
  let x := s.txc i
  match x.queue with
  | [] => s
  | q :: r =>
    let s1 := (s.reach (q.flip + s.tickNs)).advanceGen 5 3
    q.paths.foldl (fun (a : State) b => a.count (Reg.NET.PORT.TXDROP.SCHED (x.porta + (if b then 2 else 0))))
      (s1.setTx i { x with queue := r, txMiss := x.txMiss + q.paths.length })

/-- EGRESS_FRAME_START: the next frame by strict priority, in which a stream packet of the node whose launch time has come
goes before the third queue; under GUARD that queue waits for the next launch (R522, R523, R555). -/
def doEgress (p : Nat) (s : State) : State :=
  if !s.portOn p || !s.on (Reg.NET.PORT.STAT.LINK p) then s
  else
    let l := atD s.net.queues p []
    let pick (q : Nat) : Option Nat := l.findIdx? fun e => e.queue == q
    let due := (s.firstLaunch p).any fun t => decide (t ≤ s.ns)
    let next := match pick 0, pick 1 with
      | some j, _ => some j
      | none, some j => some j
      | none, none => if due then none else pick 2
    match next with
    | none => s
    | some j =>
      let e := atD l j { queue := 2, bytes := 0 }
      let ends := s.ns + ceilDiv ((e.bytes + 20) * 8 * 1000000000) (s.lineRate p)
      let held := e.queue == 2 && s.on (Reg.NET.PORT.CFG.GUARD p) && (s.nextLaunch p).any fun t => decide (t ≤ ends)
      if held then s
      else ({ s with net := { s.net with queues := modAt s.net.queues p fun l => l.eraseIdx j } }).count
        (Reg.NET.PORT.TXFRM p)

/-! ### At a weir flip (R290, R291, R565) -/

/-- Counts of a frame's streams at its weir flip: late-applied, late-drop and concealed samples. -/
def State.countStreams (s : State) (f : Nat) : State :=
  let c := s.eng.counts
  (s.strm.rx.filter fun e => ctxOpen e.2.state || ((e.2.state == 0 || e.2.state == 4) && decide (f ≤ e.2.at_))).foldl (fun (a : State) e =>
    let x := e.2
    let app := c.applied.count e.1
    let drp := c.dropped.count e.1
    let hid := ((x.map.filter fun ch => ch != 0xFFFF && s.eng.concealed.contains (waterKey f ch)).map fun ch =>
      missCount s.spt (s.heardOf f ch)).sum
    a.setRx e.1 { x with
      lateApp := x.lateApp + app, lateDrop := x.lateDrop + drp, dropWin := x.dropWin + drp
      dup := x.dup + c.dups.count e.1, pktA := x.pktA + c.used.count (e.1, false), pktB := x.pktB + c.used.count (e.1, true)
      conceal := x.conceal + hid }) s

/-- Publish the stream records at a weir flip (R565). -/
def State.publishStreams (s : State) : State :=
  { s with strm := { s.strm with
      rx := s.strm.rx.map fun e => (e.1, { e.2 with pub := s.rxRecord e.2 })
      tx := s.strm.tx.map fun e => (e.1, { e.2 with pub := s.txRecord e.2 }) } }

/-- Contexts whose last frame has ended at a tick boundary leave their groups (R536). -/
def State.endClosing (s : State) : State :=
  let s1 := (s.strm.rx.filter fun e => e.2.state == 4 && decide (e.2.at_ < s.tick)).foldl (fun (a : State) e =>
    a.leaveGroups e.1) s
  { s1 with strm := { s1.strm with closing := s1.strm.closing.filter fun c => decide (s.tick < c.1 + 2) } }

/-! ### Rows -/

/-- STREAM_OPEN. -/
def execStreamOpen (d : Desc) (s : State) : Out := .next (hostCmd 0x30 roleO d (streamOpenRes d) s)
/-- STREAM_OPEN_EFFECT. -/
def execStreamOpenEffect (tx : Bool) (i : Nat) (s : State) : Out := .next (doStreamOpened tx i s)
/-- STREAM_CLOSE. -/
def execStreamClose (d : Desc) (s : State) : Out := .next (hostCmd 0x31 roleO d (streamCloseRes d) s)
/-- STREAM_CLOSE_EFFECT. -/
def execStreamCloseEffect (tx : Bool) (i : Nat) (s : State) : Out := .next (doStreamClosed tx i s)
/-- STREAM_STAT. -/
def execStreamStat (d : Desc) (s : State) : Out := .next (hostCmd 0x32 roleM d (streamStatRes d) s)
/-- PACKET_RECEIVE. -/
def execPacketReceive (p : Packet) (s : State) : Out := .next (doPacket p s)
/-- ARP_REQUEST. -/
def execArpRequest (port target : Nat) (sender : NetHost) (s : State) : Out := .next (doArp port target sender s)
/-- ICMP_ECHO_REQUEST. -/
def execIcmpEchoRequest (port target : Nat) (sender : NetHost) (payload : List Byte) (s : State) : Out :=
  .next (doEcho port target sender payload s)
/-- IGMP_REPORT. -/
def execIgmpReport (port group : Nat) (s : State) : Out := .next (doIgmp port group s)
/-- FRAME_FORWARD. -/
def execFrameForward (f : NetFrame) (s : State) : Out := .next (doFrameForward f s)
/-- EGRESS_FRAME_START. -/
def execEgressFrameStart (port : Nat) (s : State) : Out := .next (doEgress port s)
/-- FDB_AGEING. -/
def execFdbAgeing (group mac : Nat) (s : State) : Out := .next (doAgeing group mac s)
/-- LINK_STATE_CHANGE. -/
def execLinkStateChange (port : Nat) (up fecLock : Bool) (s : State) : Out := .next (doLinkState port up fecLock s)
/-- STREAM_PATH_DOWN. -/
def execStreamPathDown (i : Nat) (pathB : Bool) (s : State) : Out := .next (doPathDown i pathB s)
/-- SLIP_WINDOW_END. -/
def execSlipWindowEnd (i : Nat) (s : State) : Out := .next (doSlipWindow i s)
/-- LATE_DROP_WINDOW_END. -/
def execLateDropWindowEnd (s : State) : Out := .next (doLateDrops s)
/-- STREAM_PACKET_LAUNCH. -/
def execStreamPacketLaunch (i : Nat) (s : State) : Out := .next (doPacketLaunch i s)
/-- PACKET_TX_DEADLINE. -/
def execPacketTxDeadline (i : Nat) (s : State) : Out := .next (doTxDeadline i s)

end Sys2Proof.Machine
end

