-- ==== Sys2Proof/Machine/Pair.lean ====
section
/-! DEFINITION. The partner node: frames of the Ouvfel link, the pair, state images and authority (chapter
06, R339 to R359, R401 to R403). -/
namespace Sys2Proof.Config

open Sys2Proof.Machine

/-- The state words of an image, of the tick-start state that it holds: graph, sentinels, the memory and the last samples
of each logical lane, and region memory.  Its layout is Finmir's own (R348). [DESIGN CHOICE, log 32] -/
opaque imageWords : GraphS → List TilM → List FoldS → Tbl (Tbl Word36 × Tbl Word36) → Tbl Word36 → List Nat
/-- The memory and the last samples of a logical lane that an image's words hold (R349). [DESIGN CHOICE, log 32] -/
opaque imageLane : List (Nat × Nat) → Nat → Tbl Word36 × Tbl Word36
/-- The region memory that an image's words hold (R349). [DESIGN CHOICE, log 32] -/
opaque imageRegion : List (Nat × Nat) → Tbl Word36
/-- The graph state that an image's words hold. -/
opaque imageGraph : List (Nat × Nat) → GraphS
/-- The model state of a sentinel channel that an image's words hold (R350). -/
opaque imageTil : List (Nat × Nat) → Nat → TilM
/-- The group fold-back that an image's words hold (R350). -/
opaque imageFold : List (Nat × Nat) → Nat → FoldS

end Sys2Proof.Config

namespace Sys2Proof.Machine

/-! ### Frames (R342, R343) -/

/-- Act on a received frame of a type: it must pass R342, else it is discarded and counted; a down or
disabled link brings none. -/
def State.onFrame (s : State) (type : Nat) (f : OuvFrame) (act : State → State) : State :=
  if !s.on Reg.GUARD.OUVCFG.EN || !s.ouvUp then s
  else if f.crc != crc32c (ouvBytes f) || f.type == 0 || decide (6 < f.type) || decide (8192 < f.payload.length) then
    s.discardFrame
  else if f.type != type then s
  else act s

/-- AUTH of the node's HEARTBEAT (Table 6.5). -/
def State.authCode (s : State) : Nat :=
  if s.holds then 1 else if s.ouv.releasing then 2 else if s.service then 0 else 3

/-- The HEARTBEAT payload (Table 6.5). -/
def State.heartbeatBytes (s : State) : List Byte :=
  le 2 (s.rd Reg.GUARD.OUVCFG.NODE) ++ le 1 s.authCode ++
    le 1 (s.die 0 + 4 * s.die 1 + 16 * s.partner + 64 * s.rd Reg.GUARD.NODE.MODE) ++
    le 4 s.planCrc ++ le 4 s.ouv.topGen ++ le 4 s.ouv.imgSent

/-- The tick's HEARTBEAT (R343). -/
def State.sendHeartbeat (s : State) : State := s.ouvSend ouvHeartbeat 0 s.heartbeatBytes

/-- The partner reads as in step, with its entry (Table 6.6). [DEDUCED, log 31] -/
def State.inStep (s : State) : State :=
  (s.wr Reg.GUARD.OUVSTAT.PARTNER 3).log 0x0132 (le 2 s.ouv.hbNode ++ le 4 s.ouv.hbGen)

/-- The pair's condition after a HEARTBEAT: a partner of the same role makes no pair and reads as incompatible, as one of
another plan image does (R339, R349). [DEDUCED, log 31] -/
def State.judgePartner (s : State) : State :=
  let p := s.partner
  if s.plan.image.isNone || s.ouv.hbPlan != s.planCrc || !s.opposite then s.wr Reg.GUARD.OUVSTAT.PARTNER 1
  else if p < 2 then s.wr Reg.GUARD.OUVSTAT.PARTNER 2
  else if p = 2 && s.holds && s.ouv.hbState / 16 % 4 = 3 && s.ouv.hbGen = s.ouv.topGen then s.inStep
  else s

/-- HEARTBEAT. -/
def doHeartbeat (f : OuvFrame) (s : State) : State :=
  s.onFrame ouvHeartbeat f fun s =>
    if f.payload.length < 16 then s
    else
      let b := f.payload
      let o := { s.ouv with
        hbTick := s.tick, hbSent := f.tick, hbSecond := f.secondary, heard := true
        hbNode := rdLe b 0 2, hbAuth := rdLe b 2 1, hbState := rdLe b 3 1
        hbPlan := rdLe b 4 4, hbGen := rdLe b 8 4 }
      ({ s with ouv := o } : State).judgePartner

/-- PARTNER_LOST (R344). [DESIGN CHOICE, log 95] -/
def doPartnerLost (s : State) : State :=
  if s.on Reg.GUARD.OUVCFG.EN && s.ouv.heard && s.ouv.hbTick + s.rd Reg.GUARD.OUVCFG.HBMISS ≤ s.tick then
    let s1 : State := { s with ouv := { s.ouv with heard := false, imgIn := [], imgReady := none, cfgIn := none } }
    ((s1.wr Reg.GUARD.OUVSTAT.PARTNER 0).count Reg.GUARD.OUVCNT.LOST).log 0x0131 (le 8 s.ouv.hbSent)
  else s

/-! ### CONFIG sets (R345, R346, R402, R403) -/

/-- Acknowledge a frame: 0 accepted, 1 refused. -/
def State.sendAck (s : State) (seq status : Nat) : State := s.ouvSend ouvAck 0 (le 4 seq ++ le 4 status)

/-- The items of a CONFIG frame as key and value; an item that names nothing takes a key
that no check passes. -/
def configItems (b : List Byte) : Nat → List (Nat × Nat)
  | 0 => []
  | n + 1 =>
    if b.length < 16 then []
    else
      let k := itemKey { kind := rdLe b 0 1, cls := rdLe b 1 1, index := rdLe b 2 2, offset := rdLe b 4 4, value := 0 }
      (k.getD (keyParam 0 0 0), rdLe b 8 8) :: configItems (b.drop 16) n

/-- A complete CONFIG set: checked, acknowledged, scheduled; an empty one discards the set that it names.
[DESIGN CHOICE, log 32] -/
def State.takeConfig (s : State) (seq l : Nat) (items : Tbl Nat) : State :=
  if items.isEmpty then
    let s1 := s.sendAck seq 0
    if s1.ls = 1 && s1.launchTick = l then { s1 with txn := { s1.txn with ending := true } } else s1
  else
    let v : View := { s := s, lower := [], upper := items }
    let bad := s.ls ≠ 0 || v.firstBad.isSome || (v.budget true).isSome || s.tAt l ≤ s.ns
    if bad then s.sendAck seq 1
    else
      let (x, s1) := s.fresh
      (s1.commitTo 0 l (x % 17) items v.lats none v.bare).sendAck seq 0

/-- CONFIG: a frame of a set that the node with authority sends; a last frame without items is an empty set, and discards
what came of a set for its tick (R402, R403). [DESIGN CHOICE, log 32] -/
def doConfig (f : OuvFrame) (s : State) : State :=
  s.onFrame ouvConfig f fun s =>
    if !s.follower || f.payload.length < 8 then s
    else
      let l := rdLe f.payload 0 8
      let got := configItems (f.payload.drop 8) (f.payload.length / 16 + 1)
      let empty := f.flags % 2 = 1 && got.isEmpty
      let have_ : Tbl Nat := match s.ouv.cfgIn with
        | some (l0, t) => if l0 = l && !empty then t else []
        | none => []
      let all := got.foldl (fun (t : Tbl Nat) e => mapSet t e.1 e.2) have_
      if f.flags % 2 = 1 then
        ({ s with ouv := { s.ouv with cfgIn := none } } : State).takeConfig f.seq l all
      else { s with ouv := { s.ouv with cfgIn := some (l, all) } }

/-- CONFIG_ACK_TIMEOUT: the partner reads as joining (R346). -/
def doConfigTimeout (s : State) : State := match s.ouv.cfgWait with
  | none => s
  | some (l, _) =>
    if s.tick + 1 < l then s
    else
      let s1 : State := { s with ouv := { s.ouv with cfgWait := none } }
      if s1.partner = 3 then s1.wr Reg.GUARD.OUVSTAT.PARTNER 2 else s1

/-! ### State images (R348 to R350) -/

/-- IMAGE: words collect until LAST; an image whose words run without a gap from offset 0 is complete and waits
for the next boundary, another is dropped. [DESIGN CHOICE, log 32] -/
def doImage (f : OuvFrame) (s : State) : State :=
  s.onFrame ouvImage f fun s =>
    if !s.follower || f.payload.length < 8 then s
    else
      let b := f.payload
      let seq := rdLe b 0 4
      let off := rdLe b 4 4
      let words := (List.range ((b.length - 8) / 8)).map fun j => (off + j, rdLe b (8 + 8 * j) 8)
      let all := (if s.ouv.imgSeq = seq then s.ouv.imgIn else []) ++ words
      if f.flags % 2 = 1 then
        let whole := all.zipIdx.all fun e => e.1.1 == e.2
        let ready := if whole then some (seq, all) else s.ouv.imgReady
        { s with ouv := { s.ouv with imgIn := [], imgSeq := seq, imgReady := ready } }
      else { s with ouv := { s.ouv with imgIn := all, imgSeq := seq } }

/-- The sentinel model states and fold-back levels of an image (R350). [DESIGN CHOICE, log 32] -/
def State.imageSentinels (s : State) (w : List (Nat × Nat)) : State :=
  let ch := s.tilCh.map fun (n, x) => (n, { x with m := Config.imageTil w n })
  let g := s.tilG.map fun (n, x) => (n, { x with fg := Config.imageFold w n })
  { s with tilCh := ch, tilG := g }

/-- What a state image holds of the lanes' memory and of region memory, alternate schedules observed: in Duplex that of the
lead die (R328, R348). -/
def State.stateWords (s : State) : Tbl (Tbl Word36 × Tbl Word36) × Tbl Word36 :=
  let lead := s.rd Reg.GUARD.NODE.LEAD
  let t := (s.altsOn 0 ++ s.altsOn 1).foldl (fun (a : State) c => a.exitMoves c) s
  let mine (d : Nat) : Bool := !s.duplex || d == lead
  let key (k n : Nat) : Nat := if s.duplex then k % n else k
  ((t.lanes.logl.filter fun e => mine (e.1 / 128)).map fun e => (key e.1 128, e.2.image, e.2.last),
   (t.lanes.region.filter fun e => mine (e.1 / 8388608)).map fun e => (key e.1 8388608, e.2))

/-- The lanes' memory and region memory of an image, applied: in Duplex to both dies.  Each lane loads its image for the tick
that begins (R349, R328). [DESIGN CHOICE, log 32] -/
def State.applyWords (s : State) (w : List (Nat × Nat)) : State :=
  let key (k : Nat) : Nat := if s.duplex then k % 128 else k
  let logl := s.lanes.logl.map fun e =>
    (e.1, { e.2 with image := (Config.imageLane w (key e.1)).1, last := (Config.imageLane w (key e.1)).2, ports := [] })
  let words := Config.imageRegion w
  let both := if s.duplex then words ++ words.map (fun e => (e.1 + 8388608, e.2)) else words
  let s1 : State := { s with lanes := { s.lanes with
    logl := logl, pos := s.lanes.pos.map fun e => (e.1, { e.2 with log := none })
    region := both.foldl (fun m e => laneWrite m e.1 e.2) [] } }
  (s1.altsOn 0 ++ s1.altsOn 1).foldl (fun (a : State) c => a.placeMoves c) s1

/-- A complete image is applied at a boundary: whole by a joining partner, which then reads as in step when
TOPGEN agrees; by one in step the sentinel states alone (R349, R350). -/
def State.imageTick (s : State) : State := match s.ouv.imgReady with
  | none => s
  | some (_, w) =>
    let s1 : State := { s with ouv := { s.ouv with imgReady := none } }
    if !s1.follower then s1
    else
      let s2 := s1.imageSentinels w
      if s1.partner = 3 then s2
      else
        let g := Config.imageGraph w
        let s3 := ({ s2 with dsp0 := { s2.dsp0 with g := g }, dsp1 := { s2.dsp1 with g := g } } : State).applyWords w
        if s3.ouv.hbGen = s3.ouv.topGen then s3.inStep else s3

/-- STATE_IMAGE_SEND: the node with authority sends a complete image every IMGPER, of the tick-start state of the tick in
progress: none between the finish line, where a frame's state takes its place, and the next boundary (R348). -/
def doImageSend (s : State) : State :=
  if s.paired && s.holds && !(s.on Reg.TICK.STATUS.RUN && s.eng.finished) && s.ouv.imgLast + s.rd Reg.GUARD.OUVCFG.IMGPER * 1000000 ≤ s.run then
    let lead := s.rd Reg.GUARD.NODE.LEAD
    let g := if lead = 1 then s.dsp1.g else s.dsp0.g
    let w := Config.imageWords g (s.tilCh.map fun e => e.2.m) (s.tilG.map fun e => e.2.fg) s.stateWords.1 s.stateWords.2
    let seq := (s.ouv.imgSent + 1) % 2 ^ 32
    let ps := pieces 1023 (w.length + 1) w
    let s1 := (ps.zipIdx).foldl (fun (a : State) (p, i) =>
      a.ouvSend ouvImage (if i + 1 = ps.length then 1 else 0)
        (le 4 seq ++ le 4 (i * 1023) ++ (p.map (le 8)).flatten)) s
    { s1 with ouv := { s1.ouv with imgSent := seq, imgLast := s.run } }
  else s

/-! ### Authority (R351 to R359) -/

/-- Raise AUTH_OUT (R352, R353, R359). -/
def State.raiseAuth (s : State) : State :=
  if s.pwr.tripped then s else (s.put Reg.GUARD.OUVSTAT.AUTH_OUT true).put Reg.GUARD.HEALTH.AUTH true

/-- Authority taken, with its count and entry: 0 start-up, 1 partner lost, 2 released, 3 hand-over. -/
def State.tookAuth (s : State) (reason : Nat) : State :=
  let s1 : State := { s with ouv := { s.ouv with releasing := false, justTaken := none } }
  (s1.count Reg.GUARD.OUVCNT.HANDOVER).log 0x0133 (le 1 reason)

/-- Drop AUTH_OUT as a pin, without a containment entry (R354, R896). -/
def State.dropPin (s : State) : State :=
  let s1 : State := { s with ouv := { s.ouv with justTaken := none } }
  (s1.put Reg.GUARD.OUVSTAT.AUTH_OUT false).put Reg.GUARD.HEALTH.AUTH false

/-- Authority released: 0 hand-over, 1 engine service, 2 die out, 3 watchdog; the open transaction is
discarded (R355, R357, R359, R401). -/
def State.dropAuth (s : State) (reason : Nat) : State :=
  if s.holds then
    ((s.dropPin.discardOpen 1).count Reg.GUARD.OUVCNT.HANDOVER).log 0x0134 (le 1 reason)
  else s

/-- Whether a die of a Span node is out; one that the host resets is not (R333, R355). -/
def State.spanOut (s : State) : Bool :=
  s.span && [0, 1].any fun d => s.die d == 2 || (s.die d == 3 && !(s.dieS d).asked)

/-- Authority at a tick boundary: a release under R355 and R356, else a take under R352 and R353.  While the partner is in step
a node that released for a die that is still out does not take it back (R355). [DEDUCED, log 31] A primary's take has
reason 0 whenever it comes. [DESIGN CHOICE, log 94] A partner that was never heard counts as lost.
[DESIGN CHOICE, log 95] -/
def State.authTick (s : State) (inLow : Bool) : State :=
  let s0 : State := { s with ouv := { s.ouv with inLow := inLow } }
  let s1 := match s0.ouv.justTaken with
    | some r => s0.tookAuth r
    | none => s0
  let s2 := if inLow then s1.put Reg.GUARD.OUVSTAT.AUTH_IN false else s1
  let step := s2.partner == 3 && s2.on Reg.GUARD.OUVCFG.EN
  if s2.holds then
    if !s2.service then
      let s3 := s2.dropAuth 1
      { s3 with ouv := { s3.ouv with releasing := step } }
    else if s2.spanOut && step then
      let s3 := s2.dropAuth 2
      { s3 with ouv := { s3.ouv with releasing := true } }
    else s2
  else if !s2.service || !inLow || (s2.spanOut && s2.ouv.releasing && step) then s2
  else if !s2.on Reg.GUARD.OUVCFG.ROLE then s2.raiseAuth.tookAuth 0
  else if !s2.on Reg.GUARD.OUVCFG.AUTOTAKE then s2
  else
    let lost := s2.partner == 0
    let gave := s2.ouv.hbAuth == 2 || s2.ouv.hbAuth == 3
    if lost || gave then
      let s3 := s2.raiseAuth
      { s3 with ouv := { s3.ouv with justTaken := some (if lost then 1 else 2) } }
    else s2

/-- AUTHORITY_WATCHDOG: no weir flip for TICKS ticks (R357). -/
def doAuthWatchdog (s : State) : State :=
  if s.holds && decide (s.guard.lastFlip + s.rd Reg.GUARD.AUTHWD.TICKS ≤ s.tick) then s.dropAuth 3 else s

/-- AUTH_HANDOVER (R358). [DEDUCED, log 31] -/
def authHandoverRes (d : Desc) (s : State) : Res :=
  if 1000000000 ≤ d.a2 then badDesc s 56
  else if !s.holds || !s.on Reg.GUARD.OUVCFG.EN || s.partner ≠ 3 then failRes s stRefused
  else if s.ouv.hand.isSome then failRes s stBusy
  else
    let m := s.tickFrom (s.readNs d) (d.rbuf * 1000000000 + d.a2) 4
    let seq := s.ouv.txSeq
    let s1 := s.ouvSend ouvHandover 0 (le 8 m)
    longRes { s1 with ouv := { s1.ouv with hand := some (m, true, seq, false) } }

/-- HANDOVER: the partner names tick m (R358); the node takes it when it can. [DEDUCED, log 31] -/
def doHandover (f : OuvFrame) (s : State) : State :=
  s.onFrame ouvHandover f fun s =>
    if f.payload.length < 8 then s
    else if s.service && !s.holds && s.partner = 3 then
      let s1 := s.sendAck f.seq 0
      { s1 with ouv := { s1.ouv with hand := some (rdLe f.payload 0 8, false, f.seq, true) } }
    else s.sendAck f.seq 1

/-- ACK: of a CONFIG set or of a HANDOVER; a refused one has the effect of a missing one (R345, R358, R402). -/
def doAck (f : OuvFrame) (s : State) : State :=
  s.onFrame ouvAck f fun s =>
    if f.payload.length < 8 || rdLe f.payload 4 4 ≠ 0 then s
    else
      let seq := rdLe f.payload 0 4
      let s1 : State := match s.ouv.cfgWait with
        | some (_, q) => if q = seq then { s with ouv := { s.ouv with cfgWait := none } } else s
        | none => s
      match s1.ouv.hand with
      | some (m, true, q, false) =>
        if q = seq then
          ({ s1 with ouv := { s1.ouv with hand := some (m, true, q, true) } } : State).finishOp 0x49 stOk (le 8 m)
        else s1
      | _ => s1

/-- HANDOVER_ACK_TIMEOUT: no accepting ACK by T(m) - 2 ticks (R358). -/
def doHandTimeout (s : State) : State := match s.ouv.hand with
  | some (m, true, _, false) =>
    if s.tick + 2 < m then s
    else ({ s with ouv := { s.ouv with hand := none } } : State).finishOp 0x49 stRefused
  | _ => s

/-- HANDOVER_BOUNDARY: from T(m) on the releasing node drops AUTH_OUT, and the taking node raises its own once AUTH_IN is low
(R351, R359). [DEDUCED, log 31] -/
def doHandBoundary (s : State) : State := match s.ouv.hand with
  | some (m, rel, _, true) =>
    if s.tick < m then s
    else
      let s1 : State := { s with ouv := { s.ouv with hand := none } }
      if rel then s1.dropAuth 0 else if s1.holds then s1
      else if s1.on Reg.GUARD.OUVSTAT.AUTH_IN then s
      else s1.raiseAuth.tookAuth 3
  | _ => s

/-- AUTH_IN_SAMPLE: a secondary that finds AUTH_IN high withdraws, without entry, event or count; one that
finds it low keeps authority (R354).  A hand-over that waits for a low AUTH_IN takes place (R351, R359). [DEDUCED, log 31] -/
def doAuthIn (level : Bool) (s : State) : State :=
  let s1 := s.put Reg.GUARD.OUVSTAT.AUTH_IN level
  match s1.ouv.justTaken with
  | none => if level then s1 else doHandBoundary s1
  | some r => if level then s1.dropPin else s1.tookAuth r

/-- OUVFEL_LINK_STATE_CHANGE: 0 down, 1 training, 2 up (R472). -/
def doOuvLink (st : Nat) (s : State) : State := if 3 ≤ st then s else s.wr Reg.GUARD.OUVSTAT.LINK st

/-! ### Rows -/

/-- HEARTBEAT (R344). -/
def execHeartbeat (f : OuvFrame) (s : State) : Out := .next (doHeartbeat f s)
/-- PARTNER_LOST (R344). -/
def execPartnerLost (s : State) : Out := .next (doPartnerLost s)
/-- CONFIG (R402). -/
def execConfig (f : OuvFrame) (s : State) : Out := .next (doConfig f s)
/-- CONFIG_ACK_TIMEOUT (R346). -/
def execConfigAckTimeout (s : State) : Out := .next (doConfigTimeout s)
/-- IMAGE (R349). -/
def execImage (f : OuvFrame) (s : State) : Out := .next (doImage f s)
/-- STATE_IMAGE_SEND (R348). -/
def execStateImageSend (s : State) : Out := .next (doImageSend s)
/-- HANDOVER (R358). -/
def execHandover (f : OuvFrame) (s : State) : Out := .next (doHandover f s)
/-- ACK (R345). -/
def execAck (f : OuvFrame) (s : State) : Out := .next (doAck f s)
/-- HANDOVER_ACK_TIMEOUT (R358). -/
def execHandoverAckTimeout (s : State) : Out := .next (doHandTimeout s)
/-- AUTH_HANDOVER (R358). -/
def execAuthHandover (d : Desc) (s : State) : Out := .next (hostCmd 0x49 roleO d (authHandoverRes d) s)
/-- HANDOVER_BOUNDARY (R359). -/
def execHandoverBoundary (s : State) : Out := .next (doHandBoundary s)
/-- AUTH_IN_SAMPLE (R354). -/
def execAuthInSample (level : Bool) (s : State) : Out := .next (doAuthIn level s)
/-- AUTHORITY_WATCHDOG (R357). -/
def execAuthorityWatchdog (s : State) : Out := .next (doAuthWatchdog s)
/-- OUVFEL_LINK_STATE_CHANGE (R472). -/
def execOuvfelLinkStateChange (state : Nat) (s : State) : Out := .next (doOuvLink state s)

end Sys2Proof.Machine
end

