-- ==== Sys2Proof/Machine/Plan.lean ====
section
/-! DEFINITION. Plan images: the checks of a load, the load itself, the stop of a running plan, and the
power states (chapters 04 and 19: R235 to R239, R914 to R921, R971). -/
namespace Sys2Proof.Machine

/-! ### Power states (Table 19.5) -/

/-- States of `SYS.PWR.STATE`. -/
def pwIdle : Nat := 1
def pwLoading : Nat := 2
def pwRun : Nat := 3
def pwStandby : Nat := 4

/-- The power state. -/
def State.pw (s : State) : Nat := s.rd Reg.SYS.PWR.STATE

/-- Change the power state, with its entry (R921). -/
def State.setPw (s : State) (new : Nat) : State :=
  if s.pw = new then s else (s.wr Reg.SYS.PWR.STATE new).siltWrite 0x0903 (le 1 s.pw ++ le 1 new)

/-! ### What an image sets -/

/-- The items of an image as keys and values (R937, R971). -/
def imgItems (p : PlanImage) : Tbl Nat :=
  p.items.foldl (fun (t : Tbl Nat) x => match itemKey x with
    | some k => putItem t k x.value
    | none => t) []

/-- A slot or FIR for which the plan sets no coefficients passes its input (R137, R143). -/
def passItems (p : PlanImage) (items : Tbl Nat) : Tbl Nat :=
  p.allocs.foldl (fun (t : Tbl Nat) a =>
    let none_ (lo n : Nat) : Bool := (List.range n).all fun j => (mapGet items (keyParam a.cls a.index (lo + j))).isNone
    let t1 := (List.range a.slots).foldl (fun (t : Tbl Nat) b =>
      if none_ (8 + 5 * b) 5 then
        mapSet t (keyParam a.cls a.index (8 + 5 * b)) (if a.doubleSlots.contains b then 2 ^ 33 else 2 ^ 15)
      else t) t
    if a.cls = 2 && a.firTaps != 0 && none_ 88 (firWords a) then
      mapSet t1 (keyParam 2 a.index 88) (if a.firDouble then 2 ^ 33 else 2 ^ 15)
    else t1) items

/-- Every SH field back at its Reset value (R937). -/
def State.resetSh (s : State) : State :=
  s.regs.foldl (fun (a : State) (off, w) =>
    let m := BitVec.ofNat 32 (shMask off)
    a.setWord off ((w &&& ~~~m) ||| (resetWord off &&& m))) s

/-- Samples per tick of a rate and a length code (Table 1.1). -/
def sptOf (rate len : Nat) : Nat := 3 * 2 ^ rate * 2 ^ len

/-- The registers and tables that an image fixes, with its parameter words and SH fields at Reset. -/
def State.planBase (s : State) (p : PlanImage) : State :=
  let s1 := s.resetSh
  let s2 : State := { s1 with
    params := [], routes := [], gains := {}, plan := { s1.plan with image := some p } }
  let s3 := ((s2.wr Reg.TICK.CFG.LEN p.len).wr Reg.TICK.CFG.RATE p.rate).wr Reg.TICK.CFG.SPT (sptOf p.rate p.len)
  let s4 := (s3.wr Reg.GRAPH.SIZE.INS p.ins).wr Reg.GRAPH.SIZE.OUTS p.outs
  let s5 := (List.range 6).foldl (fun (a : State) k =>
    let x := atD p.parts k (0, 0)
    (a.wr (Reg.GRAPH.RTPART.BASE k) x.1).wr (Reg.GRAPH.RTPART.COUNT k) x.2) s4
  let s6 := (List.range 31).foldl (fun (a : State) g =>
    a.wr (Reg.GRAPH.AGRP.CAP (g + 1)) (mapGetD p.caps (g + 1) 0)) s5
  let prov (r : Nat) : Nat := ((List.range 4).map fun c => if (altFor p (r * 4 + c)).isSome then 2 ^ c else 0).sum
  (List.range 8).foldl (fun (a : State) r => a.wr (Reg.GUARD.ALT.PROV r) (prov r)) (s6.wr Reg.GUARD.NODE.MODE p.mode)

/-! ### Checks (R235 steps 1 and 2) -/

/-- The kernel table entry of a kernel (Table 4.10): library kernels take F and P from Table 3.2. -/
def kernWord (e : KernEntry) : BitVec 64 :=
  let fp := kernCycles e.kernel
  let own : Nat := match e.kernel with
    | .custom _ _ _ _ => 1
    | _ => 0
  BitVec.ofNat 64 (e.entry % 2 ^ 14 + fp.1 % 2 ^ 16 * 2 ^ 16 + fp.2 % 2 ^ 16 * 2 ^ 32 + e.dlen % 2 ^ 8 * 2 ^ 48 + own * 2 ^ 63)

/-- The place in the image of the signed object of a kernel: custom kernels have one. -/
def kernObject : Kernel → Option Nat
  | .custom _ _ _ o => some o
  | _ => none

/-- Whether a custom entry of a cluster's kernel table is what its signed object holds: cycles, descriptor length and the
bundles that it enters, of which a kernel has at most 4,096 (R232, R234). [DESIGN CHOICE, log 34] -/
def signedCode (p : PlanImage) (c : ClusterCode) (e : KernEntry) (o : Nat) : Bool :=
  match p.custom[o]? with
  | none => false
  | some b =>
    let k := Config.kernelOf ((b.drop 512).take (rdLe b 16 4))
    kernCycles e.kernel == (k.1, k.2.1) && e.dlen == k.2.2.1 && decide (k.2.2.2.length ≤ 4096) &&
      (c.bundles.drop e.entry).take k.2.2.2.length == k.2.2.2

/-- Step 1: every custom kernel verifies as a TYPE 3 object against the kernel counter, and no kernel table entry is
custom but with the code of one (R234, R863). [DEDUCED, log 34] -/
def State.customOk (s : State) (p : PlanImage) : Bool :=
  (p.custom.all fun k => objCheck 3 (s.rd Reg.SEC.SVN1.KERNEL) k == 0) &&
    (p.code.all fun c => c.kernels.all fun e => (kernObject e.kernel).all fun o => signedCode p c e o)

/-- Distinct custom kernels of an image (R233). -/
def customCount (p : PlanImage) : Nat := p.custom.eraseDups.length

/-- Whether the partitions keep apart and fit the table (R70). [DEDUCED, log 34] -/
def partsOk (parts : List (Nat × Nat)) : Bool :=
  let ps := (parts.take 6).filter fun x => x.2 != 0
  decide ((ps.map fun x => x.2).sum ≤ 8192) && ps.all (fun x => decide (x.1 + x.2 ≤ 8192)) &&
    (List.range ps.length).all fun i => (List.range i).all fun j =>
      let a := atD ps i (0, 0)
      let b := atD ps j (0, 0)
      decide (a.1 + a.2 ≤ b.1) || decide (b.1 + b.2 ≤ a.1)

/-- The capacities of Table 2.2 at the image's rate, and one span for the two columns of a pair (R67, R151). [DEDUCED, log 67] -/
def capsOk (p : PlanImage) : Bool :=
  let at_ (n : Nat) : Nat := n * 2 / 2 ^ p.rate
  let up (n : Nat) : Nat := n * 2 ^ p.rate / 2
  let count (k : Nat) : Nat := (atD p.parts k (0, 0)).2
  decide (p.ins ≤ at_ 1024) && decide (p.outs ≤ at_ 512) && decide (count 0 ≤ at_ 1024) &&
    decide (count 1 ≤ 128) && decide (count 2 ≤ at_ 512) && decide (count 3 ≤ at_ 2048) &&
    decide (count 4 ≤ at_ 2048) && decide (count 5 ≤ 64) && p.allocs.all fun a =>
      match a.cls with
      | 1 => decide (a.slots ≤ 12) && decide (a.dmax ≤ up 9600)
      | 2 => decide (a.slots ≤ 16) && decide (a.dmax ≤ up 192000) && decide (a.firTaps ≤ at_ 4096)
      | 3 => decide (a.spanFirst + a.span ≤ at_ 1024) && p.allocs.all fun b =>
          b.cls != 3 || b.index / 2 != a.index / 2 || (b.spanFirst == a.spanFirst && b.span == a.span)
      | _ => true

/-- The main limit and the alternate schedules (R40, R314). -/
def budgetOk (s : State) (p : PlanImage) : Bool :=
  let lim := mainLimit s.cycles (s.rd Reg.TICK.EDDY.RESERVE)
  let fin := s.cycles - guardCycles
  p.mains.all (fun x => decide (x.2 ≤ lim)) && p.alts.all fun a =>
    (a.entry ++ a.steady ++ a.exit).all fun x => decide (x.finish ≤ fin)

/-- Code, kernel tables and state windows fit (R235 step 2). -/
def codeOk (p : PlanImage) : Bool :=
  p.code.all (fun c => decide (c.cluster < 32) && decide (c.bundles.length ≤ 16384) && decide (c.kernels.length ≤ 256)) &&
    p.images.all fun x => decide (x.lane < 256) && decide (x.sched.sb + 2 * x.sched.sn ≤ 0x8000)

/-- Every value that the image sets passes the validation of TXN_PREPARE (R235 step 2). -/
def State.itemsOk (s : State) (p : PlanImage) : Bool :=
  let items := imgItems p
  let v : View := { s := s, lower := [], upper := items }
  p.items.all (fun x => (itemKey x).isSome) && v.firstBad.isNone

/-- Whether set A may serve a plan's minimum rate (R762). -/
def State.rateOk (s : State) (p : PlanImage) : Bool :=
  decide (p.minRate ≤ s.dramRate) || (decide (p.minRate ≤ s.setRate 0) && s.setTrained 0)

/-- Steps 1 and 2 of R235. [DEDUCED, log 33] [DEDUCED, log 34] -/
def State.imageOk (s : State) (p : PlanImage) : Bool :=
  let b := s.planBase p
  let t := b.launchWords (imgItems p)
  s.customOk p && decide (customCount p ≤ 32) && (p.mode == 1 || p.mode == 2) && decide (p.len ≤ 2) && decide (p.rate ≤ 2) && Config.planFormat p.format &&
    partsOk p.parts && capsOk p && codeOk p && b.itemsOk p && budgetOk t p && s.rateOk p

/-! ### The load (R235 steps 3 to 7) -/

/-- A logical lane whose position is retired, or that is unplaced, takes the lowest spare of its cluster; one
that finds none is unplaced (R235 step 5). -/
def State.placeLanes (s : State) (c : Nat) : State :=
  (List.range 8).foldl (fun (a : State) k =>
    let l := a.posOf c k
    if l < 9 && a.lstat c l != 3 then a
    else match (a.positions c 1).head? with
      | some sp => a.giveRole c k sp
      | none => a.wr (roleFld c k) 15) s

/-- The clusters of a code segment: in Duplex both dies receive it (R235 step 3). -/
def copies (p : PlanImage) (n : Nat) (x : Nat) : List Nat := if p.mode = 1 && decide (x < n) then [x, x + n] else [x]

/-- The clusters of a die's code in an image. -/
def codeOn (p : PlanImage) (on : Nat → Bool) : List (Nat × ClusterCode) :=
  (p.code.map fun x => ((copies p 16 x.cluster).filter fun c => on (c / 16)).map fun c => (c, x)).flatten

/-- Copy the segments into the region memories of the dies named, and fill instruction memories and kernel tables from
there, with IUSE and ICRC (R235 steps 3 and 4). -/
def State.loadCode (s : State) (p : PlanImage) (on : Nat → Bool) (upsets : List (Nat × Nat × BitVec 64)) : State :=
  (codeOn p on).foldl (fun (a : State) (c, x) =>
    let m : CluMem := { code := x.bundles.zipIdx.map fun (w, i) => (i, w), kern := x.kernels.zipIdx.map fun (e, i) => (i, kernWord e) }
    let a1 : State := { a with lanes := { a.lanes with seg := mapSet a.lanes.seg c m } }
    let a2 := (a1.wr (Reg.LANE.CL.IUSE.BUNDLES c) x.bundles.length).wr (Reg.LANE.CL.IUSE.KERNELS c) x.kernels.length
    let a3 := a2.fillCode c ((upsets.filter fun e => e.1 == c).map fun e => e.2)
    a3.wr (Reg.LANE.CL.ICRC.CRC c) (a3.memCrc c).toNat) s

/-- Whether every filled instruction memory has the image's CRC-32C (R235 step 4). -/
def State.codeGood (s : State) (p : PlanImage) (on : Nat → Bool) : Bool :=
  (codeOn p on).all fun (c, x) => s.memCrc c == x.crc

/-- Fill lane memories and checkpoint images of the dies named, BANK at 0 (R235 step 6).  What the ports' sinks hold stays: no
rule clears a running total (R186). [DESIGN CHOICE, log 97] -/
def State.loadLanes (s : State) (p : PlanImage) (on : Nat → Bool) : State :=
  let l := s.lanes
  let s0 : State := { s with lanes := { l with
    pos := l.pos.filter fun e => !on (e.1 / 144), logl := l.logl.filter fun e => !on (e.1 / 128)
    region := l.region.filter fun e => !on (e.1 / 8388608) } }
  p.images.foldl (fun (a : State) x => ((copies p 128 x.lane).filter fun k => on (k / 128)).foldl (fun (a : State) k =>
    let m := x.words.foldl (fun (m : Tbl Word36) e => laneWrite m e.1 e.2) []
    let a1 := a.setLogl k { image := m, sched := x.sched }
    let l := a1.posOf (k / 8) (k % 8)
    if l < 9 then a1.loadImage (flatPos (k / 8) l) k else a1) a) s0

/-- Self-tests of a die's positions start from the beginning, those alone that an earlier reset dropped where `all` is
false (R334). -/
def State.startTests (s : State) (d : Nat) (all : Bool) : State :=
  let again (p : Nat) (y : PosS) : PosS :=
    if p / 144 = d && s.lstat (p / 9) (p % 9) == 2 && (all || (y.testEnd.isNone && !y.passed)) then
      { y with testEnd := some (s.run + laneTestNs), passed := false }
    else y
  { s with guard := { s.guard with pos := s.guard.pos.map (fun e => (e.1, again e.1 e.2)) } }

/-- The supply monitor of a compute die (`SYS.PWR.CD0OK`, CD1OK). -/
def railFld (d : Nat) : Fld := if d = 0 then Reg.SYS.PWR.CD0OK else Reg.SYS.PWR.CD1OK

/-- The dies come back in at a plan load, except one whose supply monitor reads bad; self-tests that a die reset dropped
start again (R334, R335). [DEDUCED, log 33] -/
def State.diesIn (s : State) (rails : List Bool) : State :=
  [0, 1].foldl (fun (a : State) d =>
    let good := atD rails d true
    let b := ((a.put (railFld d) good).wr (dieFld d) (if good then 0 else 2)).setDieS d { outs := (a.dieS d).outs }
    if good then b.startTests d false else b) (s.wr Reg.GUARD.NODE.RBTICKS 0)

/-- Install an image whose code has been filled: steps 5 to 7; memory tests that run or wait are dropped. [DEDUCED, log 33]
[DESIGN CHOICE, log 90] -/
def State.install (s : State) (p : PlanImage) (rails : List Bool) : State :=
  let old := s.regs
  let s1 := ((List.range 32).foldl (fun (a : State) c => a.dropMemTests c) s).planBase p
  let items := passItems p (imgItems p)
  let s2 := s1.launchWords items
  let v : View := { s := s2, lower := [], upper := items }
  let s3 := v.entries.foldl (fun (a : State) i => if (a.partOf i).isSome then a.setRoute i (v.final i) else a) s2
  let s4 : State := { s3 with
    dsp0 := {}, dsp1 := {}, old := none, past := [], meters := [], modFade := []
    plan := { image := some p, loading := none, shown := some old }
    ouv := { s3.ouv with topGen := 0 }
    guard := { s3.guard with cl := s3.guard.cl.map fun (c, x) => (c, { x with alt := 0, memTest := [], memEnd := [], stuck := false }) }
    dramLines := [] }
  let s5 := (List.range 8).foldl (fun (a : State) r => a.put (Reg.GUARD.ALT.ACTIVE r) false) s4.showRoutes
  let s6 := (List.range 32).foldl (fun (a : State) c => a.placeLanes c) s5
  let s7 := (s6.loadLanes p fun _ => true).diesIn rails
  let ok := ((p.code.map fun x => copies p 16 x.cluster).flatten.eraseDups.map fun c => 2 ^ c).sum
  let s8 := (s7.wr Reg.LANE.LOADOK.OK ok).put Reg.TICK.CFG.PLAN true
  let bare := (List.range 32).filter fun c => (List.range 8).any fun k => s8.posOf c k == 15
  (bare.foldl (fun (a : State) c => a.needAlt c) s8).showHealth

/-! ### Stopping (R391, R537, R914, R915) -/

/-- What a plan load discards when the engine stops: both transaction slots and the stream contexts, which the evaluated
configuration asks of (R391, R537, R891). -/
def State.dropShow (s : State) : State := (((s.discardOpen 0).discardLaunch).closeStreams).showEval s

/-- No plan is loaded any more; SH fields keep their values (R937). -/
def State.noPlan (s : State) : State :=
  let s1 : State := { s with plan := { s.plan with image := none, shown := none } }
  ((s1.put Reg.TICK.CFG.PLAN false).wr Reg.LANE.LOADOK.OK 0).wr Reg.GUARD.NODE.MODE 0

/-- ENGINE_STOP: at T(s) the running plan stops; an unload completes, a load goes on (R914, R915, R918). -/
def doEngineStop (s : State) : State := match s.eng.stopAt with
  | none => s
  | some k =>
    if s.ns < s.tAt k then s
    else
      let s1 : State := { s with eng := s.eng.keep }
      let s2 := (((s1.put Reg.TICK.STATUS.RUN false).dropShow).noPlan).showHealth
      if s2.plan.loading.isSome then s2 else (s2.setPw pwIdle).finishOp 0x62 stOk [] [] (fun d => d.a0 == 0)

/-- Stop the engine at the first boundary at least 2 ticks on where it runs, else at once. -/
def State.stopPlan (s : State) : State :=
  if s.on Reg.TICK.STATUS.RUN then { s with eng := { s.eng with stopAt := some (s.tickFor 0 2) } }
  else
    let s1 : State := { s with eng := s.eng.keep }
    (s1.dropShow.noPlan).showHealth

/-- The controller is at a set that a plan's minimum rate allows: it changes to set A, and a change that a command waits
for ends with it, refused where it asks for a set too slow (R759, R762). -/
def State.forRate (s : State) (min_ : Nat) : State :=
  if min_ ≤ s.dramRate then s
  else match s.dram.freq with
    | none => s.switchSet 0
    | some (k, _) => (s.switchSet 0).finishOp 0x61 (if k = 0 then stOk else stRefused)

/-- PLAN_LOAD (R235, R236, R753, R890, R911, R914, R919): a custom kernel's signature needs cryptography. [DEDUCED, log 33] -/
def planLoadRes (img : PlanImage) (s : State) : Res :=
  if s.pw = 0 || s.pw = pwStandby || s.rd Reg.DRAM.STAT.STATE = 3 || (s.cryptoDown && !img.custom.isEmpty) then failRes s stRefused
  else if s.plan.loading.isSome || s.eng.stopAt.isSome then failRes s stBusy
  else if !s.customOk img then failRes (s.count Reg.SEC.CNT.SIGFAIL) stRefused
  else if !s.imageOk img then failRes s stRefused
  else
    let s1 := s.forRate img.minRate
    let s2 : State := { s1 with plan := { s1.plan with loading := some img } }
    longRes ((s2.setPw pwLoading).stopPlan)

/-- PLAN_LOAD_COMPLETE: instruction memories are filled and the CRC of each is compared; the plan stands, or none
is loaded (R235 steps 3 to 7, R237). -/
def doPlanComplete (e : LoadEnv) (s : State) : State := match s.plan.loading with
  | none => s
  | some p =>
    if s.on Reg.TICK.STATUS.RUN || s.eng.stopAt.isSome then s
    else
      let t := s.loadCode p (fun _ => true) e.upsets
      if t.codeGood p fun _ => true then
        ((((t.install p [e.rail0, e.rail1]).setPw pwRun).finishOp 0x18 stOk (le 4 p.crc.toNat))).planStart
      else
        let s1 : State := { t with plan := { image := none, loading := none } }
        ((s1.noPlan).setPw pwIdle).finishOp 0x18 stRefused

/-! ### Reloads of a die (R332, R335, R969) -/

/-- Whether a cluster cannot run all its logical lanes on its own positions: one is unplaced, its position is not active,
or its code did not reload (R238, R239, R297). -/
def State.short (s : State) (c : Nat) : Bool :=
  (s.clS c).stuck || (List.range 8).any fun k => decide (9 ≤ s.posOf c k) || s.lstat c (s.posOf c k) != 0

/-- Reload a die's segments under steps 3 to 6 of R235, for that die alone (R332); lane memory holds the topcoat's words
and, in the shadow allocations, the launching slot's (R400). -/
def State.loadDie (s : State) (p : PlanImage) (d : Nat) : State :=
  let on (x : Nat) : Bool := x == d
  let s1 := s.loadCode p on []
  let s2 := ((List.range 16).foldl (fun (a : State) c => a.placeLanes (d * 16 + c)) s1).loadLanes p on
  let top (k : Nat) : Option Word36 := if keyKind k = 1 then some (BitVec.ofNat 36 (s.param k)) else none
  let s3 := s2.placeWords (fun k => k.params) top
  if s.rd Reg.TXN.STATUS.LSTATE = 0 then s3 else s3.placeWords (fun k => k.shadow) (itemWord s.txn.lItems)

/-- The clusters of a reloaded die that need their alternate schedules enter them; the die goes out where a region is
exhausted (R239, R320). -/
def State.reloadAlts (s : State) (d : Nat) : State :=
  let c0 := ((List.range 16).map fun n => d * 16 + n).filter s.short
  if c0.isEmpty then s
  else
    let t := c0.foldl (fun (a : State) c => if a.die d = 0 then a.needAlt c else a) (s.wr (dieFld d) 0)
    if t.die d = 0 then t.wr (dieFld d) 3 else t

/-- DIE_RELOAD_COMPLETE (R332, R334, R335, R338, R899, R969): the reload has ended, within 50 ms or failed, and the next
weir flip starts the rebuild or names the boundary of the restart; the die's rail is good again where the reload went
well, and self-tests begin anew. [DEDUCED, log 35] -/
def doReload (d : Nat) (good : Bool) (s : State) : State :=
  let x := s.dieS d
  match x.reload with
  | none => s
  | some t =>
    let ok := good && decide (s.run ≤ t)
    let s1 := s.hold 0x0125 (le 1 d ++ le 1 (if ok then 0 else 1)) (64 + d)
    let s2 := if x.asked then s1.finishOp 0x48 stOk [] [] (fun e => e.a0 == d) else s1
    let s3 := s2.setDieS d { s2.dieS d with reload := none, asked := false, ready := ok, stays := x.stays || !ok }
    if !ok then (s3.wr (dieFld d) 2).showHealth
    else
      let s4 := match s3.plan.image with
        | some p => s3.loadDie p d
        | none => s3
      (((s4.put (railFld d) true).startTests d true).reloadAlts d).showHealth

/-- DIE_RELOAD_COMPLETE (R969). -/
def execDieReloadComplete (die : Nat) (ok : Bool) (s : State) : Out := .next (doReload die ok s)

/-! ### POWER_STATE (R918 to R920) -/

/-- PLAN_UNLOAD (R918). -/
def planUnloadRes (s : State) : Res :=
  if s.plan.loading.isSome || s.eng.stopAt.isSome then failRes s stBusy
  else if s.on Reg.TICK.STATUS.RUN then longRes s.stopPlan
  else if s.on Reg.TICK.CFG.PLAN then okRes (s.stopPlan.setPw pwIdle)
  else okRes s

/-- STANDBY (R919): the network links and the SDRAM rest. -/
def standbyRes (s : State) : Res :=
  if s.pw ≠ pwIdle || !s.quiesce || s.anyStream then failRes s stRefused
  else
    let s1 := (List.range 4).foldl (fun (a : State) p => doLinkState p false false a) s
    okRes (s1.setPw pwStandby)

/-- WAKE (R920): leaves STANDBY; each channel owes a tracking burst before the first grant. -/
def wakeRes (s : State) : Res :=
  if s.pw ≠ pwStandby then failRes s stRefused
  else
    let s1 : State := { s with dram := { s.dram with owed := List.range 8 } }
    okRes (s1.setPw pwIdle)

/-- POWER_STATE by its A0: 0 PLAN_UNLOAD, 1 STANDBY, 2 WAKE (R918). -/
def powerStateRes (d : Desc) (s : State) : Res :=
  if d.a0 = 0 then planUnloadRes s
  else if d.a0 = 1 then standbyRes s
  else if d.a0 = 2 then wakeRes s
  else badDesc s 48

/-! ### Rows -/

/-- PLAN_LOAD (R235). -/
def execPlanLoad (d : Desc) (img : PlanImage) (s : State) : Out :=
  .next (if s.on Reg.DRAM.STAT.RETRAIN then s else hostCmd 0x18 roleE d (planLoadRes img) s)
/-- PLAN_LOAD_COMPLETE (R237). -/
def execPlanLoadComplete (e : LoadEnv) (s : State) : Out := .next (doPlanComplete e s)
/-- PLAN_UNLOAD (R918). -/
def execPlanUnload (d : Desc) (s : State) : Out := .next (hostCmd 0x62 roleE d (powerStateRes d) s)
/-- STANDBY (R919). -/
def execStandby (d : Desc) (s : State) : Out := .next (hostCmd 0x62 roleE d (powerStateRes d) s)
/-- WAKE (R920). -/
def execWake (d : Desc) (s : State) : Out := .next (hostCmd 0x62 roleE d (powerStateRes d) s)
/-- ENGINE_STOP (R914). -/
def execEngineStop (s : State) : Out := .next (doEngineStop s)

end Sys2Proof.Machine
end

