-- ==== Sys2Proof/Machine/DmaCtl.lean ====
section
/-! DEFINITION. The control of the DMA channels: request lines, start, stop and append (chapter 16). -/
namespace Sys2Proof.Machine

/-! ### Channels -/

def dmaIdle : Nat := 0
def dmaRun : Nat := 1
def dmaTail : Nat := 2
def dmaStopping : Nat := 3
def dmaHalted : Nat := 4

/-- State of a channel (`DMA.CH[c].STAT.STATE`). -/
def State.dmaState (s : State) (c : Nat) : Nat := s.rd (Reg.DMA.CH.STAT.STATE c)

/-- Set a bit of a field. -/
def State.setBit (s : State) (f : Fld) (i : Nat) (b : Bool) : State :=
  if (s.rd f).testBit i == b then s
  else s.wr f (if b then s.rd f + 2 ^ i else s.rd f - 2 ^ i)

/-- Set a channel's state and its BUSY bit. -/
def State.setDmaState (s : State) (c st : Nat) : State :=
  (s.wr (Reg.DMA.CH.STAT.STATE c) st).setBit Reg.DMA.BUSY.CH c (st != dmaIdle)

/-- What the model holds of a channel beside its registers. -/
def State.dmaCh (s : State) (c : Nat) : DmaCh := atD s.dma.chans c {}

/-- Change it. -/
def State.onCh (s : State) (c : Nat) (f : DmaCh → DmaCh) : State :=
  { s with dma := { s.dma with chans := modAt s.dma.chans c f } }

/-- Address of a channel's descriptor. -/
def State.dptr (s : State) (c : Nat) : Nat :=
  s.rd (Reg.DMA.CH.DPTR_LO.ADDR c) * 64 + s.rd (Reg.DMA.CH.DPTR_HI.ADDR c) * 2 ^ 32

/-- Whether a DMA address is in host memory (R779). -/
def dmaHost (a : Nat) : Bool := decide (2 ^ 63 ≤ a)

/-- The channel that a request line serves: the one bound to it that is not IDLE, else the lowest bound one
(R785). [DEDUCED, log 45] -/
def State.lineCh (s : State) (line : Nat) : Option Nat :=
  let bound := (List.range 32).filter fun c => s.rd (Reg.DMA.CH.CFG.REQ c) == line
  match bound.find? (fun c => s.dmaState c != dmaIdle) with
  | some c => some c
  | none => bound.head?

/-- A request line raises a request: it waits, at most four, or is lost, counted and logged (R786).
[DEDUCED, log 45] -/
def State.raise (s : State) (line beats : Nat) : State :=
  match s.lineCh line with
  | none => s
  | some c =>
    let x := s.dmaCh c
    let live := s.dmaState c == dmaRun || s.dmaState c == dmaTail
    if live && decide (x.pend.length < 4) then s.onCh c fun x => { x with pend := x.pend ++ [beats] }
    else (s.count (Reg.DMA.CH.STAT.REQLOST c)).siltWrite 0x0604 []

/-! ### Start, stop and append (R785, R805 to R810) -/

/-- The channel goes on with a link word: to the descriptor it names, or to TAILWAIT (R803, R806). -/
def State.followLink (s : State) (c link : Nat) : State :=
  let s1 := s.onCh c fun x => { x with append := false, polled := s.run }
  if link % 2 = 1 then s1.setDmaState c dmaTail
  else
    let a := link / 64
    (((s1.wr (Reg.DMA.CH.DPTR_LO.ADDR c) (a % 2 ^ 26)).wr (Reg.DMA.CH.DPTR_HI.ADDR c) (a / 2 ^ 26)).onCh c
      fun x => { x with fetch := true, desc := none }).setDmaState c dmaRun

/-- The link word of the descriptor in hand, where it lies in the fabric. -/
def State.linkWord (s : State) (c : Nat) : Nat := unLe (Memory.readN s.bus.mem (s.dptr c + 56) 8)

/-- START for one channel (R785, R808). -/
def State.dmaStart (s : State) (c : Nat) : State :=
  if s.dmaState c ≠ dmaIdle then s
  else
    let line := s.rd (Reg.DMA.CH.CFG.REQ c)
    let held := decide (line ≤ 79) && (List.range 32).any fun k =>
      k != c && s.rd (Reg.DMA.CH.CFG.REQ k) == line && s.dmaState k != dmaIdle
    if held then s.wr (Reg.DMA.CH.CFG.ERR c) 1
    else
      let s1 := ((s.wr (Reg.DMA.CH.CFG.ERR c) 0).wr (Reg.DMA.CH.STAT.WBERR c) 0).setDmaState c dmaRun
      s1.onCh c fun x => { fetch := true, append := x.append }

/-- STOP for one channel (R810). -/
def State.dmaStop (s : State) (c : Nat) : State :=
  let st := s.dmaState c
  if st = dmaRun then (s.onCh c fun x => { x with pend := [], fetch := false }).setDmaState c dmaStopping
  else if st = dmaTail || st = dmaHalted then s.setDmaState c dmaIdle
  else s

/-- APPEND for one channel: the flag is set; in TAILWAIT the link is read again at once, else the APPEND is
counted (R805, R807).  A link word in host memory comes with the next TAILWAIT_POLL. -/
def State.dmaAppend (s : State) (c : Nat) : State :=
  let s1 := s.onCh c fun x => { x with append := true }
  if s.dmaState c = dmaTail then
    if dmaHost (s.dptr c) then s1
    else if (s1.busTarget (2 + c / 16) (s1.dptr c + 56) 8).isSome then s1.followLink c (s1.linkWord c)
    else (s1.violate .fabric).followLink c 0
  else s1.count (Reg.DMA.CH.STAT.APPIGN c)

/-- Act on every channel whose bit is set in a written word. -/
def State.eachBit (s : State) (w : Nat) (f : State → Nat → State) : State :=
  ((List.range 32).filter fun c => w.testBit c).foldl f s

end Sys2Proof.Machine
end

