-- ==== Sys2Proof/Machine/Sap.lean ====
section
/-! DEFINITION. The serial audio ports: start and stop, slot masks, the two paths, underrun, loss of clock
and slips (chapter 11). -/
namespace Sys2Proof.Machine

/-! ### A port -/

def sapStopped : Nat := 0
def sapStarting : Nat := 1
def sapRun : Nat := 2
def sapStopping : Nat := 3

/-- State of a port (`SAP.P[p].STATUS.STATE`). -/
def State.sapState (s : State) (p : Nat) : Nat := s.rd (Reg.SAP.P.STATUS.STATE p)

/-- What the model holds of a port beside its registers. -/
def State.sp (s : State) (p : Nat) : SapS := mapGetD s.sap p {}
/-- Set it. -/
def State.setSp (s : State) (p : Nat) (x : SapS) : State :=
  let y : SapS := { x with out := if s.pwr.tripped then [] else x.out }
  { s with sap := mapSet s.sap p y }
/-- One slot of a port. -/
def SapS.slot (x : SapS) (k : Nat) : SapSlot := mapGetD x.slots k {}
/-- Set it. -/
def SapS.setSlot (x : SapS) (k : Nat) (y : SapSlot) : SapS := { x with slots := mapSet x.slots k y }

/-- Bits of a width code of `SAP.P[p].FRAME`. -/
def codeBits (c : Nat) : Nat := 16 + 8 * c
/-- Slot width SW. -/
def State.slotBits (s : State) (p : Nat) : Nat := codeBits (s.rd (Reg.SAP.P.FRAME.SW p))
/-- Sample width DW. -/
def State.dataBits (s : State) (p : Nat) : Nat := codeBits (s.rd (Reg.SAP.P.FRAME.DW p))

/-- Whether R569 refuses a port's settings. -/
def State.sapBad (s : State) (p : Nat) : Bool :=
  let n := s.slotCount p
  decide (49152000 < s.fs * n * s.slotBits p) || decide (s.slotBits p < s.dataBits p) ||
    (s.rd (Reg.SAP.P.CFG.FORMAT p) == 2 && (n == 0 || decide (s.slotsM < n))) ||
    (s.rd (Reg.SAP.P.CFG.PACK p) == 2 && s.rd (Reg.SAP.P.FRAME.DW p) != 1)

/-! ### The wires of a port (R567 to R570, Table 11.1) -/

/-- The bit clocks between a frame start and the first bit of slot 0 (Table 11.1). -/
def State.dataDelay (s : State) (p : Nat) : Nat := match s.rd (Reg.SAP.P.CFG.FORMAT p) with
  | 0 => 1
  | 1 => 0
  | _ => s.rd (Reg.SAP.P.CFG.FSDLY p)

/-- Bit clocks of a port frame (R569). -/
def State.frameClocks (s : State) (p : Nat) : Nat := s.slotCount p * s.slotBits p

/-- Whether a frame start is a rising edge of SAP_FS; FSPOL inverts it (Table 11.1). -/
def State.fsRises (s : State) (p : Nat) : Bool :=
  (s.rd (Reg.SAP.P.CFG.FORMAT p) != 0) != s.on (Reg.SAP.P.CFG.FSPOL p)

/-- Whether SAP_FS is high in bit clock b of a port frame: low through slot 0 in I2S, high through it left-justified, and
a pulse of one bit clock or one slot in TDM; FSPOL inverts it (Table 11.1). -/
def State.fsHigh (s : State) (p b : Nat) : Bool :=
  let w := s.slotBits p
  let h := match s.rd (Reg.SAP.P.CFG.FORMAT p) with
    | 0 => decide (w ≤ b)
    | 1 => decide (b < w)
    | _ => decide (b < if s.on (Reg.SAP.P.CFG.FSW p) then w else 1)
  h != s.on (Reg.SAP.P.CFG.FSPOL p)

/-- The bit of a slot's word that stands at place j, the most significant first (R568). -/
def State.wordBit (s : State) (p j w : Nat) : Bool := w.testBit (s.slotBits p - 1 - j)

/-- The bit on SAP_DO in bit clock b of the present port frame, none for high impedance: a data delay moves every slot
(R568, R573, Table 11.1). -/
def State.doBit (s : State) (p b : Nat) : Option Bool :=
  let w := s.slotBits p
  let d := s.dataDelay p
  let x := s.sp p
  if b < d then x.tail.map fun v => s.wordBit p (w - d + b) v
  else (atD x.out ((b - d) / w) none).map fun v => s.wordBit p ((b - d) % w) v

/-- The bit clock of a port frame at a local instant in thirds of a ns, with the part of it in halves: the frame runs for
one engine sample period from its start (R567, R570). -/
def State.clockAt (s : State) (p t : Nat) : Option (Nat × Nat) :=
  ((s.sp p).last.filter fun l => decide (l ≤ t) && decide (t < l + s.ts3)).map fun l =>
    let h := (t - l) * 2 * s.frameClocks p / s.ts3
    (h / 2, h % 2)

/-- Whether a port drives its clocks: a master that runs (R570, R592). -/
def State.drivesClock (s : State) (p : Nat) : Bool :=
  s.on (Reg.SAP.P.CFG.ROLE p) && decide (s.sapState p ≠ sapStopped)

/-- The levels of SAP_BCLK and SAP_FS that a master drives at a local instant: data changes on the falling edge of the bit
clock, the rising one with BCLKPOL (R570). -/
def State.clockPins (s : State) (p t : Nat) : Option (Bool × Bool) :=
  if s.drivesClock p then
    (s.clockAt p t).map fun (b, h) => ((h == 1) != s.on (Reg.SAP.P.CFG.BCLKPOL p), s.fsHigh p b)
  else none

/-- The word of a receive slot: its SW bits among the bits that SAP_DI gives from the frame start on, in groups of SW bits;
none where its burst has come too late (R22, R568, Table 11.1). -/
def State.rxWord (s : State) (p : Nat) (rx : List Word) (k : Nat) : Option Nat :=
  let w := s.slotBits p
  (rx[k]?).map fun v =>
    if s.dataDelay p = 0 then v.toNat % 2 ^ w
    else v.toNat * 2 % 2 ^ w + ((rx[k + 1]?).map fun y => y.toNat / 2 ^ (w - 1) % 2).getD 0

/-- The local instant in thirds of a ns. -/
def State.now3 (s : State) : Nat := s.time.now * 3 / tu

/-! ### Slot masks (R573 to R579) -/

/-- Mask gain of a slot in a port frame, in Q2.33. -/
def State.maskRamp (s : State) (p k : Nat) : Ramp :=
  ((s.sp p).slot k).mask.getD
    (settled (if (s.rd (Reg.SAP.P.SLOTMASK.MASK p)).testBit k then one33 else 0))

/-- Change one slot of a port. -/
def State.onSlot (s : State) (p k : Nat) (f : SapSlot → SapSlot) : State :=
  let x := s.sp p
  s.setSp p (x.setSlot k (f (x.slot k)))

/-- The armed change begins at its frame start F0: removed slots fade over N port frames, or are silent at
once with HARD (R574 to R576). -/
def State.beginMask (s : State) (p fs : Nat) : State :=
  let x := s.sp p
  match x.arm, x.swap with
  | some a, none =>
    if s.on (Reg.SAP.P.MCTRL.ARM p) && decide (a ≤ fs) &&
        decide (8 * s.ts3 ≤ (fs - a) * (s.slotCount p * s.slotBits p)) then
      let n := featherLen (s.rd (Reg.SAP.P.MCTRL.MFLEN p))
      let out := if s.on (Reg.SAP.P.MCTRL.HARD p) then 0 else n
      let new := s.rd (Reg.SAP.P.SLOTMASK_NEXT.MASK p)
      let gone := (s.active p).filter fun k => !new.testBit k
      let add := (s.maskSlots p new).any fun k => !(s.active p).contains k
      let s1 := gone.foldl (fun (a : State) k =>
        a.onSlot p k fun y => { y with mask := some ((s.maskRamp p k).to 0 out x.no 1) }) s
      let y := s1.sp p
      s1.setSp p { y with
        swap := some (x.no + out, new, n)
        fadeEnd := x.no + (if gone.isEmpty then 0 else out) + (if add then (if gone.isEmpty then out else 0) + n else 0) }
    else s
  | _, _ => s

/-- The new mask takes effect: added slots ramp in from 0, TAG counts, ARM reads 0 (R575, R577 to R579). -/
def State.takeMask (s : State) (p : Nat) : State :=
  let x := s.sp p
  match x.swap with
  | none => s
  | some (f, new, n) =>
    if x.no < f then s
    else
      let add := (s.maskSlots p new).filter fun k => !(s.active p).contains k
      let s1 := add.foldl (fun (a : State) k =>
        a.onSlot p k fun y => { y with mask := some { g0 := 0, g1 := one33, n := if n = 0 then 1 else n, l := x.no } }) s
      let s2 := ((s1.wr (Reg.SAP.P.SLOTMASK.MASK p) new).wr (Reg.SAP.P.STATUS.TAG p)
        ((s.rd (Reg.SAP.P.STATUS.TAG p) + 1) % 16)).wr (Reg.SAP.P.MCTRL.ARM p) 0
      s2.setSp p { s2.sp p with swap := none, arm := none }

/-- The mask's part of a port frame. -/
def State.stepMask (s : State) (p fs : Nat) : State :=
  let s1 := (s.beginMask p fs).takeMask p
  s1.put (Reg.SAP.P.STATUS.FADE p) (decide ((s1.sp p).no < (s1.sp p).fadeEnd))

/-! ### Start and stop mutes (R92 to R94, R591, R592) -/

/-- One port frame of a zero-crossing wait: the wait and the ramp after it (R92, R94). -/
def waitStep (no timeout n : Nat) (w : Option (Nat × Bool)) (r : Ramp) (y x : Int) : Option (Nat × Bool) × Ramp :=
  match w with
  | none => (none, r)
  | some (w0, mute) =>
    let g : Int := if mute then 0 else one33
    if crosses y x then (none, { g0 := r.g1, g1 := g, n := 1, l := no })
    else if timeout ≤ no - w0 then (none, { g0 := r.g1, g1 := g, n := if n = 0 then 1 else n, l := no })
    else (w, r)

/-- Start a mute or an unmute of one direction of a slot: with ZC a wait, else a feather over MFLEN. -/
def State.startMute (s : State) (p no : Nat) (mute : Bool) (r : Ramp) : Ramp × Option (Nat × Bool) :=
  if s.on (Reg.SAP.P.MCTRL.ZC p) then (settled (r.before no 1), some (no, mute))
  else (r.to (if mute then 0 else one33) (featherLen (s.rd (Reg.SAP.P.MCTRL.MFLEN p))) no 1, none)

/-- A valid write of EN = 1 (R569, R591). -/
def sapStart (p : Nat) (s : State) : State :=
  if s.sapState p ≠ sapStopped then s
  else if s.sapBad p then (s.put (Reg.SAP.P.CFG.EN p) false).put (Reg.SAP.P.STATUS.CFGERR p) true
  else
    let s1 := ((s.put (Reg.SAP.P.CFG.EN p) true).put (Reg.SAP.P.STATUS.CFGERR p) false).wr
      (Reg.SAP.P.STATUS.STATE p) sapStarting
    s1.setSp p { no := (s.sp p).no, from_ := s.ns + 1000, arm := (s.sp p).arm, slips := (s.sp p).slips }

/-- Everything stops at the end of this port frame (R592). -/
def State.sapHalt (s : State) (p : Nat) : State :=
  let x := s.sp p
  (s.wr (Reg.SAP.P.STATUS.STATE p) sapStopped).setSp p { no := x.no, arm := x.arm, slips := x.slips }

/-- A write of EN = 0 (R592).  A port that is not in RUN, or has lost its clock, is silent already. -/
def sapStop (p : Nat) (s : State) : State :=
  let s1 := s.put (Reg.SAP.P.CFG.EN p) false
  let st := s.sapState p
  if st = sapStopped || st = sapStopping then s1
  else
    let x := s1.sp p
    let s2 := if x.swap.isNone then (s1.wr (Reg.SAP.P.MCTRL.ARM p) 0).setSp p { x with arm := none } else s1
    if st = sapStarting || s.on (Reg.SAP.P.STATUS.LOS p) then s2.sapHalt p
    else s2.wr (Reg.SAP.P.STATUS.STATE p) sapStopping

/-- A write of 1 to ARM (R574, R578). -/
def sapArm (p : Nat) (s : State) : State :=
  if s.on (Reg.SAP.P.MCTRL.ARM p) then s
  else (s.wr (Reg.SAP.P.MCTRL.ARM p) 1).setSp p { s.sp p with arm := some s.now3 }

/-- Enter RUN: receive slots start from an empty concealment state, transmit slots muted (R591). -/
def State.sapEnter (s : State) (p : Nat) : State :=
  let x := s.sp p
  let slots := List.range (s.slotCount p)
  let s1 := slots.foldl (fun (a : State) k =>
    let (r, w) := a.startMute p x.no false (settled 0)
    a.onSlot p k fun y => { y with rx := settled one33, rxWait := none, tx := r, txWait := w, und := one33 }) s
  let e := s1.eng
  let srcs := slots.map fun k => serialSrc (p * s.slotsM + k)
  let s2 : State := { s1 with eng := { e with conceal := e.conceal.filter fun c => !srcs.contains c.1 } }
  (s2.wr (Reg.SAP.P.STATUS.STATE p) sapRun).setSp p { s2.sp p with gain := 0, muting := false, map := none }

/-- In STOPPING every active slot mutes in both directions, once a mask fade has ended (R592). -/
def State.stepStop (s : State) (p : Nat) : State :=
  let x := s.sp p
  if s.sapState p = sapStopping && !x.muting && x.swap.isNone && decide (x.fadeEnd ≤ x.no) then
    let s1 := (s.active p).foldl (fun (a : State) k => a.onSlot p k fun y =>
      let (r, w) := a.startMute p x.no true y.rx
      let (r2, w2) := a.startMute p x.no true y.tx
      { y with rx := r, rxWait := w, tx := r2, txWait := w2 }) s
    s1.setSp p { s1.sp p with muting := true }
  else s

/-- The last slot is silent: the port stops (R592). -/
def State.endStop (s : State) (p : Nat) : State :=
  let x := s.sp p
  let silent (k : Nat) : Bool :=
    let y := x.slot k
    y.rxWait.isNone && y.txWait.isNone && y.rx.val x.no 0 1 == 0 && y.tx.val x.no 0 1 == 0
  if s.sapState p = sapStopping && x.muting && (s.active p).all silent then s.sapHalt p else s

/-! ### Blocks of the DMA path (R580 to R583) -/

/-- The bytes that a sample takes in a block. -/
def packBytes (pack dw : Nat) (v : Int) : List Byte :=
  match pack with
  | 0 => le 4 (ofInt dw v * 2 ^ (32 - dw))
  | 1 => le 4 (ofInt 32 v)
  | _ => le 3 (ofInt 24 v)

/-- Bytes of one packed sample. -/
def packSize (pack : Nat) : Nat := if pack = 2 then 3 else 4

/-- Bytes as 32-bit beats, the last one padded (R581). -/
def beatsOf : Nat → List Byte → List Word
  | 0, _ => []
  | n + 1, l => if l.isEmpty then [] else BitVec.ofNat 32 (unLe (l.take 4)) :: beatsOf n (l.drop 4)

/-- Beats of a block: 1 + the samples of the active slots (R581). -/
def State.blockBeats (s : State) (p : Nat) : Nat :=
  1 + ceilDiv ((s.active p).length * packSize (s.rd (Reg.SAP.P.CFG.PACK p))) 4

/-- Whether a fade or ramp applies to some slot in this port frame (Table 11.2). -/
def State.ramping (s : State) (p : Nat) : Bool :=
  let x := s.sp p
  decide (x.no < x.fadeEnd) || (x.gain != one33 && s.on (Reg.SAP.P.CFG.PATH p)) || (s.active p).any fun k =>
    let y := x.slot k
    decide (x.no < y.rx.l + y.rx.n) || decide (x.no < y.tx.l + y.tx.n) || y.und != one33

/-- The frame status word (Table 11.2). -/
def State.statusWord (s : State) (p : Nat) (ovr : Bool) : Word :=
  BitVec.ofNat 32 (s.rd (Reg.SAP.P.STATUS.TAG p) + (if ovr then 16 else 0) +
    (if s.ramping p then 32 else 0) + (s.sp p).no % 65536 * 65536)

/-- The sample of the j-th active slot of a transmit block. -/
def unpack (pack dw : Nat) (beats : List Word) (j : Nat) : Int :=
  let bytes := (beats.map fun w => le 4 w.toNat).flatten
  let n := packSize pack
  let v := rdLe bytes (j * n) n
  match pack with
  | 0 => toInt dw (v / 2 ^ (32 - dw))
  | 1 => toInt dw (v % 2 ^ dw)
  | _ => toInt 24 v

/-- A port's receive block leaves for its channel (R580). -/
def State.sapTake (s : State) (p : Nat) : List Word × State :=
  let x := s.sp p
  (x.rxq.headD [], s.setSp p { x with rxq := x.rxq.drop 1 })

/-- A transmit block arrives from memory; a direction holds four (R583). -/
def State.sapPut (s : State) (p : Nat) (block : List Word) : State :=
  let x := s.sp p
  if x.txq.length < 4 then s.setSp p { x with txq := x.txq ++ [block] } else s

/-! ### Receive -/

/-- Received samples of the active slots after mask fade and mute, by slot: the first DW bits of each; slots whose sample
came too late are left out (R568, R573, R575, R591). -/
def State.rxSamples (s : State) (p : Nat) (rx : List Word) : State × List (Nat × Int) :=
  let dw := s.dataBits p
  let no := (s.sp p).no
  (s.active p).foldl (fun (acc : State × List (Nat × Int)) k =>
    let (a, out) := acc
    match s.rxWord p rx k with
    | none => acc
    | some w =>
      let raw := fromInt dw (toInt dw (w / 2 ^ (s.slotBits p - dw)))
      let x := (toSample 63 (raw * (a.maskRamp p k).val no 0 1)).1
      let y := (a.sp p).slot k
      let (wait, r) := waitStep no a.zcFrames (featherLen (a.rd (Reg.SAP.P.MCTRL.MFLEN p))) y.rxWait y.rx y.rxPrev x
      (a.onSlot p k fun y => { y with rxWait := wait, rx := r, rxPrev := x },
        out ++ [(k, (toSample 63 (x * r.val no 0 1)).1)])) (s, [])

/-- Log one slip in the window of R590; the port's counter shows it at the weir flip of the frame of its sample (R33,
R274). [DEDUCED, log 104] -/
def State.noteSlip (s : State) (p m : Nat) (rep : Bool) : State :=
  let x := s.sp p
  let (t, d, r) := x.slips.getD (s.run, 0, 0)
  let s1 := s.setSp p { x with slips := some (if rep then (t, d, r + 1) else (t, d + 1, r)) }
  { s1 with eng := { s1.eng with late := s1.eng.late ++ [(m / s.spt, p, if rep then 1 else 2)] } }

/-- The sample numbers that a port frame's samples take, as presentation times: none where the receive
sample is dropped, two where the one before is repeated (R20, R21, R589, R590). [DEDUCED, log 43] -/
def State.place (s : State) (p fs : Nat) : State × List Nat :=
  let t := s.ts3
  if s.on (Reg.SAP.P.CFG.ROLE p) || s.on (Reg.SAP.P.CFG.PATH p) then (s, [(fs + t / 2) / t + 2])
  else
    let x := s.sp p
    let first := ceilDiv fs t + 2
    let m := x.map.getD first
    let wrap := if x.map.isNone then decide (fs % t ≠ 0) else x.wrap
    let phi : Int := (fs : Int) + 2 * t - m * t + (if wrap then (t : Int) else 0)
    let keep (a : State) (m : Nat) (phi : Int) : State :=
      (a.setSp p { a.sp p with map := some m, wrap := wrap }).wrInt (Reg.SAP.P.PHASE.PHI p) (quot phi 3)
    if decide ((9 * t : Int) < 8 * phi) then (keep (s.noteSlip p m true) (m + 2) (phi - t), [m, m + 1])
    else if decide (8 * phi < -(t : Int)) then (keep (s.noteSlip p m false) m (phi + t), [])
    else (keep s (m + 1) phi, [m])

/-- Deliver samples of sample number n to the intake and the skim path (R20 to R22, R57, R572). -/
def State.deliverRx (s : State) (p n : Nat) (xs : List (Nat × Int)) : State :=
  let src (k : Nat) := p * s.slotsM + k
  let s1 : State := { s with skimIn := xs.foldl (fun t (k, v) =>
    mapSet t (src k) ((n - 2, v) :: ((mapGet t (src k)).getD []).take (3 * s.spt))) s.skimIn }
  let s2 := xs.foldl (fun (a : State) (k, _) => a.skimWaits (src k) (n - 2)) s1
  s2.arrive none (n / s.spt) (xs.map fun (k, v) => (serialSrc (src k), [(n % s.spt, v)]))

/-- A receive sample of a port misses its burst's deadline: `CNT0.OVR` counts it at the weir flip of its frame (R274, R586). -/
def State.noteLate (s : State) (p : Nat) (nums : List Nat) : State :=
  { s with eng := { s.eng with late := s.eng.late ++ [(nums.headD 0 / s.spt, p, 0)] } }

/-- The receive direction of a port frame. -/
def State.portRx (s : State) (p : Nat) (nums : List Nat) (rx : List Word) : State :=
  let old := s.sp p
  let (s1, xs) := s.rxSamples p rx
  let late := decide (xs.length < (s.active p).length)
  if s.on (Reg.SAP.P.CFG.PATH p) then
    let x := s1.sp p
    if 4 ≤ x.rxq.length then
      (s1.setSp p { x with lost := true, gain := 0 }).count (Reg.SAP.P.CNT0.OVR p)
    else
      let gain := min one33 (x.gain + 2 ^ 25)
      let dw := s.dataBits p
      let s2 := s1.setSp p { x with gain := gain }
      let vals := (s.active p).map fun k =>
        toIntW dw (toSample 63 (((xs.find? fun e => e.1 == k).map fun e => e.2).getD 0 * gain)).1
      let bytes := (vals.map (packBytes (s.rd (Reg.SAP.P.CFG.PACK p)) dw)).flatten
      let block := s1.statusWord p x.lost :: beatsOf 33 bytes
      (s2.setSp p { s2.sp p with rxq := x.rxq ++ [block], lost := false }).raise p (s2.blockBeats p)
  else
    let s2 := if !late then s1 else if s.eng.first.isSome && !nums.isEmpty then s1.noteLate p nums
      else s1.count (Reg.SAP.P.CNT0.OVR p)
    if s.on (Reg.SAP.P.STATUS.FREQ p) then s2
    else match nums with
      | [] => s2
      | [n] => s2.deliverRx p n xs
      | n :: m :: _ =>
        let before := xs.map fun (k, _) => (k, (old.slot k).rxPrev)
        (s2.deliverRx p n before).deliverRx p m xs

/-! ### Transmit -/

/-- The staged sample of a transmit slot in engine path for the port frame of sample number m; a slot without a
route is silent (R26, R572). [DEDUCED, log 43] -/
def State.txEngine (s : State) (p m k : Nat) : Option Int :=
  match s.destEntry 2 (p * s.slotsM + k) with
  | none => some 0
  | some i => s.playAt i m

/-- One transmit slot: fade over an underrun, mask fade, start and stop mute (R584, R585). [DEDUCED, log 43] -/
def State.txSlot (s : State) (p k : Nat) (v : Option Int) : State × Int :=
  let no := (s.sp p).no
  let y := (s.sp p).slot k
  let und := if v.isSome then min one33 (y.und + 2 ^ 25) else max 0 (y.und - 2 ^ 28)
  let sent := v.getD y.sent
  let x1 := (toSample 63 (sent * und)).1
  let x := (toSample 63 (x1 * (s.maskRamp p k).val no 0 1)).1
  let (wait, r) := waitStep no s.zcFrames (featherLen (s.rd (Reg.SAP.P.MCTRL.MFLEN p))) y.txWait y.tx y.txPrev x
  (s.onSlot p k fun y => { y with und := und, sent := sent, txWait := wait, tx := r, txPrev := x },
    (toSample 63 (x * r.val no 0 1)).1)

/-- The bits of a slot on SAP_DO: the sample MSB first, the bits after it zero (R568). -/
def slotWord (sw dw : Nat) (x : Int) : Nat := ofInt dw (toIntW dw x) * 2 ^ (sw - dw)

/-- Send the active slots' samples; a masked-out slot is low or at high impedance (R573). -/
def State.drive (s : State) (p : Nat) (vs : List (Nat × Option Int)) : State :=
  let (s1, ws) := vs.foldl (fun (acc : State × List (Nat × Nat)) (k, v) =>
    let (b, y) := acc.1.txSlot p k v
    (b, acc.2 ++ [(k, slotWord (s.slotBits p) (s.dataBits p) y)])) (s, [])
  let off : Option Nat := if s.on (Reg.SAP.P.CFG.TXHIZ p) then none else some 0
  let out := (List.range (s.slotCount p)).map fun k => match ws.find? (fun e => e.1 == k) with
    | some e => some e.2
    | none => off
  s1.setSp p { s1.sp p with out := out, tail := ((s.sp p).out.getLast?).getD none }

/-- The transmit direction of a port frame on sample number m (R580 to R585, R588). -/
def State.portTx (s : State) (p m : Nat) : State :=
  let x := s.sp p
  let slots := s.active p
  if s.on (Reg.SAP.P.STATUS.FREQ p) then
    slots.foldl (fun (a : State) k => a.onSlot p k fun y => { y with und := 0 })
      (s.drive p (slots.map fun k => (k, some 0)))
  else if s.on (Reg.SAP.P.CFG.PATH p) then
    let s1 := (s.setSp p { x with txq := x.txq.drop 1, under := false }).raise (32 + p) (s.blockBeats p)
    match x.txq.head?, x.under with
    | some (st :: beats), false =>
      if st.toNat % 16 = s.rd (Reg.SAP.P.STATUS.TAG p) then
        let dw := s.dataBits p
        s1.drive p (slots.zipIdx.map fun (k, j) =>
          (k, some (fromInt dw (unpack (s.rd (Reg.SAP.P.CFG.PACK p)) dw beats j))))
      else (s1.drive p (slots.map fun k => (k, some 0))).count (Reg.SAP.P.ERR.TAGERR p)
    | _, _ => (s1.drive p (slots.map fun k => (k, none))).countIf (!slots.isEmpty) (Reg.SAP.P.CNT0.UND p)
  else
    let vs := slots.map fun k => (k, if x.under then none else s.txEngine p m k)
    ((s.setSp p { x with under := false }).drive p vs).countIf (vs.any fun e => e.2.isNone) (Reg.SAP.P.CNT0.UND p)

/-! ### Rows -/

/-- The sample number of a port frame's transmit samples: the instant of its frame start, or the one that a
slave's mapping gives it (R21, R589). -/
def State.txNum (s : State) (p fs : Nat) : Nat :=
  if s.on (Reg.SAP.P.CFG.ROLE p) then (fs + s.ts3 / 2) / s.ts3 else ((s.sp p).map.getD (ceilDiv fs s.ts3 + 3)) - 3

/-- The moving part of a port frame, in RUN or STOPPING. -/
def State.moveFrame (s : State) (p : Nat) (rx : List Word) (fs : Nat) : State :=
  let x := s.sp p
  let s1 := ((s.setSp p { x with no := x.no + 1 }).stepMask p fs).stepStop p
  let (s2, nums) := s1.place p fs
  let s3 := s2.portRx p nums rx
  (s3.portTx p (s2.txNum p fs)).endStop p

/-- A lost clock returns: the second consecutive frame start clears LOS (R587). -/
def State.clockBack (s : State) (p : Nat) : State :=
  let slots := s.active p
  let s1 := slots.foldl (fun (a : State) k => a.onSlot p k fun y => { y with und := 0 }) s
  ((s1.setSp p { s1.sp p with map := none }).put (Reg.SAP.P.STATUS.LOS p) false).post 0x0018 (le 1 p ++ le 1 0)

/-- PORT_FRAME: a frame start of port p at `fs` thirds of a ns of local time, with the bits of SAP_DI from it on, as far
as their bursts meet R22; a master's frame starts are the engine sample instants (R567, R570). -/
def doPortFrame (p : Nat) (rx : List Word) (fs : Nat) (s : State) : State :=
  if 32 ≤ p || s.sapState p == sapStopped || (s.on (Reg.SAP.P.CFG.ROLE p) && fs % s.ts3 != 0) then s
  else
    let s0 := s.reach (fs / 3)
    let x := s0.sp p
    let next := match x.last with
      | some l => decide (fs < l + 2 * s.ts3)
      | none => false
    let s1 := s0.setSp p { x with last := some fs }
    if s.sapState p = sapStarting then
      if s.on (Reg.SAP.P.CFG.ROLE p) then
        if fs / 3 < x.from_ then s1 else (s1.sapEnter p).moveFrame p rx fs
      else if next then (s1.sapEnter p).moveFrame p rx fs else s1
    else if s.on (Reg.SAP.P.STATUS.LOS p) then
      if next then (s1.clockBack p).moveFrame p rx fs else s1
    else s1.moveFrame p rx fs

/-- SLOT_UNDERRUN: a slot's sample is not in the port buffer 2 us before the next frame start (R584).
[DEDUCED, log 43] -/
def doUnderrun (p : Nat) (s : State) : State :=
  if 32 ≤ p || s.sapState p < sapRun then s else s.setSp p { s.sp p with under := true }

/-- Whether port p has seen no frame start for 2 port-frame periods (R587). -/
def State.noClock (s : State) (p : Nat) : Bool :=
  decide (((s.sp p).last.getD 0) + 2 * s.ts3 ≤ s.now3)

/-- SAP_LOSS_OF_CLOCK: no frame start for 2 port-frame periods (R587). -/
def doLossOfClock (p : Nat) (s : State) : State :=
  if 32 ≤ p || s.sapState p < sapRun || s.on (Reg.SAP.P.CFG.ROLE p) || s.on (Reg.SAP.P.STATUS.LOS p) || !s.noClock p then s
  else
    let s1 := s.setSp p { s.sp p with out := [], tail := none }
    let s2 := ((s1.put (Reg.SAP.P.STATUS.LOS p) true).count (Reg.SAP.P.ERR.LOSCNT p)).post 0x0018 (le 1 p ++ le 1 1)
    if s.sapState p = sapStopping then s2.sapHalt p else s2

/-- SAP_RATE_MEASUREMENT: the rate of the last 100 ms against the engine's, in 10^-9 (R588).
[DESIGN CHOICE, log 44] -/
def doRateMeasure (p : Nat) (ppb : Int) (s : State) : State :=
  if 32 ≤ p || s.sapState p < sapRun || s.on (Reg.SAP.P.CFG.ROLE p) then s
  else
    let s1 := s.wrInt (Reg.SAP.P.RATE.PPB p) ppb
    if 1000000 < ppb.natAbs then s1.put (Reg.SAP.P.STATUS.FREQ p) true
    else if ppb.natAbs ≤ 500000 then s1.put (Reg.SAP.P.STATUS.FREQ p) false
    else s1

/-- SLIP_LOG_WINDOW_END: a 1,000 ms window in which slips occurred writes one entry (R590). -/
def doSlipLog (p : Nat) (s : State) : State :=
  let x := s.sp p
  match x.slips with
  | none => s
  | some (t, d, r) =>
    if s.run < t + 1000000000 then s
    else (s.setSp p { x with slips := none }).siltWrite 0x0A01 (le 1 p ++ le 4 d ++ le 4 r)

/-- PORT_FRAME. -/
def execPortFrame (p : Nat) (rx : List Word) (fs : Nat) (s : State) : Out := .next (doPortFrame p rx fs s)
/-- SLOT_UNDERRUN. -/
def execSlotUnderrun (p : Nat) (s : State) : Out := .next (doUnderrun p s)
/-- SAP_LOSS_OF_CLOCK. -/
def execSapLossOfClock (p : Nat) (s : State) : Out := .next (doLossOfClock p s)
/-- SAP_RATE_MEASUREMENT. -/
def execSapRateMeasurement (p : Nat) (ppb : Int) (s : State) : Out := .next (doRateMeasure p ppb s)
/-- SLIP_LOG_WINDOW_END. -/
def execSlipLogWindowEnd (p : Nat) (s : State) : Out := .next (doSlipLog p s)

end Sys2Proof.Machine
end

