-- ==== Sys2Proof/Machine/Mod.lean ====
section
/-! DEFINITION. The modulators and the power-stage interface: carrier periods, group start and stage
faults, short circuits and probes, all-stop and sense calibration (chapter 12). -/
namespace Sys2Proof.Machine

/-! ### Channels and groups -/

def chOff : Nat := 0
def chBoot : Nat := 1
def chRun : Nat := 2
def chScOff : Nat := 3
def chProbe : Nat := 4
def chShort : Nat := 5
def chScWait : Nat := 6
def chStopped : Nat := 7

/-- What the model holds of a channel beside its registers. -/
def State.mc (s : State) (n : Nat) : ModCh := mapGetD s.modCh n {}
/-- All gate signals inactive (R595). -/
def ModCh.off (x : ModCh) : ModCh := { x with edges := [], err := [], k := 0, lower := false }
/-- Set it; every gate signal is inactive after a supply trip (R896, R897). -/
def State.setMc (s : State) (n : Nat) (x : ModCh) : State :=
  { s with modCh := mapSet s.modCh n (if s.pwr.tripped then x.off else x) }

/-- Channels of a group (R6). -/
def chansOf (g : Nat) : List Nat := (List.range 8).map fun q => 8 * g + q

/-- The value of a linear gain at an instant of running time. -/
def TimeRamp.val (r : TimeRamp) (t : Nat) : Rat :=
  if t ≤ r.from_ then (if r.len = 0 && t == r.from_ then r.g1 else r.g0)
  else if r.len ≤ ((t - r.from_ : Nat) : Rat) then r.g1
  else r.g0 + (r.g1 - r.g0) * (((t - r.from_ : Nat) : Rat) / r.len)

/-- Start a linear gain from its present value over a number of samples. -/
def State.rampTo (s : State) (r : TimeRamp) (g : Rat) (smp : Nat) : TimeRamp :=
  { g0 := r.val s.run, g1 := g, from_ := s.run, len := (smp * s.ts3 : Nat) / 3 }

/-- Whether an all-stop holds a group: the pin's or one that names it (R628, R631). -/
def State.stopped (s : State) (g : Nat) : Bool := s.on Reg.MOD.STOP.LATCHED || (s.mg g).stop

/-- Retries of a channel in the preceding 60 s. -/
def State.retries (s : State) (n : Nat) : List Nat :=
  (s.mc n).retries.filter fun t => decide (s.run < t + 60000000000)

/-- Whether the pilot is injected on a channel (R644, R659). -/
def State.pilotOn (s : State) (n : Nat) : Bool :=
  let r := (mapGetD s.tilCh n {}).record
  let cls := rdLe r 0 1
  decide (cls ≠ 0) && (rdLe r 1 1).testBit 2 && !(cls == 2 && s.rd Reg.TICK.CFG.RATE == 0 && s.on Reg.TICK.CFG.PLAN) &&
    (s.holds || !s.on Reg.GUARD.OUVCFG.EN) && (s.mc n).base == chRun && !s.stopped (n / 8)

/-- Show a channel's state (Table 12.1), retries, clip and SC_N, which reads 1 until the group runs (R940), and note an
instant without its pilot. -/
def State.showCh (s : State) (n : Nat) : State :=
  let x := s.mc n
  let st := if s.stopped (n / 8) then chStopped
    else if !s.on (Reg.MOD.CH.CFG.EN n) || s.rd (Reg.MOD.G.STAT.STATE (n / 8)) == 0 then chOff
    else x.base
  let clip := match x.clipAt with
    | some t => decide (s.run < t + 100000000)
    | none => false
  let s0 := if s.pilotOn n then s else s.setMc n { x with noPilot := s.run }
  (((s0.wr (Reg.MOD.CH.STAT.STATE n) st).wr (Reg.MOD.CH.STAT.RETRY n) (min 3 (s.retries n).length)).put
    (Reg.MOD.CH.STAT.CLIP n) clip).put (Reg.MOD.CH.STAT.SCN n) (x.scn || s.rd (Reg.MOD.G.STAT.STATE (n / 8)) == 0)

/-- Set a channel and show it. -/
def State.onCh2 (s : State) (n : Nat) (f : ModCh → ModCh) : State := (s.setMc n (f (s.mc n))).showCh n

/-- The level of SC_N that a row tells. -/
def State.scnAt (s : State) (n : Nat) (high : Bool) : State := s.onCh2 n fun x => { x with scn := high }

/-- Change every channel of a group. -/
def State.eachCh (s : State) (g : Nat) (f : Nat → ModCh → ModCh) : State :=
  (chansOf g).foldl (fun (a : State) n => a.onCh2 n (f n)) s

/-- Post a modulator event: index, code, status bits. -/
def State.modEvent (s : State) (i code : Nat) (status : Fld) : State :=
  s.post 0x0019 (le 1 i ++ le 1 code ++ le 4 (s.word status.off).toNat)

/-! ### Modulation (R598 to R606) -/

/-- KMAX at a carrier in 10 Hz units (R600). -/
def State.kMax (s : State) (g fc : Nat) : Rat :=
  1 - ((s.rd (Reg.MOD.G.CFG.MINPW g) + s.rd (Reg.MOD.G.CFG.DT g)) * fc * 10 : Nat) / 3200000000

/-- The carrier period in steps of 156.25 ps. -/
def periodSteps (fc : Nat) : Rat := (640000000 : Rat) / fc

/-- The intended edges of a period for a modulation k at position q: rise and fall of half-bridge A, then
of B (R598, R606). -/
def edgesFor (q : Nat) (p k : Rat) : List Rat :=
  let o := p * q / 8
  let a := (1 + k) / 2
  let b := (1 - k) / 2
  [o + p * (1 - a) / 2, o + p * (1 + a) / 2, o + p * (1 - b) / 2, o + p * (1 + b) / 2]

/-- An edge on the grid, and the error that the same edge carries into the next period (R604). -/
def quantise (x : Rat) : Int × Rat :=
  let q := roundDiv x.num x.den
  (q, x - q)

/-- The two gate signals of a half-bridge at a step of the period: HI from the rise plus the dead time to the
fall, LO before the rise and from the fall plus the dead time (R593, R594). -/
def legGates (dt : Nat) (rise fall t : Int) : Bool × Bool :=
  (decide (rise + dt ≤ t) && decide (t < fall), decide (t < rise) || decide (fall + dt ≤ t))

/-- The gate signals (HI, LO) of a channel's half-bridges A and B at a step of its carrier period (R593 to R595):
in BOOT the lower switches, off none. -/
def State.gates (s : State) (n : Nat) (t : Int) : List (Bool × Bool) :=
  let x := s.mc n
  let dt := s.rd (Reg.MOD.G.CFG.DT (n / 8))
  if x.lower then [(false, true), (false, true)]
  else match x.edges with
    | [a, b, c, d] => [legGates dt a b t, legGates dt c d t]
    | _ => [(false, false), (false, false)]

/-- The pilot's sample in Q5.30 at a local instant in 2^-40 ns: the record's level, or -40 dBFS and a default frequency
in a probe (R658, R666). [DESIGN CHOICE, log 84] -/
def State.pilotSample (s : State) (n t : Nat) (probe : Bool) : Int :=
  let r := (mapGetD s.tilCh n {}).record
  let cls := rdLe r 0 1
  let hz100 := if cls = 0 then 1500 else if cls = 2 then rdLe r 30 2 * 100 else rdLe r 30 2
  let lev : Nat := if probe then 40 else rdLe r 32 1
  roundFx 30 (mulFx (expFx (-(ln10Fx * lev / 20))) (sinTurn (hz100 * t) (100000000000 * tu)))

/-- The cubic Hermite polynomial between two samples with given slopes, at a position of 32 fraction bits, rounded to
Q5.30 (R601). [DESIGN CHOICE, log 84] -/
def hermite (y0 y1 m0 m1 : Int) (pos : Nat) : Int :=
  let p : Int := pos
  let u : Int := 2 ^ 32
  roundDiv ((2 * p ^ 3 - 3 * p ^ 2 * u + u ^ 3) * y0 + (p ^ 3 - 2 * p ^ 2 * u + p * u ^ 2) * m0 +
    (3 * p ^ 2 * u - 2 * p ^ 3) * y1 + (p ^ 3 - p ^ 2 * u) * m1) (2 ^ 96)

/-- The interpolated sample of a channel at a local instant in 2^-40 ns, with its presentation sample number: a
sample reaches the centre of a carrier period one sample period after its presentation (R26, R601). -/
def State.modSample (s : State) (n t : Nat) : Int × Nat :=
  let unit := s.ts3 * tu
  let m := t * 3 / unit
  let pos := (t * 3 % unit) * 2 ^ 32 / unit
  match s.destEntry 1 n with
  | none => (0, m - 1)
  | some i =>
    let at_ (j : Nat) := (s.playAt i j).getD 0
    let (m0, m1) := Config.hermiteSlopes [at_ (m - 1), at_ m, at_ (m + 1)]
    (hermite (at_ m) (at_ (m + 1)) m0 m1 pos, m - 1)

/-- The modulation index m of a channel for a period centred on a local instant (R602, R657), and under a fade to zero
modulation (R54, R620, R637, R671), which a probe takes too. -/
def State.modIndex (s : State) (n t : Nat) : Rat :=
  let x := s.mc n
  let g := n / 8
  let (smp, pn) := s.modSample n t
  let f := pn / s.spt - 2
  let k := pn % s.spt
  let kg : Rat := (((s.govern f).kgainRamp n).val f k s.spt : Rat) / 32768
  if x.base = chProbe then (s.pilotSample n t true : Rat) / 1073741824 * kg * x.fade.val s.run
  else
    let v := smp + (if s.pilotOn n then s.pilotSample n t false else 0)
    let fold : Rat := ((mapGetD s.tilCh n {}).f.val f k s.spt : Rat) / 8589934592
    let a : Rat := match x.rearm with
      | some t0 => min 1 (((s.run - t0 : Nat) : Rat) / 2000000000)
      | none => 1
    (v : Rat) / 1073741824 * kg * fold * a * (s.mg g).s.val s.run * x.fade.val s.run

/-- One channel's carrier period: off, its lower switches, or k and its edges (R597 to R604, R619, R631). -/
def State.chPeriod (s : State) (g q : Nat) (vrail : Rat) : State :=
  let n := 8 * g + q
  let x := s.mc n
  let y := s.mg g
  let done := s.on Reg.MOD.STOP.LATCHED || (y.stop && y.s.val s.run == 0)
  let live := (x.base == chRun || x.base == chProbe) && !done
  if !live then s.onCh2 n fun x => { x.off with
    lower := x.base == chBoot && !s.stopped g, boots := if x.base == chBoot then x.boots + 1 else 0 }
  else
    let p := periodSteps y.fc
    let centre := y.period + (p * 5 * tu * (4 + q) / 256).floor.toNat
    let m := s.modIndex n centre
    let loud := decide (107375 ≤ (s.modSample n centre).1.natAbs)
    let vnom : Rat := s.rd (Reg.MOD.G.RAIL.VNOM g)
    let ratio := if vrail = 0 then 2 else max (1 / 2) (min 2 (vnom / vrail))
    let k0 := m * ratio
    let km := s.kMax g y.fc
    let clip := decide (km < k0) || decide (k0 < -km)
    let k := max (-km) (min km k0)
    let es := (edgesFor q p k).zipIdx.map fun (e, j) => quantise (e + atD x.err j 0)
    let s1 := s.countIf clip (Reg.MOD.CH.CNT.CLIP n)
    s1.onCh2 n fun x => { x with
      k := k, edges := es.map fun e => e.1, err := es.map fun e => e.2, lower := false
      clipAt := if clip then some s.run else x.clipAt
      loudAt := if loud then s.run else x.loudAt }

/-- Rail measurements: the average of the last 1 ms and the lowest such average of 1,000 ms. -/
def State.measureRail (s : State) (g : Nat) (v : Rat) : State :=
  let x := s.mg g
  let recent := (x.recent.filter fun e => decide (s.run < e.1 + 1000000)) ++ [(s.run, v)]
  let avg := (recent.map fun e => e.2).sum / recent.length
  let kept := x.avgs.filter fun e => decide (s.run < e.1 + 1000000000)
  let avgs := match kept.getLast? with
    | some e => if s.run < e.1 + 1000000 then kept else kept ++ [(s.run, avg)]
    | none => [(s.run, avg)]
  let low := avgs.foldl (fun a e => min a e.2) avg
  let uv : Rat := s.rd (Reg.MOD.G.RAILLIM.UV g)
  let ov : Rat := s.rd (Reg.MOD.G.RAILLIM.OV g)
  let s1 := s.setMg g { x with
    vrail := v, recent := recent, avgs := avgs
    inAt := if uv ≤ v && v ≤ ov then some (x.inAt.getD s.run) else none
    underAt := if v < uv then some (x.underAt.getD s.run) else none }
  (s1.wrSat (Reg.MOD.G.MEAS.VRAIL g) (quot avg.num avg.den).toNat).wrSat (Reg.MOD.G.MEAS.VMIN g)
    (quot low.num low.den).toNat

/-- Whether something that a mark records has lasted a number of ns of running time. -/
def State.lasted (s : State) (since : Option Nat) (ns : Nat) : Bool := match since with
  | some t => decide (t + ns ≤ s.run)
  | none => false

/-- The instant since which no stage fault of a group stands (R620). -/
def State.noteClear (s : State) (g : Nat) : State :=
  let x := s.mg g
  let bad := decide ((s.rd (Reg.MOD.G.RAILLIM.OV g) : Rat) < x.vrail) || s.lasted x.underAt 1000000 ||
    s.on (Reg.MOD.G.STAT.OTF g) || s.on (Reg.MOD.G.STAT.UVLO g) || s.on (Reg.MOD.G.STAT.GDF g)
  s.setMg g { x with clearAt := if bad then none else some (x.clearAt.getD s.run) }

/-- The weight of bit i of the 64 newest in the third-order sinc filter: three averages of 22 bits in a row span 64
(R605). [DEDUCED, log 84] -/
def sinc3 (i : Nat) : Nat :=
  ((List.range 22).map fun a => ((List.range 22).filter fun b => decide (a + b ≤ i && i < a + b + 22)).length).sum

/-- The density of a rail bitstream of which `bits` holds the 64 newest, bit 0 the newest, in 1/10,648 (R605). -/
def railDensity (bits : Nat) : Nat := ((List.range 64).map fun i => if bits.testBit i then sinc3 i else 0).sum

/-- The local instant in 2^-40 ns at which a group's next carrier period begins, where one runs. -/
def ModG.due (x : ModG) : Nat := x.period + 100000000 * tu / x.fc

/-- CARRIER_PERIOD: a period of group g begins; `bits` holds the 64 newest bits of RAIL_SNS.  A period does not begin
before the one before it ends (R599, R605). -/
def doCarrier (g bits : Nat) (s : State) : State :=
  if 16 ≤ g || s.rd (Reg.MOD.G.STAT.STATE g) == 0 then s
  else
    let x := s.mg g
    let y := match x.next with
      | some (fc, t) => if t ≤ s.tick || x.fc == 0 then { x with fc := fc, next := none } else x
      | none => x
    if y.fc = 0 || (x.fc ≠ 0 && decide (s.time.now < x.due)) then s
    else
      let v : Rat := if s.on (Reg.MOD.G.STAT.RAILFAIL g) then x.vrail
        else (s.rd (Reg.MOD.G.RAIL.RAILFS g) * railDensity bits : Nat) / 10648
      let onTime := x.fc ≠ 0 && decide (s.time.now < x.due + 100000000 * tu / x.fc)
      let s1 := ((s.setMg g { y with
        period := if onTime then x.due else s.time.now, boot := y.boot.map fun k => k + 1 }).measureRail g v).noteClear g
      (List.range 8).foldl (fun (a : State) q => a.chPeriod g q v) s1

/-! ### Group start and stage faults (R618 to R620) -/

/-- Whether the switching of a group's channels has been started and no stage fault holds it. -/
def State.driving (s : State) (g : Nat) : Bool := s.rd (Reg.MOD.G.STAT.STATE g) == 2 || (s.mg g).boot.isSome

/-- Step 3 of R619: the enabled channels enter BOOT; latched ones stay as they are (R634). -/
def State.groupBoot (s : State) (g : Nat) : State :=
  ((s.wr (Reg.MOD.G.STAT.STATE g) 1).setMg g { s.mg g with boot := some 0 }).eachCh g fun n x =>
    if chScOff ≤ x.base then x
    else if s.on (Reg.MOD.CH.CFG.EN n) && !s.stopped g then { x.off with base := chBoot, lower := true }
    else { x.off with base := chOff }

/-- Whether R618 refuses an enable. -/
def State.groupBad (s : State) (g : Nat) : Bool :=
  let above := s.on (Reg.MOD.G.CFG.ABOVE g)
  let top := candHz above (min (topIndex above) (s.rd (Reg.MOD.G.CAR.IMAX g)))
  s.rd (Reg.MOD.G.RAIL.VNOM g) == 0 || s.rd (Reg.MOD.G.RAIL.RAILFS g) == 0 ||
    decide (s.rd (Reg.MOD.G.RAILLIM.OV g) ≤ s.rd (Reg.MOD.G.RAILLIM.UV g)) ||
    decide (s.kMax g (top / 10) < 1 / 2)

/-- A write of EN = 1: refused under R618, also where the group runs already; else a group that is off starts (R619
step 1). -/
def groupOn (g : Nat) (s : State) : State :=
  if s.groupBad g then s.put (Reg.MOD.G.STAT.CFGERR g) true
  else if s.rd (Reg.MOD.G.STAT.STATE g) ≠ 0 then s.put (Reg.MOD.G.STAT.CFGERR g) false
  else
    let s1 := ((s.put (Reg.MOD.G.CFG.EN g) true).put (Reg.MOD.G.STAT.CFGERR g) false).wr (Reg.MOD.G.STAT.STATE g) 1
    let s2 := s1.setMg g { s1.mg g with boot := none, inAt := none, underAt := none, clearAt := none }
    (s2.chooseCarrier g s.tick).eachCh g fun _ x => if chScOff ≤ x.base then x else { x.off with base := chOff }

/-- A write of EN = 0: the group's channels are off. -/
def groupOff (g : Nat) (s : State) : State :=
  let s1 := (s.put (Reg.MOD.G.CFG.EN g) false).wr (Reg.MOD.G.STAT.STATE g) 0
  let y := s1.mg g
  (s1.setMg g { y with fc := 0, next := none, rel := false, boot := none, s := if y.stop then y.s else {} }).eachCh g fun _ x =>
    if x.base = chProbe then { x.off with base := chScOff, due := true }
    else if chScOff ≤ x.base then x.off
    else { x.off with base := chOff, rearm := none }

/-- A channel's EN bit is written: on, it starts with its group from BOOT; off, it is driven off. -/
def chanEnable (n : Nat) (on : Bool) (s : State) : State :=
  let g := n / 8
  let x := s.mc n
  if !on then s.setMc n (if chScOff ≤ x.base && x.base != chProbe then x.off else { x.off with base := chOff, rearm := none })
    |>.showCh n
  else if s.driving g && x.base == chOff && !s.stopped g then
    s.onCh2 n fun x => { x.off with base := chBoot, lower := true }
  else s.showCh n

/-- RAIL_QUALIFIED: VRAIL has lain between UV and OV for 10 ms (R619 steps 2 and 3). -/
def doRailQualified (g : Nat) (s : State) : State :=
  if 16 ≤ g || s.rd (Reg.MOD.G.STAT.STATE g) ≠ 1 || (s.mg g).boot.isSome || !s.lasted (s.mg g).inAt 10000000 then s
  else s.groupBoot g

/-- The gain that a group's channels ramp back to: zero modulation while their sentinel is down, or restarts from there
(R671), and while a stage fault holds the group (R620). -/
def State.fadeGoal (s : State) (g : Nat) : Rat :=
  let st := s.rd (Reg.TILCA.G.GSTAT.STATE g)
  if st = 2 || (st = 1 && (mapGetD s.tilG g {}).asked) || s.rd (Reg.MOD.G.STAT.STATE g) = 3 then 0 else 1

/-- That gain held from now on. -/
def State.fadeAt (s : State) (g : Nat) : TimeRamp := { g0 := s.fadeGoal g, g1 := s.fadeGoal g, from_ := s.run }

/-- Whether a channel of a group has spent its BOOT carrier periods. -/
def State.booted (s : State) (g n : Nat) : Bool :=
  (s.mc n).base == chBoot && decide (s.rd (Reg.MOD.G.CFG.BOOT g) ≤ (s.mc n).boots)

/-- BOOT_END: the channels that have spent the BOOT periods enter RUN at zero modulation and ramp in; probes that fell
due run (R619 step 4, R633, R634). -/
def doBootEnd (g : Nat) (s : State) : State :=
  let done := match (s.mg g).boot with
    | some k => decide (s.rd (Reg.MOD.G.CFG.BOOT g) ≤ k)
    | none => false
  if 16 ≤ g || !s.driving g || s.stopped g || !(done || (chansOf g).any (s.booted g)) then s
  else
    let x := s.mg g
    let s1 := (if done then s.wr (Reg.MOD.G.STAT.STATE g) 2 else s).setMg g { x with
      rel := false, boot := if done then none else x.boot
      s := if x.rel then { g0 := 0, g1 := 1, from_ := s.run, len := (s.rd Reg.MOD.STOP.RELRAMP * 1000000 : Nat) } else x.s }
    s1.eachCh g fun n y =>
      if y.due then { y with base := chProbe, due := false, offAt := s.run, fade := s.fadeAt g }
      else if s.booted g n then
        { y with
          base := chRun, lower := false
          fade := if x.rel then s.fadeAt g
            else s.rampTo { g0 := 0, g1 := 0 } (s.fadeGoal g) 256 }
      else y

/-- The channels of a group fade to zero modulation, or ramp back (R54, R620, R671). -/
def State.fadeGroup (s : State) (g : Nat) (goal : Rat) (smp : Nat) : State :=
  s.eachCh g fun _ x => { x with fade := s.rampTo x.fade goal smp }

/-- The group is held by a stage fault. -/
def State.holdGroup (s : State) (g : Nat) : State :=
  (s.wr (Reg.MOD.G.STAT.STATE g) 3).setMg g { s.mg g with boot := none, clearAt := none }

/-- A stage fault other than undervoltage: the group is driven off (R620). -/
def State.stageOff (s : State) (g : Nat) : State :=
  (s.holdGroup g).eachCh g fun _ x =>
    if x.base = chProbe then { x.off with base := chScOff, due := true }
    else if chScOff ≤ x.base then x.off
    else { x.off with base := chOff, rearm := none }

/-- Undervoltage: the channels that modulate fade to zero modulation; those in BOOT go off (R620). -/
def State.underOff (s : State) (g : Nat) : State :=
  ((s.holdGroup g).fadeGroup g 0 32).eachCh g fun _ x => if x.base = chBoot then { x.off with base := chOff } else x

/-- RAIL_UNDERVOLTAGE: VRAIL has lain below UV for 1 ms (R620). -/
def doUndervoltage (g : Nat) (s : State) : State :=
  if 16 ≤ g || s.rd (Reg.MOD.G.STAT.STATE g) == 0 || s.on (Reg.MOD.G.STAT.UV g) || !s.lasted (s.mg g).underAt 1000000 then s
  else
    let s1 := s.put (Reg.MOD.G.STAT.UV g) true
    (if s.rd (Reg.MOD.G.STAT.STATE g) = 3 then s1 else s1.underOff g).modEvent g 2 (Reg.MOD.G.STAT.STATE g)

/-- RAIL_OVERVOLTAGE: VRAIL lies above OV (R620). -/
def doOvervoltage (g : Nat) (s : State) : State :=
  if 16 ≤ g || s.rd (Reg.MOD.G.STAT.STATE g) == 0 || s.on (Reg.MOD.G.STAT.OV g) ||
      decide ((s.mg g).vrail ≤ s.rd (Reg.MOD.G.RAILLIM.OV g)) then s
  else ((s.put (Reg.MOD.G.STAT.OV g) true).stageOff g).modEvent g 2 (Reg.MOD.G.STAT.STATE g)

/-- One bit into the CRC-8 of polynomial 0x07 (R616). -/
def crc8Bit (c : Nat) (b : Bool) : Nat :=
  let t := c.testBit 7 != b
  let c1 := c * 2 % 256
  if t then c1 ^^^ 0x07 else c1

/-- The CRC-8 of bits 31 to 8 of a stage status frame (R616). -/
def crc8Of (v : Nat) : Nat := (List.range 24).foldl (fun c i => crc8Bit c (v.testBit (31 - i))) 0

/-- STAGE_STATUS_FRAME (R616, R617, R620). -/
def doStageFrame (g : Nat) (bits : Word) (s : State) : State :=
  let v := bits.toNat
  if 16 ≤ g || v / 2 ^ 28 ≠ 0xA || crc8Of v ≠ v % 256 then s
  else
    let s0 := (((((s.wr (Reg.MOD.G.STAT.TEMP g) (v / 2 ^ 18 % 1024)).put (Reg.MOD.G.STAT.OTW g) (v.testBit 17)).put
      (Reg.MOD.G.STAT.OTF g) (v.testBit 16)).put (Reg.MOD.G.STAT.UVLO g) (v.testBit 15)).put
      (Reg.MOD.G.STAT.GDF g) (v.testBit 14)).put (Reg.MOD.G.STAT.STATLOS g) false
    let s1 := (s0.setMg g { s0.mg g with frameAt := s.run }).noteClear g
    let st := s.rd (Reg.MOD.G.STAT.STATE g)
    if (v.testBit 16 || v.testBit 15 || v.testBit 14) && (st == 1 || st == 2) then
      (s1.stageOff g).modEvent g 2 (Reg.MOD.G.STAT.STATE g)
    else if (v.testBit 16 || v.testBit 15 || v.testBit 14) && st == 3 then
      let fresh := (v.testBit 16 && !s.on (Reg.MOD.G.STAT.OTF g)) || (v.testBit 15 && !s.on (Reg.MOD.G.STAT.UVLO g)) ||
        (v.testBit 14 && !s.on (Reg.MOD.G.STAT.GDF g))
      if fresh then (s1.stageOff g).modEvent g 2 (Reg.MOD.G.STAT.STATE g) else s1.stageOff g
    else s1

/-- STAGE_STATUS_TIMEOUT: no valid frame for 10 ms (R617). -/
def doStatusTimeout (g : Nat) (s : State) : State :=
  if 16 ≤ g || s.on (Reg.MOD.G.STAT.STATLOS g) || !s.lasted (some (s.mg g).frameAt) 10000000 then s
  else (s.put (Reg.MOD.G.STAT.STATLOS g) true).modEvent g 4 (Reg.MOD.G.STAT.STATE g)

/-- Channels whose probe an all-stop or a restart after a stage fault cuts probe anew at the release or after BOOT; their
drive ends with the present carrier period (R620, R631, R634). -/
def State.cutProbes (s : State) (g : Nat) : State :=
  s.eachCh g fun _ x => if x.base = chProbe then { x with base := chScOff, due := true } else x

/-- STAGE_FAULT_RESTART: every fault has been clear for 100 ms (R620). -/
def doFaultRestart (g : Nat) (s : State) : State :=
  if 16 ≤ g || s.rd (Reg.MOD.G.STAT.STATE g) ≠ 3 || !s.lasted (s.mg g).clearAt 100000000 then s
  else
    let s1 := (s.put (Reg.MOD.G.STAT.UV g) false).put (Reg.MOD.G.STAT.OV g) false
    (s1.cutProbes g).groupBoot g

/-! ### Sense inputs (R615) -/

/-- The status bit of a sense stream: 0 ISNS and 1 VSNS of channel n, 2 RAIL_SNS of group n. -/
def senseBit (n stream : Nat) : Option Fld :=
  if stream = 0 && n < 128 then some (Reg.MOD.CH.STAT.ISNSF n)
  else if stream = 1 && n < 128 then some (Reg.MOD.CH.STAT.VSNSF n)
  else if stream = 2 && n < 16 then some (Reg.MOD.G.STAT.RAILFAIL n)
  else none

/-- Nanoseconds of 256 bits of a sense stream, rounded up (R613, R615). -/
def stuckNs : Nat := 10417

/-- A group's VRAIL is the last one measured before its stream stuck, 256 bits ago (R615). -/
def State.railBefore (s : State) (g : Nat) : State :=
  let x := s.mg g
  match (x.recent.filter fun e => decide (e.1 + stuckNs ≤ s.run)).getLast? with
  | some e => s.setMg g { x with vrail := e.2 }
  | none => s

/-- SENSE_STUCK. -/
def doSenseStuck (n stream : Nat) (s : State) : State :=
  match senseBit n stream with
  | none => s
  | some f =>
    if s.on f then s
    else
      let s1 := (s.put f true).modEvent n 1 f
      if stream = 2 then s1.railBefore n else s1.count (Reg.MOD.CH.CNT.SNSF n)

/-- SENSE_STUCK_CLEAR. -/
def doSenseClear (n stream : Nat) (s : State) : State :=
  match senseBit n stream with
  | none => s
  | some f => s.put f false

/-! ### Short circuits (R621 to R627, R665, R666) -/

/-- SC_N_FALL. -/
def doScFall (n : Nat) (s : State) : State :=
  if 128 ≤ n then s
  else
    let shown := s.rd (Reg.MOD.CH.STAT.STATE n)
    let s1 := (s.scnAt n false).count (Reg.MOD.CH.CNT.SC n)
    let x := s1.mc n
    let acts := (shown == chBoot || shown == chRun || shown == chProbe)
    let entry := le 1 n ++ le 1 shown ++ le 4 (s.retries n).length
    if acts && s.on (Reg.MOD.G.CFG.SCEN (n / 8)) then
      let base := if 3 ≤ (s.retries n).length then chScWait else chScOff
      (s1.onCh2 n fun _ => { x.off with base := base, rearm := none, offAt := s.run, retries := s.retries n }).log
        0x0308 entry
    else if acts then s1
    else s1.log 0x0308 entry

/-- Start a probe, or note it as due while the outputs may not be driven (R623, R634). -/
def State.probe (s : State) (n : Nat) : State :=
  if s.stopped (n / 8) || !s.driving (n / 8) then s.onCh2 n fun x => { x with due := true }
  else s.onCh2 n fun x => { x.off with base := chProbe, due := false, offAt := s.run, fade := s.fadeAt (n / 8) }

/-- PROBE_START: SC_N is high at a probe instant of a channel in SC_OFF, 500 ms or more after it went off (R623).
[DEDUCED, log 46] -/
def doProbeStart (n : Nat) (s : State) : State :=
  if 128 ≤ n || (s.mc n).base ≠ chScOff || !s.lasted (some (s.mc n).offAt) 500000000 then s
  else (s.scnAt n true).probe n

/-- SC_WAIT_EXPIRY: the oldest retry is 60 s old, and SC_N is high (R626). [DEDUCED, log 46] -/
def doWaitExpiry (n : Nat) (s : State) : State :=
  if 128 ≤ n || (s.mc n).base ≠ chScWait || !s.lasted (some ((s.mc n).retries.headD 0)) 60000000000 then s
  else ((s.scnAt n true).onCh2 n fun x => { x with base := chScOff, retries := x.retries.drop 1 }).probe n

/-- |Z| of a window in mΩ: amplitudes in 0.1 mV and 0.1 mA. -/
def zOf (w : PilotWindow) : Nat := (quot (w.vAmp * 1000 : Nat) w.iAmp).toNat

/-- Whether |V| and |I| meet the minima of R661. -/
def State.vMeets (s : State) (w : PilotWindow) : Bool := decide (s.rd (Reg.MOD.G.SNS.VSFS (w.ch / 8)) ≤ w.vAmp)
def State.iMeets (s : State) (w : PilotWindow) : Bool := decide (s.rd (Reg.MOD.G.SNS.ISFS (w.ch / 8)) ≤ 10 * w.iAmp)

/-- PROBE_RESULT (R624, R625, R666). [DEDUCED, log 46] -/
def doProbeResult (w : PilotWindow) (s : State) : State :=
  let n := w.ch
  if 128 ≤ n || (s.mc n).base ≠ chProbe || !s.lasted (some (s.mc n).offAt) 1000000000 then s
  else
    let entry (o : Nat) := le 1 n ++ le 4 (zOf w) ++ le 1 (Config.probeOutcome o)
    if !s.vMeets w then
      (s.onCh2 n fun x => { x.off with base := chScOff, offAt := s.run }).log 0x0309 (entry 2)
    else if s.iMeets w && decide (w.vAmp < w.iAmp) then
      let s1 := s.onCh2 n fun x => { x.off with base := chShort }
      (s1.log 0x0309 (entry 1)).modEvent n 3 (Reg.MOD.CH.STAT.STATE n)
    else
      (s.onCh2 n fun x => { x with
        base := chRun, rearm := some s.run, retries := s.retries n ++ [s.run]
        fade := s.fadeAt (n / 8) }).log 0x0309 (entry 0)

/-- REARM_RAMP_END (R625). -/
def doRearmEnd (n : Nat) (s : State) : State :=
  if 128 ≤ n || !s.lasted (s.mc n).rearm 2000000000 then s else s.onCh2 n fun x => { x with rearm := none }

/-- SC_CLEAR (R627). -/
def scClearRes (d : Desc) (s : State) : Res :=
  let n := d.a0
  if 128 ≤ n then badDesc s 48
  else
    let b := (s.mc n).base
    if b = chScOff || b = chShort || b = chScWait then
      okRes ((s.onCh2 n fun x => { x with base := chScOff, retries := [] }).probe n)
    else failRes s stRefused

/-! ### All-stop (R628 to R635) -/

/-- The local instant in 2^-40 ns at which a group's next carrier period begins; now, where none runs. -/
def State.nextPeriod (s : State) (g : Nat) : Nat :=
  let x := s.mg g
  if x.fc = 0 then s.time.now else max s.time.now x.due

/-- Groups of a mask. -/
def groupsIn (mask : Nat) : List Nat := (List.range 16).filter mask.testBit

/-- The ring all-stop (R631, R632). -/
def allstopRes (d : Desc) (s : State) : Res :=
  let gs := groupsIn d.a0
  if gs.isEmpty then badDesc s 48
  else
    let code := d.a1 / 16 % 16
    let long := decide (14 ≤ code)
    let n := if d.a1 % 2 = 1 || long then 0 else featherLen code
    let at_ := gs.foldl (fun a g => max a (s.nextPeriod g)) s.time.now
    let s1 := ((s.put Reg.MOD.STOP.RING true).count Reg.MOD.CNT.RINGSTOP)
    let s2 := gs.foldl (fun (a : State) g =>
      let x := a.mg g
      let t := s.run + (s.nextPeriod g - s.time.now) / tu
      let r : TimeRamp := { g0 := x.s.val t, g1 := 0, from_ := t, len := (n * s.ts3 : Nat) / 3 }
      (a.setMg g { x with stop := true, rel := false, s := r }).cutProbes g) s1
    let ns := at_ / tu
    okRes s2 (le 6 (ns / 1000000000) ++ le 4 (ns % 1000000000) ++ le 1 (if long then 1 else 0))

/-- ALLSTOP: on CMD0 the hardware decoder acts whatever SESSION, SEQ and MAC hold; on another ring it is no
command (R709). -/
def doAllstop (d : Desc) (s : State) : State :=
  if s.ready 0x50 d then
    let s1 := s.start 0x50 d
    let res := if d.ring = 0 then allstopRes d s1 else Res.permit s1 0x50 0 d (fun t => badDesc t 0)
    pumpUnknown 4 d.ring (s1.settle d res)
  else s.showFull d.ring

/-- A group leaves its all-stops: its channels restart from step 3 of R619 with the release ramp, and probes that fell
due run (R633, R634). -/
def State.leaveStop (s : State) (g : Nat) : State :=
  let run := s.driving g
  let b := s.setMg g (if s.rd (Reg.MOD.G.STAT.STATE g) = 0 then { s.mg g with stop := false, s := {} }
    else { s.mg g with stop := false, rel := true, s := { g0 := 0, g1 := 0, from_ := s.run } })
  let c := b.eachCh g fun _ x =>
    if run && x.due then { x.off with base := chProbe, due := false, offAt := s.run, fade := s.fadeAt g }
    else if chScOff ≤ x.base then x.off else { x.off with base := chOff }
  if run then c.groupBoot g else c

/-- End every all-stop in force (R633). -/
def State.endStops (s : State) : State :=
  let gs := (List.range 16).filter s.stopped
  let s1 := (s.put Reg.MOD.STOP.LATCHED false).put Reg.MOD.STOP.RING false
  gs.foldl State.leaveStop s1

/-- ALLSTOP_RELEASE. -/
def releaseRes (_ : Desc) (s : State) : Res :=
  if s.on Reg.MOD.STOP.PIN then failRes s stRefused else okRes s.endStops

/-- MUTE_N_FALL: held low for `held` ns (R628, R629, R634). -/
def doMuteFall (held : Nat) (s : State) : State :=
  if held < s.rd Reg.MOD.STOP.FILT then s
  else
    let s1 := ((s.put Reg.MOD.STOP.PIN true).put Reg.MOD.STOP.LATCHED true).count Reg.MOD.CNT.PINSTOP
    (List.range 16).foldl (fun (a : State) g => (a.cutProbes g).eachCh g fun _ x => x.off) s1

/-- MUTE_N_RISE. [DEDUCED, log 46] -/
def doMuteRise (s : State) : State :=
  if s.on Reg.MOD.STOP.PIN then { s.put Reg.MOD.STOP.PIN false with muteRise := s.run } else s

/-- PIN_ALLSTOP_END: with LATCH 0, 10 ms after MUTE_N returned high (R630).  A ring all-stop stays in force.
[DEDUCED, log 46] -/
def doPinEnd (s : State) : State :=
  if s.on Reg.MOD.STOP.LATCH || s.on Reg.MOD.STOP.PIN || !s.on Reg.MOD.STOP.LATCHED ||
      !s.lasted (some s.muteRise) 10000000 then s
  else ((List.range 16).filter fun g => !(s.mg g).stop).foldl State.leaveStop (s.put Reg.MOD.STOP.LATCHED false)

/-! ### Sense calibration (R636, R637) -/

/-- SENSE_CAL. -/
def senseCalRes (d : Desc) (s : State) : Res :=
  let n := d.a0
  if 128 ≤ n then badDesc s 48
  else if 60 < d.a1 then badDesc s 52
  else if s.rd (Reg.MOD.CH.STAT.STATE n) ≠ chRun then failRes s stRefused
  else if d.a2 % 2 = 1 then longRes (s.onCh2 n fun x => { x with fade := s.rampTo x.fade 0 32 })
  else longRes s

/-- Whether a command of a ring has run for a number of ns. -/
def State.ranFor (s : State) (r ns : Nat) : Bool := s.lasted ((s.ring r).run.map fun x => x.since) ns

/-- SENSE_CALIBRATION: the offsets are measured, once the channel has stayed below -80 dBFS for 2 s, or with FORCE after
its fade and 20 ms of measurement, and the command completes (R636, R637). -/
def doCalibration (n : Nat) (i v : Int) (s : State) : State :=
  match s.ringOf 0x53 (fun d => d.a0 == n) with
  | none => s
  | some r =>
    let force := match (s.ring r).run with
      | some x => x.d.a2 % 2 == 1
      | none => false
    let ripe := if force then s.ranFor r ((32 * s.ts3 + 2) / 3 + 20000000) else s.lasted (some (s.mc n).loudAt) 2000000000
    if !ripe then s
    else
    let s1 := s.onCh2 n fun x => { x with
      iOfs := i, vOfs := v, fade := if force then s.rampTo { g0 := 0, g1 := 0 } (s.fadeGoal (n / 8)) 256 else x.fade }
    s1.finish r stOk [] []

/-- SENSE_CAL_TIMEOUT: the wait has passed (R636). -/
def doCalTimeout (n : Nat) (s : State) : State :=
  match s.ringOf 0x53 (fun d => d.a0 == n && d.a2 % 2 == 0) with
  | none => s
  | some r =>
    let wait := match (s.ring r).run with
      | some x => x.d.a1 * 1000000000
      | none => 0
    if s.ranFor r wait then s.finish r stDeferred [] [] else s

/-! ### At a weir flip -/

/-- Samples of a modulator destination: while no frame is staged the last sample fades over 32 smp, and once
frames arrive again they ramp back over 256 smp from the gain reached, also where that is not zero: R54 names
neither the sample that fades nor that case. [DESIGN CHOICE, log 78] -/
def fadeSamples : List (Option Int) → Int → Int → Int × Int × List Int
  | [], g, last => (g, last, [])
  | x :: r, g, last =>
    let g1 := if x.isSome then min one33 (g + 2 ^ 25) else max 0 (g - 2 ^ 28)
    let v := x.getD last
    let (g2, l2, ys) := fadeSamples r g1 v
    (g2, l2, (mul33 v g1).1 :: ys)

/-- The blocks of a frame to release: those staged, with the modulator destinations' fades (R54).  `all` holds what
the frame has, `miss` the entries not staged.  The skim path does not pass the release buffers, so that a
block's skim weights stay, and a frame without a block for an entry counts as arrived. -/
def State.fadeMods (s : State) (all : List DestBlock) (miss : List Nat) : State × List DestBlock :=
  let base := s.rd (Reg.GRAPH.RTPART.BASE 1)
  let mods := (List.range (s.rd (Reg.GRAPH.RTPART.COUNT 1))).map fun d => base + d
  let rest := (all.filter fun b => !mods.contains b.entry).filterMap fun b =>
    if !miss.contains b.entry then some b
    else if b.skim.isEmpty then none else some { b with samples := [] }
  mods.foldl (fun (acc : State × List DestBlock) i =>
    let (a, bs) := acc
    let (g, last) := mapGetD a.modFade i (one33, 0)
    match all.find? fun b => b.entry == i with
    | none =>
      if g = one33 || miss.contains i then acc
      else ({ a with modFade := mapSet a.modFade i (min one33 (g + a.spt * 2 ^ 25), 0) }, bs)
    | some x =>
      let xs := x.samples.map fun v => if miss.contains i then none else some v
      let (g1, l1, ys) := fadeSamples xs g last
      ({ a with modFade := mapSet a.modFade i (g1, l1) }, bs ++ [{ x with samples := ys }])) (s, rest)

/-- Retries and clip bits as time passes. -/
def State.modTick (s : State) : State := (s.modCh.map fun e => e.1).foldl (fun (a : State) n => a.showCh n) s

/-! ### Rows -/

/-- RAIL_QUALIFIED. -/
def execRailQualified (g : Nat) (s : State) : Out := .next (doRailQualified g s)
/-- BOOT_END. -/
def execBootEnd (g : Nat) (s : State) : Out := .next (doBootEnd g s)
/-- CARRIER_PERIOD. -/
def execCarrierPeriod (g bits : Nat) (s : State) : Out := .next (doCarrier g bits s)
/-- SC_N_FALL. -/
def execScNFall (n : Nat) (s : State) : Out := .next (doScFall n s)
/-- PROBE_START. -/
def execProbeStart (n : Nat) (s : State) : Out := .next (doProbeStart n s)
/-- PROBE_RESULT. -/
def execProbeResult (w : PilotWindow) (s : State) : Out := .next (doProbeResult w s)
/-- REARM_RAMP_END. -/
def execRearmRampEnd (n : Nat) (s : State) : Out := .next (doRearmEnd n s)
/-- SC_WAIT_EXPIRY. -/
def execScWaitExpiry (n : Nat) (s : State) : Out := .next (doWaitExpiry n s)
/-- MUTE_N_FALL. -/
def execMuteNFall (held : Nat) (s : State) : Out := .next (doMuteFall held s)
/-- MUTE_N_RISE. -/
def execMuteNRise (s : State) : Out := .next (doMuteRise s)
/-- PIN_ALLSTOP_END. -/
def execPinAllstopEnd (s : State) : Out := .next (doPinEnd s)
/-- RAIL_UNDERVOLTAGE. -/
def execRailUndervoltage (g : Nat) (s : State) : Out := .next (doUndervoltage g s)
/-- RAIL_OVERVOLTAGE. -/
def execRailOvervoltage (g : Nat) (s : State) : Out := .next (doOvervoltage g s)
/-- STAGE_STATUS_FRAME. -/
def execStageStatusFrame (g : Nat) (bits : Word) (s : State) : Out := .next (doStageFrame g bits s)
/-- STAGE_STATUS_TIMEOUT. -/
def execStageStatusTimeout (g : Nat) (s : State) : Out := .next (doStatusTimeout g s)
/-- STAGE_FAULT_RESTART. -/
def execStageFaultRestart (g : Nat) (s : State) : Out := .next (doFaultRestart g s)
/-- SENSE_STUCK. -/
def execSenseStuck (n stream : Nat) (s : State) : Out := .next (doSenseStuck n stream s)
/-- SENSE_STUCK_CLEAR. -/
def execSenseStuckClear (n stream : Nat) (s : State) : Out := .next (doSenseClear n stream s)
/-- ALLSTOP. -/
def execAllstop (d : Desc) (s : State) : Out := .next (doAllstop d s)
/-- ALLSTOP_RELEASE. -/
def execAllstopRelease (d : Desc) (s : State) : Out := .next (hostCmd 0x51 roleO d (releaseRes d) s)
/-- SC_CLEAR. -/
def execScClear (d : Desc) (s : State) : Out := .next (hostCmd 0x52 roleO d (scClearRes d) s)
/-- SENSE_CAL. -/
def execSenseCal (d : Desc) (s : State) : Out := .next (hostCmd 0x53 roleE d (senseCalRes d) s)
/-- SENSE_CALIBRATION. -/
def execSenseCalibration (n : Nat) (iOfs vOfs : Int) (s : State) : Out := .next (doCalibration n iOfs vOfs s)
/-- SENSE_CAL_TIMEOUT. -/
def execSenseCalTimeout (n : Nat) (s : State) : Out := .next (doCalTimeout n s)

end Sys2Proof.Machine
end

