-- ==== Sys2Proof/Machine/Tilca.lean ====
section
/-! DEFINITION. The Tilca sentinels: channel records, thermal and excursion models, fold-back, pilot
measurements, sentinel faults and reports (chapter 13). -/
namespace Sys2Proof.Machine

/-! ### Records (Table 13.1) -/

/-- A sentinel channel. -/
def State.tc (s : State) (n : Nat) : TilCh := mapGetD s.tilCh n {}
/-- Set it. -/
def State.setTc (s : State) (n : Nat) (x : TilCh) : State := { s with tilCh := mapSet s.tilCh n x }
/-- A sentinel. -/
def State.tg (s : State) (g : Nat) : TilG := mapGetD s.tilG g {}
/-- Set it. -/
def State.setTg (s : State) (g : Nat) (x : TilG) : State := { s with tilG := mapSet s.tilG g x }

/-- A field of a record. -/
def TilCh.fld (x : TilCh) (off n : Nat) : Nat := rdLe x.record off n
/-- CLASS of a channel. -/
def TilCh.cls (x : TilCh) : Nat := x.fld 0 1
/-- FLAGS bits: thermal fold-back, excursion limiting, pilot. -/
def TilCh.ten (x : TilCh) : Bool := (x.fld 1 1).testBit 0
def TilCh.xen (x : TilCh) : Bool := (x.fld 1 1).testBit 1
def TilCh.pilot (x : TilCh) : Bool := x.cls != 0 && (x.fld 1 1).testBit 2
/-- TAMB in degrees. -/
def TilCh.tamb (x : TilCh) : Rat := (toInt 16 (x.fld 18 2) : Rat) / 10
/-- The coil temperature Tc in degrees (R646). -/
def TilCh.temp (x : TilCh) : Rat := x.tamb + x.m.dm + x.m.dvc
/-- The magnet temperature. -/
def TilCh.magnet (x : TilCh) : Rat := x.tamb + x.m.dm

/-- A measurement in tenths, in whole units. -/
def tenths (t : Rat) : Int := quot (t * 10).num (t * 10).den

/-- Fields with their ranges: byte, size, lowest, highest (Table 13.1). -/
def recordRanges (cls : Nat) : List (Nat × Nat × Nat × Nat) :=
  [(2, 2, 500, 64000), (4, 2, 0, 10000), (10, 2, 1, 65535), (12, 2, 1, 65535), (14, 2, 200, 3000),
    (16, 1, 1, 50), (17, 1, 0, 0), (20, 2, 1, 65535), (26, 2, 100, 2000), (28, 2, 200, 5000),
    (if cls = 2 then (30, 2, 22000, 30000) else (30, 2, 1200, 1800)), (32, 1, 40, 60), (33, 1, 1, 50),
    (34, 1, 1, 90)]

/-- The first failing byte of a record (R642). -/
def recordBad (b : List Byte) (low48 : Bool) : Option Nat :=
  let f (o n : Nat) := rdLe b o n
  let cls := f 0 1
  if cls = 0 then none
  else if 3 < cls || (cls = 2 && low48) then some 0
  else if 8 ≤ f 1 1 || ((f 1 1).testBit 1 && cls ≠ 1) then some 1
  else
    let tamb := toInt 16 (f 18 2)
    let bad := (recordRanges cls).filterMap fun (o, n, lo, hi) => if f o n < lo || hi < f o n then some o else none
    let bad := bad ++ (if tamb < -400 || 600 < tamb then [18] else []) ++
      (if (f 14 2 : Int) ≤ tamb + 10 * f 16 1 then [14] else []) ++
      (((List.range 29).map fun i => 35 + i).filter fun i => f i 1 ≠ 0)
    bad.foldl (fun a o => match a with
      | none => some o
      | some x => some (min x o)) none

/-- The first step instant at least 2 ticks after a command was read, as a tick number (R641). -/
def State.stepTick (s : State) (d : Desc) : Nat := ceilDiv (s.readNs d + 2 * s.tickNs) 100000000 * 100000000 / s.tickNs

/-- SENT_SET. -/
def sentSetRes (d : Desc) (s : State) : Res :=
  let n := d.a0
  if 128 ≤ n then badDesc s 48
  else if d.buf.length ≠ 64 then badDesc s 32
  else match recordBad d.buf (s.on Reg.TICK.CFG.PLAN && s.rd Reg.TICK.CFG.RATE == 0) with
    | some o => badBuf s o
    | none =>
      let x := s.tc n
      let held := (x.next.getLast?.map fun e => e.1).getD x.record
      if s.on Reg.TILCA.CTRL.LOCK && held.take 30 != d.buf.take 30 then failRes s stRefused
      else
        let t := s.stepTick d
        okRes (s.setTc n { x with next := (x.next.filter fun e => e.2 != t) ++ [(d.buf, t)] }) (le 8 t)

/-- SENT_SET_EFFECT: the stored record takes effect at its step instant (R641, R647). -/
def doSentEffect (n : Nat) (s : State) : State :=
  let x := s.tc n
  match x.next with
  | [] => s
  | (b, t) :: r =>
    let y : TilCh := { x with record := b, next := r }
    let fresh := (x.cls == 0) != (y.cls == 0)
    (s.reach (s.tAt t)).setTc n (if fresh then { y with m := {} } else y)

/-! ### Thermal model (R645 to R647) -/

/-- The coil's resistance in ohm at its temperature. -/
def TilCh.re (x : TilCh) : Rat :=
  (x.fld 2 2 : Rat) / 1000 * (1 + (x.fld 4 2 : Rat) / 1000000 * (x.temp - 20))

/-- One update of the temperature rises over a time with a power in W (R646). [DEDUCED, log 47] -/
def TilCh.heat (x : TilCh) (ns : Nat) (p : Rat) : TilM :=
  let d (ms : Nat) : Rat := 1 - ratFx (expFx (-(2 ^ fx * ns / (ms * 1000000 : Nat) : Int)))
  { x.m with
    dvc := x.m.dvc + (p * (x.fld 6 2 : Rat) / 1000 - x.m.dvc) * d (x.fld 10 2 * 10)
    dm := x.m.dm + (p * (x.fld 8 2 : Rat) / 1000 - x.m.dm) * d (x.fld 12 2 * 1000) }

/-- The samples x of a channel's frame f: the released ones, on the skim path those captured in the frame (R639).
[DEDUCED, log 47] -/
def State.feedX (s : State) (n f : Nat) : List Int :=
  match s.destEntry 1 n with
  | none => []
  | some i =>
    let block := s.eng.released.find? fun b => b.entry == i
    (List.range s.spt).map fun k => match block with
      | none => s.skimAt i (f * s.spt + k)
      | some b =>
        let w := atD b.skim k 0
        let g := atD b.samples k 0
        if w = 0 then g else (satSample (g + (mul33 (s.skimAt i (f * s.spt + k)) w).1)).1

/-- The drive voltages in V of a frame's samples, each at its output presentation, with or without the all-stop gain; a
probe holds the graph output at zero (R623, R645, R650). -/
def State.volts (s : State) (n f : Nat) (xs : List Int) (stop : Bool) : List Rat :=
  let x := s.mc n
  let vnom : Rat := (s.rd (Reg.MOD.G.RAIL.VNOM (n / 8)) : Rat) / 10
  let fr := (s.tc n).f
  xs.zipIdx.map fun (v, k) =>
    let t := s.run + k * s.ts3 / 3
    let a : Rat := match x.rearm with
      | some t0 => min 1 (((t - t0 : Nat) : Rat) / 2000000000)
      | none => 1
    let g := if stop then a * (s.mg (n / 8)).s.val t else a
    (if x.base = chProbe then 0 else v : Rat) / 1073741824 * (((s.kgainRamp n).val f k s.spt : Rat) / 32768) *
      ((fr.val f k s.spt : Rat) / 8589934592) * g * vnom

/-- The current in A of an ISNS density in 2^-24: (2d - 1) x ISFS, which is in 0.01 A, less the offset that a calibration
measured, in 2^-24 of full scale (R614, R637). [DEDUCED, log 46] -/
def State.senseI (s : State) (n d : Nat) : Rat :=
  ((2 * d : Nat) - 16777216 - (s.mc n).iOfs : Rat) / 16777216 * s.rd (Reg.MOD.G.SNS.ISFS (n / 8)) / 100

/-- The coil power of a tick in W (R645). -/
def State.power (s : State) (n f : Nat) (feed : Option ChanFeed) : Rat :=
  let x := s.tc n
  if s.on (Reg.MOD.CH.STAT.ISNSF n) then
    let vs := s.volts n f (s.feedX n f) true
    if vs.isEmpty || x.re = 0 then 0 else (vs.map fun v => v * v).sum / vs.length / x.re
  else
    let is := ((feed.map fun e => e.isns).getD []).map (s.senseI n)
    if is.isEmpty then 0 else (is.map fun i => i * i).sum / is.length * x.re

/-! ### Fold-back (R648 to R656) -/

/-- The event of a fold-back step. -/
inductive FoldEv where
  | began | ended | mute | ramp
  deriving DecidableEq, Repr

/-- A recovery ramp that has run its time ends; it began one tick after its step instant (R37, R649). -/
def FoldS.lapse (x : FoldS) (now len : Nat) : FoldS :=
  match x.recov with
  | some t => if t + len ≤ now then { x with recov := none } else x
  | none => x

/-- One step of Table 13.2 at a step instant: over the limit, or far enough below it. -/
def FoldS.step (x : FoldS) (hot low hold : Bool) (now : Nat) : FoldS × Option FoldEv :=
  if hot then
    if x.recov.isSome then ({ x with recov := none, mute := true }, some .mute)
    else if x.mute then (x, none)
    else if x.k = 0 then ({ x with k := 1, since := now }, some .began)
    else if x.k < 36 then ({ x with k := x.k + 1 }, none)
    else ({ x with mute := true }, some .mute)
  else if low && !hold then
    if x.mute then ({ x with mute := false, recov := some now }, some .ramp)
    else if x.recov.isSome || x.k == 0 then (x, none)
    else ({ x with k := x.k - 1 }, if x.k = 1 then some .ended else none)
  else (x, none)

/-- The recovery ramp's share, 1 outside a ramp. -/
def FoldS.share (x : FoldS) (now len : Nat) : Rat :=
  match x.recov with
  | some t => if len = 0 then 1 else min 1 (((now - t : Nat) : Rat) / len)
  | none => 1

/-- RECOV in ns. -/
def State.recovNs (s : State) : Nat := s.rd Reg.TILCA.CFG.RECOV * 1000000

/-- The fold-back gain F that a channel's factors make at the end of the frame for which it is decided, in Q2.33, rounded
to nearest (R37, R655). [DESIGN CHOICE, log 84] -/
def State.foldTarget (s : State) (n : Nat) : Int :=
  let x := s.tc n
  let g := (s.tg (n / 8)).fg
  if x.m.ft.mute || g.mute then 0
  else
    let k := x.m.ft.k + x.m.fx + g.k
    let t := s.run + s.tickNs
    let w := x.m.ft.share t s.recovNs * g.share t s.recovNs
    let base := dbGain 33 (-(k : Int)) 40
    roundDiv (base * w.num) w.den

/-- The gain in 0.5 dB steps of excursion limiting after a frame over the limit (R651): the fewest steps whose
gain does not exceed the present one times XMAX / peak. -/
def fxSteps (k xmax : Nat) (peak : Rat) : Nat :=
  ((List.range 37).find? fun j =>
    decide (k ≤ j) && decide (peak ^ 40 ≤ (xmax : Rat) ^ 40 * (10 : Rat) ^ (j - k))).getD 36

/-- One sample through the excursion low-pass: state and displacement for a DC gain of 1 (R650). -/
def lowPassStep (c : List Rat) (st : List Rat) (v : Rat) : List Rat × Rat :=
  let q (i : Nat) : Rat := c.getD i 0
  let y := q 0 * v + q 1 * st.getD 0 0 + q 2 * st.getD 1 0 - q 3 * st.getD 2 0 - q 4 * st.getD 3 0
  ([v, st.getD 0 0, y, st.getD 2 0], y)

/-- A frame's voltages through the low-pass: the state after it and the peak displacement. -/
def lowPassRun (c : List Rat) : List Rat → List Rat → Rat → List Rat × Rat
  | [], st, peak => (st, peak)
  | v :: r, st, peak =>
    let (st1, y) := lowPassStep c st v
    lowPassRun c r st1 (max peak (if y < 0 then -y else y))

/-- Excursion limiting of one frame (R650 to R652). -/
def State.excursion (s : State) (n f : Nat) : State :=
  let x := s.tc n
  if x.cls ≠ 1 || !x.xen then s
  else
    let (st, y) := lowPassRun (bilinear true (tanHalf (x.fld 26 2) (10 * s.fs)) (1000 / (x.fld 28 2 : Rat)))
      (s.volts n f (s.feedX n f) false) x.m.xs 0
    let peak := y * (x.fld 24 2 : Rat) / 10
    let kept := (x.peaks.filter fun e => decide (s.run < e.1 + 1000000000)) ++ [(s.run, peak)]
    if (x.fld 22 2 : Rat) < peak then
      let k := fxSteps x.m.fx (x.fld 22 2) peak
      let s1 := s.setTc n { x with peaks := kept, m := { x.m with xs := st, fx := k, overAt := some s.run } }
      if x.m.fx = 0 then s1.log 0x0305 (le 1 n ++ leInt 4 (quot peak.num peak.den)) else s1
    else s.setTc n { x with peaks := kept, m := { x.m with xs := st } }

/-- The channel's step decisions: thermal fold-back and the release of excursion limiting (R648, R651). -/
def State.chanStep (s : State) (n : Nat) : State :=
  let x := s.tc n
  let t := x.temp
  let lim : Rat := (x.fld 14 2 : Rat) / 10
  let (ft, ev) := if x.ten then x.m.ft.step (decide (lim < t)) (decide (t ≤ lim - x.fld 16 1)) false s.run else (x.m.ft, none)
  let quiet := match x.m.overAt with
    | some t0 => decide (t0 + s.rd Reg.TILCA.CFG.XHOLD * 10000000 ≤ s.run)
    | none => true
  let s1 := s.setTc n { x with m := { x.m with ft := ft, fx := if quiet then x.m.fx - 1 else x.m.fx } }
  let tc := leInt 4 (tenths t)
  match ev with
  | some .began => s1.log 0x0301 (le 1 n ++ tc)
  | some .ended => s1.log 0x0302 (le 1 n ++ le 4 ((s.run - x.m.ft.since) / 1000000000))
  | some .mute => s1.log 0x0303 (le 1 n ++ tc)
  | some .ramp => s1.log 0x0304 (le 1 n)
  | none => s1

/-- The group's step decision (R653, R654). -/
def State.groupStep (s : State) (g : Nat) : State :=
  let x := s.tg g
  let t := s.rd (Reg.MOD.G.STAT.TEMP g)
  let lim := s.rd (Reg.TILCA.G.GCFG.STLIM g)
  let otw := s.on (Reg.MOD.G.STAT.OTW g)
  let (fg, ev) := x.fg.step (otw || decide (lim < t)) (decide (t + 4 * s.rd (Reg.TILCA.G.GCFG.SHYST g) ≤ lim))
    (s.on (Reg.MOD.G.STAT.STATLOS g)) s.run
  let s1 := s.setTg g { x with fg := fg }
  match ev with
  | some .began => s1.log 0x0306 (le 1 g ++ le 4 t ++ le 1 (if otw then 1 else 0))
  | some .ended => s1.log 0x0307 (le 1 g)
  | some .mute => s1.log 0x0303 (le 1 g ++ le 4 t)
  | some .ramp => s1.log 0x0304 (le 1 g)
  | none => s1

/-! ### Reports (R672, R673) -/

/-- Whether the reported alarms hold: LOAD_DEV, LOAD_LOW, LOAD_OPEN, NOREF, LOAD_SHORT. -/
def State.alarmBits (s : State) (n : Nat) : Nat :=
  let x := s.tc n
  ((List.range 4).map fun i => if atD x.alarms i false then 2 ^ i else 0).sum +
    (if (s.mc n).base = chShort then 16 else 0)

/-- The status record of a channel (Table 13.5). -/
def State.sentRecord (s : State) (n : Nat) : List Byte :=
  let x := s.tc n
  let g := (s.tg (n / 8)).fg
  let flags := (if x.m.ft.mute || g.mute then 1 else 0) + (if x.m.ft.recov.isSome || g.recov.isSome then 2 else 0) +
    (if x.m.fx ≠ 0 then 4 else 0) + (if s.pilotOn n then 8 else 0) +
    (if x.cls = 2 && s.rd Reg.TICK.CFG.RATE = 0 && s.on Reg.TICK.CFG.PLAN then 16 else 0)
  let peak := x.peaks.foldl (fun a e => if s.run < e.1 + 1000000000 then max a e.2 else a) 0
  let (zr, pr) := x.ref.getD (0, 0)
  leInt 2 (tenths x.temp) ++ leInt 2 (tenths x.magnet) ++ le 1 x.m.ft.k ++ le 1 x.m.fx ++ le 1 g.k ++ le 1 flags ++
    le 4 x.zmag ++ leInt 2 x.zph ++ le 2 (x.valid.filter fun t => decide (s.run < t + 60000000000)).length ++
    le 4 zr ++ leInt 2 pr ++ le 1 (s.alarmBits n) ++ [0] ++ le 2 (quot peak.num peak.den).toNat ++ le 2 0 ++
    le 4 s.eng.relFrame

/-- Fields of a channel in `TILCA.FB`. -/
def fbFld (n bit w : Nat) : Fld := ⟨(Reg.TILCA.FB.FT0 0).off + 4 * (n / 4), 8 * (n % 4) + bit, w⟩

/-- Show a group's registers and its channels' (GSTAT, SUM, FB). -/
def State.showTil (s : State) (g : Nat) : State :=
  let x := s.tg g
  let st := s.rd (Reg.TILCA.G.GSTAT.STATE g)
  let bits (p : Nat → Bool) : Nat := ((List.range 8).map fun q => if p (8 * g + q) then 2 ^ q else 0).sum
  let runBit := s.rd Reg.TILCA.SUM.RUN
  let dnBit := s.rd Reg.TILCA.SUM.DOWN
  let upd (v : Nat) (b : Bool) : Nat := (if v.testBit g then v - 2 ^ g else v) + (if b then 2 ^ g else 0)
  let s1 := ((((((s.wr (Reg.TILCA.G.GSTAT.FG g) x.fg.k).put (Reg.TILCA.G.GSTAT.GMUTE g) x.fg.mute).wr
    (Reg.TILCA.G.GSTAT.CHFOLD g) (bits fun n => decide ((s.tc n).f.g1 < one33))).wr
    (Reg.TILCA.G.GSTAT.CHALM g) (bits fun n => decide (s.alarmBits n % 16 ≠ 0))).wr
    Reg.TILCA.SUM.RUN (upd runBit (st == 0))).wr Reg.TILCA.SUM.DOWN (upd dnBit (st == 2)))
  (chansOf g).foldl (fun (a : State) n =>
    let y := a.tc n
    ((a.wr (fbFld n 0 6) y.m.ft.k).put (fbFld n 6 1) (y.m.ft.mute || x.fg.mute)).put (fbFld n 7 1) (y.m.fx != 0)) s1

/-- Show the summary over all channels (`TILCA.FBSUM`). -/
def State.showSum (s : State) : State :=
  let all := List.range 128
  let fold := all.filter fun n => decide ((s.tc n).f.g1 < one33)
  let mute := all.filter fun n => (s.tc n).m.ft.mute || (s.tg (n / 8)).fg.mute
  let alm := all.filter fun n => decide (s.alarmBits n % 16 ≠ 0)
  ((s.wr Reg.TILCA.FBSUM.FOLD fold.length).wr Reg.TILCA.FBSUM.MUTED mute.length).wr Reg.TILCA.FBSUM.ALARM alm.length

/-! ### At a weir flip (R639, R656, R670) -/

/-- Channels that have a record or a history. -/
def State.tilChans (s : State) (g : Nat) : List Nat := (chansOf g).filter fun n => (mapGet s.tilCh n).isSome

/-- A sentinel processes the feed of a frame; what it decides takes effect with the next frame's first output
sample (R37, R639 to R656). [DESIGN CHOICE, log 48] -/
def State.sentinel (s : State) (g f : Nat) (feeds : List ChanFeed) (step : Bool) : State :=
  let chans := s.tilChans g
  let feed (n : Nat) : Option ChanFeed := feeds.find? fun e => e.ch == n
  let s1 := chans.foldl (fun (a : State) n =>
    let x := a.tc n
    if x.cls = 0 then a
    else
      let m := x.heat a.tickNs (a.power n f (feed n))
      (a.setTc n { x with m := { m with ft := m.ft.lapse a.run (a.recovNs + a.tickNs) } }).excursion n f) s
  let s2 := s1.setTg g { s1.tg g with fg := (s1.tg g).fg.lapse s1.run (s1.recovNs + s1.tickNs) }
  let s3 := if step then (chans.foldl (fun (a : State) n => if (a.tc n).cls = 0 then a else a.chanStep n) s2).groupStep g else s2
  let aims := if s3.on (Reg.TILCA.G.GSTAT.GMUTE g) || (s3.tg g).fg != {} then chansOf g else chans
  let s4 := aims.foldl (fun (a : State) n =>
    let x := a.tc n
    let goal := a.foldTarget n
    if goal = x.f.g1 then a else a.setTc n { x with f := x.f.to goal a.spt (f + 1) a.spt }) s3
  let y := s4.tg g
  let loads := (y.loads.filter fun e => decide (s4.run < e.1 + 1000000000)) ++ [(s4.run, Config.feedLoad g s4.tick)]
  let s5 := s4.setTg g { y with
    loads := loads
    misses := if y.missed then y.misses else 0, missed := false
    mirror := if step then some (s4.run, (chansOf g).map (fun n => (s4.tc n).m), y.fg) else y.mirror }
  (s5.wr (Reg.TILCA.G.GLOAD.LOAD g) (loads.foldl (fun a e => max a (min 100 e.2)) 0)).showTil g

/-- Records whose step instant is this boundary are in force before the sentinels process the feed (R641). -/
def State.dueRecords (s : State) : State :=
  (s.tilCh.map fun e => e.1).foldl (fun (a : State) n => match (a.tc n).next with
    | (_, t) :: _ => if t ≤ a.tick then doSentEffect n a else a
    | [] => a) s

/-- All sentinels at T(f+2), and the status records that they publish. [DEDUCED, log 47] -/
def State.sentinels (s0 : State) (f : Nat) (feeds : List ChanFeed) (ce : List Nat) : State :=
  let s := ce.foldl (fun (a : State) g => a.count (Reg.TILCA.G.GCNT.MECC g)) s0.dueRecords
  let step := decide (s.tAt s.tick % 100000000 = 0)
  let s1 := (List.range 16).foldl (fun (a : State) g =>
    if a.rd (Reg.TILCA.G.GSTAT.STATE g) = 0 then a.sentinel g f feeds step else a.showTil g) s
  let s2 := ((s1.tilCh.map fun e => e.1) ++ s1.modCh.map fun e => e.1).foldl (fun (a : State) n => a.setTc n { a.tc n with pub := a.sentRecord n }) s1
  s2.showSum

/-- SENTINEL_FEED_MISS: the group's F keeps its value for the next frame (R668). -/
def doFeedMiss (g : Nat) (s : State) : State :=
  if 16 ≤ g then s
  else
    let s1 := (s.tilChans g).foldl (fun (a : State) n =>
      let x := a.tc n
      if s.tick ≤ x.f.l + 1 then a.setTc n { x with f := settled x.f.g0 } else a) s
    let y := s1.tg g
    (s1.setTg g { y with misses := y.misses + 1, missed := true }).count (Reg.TILCA.G.GCNT.MISS g)

/-! ### Pilot windows (R660 to R664) -/

/-- Start of the window that ends at the present second, in ns of running time and of local time. -/
def State.winFrom (s : State) : Nat × Nat := (s.run - (1000000000 + s.ns % 1000000000), s.ns / 1000000000 * 1000000000 - 1000000000)

/-- Whether the pilot was injected throughout the window (R659, R661). -/
def State.injected (s : State) (n : Nat) : Bool :=
  s.pilotOn n && decide ((s.mc n).noPilot + (1000000000 + s.ns % 1000000000) ≤ s.run)

/-- Whether KGAIN did not change during the window: its last feather ended before it or starts after it (R603, R661). -/
def State.kgainHeld (s : State) (n : Nat) : Bool :=
  let r := s.kgainRamp n
  let from_ := s.tAt (r.l + 2)
  r.n == 0 || decide (from_ + (r.n * s.ts3 + 2) / 3 ≤ s.winFrom.2) || decide (s.ns ≤ from_)

/-- The phase of |Z|, arg V - arg I, between -180 and 180 degrees (R660). -/
def winPhase (w : PilotWindow) : Int := (w.vArg - w.iArg + 18000) % 36000 - 18000

/-- Whether a channel's record sets PILOT, taken as 0 for CLASS 2 while the plan runs at 48 kHz (R644). -/
def State.pilotSet (s : State) (n : Nat) : Bool :=
  (s.tc n).pilot && !((s.tc n).cls == 2 && s.rd Reg.TICK.CFG.RATE == 0 && s.on Reg.TICK.CFG.PLAN)

/-- Difference of two phases in 0.01 degrees. -/
def phaseDiff (a b : Int) : Nat :=
  let d := ((a - b) % 36000).toNat
  min d (36000 - d)

/-- One alarm's runs after a window: met, unmet, raised (R664). -/
def alarmStep (met unmet : Nat) (up cond valid : Bool) : Nat × Nat × Bool :=
  if cond then (met + 1, 0, up || decide (3 ≤ met + 1))
  else if valid then (0, unmet + 1, up && !decide (3 ≤ unmet + 1))
  else (met, unmet, up)

/-- Log a load alarm that was raised or cleared. -/
def State.logAlarm (s : State) (n i : Nat) (w : PilotWindow) : State :=
  let x := s.tc n
  match i with
  | 0 => s.log 0x030A (le 1 n ++ le 4 (zOf w) ++ leInt 4 (winPhase w) ++ le 4 (x.ref.getD (0, 0)).1)
  | 1 => s.log 0x030B (le 1 n ++ le 4 (zOf w))
  | 2 => s.log 0x030C (le 1 n ++ le 4 w.vAmp)
  | _ => s

/-- A valid window into a reference capture; ten complete it (R663). -/
def State.capture (s : State) (n : Nat) (w : PilotWindow) : State :=
  let x := s.tc n
  match x.capt with
  | none => s
  | some l =>
    let l1 := l ++ [(zOf w, (winPhase w))]
    if l1.length < 10 then s.setTc n { x with capt := some l1 }
    else
      let z := (quot ((l1.map fun e => e.1).sum : Nat) 10).toNat
      let ph := quot (l1.map fun e => e.2).sum 10
      ((s.setTc n { x with capt := none, ref := some (z, ph) }).log 0x030D (le 1 n ++ le 4 z ++ leInt 4 ph)).finishOp
        0x56 stOk (le 4 z ++ leInt 2 ph) [] (fun d => d.a0 == n)

/-- PILOT_WINDOW_END: a window of 1 s between whole seconds of local time ends. -/
def doPilotWindow (w : PilotWindow) (s : State) : State :=
  let n := w.ch
  let x := s.tc n
  if 128 ≤ n || !s.pilotSet n || s.ns / 1000000000 ≤ x.winSec then s
  else
    let injected := s.injected n
    let vOk := s.vMeets w
    let iOk := s.iMeets w
    let valid := injected && vOk && iOk && w.quiet && s.kgainHeld n
    let z := zOf w
    let dev := match x.ref with
      | some (zr, pr) => valid && (decide (x.fld 33 1 * zr < 100 * (max z zr - min z zr)) ||
          decide (x.fld 34 1 * 100 < phaseDiff (winPhase w) pr))
      | none => false
    let conds := [dev, valid && decide (w.vAmp < w.iAmp), injected && vOk && !iOk, valid && x.ref.isNone]
    let steps := conds.zipIdx.map fun (c, i) => alarmStep (atD x.met i 0) (atD x.unmet i 0) (atD x.alarms i false) c valid
    let y : TilCh := { x with
      met := steps.map fun e => e.1, unmet := steps.map fun e => e.2.1, alarms := steps.map fun e => e.2.2
      winSec := s.ns / 1000000000
      zmag := if valid then z else x.zmag
      zph := if valid then (winPhase w) else x.zph
      valid := (x.valid.filter fun t => decide (s.run < t + 60000000000)) ++ (if valid then [s.run] else []) }
    let s1 := s.setTc n y
    let turned := (List.range 3).filter fun i => atD x.alarms i false != atD y.alarms i false
    let s2 := turned.foldl (fun (a : State) i => a.logAlarm n i w) s1
    (if valid then s2.capture n w else s2).showTil (n / 8)

/-- Z_CAPTURE. -/
def zCaptureRes (d : Desc) (s : State) : Res :=
  let n := d.a0
  if 128 ≤ n then badDesc s 48
  else if !s.pilotSet n then failRes s stRefused
  else longRes (s.setTc n { s.tc n with capt := some [] })

/-- Z_CAPTURE_TIMEOUT: 30 s have passed (R663). -/
def doCaptureTimeout (n : Nat) (s : State) : State :=
  match s.ringOf 0x56 (fun d => d.a0 == n) with
  | none => s
  | some r =>
    if s.ranFor r 30000000000 then (s.setTc n { s.tc n with capt := none }).finish r stDeferred [] [] else s

/-! ### Sentinel faults (R669 to R671) -/

/-- Age of a mirror in ms. -/
def State.mirrorAge (s : State) (g : Nat) : Nat := match (s.tg g).mirror with
  | some (t, _) => (s.run - t) / 1000000
  | none => s.run / 1000000

/-- Log a sentinel's fault, restart or fall (Table 13.4). -/
def State.logSent (s : State) (g cause : Nat) : State :=
  s.log 0x030E (le 1 g ++ le 1 (Config.sentinelCause cause) ++ le 4 (s.mirrorAge g))

/-- The sentinel is down: its group fades to zero modulation (R671). -/
def State.sentDown (s : State) (g : Nat) : State :=
  (((s.wr (Reg.TILCA.G.GSTAT.STATE g) 2).fadeGroup g 0 32).logSent g 4).showTil g

/-- SENTINEL_FAULT: causes 0 eight misses, 1 memory, 2 trap (R669, R671). -/
def doSentFault (g cause : Nat) (s : State) : State :=
  let x := s.tg g
  if 16 ≤ g || s.rd (Reg.TILCA.G.GSTAT.STATE g) ≠ 0 || (cause == 0 && decide (x.misses < 8)) then s
  else
    let faults := (x.faults.filter fun t => decide (s.run < t + 600000000000)) ++ [s.run]
    let s1 := (s.setTg g { x with faults := faults, misses := 0, asked := false, restartAt := s.run }).logSent g cause
    if 3 ≤ faults.length then s1.sentDown g
    else ((s1.wr (Reg.TILCA.G.GSTAT.STATE g) 1).count (Reg.TILCA.G.GCNT.RESTART g)).showTil g

/-- SENTINEL_RESTART_DONE: the models resume from the latest mirror with PRATED over the time since (R670). -/
def doSentRestarted (g : Nat) (s : State) : State :=
  if 16 ≤ g || s.rd (Reg.TILCA.G.GSTAT.STATE g) ≠ 1 then s
  else
    let x := s.tg g
    let s1 := match x.mirror with
      | none => s
      | some (t, ms, fg) =>
        let b := s.setTg g { x with fg := fg }
        ((chansOf g).zip ms).foldl (fun (a : State) (n, m) =>
          if (mapGet a.tilCh n).isNone then a
          else
            let y : TilCh := { a.tc n with m := m }
            a.setTc n (if y.cls = 0 then y else { y with m := y.heat (s.run - t) (y.fld 20 2 : Rat) })) b
    let s2 := (s1.wr (Reg.TILCA.G.GSTAT.STATE g) 0).logSent g 3
    let s3 := s2.setTg g { s2.tg g with asked := false }
    (if x.asked then s3.fadeGroup g (s3.fadeGoal g) 256 else s3).showTil g

/-- SENTINEL_RESTART_TIMEOUT: a restart has not completed within 50 ms (R671). -/
def doSentTimeout (g : Nat) (s : State) : State :=
  if 16 ≤ g || s.rd (Reg.TILCA.G.GSTAT.STATE g) ≠ 1 || !s.lasted (some (s.tg g).restartAt) 50000000 then s
  else s.sentDown g

/-- SENT_RESTART. [DEDUCED, log 47] -/
def sentRestartRes (d : Desc) (s : State) : Res :=
  let g := d.a0
  if 16 ≤ g then badDesc s 48
  else if s.rd (Reg.TILCA.G.GSTAT.STATE g) ≠ 2 then failRes s stRefused
  else
    let s1 := s.setTg g { s.tg g with asked := true, restartAt := s.run }
    okRes (((s1.wr (Reg.TILCA.G.GSTAT.STATE g) 1).count (Reg.TILCA.G.GCNT.RESTART g)).showTil g)

/-- SENT_STAT. -/
def sentStatRes (d : Desc) (s : State) : Res :=
  let n := d.a0
  if 128 ≤ n then badDesc s 48
  else okRes s [] (match mapGet s.tilCh n with
    | some x => x.pub
    | none => s.sentRecord n)

/-! ### Rows -/

/-- SENT_SET. -/
def execSentSet (d : Desc) (s : State) : Out := .next (hostCmd 0x54 roleE d (sentSetRes d) s)
/-- SENT_SET_EFFECT. -/
def execSentSetEffect (n : Nat) (s : State) : Out := .next (doSentEffect n s)
/-- SENT_STAT. -/
def execSentStat (d : Desc) (s : State) : Out := .next (hostCmd 0x55 roleM d (sentStatRes d) s)
/-- Z_CAPTURE. -/
def execZCapture (d : Desc) (s : State) : Out := .next (hostCmd 0x56 roleE d (zCaptureRes d) s)
/-- Z_CAPTURE_TIMEOUT. -/
def execZCaptureTimeout (n : Nat) (s : State) : Out := .next (doCaptureTimeout n s)
/-- SENT_RESTART. -/
def execSentRestart (d : Desc) (s : State) : Out := .next (hostCmd 0x57 roleE d (sentRestartRes d) s)
/-- SENTINEL_FEED_MISS. -/
def execSentinelFeedMiss (g : Nat) (s : State) : Out := .next (doFeedMiss g s)
/-- PILOT_WINDOW_END. -/
def execPilotWindowEnd (w : PilotWindow) (s : State) : Out := .next (doPilotWindow w s)
/-- SENTINEL_FAULT. -/
def execSentinelFault (g cause : Nat) (s : State) : Out := .next (doSentFault g cause s)
/-- SENTINEL_RESTART_DONE. -/
def execSentinelRestartDone (g : Nat) (s : State) : Out := .next (doSentRestarted g s)
/-- SENTINEL_RESTART_TIMEOUT. -/
def execSentinelRestartTimeout (g : Nat) (s : State) : Out := .next (doSentTimeout g s)

end Sys2Proof.Machine
end

