-- ==== Sys2Proof/Machine/Tick.lean ====
section
/-! DEFINITION. The tick: intake cutoff, eddy deadline, finish line, weir flip, and the engine's start and
steps (chapters 01, 05 and 06). -/
namespace Sys2Proof.Machine

/-! ### Before the flip -/

/-- Whether the engine computes frame f: it runs, f is not before the first frame, no stop has passed. -/
def State.inRun (s : State) (f : Nat) : Bool :=
  s.on Reg.TICK.STATUS.RUN && (match s.eng.first with
    | some m => decide (m ≤ f)
    | none => false) &&
  match s.eng.stopAt with
  | some k => decide (s.tick < k)
  | none => true

/-- Inputs that the die-links have not delivered into the block of frame f by T(f+1) are concealed (R35): they count as
not received, and the generation tags of the die-links advance (R249, R775). [DEDUCED, log 21] [DEDUCED, log 86] -/
def State.loseInputs (s : State) (f : Nat) (lost : List Nat) : State :=
  if lost.isEmpty || !s.eng.cutDone then s
  else
    let keep (e : Nat × Heard) : Bool := !(e.1 / 65536 == f && lost.contains (e.1 % 65536))
    let s1 : State := { s with eng := { s.eng with water := s.eng.water.filter keep } }
    let s2 := ((s1.sources f).filter lost.contains).foldl (fun (a : State) src =>
      a.deliver f src (mapGetD s1.eng.concealOld src {})) s1
    (s2.advanceGen 7 2).advanceGen 8 2

/-- The window of the frame in the main pass closes at its deadline, once every request that came in it has been decided
(R29, R241, R256). -/
def State.closeWindow (s : State) : State :=
  let s1 := s.reach (min (s.eddyAt s.eng.frame) (s.tAt (s.eng.frame + 2) - 4000))
  let s2 := State.decideAll (s1.eng.reqs.length + s1.eng.faults.length) s1
  { s2 with eng := { s2.eng with eddyClosed := true } }

/-- EDDY_DEADLINE: an open window of the frame in the main pass closes (R29, R256). [DEDUCED, log 21] -/
def doEddyClose (s : State) : State :=
  if s.inRun s.eng.frame && !s.eng.eddyClosed && s.tick == s.eng.frame + 1 then s.closeWindow else s

/-- INTAKE_CUTOFF: at T(n+1) - 2.0 us the input block of frame n is built, after the window of the frame before has closed
(R24, R249, R256). [DEDUCED, log 21] -/
def doCutoff (s0 : State) : State :=
  let s := doEddyClose s0
  if s.inRun s.tick && !s.eng.cutDone then (s.reach (s.tAt (s.tick + 1) - 2000)).buildBlock s.tick else s

/-- The end of a cluster's work for the frame, in percent of the tick rounded up. -/
def State.endPct (s : State) (c : Nat) : Nat :=
  let last := (s.eng.lanes.filter fun e => e.1 / 8 == c).foldl (fun a e => max a e.2.2) 0
  let e := if s.eng.overrun.contains c then s.cycles - guardCycles else min last (s.cycles - guardCycles)
  ceilDiv (e * 100) s.cycles

/-- The lane with the lowest remaining reserve. -/
def State.lowest (s : State) : Option (Nat × Nat) :=
  s.eng.lanes.foldl (fun a e => match a with
    | none => some (e.1, e.2.1)
    | some x => if e.2.1 < x.2 then some (e.1, e.2.1) else a) none

/-- Frames of the last 1,000 ms. -/
def State.recentFrame (s : State) (f : Nat) : Bool := decide (s.eng.frame * s.tickNs < f * s.tickNs + 1000000000)

/-- What the finish line finds, noted: faults that can no longer be replayed, overruns, flags, corrected reads (R49,
R294, R321, R322).  A cluster has also overrun whose promotion or mirror is not done (Table 1.6). [DEDUCED, log 75]
[DEDUCED, log 104] -/
def State.noteFinish (s0 : State) (e : FinishEnv) : State :=
  let s := s0.refuseLeft
  let ovr := (s.unended ++ e.overruns.filter fun c => decide (c < 32)).eraseDups
  let on (d : Nat) : Bool := ovr.any fun c => c / 16 == d
  let g := s.eng
  let ue (d : Nat) : Bool := e.regionUe.any fun x => x.1 == d
  let s1 : State := { s with eng := { g with
    finished := true, overrun := ovr
    staged0 := e.staged0 && s.computes 0 g.frame, staged1 := e.staged1 && s.computes 1 g.frame
    flag0 := g.flag0 || on 0 || e.linkUe0 || ue 0 || !e.staged0
    flag1 := g.flag1 || on 1 || e.linkUe1 || ue 1 || !e.staged1 } }
  s1.haltLanes.noteRmce e.regionCe

/-- Lanes and clusters of the frame in the records of the last 1,000 ms. -/
def State.noteLoad (s : State) : State :=
  let f := s.eng.frame
  let low := (s.eng.lows.filter fun x => s.recentFrame x.1) ++ (match s.lowest with
    | some (l, r) => [(f, l, r)]
    | none => [])
  let cls := (s.eng.lanes.map fun e => e.1 / 8).eraseDups
  let top := (s.eng.peaks.filter fun x => s.recentFrame x.1) ++ cls.map fun c => (f, c, s.endPct c)
  { s with eng := { s.eng with lows := low, peaks := top } }

/-- Entries of destinations that a die feeds (R338). -/
def fedBy (p : PlanImage) (d : Nat) : List Nat :=
  (((p.insts.filter fun x => x.lane / 128 == d).map fun x => x.objs).flatten.filter fun o => o / 65536 == 5).map
    fun o => o % 65536

/-- What a die stages: a destination whose region memory reads uncorrectably takes zero (R321), and upsets change
staged samples. [DEDUCED, log 75] -/
def stageBlock (d : Nat) (e : FinishEnv) (b : DestBlock) : DestBlock :=
  if e.regionUe.contains (d, b.entry) then { b with samples := b.samples.map fun _ => 0 }
  else
    let mine := e.upsets.filter fun u => u.1 == d && u.2.1 == b.entry
    { b with samples := mine.foldl (fun xs u => modAt xs u.2.2.1 (u.2.2.2 + ·)) b.samples }

/-- What a Span node stages of a destination: what the die that feeds it stages (R294, R321). -/
def State.stageSpan (s : State) (e : FinishEnv) (b : DestBlock) : DestBlock :=
  let on1 := (s.plan.image.map fun p => (fedBy p 1).contains b.entry).getD false
  stageBlock (if on1 then 1 else 0) e b

/-- The bytes of an item of a die's release block: samples and port values as 36-bit numbers in 8 bytes each, lowest
first, and a packet as the samples of its channels.  The manual states no order of bytes. [DESIGN CHOICE, log 80] -/
def State.itemBytes (s : State) (d : Nat) (blocks : List DestBlock) : RelItem → List Byte
  | .dest i => ((blocks.find? fun b => b.entry == i).map fun b => (b.samples.map fun x => le 8 (ofInt 36 x)).flatten).getD []
  | .packet i => (((s.txc i).map.filterMap fun ch => (s.destEntry 3 ch).bind fun j => blocks.find? fun b => b.entry == j).map fun b =>
      (b.samples.map fun x => le 8 (ofInt 36 x)).flatten).flatten
  | .port k q =>
    let lane := k % 128 + d * 128
    (((mapGet (s.logl lane).ports q).map fun v => le 8 v.toNat).getD [])

/-- CRC-32C of a die's release block, in the order that the plan image fixes (R323). [DEDUCED, log 75]
[DESIGN CHOICE, log 80] -/
def State.blockCrc (s : State) (d : Nat) (blocks : List DestBlock) : Word := match s.plan.image with
  | some p => crc32c ((p.blockOrder.map (s.itemBytes d blocks)).flatten)
  | none => crc32c []

/-- FINISH_LINE: at T(n+2) - 4.0 us all work for frame n ends; state is promoted and blocks are staged (R31,
R32, R49, R171, R180, R322, R323). -/
def doFinish (e : FinishEnv) (s : State) : State :=
  let f := s.eng.frame
  if s.inRun f && !s.eng.finished && s.tick == f + 1 then
    let s1 := (((doEddyClose s).reach (s.tAt (f + 2) - 4000)).noteFinish e).noteLoad
    let a := s1.dieFrame 0 f
    if s1.duplex then
      let sa := a.2.map (stageBlock 0 e)
      let b := s1.dieFrame 1 f
      let sb := b.2.map (stageBlock 1 e)
      let s2 := if s1.computes 0 f then s1.setDsp 0 a.1 else s1
      let s3 := if s1.computes 1 f then s2.setDsp 1 b.1 else s2
      let s4 : State := { s3 with eng := { s3.eng with
        staged := sa, stage1 := sb, crc0 := s3.blockCrc 0 sa, crc1 := s3.blockCrc 1 sb } }
      s4.promoteLanes
    else
      let sa := a.2.map (s1.stageSpan e)
      let s2 := s1.setDsp 0 a.1
      ({ s2 with eng := { s2.eng with staged := sa, stage1 := [], crc0 := s2.blockCrc 0 sa, crc1 := 0 } } : State).promoteLanes
  else s

/-- DELAY_PREFETCH_MISS: a cluster's prefetch for the coming frame has not finished by T(n+1); its lines
repeat their last sample, and the die-link's generation tag advances (R35, R775). -/
def doPrefetchMiss (die n : Nat) (s : State) : State :=
  if 2 ≤ die || 16 ≤ n || !s.on Reg.TICK.STATUS.RUN then s
  else
    let e := s.eng
    let c := die * 16 + n
    let s1 : State := { s with eng := { e with
      pfMiss := if e.pfMiss.contains c then e.pfMiss else e.pfMiss ++ [c]
      counts := { e.counts with prefetch := e.counts.prefetch + 1 } } }
    (s1.hold 0x0115 (le 1 c ++ le 8 e.frame)).advanceGen (if c < 16 then 7 else 8) 1

/-- DELAY_WRITE_MISS: the delay writes of the frame released last were not finished by T(n+3); later reads of their span
repeat the last sample before it (R35). -/
def doWriteMiss (s : State) : State :=
  if !s.on Reg.TICK.STATUS.RUN then s
  else
    let f := s.eng.relFrame
    ({ s with eng := { s.eng with wrMiss := true } } : State).log 0x0116 (le 8 f)

/-! ### The release (R33, R323 to R331) -/

/-- Fault flag of a die. -/
def State.flag (s : State) (d : Nat) : Bool := if d = 0 then s.eng.flag0 else s.eng.flag1
/-- Whether a die staged its block. -/
def State.stagedOn (s : State) (d : Nat) : Bool := if d = 0 then s.eng.staged0 else s.eng.staged1

/-- A flagged die is outvoted and rebuilt from the other (R324, Table 6.2). [DEDUCED, log 35] -/
def State.outvote (s : State) (d : Nat) : State :=
  let flags := (if s.eng.flag0 then 1 else 0) + (if s.eng.flag1 then 2 else 0)
  let s1 := (s.count Reg.GUARD.DCMP.OUTVOTE).hold 0x0121
    (le 1 (1 - d) ++ le 4 s.eng.crc0.toNat ++ le 4 s.eng.crc1.toNat ++ le 1 flags) (64 + d) [0x0102, 0x0111, 0x0114]
  s1.rebuild d

/-- A silent divergence: the die that does not lead is rebuilt, or goes out at its third in 60 s (R324, R333). -/
def State.diverged (s : State) : State :=
  let d := 1 - s.rd Reg.GUARD.NODE.LEAD
  let all := (s.guard.diverge.filter fun t => decide (s.run < t / 2 + 60000000000)) ++ [s.run * 2 + d]
  let mine := all.filter fun t => t % 2 == d
  let s1 := (s.count Reg.GUARD.DCMP.DIVERGE).hold 0x0122 (le 1 (1 - d) ++ le 4 s.eng.crc0.toNat ++ le 4 s.eng.crc1.toNat)
    (64 + d)
  let out := decide (3 ≤ mine.length)
  let s2 : State := { s1 with guard := { s1.guard with diverge := if out then all.filter fun t => t % 2 != d else all } }
  if out then s2.dieOut d 4 else s2.rebuild d

/-- The Duplex compare: the state after it, and the die whose block is released (Table 6.2, R324 to R331).
[DEDUCED, log 35] -/
def State.compare (s : State) (f : Nat) : State × Option Nat :=
  let lead := s.rd Reg.GUARD.NODE.LEAD
  let c0 := s.computes 0 f
  let c1 := s.computes 1 f
  if c0 && c1 then
    match s.stagedOn 0, s.stagedOn 1 with
    | false, false => (s, none)
    | false, true => (if s.flag 1 then s.rebuild 0 else s.outvote 0, some 1)
    | true, false => (if s.flag 0 then s.rebuild 1 else s.outvote 1, some 0)
    | true, true =>
      let eq := s.eng.crc0 == s.eng.crc1
      match s.flag 0, s.flag 1 with
      | true, false => (s.outvote 0, some 1)
      | false, true => (s.outvote 1, some 0)
      | true, true => (if eq then s else s.rebuild (1 - lead), some lead)
      | false, false => (if eq then s else s.diverged, some lead)
  else if c0 then (s, if s.stagedOn 0 then some 0 else none)
  else if c1 then (s, if s.stagedOn 1 then some 1 else none)
  else (s, none)

/-- The blocks to release, the entries that miss, and the dies whose block is released (R54, R324, R338). -/
def State.blocksFor (s : State) (f : Nat) : State × List DestBlock × List Nat × List Nat :=
  if s.duplex then
    let (s1, d) := s.compare f
    match d with
    | some 1 => (s1, s.eng.stage1, [], [1])
    | some _ => (s1, s.eng.staged, [], [0])
    | none => (s1, s.eng.staged, s.eng.staged.map fun b => b.entry, [])
  else
    let gone := [0, 1].filter fun d => !s.computes d f || !s.stagedOn d
    let out := match s.plan.image with
      | some p => gone.map (fedBy p)
      | none => []
    (s, s.eng.staged, out.flatten, [0, 1].filter fun d => !gone.contains d)

/-- The ramp over 256 smp of a destination that a restarted die feeds, from the release of its first frame on; in Duplex
that is every destination (R338, R969). -/
def State.backGain (s : State) (f i k : Nat) : Rat :=
  let one (d : Nat) : Rat := match (s.dieS d).back with
    | some j => if s.duplex || (s.plan.image.any fun p => (fedBy p d).contains i) then (((min 256 ((f - j) * s.spt + k) : Nat)) : Rat) / 256 else 1
    | none => 1
  one 0 * one 1

/-- A graph destination's block at its release: outside the play-out classes the fade of a stop, the ramp after a step
and that after a die's restart act here (R338, R432, R914, R969). [DEDUCED, log 42] -/
def State.fadeBlock (s : State) (f : Nat) (b : DestBlock) : DestBlock :=
  match s.partOf b.entry with
  | some (1, _) => b
  | some (2, _) => b
  | _ =>
    let xs := b.samples.zipIdx.map fun (x, k) => scaleRat (s.destGain ((f + 2) * s.spt + k) * s.backGain f b.entry k) x
    { b with samples := xs }

/-- Publish the frame's counters (R274, R290). -/
def State.publishCounts (s : State) : State :=
  let c := s.eng.counts
  let s0 := ((s.count Reg.TICK.MISS.PREFETCH c.prefetch).count Reg.GRAPH.RTSTAT.ZCTO c.zcto).count Reg.GUARD.DIECNT.RMCE c.rmce
  let s1 := ((s0.count Reg.TICK.ESTAT0.ADMIT c.newPass).count Reg.TICK.ESTAT0.DROPRES c.dropRes).count
    Reg.TICK.ESTAT1.DROPDL c.dropDl
  ((s1.count Reg.TICK.ESTAT1.JOIN c.join).count Reg.TICK.RSTAT.REPLAY c.replay).count Reg.TICK.RSTAT.HOLD c.hold

/-- The counter of a serial port record that shows a held count. -/
def lateFld (p : Nat) : Nat → Fld
  | 0 => Reg.SAP.P.CNT0.OVR p
  | 1 => Reg.SAP.P.CNT1.SLIPREP p
  | _ => Reg.SAP.P.CNT1.SLIPDROP p

/-- Publish what serial ports counted for the frames up to f (R274, R586, R590). -/
def State.publishLate (s : State) (f : Nat) : State :=
  (s.eng.late.filter fun e => decide (e.1 ≤ f)).foldl (fun (a : State) e => a.count (lateFld e.2.1 e.2.2))
    { s with eng := { s.eng with late := s.eng.late.filter fun e => decide (f < e.1) } }

/-- Show the records of the last 1,000 ms: RESLOW and the PEAK of every cluster. -/
def State.showLoad (s : State) : State :=
  let low := s.eng.lows.foldl (fun (a : Option (Nat × Nat)) x => match a with
    | none => some (x.2.1, x.2.2)
    | some y => if x.2.2 < y.2 then some (x.2.1, x.2.2) else a) none
  let s1 := match low with
    | some (l, r) => ((s.wrSat Reg.TICK.RESLOW.LOW r).wr Reg.TICK.RESLOW.CL (l / 8)).wr Reg.TICK.RESLOW.LOG (l % 8)
    | none => s
  ((s.eng.peaks.map fun x => x.2.1).eraseDups).foldl (fun (a : State) c =>
    a.wr (Reg.TICK.CLSTAT.PEAK c) ((s.eng.peaks.filter fun x => x.2.1 == c).foldl (fun m x => max m x.2.2) 0)) s1

/-- Overruns of the frame: count, HELD, entry and event (R52). -/
def State.showOverruns (s : State) : State :=
  let s1 := (List.range 32).foldl (fun (a : State) c => a.put (Reg.TICK.CLSTAT.HELD c) (s.eng.overrun.contains c)) s
  s.eng.overrun.foldl (fun (a : State) c => (a.count (Reg.TICK.CLSTAT.OVR c)).hold 0x0111 (le 1 c) c) s1

/-- Late requests that the arbiter never took up are late drops (R45). [DEDUCED, log 42] -/
def State.dropLeft (s : State) (f : Nat) : State :=
  (s.eng.reqs.filter fun q => decide (q.frame ≤ f)).foldl (fun (a : State) q => a.refusePass q.stream false) s

/-- The samples of a recording channel in the released blocks. -/
def State.recSamples (s : State) (c : Nat) : List Int := match s.destEntry 4 c with
  | some i => ((s.eng.released.find? fun b => b.entry == i).map fun b => b.samples).getD (List.replicate s.spt 0)
  | none => List.replicate s.spt 0

/-- Whether an entry feeds a channel of the take that records frame f, which fits the store (R54, R833). -/
def State.recMiss (s : State) (f i : Nat) : Bool := match s.partOf i, (s.recordsIn f).bind s.take with
  | some (4, c), some t => t.chans.contains c && s.frameFits t
  | _, _ => false

/-- The samples that a frame's write block adds to a DRAM line, newest first; where its writes were missed, the last
sample before them repeats (R35). -/
def lineWrites (miss : Bool) (line block : List Int) : List Int :=
  if miss then block.map fun _ => line.headD 0 else block

/-- The DRAM write blocks at a flip: those of the frame before have been written, and the released die's blocks of this
frame are due (R148, R274, R326). -/
def State.delayWrites (s : State) (dies : List Nat) : State :=
  let x := s.dsp (if s.duplex then dies.headD 0 else 0)
  let g := match x.new with
    | some n => if s.ls = 2 && decide (s.launchTick ≤ s.eng.relFrame) then n else x.g
    | none => x.g
  let blocks := (g.ins.map fun e => (objNo 1 e.1, e.2.wr)) ++ (g.outs.map fun e => (objNo 2 e.1, e.2.wr))
  let e := s.eng
  (if dies.isEmpty then [] else blocks.filter fun b => !b.2.isEmpty).foldl (fun (a : State) (k, xs) =>
    let old := mapGetD e.wrPend k []
    let line := mapGetD a.dramLines k []
    let keep := (a.alloc (k / 65536) (k % 65536)).dmax + 1
    { a with
      dramLines := mapSet a.dramLines k ((lineWrites e.wrMiss line old ++ line).take keep)
      eng := { a.eng with wrPend := mapSet a.eng.wrPend k xs.reverse } }) { s with eng := { e with wrMiss := false } }

/-- The weir flip of frame f: every side effect of the frame in one step (R33, R54, R274). [DEDUCED, log 104] -/
def State.flip (s0 : State) (f : Nat) (e : FlipEnv) : State :=
  let s := (s0.zcHits.foldl State.endWait s0.showOverruns).dropLeft f
  let (s1, blocks, out, dies) := s.blocksFor f
  let miss := e.unstaged ++ out
  let s2 := if miss.isEmpty then s1 else s1.count Reg.TICK.MISS.STAGE
  let (s3, played) := s2.fadeMods (blocks.map (s1.fadeBlock f)) miss
  let s4 : State := { s3 with
    eng := { s3.eng with
      prior := s3.eng.released, released := played, relFrame := f, priorMiss := s3.eng.relMiss, relMiss := miss }
    past := s3.past.filter fun o => decide (f < o.l + o.x + 2)
    guard := { s3.guard with lastFlip := s3.tick }
    plan := { s3.plan with shown := none } }
  let s5 := (s4.publishCounts.showLoad).countStreams f
  let s6 := ((s5.publishMeters dies).deliverPorts dies.contains).delayWrites dies
  let s7 := ((s6.feedCaps f).record f s6.recSamples)
  let s8 := if miss.any (s6.recMiss f) then doRecGap s7 else s7
  s8.txReleases.publishStreams

/-! ### The next frame -/

/-- A die that computes for the first time takes the other die's state, or starts from the plan's initial
state, the primed one from zero (R329, R338, R399, R400, R969). -/
def State.joinDies (s : State) (f : Nat) : State :=
  [0, 1].foldl (fun (a : State) d =>
    if a.die d == 0 && (a.dieS d).restart == some f then
      let b := a.setDieS d { a.dieS d with restart := none }
      if b.duplex then
        if b.computes (1 - d) f && f != 0 then (b.setDsp d (b.dsp (1 - d))).copyDie (1 - d) d else b.setDsp d {}
      else match b.plan.image with
        | none => b
        | some p =>
          let mine (cls : Nat) (i : Nat) : Bool := (p.insts.filter fun x => x.lane / 128 == d).any fun x =>
            x.objs.contains (cls * 65536 + i)
          let fresh (g : GraphS) : GraphS := {
            ins := g.ins.filter fun e => !mine 1 e.1
            outs := g.outs.filter fun e => !mine 2 e.1
            cols := g.cols.filter fun e => !mine 3 e.1
            comp := g.comp.filter fun e => !mine 5 e.1
            dst := g.dst.filter fun e => !mine 5 e.1 }
          b.setDsp 0 { b.dsp0 with
            g := fresh b.dsp0.g, new := b.dsp0.new.map fresh, dlast := b.dsp0.dlast.filter fun e => !mine 5 e.1 }
    else a) s

/-- The end of a lane's schedule in the coming tick: the plan's, or that of the variant of the alternate
schedule that runs in its region (R243, R318). -/
def State.tickEnd (s : State) (lane m : Nat) : Nat := match s.altRuns lane with
  | none => m
  | some a => altEnd (s.altVariant a) lane m

/-- The arbiter's values at T(f+1): the priming of a transaction counts while its copies run, and the ramping variants
of column pairs count for every tick of their feather (R128, R243, R385). [DEDUCED, log 105] -/
def State.freshLanes (s : State) (p : PlanImage) (f : Nat) : Tbl (Nat × Nat) :=
  let objs := (if s.txn.priming || s.ls = 2 then s.launchObjs else []).filter fun o => o / 65536 != 3
  p.mains.foldl (fun (t : Tbl (Nat × Nat)) x =>
    mapSet t x.1 (s.reserve, s.tickEnd x.1 x.2 + (primeOn p s.spt (s.placeIn p s.altVariant) (objs ++ s.rampCols f) x.1).1)) []

/-- Begin the main pass of frame f at T(f+1) (R28, R34, R182). -/
def State.beginFrame (s : State) (f : Nat) : State :=
  let s0 := s.joinDies f
  let e := s0.eng
  let keep {α : Type} (t : Tbl α) : Tbl α := t.filter fun x => decide (f ≤ x.1 / 65536)
  let lanes := match s0.plan.image with
    | some p => s0.freshLanes p f
    | none => []
  let g : EngS := { e with
    frame := f, finished := false, eddyClosed := false, cutDone := false
    water := keep e.water, delivered := keep e.delivered
    concealed := e.concealed.filter fun k => decide (f ≤ k / 65536)
    reqs := e.reqs.filter fun q => decide (f ≤ q.frame)
    faults := [], passes := [], lanes := lanes, decided := [], overrun := [], counts := {}
    flag0 := false, flag1 := false, staged0 := false, staged1 := false, staged := [], stage1 := [], pfMiss := [] }
  let s1 : State := { s0 with eng := g }
  if s1.inRun f then
    let primed := match s1.plan.image with
      | some p => if s1.txn.priming || s1.ls = 2 then changeCone p s1.launchObjs else []
      | none => []
    (((s1.reseatLanes).entryMoves).startMain primed).presentHeld f
  else s1

/-! ### The boundary (R13, R28, R33) -/

/-- What every boundary does besides the engine: held entries, roles, references, authority, partner. -/
def State.boundaryWork (s : State) (e : FlipEnv) (f : Nat) : State :=
  let s1 := (((s.rebuildTick).containAll).restartTick).flushLogs
  let s2 := (((((doCrossfadeEnd (s1.publishLate f)).skimGenWaits).tellLate).txnTick).playTick).imageTick
  let s3 := ((((s2.sentinels f e.feeds e.sentCe).modTick).endClosing).ptpTick)
  let s4 := ((s3.selectTick).servoTick e.theta)
  let s5 := (List.range 15).foldl (fun (a : State) j => a.showOut j) s4
  let s6 := ((s5.authTick e.authInLow).sendHeartbeat).sendTime
  s6.signalTick

/-- TICK_BOUNDARY: the local time reaches T(n), and all work fixed to it begins (R13, R28, R33, R34).
[DEDUCED, log 21] -/
def doTick (e : FlipEnv) (s : State) : State :=
  let t := s.tick + 1
  let s1 := (doCutoff (doFinish {} s)).loseInputs s.tick e.lost
  let s2 := s1.reach (s1.tAt t)
  let f := t - 2
  let s3 : State := ({ s2 with ouv := { s2.ouv with out := [] } } : State).serveRec
  let s4 := if s1.inRun f && s1.eng.finished && s1.eng.frame == f then s3.flip f e else s3
  (doPriming (s4.boundaryWork e f)).beginFrame (t - 1)

/-- ENGINE_START: at T(m) the engine begins with frame m; inputs ramp in from g = 0 (R251, R252, R912). -/
def doEngineStart (s : State) : State := match s.eng.first with
  | none => s
  | some m =>
    if s.on Reg.TICK.STATUS.RUN || s.ns < s.tAt m || !s.on Reg.TICK.CFG.PLAN || !s.on Reg.TICK.STATUS.GRID then s
    else
      let first := max m s.tick
      let s1 : State := { s with
        eng := { s.eng.keep with first := some first, frame := first - 1, finished := true, ramp := s.eng.ramp.map fun _ => first }
        modFade := [] }
      (s1.put Reg.TICK.STATUS.RUN true).showHealth

/-! ### RE_EPOCH (R431 to R433) -/

/-- The new time of a RE_EPOCH at its T(k): that of the selected reference, which is the local time plus its phase offset,
or the commanded time (R431). [DEDUCED, log 20] -/
def State.epochTime (s : State) (x : EpochS) : Nat :=
  if x.src = 0 then ((s.ns : Int) + s.time.theta).toNat else x.base + (s.ns - x.at_)

/-- RE_EPOCH_STEP: at T(k) the local time steps; frames that have not been released are discarded, and the
engine starts again on the new grid (R431 to R433).  The reference's own time, which the row names, is known to the node
as its local time and the phase offset alone, so that the step goes by these. [DEDUCED, log 20]
[DESIGN CHOICE, log 96] -/
def doReEpoch (_refTime : Nat) (s : State) : State := match s.epoch with
  | none => s
  | some x =>
    if x.k = 0 || s.ns < s.tAt x.k then s
    else
      let new := s.epochTime x
      let was := s.on Reg.TICK.STATUS.RUN
      let s1 := ({ s with epoch := none, past := [] } : State).setLocal new
      let ins := s1.evins.map fun y => { y with epoch := true }
      let s2 := ({ s1 with evins := ins } : State).disarmAll
      let s3 := s2.count Reg.TIME.STATUS.EPOCHS
      let s4 := s3.log 0x0212 (le 8 x.k ++ le 6 s3.secs)
      if was then
        let m := s4.time.gridFirst
        let s5 : State := { s4.deliverPorts (fun _ => false) with eng := { s4.eng.keep with first := some m, ramp := some m } }
        (s5.put Reg.TICK.STATUS.RUN false).showHealth
      else ({ s4 with eng := { s4.eng with first := none } } : State).planStart

/-! ### Rows -/

/-- TICK_BOUNDARY (R13). -/
def execTickBoundary (e : FlipEnv) (s : State) : Out := .next (doTick e s)
/-- INTAKE_CUTOFF (R24). -/
def execIntakeCutoff (s : State) : Out := .next (doCutoff s)
/-- EDDY_DEADLINE (R29). -/
def execEddyDeadline (s : State) : Out := .next (doEddyClose s)
/-- FINISH_LINE (R31). -/
def execFinishLine (e : FinishEnv) (s : State) : Out := .next (doFinish e s)
/-- DELAY_PREFETCH_MISS (R35). -/
def execDelayPrefetchMiss (die cluster : Nat) (s : State) : Out := .next (doPrefetchMiss die cluster s)
/-- DELAY_WRITE_MISS (R36). -/
def execDelayWriteMiss (s : State) : Out := .next (doWriteMiss s)
/-- ENGINE_START (R912). -/
def execEngineStart (s : State) : Out := .next (doEngineStart s)
/-- RE_EPOCH_STEP (R432). -/
def execReEpochStep (refTime : Nat) (s : State) : Out := .next (doReEpoch refTime s)

end Sys2Proof.Machine
end

