-- ==== Sys2Proof/Machine/Power.lean ====
section
/-! DEFINITION. Power, reset and start-up: what each reset reaches and keeps, the boot sequence, supply
monitors and the backup domain (chapter 19). -/
namespace Sys2Proof.Machine

/-! ### What the package's resets keep (R903) -/

/-- Registers outside the package's resets: those that show MRAM contents, and the serial number.
[DEDUCED, log 53] -/
def keptRegs : List Nat :=
  [Reg.TXN.SCENE.USED.off, Reg.TXN.SCSEQ.SEQ.off, Reg.STORE.SILT.HEAD.off, Reg.SEC.SVN0.STEWARD.off,
    Reg.SEC.SVN1.KERNEL.off, Reg.SEC.TOKGEN.GEN.off, Reg.HOST.SCTR_LO.CTR.off, Reg.HOST.SCTR_HI.CTR.off,
    Reg.SYS.SN_LO.SN.off, Reg.SYS.SN_HI.SN.off]

/-- Whether a register offset lies in the backup domain's block. -/
def inBkup (off : Nat) : Bool := decide (0x1A0000 ≤ off) && decide (off < 0x1B0000)

/-- Whether a package reset keeps a register. -/
def regKept (off : Nat) : Bool := inBkup off || keptRegs.contains off

/-- Whether a fabric address holds its byte over a package reset: MRAM and ROM (R849, Table 15.2). -/
def addrKept (a : Nat) : Bool :=
  (decide (0x20000000 ≤ a) && decide (a < 0x21000000)) || decide (a < 0x10000000)

/-- A take as a reset leaves it: a running one keeps the frames that are programmed and journaled (R826, R827,
Table 19.3). [DEDUCED, log 53] -/
def keptTake (r : Option RecS) (t : Take) : Take :=
  match r with
  | some r =>
    if r.running && r.take == t.num then
      { t with blocks := (t.blocks.zipIdx.map fun (b, i) =>
        let n := min b.frames.length (r.done - 64 * i)
        { b with frames := b.frames.take n, gap := b.gap % 2 ^ n }).filter fun b => !b.frames.isEmpty }
    else t
  | none => t

/-- The store as a reset leaves it: pending versions, sessions and a running install are gone, and the slot
that was being written holds an image without a record (R841, R847, Table 19.3). [DEDUCED, log 53] -/
def StoreS.kept (x : StoreS) : StoreS :=
  let cut := match x.rcd with
    | some r => if r.running then some r.take else x.cut
    | none => x.cut
  let slot (i : Nat) (b : BootSlot) : BootSlot := match x.install with
    | some (k, image) => if k = i then { image := image } else b
    | none => b
  { formatted := x.formatted, good := x.good, total := x.total, bad := x.bad
    blocks := x.blocks.map fun e =>
      (e.1, { e.2 with used := e.2.used && x.pend.all (fun f => !f.blocks.contains e.1), seen := 0 })
    mib := x.mib, grown := x.grown
    spare := x.spare, journal := x.journal, files := x.files, takes := x.takes.map (keptTake x.rcd)
    nextTake := x.nextTake, cut := cut, slotA := slot 0 x.slotA, slotB := slot 1 x.slotB }

/-- What MRAM holds now, and what its journal says of the store (R849). [DEDUCED, log 56] -/
def State.mramNow (s : State) : MramS :=
  { regs := s.regs.filter fun e => keptRegs.contains e.1
    silt := s.silt, history := s.ref.history, scenes := s.txn.scenes, dirSeq := s.txn.dirSeq
    dirCopy := s.txn.dirCopy, prevDir := s.txn.prevDir, retired := s.guard.retired, store := s.store, keys := s.sec.keys, tilCh := s.tilCh }

/-- A state with what MRAM held when a supply monitor tripped: nothing written since has reached it; the boot
flash is not part of it (R826, R897). -/
def State.mramBack (s : State) : State :=
  match s.pwr.mram with
  | none => s
  | some m =>
    { s with
      regs := m.regs.foldl (fun t e => tblSet resetWord t e.1 e.2) (s.regs.filter fun e => !keptRegs.contains e.1)
      silt := m.silt
      ref := { s.ref with history := m.history }
      txn := { s.txn with scenes := m.scenes, dirSeq := m.dirSeq, dirCopy := m.dirCopy, prevDir := m.prevDir }
      guard := { s.guard with retired := m.retired }
      store := { m.store with slotA := s.store.slotA, slotB := s.store.slotB, install := s.store.install }
      sec := { s.sec with keys := m.keys }
      tilCh := m.tilCh }

/-- The state that both resets of the package leave before start-up: MRAM, the backup domain, the boot flash
and NAND stay, all else is as after reset (R903, R908). [DEDUCED, log 18] [DEDUCED, log 24] [DEDUCED, log 53] -/
def State.packageReset (s : State) : State :=
  let txn : TxnS := {
    scenes := s.txn.scenes, dirSeq := s.txn.dirSeq, dirCopy := s.txn.dirCopy, prevDir := s.txn.prevDir }
  let til (x : TilCh) : TilCh := { record := (x.next.getLast?.map Prod.fst).getD x.record, ref := x.ref }
  { State.reset with
    pending := s.pending
    free := s.free
    regs := s.regs.filter fun e => regKept e.1
    silt := s.silt
    ref := { history := s.ref.history.map fun h => { h with past := true } }
    time := { oscHz := s.time.oscHz, freq := s.time.freq }
    txn := txn
    guard := { retired := s.guard.retired }
    store := s.store.kept
    sec := { keys := s.sec.keys, kek := s.sec.kek, kekCause := s.sec.kekCause, trips := s.sec.trips }
    bus := { mem := s.bus.mem.filter fun c => addrKept c.1 }
    tilCh := s.tilCh.map fun e => (e.1, til e.2) }

/-! ### Start-up (R909) -/

/-- Positions of a cluster that are not retired, rising. -/
def State.livePos (s : State) (c : Nat) : List Nat :=
  (List.range 9).filter fun l => !s.guard.retired.contains (flatPos c l)

/-- The role map of a cluster from the retirement map (R239). -/
def State.roleMap (s : State) (c : Nat) : State :=
  let live := s.livePos c
  let s1 := (List.range 9).foldl (fun (a : State) l =>
    a.wr (lstatFld c l) (if !live.contains l then 3 else if (live.take 8).contains l then 0 else 1)) s
  (List.range 8).foldl (fun (a : State) k => a.wr (roleFld c k) (live.getD k 15)) s1

/-- The slots with a valid record, the highest SEQ first (R846, R860). -/
def State.bootOrder (s : State) : List Nat :=
  let l := (List.range 2).filter fun i => (s.bootSlot i).valid
  if l.length = 2 && (s.bootSlot 0).seq < (s.bootSlot 1).seq then [1, 0] else l

/-- Try slots in order: the one that passes, and those rejected as (slot, object type, reason) (R858 to
R861). [DEDUCED, log 55] -/
def State.tryBoot (s : State) : List Nat → Option Nat × List (Nat × Nat × Nat)
  | [] => (none, [])
  | i :: r => match s.imageCheck (s.bootSlot i).image with
    | none => (some i, [])
    | some (t, why) =>
      let (x, l) := s.tryBoot r
      (x, (i, t, why) :: l)

/-- A slot that holds an image but no valid record is logged (R847). -/
def State.logInstall (s : State) (i : Nat) : State :=
  let x := s.bootSlot i
  if !x.image.isEmpty && !x.valid then s.siltWrite 0x0706 (le 1 i) else s

/-- The KEK at start-up: absent or invalid, the key store region is erased and the cause logged (R878).
[DEDUCED, log 14] -/
def State.bootKeys (s : State) (kek : Bool) (had : Bool) : State :=
  if had && kek then s.put Reg.SEC.STATUS.KEK true
  else
    let s1 := if had then s.eraseKeys 0 else { s with sec := { s.sec with keys := [] } }
    s1.siltWrite 0x0805 (le 1 s1.sec.kekCause)

/-- Trips on VBAT alone are recorded at the boot that follows (R885). [DEDUCED, log 14] -/
def State.bootTrips (s : State) : State :=
  let s1 := s.sec.trips.foldl (fun (a : State) (i, act) =>
    (a.count Reg.SEC.CNT.TAMPER).siltWrite 0x0804 (le 1 i ++ le 1 act)) s
  { s1 with sec := { s1.sec with trips := [] } }

/-- Show the battery: MV10, VBATOK within 1.8 to 3.6 V, and the domain on VDDIO_18. -/
def State.showVbat (s : State) (mv10 : Nat) : State :=
  ((s.wrSat Reg.BKUP.VBAT.MV10 mv10).put Reg.BKUP.STATUS.VBATOK (decide (180 ≤ mv10) && decide (mv10 ≤ 360))).put
    Reg.BKUP.STATUS.ONVBAT false

/-- The part halts with no slot to run (R861). [DEDUCED, log 55] -/
def State.halt (s : State) (why : Nat) : State :=
  (({ s with pwr := { s.pwr with halted := true } }).wr Reg.SEC.STATUS.BOOT 3).wr Reg.SEC.STATUS.REASON why

/-- The steward runs from a slot: versions, board record, dies, sentinels and scenes, up to IDLE (R407, R847, R862, R867,
R878, R885, R890, R907, R909). [DEDUCED, log 23] -/
def State.stewardUp (s : State) (i : Nat) (rejected : List (Nat × Nat × Nat)) (had : Bool) (b : BootEnv) : State :=
  let image := (s.bootSlot i).image
  let s1 := (((((s.wr Reg.SEC.RUNSVN.STEWARD (objSvn image)).wr Reg.SEC.RUNSVN.TILCA (objSvn (tilcaObj image))).put
    Reg.SYS.REMAP.SWAP true).setWord Reg.DRAM.CFG.ECC.off (b.dramCfg &&& 0xFF#32)).put
    Reg.DRAM.CTRL.LOCK true).wr Reg.DRAM.STAT.STATE 1
  let s2 := (((s1.put Reg.SYS.PWR.CD0OK b.cd0Ok).put Reg.SYS.PWR.CD1OK b.cd1Ok).wr Reg.STORE.BOOT.BOOTED i).put
    Reg.STORE.STAT.JRN true
  let s3 := ((s2.put Reg.STORE.BOOT.AVALID s2.store.slotA.valid).put Reg.STORE.BOOT.BVALID s2.store.slotB.valid).wr
    Reg.SEC.STATUS.CRYPTO (if b.cryptoOk then 1 else 2)
  let s4 := ((List.range 32).foldl (fun (a : State) c => a.roleMap c) s3).showHealth
  let s5 := rejected.foldl (fun (a : State) (n, t, why) => a.siltWrite 0x0801 (le 1 n ++ le 1 t ++ le 1 why)) s4
  let s6 := (List.range 2).foldl (fun (a : State) n => a.logInstall n) s5
  let s7 := if b.cryptoOk then s6 else s6.siltWrite 0x0807 (le 1 Config.algorithmCode)
  let s8 := ((s7.bootKeys b.kekOk had).bootTrips).siltWrite 0x0901
    (le 1 (s.word Reg.SYS.RSTCAUSE.POR.off).toNat ++ le 4 (s.rd Reg.BKUP.LOSSCNT.COUNT))
  (s8.mountScenes b.dir0 b.dir1).setPw pwIdle

/-- The boot ROM: self-tests, the choice of a slot, and either the steward or a halt (R859 to R861).
[DEDUCED, log 23] [DEDUCED, log 55] -/
def State.boot (s : State) (had : Bool) (b : BootEnv) : State :=
  let s1 := (s.put Reg.SEC.STATUS.KEK had).showVbat b.vbat
  if !b.romOk then s1.halt 0
  else
    let (x, rejected) := s1.tryBoot s1.bootOrder
    let s2 := s1.count Reg.SEC.CNT.SIGFAIL rejected.length
    let why := ((rejected.getLast?).map fun e => e.2.2).getD 6
    match x with
    | none => s2.halt why
    | some i => (s2.wr Reg.SEC.STATUS.REASON (if rejected.isEmpty then 0 else why)).stewardUp i rejected had b

/-! ### Resets (R903 to R908) -/

/-- Fold-back as a mirror restores it: its level; its times count from the restart. [DEDUCED, log 54] -/
def FoldS.resumed (f : FoldS) : FoldS := { k := f.k, mute := f.mute, recov := f.recov.map fun _ => 0 }

/-- A model as a mirror restores it, aged under PRATED by the time since (R670). [DEDUCED, log 54] -/
def TilCh.resumed (x : TilCh) (age : Nat) (m : TilM) : TilM :=
  if x.cls = 0 then { m with ft := m.ft.resumed }
  else
    let y : TilCh := { x with m := m }
    let h := y.heat age (x.fld 20 2 : Rat)
    { h with ft := h.ft.resumed }

/-- The sentinels of a state resume from the mirrors of the state before the reset (R906). [DEDUCED, log 54] -/
def State.resumeMirrors (s old : State) : State :=
  old.tilG.foldl (fun (a : State) (g, x) => match x.mirror with
    | none => a
    | some (t, ms, fg) =>
      let pairs := ((chansOf g).zip ms).filter fun e => (mapGet a.tilCh e.1).isSome
      let news := pairs.map fun e => (e.1, (a.tc e.1).resumed (old.run - t) e.2)
      let b := news.foldl (fun (c : State) (n, m) => c.setTc n { c.tc n with m := m }) a
      let all := (chansOf g).map fun n => (b.tc n).m
      (b.setTg g { fg := fg.resumed, mirror := some (0, all, fg.resumed) }).showTil g) s

/-- Power-on reset: the cause is POR, and SUPPLY where a monitor had tripped; history entries written before
are not used, and OSCSEL is sampled (R492, R498, R897, R903). [DEDUCED, log 23] [DEDUCED, log 24] [DEDUCED, log 56]
[DESIGN CHOICE, log 83] -/
def doPowerOn (b : BootEnv) (s : State) : State :=
  let s0 := s.mramBack
  let hist := s0.ref.history.map fun h => { h with used := false }
  let s1 := s0.packageReset
  let s2 : State := { s1 with
    ref := { s1.ref with history := hist }
    time := { s1.time with freq := 0, oscHz := if b.oscsel then 49152000 else 10000000 } }
  (s2.put Reg.SYS.RSTCAUSE.SUPPLY s.pwr.tripped).boot s.sec.kek.isSome b

/-- The bit of a cause in `SYS.RSTCAUSE`. -/
def causeFld : ResetCause → Fld
  | .pin => Reg.SYS.RSTCAUSE.PIN
  | .watchdog => Reg.SYS.RSTCAUSE.WDOG
  | .lockstep => Reg.SYS.RSTCAUSE.LOCKSTEP
  | .soft => Reg.SYS.RSTCAUSE.SOFT

/-- IOD reset: as power-on, but the debug state, the sentinel mirrors and the set cause bits stay (R903, R906,
R907). [DEDUCED, log 23] -/
def doIodReset (c : ResetCause) (b : BootEnv) (s : State) : State :=
  let s1 := (s.packageReset).setWord Reg.SYS.RSTCAUSE.POR.off (s.word Reg.SYS.RSTCAUSE.POR.off)
  let s2 := (s1.put (causeFld c) true).put Reg.SEC.STATUS.DEBUG (s.on Reg.SEC.STATUS.DEBUG)
  (s2.resumeMirrors s).boot s.sec.kek.isSome b

/-- IOD_RESET: a software reset has fallen due 10 us after its write (R903, R905). [DEDUCED, log 56] -/
def doIodRow (c : ResetCause) (b : BootEnv) (s : State) : State :=
  if s.pwr.tripped then s
  else match c with
    | .soft => match s.pwr.softAt with
      | none => s
      | some t => doIodReset .soft b (s.reach (s.ns + (t - s.run)))
    | .pin => doIodReset .pin b s
    | .watchdog => doIodReset .watchdog b s
    | .lockstep => doIodReset .lockstep b s

/-- STEWARD_LOCKSTEP_MISMATCH: AUTH_OUT is driven low, then an IOD reset follows (R357, R904). -/
def doLockstep (b : BootEnv) (s : State) : State := doIodRow .lockstep b (s.dropAuth 3)

/-! ### Supplies and the backup domain (R896 to R902) -/

/-- SUPPLY_MONITOR_TRIP on a rail of groups 1 to 4: gates inactive, AUTH_OUT and clock outputs low, SAP_DO at
high impedance, and no MRAM write lands, until POR_N next rises (R896, R897). [DEDUCED, log 56] -/
def doSupplyTrip (rail : Nat) (s : State) : State :=
  if rail = 0 || 4 < rail then s
  else
    let s1 : State := { s with
      pwr := { s.pwr with tripped := true, mram := if s.pwr.tripped then s.pwr.mram else some s.mramNow }
      modCh := s.modCh.map fun e => (e.1, e.2.off)
      ref := { s.ref with outs := s.ref.outs.map fun x => { x with running := false } }
      sap := s.sap.map fun e => (e.1, { e.2 with out := [] }) }
    s1.dropPin

/-- BACKUP_POWER_ON: the BKUP fields take their Reset values, the KEK is erased, BLOST is set (R901). -/
def doBackupPowerOn (s : State) : State :=
  let s1 := s.resetRange 0x1A0000 0x1B0000
  ({ s1 with sec := { s1.sec with keys := [], kek := none, active := [], kekCause := 0, trips := [] } }).put Reg.SEC.STATUS.KEK false

/-- VBAT_SWITCHOVER: the domain runs from VBAT, and LOSSCNT counts it (R902). -/
def doVbat (s : State) : State :=
  if s.on Reg.BKUP.STATUS.ONVBAT then s
  else (s.put Reg.BKUP.STATUS.ONVBAT true).count Reg.BKUP.LOSSCNT.COUNT

/-! ### Rows -/

/-- POWER_ON_RESET (R903). -/
def execPowerOnReset (b : BootEnv) (s : State) : Out := .next (doPowerOn b s)
/-- IOD_RESET (R903). -/
def execIodReset (c : ResetCause) (b : BootEnv) (s : State) : Out := .next (doIodRow c b s)
/-- STEWARD_WATCHDOG (R904). -/
def execStewardWatchdog (b : BootEnv) (s : State) : Out := .next (doIodRow .watchdog b s)
/-- STEWARD_LOCKSTEP_MISMATCH (R904). -/
def execStewardLockstepMismatch (b : BootEnv) (s : State) : Out := .next (doLockstep b s)
/-- SUPPLY_MONITOR_TRIP (R897): the rail's group. -/
def execSupplyMonitorTrip (rail : Nat) (s : State) : Out := .next (doSupplyTrip rail s)
/-- BACKUP_POWER_ON (R901). -/
def execBackupPowerOn (s : State) : Out := .next (doBackupPowerOn s)
/-- VBAT_SWITCHOVER (R902). -/
def execVbatSwitchover (s : State) : Out := .next (doVbat s)

end Sys2Proof.Machine
end

