-- ==== Sys2Proof/Machine/Access.lean ====
section
/-! DEFINITION. Reads and writes of register space: access types, ranges, locks, shadowed fields, latches
and what each written field sets off (chapter 20). -/
namespace Sys2Proof.Machine

/-! ### Offsets of arrays (R926) -/

/-- The element of a register array at an offset. -/
def arrIdx (base stride count off : Nat) : Option Nat :=
  if base ≤ off && (off - base) % stride == 0 && decide ((off - base) / stride < count) then
    some ((off - base) / stride)
  else none

/-- A test of an array's element; any other offset passes. -/
def onArr (base stride count off : Nat) (f : Nat → Bool) : Bool :=
  match arrIdx base stride count off with
  | some i => f i
  | none => true

/-! ### Ranges of fields -/

/-- A field's range: the array it stands in, its lowest bit, its least and its largest value.  A write
outside it leaves the field unchanged. -/
structure Range where
  base : Nat
  stride : Nat
  count : Nat
  lo : Nat
  least : Nat
  most : Nat
  deriving DecidableEq, Repr

/-- Ranges of blocks GUARD to NET. -/
def ranges1 : List Range :=
  [⟨0x60004, 4, 1, 0, 1, 6000⟩, ⟨0x60080, 4, 1, 4, 1, 15⟩, ⟨0x60080, 4, 1, 16, 100, 60000⟩,
   ⟨0x6008C, 4, 1, 0, 1, 15⟩, ⟨0x70000, 4, 1, 0, 0, 16⟩, ⟨0x80020, 4, 1, 0, 1, 1000⟩,
   ⟨0x80020, 4, 1, 16, 1, 65535⟩, ⟨0x80030, 4, 1, 0, 0, 2⟩, ⟨0x90004, 4, 1, 0, 0, 3600⟩,
   ⟨0x90004, 4, 1, 12, 1, 200⟩, ⟨0x90040, 16, 10, 16, 1, 200⟩, ⟨0xA0004, 4, 1, 16, 10, 65535⟩,
   ⟨0xA0100, 64, 4, 2, 0, 2⟩, ⟨0xA0100, 64, 4, 5, 1500, 9000⟩, ⟨0xA0110, 64, 4, 0, 8, 30⟩]

/-- Ranges of blocks SAP to HOST. -/
def ranges2 : List Range :=
  [⟨0xD0000, 64, 32, 2, 0, 2⟩, ⟨0xD0000, 64, 32, 5, 0, 2⟩, ⟨0xD0004, 64, 32, 6, 0, 2⟩,
   ⟨0xD0004, 64, 32, 8, 0, 2⟩, ⟨0xD0010, 64, 32, 2, 0, 13⟩, ⟨0x100004, 4, 1, 0, 20, 200⟩,
   ⟨0x100004, 4, 1, 9, 1, 2000⟩, ⟨0x120004, 4, 1, 0, 100, 2000⟩, ⟨0x120004, 4, 1, 11, 1, 500⟩,
   ⟨0x120040, 16, 16, 10, 1, 50⟩, ⟨0x140004, 4, 1, 8, 50, 65535⟩, ⟨0x140018, 4, 1, 1, 4, 12⟩,
   ⟨0x140110, 32, 16, 1, 4, 12⟩, ⟨0x140110, 32, 16, 5, 0, 14⟩]

/-- Ranges of blocks BUS to BKUP. -/
def ranges3 : List Range :=
  [⟨0x150040, 16, 14, 0, 0, 14⟩, ⟨0x160010, 4, 1, 0, 10, 1000⟩, ⟨0x170100, 16, 32, 8, 0, 14⟩,
   ⟨0x180010, 4, 1, 0, 16, 255⟩, ⟨0x180010, 4, 1, 8, 50, 4095⟩, ⟨0x180010, 4, 1, 20, 1, 30⟩,
   ⟨0x180014, 4, 1, 0, 1000, 16777215⟩, ⟨0x1A0020, 4, 1, 4, 1, 15⟩, ⟨0x1A0020, 4, 1, 12, 1, 15⟩,
   ⟨0x1A0020, 4, 1, 20, 1, 15⟩, ⟨0x1A0020, 4, 1, 28, 1, 15⟩]

/-- Whether a field's new value lies in its range. [DEDUCED, log 57] -/
def inRange (off lo v : Nat) : Bool :=
  (ranges1 ++ ranges2 ++ ranges3).all fun r =>
    !(r.lo == lo && (arrIdx r.base r.stride r.count off).isSome) || (decide (r.least ≤ v) && decide (v ≤ r.most))

/-- Rate codes that a clock output takes (`REFSEL.OUT[j].CFG.RATE`). -/
def outRateOk (j v : Nat) : Bool := if j < 4 then v != 3 else if j = 6 then true else decide (v < 2)

/-- Fields of blocks TIME to NET that a write leaves unchanged for a reason beside its range: intervals
(R436), a key that is not loaded, reserved codes, R510, R512, R519 and R566. [DEDUCED, log 57] -/
def State.fieldOk1 (s : State) (off lo v : Nat) (w : Word) : Bool :=
  (off != 0x80038 || intervalOk (s.rd Reg.TIME.PTPCLK.PROFILE) (lo / 4) v) &&
  (off != 0x8003C || lo != 8 || (s.keyById 3 0 v).isSome) &&
  (onArr 0x90040 16 10 off fun i => lo != 14 || v != 3 || !(i == 4 || i == 5)) &&
  (onArr 0x90100 16 15 off fun j => lo != 2 || outRateOk j v) &&
  (onArr 0x90104 16 15 off fun _ => decide (-500000000 ≤ toInt 32 v) && decide (toInt 32 v ≤ 500000000)) &&
  (off != 0x90008 || (decide (10 ≤ getBits w 0 10) && decide (getBits w 0 10 ≤ 900) &&
    decide (getBits w 10 9 ≤ 300) && decide (getBits w 0 10 + getBits w 10 9 ≤ 1020))) &&
  (off != 0xA0004 || (getBits w 0 2 != getBits w 4 2 && getBits w 2 2 != getBits w 6 2)) &&
  (onArr 0xA0100 64 4 off fun p =>
    let on := s.on (Reg.NET.PORT.CFG.EN p)
    let fast := if on then s.on (Reg.NET.PORT.CFG.SPEED p) else getBits w 1 1 == 1
    (lo != 1 || !on) && (lo != 2 || (!on && (fast || v != 2)))) &&
  (onArr 0xA0104 64 4 off fun p => !s.on (Reg.NET.PORT.CFG.EN p)) &&
  (onArr 0xA0108 64 4 off fun p => !s.on (Reg.NET.PORT.CFG.EN p))

/-- The same for blocks SAP to DMA: settings of a running port (R571) and of an armed mask (R578), ring bases
and sizes (R687), REQ, QoS of CMD0, and channels that are not IDLE (R809).  The EN bits of serial ports
and stage groups and the ARM bit act through their own rules. [DEDUCED, log 57] [DEDUCED, log 59] -/
def State.fieldOk2 (s : State) (off lo v : Nat) : Bool :=
  (onArr 0xD0000 64 32 off fun p => lo != 0 && !s.on (Reg.SAP.P.CFG.EN p) &&
    (lo != 12 || v == 0 || decide (4 ≤ v))) &&
  (onArr 0xD0004 64 32 off fun p => !s.on (Reg.SAP.P.CFG.EN p)) &&
  (onArr 0xD0008 64 32 off fun p => !s.on (Reg.SAP.P.MCTRL.ARM p)) &&
  (onArr 0xD0010 64 32 off fun _ => lo != 0) &&
  (onArr 0x100100 32 16 off fun _ => lo != 0) &&
  (off != 0x140004 || lo != 0 || v == 1 || !s.on Reg.HOST.CFG.REQ) &&
  ((off != 0x140010 && off != 0x140014 && (off != 0x140018 || lo != 1)) || !s.on Reg.HOST.EVCFG.EN) &&
  (onArr 0x140100 32 16 off fun r => !s.on (Reg.HOST.RING.CFG.EN r)) &&
  (onArr 0x140104 32 16 off fun r => !s.on (Reg.HOST.RING.CFG.EN r)) &&
  (onArr 0x140108 32 16 off fun r => !s.on (Reg.HOST.RING.CFG.EN r)) &&
  (onArr 0x14010C 32 16 off fun r => !s.on (Reg.HOST.RING.CFG.EN r)) &&
  (onArr 0x140110 32 16 off fun r => (lo != 1 || !s.on (Reg.HOST.RING.CFG.EN r)) && (lo != 5 || r != 0)) &&
  (onArr 0x170100 16 32 off fun c => s.dmaState c == dmaIdle && (lo != 0 || decide (v ≤ 79) || v == 127)) &&
  (onArr 0x170108 16 32 off fun c => s.dmaState c == dmaIdle) &&
  (onArr 0x17010C 16 32 off fun c => s.dmaState c == dmaIdle)

/-- Whether a write sets a field to `v`. -/
def State.fieldOk (s : State) (off lo v : Nat) (w : Word) : Bool :=
  inRange off lo v && s.fieldOk1 off lo v w && s.fieldOk2 off lo v

/-! ### Locks (R934, R935) -/

/-- The lock bit of the LK fields at an offset (Table 20.1). -/
def lockFld (off : Nat) : Option Fld :=
  match off / 0x10000 with
  | 16 | 17 => some Reg.MOD.CTRL.LOCK
  | 18 | 19 => some Reg.TILCA.CTRL.LOCK
  | 20 => some Reg.HOST.CTRL.LOCK
  | 21 => some Reg.BUS.CTRL.LOCK
  | 22 => some Reg.DRAM.CTRL.LOCK
  | 25 | 26 => some Reg.SEC.CTRL.LOCK
  | _ => none

/-- Whether the LK fields at an offset are locked. -/
def State.lockedAt (s : State) (off : Nat) : Bool := (lockFld off).any s.on

/-- What a write does to one field by its type: the word so far, and whether a locked field would have changed
(R8, R9, R935). [DEDUCED, log 57] -/
def State.writeField (s : State) (off : Nat) (w : Word) (acc : Word × Bool) (f : RField) : Word × Bool :=
  let v := getBits w f.lo f.w
  let old := getBits (s.word off) f.lo f.w
  let ok := s.fieldOk off f.lo v w
  match f.ty with
  | .ro | .wo | .sh => acc
  | .rw => if ok then (putBits acc.1 f.lo f.w v, acc.2) else acc
  | .lk =>
    if !ok then acc
    else if s.lockedAt off then (acc.1, acc.2 || v != old)
    else (putBits acc.1 f.lo f.w v, acc.2)
  | .w1c => (putBits acc.1 f.lo f.w (old - (old &&& v)), acc.2)
  | .w1s => if ok then (putBits acc.1 f.lo f.w (old ||| v), acc.2) else acc

/-! ### Counter clears (R931) -/

/-- Fields back at their Reset values. [DEDUCED, log 60] -/
def State.clr (s : State) (fs : List Fld) : State :=
  fs.foldl (fun (a : State) f => a.wr f (getBits (resetWord f.off) f.lo f.w)) s

/-- Whole registers back at their Reset values. -/
def State.clrWords (s : State) (os : List Nat) : State :=
  os.foldl (fun (a : State) o => a.setWord o (resetWord o)) s

/-- Offsets of an array's elements. -/
def offs (base stride count : Nat) : List Nat := (List.range count).map fun i => base + stride * i

/-- CLR_CNT of the control register at an offset: what its block names goes back to its Reset value, with the
1,000 ms windows behind it. [DEDUCED, log 60] -/
def State.clearAt (s : State) (off : Nat) : State :=
  match off with
  | 0x10008 =>
    let s1 : State := { s with eng := { s.eng with peaks := [] } }
    (s1.clrWords [0x10020]).clr ((List.range 32).flatMap fun c => [Reg.TICK.CLSTAT.OVR c, Reg.TICK.CLSTAT.PEAK c])
  | 0x1003C =>
    let s1 : State := { s with eng := { s.eng with lows := [] } }
    s1.clrWords [0x10028, 0x1002C, 0x10030, 0x10034]
  | 0x20010 => s.clr [Reg.GRAPH.RTSTAT.ZCTO]
  | 0x40000 => s.clrWords (0x40008 :: (List.range 32).flatMap fun c =>
      [0x40104 + 32 * c, 0x40108 + 32 * c, 0x4010C + 32 * c, 0x40118 + 32 * c])
  | 0x60000 => (s.clrWords [0x6000C, 0x60010, 0x60088]).clr
      (Reg.GUARD.OUVSTAT.CRCERR :: (List.range 8).map fun r => Reg.GUARD.ALT.ENTRIES r)
  | 0x7003C => s.clrWords [0x70020, 0x70024, 0x70028]
  | 0x80000 => s.clrWords (offs 0x8004C 16 4 ++ offs 0x80140 4 16)
  | 0x90000 => s.clrWords (0x90018 :: offs 0x9004C 16 10)
  | 0xA0000 => s.clrWords (offs 0xA0120 64 4 ++ offs 0xA0124 64 4 ++ offs 0xA0128 64 4 ++ offs 0xA012C 64 4)
  | 0xC0000 => s.clearStreams
  | 0x100000 => s.clrWords (0x10000C :: offs 0x100408 16 128)
  | 0x120000 => s.clrWords (offs 0x120048 16 16)
  | 0x140000 => (s.clrWords (0x14002C :: offs 0x140118 32 16)).clr [Reg.HOST.STAT.CPL0LOST]
  | 0x150000 =>
    let s1 : State := { s with bus := { s.bus with waits := [] } }
    (s1.clrWords (offs 0x150048 16 14 ++ offs 0x150208 16 9)).clr
      (((List.range 14).map fun m => Reg.BUS.M.STAT.RESETS m) ++ (List.range 9).map fun t => Reg.BUS.T.STAT.WAITMAX t)
  | 0x160000 => (s.clrWords ([0x160018, 0x16001C] ++ offs 0x16010C 32 8)).clr [Reg.DRAM.REF.FORCED]
  | 0x170000 => s.clr ((List.range 32).flatMap fun c => [Reg.DMA.CH.STAT.APPIGN c, Reg.DMA.CH.STAT.REQLOST c])
  | 0x180000 => s.clrWords [0x180018]
  | 0x190000 => s.clrWords [0x190020]
  | _ => match arrIdx 0xD002C 64 32 off with
    | some p => s.clrWords [0xD0018 + 64 * p, 0xD001C + 64 * p, 0xD0020 + 64 * p]
    | none => s

/-- Offsets of the control registers with a CLR_CNT (or CLR, CLR_ZCTO) bit; all hold it in bit 0. -/
def clearOffs : List Nat :=
  [0x10008, 0x1003C, 0x20010, 0x40000, 0x60000, 0x7003C, 0x80000, 0x90000, 0xA0000, 0xC0000, 0x100000, 0x120000,
    0x140000, 0x150000, 0x160000, 0x170000, 0x180000, 0x190000] ++ offs 0xD002C 64 32

/-! ### What written fields set off -/

/-- A change of an EN bit: rose, fell or stayed. [DEDUCED, log 58] -/
def State.edgeOf (s old : State) (f : Fld) : Option Bool :=
  if s.on f == old.on f then none else some (s.on f)

/-- Block TIME: PTP settings, event inputs and launch outputs (R435, R437, R458, R463 to R465).
[DEDUCED, log 59] -/
def State.hookTime (s old : State) (off : Nat) (w : Word) : State :=
  match arrIdx 0x80214 32 8 off with
  | some j =>
    let s1 := if getBits w 1 1 = 1 then s.disarm j else s
    if getBits w 0 1 = 1 then s1.arm j else s1
  | none =>
    match arrIdx 0x80100 4 16 off with
    | some i => if s.edgeOf old (Reg.TIME.EVCFG.EN i) = some true then s.edgeEnable i else s
    | none =>
      match arrIdx 0x80040 16 4 off with
      | some p => match s.edgeOf old (Reg.TIME.PORT.PCFG.EN p) with
        | none => s
        | some on => s.portEnable p on
      | none =>
        if off = 0x80030 then
          let (a, b, c, d) := profileInts (s.rd Reg.TIME.PTPCLK.PROFILE)
          ((((s.wr Reg.TIME.PTPINT.SYNC a).wr Reg.TIME.PTPINT.ANN b).wr Reg.TIME.PTPINT.DREQ c).wr Reg.TIME.PTPINT.ANNTO d).ptpRestart
        else s

/-- Block REFSEL: slots and clock outputs (R476, R502). -/
def State.hookRef (s old : State) (off : Nat) : State :=
  match arrIdx 0x90040 16 10 off with
  | some i => match s.edgeOf old (Reg.REFSEL.SLOT.CFG.EN i) with
    | some on => s.slotEnable i on
    | none => s.judge i
  | none => match arrIdx 0x90100 16 15 off with
    | some j => match s.edgeOf old (Reg.REFSEL.OUT.CFG.EN j) with
      | some on => s.outEnable j on
      | none => s
    | none => s

/-- Block SAP: start, stop and mask arming (R574, R591, R592). -/
def State.hookSap (s : State) (off : Nat) (w : Word) : State :=
  match arrIdx 0xD0000 64 32 off with
  | some p => if getBits w 0 1 = 1 then (if s.on (Reg.SAP.P.CFG.EN p) then s else sapStart p s) else sapStop p s
  | none => match arrIdx 0xD0010 64 32 off with
    | some p => if getBits w 0 1 = 1 then sapArm p s else s
    | none => s

/-- Block MOD: groups and channels (R618). -/
def State.hookMod (s old : State) (off : Nat) (w : Word) : State :=
  match arrIdx 0x100100 32 16 off with
  | some g => if getBits w 0 1 = 1 then groupOn g s else if s.on (Reg.MOD.G.CFG.EN g) then groupOff g s else s
  | none => match arrIdx 0x100400 16 128 off with
    | some n => match s.edgeOf old (Reg.MOD.CH.CFG.EN n) with
      | some on => chanEnable n on s
      | none => s
    | none => s

/-- Block HOST: rings, the event ring and the lock (R687, R715, R964). -/
def State.hookHost (s old : State) (off : Nat) : State :=
  match arrIdx 0x140110 32 16 off with
  | some r =>
    let s1 := match s.edgeOf old (Reg.HOST.RING.CFG.EN r) with
      | some true => s.ringOn r
      | some false => s.ringOff r
      | none => s
    if s.on (Reg.HOST.RING.CFG.EN r) then s1.put (Reg.HOST.RING.STAT.BADIDX r) false else s1
  | none =>
    if off = 0x140018 then
      (if s.edgeOf old Reg.HOST.EVCFG.EN = some true then s.evtOn.drainEvents else s)
    else if off = 0x140000 && s.on Reg.HOST.CTRL.LOCK && !old.on Reg.HOST.CTRL.LOCK && s.on Reg.HOST.CFG.REQ then
      ({ s with host := { s.host with lockHard := true } }).put Reg.HOST.STAT.LOCKED true
    else s

/-- Block DMA: START, STOP and APPEND by channel bit (R805, R808, R810). -/
def State.hookDma (s : State) (off : Nat) (w : Word) : State :=
  match off with
  | 0x170004 => s.eachBit w.toNat State.dmaStart
  | 0x170008 => s.eachBit w.toNat State.dmaStop
  | 0x17000C => s.eachBit w.toNat State.dmaAppend
  | _ => s

/-- Block SYS: a software reset falls due 10 us after its write (R905), and the steward alone sets SWAP. -/
def State.hookSys (s : State) (q : Requester) (off : Nat) (w : Word) : State :=
  if off = 0x34 && getBits w 0 1 = 1 && getBits w 8 8 = 0xA5 then
    { s with pwr := { s.pwr with softAt := some (s.pwr.softAt.getD (s.run + 10000)) } }
  else if off = 0x10 && q = .steward then s.wr Reg.SYS.REMAP.SWAP (getBits w 0 1)
  else s

/-- What a write sets off beside the fields that it stores; `old` is the state before it. [DEDUCED, log 58] -/
def State.hook (s old : State) (q : Requester) (off : Nat) (w : Word) : State :=
  let s1 := if clearOffs.contains off && getBits w 0 1 = 1 then s.clearAt off else s
  match off / 0x10000 with
  | 0 => s1.hookSys q off w
  | 8 => s1.hookTime old off w
  | 9 => s1.hookRef old off
  | 13 | 14 | 15 => s1.hookSap off w
  | 16 | 17 => s1.hookMod old off w
  | 20 => s1.hookHost old off
  | 23 => s1.hookDma off w
  | _ => s1

/-! ### One access -/

/-- Whether a requester has a path to register space: the debug master only after DEBUG_UNLOCK (R887).
[DEDUCED, log 62] [DEDUCED, log 63] -/
def State.hasPath (s : State) (q : Requester) : Bool := q != .debug || s.on Reg.SEC.STATUS.DEBUG

/-- Whether a write is turned away whole: R715 for BAR0 outside HOST, R887. [DEDUCED, log 55] -/
def State.writeBarred (s : State) (q : Requester) (off : Nat) : Bool :=
  !s.hasPath q || (q == .pcie && s.host.lockHard && off / 0x10000 != 20)

/-- The write of a mapped register, field by field; SH bits become a register item (R8, R363, R935, R936).
[DEDUCED, log 62] -/
def State.writeMapped (s : State) (q : Requester) (off : Nat) (fs : List RField) (w : Word) : State :=
  let r := fs.foldl (s.writeField off w) (s.word off, false)
  let s1 := s.setWord off r.1
  let s2 := if fs.any (fun f => f.ty == .sh) then s1.shItem off w else s1
  let s3 := s2.hook s q off w
  (if r.2 then s3.violate q else s3).showEval s

/-- A 32-bit write of register space at a BAR0 offset (R8, R11, R717, R922, R925). -/
def State.writeReg (s : State) (q : Requester) (off : Nat) (w : Word) : State :=
  if s.pwr.halted then s
  else if s.writeBarred q off || off % 4 ≠ 0 then s.violate q
  else match regFields off with
    | some fs => s.writeMapped q off fs w
    | none =>
      if 0x200000 ≤ off && off < 0x210000 then
        let i := (off - 0x200000) / 8
        if off % 8 = 0 then s.routeLow i w else s.routeHigh i w
      else if q = .steward then s else s.violate q

/-! ### Reads (R928, R929) -/

/-- The word that a register shows now: live time and tick count, SH fields of the topcoat (R937), and 15 as the
QoS of CMD0; WO and reserved bits read 0. -/
def State.liveWord (s : State) (off : Nat) : Word :=
  match off with
  | 0x10010 => BitVec.ofNat 32 s.tick
  | 0x10014 => BitVec.ofNat 32 (s.tick / 2 ^ 32)
  | 0x80010 => BitVec.ofNat 32 s.secs
  | 0x80014 => BitVec.ofNat 32 (s.secs / 2 ^ 32 % 65536)
  | 0x80018 => BitVec.ofNat 32 (s.ns % 1000000000)
  | 0x8001C => BitVec.ofNat 32 (s.time.now / 2 ^ 24 % 65536)
  | 0x140110 => putBits (s.word off) 5 4 15
  | _ =>
    if 0x100400 ≤ off && off < 0x100C00 && off % 16 == 4 then (s.showCh ((off - 0x100400) / 16)).word off
    else match s.plan.shown with
    | none => s.word off
    | some t =>
      let m := BitVec.ofNat 32 (shMask off)
      (s.word off &&& ~~~m) ||| (tblGet resetWord t off &&& m)

/-- The registers that a read of the first one latches (Table 20.3). [DEDUCED, log 61] -/
def latchGroup (off : Nat) : List Nat :=
  match off with
  | 0x10010 => [0x10014]
  | 0x80010 => [0x80014, 0x80018, 0x8001C]
  | _ =>
    if off = Reg.TXN.LAUNCH_LO.L.off then [Reg.TXN.LAUNCH_HI.L.off]
    else if off = Reg.DRAM.UEADDR_LO.ADDR.off then [Reg.DRAM.UEADDR_HI.ADDR.off]
    else if off = Reg.HOST.SCTR_LO.CTR.off then [Reg.HOST.SCTR_HI.CTR.off]
    else []

/-- The first registers of Table 20.3. -/
def latchFirsts : List Nat :=
  [0x10010, Reg.TXN.LAUNCH_LO.L.off, 0x80010, Reg.DRAM.UEADDR_LO.ADDR.off, Reg.HOST.SCTR_LO.CTR.off]

/-- The group of Table 20.3 that a further register belongs to, and its place there. -/
def latchOf (off : Nat) : Option (Nat × Nat) :=
  (latchFirsts.findSome? fun f => ((latchGroup f).findIdx? (fun o => o == off)).map fun i => (f, i))

/-- The class of `SYS.VIOL_COUNT` under which a requester's latches are held: the steward's is FABRIC (R728, R929). -/
def latchClass (q : Requester) : Requester := if q = .steward then .fabric else q

/-- A class's latched word of a further register; none before the first latching read (R929). [DEDUCED, log 61] -/
def State.latched (s : State) (q : Requester) (off : Nat) : Option Word :=
  match latchOf off with
  | none => none
  | some (f, i) =>
    match s.latches.find? (fun l => l.q == latchClass q && l.first == f) with
    | none => none
    | some l => l.words[i]?

/-- What a 32-bit read of register space returns: zero where nothing is mapped or no path exists; a halted part
shows `SEC.STATUS` alone (R11, R861, R922). [DEDUCED, log 61] -/
def State.readReg (s : State) (q : Requester) (off : Nat) : Word :=
  if s.pwr.halted then (if off = Reg.SEC.STATUS.BOOT.off then s.word off else 0)
  else if !s.hasPath q || off % 4 ≠ 0 then 0
  else if 0x200000 ≤ off && off < 0x210000 then
    let e := s.routeRead ((off - 0x200000) / 8)
    BitVec.ofNat 32 (if off % 8 = 0 then e % 2 ^ 32 else e / 2 ^ 32)
  else match s.latched q off with
    | some w => w
    | none => if regMapped off then s.liveWord off else 0

/-- A read latches the further registers of its group for its class (R928, R929); one of an unmapped offset is
a violation (R717). [DEDUCED, log 61] -/
def State.readLatch (s : State) (q : Requester) (off : Nat) : State :=
  if s.pwr.halted then s
  else if !s.hasPath q || off % 4 ≠ 0 then s.violate q
  else if 0x200000 ≤ off && off < 0x210000 then s
  else if !regMapped off then (if q = .steward then s else s.violate q)
  else if latchFirsts.contains off then
    let k := latchClass q
    let l : Latch := { q := k, first := off, words := (latchGroup off).map s.liveWord }
    { s with latches := s.latches.filter (fun x => !(x.q == k && x.first == off)) ++ [l] }
  else s

/-! ### REG_WRITE (R707) -/

/-- The bits of a register in fields of a kind. -/
def bitsOf (fs : List RField) (p : FType → Bool) : Word :=
  fs.foldl (fun (m : Word) f => if p f.ty then m ||| putBits 0 f.lo f.w (2 ^ f.w - 1) else m) 0

/-- The word that a masked write stands for: A1 inside the mask; outside it the current value in RW, SH and LK
fields and 0 in the others. -/
def State.maskedWord (s : State) (off : Nat) (v mask : Word) : Word :=
  let keep : Word := match regFields off with
    | some fs => bitsOf fs fun t => t == .rw || t == .sh || t == .lk
    | none => BitVec.allOnes 32
  (v &&& mask) ||| (s.readReg .ring off &&& keep &&& ~~~mask)

/-- REG_WRITE (R707); a violation completes OK as well. [DEDUCED, log 63] -/
def regWriteRes (d : Desc) (s : State) : Res :=
  okRes (s.writeReg .ring d.a0 (s.maskedWord d.a0 (BitVec.ofNat 32 d.a1) (BitVec.ofNat 32 d.a2)))

/-! ### Rows -/

/-- RING_ENABLE (R687): a write of 1 to `HOST.RING[r].CFG.EN`. -/
def execRingEnable (q : Requester) (r : Nat) (value : Word) (s : State) : Out :=
  .next (if r < 16 && getBits value 0 1 = 1 then s.writeReg q (Reg.HOST.RING.CFG.EN r).off value else s)
/-- RING_DISABLE (R964): a write of 0 to it. -/
def execRingDisable (q : Requester) (r : Nat) (value : Word) (s : State) : Out :=
  .next (if r < 16 && getBits value 0 1 = 0 then s.writeReg q (Reg.HOST.RING.CFG.EN r).off value else s)
/-- EVENT_RING_ENABLE (R687): a write of 1 to `HOST.EVCFG.EN`. -/
def execEventRingEnable (q : Requester) (value : Word) (s : State) : Out :=
  .next (if getBits value 0 1 = 1 then s.writeReg q Reg.HOST.EVCFG.EN.off value else s)
/-- EVENT_RING_DISABLE (R964): a write of 0 to it. -/
def execEventRingDisable (q : Requester) (value : Word) (s : State) : Out :=
  .next (if getBits value 0 1 = 0 then s.writeReg q Reg.HOST.EVCFG.EN.off value else s)
/-- HOST_LOCK (R715): a write of 1 to `HOST.CTRL.LOCK`. -/
def execHostLock (q : Requester) (value : Word) (s : State) : Out :=
  .next (if getBits value 1 1 = 1 then s.writeReg q Reg.HOST.CTRL.LOCK.off value else s)
/-- BLOCK_LOCK (R934): a write of 1 to the lock bit of the block at an offset. -/
def execBlockLock (q : Requester) (offset : Nat) (value : Word) (s : State) : Out :=
  .next (if (lockFld offset).any (fun f => f.off == offset) && getBits value 1 1 = 1 then s.writeReg q offset value else s)
/-- COUNTER_CLEAR (R931): a write of 1 to a CLR_CNT bit. -/
def execCounterClear (q : Requester) (offset : Nat) (value : Word) (s : State) : Out :=
  .next (if clearOffs.contains offset && getBits value 0 1 = 1 then s.writeReg q offset value else s)
/-- REGISTER_WRITE (R8, R677): `size` bytes at an offset; BAR0 takes aligned 32-bit accesses here. -/
def execRegisterWrite (q : Requester) (offset size : Nat) (value : Word) (s : State) : Out :=
  .next (if size = 4 then s.writeReg q offset value else s.violate q)
/-- SH_REGISTER_WRITE (R363, R936): a write to a register with SH fields. -/
def execShRegisterWrite (q : Requester) (offset : Nat) (value : Word) (s : State) : Out :=
  .next (if (regFields offset).any (fun fs => fs.any (fun f => f.ty == .sh)) then s.writeReg q offset value else s)
/-- REG_WRITE (R707). -/
def execRegWrite (d : Desc) (s : State) : Out := .next (hostCmd 0x11 roleE d (regWriteRes d) s)
/-- SWITCH_CONFIG_WRITE (R519): a write of `NET.SW`. -/
def execSwitchConfigWrite (q : Requester) (value : Word) (s : State) : Out :=
  .next (s.writeReg q Reg.NET.SW.AGE.off value)
/-- PTPCLK_WRITE (R437): a write of `TIME.PTPCLK`. -/
def execPtpclkWrite (q : Requester) (value : Word) (s : State) : Out :=
  .next (s.writeReg q Reg.TIME.PTPCLK.TYPE.off value)
/-- LAUNCH_OUTPUT_ARM (R463, R464): a write of 1 to `TIME.ST[j].CTRL.ARM`. -/
def execLaunchOutputArm (q : Requester) (j : Nat) (value : Word) (s : State) : Out :=
  .next (if j < 8 && getBits value 0 1 = 1 then s.writeReg q (0x80214 + 32 * j) value else s)
/-- LAUNCH_OUTPUT_DISARM (R465): a write of 1 to `TIME.ST[j].CTRL.DISARM`. -/
def execLaunchOutputDisarm (q : Requester) (j : Nat) (value : Word) (s : State) : Out :=
  .next (if j < 8 && getBits value 1 1 = 1 then s.writeReg q (0x80214 + 32 * j) value else s)
/-- PORT_START (R591): a write of EN = 1 to `SAP.P[p].CFG`. -/
def execPortStart (q : Requester) (p : Nat) (value : Word) (s : State) : Out :=
  .next (if p < 32 && getBits value 0 1 = 1 then s.writeReg q (0xD0000 + 64 * p) value else s)
/-- PORT_STOP (R592): a write of EN = 0 to it. -/
def execPortStop (q : Requester) (p : Nat) (value : Word) (s : State) : Out :=
  .next (if p < 32 && getBits value 0 1 = 0 then s.writeReg q (0xD0000 + 64 * p) value else s)
/-- MASK_ARM (R574): a write of 1 to `SAP.P[p].MCTRL.ARM`. -/
def execMaskArm (q : Requester) (p : Nat) (value : Word) (s : State) : Out :=
  .next (if p < 32 && getBits value 0 1 = 1 then s.writeReg q (0xD0010 + 64 * p) value else s)
/-- GROUP_ENABLE (R618, R619): a write of 1 to `MOD.G[g].CFG.EN`. -/
def execGroupEnable (q : Requester) (g : Nat) (value : Word) (s : State) : Out :=
  .next (if g < 16 && getBits value 0 1 = 1 then s.writeReg q (0x100100 + 32 * g) value else s)
/-- DMA_START (R808): a write of `DMA.START`. -/
def execDmaStart (q : Requester) (value : Word) (s : State) : Out := .next (s.writeReg q 0x170004 value)
/-- DMA_STOP (R810): a write of `DMA.STOP`. -/
def execDmaStop (q : Requester) (value : Word) (s : State) : Out := .next (s.writeReg q 0x170008 value)
/-- DMA_APPEND (R805): a write of `DMA.APPEND`. -/
def execDmaAppend (q : Requester) (value : Word) (s : State) : Out := .next (s.writeReg q 0x17000C value)
/-- SOFT_RESET (R905): a write of `SYS.RSTCTRL`. -/
def execSoftReset (q : Requester) (value : Word) (s : State) : Out :=
  .next (s.writeReg q Reg.SYS.RSTCTRL.KEY.off value)
/-- LATCHING_READ (R928): a read of register space. -/
def execLatchingRead (q : Requester) (offset : Nat) (s : State) : Out := .next (s.readLatch q offset)

end Sys2Proof.Machine
end

