-- ==== Sys2Proof/Machine/Mram.lean ====
section
/-! DEFINITION. The bytes of MRAM and of the boot flash: what the steward, the security engine and the NAND engine keep there, as a read of
the fabric finds it (Table 17.3: R12, R304, R405, R406, R492, R641, R849 to R851, R870). -/
namespace Sys2Proof.Config

open Sys2Proof.Machine

/-- The retirement map's neighbours in MRAM: monotonic counters and session counter, in a layout that the manual does not
give (Table 17.3). [DESIGN CHOICE, log 40] -/
opaque mramCounters : List Nat → List Byte
/-- The key store in MRAM, in a layout that the manual does not give: the wrapped keys (R870). [DESIGN CHOICE, log 40] -/
opaque mramKeys : List (List Nat × List Byte) → List Byte
/-- A channel's impedance reference in MRAM, in a layout that the manual does not give (R663). [DESIGN CHOICE, log 40] -/
opaque mramReference : Nat → Int → List Byte
/-- The flash journal in MRAM, in a layout that the manual does not give (R825). [DESIGN CHOICE, log 40] -/
opaque mramJournal : StoreS → List Byte

end Sys2Proof.Config

namespace Sys2Proof.Machine

/-- A scene record as it stands in its blocks: header, items and CRC-32C (R405). -/
def recordBytes (r : SceneRec) : List Byte := recBytes r ++ le 4 r.crc.toNat

/-- A byte of a scene block: of the record of the current directory that holds the block, else of one of the other
copy's. -/
def State.sceneByte (s : State) (o : Nat) : Option Byte :=
  let holds (e : Nat × SceneRec) : Bool := decide (e.2.first ≤ o / 4096) && decide (o / 4096 < e.2.first + e.2.blocks)
  match (s.txn.scenes ++ s.txn.prevDir.2).find? holds with
  | some e => (recordBytes e.2)[o - e.2.first * 4096]?
  | none => none

/-- An entry of a directory copy (R406). -/
def dirEntry (r : SceneRec) : List Byte :=
  le 2 r.first ++ le 2 r.blocks ++ le 4 r.crc.toNat ++ le 4 r.planCrc ++ le 4 1

/-- A directory copy: header, with a CRC-32C over the rest of the copy, and 256 entries (R406).  One that was never written is
zero. [DESIGN CHOICE, log 40] -/
def dirBytes (seq : Nat) (t : Tbl SceneRec) : List Byte :=
  if seq = 0 then []
  else
    let head := le 8 seq ++ le 4 t.length
    let entries := ((List.range 256).map fun k => match mapGet t k with
      | some r => dirEntry r
      | none => List.replicate 16 0).flatten
    head ++ le 4 (crc32c (head ++ entries)).toNat ++ entries

/-- The directory copy of a number (R406, R408). -/
def State.dirCopyBytes (s : State) (c : Nat) : List Byte :=
  if c = s.txn.dirCopy then dirBytes s.txn.dirSeq s.txn.scenes else dirBytes s.txn.prevDir.1 s.txn.prevDir.2

/-- The retirement map: one bit for each flat lane index (R304). -/
def State.retireBytes (s : State) : List Byte :=
  (List.range 36).map fun i => BitVec.ofNat 8 (((List.range 8).filter fun j => s.guard.retired.contains (8 * i + j)).map (2 ^ ·)).sum

/-- The counters that MRAM keeps: security versions and session counter (R712, R849, R863). -/
def State.counterBytes (s : State) : List Byte :=
  Config.mramCounters [s.rd Reg.SEC.SVN0.STEWARD, s.rd Reg.SEC.SVN0.TILCA, s.rd Reg.SEC.SVN1.KERNEL, s.rd Reg.HOST.SCTR_LO.CTR,
    s.rd Reg.HOST.SCTR_HI.CTR]

/-- A channel's record and reference (R641, R663): records from 0xA2_4000 on, references from 0xA2_6000 on.
[DESIGN CHOICE, log 40] -/
def State.sentinelByte (s : State) (o : Nat) : Option Byte :=
  if o < 8192 then match mapGet s.tilCh (o / 64) with
    | some x => x.record[o % 64]?
    | none => none
  else match (mapGet s.tilCh ((o - 8192) / 64)).bind fun x => x.ref with
    | some (m, p) => (Config.mramReference m p)[o % 64]?
    | none => none

/-- An entry of the silt log, at the place that its sequence number has in the ring (R850). -/
def State.siltByte (s : State) (o : Nat) : Option Byte :=
  match s.silt.find? fun e => e.seq % 65536 == o / 32 with
  | some e => e.bytes[o % 32]?
  | none => none

/-- A byte of what the agents of MRAM keep there, by offset; none where they keep nothing (Table 17.3).
[DESIGN CHOICE, log 40] -/
def State.mramByte (s : State) (o : Nat) : Option Byte :=
  if o < 0xA00000 then s.sceneByte o
  else if o < 0xA02000 then (s.dirCopyBytes 0)[o - 0xA00000]?
  else if o < 0xA04000 then (s.dirCopyBytes 1)[o - 0xA02000]?
  else if o < 0xA10000 then none
  else if o < 0xA20000 then (s.retireBytes ++ s.counterBytes)[o - 0xA10000]?
  else if o < 0xA24000 then (s.ref.history.map histBytes).flatten[o - 0xA20000]?
  else if o < 0xA28000 then s.sentinelByte (o - 0xA24000)
  else if o < 0xB00000 then none
  else if o < 0xC00000 then
    (Config.mramKeys (s.sec.keys.map fun k => ([k.cls, k.slot, k.pos, k.id], Config.aesKw (s.sec.kek.getD []) k.key)))[o - 0xB00000]?
  else if o < 0xE00000 then s.siltByte (o - 0xC00000)
  else if o < 0x1000000 then (Config.mramJournal s.store)[o - 0xE00000]?
  else none

/-- What a read of MRAM returns: what its agents keep, else what was written over the fabric. -/
def State.mramRead (s : State) (a n : Nat) : List Byte :=
  (List.range n).map fun i => (s.mramByte (a + i - 0x20000000)).getD (Memory.read s.bus.mem (a + i))

/-! ### The boot flash (R842, R843, Table 17.1) -/

/-- A byte of a slot of the boot flash: its image, then its install record in the last 4 KiB. -/
def BootSlot.byteAt (x : BootSlot) (o : Nat) : Option Byte :=
  if o < 0x1FFF000 then x.image[o]? else x.record[o - 0x1FFF000]?

/-- A byte of the boot flash by its offset; none where nothing was programmed (Table 17.1). -/
def State.flashByte (s : State) (o : Nat) : Option Byte :=
  if o < 0x4000000 then (s.bootSlot (o / 0x2000000)).byteAt (o % 0x2000000) else none

/-- What a read of the XSPI window returns: the boot flash (Table 15.2). [DESIGN CHOICE, log 40] -/
def State.flashRead (s : State) (a n : Nat) : List Byte :=
  (List.range n).map fun i => (s.flashByte (a + i - 0x30000000)).getD (Memory.read s.bus.mem (a + i))

end Sys2Proof.Machine
end

