-- ==== Sys2Proof/Machine/Dma.lean ====
section
/-! DEFINITION. Responses of the bus matrix's targets, DRAM retries, and the work of the DMA engines:
descriptors, bursts, completion and chains (chapters 15 and 16). -/
namespace Sys2Proof.Machine

/-! ### Accesses to a target (R729, R732, R743, R923, R924) -/

/-- Whole 32-bit words that an access touches. -/
def wordsOf (a n : Nat) : List Nat := (List.range ((a + n + 3) / 4 - a / 4)).map fun i => (a / 4 + i) * 4

/-- The only agent that writes an MRAM region, by offset (R849, Table 17.3). -/
def mramOwner (o : Nat) : Option Nat :=
  if o < 0xA04000 then some 1
  else if 0xA10000 ≤ o && o < 0xA28000 then some 1
  else if 0xB00000 ≤ o && o < 0xC00000 then some 12
  else if 0xC00000 ≤ o && o < 0xE00000 then some 1
  else if 0xE00000 ≤ o && o < 0x1000000 then some 6
  else none

/-- Whether a master may write an address of a target: in MRAM only its region's agent (R849). [DEDUCED, log 38] -/
def mayWrite (m t a : Nat) : Bool := t != 5 || (mramOwner (a - 0x20000000)).all (fun w => w == m)

/-- Perform a write at a target: bytes with their strobes; register space takes whole words (R924).
[DEDUCED, log 38] -/
def State.performWrite (s : State) (m t a : Nat) (data : List Byte) (strobes : List Bool) : State :=
  if t = 7 then
    (wordsOf a data.length).foldl (fun (b : State) wa =>
      let ks := (List.range 4).map fun i => decide (a ≤ wa + i) && strobes.getD (wa + i - a) false
      let bs := (List.range 4).map fun i => data.getD (wa + i - a) 0
      if ks.all id then b.writeReg (busClass m) (wa - 0x40000000) (BitVec.ofNat 32 (unLe bs))
      else if ks.any id then b.violate (busClass m)
      else b) s
  else if s.writable t then
    let ks := strobes.zipIdx.map fun (k, i) => k && mayWrite m t (a + i)
    { s with bus := { s.bus with mem := Memory.writeN s.bus.mem a data ks } }
  else s

/-- The words of register space that a burst reads, one by one in ascending order: each finds what the words before it
latched (R61, R924, R928). -/
def State.readWords (c : Requester) : List Nat → State → List Byte
  | [], _ => []
  | wa :: r, s => le 4 (s.readReg c (wa - 0x40000000)).toNat ++ State.readWords c r (s.readLatch c (wa - 0x40000000))

/-- The bytes that a read of a target returns. -/
def State.readBytes (s : State) (m t a n : Nat) : List Byte :=
  if t = 7 then ((State.readWords (busClass m) (wordsOf a n) s).drop (a % 4)).take n
  else if t = 5 then s.mramRead a n
  else if t = 8 then s.flashRead a n
  else Memory.readN s.bus.mem a n

/-- What a read of a target changes: the latches of register space (R928). -/
def State.performRead (s : State) (m t a n : Nat) : State :=
  if t = 7 then (wordsOf a n).foldl (fun (b : State) wa => b.readLatch (busClass m) (wa - 0x40000000)) s else s

/-! ### Channels and addresses (R779 to R783) -/

/-- Bytes of a beat for a width code. -/
def beatBytes (code : Nat) : Nat := 2 ^ code
/-- Source beat bytes of a descriptor. -/
def descSrcW (d : DmaDesc) : Nat := beatBytes (d.ctl % 4)
/-- Destination beat bytes. -/
def descDstW (d : DmaDesc) : Nat := beatBytes (d.ctl / 4 % 4)
/-- SINC. -/
def descSinc (d : DmaDesc) : Bool := d.ctl.testBit 4
/-- DINC. -/
def descDinc (d : DmaDesc) : Bool := d.ctl.testBit 5
/-- CHK. -/
def descChk (d : DmaDesc) : Nat := d.ctl / 64 % 4
/-- CONT. -/
def descCont (d : DmaDesc) : Bool := d.ctl.testBit 8
/-- BLEN. -/
def descBlen (d : DmaDesc) : Nat := d.ctl / 65536 % 128

/-- The request line that a channel is bound to. -/
def State.dmaLine (s : State) (c : Nat) : Nat := s.rd (Reg.DMA.CH.CFG.REQ c)
/-- Whether a line carries a beat count: COUNT then counts requests (R788). -/
def lineCounted (line : Nat) : Bool := decide (line < 72)
/-- The bus-matrix master of a channel. -/
def dmaMaster (c : Nat) : Nat := 2 + c / 16

/-- An access of the engine itself to the fabric or to host memory: a write (R779, R780). [DEDUCED, log 65] -/
def State.dmaStore (s : State) (c a : Nat) (data : List Byte) : State :=
  if dmaHost a then
    let t := (data.zipIdx).foldl (fun (t : Tbl Byte) (b, i) => tblSet (fun _ => 0) t (a - 2 ^ 63 + i) b) s.dma.host
    { s with dma := { s.dma with host := t } }
  else match s.busTarget (dmaMaster c) a data.length with
    | some t => s.performWrite (dmaMaster c) t a data (data.map fun _ => true)
    | none => s.violate .fabric

/-- A read of the engine itself from the fabric, zero in a violation. [DEDUCED, log 65] -/
def State.dmaLoad (s : State) (c a n : Nat) : List Byte :=
  match s.busTarget (dmaMaster c) a n with
  | some t => s.readBytes (dmaMaster c) t a n
  | none => List.replicate n 0

/-- Whether such a read is in violation (R780). [DEDUCED, log 65] -/
def State.dmaBars (s : State) (c a n : Nat) : Bool := !dmaHost a && (s.busTarget (dmaMaster c) a n).isNone

/-- The parts of a range of `n` bytes at `a`, as offset and length: no part crosses a 4 KiB boundary nor is longer than
`lim`, counted from the last multiple of `align` (R791). [DEDUCED, log 64] -/
def splitRange : Nat → Nat → Nat → Nat → Nat → Nat → List (Nat × Nat)
  | 0, _, _, _, _, _ => []
  | fuel + 1, a, off, n, lim, align =>
    if n = 0 then []
    else
      let x := a + off
      let k := min n (min (4096 - x % 4096) (lim - x % align))
      (off, k) :: splitRange fuel a (off + k) (n - k) lim align

/-- Parts of a burst's range: on the fabric of at most 16 beats of 32 bytes (R729), in host memory of at most `lim` bytes
(R675, R791); a fixed address moves one beat a time. [DEDUCED, log 64] -/
def burstParts (a n w lim : Nat) (inc : Bool) : List (Nat × Nat) :=
  if inc then splitRange (n + 1) a 0 n lim (if dmaHost a then 1 else 32) else (List.range (n / w)).map fun i => (i * w, w)

/-! ### Errors and the flow of a burst (R783, R787 to R797) -/

/-- Note an error of a channel: the lowest beat stands, with its cause (R797, R799). -/
def DmaCh.note (x : DmaCh) (cause beat : Nat) (cite : Option Nat) : DmaCh :=
  match x.err with
  | some (_, b) => if beat < b then { x with err := some (cause, beat), cite := if cite.isSome then cite else x.cite }
    else { x with cite := if x.cite.isSome then x.cite else cite }
  | none => { x with err := some (cause, beat), cite := cite }

/-- A burst in flight by its number. -/
def State.burstOf (s : State) (uid : Nat) : Option Burst := s.dma.flight.find? fun b => b.uid == uid

/-- Change a burst, and drop it once all of its responses have returned. -/
def State.setBurst (s : State) (b : Burst) : State :=
  let rest := s.dma.flight.map fun y => if y.uid = b.uid then b else y
  { s with dma := { s.dma with flight := rest.filter fun y => !(y.reads == 0 && y.writes == 0) } }

/-- Fill part of what a burst has read; a failed part has its strobes low (R797). -/
def fillGot (got : List HeldByte) (off : Nat) (data : List Byte) (bad : Bool) : List HeldByte :=
  got.zipIdx.map fun (h, i) =>
    if off ≤ i && i < off + data.length then
      { h with byte := if bad then 0 else data.getD (i - off) 0, on := !bad }
    else h

/-- Words of a block from its bytes. -/
def blockWords (l : List HeldByte) : List Word :=
  (pieces 4 (l.length / 4) (l.map fun h => h.byte)).map fun p => BitVec.ofNat 32 (unLe p)

/-- One part of a burst's data goes to host memory; a failed write stores nothing. -/
def State.hostPart (s : State) (a : Nat) (l : List HeldByte) : State :=
  let t := (l.zipIdx).foldl (fun (t : Tbl Byte) (h, i) =>
    if h.on then tblSet (fun _ => 0) t (a + i) h.byte else t) s.dma.host
  { s with dma := { s.dma with host := t } }

/-- One part of a burst's data goes to the fabric: a transaction, or a dropped write in violation (R780). -/
def State.fabricPart (s : State) (c uid a : Nat) (l : List HeldByte) : Nat × State :=
  match s.busTarget (dmaMaster c) a l.length with
  | none => (0, s.violate .fabric)
  | some t =>
    let x : BusTxn := {
      master := dmaMaster c, id := c, write := true, addr := a, target := t, len := l.length
      qos := s.busQos (dmaMaster c) true (s.rd (Reg.DMA.CH.CFG.QOS c)), gen := s.busGen (dmaMaster c)
      data := l.map (fun h => h.byte), strobes := l.map (fun h => h.on), since := s.run
      beat := (l.head?.map fun h => h.beat).getD 0, burst := uid }
    (1, s.enqueue x)

/-- The write stage of a burst whose data has arrived: whole destination beats leave, the rest stays in the
holding register (R783, R791). [DEDUCED, log 64] -/
def State.burstOut (s : State) (b : Burst) : State :=
  let c := b.ch
  let x := s.dmaCh c
  match x.desc with
  | none => s.setBurst { b with reads := 0, writes := 0 }
  | some d =>
    let line := s.dmaLine c
    let all := x.hold ++ b.got
    let n := all.length / (descDstW d) * (descDstW d)
    let out := all.take n
    let s1 := s.onCh c fun y => { y with
      hold := all.drop n, dst := y.dst + n
      wrote := y.wrote ++ (out.filter fun h => h.on).map fun h => h.byte }
    let b1 : Burst := { b with reads := 0, got := [], writes := 0 }
    if 32 ≤ line && line < 64 then (s1.sapPut (line - 32) (blockWords out)).setBurst b1
    else if 64 ≤ line && line < 72 && line % 2 = 1 then s1.setBurst b1
    else
      let base := if (descDinc d) then d.dst + x.dst else d.dst
      let ps := burstParts base n (descDstW d) (if dmaHost d.dst then 256 else 512) (descDinc d)
      let at_ (o : Nat) : Nat := if (descDinc d) then base + o else base
      if dmaHost d.dst then
        let bad (o k : Nat) : Bool := b.wrErr.any fun e => decide (o ≤ e) && decide (e < o + k)
        let s2 := ps.foldl (fun (a : State) (o, k) =>
          let l := (out.drop o).take k
          if bad o k then a.onCh c fun y => y.note 2 ((l.head?.map fun h => h.beat).getD 0) none
          else a.hostPart (at_ o - 2 ^ 63) l) s1
        s2.setBurst b1
      else
        let (w, s2) := ps.foldl (fun (a : Nat × State) (o, k) =>
          let (j, t) := a.2.fabricPart c b.uid (at_ o) ((out.drop o).take k)
          (a.1 + j, t)) (0, s1)
        s2.setBurst { b1 with writes := w }

/-- A response to a transaction of a DMA engine. -/
def State.dmaResponse (s : State) (x : BusTxn) (data : List Byte) (err : Bool) (cite : Option Nat) : State :=
  match s.burstOf x.burst with
  | none => s
  | some b =>
    let s1 := if err then s.onCh b.ch fun y => y.note (if x.write then 2 else 1) x.beat cite else s
    if x.write then s1.setBurst { b with writes := b.writes - 1 }
    else
      let w := ((s1.dmaCh b.ch).desc.map descSrcW).getD 1
      let b1 : Burst := { b with got := fillGot b.got ((x.beat - b.first) * w) data err, reads := b.reads - 1 }
      if b1.reads = 0 then s1.burstOut b1 else s1.setBurst b1

/-! ### Responses of the targets (R732, R733, R771 to R776) -/

/-- A response reaches its master, unless the master was reset or an upper deadline has acted (R742, R774,
R775). -/
def State.sendBack (s : State) (x : BusTxn) (data : List Byte) (err : Bool) (cite : Option Nat) : State :=
  let s1 := s.retireTxn x
  if x.dead || x.gen ≠ s.busGen x.master then s1
  else
    let s2 := s1.respond x.master ⟨x.id, data, err⟩
    let bad := err && !x.write && isDram x.target
    let s3 : State :=
      if bad && x.master == 7 then { s2 with eng := { s2.eng with flag0 := true } }
      else if bad && x.master == 8 then { s2 with eng := { s2.eng with flag1 := true } }
      else s2
    if x.master = 2 || x.master = 3 then s3.dmaResponse x data err cite else s3

/-- Queue the write-back of corrected blocks (R771). -/
def State.writeBacks (s : State) (blocks : List Nat) : State :=
  { s with dram := { s.dram with back := s.dram.back ++ blocks.map fun b => (s.run, b) } }

/-- TARGET_RESPONSE: the target's oldest transaction that may end does so (R732, R753, R771, R772).
[DEDUCED, log 66] -/
def doResponse (t : Nat) (e : RespEnd) (s : State) : State :=
  match s.answerable t with
  | none => s
  | some x =>
    let failed := e.error || (isDram t && s.rd Reg.DRAM.STAT.STATE == 3)
    let zero := List.replicate (if x.write then 0 else x.len) (0 : Byte)
    if failed then s.sendBack x zero true none
    else if x.write then (s.performWrite x.master t x.addr x.data x.strobes).sendBack x [] false none
    else
      let s1 := s.performRead x.master t x.addr x.len
      let data := s.readBytes x.master t x.addr x.len
      if !isDram t then s1.sendBack x data false none
      else if !s.dram.ecc then s1.sendBack x (upsetBytes x.addr e.flips data) false none
      else match failedBlock x.addr x.len e.flips with
        | some block =>
          { s with dram := { s.dram with retries := s.dram.retries ++ [{ txn := some x, block := block, at_ := s.run }] } }
        | none =>
          let fixed := correctedBlocks x.addr x.len e.flips
          ((s1.countIf (!fixed.isEmpty) Reg.DRAM.ECCCNT.CE).writeBacks fixed).sendBack x data false none

/-- TARGET_RESPONSE_TIMEOUT: a transaction granted 20 us ago ends as an error (R733). [DEDUCED, log 8]
[DEDUCED, log 66] -/
def doRespTimeout (t : Nat) (s : State) : State :=
  if isDram t && s.on Reg.DRAM.STAT.RETRAIN then s
  else match s.bus.granted.find? (fun x => x.target == t && decide (x.at_ + 20000 ≤ s.run)) with
    | none => s
    | some x =>
      let rs := s.dram.retries.filter fun r => r.txn != some x
      let s1 : State := { s with dram := { s.dram with retries := rs } }
      let s2 := (s1.count (Reg.BUS.T.CNT.TO t)).log 0x0506 (le 1 t ++ le 1 x.master ++ le 1 x.id)
      s2.sendBack x (List.replicate (if x.write then 0 else x.len) 0) true none

/-- A read is returned as an error: it is counted, and its block's address latched (R772). -/
def State.noteUe (s : State) (block : Nat) : State :=
  ((s.count Reg.DRAM.ECCCNT.UE).wr Reg.DRAM.UEADDR_LO.ADDR (block / 64 % 2 ^ 26)).wr Reg.DRAM.UEADDR_HI.ADDR (block / 2 ^ 32)

/-- An uncorrectable read on which no upper deadline acts: entry 0x0504 beside the count (R772, R776). [DEDUCED, log 66] -/
def State.uncorrectable (s : State) (block master : Nat) : State :=
  (s.noteUe block).log 0x0504 (le 1 master ++ le 8 block)

/-- RETRY_DATA_ARRIVAL: the data of the oldest re-read arrives (R772, R775, R776). [DEDUCED, log 66]
[DESIGN CHOICE, log 86] -/
def doRetry (flips : List (Nat × Nat)) (s : State) : State :=
  match s.dram.retries with
  | [] => s
  | r :: rest =>
    let (a, n) := match r.txn with
      | some x => (x.addr, x.len)
      | none => (r.block, 64)
    let good := (failedBlock a n flips).isNone
    let ok := good && decide (s.run ≤ r.at_ + 1000)
    let s0 : State := { s with dram := { s.dram with retries := rest } }
    let s1 := if good then s0.writeBacks (correctedBlocks a n flips) else s0
    match r.txn with
    | none => if ok then s1.count Reg.DRAM.ECCCNT.RETRYOK else s1.uncorrectable r.block 15
    | some x =>
      match r.late with
      | some d =>
        let s2 := (if ok then s1 else s1.noteUe r.block).count Reg.DRAM.ECCLATE.LATE
        (if r.told then s2 else s2.hold 0x0505 (lateEntry x.master d (if ok then 2 else 0))).retireTxn x
      | none => if ok then
        ((s1.count Reg.DRAM.ECCCNT.RETRYOK).performRead x.master x.target x.addr x.len).sendBack x
          (s.readBytes x.master x.target x.addr x.len) false none
      else
        let seq := s1.rd Reg.STORE.SILT.HEAD
        (s1.uncorrectable r.block x.master).sendBack x (List.replicate x.len 0) true (some seq)

/-- ECC_WRITEBACK: a corrected block is written back (R771). -/
def doWriteback (block : Nat) (s : State) : State :=
  { s with dram := { s.dram with back := s.dram.back.filter fun e => e.2 != block / 64 * 64 } }

/-- PATROL_SCRUB: a block is read in slack (R773). -/
def doScrub (block : Nat) (flips : List (Nat × Nat)) (s : State) : State :=
  let b := block / 64 * 64
  let inDram := (s.targetAt b).any isDram
  if !inDram || !s.dram.ecc || s.rd Reg.DRAM.STAT.STATE ≠ 2 || s.on Reg.DRAM.STAT.RETRAIN then s
  else match failedBlock b 64 flips with
    | some _ => { s with dram := { s.dram with retries := s.dram.retries ++ [{ txn := none, block := b, at_ := s.run }] } }
    | none =>
      let fixed := correctedBlocks b 64 flips
      (s.countIf (!fixed.isEmpty) Reg.DRAM.ECCCNT.CE).writeBacks fixed

/-! ### Descriptors (R781, R782, R798 to R803) -/

/-- A descriptor from its 64 bytes (Table 16.1). -/
def dmaDescOf (b : List Byte) : DmaDesc :=
  { src := rdLe b 0 8, dst := rdLe b 8 8, chka := rdLe b 16 8, count := rdLe b 24 4, ctl := rdLe b 28 4
    rsvd := rdLe b 40 16, link := rdLe b 56 8 }

/-- Whether a channel refuses a descriptor (R782). -/
def dmaDescBad (line : Nat) (d : DmaDesc) : Bool :=
  let rx := decide (line < 32)
  let tx := decide (32 ≤ line) && decide (line < 64)
  d.rsvd != 0 || d.ctl / 512 % 128 != 0 || d.ctl / 2 ^ 23 != 0 || d.link / 2 % 32 != 0 || (descChk d) == 3 ||
    d.count == 0 || decide (16777216 < d.count) ||
    (!lineCounted line && ((descBlen d) == 0 || decide (64 < (descBlen d)) || d.count * (descSrcW d) % (descDstW d) != 0)) ||
    (!rx && d.src % (descSrcW d) != 0) || (!tx && d.dst % (descDstW d) != 0) ||
    (rx && (descSrcW d) != 4) || (tx && (descDstW d) != 4)

/-- The data of entries 0x0601 to 0x0603: channel, descriptor address, INDEX (R802). -/
def State.dmaEntry (s : State) (c index : Nat) : List Byte := le 1 c ++ le 8 (s.dptr c) ++ le 4 index

/-- Write the status word of the descriptor in hand; a failed write halts the channel (R798, R801, R802).  The
flag says whether it was written. -/
def State.dmaStatus (s : State) (c code cause index : Nat) (bad : Bool) : Bool × State :=
  if bad then
    (false, ((((s.put (Reg.DMA.CH.STAT.WBERR c) true).setBit Reg.DMA.ERR.CH c true).setDmaState c dmaHalted).log
      0x0603 (s.dmaEntry c index)))
  else
    let s1 := (s.dmaStore c (s.dptr c + 32) (le 1 code ++ le 1 cause ++ le 2 0 ++ le 4 index)).wr
      (Reg.DMA.CH.STAT.LAST c) code
    let s2 := if code = 1 then s1.setBit Reg.DMA.DONE.CH c true
      else if code = 2 || code = 3 then s1.setBit Reg.DMA.ERR.CH c true
      else s1
    (true, s2)

/-- DMA_DESCRIPTOR_FETCH: a descriptor in the fabric is read there, one in host memory comes as `d` (R782).
[DEDUCED, log 64] -/
def doDmaFetch (c : Nat) (d : DmaDesc) (statusErr : Bool) (s : State) : State :=
  let x := s.dmaCh c
  if 32 ≤ c || !x.fetch || s.dmaState c ≠ dmaRun then s
  else
    let a := s.dptr c
    let s0 := if s.dmaBars c a 64 then s.violate .fabric else s
    let y := if dmaHost a then d else dmaDescOf (s.dmaLoad c a 64)
    let s1 := s0.onCh c fun x => { desc := some y, pend := x.pend, append := x.append, polled := x.polled }
    if dmaDescBad (s.dmaLine c) y then
      let (_, s2) := s1.dmaStatus c 3 0 0 statusErr
      (s2.log 0x0602 (s2.dmaEntry c 0)).setDmaState c dmaHalted
    else s1

/-- Beats of the descriptor in hand that are not issued, or its requests without a burst (R788, R789). -/
def State.dmaLeft (s : State) (c : Nat) : Nat :=
  let x := s.dmaCh c
  match x.desc with
  | none => 0
  | some d => if lineCounted (s.dmaLine c) then d.count - x.reqs else d.count - x.issued

/-- Bursts of a channel in flight. -/
def State.dmaFlight (s : State) (c : Nat) : Nat := (s.dma.flight.filter fun b => b.ch == c).length

/-- Whether a channel has a burst ready: work left, no error, a request where it is bound to a line, and fewer
than 4 bursts in flight (R787, R790, R797). -/
def State.dmaReady (s : State) (c : Nat) : Bool :=
  let x := s.dmaCh c
  s.dmaState c == dmaRun && !x.fetch && x.err.isNone && decide (0 < s.dmaLeft c) &&
    (decide (80 ≤ s.dmaLine c) || !x.pend.isEmpty) && decide (s.dmaFlight c < 4)

/-- The channel that an engine grants: the highest QoS, round-robin among equals (R790). -/
def State.dmaPick (s : State) (e : Nat) : Option Nat :=
  let l := ((List.range 16).map fun i => 16 * e + i).filter s.dmaReady
  let q := l.foldl (fun a c => max a (s.rd (Reg.DMA.CH.CFG.QOS c))) 0
  let best := l.filter fun c => s.rd (Reg.DMA.CH.CFG.QOS c) == q
  let last := mapGetD s.dma.lastCh (e * 16 + q) (16 * e + 15)
  match best.find? (fun c => decide (last < c)) with
  | some c => some c
  | none => best.head?

/-- One part of a burst's source range: a transaction, or zeros in violation (R780). -/
def State.readPart (s : State) (c uid a n beat : Nat) : Nat × State :=
  match s.busTarget (dmaMaster c) a n with
  | none => (0, s.violate .fabric)
  | some t =>
    let x : BusTxn := {
      master := dmaMaster c, id := c, write := false, addr := a, target := t, len := n
      qos := s.busQos (dmaMaster c) false (s.rd (Reg.DMA.CH.CFG.QOS c)), gen := s.busGen (dmaMaster c)
      data := [], strobes := [], since := s.run, beat := beat, burst := uid }
    (1, s.enqueue x)

/-- DMA_BURST_ISSUE: `data` is what host memory or a NAND channel delivers, `rdErr` the read transaction of the
burst that fails there, `wrErr` the byte at which its host write fails (R787 to R791, R796, R797).
[DEDUCED, log 65] -/
def doBurst (e : Nat) (data : List Byte) (rdErr wrErr : Option Nat) (s : State) : State :=
  let inEngine := (s.dma.flight.filter fun b => b.ch / 16 == e).length
  match (if e < 2 && decide (inEngine < 8) then s.dmaPick e else none) with
  | none => s
  | some c =>
    let x := s.dmaCh c
    let line := s.dmaLine c
    match x.desc with
    | none => s
    | some d =>
      let asked := x.pend.headD 0
      let n := if lineCounted line then asked else min (descBlen d) (d.count - x.issued)
      let w := (descSrcW d)
      let uid := s.dma.uid
      let got := (List.range (n * w)).map fun i => ({ byte := 0, on := true, beat := x.issued + i / w } : HeldByte)
      let b : Burst := { uid := uid, ch := c, first := x.issued, beats := n, got := got, reads := 1, wrErr := wrErr }
      let q := s.rd (Reg.DMA.CH.CFG.QOS c)
      let s1 : State := { s with dma := { s.dma with
        uid := uid + 1, flight := s.dma.flight ++ [b], lastCh := mapSet s.dma.lastCh (e * 16 + q) c } }
      let s2 := s1.onCh c fun y => { y with
        issued := y.issued + n, src := y.src + n * w, reqs := y.reqs + (if line < 80 then 1 else 0), pend := y.pend.drop 1 }
      let base := if (descSinc d) then d.src + x.src else d.src
      if line < 32 then
        let (ws, s3) := s2.sapTake line
        s3.burstOut { b with got := fillGot got 0 (ws.flatMap fun v => le 4 v.toNat) false }
      else if dmaHost d.src || (64 ≤ line && line < 72 && line % 2 = 0) then
        let ps := burstParts base (n * w) w 512 (descSinc d)
        let full := fillGot got 0 (padTo (n * w) data) false
        match rdErr.bind fun k => ps[k]? with
        | none => s2.burstOut { b with got := full }
        | some (o, k) =>
          let s3 := s2.onCh c fun y => y.note 1 (b.first + o / w) none
          s3.burstOut { b with got := fillGot full o (List.replicate k 0) true }
      else
        let ps := burstParts base (n * w) w 512 (descSinc d)
        let (r, s3) := ps.foldl (fun (a : Nat × State) (o, k) =>
          let (j, t) := a.2.readPart c uid (if (descSinc d) then base + o else base) k (b.first + o / w)
          (a.1 + j, t)) (0, s2)
        if r = 0 then s3.burstOut b else s3.setBurst { b with reads := r }

/-! ### Completion and chains -/

/-- The 16-bit ones'-complement sum of bytes, the first of each pair the high one (R793). -/
def onesSum (l : List Byte) : Nat :=
  (pieces 2 ((l.length + 1) / 2) l).foldl (fun a p =>
    let v := a + ((p.headD 0).toNat * 256 + (p.getD 1 0).toNat)
    v % 65536 + v / 65536) 0

/-- The check record (Table 16.4). -/
def checkRecord (chk : Nat) (l : List Byte) (bad : Bool) : List Byte :=
  le 4 (if chk = 1 then (crc32c l).toNat else onesSum l) ++ le 1 (chk * 2 + (if bad then 1 else 0)) ++ le 3 0

/-- The link word: read in the fabric, or as host memory gives it (R803). -/
def State.readLink (s : State) (c link : Nat) : Nat :=
  if dmaHost (s.dptr c) then link else unLe (s.dmaLoad c (s.dptr c + 56) 8)

/-- A read of the link word in violation is counted (R780). -/
def State.barLink (s : State) (c : Nat) : State := if s.dmaBars c (s.dptr c + 56) 8 then s.violate .fabric else s

/-- DMA_DESCRIPTOR_COMPLETE: every response has returned; check record, status word, link (R794 to R803,
R810). -/
def doDescDone (c : Nat) (recordErr statusErr : Bool) (link : Nat) (s : State) : State :=
  let x := s.dmaCh c
  let st := s.dmaState c
  let ended := st == dmaStopping || (st == dmaRun && x.desc.isSome && !x.fetch && (x.err.isSome || s.dmaLeft c == 0))
  if 32 ≤ c || !ended || decide (0 < s.dmaFlight c) then s
  else
    let chk := (x.desc.map descChk).getD 0
    let cont := (x.desc.map descCont).getD false
    let bad0 := st == dmaStopping || x.err.isSome
    let s1 := if chk = 0 || recordErr then s
      else s.dmaStore c ((x.desc.map DmaDesc.chka).getD 0) (checkRecord chk x.wrote bad0)
    let lost := chk != 0 && recordErr
    let (code, cause, index) : Nat × Nat × Nat :=
      if st = dmaStopping then (4, 0, x.issued)
      else match x.err with
        | some (k, i) => (2, k, i)
        | none => if lost then (2, 3, x.issued) else (1, 0, x.issued)
    let (written, s2) := s1.dmaStatus c code cause index statusErr
    let s3 := if code = 2 then s2.log 0x0601 (s2.dmaEntry c index) x.cite else s2
    if !written then s3
    else if code = 4 then (s3.onCh c fun y => { polled := y.polled, append := y.append }).setDmaState c dmaIdle
    else if code = 2 && !cont then s3.setDmaState c dmaHalted
    else (s3.barLink c).followLink c (s3.readLink c link)

/-- TAILWAIT_POLL: every POLL us, or once an APPEND was flagged, the tail's link word is read again (R805,
R806). -/
def doTailPoll (c link : Nat) (s : State) : State :=
  let x := s.dmaCh c
  let poll := s.rd (Reg.DMA.CH.CFG.POLL c)
  let due := x.append || (poll != 0 && decide (x.polled + poll * 1000 ≤ s.run))
  if 32 ≤ c || s.dmaState c ≠ dmaTail || !due then s else (s.barLink c).followLink c (s.readLink c link)

/-! ### Rows -/

/-- TARGET_RESPONSE (R732). -/
def execTargetResponse (t : Nat) (e : RespEnd) (s : State) : Out := .next (doResponse t e s)
/-- TARGET_RESPONSE_TIMEOUT (R733). -/
def execTargetResponseTimeout (t : Nat) (s : State) : Out := .next (doRespTimeout t s)
/-- RETRY_DATA_ARRIVAL (R772). -/
def execRetryDataArrival (flips : List (Nat × Nat)) (s : State) : Out := .next (doRetry flips s)
/-- ECC_WRITEBACK (R771). -/
def execEccWriteback (block : Nat) (s : State) : Out := .next (doWriteback block s)
/-- PATROL_SCRUB (R773). -/
def execPatrolScrub (block : Nat) (flips : List (Nat × Nat)) (s : State) : Out := .next (doScrub block flips s)
/-- DMA_DESCRIPTOR_FETCH (R782). -/
def execDmaDescriptorFetch (c : Nat) (d : DmaDesc) (statusErr : Bool) (s : State) : Out :=
  .next (doDmaFetch c d statusErr s)
/-- DMA_REQUEST (R786): lines 0 to 79; a DREQ pin carries no beat count. -/
def execDmaRequest (line beats : Nat) (s : State) : Out :=
  .next (if 80 ≤ line then s else s.raise line (if 72 ≤ line then 0 else beats))
/-- DMA_BURST_ISSUE (R790). -/
def execDmaBurstIssue (engine : Nat) (data : List Byte) (rdErr wrErr : Option Nat) (s : State) : Out :=
  .next (doBurst engine data rdErr wrErr s)
/-- DMA_DESCRIPTOR_COMPLETE (R798). -/
def execDmaDescriptorComplete (c : Nat) (recordErr statusErr : Bool) (link : Nat) (s : State) : Out :=
  .next (doDescDone c recordErr statusErr link s)
/-- TAILWAIT_POLL (R806). -/
def execTailwaitPoll (c link : Nat) (s : State) : Out := .next (doTailPoll c link s)

end Sys2Proof.Machine
end

