-- ==== Sys2Proof/Machine/Dispatch.lean ====
section
/-! DEFINITION. The meaning of every command: one arm per constructor, one direct call each. -/
namespace Sys2Proof.Machine

/-- What a command does to everything but the queue. [DEDUCED, log 4] [DEDUCED, log 68] -/
def exec (i : Instr) (s : State) : Host.Outcome State Fault Refusal :=
  match i with
  | .tickBoundary e => Sys2Proof.Machine.execTickBoundary e s
  | .intakeCutoff => Sys2Proof.Machine.execIntakeCutoff s
  | .eddyDeadline => Sys2Proof.Machine.execEddyDeadline s
  | .finishLine e => Sys2Proof.Machine.execFinishLine e s
  | .delayPrefetchMiss die cluster => Sys2Proof.Machine.execDelayPrefetchMiss die cluster s
  | .delayWriteMiss => Sys2Proof.Machine.execDelayWriteMiss s
  | .recordingGap => Sys2Proof.Machine.execRecordingGap s
  | .sentinelFeedMiss g => Sys2Proof.Machine.execSentinelFeedMiss g s
  | .bundleIssue p hw => Sys2Proof.Machine.execBundleIssue p hw s
  | .kendOverdue p => Sys2Proof.Machine.execKendOverdue p s
  | .transferLine c x => Sys2Proof.Machine.execTransferLine c x s
  | .importWaitEnd w => Sys2Proof.Machine.execImportWaitEnd w s
  | .eddyPassAdmission => Sys2Proof.Machine.execEddyPassAdmission s
  | .faultReplayAdmission => Sys2Proof.Machine.execFaultReplayAdmission s
  | .eddyPassRun => Sys2Proof.Machine.execEddyPassRun s
  | .laneSelftestEnd p pass => Sys2Proof.Machine.execLaneSelftestEnd p pass s
  | .spareRotation c => Sys2Proof.Machine.execSpareRotation c s
  | .clusterMemoryTestEnd c pass fills => Sys2Proof.Machine.execClusterMemoryTestEnd c pass fills s
  | .rebuildComplete => Sys2Proof.Machine.execRebuildComplete s
  | .rebuildTimeout linkUe => Sys2Proof.Machine.execRebuildTimeout linkUe s
  | .dieReloadComplete die ok => Sys2Proof.Machine.execDieReloadComplete die ok s
  | .computeDieSupplyTrip die => Sys2Proof.Machine.execComputeDieSupplyTrip die s
  | .supplyMonitorTrip rail => Sys2Proof.Machine.execSupplyMonitorTrip rail s
  | .launch => Sys2Proof.Machine.execLaunch s
  | .primingStart => Sys2Proof.Machine.execPrimingStart s
  | .crossfadeEnd => Sys2Proof.Machine.execCrossfadeEnd s
  | .collectionCommit => Sys2Proof.Machine.execCollectionCommit s
  | .zeroCrossing n k => Sys2Proof.Machine.execZeroCrossing n k s
  | .zcTimeout n => Sys2Proof.Machine.execZcTimeout n s
  | .descriptorFetch r descs => Sys2Proof.Machine.execDescriptorFetch r descs s
  | .doorbellPoll page => Sys2Proof.Machine.execDoorbellPoll page s
  | .nudge value => Sys2Proof.Machine.execNudge value s
  | .fetchDeadline r kind error => Sys2Proof.Machine.execFetchDeadline r kind error s
  | .pcieCompletionTimeout r kind => Sys2Proof.Machine.execPcieCompletionTimeout r kind s
  | .cpl0CompletionDrain => Sys2Proof.Machine.execCpl0CompletionDrain s
  | .eventQueueDrain => Sys2Proof.Machine.execEventQueueDrain s
  | .hostLinkReset kind => Sys2Proof.Machine.execHostLinkReset kind s
  | .ringEnable q r value => Sys2Proof.Machine.execRingEnable q r value s
  | .ringDisable q r value => Sys2Proof.Machine.execRingDisable q r value s
  | .eventRingEnable q value => Sys2Proof.Machine.execEventRingEnable q value s
  | .eventRingDisable q value => Sys2Proof.Machine.execEventRingDisable q value s
  | .hostLock q value => Sys2Proof.Machine.execHostLock q value s
  | .blockLock q offset value => Sys2Proof.Machine.execBlockLock q offset value s
  | .counterClear q offset value => Sys2Proof.Machine.execCounterClear q offset value s
  | .registerWrite q offset size value => Sys2Proof.Machine.execRegisterWrite q offset size value s
  | .shRegisterWrite q offset value => Sys2Proof.Machine.execShRegisterWrite q offset value s
  | .routeWindowLowWrite q n value => Sys2Proof.Machine.execRouteWindowLowWrite q n value s
  | .routeWindowHighWrite q n wide low value => Sys2Proof.Machine.execRouteWindowHighWrite q n wide low value s
  | .sessionExpiry n => Sys2Proof.Machine.execSessionExpiry n s
  | .sessionOpen d => Sys2Proof.Machine.execSessionOpen d s
  | .sessionClose d => Sys2Proof.Machine.execSessionClose d s
  | .writeItems d => Sys2Proof.Machine.execWriteItems d s
  | .regWrite d => Sys2Proof.Machine.execRegWrite d s
  | .planLoad d img => Sys2Proof.Machine.execPlanLoad d img s
  | .planLoadComplete env => Sys2Proof.Machine.execPlanLoadComplete env s
  | .txnBegin d => Sys2Proof.Machine.execTxnBegin d s
  | .txnPrepare d => Sys2Proof.Machine.execTxnPrepare d s
  | .txnCommit d => Sys2Proof.Machine.execTxnCommit d s
  | .txnRollback d => Sys2Proof.Machine.execTxnRollback d s
  | .sceneStore d => Sys2Proof.Machine.execSceneStore d s
  | .sceneRecall d => Sys2Proof.Machine.execSceneRecall d s
  | .sceneErase d => Sys2Proof.Machine.execSceneErase d s
  | .streamOpen d => Sys2Proof.Machine.execStreamOpen d s
  | .streamOpenEffect tx n => Sys2Proof.Machine.execStreamOpenEffect tx n s
  | .streamClose d => Sys2Proof.Machine.execStreamClose d s
  | .streamCloseEffect tx n => Sys2Proof.Machine.execStreamCloseEffect tx n s
  | .streamStat d => Sys2Proof.Machine.execStreamStat d s
  | .timeSet d => Sys2Proof.Machine.execTimeSet d s
  | .reEpoch d => Sys2Proof.Machine.execReEpoch d s
  | .reEpochStep refTime => Sys2Proof.Machine.execReEpochStep refTime s
  | .realign d => Sys2Proof.Machine.execRealign d s
  | .realignApply => Sys2Proof.Machine.execRealignApply s
  | .refHistory d => Sys2Proof.Machine.execRefHistory d s
  | .dieReset d => Sys2Proof.Machine.execDieReset d s
  | .authHandover d => Sys2Proof.Machine.execAuthHandover d s
  | .handoverBoundary => Sys2Proof.Machine.execHandoverBoundary s
  | .allstop d => Sys2Proof.Machine.execAllstop d s
  | .allstopRelease d => Sys2Proof.Machine.execAllstopRelease d s
  | .scClear d => Sys2Proof.Machine.execScClear d s
  | .senseCal d => Sys2Proof.Machine.execSenseCal d s
  | .senseCalibration n iOfs vOfs => Sys2Proof.Machine.execSenseCalibration n iOfs vOfs s
  | .senseCalTimeout n => Sys2Proof.Machine.execSenseCalTimeout n s
  | .sentSet d => Sys2Proof.Machine.execSentSet d s
  | .sentSetEffect n => Sys2Proof.Machine.execSentSetEffect n s
  | .sentStat d => Sys2Proof.Machine.execSentStat d s
  | .zCapture d => Sys2Proof.Machine.execZCapture d s
  | .zCaptureTimeout n => Sys2Proof.Machine.execZCaptureTimeout n s
  | .sentRestart d => Sys2Proof.Machine.execSentRestart d s
  | .selftestLanes d => Sys2Proof.Machine.execSelftestLanes d s
  | .selftestClusterMemory d => Sys2Proof.Machine.execSelftestClusterMemory d s
  | .dramFullRetrain d => Sys2Proof.Machine.execDramFullRetrain d s
  | .dramFrequencyChange d => Sys2Proof.Machine.execDramFrequencyChange d s
  | .frequencyChange => Sys2Proof.Machine.execFrequencyChange s
  | .frequencyChangeTimeout => Sys2Proof.Machine.execFrequencyChangeTimeout s
  | .planUnload d => Sys2Proof.Machine.execPlanUnload d s
  | .standby d => Sys2Proof.Machine.execStandby d s
  | .wake d => Sys2Proof.Machine.execWake d s
  | .meter d => Sys2Proof.Machine.execMeter d s
  | .tapCapture d => Sys2Proof.Machine.execTapCapture d s
  | .objRead d => Sys2Proof.Machine.execObjRead d s
  | .recArm d => Sys2Proof.Machine.execRecArm d s
  | .recStart d => Sys2Proof.Machine.execRecStart d s
  | .recordingStart => Sys2Proof.Machine.execRecordingStart s
  | .recStop d => Sys2Proof.Machine.execRecStop d s
  | .recordingStop => Sys2Proof.Machine.execRecordingStop s
  | .playOpen d => Sys2Proof.Machine.execPlayOpen d s
  | .playStart d => Sys2Proof.Machine.execPlayStart d s
  | .playbackStart n => Sys2Proof.Machine.execPlaybackStart n s
  | .playStop d => Sys2Proof.Machine.execPlayStop d s
  | .playbackLeadExhausted n samples cite => Sys2Proof.Machine.execPlaybackLeadExhausted n samples cite s
  | .takeList d => Sys2Proof.Machine.execTakeList d s
  | .takeDelete d => Sys2Proof.Machine.execTakeDelete d s
  | .storeFormat d good bad mib => Sys2Proof.Machine.execStoreFormat d good bad mib s
  | .fileWrite d => Sys2Proof.Machine.execFileWrite d s
  | .fileRead d => Sys2Proof.Machine.execFileRead d s
  | .fileDelete d => Sys2Proof.Machine.execFileDelete d s
  | .fileList d => Sys2Proof.Machine.execFileList d s
  | .pendingVersionTimeout name => Sys2Proof.Machine.execPendingVersionTimeout name s
  | .logRead d => Sys2Proof.Machine.execLogRead d s
  | .logExport d => Sys2Proof.Machine.execLogExport d s
  | .fwStage d => Sys2Proof.Machine.execFwStage d s
  | .fwInstall d => Sys2Proof.Machine.execFwInstall d s
  | .fwStatus d => Sys2Proof.Machine.execFwStatus d s
  | .sceneImport d => Sys2Proof.Machine.execSceneImport d s
  | .sceneExport d => Sys2Proof.Machine.execSceneExport d s
  | .keyImport d => Sys2Proof.Machine.execKeyImport d s
  | .keyDelete d => Sys2Proof.Machine.execKeyDelete d s
  | .keyGen d => Sys2Proof.Machine.execKeyGen d s
  | .keyActivate d => Sys2Proof.Machine.execKeyActivate d s
  | .keyList d => Sys2Proof.Machine.execKeyList d s
  | .svnCommit d => Sys2Proof.Machine.execSvnCommit d s
  | .tokenGen d => Sys2Proof.Machine.execTokenGen d s
  | .devidCert d => Sys2Proof.Machine.execDevidCert d s
  | .tamperClear d levels => Sys2Proof.Machine.execTamperClear d levels s
  | .zeroise d => Sys2Proof.Machine.execZeroise d s
  | .debugChallenge d => Sys2Proof.Machine.execDebugChallenge d s
  | .debugUnlock d => Sys2Proof.Machine.execDebugUnlock d s
  | .packetReceive p => Sys2Proof.Machine.execPacketReceive p s
  | .arpRequest port target sender => Sys2Proof.Machine.execArpRequest port target sender s
  | .icmpEchoRequest port target sender payload => Sys2Proof.Machine.execIcmpEchoRequest port target sender payload s
  | .igmpReport port group => Sys2Proof.Machine.execIgmpReport port group s
  | .frameForward f => Sys2Proof.Machine.execFrameForward f s
  | .egressFrameStart port => Sys2Proof.Machine.execEgressFrameStart port s
  | .fdbAgeing group mac => Sys2Proof.Machine.execFdbAgeing group mac s
  | .linkStateChange port up fecLock => Sys2Proof.Machine.execLinkStateChange port up fecLock s
  | .streamPathDown n pathB => Sys2Proof.Machine.execStreamPathDown n pathB s
  | .slipWindowEnd n => Sys2Proof.Machine.execSlipWindowEnd n s
  | .lateDropWindowEnd => Sys2Proof.Machine.execLateDropWindowEnd s
  | .streamPacketLaunch n => Sys2Proof.Machine.execStreamPacketLaunch n s
  | .packetTxDeadline n => Sys2Proof.Machine.execPacketTxDeadline n s
  | .switchConfigWrite q value => Sys2Proof.Machine.execSwitchConfigWrite q value s
  | .ptpclkWrite q value => Sys2Proof.Machine.execPtpclkWrite q value s
  | .ptpMessageReceive m => Sys2Proof.Machine.execPtpMessageReceive m s
  | .delayReq m => Sys2Proof.Machine.execDelayReq m s
  | .managementMessage m => Sys2Proof.Machine.execManagementMessage m s
  | .ptpEventForward m egressPort => Sys2Proof.Machine.execPtpEventForward m egressPort s
  | .syncTransmit port egress => Sys2Proof.Machine.execSyncTransmit port egress s
  | .followUp port => Sys2Proof.Machine.execFollowUp port s
  | .announceTransmit port => Sys2Proof.Machine.execAnnounceTransmit port s
  | .firstLockStep => Sys2Proof.Machine.execFirstLockStep s
  | .referenceEdge slot e => Sys2Proof.Machine.execReferenceEdge slot e s
  | .referenceActivityLoss slot => Sys2Proof.Machine.execReferenceActivityLoss slot s
  | .frequencyGateEnd slot freq => Sys2Proof.Machine.execFrequencyGateEnd slot freq s
  | .waitToRestoreEnd slot => Sys2Proof.Machine.execWaitToRestoreEnd slot s
  | .holdoverHistoryWrite => Sys2Proof.Machine.execHoldoverHistoryWrite s
  | .eventInputEdge n falling held atNs => Sys2Proof.Machine.execEventInputEdge n falling held atNs s
  | .launchOutputArm q j value => Sys2Proof.Machine.execLaunchOutputArm q j value s
  | .launchOutputDisarm q j value => Sys2Proof.Machine.execLaunchOutputDisarm q j value s
  | .launchOutputPulse j => Sys2Proof.Machine.execLaunchOutputPulse j s
  | .launchOutputPulseEnd j => Sys2Proof.Machine.execLaunchOutputPulseEnd j s
  | .heartbeat f => Sys2Proof.Machine.execHeartbeat f s
  | .partnerLost => Sys2Proof.Machine.execPartnerLost s
  | .config f => Sys2Proof.Machine.execConfig f s
  | .configAckTimeout => Sys2Proof.Machine.execConfigAckTimeout s
  | .image f => Sys2Proof.Machine.execImage f s
  | .stateImageSend => Sys2Proof.Machine.execStateImageSend s
  | .handover f => Sys2Proof.Machine.execHandover f s
  | .ack f => Sys2Proof.Machine.execAck f s
  | .handoverAckTimeout => Sys2Proof.Machine.execHandoverAckTimeout s
  | .timeFrame f a2 => Sys2Proof.Machine.execTimeFrame f a2 s
  | .authInSample level => Sys2Proof.Machine.execAuthInSample level s
  | .authorityWatchdog => Sys2Proof.Machine.execAuthorityWatchdog s
  | .stewardLockstepMismatch b => Sys2Proof.Machine.execStewardLockstepMismatch b s
  | .portStart q p value => Sys2Proof.Machine.execPortStart q p value s
  | .portStop q p value => Sys2Proof.Machine.execPortStop q p value s
  | .maskArm q p value => Sys2Proof.Machine.execMaskArm q p value s
  | .portFrame p rx fs => Sys2Proof.Machine.execPortFrame p rx fs s
  | .slotUnderrun p => Sys2Proof.Machine.execSlotUnderrun p s
  | .sapLossOfClock p => Sys2Proof.Machine.execSapLossOfClock p s
  | .sapRateMeasurement p ppb => Sys2Proof.Machine.execSapRateMeasurement p ppb s
  | .slipLogWindowEnd p => Sys2Proof.Machine.execSlipLogWindowEnd p s
  | .groupEnable q g value => Sys2Proof.Machine.execGroupEnable q g value s
  | .railQualified g => Sys2Proof.Machine.execRailQualified g s
  | .bootEnd g => Sys2Proof.Machine.execBootEnd g s
  | .carrierPeriod g bits => Sys2Proof.Machine.execCarrierPeriod g bits s
  | .scNFall n => Sys2Proof.Machine.execScNFall n s
  | .probeStart n => Sys2Proof.Machine.execProbeStart n s
  | .probeResult w => Sys2Proof.Machine.execProbeResult w s
  | .rearmRampEnd n => Sys2Proof.Machine.execRearmRampEnd n s
  | .scWaitExpiry n => Sys2Proof.Machine.execScWaitExpiry n s
  | .muteNFall held => Sys2Proof.Machine.execMuteNFall held s
  | .muteNRise => Sys2Proof.Machine.execMuteNRise s
  | .pinAllstopEnd => Sys2Proof.Machine.execPinAllstopEnd s
  | .railUndervoltage g => Sys2Proof.Machine.execRailUndervoltage g s
  | .railOvervoltage g => Sys2Proof.Machine.execRailOvervoltage g s
  | .stageStatusFrame g bits => Sys2Proof.Machine.execStageStatusFrame g bits s
  | .stageStatusTimeout g => Sys2Proof.Machine.execStageStatusTimeout g s
  | .stageFaultRestart g => Sys2Proof.Machine.execStageFaultRestart g s
  | .senseStuck n stream => Sys2Proof.Machine.execSenseStuck n stream s
  | .senseStuckClear n stream => Sys2Proof.Machine.execSenseStuckClear n stream s
  | .pilotWindowEnd w => Sys2Proof.Machine.execPilotWindowEnd w s
  | .sentinelFault g cause => Sys2Proof.Machine.execSentinelFault g cause s
  | .sentinelRestartDone g => Sys2Proof.Machine.execSentinelRestartDone g s
  | .sentinelRestartTimeout g => Sys2Proof.Machine.execSentinelRestartTimeout g s
  | .busRequest r => Sys2Proof.Machine.execBusRequest r s
  | .targetGrant t writes => Sys2Proof.Machine.execTargetGrant t writes s
  | .targetResponse t e => Sys2Proof.Machine.execTargetResponse t e s
  | .targetResponseTimeout t => Sys2Proof.Machine.execTargetResponseTimeout t s
  | .masterReset m => Sys2Proof.Machine.execMasterReset m s
  | .masterPortClosed m => Sys2Proof.Machine.execMasterPortClosed m s
  | .dramTrainingEnd lanes => Sys2Proof.Machine.execDramTrainingEnd lanes s
  | .trackingBurst c l0 l1 => Sys2Proof.Machine.execTrackingBurst c l0 l1 s
  | .refreshDue ch rank => Sys2Proof.Machine.execRefreshDue ch rank s
  | .refreshPayback rank => Sys2Proof.Machine.execRefreshPayback rank s
  | .retryDataArrival flips => Sys2Proof.Machine.execRetryDataArrival flips s
  | .eccWriteback block => Sys2Proof.Machine.execEccWriteback block s
  | .patrolScrub block flips => Sys2Proof.Machine.execPatrolScrub block flips s
  | .dmaStart q value => Sys2Proof.Machine.execDmaStart q value s
  | .dmaStop q value => Sys2Proof.Machine.execDmaStop q value s
  | .dmaAppend q value => Sys2Proof.Machine.execDmaAppend q value s
  | .dmaDescriptorFetch c d statusErr => Sys2Proof.Machine.execDmaDescriptorFetch c d statusErr s
  | .dmaRequest line beats => Sys2Proof.Machine.execDmaRequest line beats s
  | .dmaBurstIssue engine data rdErr wrErr => Sys2Proof.Machine.execDmaBurstIssue engine data rdErr wrErr s
  | .dmaDescriptorComplete c recordErr statusErr link => Sys2Proof.Machine.execDmaDescriptorComplete c recordErr statusErr link s
  | .tailwaitPoll c link => Sys2Proof.Machine.execTailwaitPoll c link s
  | .codewordTimeout chan ce block page use => Sys2Proof.Machine.execCodewordTimeout chan ce block page use s
  | .programFailure chan ce block => Sys2Proof.Machine.execProgramFailure chan ce block s
  | .blockRefresh block => Sys2Proof.Machine.execBlockRefresh block s
  | .wearMove => Sys2Proof.Machine.execWearMove s
  | .nandScrub block corrected stage => Sys2Proof.Machine.execNandScrub block corrected stage s
  | .journalCheckpoint => Sys2Proof.Machine.execJournalCheckpoint s
  | .storeMount targets wr rd result => Sys2Proof.Machine.execStoreMount targets wr rd result s
  | .storeFull => Sys2Proof.Machine.execStoreFull s
  | .tamperTrip n => Sys2Proof.Machine.execTamperTrip n s
  | .powerOnReset b => Sys2Proof.Machine.execPowerOnReset b s
  | .iodReset cause b => Sys2Proof.Machine.execIodReset cause b s
  | .stewardWatchdog b => Sys2Proof.Machine.execStewardWatchdog b s
  | .softReset q value => Sys2Proof.Machine.execSoftReset q value s
  | .backupPowerOn => Sys2Proof.Machine.execBackupPowerOn s
  | .vbatSwitchover => Sys2Proof.Machine.execVbatSwitchover s
  | .engineStart => Sys2Proof.Machine.execEngineStart s
  | .engineStop => Sys2Proof.Machine.execEngineStop s
  | .latchingRead q offset => Sys2Proof.Machine.execLatchingRead q offset s
  | .ouvfelLinkStateChange state => Sys2Proof.Machine.execOuvfelLinkStateChange state s
  | .announceReceiptTimeout port => Sys2Proof.Machine.execAnnounceReceiptTimeout port s
  | .delayReqTransmit port egress => Sys2Proof.Machine.execDelayReqTransmit port egress s
  | .fwInstallComplete verified => Sys2Proof.Machine.execFwInstallComplete verified s
  | .dramRetrainComplete lanes => Sys2Proof.Machine.execDramRetrainComplete lanes s

end Sys2Proof.Machine
end

