-- ==== Sys2Proof/Machine/Step.lean ====
section
/-! DEFINITION. One step of the block: the command at the front of the queue, or one cycle of the
250 MHz clock when the queue is empty. -/
namespace Sys2Proof.Machine

/-- Take the command at the front of the queue and run it; on an empty queue the local time counts
one clock cycle (R415; log entry 1). [DESIGN CHOICE, log 1] [DEDUCED, log 68] [DESIGN CHOICE, log 73] -/
def step (s : State) : Host.Outcome State Fault Refusal :=
  match s.pending with
  | [] => .next (clockCycle s)
  | c :: rest => exec c { s with pending := rest }

/-- The state with the command that a word spells put at the front of the queue; the table gives its
rows no bits, so no word spells one. [DESIGN CHOICE, log 73] -/
def State.withFetchWord (s : State) (nbits w : Nat) : State :=
  match decodeTableWord nbits w with
  | none => s
  | some c => { s with pending := c :: s.pending }

end Sys2Proof.Machine
end

