-- ==== Sys2Proof/Safety.lean ====
section
/-! DEFINITION. What the statements call a sound state and what they compare: the canonical forms of the sparse
tables, the bound of the silt log, and what two states share. -/
namespace Sys2Proof.Machine

/-- The register file is in its canonical form: offsets strictly rising, no entry at its Reset value. -/
def State.RegsCanon (s : State) : Prop := tblWf resetWord s.regs = true

/-- The fabric memories are in their canonical form. -/
def State.MemCanon (s : State) : Prop := Memory.wf s.bus.mem = true

/-- The silt log ring holds at most 65,536 entries, and so does what MRAM held of it when a supply monitor tripped
(R850, R897). -/
def State.SiltBounded (s : State) : Prop :=
  s.silt.length ≤ siltSize ∧ (s.pwr.mram.all fun m => decide (m.silt.length ≤ siltSize)) = true

/-- Two states hold the same topcoat: routes, parameters and gains. -/
def State.sameTopcoat (s t : State) : Prop :=
  t.routes = s.routes ∧ t.params = s.params ∧ t.gains = s.gains

/-- Two states hold the same but for registers: what a command that only writes registers leaves. -/
def State.sameButRegs (s t : State) : Prop := ∃ r, t = { s with regs := r }

/-- Every register but those at the listed offsets reads the same. -/
def State.regsFrame (offs : List Nat) (s t : State) : Prop :=
  ∀ o, o ∉ offs → t.word o = s.word o

/-- Every byte of the fabric memories reads the same. -/
def State.memSame (s t : State) : Prop := ∀ a, Memory.read t.bus.mem a = Memory.read s.bus.mem a

/-- The state in which a ring's command acts: started, and its session's SEQ noted (R691, R710). -/
def State.opened (s : State) (op : Nat) (d : Desc) : State := (s.start op d).noteSeq d

/-- A descriptor that acts: it stands at the head of its ring, which may start it (R691, R695), its ring is not
CMD0 (R709), its session and role allow it (R710, R716), and no reserved field is set (R697, R703). -/
structure State.Admits (s : State) (op role : Nat) (d : Desc) : Prop where
  ready : s.ready op d = true
  ring : d.ring ≠ 0
  crypto : d.session = 0 ∨ (s.start op d).rd Reg.SEC.STATUS.CRYPTO ≠ 2
  allowed : (s.start op d).allowed op role d = true
  clean : descBad d op = none

/-- A started command ends with a status, RESULT bytes and a response (R699, R700); then descriptors behind it
whose opcode names no command complete (R702). -/
def State.completes (t : State) (d : Desc) (status : Nat) (result resp : List Byte) : State :=
  pumpUnknown 4 d.ring (t.finish d.ring status result resp)

/-- A started command goes on executing; it completes later. -/
def State.goesOn (t : State) (d : Desc) : State := pumpUnknown 4 d.ring t

/-- A register write that acts: the part is not halted, the requester has a path and no lock turns it away (R715,
R887), and the aligned offset is one that a register table lists with the fields `fs` (R11, R677). -/
structure State.Writes (s : State) (q : Requester) (off : Nat) (fs : List RField) : Prop where
  live : s.pwr.halted = false
  open_ : s.writeBarred q off = false
  aligned : off % 4 = 0
  mapped : regFields off = some fs

/-- The counter registers that the CLR_CNT bit at an offset takes back to their Reset values whole (R931). -/
def clearedBy (off : Nat) : List Nat := match off with
  | 0x1003C => [0x10028, 0x1002C, 0x10030, 0x10034]
  | 0x60000 => [0x6000C, 0x60010, 0x60088]
  | 0x7003C => [0x70020, 0x70024, 0x70028]
  | 0x80000 => offs 0x8004C 16 4 ++ offs 0x80140 4 16
  | 0x90000 => 0x90018 :: offs 0x9004C 16 10
  | 0xA0000 => offs 0xA0120 64 4 ++ offs 0xA0124 64 4 ++ offs 0xA0128 64 4 ++ offs 0xA012C 64 4
  | 0x100000 => 0x10000C :: offs 0x100408 16 128
  | 0x120000 => offs 0x120048 16 16
  | 0x150000 => offs 0x150048 16 14 ++ offs 0x150208 16 9
  | 0x160000 => [0x160018, 0x16001C] ++ offs 0x16010C 32 8
  | _ => match arrIdx 0xD002C 64 32 off with
    | some p => [0xD0018 + 64 * p, 0xD001C + 64 * p, 0xD0020 + 64 * p]
    | none => []

end Sys2Proof.Machine
end

