-- ==== Sys2Proof/Certificates/Slice0/Obligations.lean ====
section
/-! DEFINITION. The statements for the provers: what the rules say each command does, what it leaves alone, and
what every step keeps. -/
open Sys2Proof Sys2Proof.Machine

/-- A step takes the command at the front of the queue and is exec of it on the state with the rest -/
def Obligations.StepRunsTheFrontCommand : Prop :=
  ∀ (c : Instr) (rest : List Instr) (s : State),
    step { s with pending := c :: rest } = exec c { s with pending := rest }

/-- A step on an empty queue advances only the time base, by one clock cycle (the model's choice, log 1) -/
def Obligations.IdleStepCountsOneClockCycle : Prop :=
  ∀ s : State, s.pending = [] →
    ∃ x, step s = .next { s with time := x } ∧ x.now + s.time.mono = x.mono + s.time.now ∧
      (x.now - s.time.now) * 1000000000000 + x.rem = ((4 * 2 ^ 40 : Int) * (1000000000000 + s.time.y)).toNat + s.time.rem ∧
      x = { s.time with now := x.now, mono := x.mono, rem := x.rem }

/-- What the tick's rows do: cutoff, eddy deadline, finish line, boundary, delay misses, engine start. Concludes that exec
answers a next state, under conditions on the state and the operands alone, for: intakeCutoff, eddyDeadline,
finishLine, tickBoundary, delayPrefetchMiss, delayWriteMiss, engineStart. -/
def Obligations.TickRowsTakeEffect : Prop :=
  (∀ s t : State, exec .eddyDeadline s = .next t → exec .intakeCutoff s = exec .intakeCutoff t) ∧
  (∀ s : State, s.inRun s.tick = true → s.eng.cutDone = false → s.eng.eddyClosed = true →
      exec .intakeCutoff s = .next ((s.reach (s.tAt (s.tick + 1) - 2000)).buildBlock s.tick)) ∧
  (∀ s : State, s.inRun s.eng.frame = true → s.eng.eddyClosed = false → s.tick = s.eng.frame + 1 →
      ∃ u t : State, exec .eddyDeadline s = .next { t with eng := { t.eng with eddyClosed := true } } ∧
        u = s.reach (min (s.eddyAt s.eng.frame) (s.tAt (s.eng.frame + 2) - 4000)) ∧
        t = State.decideAll (u.eng.reqs.length + u.eng.faults.length) u) ∧
  (∀ (e : FinishEnv) (s : State), s.inRun s.eng.frame = true → s.eng.finished = false → s.tick = s.eng.frame + 1 →
      ∃ m t : State, exec (.finishLine e) s = .next t ∧ t = m.promoteLanes ∧ t.eng.finished = true ∧
        m.eng.crc0 = m.blockCrc 0 m.eng.staged ∧ (m.duplex = true → m.eng.crc1 = m.blockCrc 1 m.eng.stage1) ∧
        s.tAt (s.eng.frame + 2) - 4000 ≤ t.ns) ∧
  (∀ (e : FlipEnv) (s : State),
      ∃ t, exec (.tickBoundary e) s = .next t ∧ t.eng.frame = s.tick ∧ t.eng.finished = false ∧
        t.eng.eddyClosed = false ∧ t.eng.overrun = [] ∧ t.eng.pfMiss = [] ∧ t.eng.passes = []) ∧
  (∀ (d k c : Nat) (s : State), d < 2 → k < 16 → c = d * 16 + k → s.on Reg.TICK.STATUS.RUN = true →
      ∃ m n, m = (if s.eng.pfMiss.contains c then s.eng.pfMiss else s.eng.pfMiss ++ [c]) ∧
        n = { s.eng.counts with prefetch := s.eng.counts.prefetch + 1 } ∧
        exec (.delayPrefetchMiss d k) s = .next ((({ s with eng := { s.eng with pfMiss := m, counts := n } } : State).hold 0x0115
          (le 1 c ++ le 8 s.eng.frame)).advanceGen (if c < 16 then 7 else 8) 1)) ∧
  (∀ s : State, s.on Reg.TICK.STATUS.RUN = true →
      exec .delayWriteMiss s = .next
        (({ s with eng := { s.eng with wrMiss := true } } : State).log 0x0116
          (le 8 s.eng.relFrame))) ∧
  (∀ (m : Nat) (s : State), s.eng.first = some m → s.on Reg.TICK.STATUS.RUN = false → s.tAt m ≤ s.ns →
      s.on Reg.TICK.CFG.PLAN = true → s.on Reg.TICK.STATUS.GRID = true →
      ∃ t, exec .engineStart s = .next t ∧ t.on Reg.TICK.STATUS.RUN = true ∧
        t.eng.first = some (max m s.tick) ∧ t.eng.frame = max m s.tick - 1)

/-- What a lane does: a bundle without a fault, an overdue KEND, a line transfer, the end of an import wait. Concludes
that exec answers a next state, under conditions on the state and the operands alone, for: bundleIssue, kendOverdue,
transferLine, importWaitEnd. -/
def Obligations.LaneRowsTakeEffect : Prop :=
  (∀ (p kid : Nat) (s : State) (x : LaneP) (k : LogL) (w : BitVec 64) (i : Issue), p < 288 →
      (s.laneP p).log.isSome = true → (s.laneP p).halted = false → (s.laneP p).faulted = false →
      x = (s.laneP p).mature (s.laneP p).cyc → x.waiting = false → (x.seq.isSome && x.run.isNone) = false →
      s.mustWait p x = false → (s.cluMem (p / 9)).bad.contains x.pc = false → (∀ a, x.eccAt a = .ok) →
      kid = x.log.getD 0 → k = s.logl kid → w = tblGet (fun _ => 0) (s.cluMem (p / 9)).code x.pc →
      illBits w = false → illCtl x w = false →
      ((addrOp w 20).accesses && addrFault k (slotAddrs x (addrOp w 20) (addrOp w 36)).1) = false →
      ((addrOp w 36).accesses && addrFault k (slotAddrs x (addrOp w 20) (addrOp w 36)).2) = false →
      collides x (addrOp w 20) (slotAddrs x (addrOp w 20) (addrOp w 36)).1 = false →
      collides x (addrOp w 36) (slotAddrs x (addrOp w 20) (addrOp w 36)).2 = false →
      (∀ r, x.run = some r → bField w 60 4 = 7 → x.cyc + 1 - r.since = r.expect) →
      i = runBundle (s.cluMem (p / 9)).kern s.spt w x k →
      exec (.bundleIssue p .clean) s = .next (((s.setLogl kid i.k).count (Reg.LANE.CL.ACCOVF.SAT (p / 9)) i.sat).setLaneP p
        (goOn { i.x with waiting := false, cyc := x.cyc + 1 }))) ∧
  (∀ (p : Nat) (s : State) (x : LaneP), p < 288 → (s.laneP p).log.isSome = true → (s.laneP p).halted = false →
      (s.laneP p).faulted = false → x = (s.laneP p).mature (s.laneP p).cyc → x.waiting = false →
      (x.seq.isSome && x.run.isNone) = false → s.mustWait p x = true → (s.cluMem (p / 9)).bad.contains x.pc = false →
      exec (.bundleIssue p .clean) s = .next ((s.count (Reg.LANE.CL.ACCOVF.WAIT (p / 9))).setLaneP p
        { x with waiting := true, cyc := x.cyc + 1 })) ∧
  (∀ (p : Nat) (hw : LaneHw) (s : State) (x : LaneP), p < 288 → (s.laneP p).log.isSome = true →
      (s.laneP p).halted = false → (s.laneP p).faulted = false → x = (s.laneP p).mature (s.laneP p).cyc →
      x.waiting = false → x.seq = some [] → x.run = none →
      exec (.bundleIssue p hw) s = .next (s.setLaneP p { x with halted := true, cyc := x.cyc + 1 })) ∧
  (∀ (p : Nat) (s : State) (r : LaneRun), (s.laneP p).run = some r → (s.laneP p).halted = false →
      (s.laneP p).faulted = false → r.since + r.expect + 64 ≤ (s.laneP p).cyc →
      exec (.kendOverdue p) s = .next (s.laneFault p 3 (s.laneP p))) ∧
  (∀ (c l : Nat) (x : Transfer) (e : Xfer) (s : State), c < 32 → l < 9 → x.regionLine < 262144 → x.laneAddr < 0x8000 →
      x.positions = [l] → x.toLanes = false → s.eng.finished = false → xferOf (s.laneP (flatPos c l)) x = some e →
      (∀ a, (s.laneP (flatPos c l)).eccAt a = .ok) →
      (∀ w i j : Nat, w < 8 → i < 43 → j < 43 → i ≠ j →
        exec (.transferLine c { x with flips := [(w, i), (w, j)] }) s = .next (s.laneFault (flatPos c l) 2
          (((s.laneP (flatPos c l)).upsetAt (x.laneAddr / 8 * 8 + w) [i]).upsetAt (x.laneAddr / 8 * 8 + w) [j]))) ∧
      ∃ t, exec (.transferLine c { x with flips := [] }) s = .next t ∧
        (∀ w < 8, laneRead t.lanes.region (regionKey (c / 4) (x.regionLine * 8 + w)) =
          laneRead (s.laneP (flatPos c l)).mem (x.laneAddr / 8 * 8 + w)) ∧
        (t.laneP (flatPos c l)).mem = (s.laneP (flatPos c l)).mem ∧ t = { s with lanes := t.lanes }) ∧
  (∀ (c l : Nat) (x : Transfer) (e : Xfer) (s : State), c < 32 → l < 9 → x.regionLine < 262144 → x.laneAddr < 0x8000 →
      x.positions = [l] → x.toLanes = true → s.eng.finished = false → xferOf (s.laneP (flatPos c l)) x = some e →
      (∃ t, exec (.transferLine c { x with read := .ok }) s = .next t ∧
        (∀ w < 8, laneRead (t.laneP (flatPos c l)).mem (x.laneAddr / 8 * 8 + w) =
          laneRead s.lanes.region (regionKey (c / 4) (x.regionLine * 8 + w))) ∧
        (t.laneP (flatPos c l)).unready.contains (x.laneAddr / 8) = false ∧
        t.lanes.region = s.lanes.region ∧ t = { s with lanes := t.lanes }) ∧
      ∃ t, exec (.transferLine c { x with read := .bad }) s = .next t ∧
        (∀ w < 8, laneRead (t.laneP (flatPos c l)).mem (x.laneAddr / 8 * 8 + w) = 0) ∧
        (if c / 16 = 0 then t.eng.flag0 else t.eng.flag1) = true) ∧
  (∀ (p : Nat) (hw : LaneHw) (s : State) (x : LaneP), p < 288 → (s.laneP p).waiting = true →
      (s.laneP p).halted = false → (s.laneP p).faulted = false → x = (s.laneP p).mature (s.laneP p).cyc →
      s.mustWait p x = false →
      exec (.importWaitEnd ⟨p, hw⟩) s = .next (if x.run.isNone then s.laneFault p 3 x else s.issue p hw { x with waiting := false }))

/-- What the eddy arbiter does: admission of a pass, admission of a replay, the start of a lane part. Concludes that exec
answers a next state, under conditions on the state and the operands alone, for: eddyPassAdmission,
faultReplayAdmission, eddyPassRun. -/
def Obligations.ArbiterRowsTakeEffect : Prop :=
  (∀ (s u : State) (p : PlanImage) (q : EddyReq) (c : List (Nat × Bool)), s.eng.reqs.find? (fun x => x.frame == s.eng.frame) = some q →
      s.plan.image = some p → s.on Reg.TICK.STATUS.RUN = true → s.eng.finished = false → s.eng.eddyClosed = false →
      s.tAt (q.frame + 1) ≤ s.ns → s.faultFirst q.cycle = false →
      u = { s with eng := { s.eng with reqs := s.eng.reqs.erase q } } →
      c = u.cone p (q.data.map fun e => e.1) → u.alreadyIn q.frame q.data = false → c.isEmpty = false →
      u.eddyOn q.frame = true →
      (u.eng.passes.any fun x => x.stream.isSome && x.stream == q.stream && x.frame == q.frame && x.parts.all (fun y => !y.started) &&
        decide (q.cycle + readyCycles ≤ x.s0) && decide (q.cycle + readyCycles ≤ x.s1)) = false →
      ∃ a b s0 s1, (a, b) = u.passParts p c ∧ s0 = u.passStart (q.cycle + readyCycles) a ∧
        s1 = (if u.duplex && !b.isEmpty then u.passStart (q.cycle + readyCycles) b else s0) ∧
        exec .eddyPassAdmission s = .next (if u.fits s0 a && u.fits s1 b then
          (let t := (u.charge s0 a).charge s1 b
           ({ t with eng := { t.eng with passes := t.eng.passes ++ [({ stream := q.stream, frame := q.frame, parts := placed s0 a ++ placed s1 b, s0 := (if a.isEmpty then s1 else s0), s1 := s1, insts := c, data := q.data } : Pass)] } } : State).servePass q false)
          else u.refusePass q.stream true)) ∧
  (∀ (s : State) (p : PlanImage) (q : FaultReq) (rest : List FaultReq), s.eng.faults = q :: rest →
      s.plan.image = some p → s.eng.finished = false →
      (s.eng.reqs.any fun x => x.frame == s.eng.frame && decide (x.cycle < q.f)) = false →
      exec .faultReplayAdmission s =
        .next (({ s with eng := { s.eng with faults := rest } } : State).decideReplay p q)) ∧
  (∀ (s : State) (p : PlanImage) (q : FaultReq), s.replayServer q = none →
      s.decideReplay p q = { s with eng := { s.eng with
        decided := s.eng.decided ++ [(q, none)]
        counts := { s.eng.counts with hold := s.eng.counts.hold + 1 }
        flag0 := s.eng.flag0 || q.lane / 128 == 0
        flag1 := s.eng.flag1 || q.lane / 128 != 0 } }) ∧
  (∀ (s : State) (i : Nat) (q : PassPart) (x : Pass), s.nextPart = some (i, q) → s.eng.finished = false →
      s.eng.passes[i]? = some x →
      ∃ t u, t = s.reach (s.tAt (s.eng.frame + 1) + ceilDiv (q.start * 2) 3) ∧
        u = { t with eng := { t.eng with passes := modAt t.eng.passes i fun z =>
          { z with parts := z.parts.map fun y => if y == q then { y with started := true } else y } } } ∧
        exec .eddyPassRun s = .next (((t.barredIn x).foldl (fun (a : State) l =>
          a.fillExports l (exportLines (a.logl l) a.spt)) u).startPart q.lane x.insts (t.passXfers x q.lane) (t.passDescs x q.lane) q.start))

/-- What lane and cluster tests do: end of a lane self-test, a rotation, end of a cluster memory test. Concludes that exec
answers a next state, under conditions on the state and the operands alone, for: laneSelftestEnd, spareRotation,
clusterMemoryTestEnd. -/
def Obligations.LaneTestRowsTakeEffect : Prop :=
  (∀ (p : Nat) (s : State) (e : Nat), p < 288 → s.lstat (p / 9) (p % 9) = 2 → (s.posS p).testEnd = some e → e ≤ s.run →
      (s.clS (p / 9)).testPos ≠ some (p % 9) →
      exec (.laneSelftestEnd p true) s = .next ((s.setPosS p
        { s.posS p with passed := true, testEnd := none, fails := 0 }).hold 0x0104 (le 2 p))) ∧
  (∀ (p : Nat) (s : State) (e : Nat), p < 288 → s.lstat (p / 9) (p % 9) = 2 → (s.posS p).testEnd = some e → e ≤ s.run →
      (s.clS (p / 9)).testPos ≠ some (p % 9) → (s.posS p).fails = 0 →
      exec (.laneSelftestEnd p false) s = .next ((s.setPosS p
        { s.posS p with fails := 1, testEnd := some (s.run + laneTestNs) }).hold 0x0105 (le 2 p ++ le 1 1))) ∧
  (∀ (p : Nat) (s : State) (e : Nat), p < 288 → s.lstat (p / 9) (p % 9) = 2 → (s.posS p).testEnd = some e → e ≤ s.run →
      (s.clS (p / 9)).testPos ≠ some (p % 9) → 1 ≤ (s.posS p).fails →
      exec (.laneSelftestEnd p false) s = .next (((s.setPosS p
        { s.posS p with fails := (s.posS p).fails + 1, testEnd := some (s.run + laneTestNs) }).hold 0x0105
          (le 2 p ++ le 1 ((s.posS p).fails + 1))).retire (p / 9) (p % 9) 0)) ∧
  (∀ (p : Nat) (b : Bool) (s : State) (e : Nat), p < 288 → s.lstat (p / 9) (p % 9) = 2 →
      (s.posS p).testEnd = some e → e ≤ s.run → (s.clS (p / 9)).testPos = some (p % 9) → b = true →
      ∃ t, t = (s.setPosS p { s.posS p with passed := true, testEnd := none, fails := 0 }).hold 0x0104 (le 2 p) ∧
        exec (.laneSelftestEnd p b) s = .next ((t.setClS (p / 9) { t.clS (p / 9) with testPos := none }).finishOp
          0x60 stOk (le 1 0 ++ le 1 (p % 9)) [] fun d => d.a0 == 0 && d.a1 == p / 9)) ∧
  (∀ (c : Nat) (s : State), c < 32 → s.mayRotate c = true →
      exec (.spareRotation c) s = .next (s.setClS c { s.clS c with 
        rotating := some ((s.clS c).rotNext, (s.clS c).testWait.any fun t => decide (t < s.tick)) })) ∧
  (∀ (c : Nat) (b : Bool) (x y : List (Nat × BitVec 64)) (s u : State) (e : Nat × Nat) (r : List (Nat × Nat)),
      (s.clS c).memEnd = e :: r → e.1 ≤ s.run → (s.clS c).stuck = false →
      u = (s.setClS c { s.clS c with memEnd := r }).fillCode c x →
      (u.memCrc c).toNat = u.rd (Reg.LANE.CL.ICRC.CRC c) →
      exec (.clusterMemoryTestEnd c b ⟨x, y⟩) s = .next
        ((u.wr Reg.LANE.LOADOK.OK (s.rd Reg.LANE.LOADOK.OK ||| 2 ^ c)).finishOp 0x60 stOk (le 1 (if b then 0 else 1)) []
          fun d => d.a0 == 1 && d.a1 == c && d.ring == e.2)) ∧
  (∀ (c : Nat) (b : Bool) (x y : List (Nat × BitVec 64)) (s u v w : State) (e : Nat × Nat) (r : List (Nat × Nat)),
      (s.clS c).memEnd = e :: r → e.1 ≤ s.run → (s.clS c).stuck = false →
      u = (s.setClS c { s.clS c with memEnd := r }).fillCode c x → v = u.fillCode c y →
      (u.memCrc c).toNat ≠ u.rd (Reg.LANE.CL.ICRC.CRC c) → (v.memCrc c).toNat ≠ v.rd (Reg.LANE.CL.ICRC.CRC c) →
      (s.rd Reg.LANE.LOADOK.OK).testBit c = true →
      w = (v.wr Reg.LANE.LOADOK.OK (s.rd Reg.LANE.LOADOK.OK - 2 ^ c)).setClS c { v.clS c with stuck := true } →
      exec (.clusterMemoryTestEnd c b ⟨x, y⟩) s = .next (w.finishOp 0x60 stOk (le 1 (if b then 0 else 1)) []
        fun d => d.a0 == 1 && d.a1 == c && d.ring == e.2))

/-- What a compute die's rows do: end and timeout of a rebuild, end of a reload, a supply trip. Concludes that exec
answers a next state, under conditions on the state and the operands alone, for: rebuildComplete, rebuildTimeout,
dieReloadComplete, computeDieSupplyTrip. -/
def Obligations.DieRowsTakeEffect : Prop :=
  (∀ (d : Nat) (s : State), d = (if s.die 0 = 1 then 0 else 1) → s.die d = 1 → s.rebuildAge d < 64 →
      exec .rebuildComplete s = .next (s.setDieS d { s.dieS d with ended := true })) ∧
  (∀ s : State, s.die 0 = 1 → (s.dieS 0).ended = true → s.die 1 ≠ 1 →
      s.rebuildTick = (((((s.wr (dieFld 0) 0).wr Reg.GUARD.NODE.RBTICKS 0).setDieS 0
        { s.dieS 0 with rebuild := none, ended := false, restart := some (s.tick - 1) }).count Reg.GUARD.DIECNT.REBUILD).hold 0x0123
          (le 1 0 ++ le 4 (s.rebuildAge 0))).showHealth) ∧
  (∀ (d : Nat) (b : Bool) (s : State), d = (if s.die 0 = 1 then 0 else 1) → s.die d = 1 →
      64 ≤ s.rebuildAge d ∨ b = true →
      exec (.rebuildTimeout b) s = .next (s.dieOut d (if 64 ≤ s.rebuildAge d then 0 else 1))) ∧
  (∀ (d : Nat) (b : Bool) (s : State) (e : Nat), d < 2 → (s.dieS d).reload = some e → s.die d = 3 →
      let ok := b && decide (s.run ≤ e)
      let v := s.hold 0x0125 (le 1 d ++ le 1 (if ok then 0 else 1)) (64 + d)
      let w := if (s.dieS d).asked then v.finishOp 0x48 stOk [] [] (fun o => o.a0 == d) else v
      let x := w.setDieS d { w.dieS d with
        reload := none, asked := false, ready := ok, stays := (s.dieS d).stays || !ok }
      (b = false ∨ e < s.run → exec (.dieReloadComplete d b) s = .next ((x.wr (dieFld d) 2).showHealth)) ∧
      (b = true → s.run ≤ e → x.plan.image = none →
        exec (.dieReloadComplete d b) s = .next ((((x.put (railFld d) true).startTests d true).reloadAlts d).showHealth)) ∧
      (∀ p : PlanImage, b = true → s.run ≤ e → x.plan.image = some p → exec (.dieReloadComplete d b) s =
        .next (((((x.loadDie p d).put (railFld d) true).startTests d true).reloadAlts d).showHealth))) ∧
  (∀ (d : Nat) (s : State), d < 2 →
      exec (.computeDieSupplyTrip d) s = .next
        (((s.put (if d = 0 then Reg.SYS.PWR.CD0OK else Reg.SYS.PWR.CD1OK) false).dieOut d 3).siltWrite 0x0904
          (le 1 (Config.railCode d))))

/-- What SELFTEST and DIE_RESET do when admitted. Concludes that exec answers a next state, under conditions on the state
and the operands alone, for: selftestLanes, selftestClusterMemory, dieReset. -/
def Obligations.ContainmentCommandsTakeEffect : Prop :=
  (∀ (d : Desc) (s u : State), s.Admits 0x60 roleE d → u = s.opened 0x60 d → d.a0 = 0 → d.a1 < 32 →
      (u.positions d.a1 1).isEmpty = false → u.altOf (regionOf d.a1) ≠ some d.a1 → u.on Reg.TICK.STATUS.RUN = true →
      (u.clS d.a1).testWait = none → (u.clS d.a1).testPos = none →
      exec (.selftestLanes d) s = .next ((u.setClS d.a1 { u.clS d.a1 with testWait := some u.tick }).goesOn d)) ∧
  (∀ (d : Desc) (s u : State) (p : PlanImage), s.Admits 0x60 roleE d → u = s.opened 0x60 d → d.a0 = 1 → d.a1 < 32 →
      u.plan.image = some p → (altFor p d.a1).isSome = true → u.txnBusy = false →
      u.on (Reg.GUARD.ALT.ACTIVE (regionOf d.a1)) = false →
      exec (.selftestClusterMemory d) s = .next ((u.setClS d.a1
        { u.clS d.a1 with memTest := (u.clS d.a1).memTest ++ [(u.tickFrom (u.readNs d) 0 2, d.ring)] }).goesOn d)) ∧
  (∀ (d : Desc) (s u : State), s.Admits 0x48 roleE d → u = s.opened 0x48 d → d.a0 < 2 → u.die (1 - d.a0) = 0 →
      u.plan.image.isSome = true → (u.dieS d.a0).stays = false →
      u.on (if d.a0 = 0 then Reg.SYS.PWR.CD0OK else Reg.SYS.PWR.CD1OK) = true →
      exec (.dieReset d) s = .next (((u.dieReset d.a0 true).showHealth).goesOn d))

/-- What TXN_BEGIN, TXN_PREPARE, TXN_COMMIT and TXN_ROLLBACK do when admitted. Concludes that exec answers a next state,
under conditions on the state and the operands alone, for: txnBegin, txnPrepare, txnCommit, txnRollback. -/
def Obligations.TransactionSlotCommandsTakeEffect : Prop :=
  (∀ (d : Desc) (s u : State), s.Admits 0x20 roleO d → u = s.opened 0x20 d → u.on Reg.TICK.CFG.PLAN = true →
      u.follower = false → u.os = osIdle →
      exec (.txnBegin d) s = .next (State.completes ((((u.clearOpen.takeNumber.2.wr Reg.TXN.STATUS.OSTATE osOpen).wr
        Reg.TXN.OID.ID u.clearOpen.takeNumber.1).wr Reg.TXN.STATUS.OWNER d.ring)) d stOk
          (le 4 u.clearOpen.takeNumber.1) [])) ∧
  (∀ (d : Desc) (s u : State) (v : View), s.Admits 0x21 roleO d → u = s.opened 0x21 d → u.names d = 1 →
      u.on Reg.TXN.STATUS.FULL = false → v = { u.view with fin := [] } → v.firstBad = none →
      v.budget (decide (d.a1 % 2 = 1)) = none →
      exec (.txnPrepare d) s = .next (State.completes
        (({ u with txn := { u.txn with against := decide (u.ls = 1), noCover := decide (d.a1 % 2 = 1), fin := v.lats } } : State).wr
          Reg.TXN.STATUS.OSTATE osPrepared) d stOk (le 8 (u.earliest u.ns) ++ le 2 v.bare.length) [])) ∧
  (∀ (d : Desc) (s u : State) (at_ l : Nat), s.Admits 0x22 roleO d → u = s.opened 0x22 d → u.names d = 1 →
      u.on Reg.TXN.STATUS.FULL = false → u.os = osPrepared → d.a1 ≤ 16 → d.a2 < 1000000000 →
      at_ = d.rbuf * 1000000000 + d.a2 → at_ ≤ u.readNs d + 3600 * 1000000000 → u.on Reg.TICK.STATUS.GRID = true →
      u.txn.items.isEmpty = false → u.ls = 0 → l = (if at_ = 0 then u.earliest (u.readNs d) else ceilDiv at_ u.tickNs) →
      u.readNs d + 2 * u.tickNs ≤ u.tAt l → u.view.budget u.txn.noCover = none →
      exec (.txnCommit d) s = .next (State.completes ((u.commitTo (u.rd Reg.TXN.OID.ID) l d.a1 u.txn.items u.txn.fin (some d.ring)
        (if u.txn.noCover then u.view.bare else [])).clearOpen) d stOk (le 8 l) [])) ∧
  (∀ (d : Desc) (s u : State), s.Admits 0x22 roleO d → u = s.opened 0x22 d → u.names d = 1 →
      u.on Reg.TXN.STATUS.FULL = false → u.os = osPrepared → d.a1 ≤ 16 → d.a2 < 1000000000 →
      d.rbuf * 1000000000 + d.a2 ≤ u.readNs d + 3600 * 1000000000 → u.on Reg.TICK.STATUS.GRID = true →
      u.txn.items.isEmpty = true →
      exec (.txnCommit d) s = .next (State.completes (u.clearOpen.count Reg.TXN.CNT0.COMMIT) d stOk (le 8 0) [])) ∧
  (∀ (d : Desc) (s u : State), s.Admits 0x23 roleO d → u = s.opened 0x23 d → u.names d = 1 →
      exec (.txnRollback d) s = .next (State.completes (u.clearOpen.count Reg.TXN.CNT1.ROLLBACK) d stOk [] [])) ∧
  (∀ (d : Desc) (s u : State), s.Admits 0x23 roleO d → u = s.opened 0x23 d → u.names d = 2 → u.ls = 1 →
      u.txn.ending = false → u.readNs d < u.tAt (u.launchTick - 1) → u.os = osIdle → u.paired = false →
      exec (.txnRollback d) s = .next (State.completes
        (({ u with txn := { u.txn with ending := true } } : State).count Reg.TXN.CNT1.ROLLBACK) d stOk [] []))

/-- What WRITE_ITEMS, SCENE_STORE, SCENE_RECALL and SCENE_ERASE do when admitted. Concludes that exec answers a next
state, under conditions on the state and the operands alone, for: writeItems, sceneStore, sceneRecall, sceneErase. -/
def Obligations.SceneAndItemCommandsTakeEffect : Prop :=
  (∀ (d : Desc) (s u t : State) (n : Nat), s.Admits 0x10 roleO d → u = s.opened 0x10 d → d.buf.length ≠ 0 →
      d.buf.length % 16 = 0 → d.buf.length / 16 ≤ 4096 → d.a0 ≠ 0 → u.names d = 1 → u.on Reg.TXN.STATUS.FULL = false →
      addItems State.addOpen (pieces 16 (d.buf.length / 16) d.buf) 0 u = (n, 0, t) →
      exec (.writeItems d) s = .next (t.completes d stOk (le 4 n) [])) ∧
  (∀ (d : Desc) (s u t : State) (n : Nat), s.Admits 0x10 roleO d → u = s.opened 0x10 d → d.buf.length ≠ 0 →
      d.buf.length % 16 = 0 → d.buf.length / 16 ≤ 4096 → d.a0 = 0 → u.os = osIdle ∨ u.os = osCollecting →
      u.noCollect = false → addItems State.addCollect (pieces 16 (d.buf.length / 16) d.buf) 0 u = (n, 0, t) →
      exec (.writeItems d) s = .next (t.completes d stOk (le 4 n) [])) ∧
  (∀ (d : Desc) (s u : State) (b : Nat) (r : SceneRec), s.Admits 0x24 roleO d → u = s.opened 0x24 d → d.a1 < 256 →
      d.buf.length = 16 → d.a0 ≠ 0 → d.a0 = u.rd Reg.TXN.OID.ID → u.os = osPrepared → u.on Reg.TXN.STATUS.FULL = false → u.freeRun (recBlocks u.txn.items.length) = some b →
      r = { planCrc := u.planCrc, txnId := d.a0, name := d.buf, secs := u.secs, nsecs := u.ns % 1000000000, items := u.txn.items, crc := 0, first := b, blocks := recBlocks u.txn.items.length } →
      exec (.sceneStore d) s = .next (State.completes (u.setScenes (mapSet u.txn.scenes d.a1 { r with crc := crc32c (recBytes r) }))
        d stOk (le 4 ((u.txn.dirSeq + 1) % 2 ^ 32)) [])) ∧
  (∀ (d : Desc) (s u : State) (r : SceneRec) (all : Tbl Nat), s.Admits 0x25 roleO d → u = s.opened 0x25 d → d.a1 < 256 →
      u.names d = 1 → mapGet u.txn.scenes d.a1 = some r → r.planCrc = u.planCrc → crc32c (recBytes r) = r.crc →
      (r.items.all fun e => keyKind e.1 != 2 || (u.partOf (keyIdx e.1)).isSome) = true →
      all = r.items.foldl (fun t e => putItem t e.1 e.2) u.txn.items → u.on Reg.TXN.STATUS.FULL = false →
      itemCount all ≤ itemLimit →
      exec (.sceneRecall d) s = .next (State.completes ((u.setItems all).wr Reg.TXN.STATUS.OSTATE osOpen) d stOk
        (le 4 r.items.length) [])) ∧
  (∀ (d : Desc) (s u : State), s.Admits 0x26 roleE d → u = s.opened 0x26 d → d.a1 < 256 →
      exec (.sceneErase d) s = .next (State.completes (u.setScenes (mapErase u.txn.scenes d.a1)) d stOk
        (le 4 ((u.txn.dirSeq + 1) % 2 ^ 32)) []))

/-- What a launch's rows do: priming, launch, end of the crossfade, a collection, zero crossings. Concludes that exec
answers a next state, under conditions on the state and the operands alone, for: primingStart, launch, crossfadeEnd,
collectionCommit, zeroCrossing, zcTimeout. -/
def Obligations.LaunchRowsTakeEffect : Prop :=
  (∀ s : State, s.ls = 1 → s.txn.ending = false → s.txn.moveEnd ≤ s.ns → s.ns = s.tAt s.tick →
      exec .primingStart s = .next { s with txn := { s.txn with priming := true } }) ∧
  (∀ (s u v : State), s.ls = 1 → s.txn.ending = false → s.launchTick ≤ s.tick → u = s.keepOld →
      v = (u.makeTopcoat u.txn.lItems u.launchTick).wr Reg.TXN.STATUS.LSTATE 2 →
      exec .launch s = .next ((({ v with ouv := { v.ouv with topGen := (v.ouv.topGen + 1) % 2 ^ 32 } } : State).count
        Reg.TXN.CNT0.LAUNCH).post 0x0010 (le 4 (u.rd Reg.TXN.LID.ID) ++ le 8 u.launchTick))) ∧
  (∀ s : State, s.ls = 2 → s.launchTick + s.rd Reg.TXN.XFADE.X + 1 ≤ s.tick →
      exec .crossfadeEnd s = .next s.clearLaunch) ∧
  (∀ (s t : State) (n : Nat) (it : Nat × Nat) (r : Tbl Nat), s.os = osCollecting → s.ls = 0 →
      s.on Reg.TICK.STATUS.GRID = true → s.ns = s.tAt s.tick → s.txn.rejected = none → s.txn.items = it :: r → s.view.firstBad = none →
      s.view.budget true = none → s.takeNumber = (n, t) →
      exec .collectionCommit s = .next (t.clearOpen.commitTo n (t.clearOpen.tick + 2) (t.clearOpen.rd Reg.TXN.CFG.IXF)
        s.txn.items s.view.lats none s.view.bare)) ∧
  (∀ (i k : Nat) (m : Bool) (h : ZcHit) (s : State), (s.zcHits.find? fun h => h.entry == i && !h.timeout && h.ramp.k0 == k) = some h →
      mapGet s.gains.mutes i = some { ramp := (s.muteOf i).ramp, wait := some (h.ramp.l, m) } →
      ∃ t, exec (.zeroCrossing i k) s = .next t ∧ t = s.endWait h ∧ t.muteOf i = { ramp := h.ramp, wait := none } ∧
        t.eng.counts = s.eng.counts) ∧
  (∀ (i : Nat) (m : Bool) (h : ZcHit) (s : State), (s.zcHits.find? fun h => h.entry == i && h.timeout) = some h →
      mapGet s.gains.mutes i = some { ramp := (s.muteOf i).ramp, wait := some (h.ramp.l, m) } →
      ∃ t, exec (.zcTimeout i) s = .next t ∧ t = s.endWait h ∧ t.muteOf i = { ramp := h.ramp, wait := none } ∧
        t.eng.counts = { s.eng.counts with zcto := s.eng.counts.zcto + 1 })

/-- Every row that is a write of a register is that write of the mapped register, field by field. Concludes that exec
answers a next state, under conditions on the state and the operands alone, for: registerWrite, shRegisterWrite,
ringEnable, ringDisable, eventRingEnable, eventRingDisable, hostLock, blockLock, counterClear, switchConfigWrite,
ptpclkWrite, launchOutputArm, launchOutputDisarm, portStart, portStop, maskArm, groupEnable, dmaStart, dmaStop,
dmaAppend, softReset. -/
def Obligations.RegisterWriteRowsTakeEffect : Prop :=
  (∀ (q : Requester) (v : Word) (off : Nat) (s : State) (fs : List RField), s.Writes q (off) fs → 
      ∃ t, exec (.registerWrite q off 4 v) s = .next t ∧ t = s.writeMapped q (off) fs v ∧ (off / 0x10000 ∈ [1, 2, 6, 10, 12, 18, 21, 22] → clearOffs.contains off = false →
        (fs.any fun f => f.ty == .sh) = false →
        t.word off = (fs.foldl (s.writeField off v) (s.word off, false)).1 ∧ t.params = s.params ∧
        ∀ o, o / 0x10000 ∈ [1, 2, 6, 10, 12, 18, 21, 22] → o ≠ off → t.word o = s.word o)) ∧
  (∀ (q : Requester) (v : Word) (off : Nat) (s : State) (fs : List RField), s.Writes q (off) fs → (fs.any fun f => f.ty == .sh) = true → 
      ∃ t, exec (.shRegisterWrite q off v) s = .next t ∧ t = s.writeMapped q (off) fs v ∧ t.txn = ((s.setWord off (fs.foldl (s.writeField off v) (s.word off, false)).1).shItem off v).txn ∧ t.params = s.params) ∧
  (∀ (q : Requester) (v : Word) (r : Nat) (s : State) (fs : List RField), s.Writes q (0x140110 + 32 * r) fs → r < 16 → getBits v 0 1 = 1 → 
      exec (.ringEnable q r v) s = .next (s.writeMapped q (0x140110 + 32 * r) fs v)) ∧
  (∀ (q : Requester) (v : Word) (r : Nat) (s : State) (fs : List RField), s.Writes q (0x140110 + 32 * r) fs → r < 16 → getBits v 0 1 = 0 → 
      exec (.ringDisable q r v) s = .next (s.writeMapped q (0x140110 + 32 * r) fs v)) ∧
  (∀ (q : Requester) (v : Word) (s : State) (fs : List RField), s.Writes q (0x140018) fs → getBits v 0 1 = 1 → 
      exec (.eventRingEnable q v) s = .next (s.writeMapped q (0x140018) fs v)) ∧
  (∀ (q : Requester) (v : Word) (s : State) (fs : List RField), s.Writes q (0x140018) fs → getBits v 0 1 = 0 → 
      exec (.eventRingDisable q v) s = .next (s.writeMapped q (0x140018) fs v)) ∧
  (∀ (q : Requester) (v : Word) (s : State) (fs : List RField), s.Writes q (0x140000) fs → getBits v 1 1 = 1 → 
      ∃ t, exec (.hostLock q v) s = .next t ∧ t = s.writeMapped q (0x140000) fs v ∧ t.on Reg.HOST.CTRL.LOCK = true ∧ (s.on Reg.HOST.CTRL.LOCK = false → s.on Reg.HOST.CFG.REQ = true →
        t.host.lockHard = true ∧ t.on Reg.HOST.STAT.LOCKED = true)) ∧
  (∀ (q : Requester) (v : Word) (off : Nat) (s : State) (fs : List RField), s.Writes q (off) fs → (lockFld off).any (fun f => f.off == off) = true → getBits v 1 1 = 1 → 
      ∃ t, exec (.blockLock q off v) s = .next t ∧ t = s.writeMapped q (off) fs v ∧ (∀ f, lockFld off = some f → f.off = off → t.on f = true)) ∧
  (∀ (q : Requester) (v : Word) (off : Nat) (s : State) (fs : List RField), s.Writes q (off) fs → off ∈ clearOffs → getBits v 0 1 = 1 → 
      ∃ t, exec (.counterClear q off v) s = .next t ∧ t = s.writeMapped q (off) fs v ∧ (∀ c ∈ clearedBy off, t.word c = resetWord c)) ∧
  (∀ (q : Requester) (v : Word) (s : State) (fs : List RField), s.Writes q (0xA0004) fs → 
      exec (.switchConfigWrite q v) s = .next (s.writeMapped q (0xA0004) fs v)) ∧
  (∀ (q : Requester) (v : Word) (s : State) (fs : List RField), s.Writes q (0x80030) fs → 
      exec (.ptpclkWrite q v) s = .next (s.writeMapped q (0x80030) fs v)) ∧
  (∀ (q : Requester) (v : Word) (j : Nat) (s : State) (fs : List RField), s.Writes q (0x80214 + 32 * j) fs → j < 8 → getBits v 0 1 = 1 → 
      exec (.launchOutputArm q j v) s = .next (s.writeMapped q (0x80214 + 32 * j) fs v)) ∧
  (∀ (q : Requester) (v : Word) (j : Nat) (s : State) (fs : List RField), s.Writes q (0x80214 + 32 * j) fs → j < 8 → getBits v 1 1 = 1 → 
      exec (.launchOutputDisarm q j v) s = .next (s.writeMapped q (0x80214 + 32 * j) fs v)) ∧
  (∀ (q : Requester) (v : Word) (p : Nat) (s : State) (fs : List RField), s.Writes q (0xD0000 + 64 * p) fs → p < 32 → getBits v 0 1 = 1 → 
      exec (.portStart q p v) s = .next (s.writeMapped q (0xD0000 + 64 * p) fs v)) ∧
  (∀ (q : Requester) (v : Word) (p : Nat) (s : State) (fs : List RField), s.Writes q (0xD0000 + 64 * p) fs → p < 32 → getBits v 0 1 = 0 → 
      exec (.portStop q p v) s = .next (s.writeMapped q (0xD0000 + 64 * p) fs v)) ∧
  (∀ (q : Requester) (v : Word) (p : Nat) (s : State) (fs : List RField), s.Writes q (0xD0010 + 64 * p) fs → p < 32 → getBits v 0 1 = 1 → 
      exec (.maskArm q p v) s = .next (s.writeMapped q (0xD0010 + 64 * p) fs v)) ∧
  (∀ (q : Requester) (v : Word) (g : Nat) (s : State) (fs : List RField), s.Writes q (0x100100 + 32 * g) fs → g < 16 → getBits v 0 1 = 1 → 
      exec (.groupEnable q g v) s = .next (s.writeMapped q (0x100100 + 32 * g) fs v)) ∧
  (∀ (q : Requester) (v : Word) (s : State) (fs : List RField), s.Writes q (0x170004) fs → 
      exec (.dmaStart q v) s = .next (s.writeMapped q (0x170004) fs v)) ∧
  (∀ (q : Requester) (v : Word) (s : State) (fs : List RField), s.Writes q (0x170008) fs → 
      exec (.dmaStop q v) s = .next (s.writeMapped q (0x170008) fs v)) ∧
  (∀ (q : Requester) (v : Word) (s : State) (fs : List RField), s.Writes q (0x17000C) fs → 
      exec (.dmaAppend q v) s = .next (s.writeMapped q (0x17000C) fs v)) ∧
  (∀ (q : Requester) (v : Word) (s : State) (fs : List RField), s.Writes q (0x34) fs → 
      exec (.softReset q v) s = .next (s.writeMapped q (0x34) fs v))

/-- Ring base and SIZE change only while EN is 0, and setting EN to 1 makes the ring's indices 0. Concludes that exec
answers a next state, under conditions on the state and the operands alone, for: ringEnable, eventRingEnable. -/
def Obligations.SetsTheRingIndices : Prop :=
  (∀ (q : Requester) (v : Word) (r o : Nat) (s t : State), r < 16 → o ∈ [0x140100, 0x140104, 0x140108, 0x14010C] →
      s.on (Reg.HOST.RING.CFG.EN r) = true → exec (.registerWrite q (o + 32 * r) 4 v) s = .next t →
      t.word (o + 32 * r) = s.word (o + 32 * r)) ∧
  (∀ (q : Requester) (v : Word) (r : Nat) (s t : State), r < 16 → s.on (Reg.HOST.RING.CFG.EN r) = true →
      exec (.registerWrite q (0x140110 + 32 * r) 4 v) s = .next t →
      t.rd (Reg.HOST.RING.CFG.SIZE r) = s.rd (Reg.HOST.RING.CFG.SIZE r)) ∧
  (∀ (q : Requester) (v : Word) (o : Nat) (s t : State), o ∈ [0x140010, 0x140014] → s.on Reg.HOST.EVCFG.EN = true →
      exec (.registerWrite q o 4 v) s = .next t → t.word o = s.word o) ∧
  (∀ (q : Requester) (v : Word) (s t : State), s.on Reg.HOST.EVCFG.EN = true →
      exec (.registerWrite q 0x140018 4 v) s = .next t → t.rd Reg.HOST.EVCFG.SIZE = s.rd Reg.HOST.EVCFG.SIZE) ∧
  (∀ (q : Requester) (v : Word) (r : Nat) (fs : List RField) (s : State), r < 16 → s.Writes q (0x140110 + 32 * r) fs →
      s.on (Reg.HOST.RING.CFG.EN r) = false → getBits v 0 1 = 1 → s.host.rings.length = 16 →
      ∃ t, exec (.ringEnable q r v) s = .next t ∧ t.on (Reg.HOST.RING.CFG.EN r) = true ∧ (t.ring r).cmdP = 0 ∧
        (t.ring r).cmdC = 0 ∧ (t.ring r).cplP = 0 ∧ (t.ring r).cplC = 0) ∧
  (∀ (q : Requester) (v : Word) (fs : List RField) (s : State), s.Writes q 0x140018 fs →
      s.on Reg.HOST.EVCFG.EN = false → getBits v 0 1 = 1 → s.host.evQueue = [] → s.host.evLost = 0 → (∀ i < 16, (s.evins.getD i {}).queue = []) → 
      ∃ t, exec (.eventRingEnable q v) s = .next t ∧ t.on Reg.HOST.EVCFG.EN = true ∧ t.host.evP = 0 ∧ t.host.evC = 0)

/-- Writing EN 0 abandons fetched descriptors, marks the executing command's completion discarded, and makes events wait.
Concludes that exec answers a next state, under conditions on the state and the operands alone, for: ringDisable,
eventRingDisable. -/
def Obligations.DisablingARingStopsItAtOnce : Prop :=
  (∀ (q : Requester) (v : Word) (r : Nat) (fs : List RField) (s : State), r < 16 → s.Writes q (0x140110 + 32 * r) fs →
      s.on (Reg.HOST.RING.CFG.EN r) = true → getBits v 0 1 = 0 → s.host.rings.length = 16 →
      ∃ t, exec (.ringDisable q r v) s = .next t ∧ t.on (Reg.HOST.RING.CFG.EN r) = false ∧ (t.ring r).fetched = [] ∧
        (t.ring r).run = (s.ring r).run.map (fun x => { x with drop := true })) ∧
  (∀ (q : Requester) (v : Word) (fs : List RField) (s : State), s.Writes q 0x140018 fs → getBits v 0 1 = 0 →
      ∃ t, exec (.eventRingDisable q v) s = .next t ∧ t.on Reg.HOST.EVCFG.EN = false ∧ t.evFree = 0 ∧
        t.host.evQueue = s.host.evQueue)

/-- What fetches, doorbells, nudges, deadlines and drains do. Concludes that exec answers a next state, under conditions
on the state and the operands alone, for: descriptorFetch, doorbellPoll, nudge, fetchDeadline, pcieCompletionTimeout,
cpl0CompletionDrain, eventQueueDrain. -/
def Obligations.HostRingRowsTakeEffect : Prop :=
  (∀ (r : Nat) (ds : List RawDesc) (s u : State) (got : List RawDesc) (c : Nat), r < 16 → s.fetchTurn r = true →
      got = (ds.take (s.fetchable r)).zipIdx.map (fun x => rawAt x.1 r ((s.ring r).cmdC + x.2) s.run) →
      c = ((s.ring r).cmdC + got.length) % 65536 →
      u = ((s.linkSeen.setRing r { s.ring r with fetched := (s.ring r).fetched ++ got, cmdC := c }).wr
        (Reg.HOST.RING.STAT.CIDX r) c) →
      exec (.descriptorFetch r ds) s = .next (pumpUnknown 8 r
        { u with host := { u.host with retried := u.host.retried.filter (fun x => x != r) } })) ∧
  (∀ (page : Doorbells) (s : State), s.on Reg.HOST.CFG.DBEN = true →
      exec (.doorbellPoll page) s = .next (((List.range 16).foldl (fun (a : State) r => (page.cpl[r]?).elim a (a.learnCpl r))
        ((List.range 16).foldl (fun (a : State) r => (page.cmd[r]?).elim a (a.learnCmd r)) s.linkSeen)).learnEvt page.evt)) ∧
  (∀ (v : Word) (s : State), getBits v 0 6 < 16 →
      exec (.nudge v) s = .next (s.linkSeen.learnCmd (getBits v 0 6) (getBits v 16 16))) ∧
  (∀ (v : Word) (s : State), 16 ≤ getBits v 0 6 → getBits v 0 6 < 32 →
      exec (.nudge v) s = .next (s.linkSeen.learnCpl (getBits v 0 6 - 16) (getBits v 16 16))) ∧
  (∀ (v : Word) (s : State), getBits v 0 6 = 32 → exec (.nudge v) s = .next (s.linkSeen.learnEvt (getBits v 16 16))) ∧
  (∀ (v : Word) (s : State), 32 < getBits v 0 6 → exec (.nudge v) s = .next (s.linkSeen.violate .pcie)) ∧
  (∀ (r n : Nat) (k : FetchKind) (e : Bool) (s u v : State), r < 16 → n = (s.host.retried.filter fun x => x == r).length →
      u = { s with host := { s.host with retried := s.host.retried.filter fun x => x != r } } →
      v = ((u.count Reg.HOST.CNT.FTO).advanceGen 0 4).siltWrite 0x0401
        (le 1 r ++ le 1 (Config.fetchCode (fetchKindNo k)) ++ le 4 n ++ le 4 (if e || 0 < n then 1 else 0)) →
      (k = .descriptor → exec (.fetchDeadline r k e) s = .next ((v.put (Reg.HOST.RING.STAT.HALT r) true).siltWrite 0x0403 [])) ∧
      (k = .completion ∨ k = .event → exec (.fetchDeadline r k e) s = .next v) ∧
      (k = .input ∨ k = .response → (v.ring r).run.isSome = true →
        exec (.fetchDeadline r k e) s = .next (v.finish r stIoError
          (le 1 (if k = .response then 1 else 0) ++ le 1 (if e then 0 else 1)) []))) ∧
  (∀ (r : Nat) (k : FetchKind) (s : State), r < 16 → (s.host.retried.filter fun x => x == r).length < 2 →
      exec (.pcieCompletionTimeout r k) s = .next { s with host := { s.host with retried := s.host.retried ++ [r] } }) ∧
  (∀ (r : Nat) (k : FetchKind) (s : State), r < 16 → 2 ≤ (s.host.retried.filter fun x => x == r).length →
      exec (.pcieCompletionTimeout r k) s = .next s) ∧
  (∀ (c : Cpl) (s : State), s.host.cpl0Held = [c] → s.cplFree 0 ≠ 0 → s.on (Reg.HOST.RING.CFG.EN 0) = true →
      exec .cpl0CompletionDrain s = .next (({ s with host := { s.host with cpl0Held := [] } } : State).writeCpl 0 c [] [] 0)) ∧
  (∀ (e : Evt) (s u : State), s.host.evQueue = [e] → s.host.evLost = 0 → (∀ i < 16, (s.evins.getD i {}).queue = []) → 0 < s.evFree → u = s.writeEvt e →
      exec .eventQueueDrain s = .next { u with host := { u.host with evQueue := [] } })

/-- What the host-link reset, the session rows and a latching read do. Concludes that exec answers a next state, under
conditions on the state and the operands alone, for: hostLinkReset, sessionOpen, sessionClose, sessionExpiry,
latchingRead. -/
def Obligations.HostLinkAndSessionRowsTakeEffect : Prop :=
  (∀ (k : LinkReset) (s : State), s.host.rings.length = 16 →
      ∃ t, exec (.hostLinkReset k) s = .next t ∧ (∀ x ∈ t.host.sessions, x = none) ∧
        (∀ r < 16, (t.ring r).fetched = [] ∧ t.on (Reg.HOST.RING.CFG.EN r) = false ∧
          (t.ring r).run = (s.ring r).run.map (fun x => { x with drop := true })) ∧ t.host.cpl0Held = [] ∧
        (s.os = osOpen ∨ s.os = osPrepared → t.os = osIdle ∧ t.txn.items = []) ∧
        (∀ o, 0x140000 ≤ o → o < 0x150000 → o ≠ 0x140004 → o ≠ 0x140020 → o ≠ Reg.HOST.SCTR_LO.CTR.off → o ≠ Reg.HOST.SCTR_HI.CTR.off →
          (o = Reg.HOST.CNT.EVTLOST.off → s.host.evQueue.length < 254) → t.word o = resetWord o) ∧
        t.rd Reg.HOST.CFG.REQ = s.rd Reg.HOST.CFG.REQ ∧ t.rd Reg.HOST.CFG.DBEN = State.reset.rd Reg.HOST.CFG.DBEN ∧
        t.rd Reg.HOST.CFG.FTO = State.reset.rd Reg.HOST.CFG.FTO ∧ t.sctr = s.sctr ∧ t.host.lockHard = s.host.lockHard ∧
        t.on Reg.HOST.STAT.LOCKED = s.host.lockHard ∧ t.on Reg.HOST.STAT.LINKUP = (k != .linkLoss) ∧
        t.on Reg.HOST.STAT.CPL0LOST = false ∧ t.rd Reg.HOST.STAT.SESS = 0 ∧ (∃ e ∈ t.silt, e.code = 0x0402 ∧ e.cont = false) ∧
        t.eng = s.eng ∧ t.txn.lItems = s.txn.lItems ∧ t.strm = s.strm) ∧
  (∀ (d : Desc) (s u v : State) (i n : Nat) (own : List Byte), s.Admits 0x01 0 d → u = s.opened 0x01 d → u.cryptoDown = false →
      u.requestOk d.buf = true → u.host.sessions.findIdx? Option.isNone = some i → (n, v) = u.fresh →
      own = padTo 97 (Config.ephemeralKey n) → 200 ≤ d.rlen →
      exec (.sessionOpen d) s = .next (State.completes
        (({ ((v.wr Reg.HOST.SCTR_LO.CTR ((u.sctr + 1) % 2 ^ 64 % 2 ^ 32)).wr Reg.HOST.SCTR_HI.CTR ((u.sctr + 1) % 2 ^ 64 / 2 ^ 32)) with
          host := { v.host with sessions := v.host.sessions.set i (some { roles := rdLe d.buf 1 1, gen := rdLe d.buf 4 4, mask := rdLe d.buf 2 2, notAfter := rdLe d.buf 24 8, key := Config.sessionKey ((d.buf.drop 240).take 97 ++ own) (i + 1) ((u.sctr + 1) % 2 ^ 64), seqs := List.replicate 16 0 }) } } : State).showSessions)
        d stOk (le 2 (i + 1) ++ le 6 0 ++ le 6 (rdLe d.buf 24 8))
        (own ++ le 7 0 ++ padTo 96 (Config.deviceSign (Config.sha384 ((d.buf.drop 240).take 97 ++ own)))))) ∧
  (∀ (d : Desc) (s : State), s.Admits 0x02 0 d → d.a0 ≠ 0 → d.a0 ≤ 16 → d.session = d.a0 →
      exec (.sessionClose d) s = .next (((s.opened 0x02 d).endSession d.a0).completes d stOk [] [])) ∧
  (∀ (n : Nat) (x : Session) (s : State), n ≠ 0 → atD s.host.sessions (n - 1) none = some x → x.notAfter ≠ 0 →
      x.notAfter ≤ s.secs → s.host.sessions.length = 16 →
      ∃ t, exec (.sessionExpiry n) s = .next t ∧ t.host.sessions = s.host.sessions.set (n - 1) none ∧
        t.rd Reg.HOST.STAT.SESS = (t.host.sessions.filter Option.isSome).length ∧
        ∀ o, o ≠ 0x140020 → t.word o = s.word o) ∧
  (∀ (q : Requester) (off : Nat) (s : State), s.pwr.halted = false → s.hasPath q = true → off ∈ latchFirsts →
      exec (.latchingRead q off) s = .next { s with latches := s.latches.filter (fun x => !(x.q == latchClass q && x.first == off)) ++ [{ q := latchClass q, first := off, words := (latchGroup off).map s.liveWord }] })

/-- What first lock, TIME_SET, RE_EPOCH, its step, and event input edges do. Concludes that exec answers a next state,
under conditions on the state and the operands alone, for: firstLockStep, timeSet, reEpoch, reEpochStep,
eventInputEdge. -/
def Obligations.TimeStepRowsTakeEffect : Prop :=
  (∀ s : State, s.on Reg.TIME.STATUS.STEPPED = false → s.sel < 4 → s.rd (Reg.TIME.PORT.PSTAT.STATE s.sel) = 9 →
      4 ≤ (s.port s.sel).agree →
      exec .firstLockStep s = .next ((s.stepTime (s.ns + (s.port s.sel).offset).toNat s.sel).setTheta 0)) ∧
  (∀ (d : Desc) (s u : State), s.Admits 0x40 roleE d → u = s.opened 0x40 d → d.a2 < 1000000000 →
      u.on Reg.TIME.STATUS.STEPPED = false → u.sel ∈ [4, 5, 6, 15] →
      exec (.timeSet d) s = .next ((u.stepTime (d.rbuf * 1000000000 + d.a2 + u.readAgo d) u.sel).completes d stOk [] [])) ∧
  (∀ (d : Desc) (s u : State), s.Admits 0x40 roleE d → u = s.opened 0x40 d → d.a2 = 0 →
      u.on Reg.TIME.STATUS.STEPPED = false → u.sel ∈ [7, 8] →
      exec (.timeSet d) s = .next (State.completes { u with time := { u.time with ppsSet := some (d.rbuf, d.readAt + 10000000) } }
        d stOk [] [])) ∧
  (∀ (d : Desc) (s u : State), s.Admits 0x41 roleE d → u = s.opened 0x41 d → d.a2 < 1000000000 →
      u.on Reg.TIME.STATUS.STEPPED = true → u.anyStream = false → u.storeRuns = false → u.ls = 0 → u.epoch = none →
      u.sel ∈ [4, 5, 6, 15] →
      exec (.reEpoch d) s = .next (State.completes { u with epoch := some ⟨u.tickFrom (u.readNs d) 0 2, 2, d.rbuf * 1000000000 + d.a2, u.readNs d⟩ }
        d stOk (le 8 (u.tickFrom (u.readNs d) 0 2)) [])) ∧
  (∀ (d : Desc) (s u : State), s.Admits 0x41 roleE d → u = s.opened 0x41 d → d.a2 = 0 →
      u.on Reg.TIME.STATUS.STEPPED = true → u.anyStream = false → u.storeRuns = false → u.ls = 0 → u.epoch = none →
      u.sel ∈ [7, 8] →
      exec (.reEpoch d) s = .next (State.goesOn { u with epoch := some ⟨0, 1, d.rbuf * 1000000000, u.readNs d + 10000000⟩ } d)) ∧
  (∀ (s : State) (n i : Nat), i < 16 → (s.stepTime n i).ns = n ∧ (s.stepTime n i).on Reg.TIME.STATUS.STEPPED = true ∧
      (s.stepTime n i).rd Reg.TIME.STATUS.STEPSRC = i ∧ (s.stepTime n i).on Reg.TICK.STATUS.GRID = true) ∧
  (∀ (refTime : Nat) (x : EpochS) (s u v : State), s.epoch = some x → x.k ≠ 0 → s.tAt x.k ≤ s.ns →
      u = ({ s with epoch := none, past := [] } : State).setLocal
        (if x.src = 0 then ((s.ns : Int) + s.time.theta).toNat else x.base + (s.ns - x.at_)) →
      v = (({ u with evins := u.evins.map fun y => { y with epoch := true } } : State).disarmAll.count Reg.TIME.STATUS.EPOCHS).log
        0x0212 (le 8 x.k ++ le 6 u.secs) →
      (s.on Reg.TICK.STATUS.RUN = false →
        exec (.reEpochStep refTime) s = .next ({ v with eng := { v.eng with first := none } } : State).planStart) ∧
      (s.on Reg.TICK.STATUS.RUN = true →
        exec (.reEpochStep refTime) s = .next (({ v.deliverPorts (fun _ => false) with eng := { v.eng.keep with first := some v.time.gridFirst, ramp := some v.time.gridFirst } } : State).put
          Reg.TICK.STATUS.RUN false).showHealth)) ∧
  (∀ (i held t : Nat) (falling : Bool) (x y : EvIn) (s : State), i < 16 → s.evins.length = 16 → s.on (Reg.TIME.EVCFG.EN i) = true →
      s.rd (Reg.TIME.EVCFG.EDGE i) = 3 → s.rd (Reg.TIME.EVCFG.FILT i) ≤ held → x = atD s.evins i {} → x.level ≠ some (!falling) → (∀ l, x.last = some l → l + 50 ≤ t) → x.seen % (s.rd (Reg.TIME.EVCFG.DIV i) + 1) = 0 → x.queue.length < 64 →
      y = { x with level := some (!falling), seen := x.seen + 1, last := some t, seq := (x.seq + 1) % 65536, epoch := false } →
      (s.evFree = 0 → exec (.eventInputEdge i falling held t) s =
        .next { s with evins := s.evins.set i { y with queue := x.queue ++ [s.capturePayload i falling t x] } }) ∧
      (0 < s.evFree → x.queue = [] → s.host.evQueue = [] → s.host.evLost = 0 → exec (.eventInputEdge i falling held t) s =
        .next (({ s with evins := s.evins.set i { y with ovf := false } } : State).writeEvt
          ⟨0x0001, padTo 24 (withOvf (s.capturePayload i falling t x) x.ovf)⟩))) ∧
  (∀ (i held t : Nat) (falling : Bool) (x y : EvIn) (s : State), i < 16 → s.evins.length = 16 → s.on (Reg.TIME.EVCFG.EN i) = true →
      s.rd (Reg.TIME.EVCFG.EDGE i) = 3 → s.rd (Reg.TIME.EVCFG.FILT i) ≤ held → x = atD s.evins i {} → x.level ≠ some (!falling) → y = { x with level := some (!falling), seen := x.seen + 1 } →
      (∀ l, x.last = some l → t < l + 50 → exec (.eventInputEdge i falling held t) s =
        .next (({ s with evins := s.evins.set i y } : State).count (Reg.TIME.EVSTAT.CLOSE i))) ∧
      ((∀ l, x.last = some l → l + 50 ≤ t) → x.seen % (s.rd (Reg.TIME.EVCFG.DIV i) + 1) ≠ 0 →
        exec (.eventInputEdge i falling held t) s = .next { s with evins := s.evins.set i y }) ∧
      ((∀ l, x.last = some l → l + 50 ≤ t) → x.seen % (s.rd (Reg.TIME.EVCFG.DIV i) + 1) = 0 → 64 ≤ x.queue.length →
        exec (.eventInputEdge i falling held t) s =
          .next (({ s with evins := s.evins.set i { y with last := some t, ovf := true } } : State).count (Reg.TIME.EVSTAT.LOST i)))) ∧
  (∀ (i held t : Nat) (falling : Bool) (s : State), i < 16 →
      held < s.rd (Reg.TIME.EVCFG.FILT i) ∨ (atD s.evins i {}).level = some (!falling) →
      exec (.eventInputEdge i falling held t) s = .next s)

/-- What arming, a pulse and its end do at a launch output. Concludes that exec answers a next state, under conditions on
the state and the operands alone, for: launchOutputArm, launchOutputDisarm, launchOutputPulse, launchOutputPulseEnd. -/
def Obligations.LaunchOutputRowsTakeEffect : Prop :=
  (∀ (q : Requester) (v : Word) (j : Nat) (s : State) (fs : List RField), s.Writes q (0x80214 + 32 * j) fs → j < 8 → getBits v 0 1 = 1 → getBits v 1 1 = 0 → s.starts.length = 8 →
      (∀ t, (s.lout j).armed = some t → s.ns + 1000 ≤ t) → s.on Reg.TIME.STATUS.STEPPED = true → 10 ≤ s.rd (Reg.TIME.ST.WIDTH j) → s.rd (Reg.TIME.ST.WIDTH j) ≤ 999999999 →
      (s.rd (Reg.TIME.ST.PERIOD j) = 0 ∨ s.rd (Reg.TIME.ST.WIDTH j) < s.rd (Reg.TIME.ST.PERIOD j) ∧ 1000 ≤ s.rd (Reg.TIME.ST.PERIOD j)) → s.ns + 1000 ≤ s.startOf j →
      ∃ t, exec (.launchOutputArm q j v) s = .next t ∧ (t.lout j).armed = some (s.startOf j) ∧
        (t.lout j).width = s.rd (Reg.TIME.ST.WIDTH j) ∧ (t.lout j).period = s.rd (Reg.TIME.ST.PERIOD j) ∧
        (t.lout j).rearm = none ∧ t.rd (Reg.TIME.ST.CTRL.STAT j) = 1) ∧
  (∀ (q : Requester) (v : Word) (j n : Nat) (s : State) (fs : List RField), s.Writes q (0x80214 + 32 * j) fs → j < 8 → getBits v 0 1 = 1 → getBits v 1 1 = 0 → s.starts.length = 8 →
      (∀ t, (s.lout j).armed = some t → s.ns + 1000 ≤ t) →
      (s.on Reg.TIME.STATUS.STEPPED = false ∧ n = 4 ∨
        s.on Reg.TIME.STATUS.STEPPED = true ∧ n = 3 ∧ (s.rd (Reg.TIME.ST.WIDTH j) < 10 ∨ 999999999 < s.rd (Reg.TIME.ST.WIDTH j) ∨
          s.rd (Reg.TIME.ST.PERIOD j) ≠ 0 ∧ (s.rd (Reg.TIME.ST.PERIOD j) ≤ s.rd (Reg.TIME.ST.WIDTH j) ∨ s.rd (Reg.TIME.ST.PERIOD j) < 1000)) ∨
        s.on Reg.TIME.STATUS.STEPPED = true ∧ n = 2 ∧ 10 ≤ s.rd (Reg.TIME.ST.WIDTH j) ∧ s.rd (Reg.TIME.ST.WIDTH j) ≤ 999999999 ∧
          s.rd (Reg.TIME.ST.PERIOD j) = 0 ∧ s.startOf j < s.ns + 1000) →
      ∃ t, exec (.launchOutputArm q j v) s = .next t ∧ (t.lout j).armed = none ∧ t.rd (Reg.TIME.ST.CTRL.STAT j) = n) ∧
  (∀ (q : Requester) (v : Word) (j n : Nat) (s : State) (fs : List RField), s.Writes q (0x80214 + 32 * j) fs → j < 8 → getBits v 0 1 = 1 → getBits v 1 1 = 0 → s.starts.length = 8 →
      (s.lout j).armed = some n → n < s.ns + 1000 →
      ∃ t, exec (.launchOutputArm q j v) s = .next t ∧ (t.lout j).armed = some n ∧
        (t.lout j).rearm = some ⟨n, s.startOf j, s.rd (Reg.TIME.ST.WIDTH j), s.rd (Reg.TIME.ST.PERIOD j)⟩) ∧
  (∀ (q : Requester) (v : Word) (j : Nat) (s : State) (fs : List RField), s.Writes q (0x80214 + 32 * j) fs → j < 8 →
      getBits v 0 1 = 0 → getBits v 1 1 = 1 → s.starts.length = 8 →
      ∃ t, exec (.launchOutputDisarm q j v) s = .next t ∧ (t.lout j).rearm = none ∧ (t.lout j).armed = none ∧
        ((s.lout j).pulseEnd.isSome = true → (t.lout j).stopAfter = true ∧ (t.lout j).pulseEnd = (s.lout j).pulseEnd) ∧
        ((s.lout j).pulseEnd = none → t.rd (Reg.TIME.ST.CTRL.STAT j) = 0)) ∧
  (∀ (j t : Nat) (s : State), (s.lout j).armed = some t → t ≤ s.ns → (s.lout j).pulseEnd = none →
      exec (.launchOutputPulse j) s = .next (s.setLout j { s.lout j with began := t, pulseEnd := some (t + (s.lout j).width), armed := if (s.lout j).period = 0 then none else some (t + (s.lout j).period) })) ∧
  (∀ (j t : Nat) (s : State), (s.lout j).pulseEnd = some t → t ≤ s.ns → (s.lout j).stopAfter = false →
      (s.lout j).rearm = none → (s.lout j).armed = none → s.rd (Reg.TIME.ST.CTRL.STAT j) = 1 →
      exec (.launchOutputPulseEnd j) s = .next ((s.setLout j { s.lout j with pulseEnd := none, stopAfter := false }).wr (Reg.TIME.ST.CTRL.STAT j) 0)) ∧
  (∀ (j t n : Nat) (s : State), (s.lout j).pulseEnd = some t → t ≤ s.ns → (s.lout j).stopAfter = false →
      (∀ r, (s.lout j).rearm = some r → (s.lout j).began < r.after) → (s.lout j).armed = some n →
      exec (.launchOutputPulseEnd j) s = .next (s.setLout j { s.lout j with pulseEnd := none, stopAfter := false })) ∧
  (∀ (j t : Nat) (s : State), (s.lout j).pulseEnd = some t → t ≤ s.ns → (s.lout j).stopAfter = true →
      exec (.launchOutputPulseEnd j) s = .next ((s.setLout j { s.lout j with pulseEnd := none, stopAfter := false }).wr
        (Reg.TIME.ST.CTRL.STAT j) 0)) ∧
  (∀ (j t : Nat) (r : Rearm) (s : State), (s.lout j).pulseEnd = some t → t ≤ s.ns → (s.lout j).stopAfter = false →
      (s.lout j).rearm = some r → r.after ≤ (s.lout j).began → s.on Reg.TIME.STATUS.STEPPED = true → 10 ≤ r.width →
      r.width ≤ 999999999 → (r.period = 0 ∨ r.width < r.period ∧ 1000 ≤ r.period) → s.ns + 1000 ≤ r.start →
      exec (.launchOutputPulseEnd j) s = .next ((s.setLout j { s.lout j with armed := some r.start, width := r.width, period := r.period, rearm := none, pulseEnd := none, stopAfter := false }).wr
        (Reg.TIME.ST.CTRL.STAT j) 1))

/-- What PTP messages, forwarding and transmission do. Concludes that exec answers a next state, under conditions on the
state and the operands alone, for: ptpMessageReceive, delayReq, managementMessage, ptpEventForward, syncTransmit,
followUp, announceTransmit, announceReceiptTimeout, delayReqTransmit, ptpclkWrite. -/
def Obligations.PtpRowsTakeEffect : Prop :=
  (∀ (m : PtpMsg) (x : PtpPort) (inn : Int) (s : State), s.ptpAccept m = (true, s) → m.domain = s.ptpDomain → m.kind = .sync →
      s.fromMaster m = true → x = s.port m.port → inn = m.ingress + s.rdInt (Reg.TIME.PORT.PASYM.INLAT m.port) →
      (m.twoStep = false → exec (.ptpMessageReceive m) s = .next ((s.setPort m.port { x with syncT1 := m.origin + quot m.correction 65536, syncT2 := inn, syncSeq := m.seq }).ptpOffset
        m.port (m.origin + quot m.correction 65536 + x.path - inn))) ∧
      (m.twoStep = true → s.on (Reg.REFSEL.SLOT.CFG.EN m.port) = false →
        exec (.ptpMessageReceive m) s = .next (s.setPort m.port { x with syncT2 := inn - quot m.correction 65536, syncSeq := m.seq }))) ∧
  (∀ (m : PtpMsg) (s : State), s.ptpAccept m = (true, s) → m.domain = s.ptpDomain → m.kind = .announce →
      exec (.ptpMessageReceive m) s = .next (s.hearAnnounce m.port ⟨m.sender, m.gm, m.prio1, m.clockClass, m.clockAccuracy, m.variance, m.prio2, m.steps, m.utc⟩)) ∧
  (∀ (m : PtpMsg) (n : Nat) (s u : State), s.ptpAccept m = (true, s) → m.domain = s.ptpDomain → s.portState m.port = 6 → m.kind = .delayReq →
      n = (if (s.port m.port).reqSec = s.secs then (s.port m.port).reqs else 0) →
      u = s.setPort m.port { s.port m.port with reqSec := s.secs, reqs := n + 1 } →
      (n < 2048 → exec (.delayReq m) s = .next (u.ptpSend m.port
        { kind := .delayResp, seq := m.seq, requester := m.sender, origin := m.ingress + s.rdInt (Reg.TIME.PORT.PASYM.INLAT m.port), correction := m.correction })) ∧
      (2048 ≤ n → exec (.delayReq m) s = .next (s.count (Reg.TIME.PORT.PCNT.DISCARD m.port)))) ∧
  (∀ (m : PtpMsg) (s : State), s.ptpAccept m = (true, s) →
      (s.transparent = false → exec (.managementMessage m) s = .next (s.count (Reg.TIME.PORT.PCNT.DISCARD m.port))) ∧
      (s.transparent = true → exec (.managementMessage m) s = .next ((s.peers m.port).foldl (fun (a : State) e =>
        a.setPort e { a.port e with sent := some (a.forwarded m m.correction) }) s))) ∧
  (∀ (m : PtpMsg) (e : Nat) (s : State), s.transparent = true → m.port < 4 → e ∈ s.peers m.port →
      (s.ptpAuth m = false → exec (.ptpEventForward m e) s = .next (s.ptpFail m)) ∧
      (s.ptpAuth m = true → m.kind = .sync → m.tlv = none → s.peerDelay m.port = false →
        exec (.ptpEventForward m e) s = .next (s.setPort e { s.port e with sent := some (s.forwarded m (m.correction + ((m.egress + s.rdInt (Reg.TIME.PORT.PASYM.EGLAT e)) - (m.ingress + s.rdInt (Reg.TIME.PORT.PASYM.INLAT m.port))) * 65536)) }))) ∧
  (∀ (p n : Nat) (t egress : Int) (s : State), p < 4 → s.ports.length = 4 → s.on (Reg.TIME.PORT.PCFG.EN p) = true → s.portState p = 6 →
      n = (s.port p).txSeq → t = egress + s.rdInt (Reg.TIME.PORT.PASYM.EGLAT p) * 65536 →
      (s.twoStep p = false → exec (.syncTransmit p egress) s = .next ((s.setPort p { s.port p with txSeq := (n + 1) % 65536 }).ptpSend p
        { kind := .sync, seq := n, origin := t / 65536, correction := t % 65536 })) ∧
      (s.twoStep p = true → exec (.syncTransmit p egress) s = .next ((s.setPort p { s.port p with txSeq := (n + 1) % 65536, followUps := (s.port p).followUps ++ [(.sync, n, 0, t)] }).ptpSend
        p { kind := .sync, seq := n }))) ∧
  (∀ (p n who : Nat) (k : PtpKind) (t : Int) (r : List (PtpKind × Nat × Nat × Int)) (s : State), (s.port p).followUps = (k, n, who, t) :: r →
      exec (.followUp p) s = .next ((s.setPort p { s.port p with followUps := r }).ptpSend p
        { kind := generalOf k, seq := n, requester := who, origin := t / 65536, correction := t % 65536 })) ∧
  (∀ (p n : Nat) (s : State), p < 4 → s.on (Reg.TIME.PORT.PCFG.EN p) = true → s.portState p = 6 → s.boundary = false → n = (s.port p).txSeq →
      exec (.announceTransmit p) s = .next ((s.setPort p { s.port p with txSeq := (n + 1) % 65536 }).ptpSend p
        { kind := .announce, seq := n, clockClass := s.rd Reg.TIME.GMQ.CLASS, clockAcc := s.rd Reg.TIME.GMQ.ACC, variance := s.rd Reg.TIME.GMQ.VAR, prio1 := s.rd Reg.TIME.PTPCLK.PRIO1, prio2 := s.rd Reg.TIME.PTPCLK.PRIO2, gm := s.clockId, steps := 0, utc := Config.utcOffset })) ∧
  (∀ (p : Nat) (s u : State), p < 4 → s.on (Reg.TIME.PORT.PCFG.EN p) = true → s.portState p = 9 → (s.port p).lastAnnounce = none →
      (s.port p).foreign = [] → s.transparent = false →
      u = (s.setPort p { s.port p with agree := 0, recent := [], lastAnnounce := some s.run, parent := none, clockClass := 255, clockAcc := 254 }).setPortState p 4 →
      (s.slaveOnly p = true → exec (.announceReceiptTimeout p) s = .next u) ∧
      (s.slaveOnly p = false → exec (.announceReceiptTimeout p) s = .next (u.setPortState p 6))) ∧
  (∀ (p t n : Nat) (s : State), p < 4 → s.on (Reg.TIME.PORT.PCFG.EN p) = true → s.portState p = 9 → s.peerDelay p = false →
      n = ((s.port p).reqSeq + 1) % 65536 →
      exec (.delayReqTransmit p t) s = .next ((s.setPort p { s.port p with reqAt := (t : Int) + s.rdInt (Reg.TIME.PORT.PASYM.EGLAT p), reqSeq := n }).ptpSend
        p { kind := .delayReq, seq := n })) ∧
  (∀ (q : Requester) (v : Word) (p : Nat) (s : State) (fs : List RField), s.Writes q 0x80030 fs → p < 4 →
      s.on (Reg.TIME.PORT.PCFG.EN p) = true →
      ∃ t, exec (.ptpclkWrite q v) s = .next t ∧ t = s.writeMapped q 0x80030 fs v ∧ t.portState p = 1)

/-- What reference edges, losses, frequency gates, the end of the wait, and the holdover history do. Concludes that exec
answers a next state, under conditions on the state and the operands alone, for: referenceEdge, referenceActivityLoss,
frequencyGateEnd, waitToRestoreEnd, holdoverHistoryWrite. -/
def Obligations.ReferenceRowsTakeEffect : Prop :=
  (∀ (i e : Nat) (s : State), 4 ≤ i → i ≤ 8 → s.on (Reg.REFSEL.SLOT.CFG.EN i) = true → s.epoch = none →
      exec (.referenceEdge i e) s = .next (s.measure i (gridOffset
        (if i < 6 then s.nomRate i else if i = 6 then 10000000 else 1) e))) ∧
  (∀ (i t : Nat) (s u : State), i < 10 → s.on (Reg.REFSEL.SLOT.CFG.EN i) = true → (s.slot i).last = some t →
      t + s.twoPeriods i ≤ s.run → u = s.disqualify i reasonLos →
      exec (.referenceActivityLoss i) s = .next ((u.setSlot i { u.slot i with last := none, gates := 0, gateFrom := none, freqs := [] }).judge i)) ∧
  (∀ (i t : Nat) (f : Int) (s u : State), i < 10 → s.on (Reg.REFSEL.SLOT.CFG.EN i) = true → (s.slot i).gateFrom = some t →
      t + 1000000000 ≤ s.run → |f| ≤ (s.rd (Reg.REFSEL.SLOT.CFG.FWIN i) : Int) * 1000000 →
      u = (s.setSlot i { s.slot i with gates := (s.slot i).gates + 1, gateFrom := some s.run, freqs := ((s.run, f) :: (s.slot i).freqs).take 10 }).wrInt
        (Reg.REFSEL.SLOT.FREQ i) (average ((((s.run, f) :: (s.slot i).freqs).take 10).map fun m => m.2)) →
      (s.sel ≠ i → exec (.frequencyGateEnd i f) s = .next ((u.putReason i reasonFreq false).judge i)) ∧
      (s.sel = i → exec (.frequencyGateEnd i f) s = .next (((u.putReason i reasonFreq false).judge i).setFreq
        (((u.putReason i reasonFreq false).judge i).slotFreq i)))) ∧
  (∀ (i t : Nat) (f : Int) (s u : State), i < 10 → s.on (Reg.REFSEL.SLOT.CFG.EN i) = true → (s.slot i).gateFrom = some t →
      t + 1000000000 ≤ s.run → (s.rd (Reg.REFSEL.SLOT.CFG.FWIN i) : Int) * 1000000 < |f| →
      u = (s.setSlot i { s.slot i with gates := (s.slot i).gates + 1, gateFrom := some s.run, freqs := ((s.run, f) :: (s.slot i).freqs).take 10 }).wrInt
        (Reg.REFSEL.SLOT.FREQ i) (average ((((s.run, f) :: (s.slot i).freqs).take 10).map fun m => m.2)) →
      exec (.frequencyGateEnd i f) s = .next ((u.disqualify i reasonFreq).judge i)) ∧
  (∀ (i t : Nat) (s : State), i < 10 → s.reasons i = 0 → 1 ≤ (s.slot i).gates → s.on (Reg.REFSEL.SLOT.CFG.EN i) = true →
      (s.slot i).hit = true → (s.slot i).since = some t → t + s.rd Reg.REFSEL.CFG.WTR * 1000000000 ≤ s.run →
      s.on (Reg.REFSEL.SLOT.STAT.OUTVOTED i) = false → s.quality i ≠ 255 →
      ∃ u, exec (.waitToRestoreEnd i) s = .next u ∧ u.on (Reg.REFSEL.SLOT.STAT.SELECTABLE i) = true ∧
        u.on (Reg.REFSEL.SLOT.STAT.QUALIFIED i) = true ∧ u.rd (Reg.REFSEL.SLOT.STAT.WTRLEFT i) = 0) ∧
  (∀ (h : HistEntry) (s u : State), s.sel ≠ 15 → s.on Reg.REFSEL.CTRL.FORCEHO = false →
      h = { secs := s.secs, slot := s.sel, valid := s.ref.whole, freq := if s.ref.accN = 0 then s.time.freq else quot s.ref.acc s.ref.accN } →
      u = { s with ref := { s.ref with history := (s.ref.history ++ [h]).drop ((s.ref.history ++ [h]).length - 1024), acc := 0, accN := 0, whole := s.on (Reg.REFSEL.SLOT.STAT.QUALIFIED s.sel) } } →
      exec .holdoverHistoryWrite s = .next (u.showHoldover (u.holdoverValue u.secs)))

/-- What a TIME frame, REALIGN, its application and REF_HISTORY do. Concludes that exec answers a next state, under
conditions on the state and the operands alone, for: timeFrame, realign, realignApply, refHistory. -/
def Obligations.ReferenceCommandRowsTakeEffect : Prop :=
  (∀ (f : OuvFrame) (a2 : Nat) (s u : State), s.on Reg.GUARD.OUVCFG.EN = true → s.ouvUp = true →
      frameOk ouvTime 8192 f = true → f.payload.length = 32 →
      u = { s with ref := { s.ref with ptSeq := f.seq, ptRx := a2, ptSlot := rdLe f.payload 28 1, ptQual := rdLe f.payload 29 1, ptStepped := rdLe f.payload 30 1 % 2 == 1 } } →
      s.ref.sentTime.find? (fun e => e.1 == rdLe f.payload 12 4) = none →
      exec (.timeFrame f a2) s = .next (if s.on (Reg.REFSEL.SLOT.CFG.EN 9) then (u.heard 9).sourceTest 9 else u.sourceTest 9)) ∧
  (∀ (f : OuvFrame) (a2 n a1 : Nat) (s u : State) (b1 b2 : Int), s.on Reg.GUARD.OUVCFG.EN = true → s.ouvUp = true →
      frameOk ouvTime 8192 f = true → f.payload.length = 32 →
      u = { s with ref := { s.ref with ptSeq := f.seq, ptRx := a2, ptSlot := rdLe f.payload 28 1, ptQual := rdLe f.payload 29 1, ptStepped := rdLe f.payload 30 1 % 2 == 1 } } →
      s.ref.sentTime.find? (fun e => e.1 == rdLe f.payload 12 4) = some (n, a1) → s.on (Reg.REFSEL.SLOT.CFG.EN 9) = true →
      b2 = (((rdLe f.payload 0 6 * 1000000000 + rdLe f.payload 6 4) * 65536 + rdLe f.payload 10 2 : Nat) : Int) →
      b1 = (((rdLe f.payload 16 6 * 1000000000 + rdLe f.payload 22 4) * 65536 + rdLe f.payload 26 2 : Nat) : Int) →
      exec (.timeFrame f a2) s = .next (u.measure 9 (quot (2 * (b2 - (a2 : Int)) + (((a2 : Int) - a1) - (b2 - b1))) 131072))) ∧
  (∀ (d : Desc) (s u : State) (k : Nat), s.Admits 0x42 roleE d → u = s.opened 0x42 d → d.a0 < 2 ^ 15 → d.a2 < 1000000000 →
      u.on Reg.TIME.STATUS.STEPPED = true → k = u.tickFrom (u.readNs d) (d.rbuf * 1000000000 + d.a2) 2 →
      exec (.realign d) s = .next (State.completes { u with ref := { u.ref with realign := u.ref.realign ++ [(k, d.a0)] } } d stOk (le 8 k) [])) ∧
  (∀ (k mask : Nat) (js : List Nat) (s u : State), s.ref.realign.find? (fun e => decide (e.1 ≤ s.tick)) = some (k, mask) →
      js = (List.range 15).filter (fun j => mask.testBit j && (s.out j).running) →
      u = js.foldl (fun (a : State) j => a.alignOut j) { s with ref := { s.ref with realign := s.ref.realign.erase (k, mask) } } →
      exec .realignApply s = .next (u.log 0x0208 (le 4 mask ++ (js.map (fun j => leInt 4 (s.misOf j))).flatten))) ∧
  (∀ (d : Desc) (s u : State), s.Admits 0x43 roleM d → u = s.opened 0x43 d →
      16384 + 16 * u.ref.history.length - 16 * min 1024 u.ref.history.length ≤ d.rlen →
      exec (.refHistory d) s = .next (u.completes d stOk []
        (List.replicate ((1024 - u.ref.history.length) * 16) 0 ++ (u.ref.history.map histBytes).flatten)))

/-- What opening, closing and querying a stream context do, and what their effects do at T(k). Concludes that exec answers
a next state, under conditions on the state and the operands alone, for: streamOpen, streamOpenEffect, streamClose,
streamCloseEffect, streamStat. -/
def Obligations.StreamRowsTakeEffect : Prop :=
  (∀ (d : Desc) (s u : State) (k i : Nat) (x : RxCtx), s.Admits 0x30 roleO d → u = s.opened 0x30 d → d.a0 = 0 →
      d.buf.length = 192 → u.rd Reg.SYS.PWR.STATE ≠ 4 → u.rxBad d.buf = none → u.on Reg.TICK.CFG.PLAN = true →
      k = u.tickFrom (u.readNs d) 0 2 → x = rxOf d.buf k → i = rdLe d.buf 0 2 → (u.rxc i).state = 0 ∨ (u.rxc i).state = 4 → u.rxConflict x = false →
      x.dual = false →
      exec (.streamOpen d) s = .next ((((u.leaveGroups i).setRx i x).report x.porta 2 x.dsta x.srca).completes d stOk (le 8 k) [])) ∧
  (∀ (d : Desc) (s u : State) (k i : Nat) (x : RxCtx), s.Admits 0x30 roleO d → u = s.opened 0x30 d → d.a0 = 0 →
      d.buf.length = 192 → u.rd Reg.SYS.PWR.STATE ≠ 4 → u.rxBad d.buf = none → u.on Reg.TICK.CFG.PLAN = true →
      k = u.tickFrom (u.readNs d) 0 2 → x = rxOf d.buf k → i = rdLe d.buf 0 2 → (u.rxc i).state = 0 ∨ (u.rxc i).state = 4 → u.rxConflict x = false →
      x.dual = true →
      exec (.streamOpen d) s = .next (((((u.leaveGroups i).setRx i x).report x.porta 2 x.dsta x.srca).report (x.porta + 2) 2 x.dstb x.srcb).completes
        d stOk (le 8 k) [])) ∧
  (∀ (d : Desc) (s u v : State) (k i n : Nat) (x : TxCtx), s.Admits 0x30 roleO d → u = s.opened 0x30 d → d.a0 = 1 →
      d.buf.length = 192 → u.rd Reg.SYS.PWR.STATE ≠ 4 → u.txBad d.buf = none → u.on Reg.TICK.CFG.PLAN = true →
      k = u.tickFrom (u.readNs d) 0 2 → (n, v) = u.fresh → x = txOf d.buf k n → i = rdLe d.buf 0 2 → (u.txc i).state = 0 →
      ((pathPorts x.porta x.dual).any fun p => decide (u.lineRate p * 8 < u.portLoad p (u.txUsed ++ [x]) * 10)) = false →
      exec (.streamOpen d) s = .next (((v.setTx i x).showStrm.showEval u).completes d stOk (le 8 k) [])) ∧
  (∀ (i : Nat) (x : RxCtx) (s u : State), x = s.rxc i → x.state = 1 → u = s.reach (s.tAt x.at_) →
      exec (.streamOpenEffect false i) s = .next (((({ u with eng := { u.eng with conceal := u.eng.conceal.filter fun c => !x.map.contains c.1 } } : State).setRx
        i { x with state := if x.closeAt.isSome then 3 else 2, at_ := x.closeAt.getD x.at_, openedAt := u.run, winFrom := u.run }).showStrm).showEval s)) ∧
  (∀ (i : Nat) (x : TxCtx) (s : State), x = s.txc i → x.state = 1 →
      exec (.streamOpenEffect true i) s = .next (((s.reach (s.tAt x.at_)).setTx i { x with state := if x.closeAt.isSome then 3 else 2, at_ := x.closeAt.getD x.at_ }).showStrm)) ∧
  (∀ (d : Desc) (k : Nat) (x : RxCtx) (s u : State), s.Admits 0x31 roleO d → u = s.opened 0x31 d → d.a0 = 0 → d.a1 < 512 → x = u.rxc d.a1 →
      k = u.tickFrom (u.readNs d) 0 2 →
      (x.state = 2 → exec (.streamClose d) s = .next ((u.setRx d.a1 { x with state := 3, at_ := k }).completes d stOk (le 8 k) [])) ∧
      (x.state = 1 → exec (.streamClose d) s = .next ((u.setRx d.a1 { x with closeAt := some (x.closeAt.getD k) }).completes d stOk (le 8 (x.closeAt.getD k)) [])) ∧
      (x.state = 3 → exec (.streamClose d) s = .next (u.completes d stOk (le 8 x.at_) []))) ∧
  (∀ (d : Desc) (k : Nat) (x : TxCtx) (s u : State), s.Admits 0x31 roleO d → u = s.opened 0x31 d → d.a0 = 1 → d.a1 < 512 → x = u.txc d.a1 →
      k = u.tickFrom (u.readNs d) 0 2 →
      (x.state = 2 → exec (.streamClose d) s = .next ((u.setTx d.a1 { x with state := 3, at_ := k }).completes d stOk (le 8 k) [])) ∧
      (x.state = 1 → exec (.streamClose d) s = .next ((u.setTx d.a1 { x with closeAt := some (x.closeAt.getD k) }).completes d stOk (le 8 (x.closeAt.getD k)) [])) ∧
      (x.state = 3 → exec (.streamClose d) s = .next (u.completes d stOk (le 8 x.at_) []))) ∧
  (∀ (i : Nat) (x : RxCtx) (s u : State), x = s.rxc i → x.state = 3 →
      u = (s.reach (s.tAt x.at_)).setRx i { x with state := 4, closeAt := none, upA := false, upB := false } →
      exec (.streamCloseEffect false i) s = .next ((State.showStrm { u with strm := { u.strm with closing := u.strm.closing ++ [(x.at_, x.map.filter fun c => c != 0xFFFF)] } }).showEval s)) ∧
  (∀ (i : Nat) (x : TxCtx) (s : State), x = s.txc i → x.state = 3 →
      exec (.streamCloseEffect true i) s = .next ((((s.reach (s.tAt x.at_)).setTx i { x with state := 0, closeAt := none, part := [] }).showStrm).showEval s)) ∧
  (∀ (d : Desc) (s u : State) (x : RxCtx), s.Admits 0x32 roleM d → u = s.opened 0x32 d → d.a0 = 0 → d.a1 < 512 →
      mapGet u.strm.rx d.a1 = some x → x.pub.length ≤ d.rlen →
      exec (.streamStat d) s = .next (State.completes (if d.flags % 2 = 1 then u.setRx d.a1 x.cleared else u) d stOk [] x.pub)) ∧
  (∀ (d : Desc) (s u : State) (x : TxCtx), s.Admits 0x32 roleM d → u = s.opened 0x32 d → d.a0 = 1 → d.a1 < 512 →
      mapGet u.strm.tx d.a1 = some x → x.pub.length ≤ d.rlen →
      exec (.streamStat d) s = .next (State.completes (if d.flags % 2 = 1 then u.setTx d.a1 x.cleared else u) d stOk [] x.pub)) ∧
  (∀ (d : Desc) (s u : State), s.Admits 0x32 roleM d → u = s.opened 0x32 d → d.a1 < 512 →
      (d.a0 = 0 → mapGet u.strm.rx d.a1 = none → 64 ≤ d.rlen →
        exec (.streamStat d) s = .next (u.completes d stOk [] (List.replicate 60 0 ++ le 4 u.eng.relFrame))) ∧
      (d.a0 = 1 → mapGet u.strm.tx d.a1 = none → 32 ≤ d.rlen →
        exec (.streamStat d) s = .next (u.completes d stOk [] (List.replicate 28 0 ++ le 4 u.eng.relFrame))))

/-- What packets, path losses, slip and drop windows, launches and transmit deadlines do. Concludes that exec answers a
next state, under conditions on the state and the operands alone, for: packetReceive, streamPathDown, slipWindowEnd,
lateDropWindowEnd, streamPacketLaunch, packetTxDeadline. -/
def Obligations.PacketRowsTakeEffect : Prop :=
  (∀ (p : Packet) (s u : State) (i : Nat) (b : Bool) (x : RxCtx), s.portOn p.port = true → p.ipLen ≤ s.rd (Reg.NET.PORT.CFG.MTU p.port) → s.vidOk p.port p.vid = true →
      u = s.count (Reg.NET.PORT.RXFRM p.port) → u.matchRx p = some (i, b) → x = u.rxc i →
      (u.fmtBad x b p = true → exec (.packetReceive p) s = .next (u.setRx i { x with fmtErr := x.fmtErr + 1 })) ∧
      (u.fmtBad x b p = false → u.authCheck x p = .fail → exec (.packetReceive p) s = .next (u.authFailed i)) ∧
      (u.fmtBad x b p = false → u.authCheck x p = .dup → exec (.packetReceive p) s = .next ((u.setRx i { x.noteMargin u.run (u.marginOf x p) with dup := x.dup + 1 }).pathSeen i b p.seq)) ∧
      (u.fmtBad x b p = false → u.authCheck x p = .accept → (∃ e ∈ u.portions i x p, u.openFrame + 64 < e.1) →
        exec (.packetReceive p) s = .next (u.setRx i { x with early := x.early + 1 })) ∧
      (u.fmtBad x b p = false → u.authCheck x p = .accept → (∀ e ∈ u.portions i x p, e.1 ≤ u.openFrame + 64) →
        exec (.packetReceive p) s = .next (((u.setRx i (x.noteCtr p)).pathSeen i b p.seq).takePacket i b p))) ∧
  (∀ (p : Packet) (s u : State), s.portOn p.port = true → u = s.count (Reg.NET.PORT.RXFRM p.port) →
      (s.rd (Reg.NET.PORT.CFG.MTU p.port) < p.ipLen ∨ s.vidOk p.port p.vid = false ∨ u.matchRx p = none) →
      exec (.packetReceive p) s = .next (u.count (Reg.NET.PORT.RXERR.DROP p.port))) ∧
  (∀ (i : Nat) (s : State) (y : RxCtx), ctxOpen (s.rxc i).state = true → (s.rxc i).upB = true →
      (∀ e ∈ (s.rxc i).lastB, e.1 + 10000000 ≤ s.run) → y = { s.rxc i with upB := false } →
      exec (.streamPathDown i true) s = .next (((s.setRx i y).post 0x0014 (le 1 0 ++ le 2 i ++ le 1 (rxState y))).showStrm)) ∧
  (∀ (i f : Nat) (s : State) (x : RxCtx), x = s.rxc i → ctxOpen x.state = true → x.slipen = true → x.m0Cnt ≠ 0 → x.winCnt ≠ 0 →
      (x.m0Sum : Rat) / x.m0Cnt + (s.ts3 : Rat) / 3 < (x.winSum : Rat) / x.winCnt →
      f = s.openFrame → x.winFrom + 50000000 ≤ s.run →
      exec (.slipWindowEnd i) s = .next ((s.setRx i { x with winSum := 0, winCnt := 0, winFrom := s.run, slipOld := x.slipK, slipK := x.slipK - 1, slipAt := f, slipDrop := x.slipDrop + 1 }).shiftWater
        (x.map.filter fun c => c != 0xFFFF) f false)) ∧
  (∀ (i : Nat) (x : RxCtx) (s : State), s.strm.rx = [(i, x)] → x.dropWin ≠ 0 →
      exec .lateDropWindowEnd s = .next ((s.setRx i { x with dropWin := 0 }).post 0x0013 (le 2 i ++ le 4 x.dropWin))) ∧
  (∀ (i : Nat) (q : TxPkt) (r : List TxPkt) (s u : State) (x : TxCtx), x = s.txc i → x.queue = q :: r →
      (∀ y ∈ x.queue, y.paths = [false]) → (∀ y ∈ r, y.seq ≠ q.seq ∨ y.launch ≠ q.launch) → x.sent = none →
      s.portReady x.porta = true → s.firstLaunch x.porta = some q.launch → u = s.reach q.launch → u.ns < q.flip + u.tickNs →
      exec (.streamPacketLaunch i) s = .next ((u.setTx i { x with queue := r, sent := some { q with heads := [u.headOf x false] }, pktA := x.pktA + 1, latest := (x.latest.filter fun e => decide (u.run < e.1 + 1000000000)) ++ [(u.run, (u.ns - q.launch) / 10)] }).count
        (Reg.NET.PORT.TXFRM x.porta))) ∧
  (∀ (i : Nat) (s : State), s.portReady (s.txc i).porta = false → s.portReady ((s.txc i).porta + 2) = false →
      exec (.streamPacketLaunch i) s = .next s) ∧
  (∀ (i : Nat) (q : TxPkt) (r : List TxPkt) (s : State), (s.txc i).queue = q :: r → q.paths = [false] →
      exec (.packetTxDeadline i) s = .next ((((s.reach (q.flip + s.tickNs)).advanceGen 5 3).setTx i { s.txc i with queue := r, txMiss := (s.txc i).txMiss + 1 }).count
        (Reg.NET.PORT.TXDROP.SCHED (s.txc i).porta)))

/-- What the switch and the ports do with frames, requests, reports, ageing, link and group changes. Concludes that exec
answers a next state, under conditions on the state and the operands alone, for: frameForward, arpRequest,
icmpEchoRequest, igmpReport, egressFrameStart, fdbAgeing, linkStateChange, switchConfigWrite. -/
def Obligations.SwitchRowsTakeEffect : Prop :=
  (∀ (f : NetFrame) (s u v : State), s.portOn f.port = true → f.kind = .broadcast → f.query = false → f.ipLen ≤ s.rd (Reg.NET.PORT.CFG.MTU f.port) →
      u = (s.count (Reg.NET.PORT.RXFRM f.port)).learn f.port f.src →
      v = (u.peers f.port).foldl (fun (a : State) q => a.enqueueFrame q (a.queueOf q f) (f.ipLen + 18)) u →
      exec (.frameForward f) s = .next { v with net := { v.net with inner := some f } }) ∧
  (∀ (f : NetFrame) (s : State), s.portOn f.port = true → f.kind = .badFcs →
      exec (.frameForward f) s = .next ((s.count (Reg.NET.PORT.RXFRM f.port)).count (Reg.NET.PORT.RXERR.FCS f.port))) ∧
  (∀ (p a n : Nat) (s : State), s.portOn p = true → s.rd (Reg.NET.PORT.IP.ADDR p) = a → a ≠ 0 →
      exec (.arpRequest p a ⟨n, 0⟩) s = .next ((s.count (Reg.NET.PORT.RXFRM p)).reply { port := p, kind := 0, addr := n } 46)) ∧
  (∀ (p a n : Nat) (b : List Byte) (s : State), s.portOn p = true → s.rd (Reg.NET.PORT.IP.ADDR p) = a → a ≠ 0 →
      b.length + 28 ≤ s.rd (Reg.NET.PORT.CFG.MTU p) →
      exec (.icmpEchoRequest p a ⟨n, 0⟩ b) s = .next ((s.count (Reg.NET.PORT.RXFRM p)).reply
        { port := p, kind := 1, addr := n, data := b } (b.length + 46))) ∧
  (∀ (p a n v : Nat) (b : List Byte) (s : State), s.portOn p = true → s.rd (Reg.NET.PORT.IP.ADDR p) ≠ a →
      exec (.icmpEchoRequest p a ⟨n, v⟩ b) s = .next ((s.count (Reg.NET.PORT.RXFRM p)).count (Reg.NET.PORT.RXERR.DROP p))) ∧
  (∀ (p g : Nat) (s u : State), s.portOn p = true → (s.net.mcg.any fun e => e.1 == g) = true → u = s.count (Reg.NET.PORT.RXFRM p) →
      exec (.igmpReport p g) s = .next (({ u with net := { u.net with mcg := (s.net.mcg.filter fun e => !(e.1 == g && e.2.1 == p)) ++ [(g, p, s.run)] } } : State).showSwitch)) ∧
  (∀ (p n : Nat) (r : List Egress) (s : State), s.portOn p = true → s.on (Reg.NET.PORT.STAT.LINK p) = true → atD s.net.queues p [] = ⟨0, n⟩ :: r →
      exec (.egressFrameStart p) s = .next (({ s with net := { s.net with queues := modAt s.net.queues p fun l => l.eraseIdx 0 } } : State).count
        (Reg.NET.PORT.TXFRM p))) ∧
  (∀ (p t : Nat) (s : State), (∀ e ∈ atD s.net.queues p [], e.queue = 2) → s.firstLaunch p = some t → t ≤ s.ns →
      exec (.egressFrameStart p) s = .next s) ∧
  (∀ (g m : Nat) (s : State), (∀ e ∈ s.net.fdb, e.1 = g → e.2.1 = m → e.2.2.2 + s.rd Reg.NET.SW.AGE * 1000000000 ≤ s.run) →
      exec (.fdbAgeing g m) s = .next (({ s with net := { s.net with fdb := s.net.fdb.filter fun e => !(e.1 == g && e.2.1 == m) } } : State).showSwitch)) ∧
  (∀ (p : Nat) (up fec : Bool) (s : State), p < 4 → s.rd Reg.SYS.PWR.STATE ≠ 4 →
      exec (.linkStateChange p up fec) s = .next ((s.put (Reg.NET.PORT.STAT.LINK p) up).put (Reg.NET.PORT.STAT.FECLOCK p)
        (fec || s.rd (Reg.NET.PORT.CFG.FEC p) == 0))) ∧
  (∀ (q : Requester) (v : Word) (fs : List RField) (s : State), s.Writes q 0xA0004 fs →
      (getBits v 0 2 = getBits v 4 2 ∨ getBits v 2 2 = getBits v 6 2) →
      ∃ t, exec (.switchConfigWrite q v) s = .next t ∧ t.word 0xA0004 = s.word 0xA0004 ∧ t.net = s.net) ∧
  (∀ (q : Requester) (v : Word) (fs : List RField) (s : State), s.Writes q 0xA0004 fs →
      getBits v 0 2 ≠ getBits v 4 2 → getBits v 2 2 ≠ getBits v 6 2 →
      ∃ t, exec (.switchConfigWrite q v) s = .next t ∧ t.rd Reg.NET.SW.BRG0 = getBits v 0 2 ∧ t.rd Reg.NET.SW.BRG1 = getBits v 2 2 ∧
        t.rd Reg.NET.SW.BRG2 = getBits v 4 2 ∧ t.rd Reg.NET.SW.BRG3 = getBits v 6 2 ∧ t.net = s.net)

/-- What a port frame, an underrun, a loss of clock, a rate measurement and a slip window do at a serial port, and its
start, stop and arming. Concludes that exec answers a next state, under conditions on the state and the operands
alone, for: portFrame, slotUnderrun, sapLossOfClock, sapRateMeasurement, slipLogWindowEnd, portStart, portStop,
maskArm. -/
def Obligations.SerialRowsTakeEffect : Prop :=
  (∀ (p fs : Nat) (rx : List Word) (s u v : State), p < 32 → (s.on (Reg.SAP.P.CFG.ROLE p) = true → fs % s.ts3 = 0) →
      u = s.reach (fs / 3) → v = u.setSp p { u.sp p with last := some fs } →
      (2 ≤ s.sapState p → s.on (Reg.SAP.P.STATUS.LOS p) = false → exec (.portFrame p rx fs) s = .next (v.moveFrame p rx fs)) ∧
      (s.sapState p = 1 → s.on (Reg.SAP.P.CFG.ROLE p) = true → (u.sp p).from_ ≤ fs / 3 →
        exec (.portFrame p rx fs) s = .next ((v.sapEnter p).moveFrame p rx fs)) ∧
      (s.sapState p = 1 → s.on (Reg.SAP.P.CFG.ROLE p) = true → fs / 3 < (u.sp p).from_ → exec (.portFrame p rx fs) s = .next v) ∧
      (∀ l, (u.sp p).last = some l → fs < l + 2 * u.ts3 → s.on (Reg.SAP.P.CFG.ROLE p) = false →
        (s.sapState p = 1 → exec (.portFrame p rx fs) s = .next ((v.sapEnter p).moveFrame p rx fs)) ∧
        (2 ≤ s.sapState p → s.on (Reg.SAP.P.STATUS.LOS p) = true → exec (.portFrame p rx fs) s = .next ((v.clockBack p).moveFrame p rx fs))) ∧
      ((∀ l, (u.sp p).last = some l → l + 2 * u.ts3 ≤ fs) → s.on (Reg.SAP.P.CFG.ROLE p) = false →
        (s.sapState p = 1 ∨ 2 ≤ s.sapState p ∧ s.on (Reg.SAP.P.STATUS.LOS p) = true) → exec (.portFrame p rx fs) s = .next v)) ∧
  (∀ (p : Nat) (s : State), p < 32 → 2 ≤ s.sapState p →
      exec (.slotUnderrun p) s = .next (s.setSp p { s.sp p with under := true })) ∧
  (∀ (p : Nat) (s : State), p < 32 → s.sapState p = 2 → s.on (Reg.SAP.P.CFG.ROLE p) = false →
      s.on (Reg.SAP.P.STATUS.LOS p) = false → s.noClock p = true →
      exec (.sapLossOfClock p) s = .next ((((s.setSp p { s.sp p with out := [], tail := none }).put (Reg.SAP.P.STATUS.LOS p) true).count
        (Reg.SAP.P.ERR.LOSCNT p)).post 0x0018 (le 1 p ++ le 1 1))) ∧
  (∀ (p : Nat) (ppb : Int) (s : State), p < 32 → 2 ≤ s.sapState p → s.on (Reg.SAP.P.CFG.ROLE p) = false → 1000000 < ppb.natAbs →
      exec (.sapRateMeasurement p ppb) s = .next ((s.wrInt (Reg.SAP.P.RATE.PPB p) ppb).put (Reg.SAP.P.STATUS.FREQ p) true)) ∧
  (∀ (p : Nat) (ppb : Int) (s : State), p < 32 → 2 ≤ s.sapState p → s.on (Reg.SAP.P.CFG.ROLE p) = false → ppb.natAbs ≤ 500000 →
      exec (.sapRateMeasurement p ppb) s = .next ((s.wrInt (Reg.SAP.P.RATE.PPB p) ppb).put (Reg.SAP.P.STATUS.FREQ p) false)) ∧
  (∀ (p t d r : Nat) (s : State), (s.sp p).slips = some (t, d, r) → t + 1000000000 ≤ s.run →
      exec (.slipLogWindowEnd p) s = .next ((s.setSp p { s.sp p with slips := none }).siltWrite 0x0A01 (le 1 p ++ le 4 d ++ le 4 r))) ∧
  (∀ (q : Requester) (v : Word) (p : Nat) (fs : List RField) (s u : State), s.Writes q (0xD0000 + 64 * p) fs → p < 32 → getBits v 0 1 = 1 →
      s.sapState p = 0 → s.on (Reg.SAP.P.CFG.EN p) = false →
      u = s.setWord (0xD0000 + 64 * p) (fs.foldl (s.writeField (0xD0000 + 64 * p) v) (s.word (0xD0000 + 64 * p), false)).1 →
      ∃ t, exec (.portStart q p v) s = .next t ∧ t.on (Reg.SAP.P.CFG.EN p) = !u.sapBad p ∧ t.on (Reg.SAP.P.STATUS.CFGERR p) = u.sapBad p ∧
        t.sapState p = (if u.sapBad p then 0 else 1) ∧ (u.sapBad p = false → (t.sp p).from_ = s.ns + 1000)) ∧
  (∀ (q : Requester) (v : Word) (p : Nat) (fs : List RField) (s : State), s.Writes q (0xD0000 + 64 * p) fs → p < 32 → getBits v 0 1 = 0 →
      s.sapState p = 2 → s.on (Reg.SAP.P.STATUS.LOS p) = false →
      ∃ t, exec (.portStop q p v) s = .next t ∧ t.on (Reg.SAP.P.CFG.EN p) = false ∧ t.sapState p = 3) ∧
  (∀ (q : Requester) (v : Word) (p : Nat) (fs : List RField) (s : State), s.Writes q (0xD0000 + 64 * p) fs → p < 32 → getBits v 0 1 = 0 →
      s.sapState p = 1 →
      ∃ t, exec (.portStop q p v) s = .next t ∧ t.on (Reg.SAP.P.CFG.EN p) = false ∧ t.sapState p = 0) ∧
  (∀ (q : Requester) (v : Word) (p : Nat) (fs : List RField) (s : State), s.Writes q (0xD0010 + 64 * p) fs → p < 32 → getBits v 0 1 = 1 →
      s.on (Reg.SAP.P.MCTRL.ARM p) = false →
      ∃ t, exec (.maskArm q p v) s = .next t ∧ t.on (Reg.SAP.P.MCTRL.ARM p) = true ∧ (t.sp p).arm = some s.now3)

/-- What a stage group's start, its faults, its status frame, its carrier period and the sense inputs do. Concludes that
exec answers a next state, under conditions on the state and the operands alone, for: railQualified, bootEnd,
carrierPeriod, railUndervoltage, railOvervoltage, stageStatusFrame, stageStatusTimeout, stageFaultRestart, senseStuck,
senseStuckClear, groupEnable. -/
def Obligations.StageGroupRowsTakeEffect : Prop :=
  (∀ (g t : Nat) (s : State), g < 16 → s.rd (Reg.MOD.G.STAT.STATE g) = 1 → (s.mg g).boot = none → (s.mg g).inAt = some t →
      t + 10000000 ≤ s.run → exec (.railQualified g) s = .next (s.groupBoot g)) ∧
  (∀ (g k : Nat) (s u : State), g < 16 → s.stopped g = false → (s.mg g).rel = false → (s.mg g).boot = some k →
      s.rd (Reg.MOD.G.CFG.BOOT g) ≤ k → u = (s.wr (Reg.MOD.G.STAT.STATE g) 2).setMg g { s.mg g with rel := false, boot := none } →
      exec (.bootEnd g) s = .next (u.eachCh g fun n y => if y.due then { y with base := chProbe, due := false, offAt := s.run, fade := s.fadeAt g }
        else if s.booted g n then { y with base := chRun, lower := false, fade := s.rampTo { g0 := 0, g1 := 0 } (s.fadeGoal g) 256 } else y)) ∧
  (∀ (g bits : Nat) (s u : State) (v : Rat), g < 16 → s.rd (Reg.MOD.G.STAT.STATE g) ≠ 0 → (s.mg g).next = none →
      (s.mg g).fc ≠ 0 → s.on (Reg.MOD.G.STAT.RAILFAIL g) = false → (s.mg g).due ≤ s.time.now →
      s.time.now < (s.mg g).due + 100000000 * tu / (s.mg g).fc →
      v = (s.rd (Reg.MOD.G.RAIL.RAILFS g) * railDensity bits : Nat) / 10648 →
      u = ((s.setMg g { s.mg g with period := (s.mg g).due, boot := (s.mg g).boot.map fun k => k + 1 }).measureRail g v).noteClear g →
      exec (.carrierPeriod g bits) s = .next ((List.range 8).foldl (fun (a : State) q => a.chPeriod g q v) u)) ∧
  (∀ (g t : Nat) (s : State), g < 16 → s.rd (Reg.MOD.G.STAT.STATE g) = 2 → s.on (Reg.MOD.G.STAT.UV g) = false →
      (s.mg g).underAt = some t → t + 1000000 ≤ s.run →
      exec (.railUndervoltage g) s = .next (((s.put (Reg.MOD.G.STAT.UV g) true).underOff g).modEvent g 2 (Reg.MOD.G.STAT.STATE g))) ∧
  (∀ (g : Nat) (s : State), g < 16 → s.rd (Reg.MOD.G.STAT.STATE g) ≠ 0 → s.on (Reg.MOD.G.STAT.OV g) = false →
      ((s.rd (Reg.MOD.G.RAILLIM.OV g) : Nat) : Rat) < (s.mg g).vrail →
      exec (.railOvervoltage g) s = .next (((s.put (Reg.MOD.G.STAT.OV g) true).stageOff g).modEvent g 2 (Reg.MOD.G.STAT.STATE g))) ∧
  (∀ (g v : Nat) (b : Word) (s u : State), g < 16 → v = b.toNat → v / 2 ^ 28 = 0xA → crc8Of v = v % 256 → v.testBit 16 = false →
      v.testBit 15 = false → v.testBit 14 = false →
      u = (((((s.wr (Reg.MOD.G.STAT.TEMP g) (v / 2 ^ 18 % 1024)).put (Reg.MOD.G.STAT.OTW g) (v.testBit 17)).put
        (Reg.MOD.G.STAT.OTF g) false).put (Reg.MOD.G.STAT.UVLO g) false).put (Reg.MOD.G.STAT.GDF g) false).put
        (Reg.MOD.G.STAT.STATLOS g) false →
      exec (.stageStatusFrame g b) s = .next ((u.setMg g { u.mg g with frameAt := s.run }).noteClear g)) ∧
  (∀ (g : Nat) (s : State), g < 16 → s.on (Reg.MOD.G.STAT.STATLOS g) = false → (s.mg g).frameAt + 10000000 ≤ s.run →
      exec (.stageStatusTimeout g) s = .next ((s.put (Reg.MOD.G.STAT.STATLOS g) true).modEvent g 4 (Reg.MOD.G.STAT.STATE g))) ∧
  (∀ (g t : Nat) (s : State), g < 16 → s.rd (Reg.MOD.G.STAT.STATE g) = 3 → (s.mg g).clearAt = some t → t + 100000000 ≤ s.run →
      exec (.stageFaultRestart g) s = .next ((((s.put (Reg.MOD.G.STAT.UV g) false).put (Reg.MOD.G.STAT.OV g) false).cutProbes g).groupBoot g)) ∧
  (∀ (n k : Nat) (f : Fld) (s : State), senseBit n k = some f → s.on f = false →
      exec (.senseStuck n k) s = .next (if k = 2 then ((s.put f true).modEvent n 1 f).railBefore n
        else ((s.put f true).modEvent n 1 f).count (Reg.MOD.CH.CNT.SNSF n))) ∧
  (∀ (n k : Nat) (f : Fld) (s : State), senseBit n k = some f → exec (.senseStuckClear n k) s = .next (s.put f false)) ∧
  (∀ (q : Requester) (v : Word) (g : Nat) (fs : List RField) (s u : State), s.Writes q (0x100100 + 32 * g) fs → g < 16 → getBits v 0 1 = 1 →
      s.rd (Reg.MOD.G.STAT.STATE g) = 0 →
      u = s.setWord (0x100100 + 32 * g) (fs.foldl (s.writeField (0x100100 + 32 * g) v) (s.word (0x100100 + 32 * g), false)).1 →
      ∃ t, exec (.groupEnable q g v) s = .next t ∧ t.on (Reg.MOD.G.CFG.EN g) = (!u.groupBad g || s.on (Reg.MOD.G.CFG.EN g)) ∧
        t.on (Reg.MOD.G.STAT.CFGERR g) = u.groupBad g ∧ t.rd (Reg.MOD.G.STAT.STATE g) = if u.groupBad g then 0 else 1)

/-- What short circuits, probes, calibration and the all-stops do to modulator channels. Concludes that exec answers a
next state, under conditions on the state and the operands alone, for: scNFall, probeStart, scWaitExpiry, probeResult,
rearmRampEnd, scClear, senseCal, senseCalibration, senseCalTimeout. -/
def Obligations.ModulatorChannelRowsTakeEffect : Prop :=
  (∀ (n : Nat) (s u : State), n < 128 → s.rd (Reg.MOD.CH.STAT.STATE n) = 2 → s.on (Reg.MOD.G.CFG.SCEN (n / 8)) = true →
      u = (s.scnAt n false).count (Reg.MOD.CH.CNT.SC n) →
      exec (.scNFall n) s = .next ((u.onCh2 n fun _ =>
        { (u.mc n).off with base := if 3 ≤ (s.retries n).length then 6 else 3, rearm := none, offAt := s.run, retries := s.retries n }).log
        0x0308 (le 1 n ++ le 1 2 ++ le 4 (s.retries n).length))) ∧
  (∀ (n : Nat) (s : State), n < 128 → (s.mc n).base = 3 → (s.mc n).offAt + 500000000 ≤ s.run →
      exec (.probeStart n) s = .next ((s.scnAt n true).probe n)) ∧
  (∀ (n : Nat) (s : State), n < 128 → (s.mc n).base = 6 → (s.mc n).retries.headD 0 + 60000000000 ≤ s.run →
      exec (.scWaitExpiry n) s = .next (((s.scnAt n true).onCh2 n fun x => { x with base := 3, retries := x.retries.drop 1 }).probe n)) ∧
  (∀ (w : PilotWindow) (s : State), w.ch < 128 → (s.mc w.ch).base = 4 → (s.mc w.ch).offAt + 1000000000 ≤ s.run → s.vMeets w = false →
      exec (.probeResult w) s = .next ((s.onCh2 w.ch fun x => { x.off with base := 3, offAt := s.run }).log 0x0309
        (le 1 w.ch ++ le 4 (zOf w) ++ le 1 (Config.probeOutcome 2)))) ∧
  (∀ (w : PilotWindow) (s : State), w.ch < 128 → (s.mc w.ch).base = 4 → (s.mc w.ch).offAt + 1000000000 ≤ s.run → s.vMeets w = true → s.iMeets w = true → w.vAmp < w.iAmp →
      exec (.probeResult w) s = .next (((s.onCh2 w.ch fun x => { x.off with base := 5 }).log 0x0309
        (le 1 w.ch ++ le 4 (zOf w) ++ le 1 (Config.probeOutcome 1))).modEvent w.ch 3 (Reg.MOD.CH.STAT.STATE w.ch))) ∧
  (∀ (w : PilotWindow) (s : State), w.ch < 128 → (s.mc w.ch).base = 4 → (s.mc w.ch).offAt + 1000000000 ≤ s.run → s.vMeets w = true → w.iAmp ≤ w.vAmp →
      exec (.probeResult w) s = .next ((s.onCh2 w.ch fun x => { x with base := 2, rearm := some s.run, retries := s.retries w.ch ++ [s.run], fade := s.fadeAt (w.ch / 8) }).log
        0x0309 (le 1 w.ch ++ le 4 (zOf w) ++ le 1 (Config.probeOutcome 0)))) ∧
  (∀ (n t : Nat) (s : State), n < 128 → (s.mc n).rearm = some t → t + 2000000000 ≤ s.run →
      exec (.rearmRampEnd n) s = .next (s.onCh2 n fun x => { x with rearm := none })) ∧
  (∀ (d : Desc) (s u : State), s.Admits 0x52 roleO d → u = s.opened 0x52 d → d.a0 < 128 → (u.mc d.a0).base ∈ [3, 5, 6] →
      exec (.scClear d) s = .next (((u.onCh2 d.a0 fun x => { x with base := 3, retries := [] }).probe d.a0).completes d stOk [] [])) ∧
  (∀ (d : Desc) (s u : State), s.Admits 0x53 roleE d → u = s.opened 0x53 d → d.a0 < 128 → d.a1 ≤ 60 →
      u.rd (Reg.MOD.CH.STAT.STATE d.a0) = 2 → d.a2 % 2 = 0 → exec (.senseCal d) s = .next (u.goesOn d)) ∧
  (∀ (d : Desc) (s u : State), s.Admits 0x53 roleE d → u = s.opened 0x53 d → d.a0 < 128 → d.a1 ≤ 60 →
      u.rd (Reg.MOD.CH.STAT.STATE d.a0) = 2 → d.a2 % 2 = 1 →
      exec (.senseCal d) s = .next ((u.onCh2 d.a0 fun x => { x with fade := u.rampTo x.fade 0 32 }).goesOn d)) ∧
  (∀ (n r : Nat) (i v : Int) (x : Running) (s : State), s.ringOf 0x53 (fun d => d.a0 == n) = some r → (s.ring r).run = some x →
      x.d.a2 % 2 = 0 → (s.mc n).loudAt + 2000000000 ≤ s.run →
      exec (.senseCalibration n i v) s = .next ((s.onCh2 n fun x => { x with iOfs := i, vOfs := v }).finish r stOk [] [])) ∧
  (∀ (n r : Nat) (i v : Int) (x : Running) (s : State), s.ringOf 0x53 (fun d => d.a0 == n) = some r → (s.ring r).run = some x →
      x.d.a2 % 2 = 1 → x.since + ((32 * s.ts3 + 2) / 3 + 20000000) ≤ s.run →
      exec (.senseCalibration n i v) s = .next ((s.onCh2 n fun y => { y with
        iOfs := i, vOfs := v, fade := s.rampTo { g0 := 0, g1 := 0 } (s.fadeGoal (n / 8)) 256 }).finish r stOk [] [])) ∧
  (∀ (n r : Nat) (x : Running) (s : State), s.ringOf 0x53 (fun d => d.a0 == n && d.a2 % 2 == 0) = some r →
      (s.ring r).run = some x → x.since + x.d.a1 * 1000000000 ≤ s.run →
      exec (.senseCalTimeout n) s = .next (s.finish r stDeferred [] []))

/-- What the ring's and the pin's all-stop and their releases do. Concludes that exec answers a next state, under
conditions on the state and the operands alone, for: allstop, muteNFall, muteNRise, allstopRelease, pinAllstopEnd. -/
def Obligations.AllStopRowsTakeEffect : Prop :=
  (∀ (d : Desc) (n at_ : Nat) (s u : State), s.ready 0x50 d = true → d.ring = 0 → u = s.start 0x50 d → groupsIn d.a0 ≠ [] →
      n = (if d.a1 % 2 = 1 ∨ 14 ≤ d.a1 / 16 % 16 then 0 else featherLen (d.a1 / 16 % 16)) →
      at_ = (groupsIn d.a0).foldl (fun a g => max a (u.nextPeriod g)) u.time.now →
      exec (.allstop d) s = .next (pumpUnknown 4 0 (((groupsIn d.a0).foldl (fun (a : State) g =>
        (a.setMg g { a.mg g with stop := true, rel := false, s := { g0 := (a.mg g).s.val (u.run + (u.nextPeriod g - u.time.now) / tu), g1 := 0, from_ := u.run + (u.nextPeriod g - u.time.now) / tu, len := (n * u.ts3 : Nat) / 3 } }).cutProbes g)
        ((u.put Reg.MOD.STOP.RING true).count Reg.MOD.CNT.RINGSTOP)).finish 0 stOk
        (le 6 (at_ / tu / 1000000000) ++ le 4 (at_ / tu % 1000000000) ++ le 1 (if 14 ≤ d.a1 / 16 % 16 then 1 else 0)) []))) ∧
  (∀ (held : Nat) (s : State), s.rd Reg.MOD.STOP.FILT ≤ held →
      exec (.muteNFall held) s = .next ((List.range 16).foldl (fun (a : State) g => (a.cutProbes g).eachCh g fun _ x => x.off)
        (((s.put Reg.MOD.STOP.PIN true).put Reg.MOD.STOP.LATCHED true).count Reg.MOD.CNT.PINSTOP))) ∧
  (∀ s : State, s.on Reg.MOD.STOP.PIN = true → exec .muteNRise s = .next { s.put Reg.MOD.STOP.PIN false with muteRise := s.run }) ∧
  (∀ (d : Desc) (s u : State), s.Admits 0x51 roleO d → u = s.opened 0x51 d → u.on Reg.MOD.STOP.PIN = false →
      exec (.allstopRelease d) s = .next (u.endStops.completes d stOk [] [])) ∧
  (∀ s : State, s.on Reg.MOD.STOP.LATCH = false → s.on Reg.MOD.STOP.PIN = false → s.on Reg.MOD.STOP.LATCHED = true →
      s.muteRise + 10000000 ≤ s.run →
      exec .pinAllstopEnd s = .next (((List.range 16).filter fun g => !(s.mg g).stop).foldl State.leaveStop (s.put Reg.MOD.STOP.LATCHED false)))

/-- What the sentinel commands, their effects, faults, restarts and pilot windows do. Concludes that exec answers a next
state, under conditions on the state and the operands alone, for: sentSet, sentSetEffect, sentStat, zCapture,
zCaptureTimeout, sentRestart, sentinelFeedMiss, sentinelFault, sentinelRestartDone, sentinelRestartTimeout,
pilotWindowEnd. -/
def Obligations.SentinelRowsTakeEffect : Prop :=
  (∀ (d : Desc) (s u : State), s.Admits 0x54 roleE d → u = s.opened 0x54 d → d.a0 < 128 → d.buf.length = 64 →
      recordBad d.buf (u.on Reg.TICK.CFG.PLAN && u.rd Reg.TICK.CFG.RATE == 0) = none → u.on Reg.TILCA.CTRL.LOCK = false →
      exec (.sentSet d) s = .next ((u.setTc d.a0 { u.tc d.a0 with next := ((u.tc d.a0).next.filter fun e => e.2 != u.stepTick d) ++ [(d.buf, u.stepTick d)] }).completes d stOk (le 8 (u.stepTick d)) [])) ∧
  (∀ (n t : Nat) (b : List Byte) (r : List (List Byte × Nat)) (s : State) (y : TilCh), (s.tc n).next = (b, t) :: r → y = { s.tc n with record := b, next := r } →
      exec (.sentSetEffect n) s = .next ((s.reach (s.tAt t)).setTc n (if ((s.tc n).cls == 0) != (y.cls == 0) then { y with m := {} } else y))) ∧
  (∀ (d : Desc) (s u : State) (x : TilCh), s.Admits 0x55 roleM d → u = s.opened 0x55 d → d.a0 < 128 →
      mapGet u.tilCh d.a0 = some x → x.pub.length ≤ d.rlen →
      exec (.sentStat d) s = .next (u.completes d stOk [] x.pub)) ∧
  (∀ (d : Desc) (s u : State), s.Admits 0x56 roleE d → u = s.opened 0x56 d → d.a0 < 128 → u.pilotSet d.a0 = true →
      exec (.zCapture d) s = .next ((u.setTc d.a0 { u.tc d.a0 with capt := some [] }).goesOn d)) ∧
  (∀ (n r : Nat) (s : State), s.ringOf 0x56 (fun d => d.a0 == n) = some r → s.ranFor r 30000000000 = true →
      exec (.zCaptureTimeout n) s = .next ((s.setTc n { s.tc n with capt := none }).finish r stDeferred [] [])) ∧
  (∀ (d : Desc) (s u : State), s.Admits 0x57 roleE d → u = s.opened 0x57 d → d.a0 < 16 → u.rd (Reg.TILCA.G.GSTAT.STATE d.a0) = 2 →
      exec (.sentRestart d) s = .next (State.completes ((((u.setTg d.a0 { u.tg d.a0 with asked := true, restartAt := u.run }).wr (Reg.TILCA.G.GSTAT.STATE d.a0) 1).count
        (Reg.TILCA.G.GCNT.RESTART d.a0)).showTil d.a0) d stOk [] [])) ∧
  (∀ (g : Nat) (s : State), g < 16 → s.tilChans g = [] →
      exec (.sentinelFeedMiss g) s = .next ((s.setTg g { s.tg g with misses := (s.tg g).misses + 1, missed := true }).count (Reg.TILCA.G.GCNT.MISS g))) ∧
  (∀ (g cause : Nat) (s : State) (l : List Nat), g < 16 → s.rd (Reg.TILCA.G.GSTAT.STATE g) = 0 → cause ≠ 0 →
      l = ((s.tg g).faults.filter fun t => decide (s.run < t + 600000000000)) ++ [s.run] → l.length < 3 →
      exec (.sentinelFault g cause) s = .next (((((s.setTg g { s.tg g with faults := l, misses := 0, asked := false, restartAt := s.run }).logSent g cause).wr
        (Reg.TILCA.G.GSTAT.STATE g) 1).count (Reg.TILCA.G.GCNT.RESTART g)).showTil g)) ∧
  (∀ (g : Nat) (s u : State), g < 16 → s.rd (Reg.TILCA.G.GSTAT.STATE g) = 1 → (s.tg g).mirror = none → (s.tg g).asked = false →
      u = (s.wr (Reg.TILCA.G.GSTAT.STATE g) 0).logSent g 3 →
      exec (.sentinelRestartDone g) s = .next ((u.setTg g { u.tg g with asked := false }).showTil g)) ∧
  (∀ (g : Nat) (s : State), g < 16 → s.rd (Reg.TILCA.G.GSTAT.STATE g) = 1 → (s.tg g).restartAt + 50000000 ≤ s.run →
      exec (.sentinelRestartTimeout g) s = .next (s.sentDown g)) ∧
  (∀ (w : PilotWindow) (s : State), w.ch < 128 → s.pilotSet w.ch = true → s.vMeets w = false → (s.tc w.ch).winSec < s.ns / 1000000000 →
      (s.tc w.ch).alarms = [false, false, false, false] →
      ∃ t, exec (.pilotWindowEnd w) s = .next t ∧ (t.tc w.ch).zmag = (s.tc w.ch).zmag ∧ (t.tc w.ch).zph = (s.tc w.ch).zph ∧
        (t.tc w.ch).alarms = [false, false, false, false] ∧ (t.tc w.ch).met = (s.tc w.ch).met.take 4 ++ List.replicate (4 - (s.tc w.ch).met.length) 0)

/-- What plan loads, unloads, the engine's stop and the power states do. Concludes that exec answers a next state, under
conditions on the state and the operands alone, for: planLoad, planLoadComplete, planUnload, engineStop, standby,
wake. -/
def Obligations.PlanAndPowerStateRowsTakeEffect : Prop :=
  (∀ (d : Desc) (p : PlanImage) (s u v : State), s.on Reg.DRAM.STAT.RETRAIN = false → s.Admits 0x18 roleE d → u = s.opened 0x18 d →
      u.pw = 1 ∨ u.pw = 3 → u.rd Reg.DRAM.STAT.STATE ≠ 3 → u.plan.loading = none → u.eng.stopAt = none → (u.cryptoDown && !p.custom.isEmpty) = false → u.customOk p = true →
      u.imageOk p = true → p.minRate ≤ u.dramRate → v = { u with plan := { u.plan with loading := some p } } →
      exec (.planLoad d p) s = .next ((v.setPw 2).stopPlan.goesOn d)) ∧
  (∀ (e : LoadEnv) (p : PlanImage) (s t : State), s.plan.loading = some p → s.on Reg.TICK.STATUS.RUN = false →
      s.eng.stopAt = none → t = s.loadCode p (fun _ => true) e.upsets → t.codeGood p (fun _ => true) = true →
      exec (.planLoadComplete e) s = .next ((((t.install p [e.rail0, e.rail1]).setPw 3).finishOp 0x18 stOk (le 4 p.crc.toNat)).planStart)) ∧
  (∀ (e : LoadEnv) (p : PlanImage) (s t : State), s.plan.loading = some p → s.on Reg.TICK.STATUS.RUN = false →
      s.eng.stopAt = none → t = s.loadCode p (fun _ => true) e.upsets → t.codeGood p (fun _ => true) = false →
      exec (.planLoadComplete e) s = .next (((({ t with plan := { image := none, loading := none } } : State).noPlan).setPw 1).finishOp 0x18 stRefused)) ∧
  (∀ (d : Desc) (s u : State), s.Admits 0x62 roleE d → u = s.opened 0x62 d → d.a0 = 0 → u.plan.loading = none → u.eng.stopAt = none →
      u.on Reg.TICK.STATUS.RUN = false → u.on Reg.TICK.CFG.PLAN = true →
      exec (.planUnload d) s = .next ((u.stopPlan.setPw 1).completes d stOk [] [])) ∧
  (∀ (d : Desc) (s u : State), s.Admits 0x62 roleE d → u = s.opened 0x62 d → d.a0 = 0 → u.plan.loading = none → u.eng.stopAt = none →
      u.on Reg.TICK.STATUS.RUN = true →
      exec (.planUnload d) s = .next (State.goesOn { u with eng := { u.eng with stopAt := some (u.tickFor 0 2) } } d)) ∧
  (∀ (k : Nat) (s u : State), s.eng.stopAt = some k → s.tAt k ≤ s.ns →
      u = (((({ s with eng := s.eng.keep } : State).put Reg.TICK.STATUS.RUN false).dropShow).noPlan).showHealth → u.plan.loading = none →
      exec .engineStop s = .next ((u.setPw 1).finishOp 0x62 stOk [] [] (fun d => d.a0 == 0))) ∧
  (∀ (d : Desc) (s u : State), s.Admits 0x62 roleE d → u = s.opened 0x62 d → d.a0 = 1 → u.pw = 1 → u.quiesce = true → u.anyStream = false →
      exec (.standby d) s = .next (State.completes (((List.range 4).foldl (fun (a : State) p => doLinkState p false false a) u).setPw 4) d stOk [] [])) ∧
  (∀ (d : Desc) (s u : State), s.Admits 0x62 roleE d → u = s.opened 0x62 d → d.a0 = 2 → u.pw = 4 →
      exec (.wake d) s = .next ((({ u with dram := { u.dram with owed := List.range 8 } } : State).setPw 1).completes d stOk [] []))

/-- What METER, TAP_CAPTURE and OBJ_READ do when admitted. Concludes that exec answers a next state, under conditions on
the state and the operands alone, for: meter, tapCapture, objRead. -/
def Obligations.EngineQueryRowsTakeEffect : Prop :=
  (∀ (d : Desc) (s u : State), s.Admits 0x70 roleM d → u = s.opened 0x70 d → d.a0 < 3 →
      d.a1 < [u.rd Reg.GRAPH.SIZE.INS, u.rd Reg.GRAPH.SIZE.OUTS, 64].getD d.a0 0 → d.flags % 2 = 0 →
      (mapGetD u.meters (objNo d.a0 d.a1) {}).bytes.length ≤ d.rlen →
      exec (.meter d) s = .next (u.completes d stOk [] (mapGetD u.meters (objNo d.a0 d.a1) {}).bytes)) ∧
  (∀ (d : Desc) (s u : State) (m : MeterR), s.Admits 0x70 roleM d → u = s.opened 0x70 d → d.a0 < 3 →
      d.a1 < [u.rd Reg.GRAPH.SIZE.INS, u.rd Reg.GRAPH.SIZE.OUTS, 64].getD d.a0 0 → d.flags % 2 = 1 →
      m = mapGetD u.meters (objNo d.a0 d.a1) {} → m.bytes.length ≤ d.rlen →
      exec (.meter d) s = .next (State.completes { u with meters := mapSet u.meters (objNo d.a0 d.a1) { m with sat := 0 } } d stOk [] m.bytes)) ∧
  (∀ (d : Desc) (s u : State), s.Admits 0x71 roleM d → u = s.opened 0x71 d → d.a0 < 64 → d.a1 ≠ 0 → d.a1 ≤ 65536 → 8 * d.a1 ≤ d.rlen →
      exec (.tapCapture d) s = .next (State.goesOn { u with caps := mapSet u.caps d.ring { tap := d.a0, want := d.a1, start := 0 } } d)) ∧
  (∀ (d : Desc) (s u : State) (b : List Byte), s.Admits 0x72 roleM d → u = s.opened 0x72 d → d.a0 ≠ 0 → d.a0 ≤ 4 →
      u.objExists d.a0 d.a1 = true → d.rlen % 8 = 0 →
      b = ((List.range (d.rlen / 8)).map fun j => le 8 (if u.wordExists d.a0 d.a1 (d.a2 + j) then u.param (keyParam d.a0 d.a1 (d.a2 + j)) else 0)).flatten →
      b.length ≤ d.rlen → exec (.objRead d) s = .next (u.completes d stOk [] b))

/-- What arming, starting, stopping and filling a recording do. Concludes that exec answers a next state, under conditions
on the state and the operands alone, for: recArm, recStart, recordingStart, recStop, recordingStop, recordingGap,
storeFull. -/
def Obligations.RecordingRowsTakeEffect : Prop :=
  (∀ (d : Desc) (s u : State) (n : Nat), s.on Reg.DRAM.STAT.RETRAIN = false → s.on Reg.STORE.STAT.JRN = false → s.Admits 0x80 roleO d →
      u = s.opened 0x80 d → d.a0 < 2 → d.a2 = 0 → d.buf.length % 2 = 0 → d.buf ≠ [] → firstBadIdx (u16s d.buf) (fun c => decide (c < u.cap 2048)) = none →
      (u16s d.buf).length ≤ u.cap 2048 → u.medium = 1 → u.inStandby = false → u.store.rcd = none →
      u.byteRate (u16s d.buf).length d.a0 ≤ u.rd Reg.STORE.PERF.WR * 600000 → n = u.store.nextTake →
      exec (.recArm d) s = .next (State.completes (({ u with store := { u.store with takes := u.store.takes ++ [{ num := n, width := d.a0, chans := u16s d.buf, spt := u.spt }], nextTake := (n + 1) % 2 ^ 32, rcd := some { take := n } } } : State).journal)
        d stOk (le 4 n) [])) ∧
  (∀ (d : Desc) (s u : State) (r : RecS), s.on Reg.STORE.STAT.JRN = false → s.Admits 0x81 roleO d → u = s.opened 0x81 d → d.a2 < 1000000000 →
      u.store.rcd = some r → r.start = none →
      exec (.recStart d) s = .next (State.completes { u with store := { u.store with rcd := some { r with start := some (u.boundaryOf d 2) } } }
        d stOk (le 8 (u.boundaryOf d 2)) [])) ∧
  (∀ (k : Nat) (r : RecS) (s : State), s.store.rcd = some r → r.start = some k → k ≤ s.tick →
      exec .recordingStart s = .next (({ s with store := { s.store with rcd := some { r with running := true, at_ := s.run } } } : State).showStore)) ∧
  (∀ (d : Desc) (s u : State) (r : RecS), s.on Reg.STORE.STAT.JRN = false → s.Admits 0x82 roleO d → u = s.opened 0x82 d → d.a2 < 1000000000 →
      u.store.rcd = some r →
      exec (.recStop d) s = .next (State.completes { u with store := { u.store with rcd := some { r with stop := some (u.boundaryOf d 2) } } }
        d stOk (le 8 (u.boundaryOf d 2 - 3)) [])) ∧
  (∀ (k : Nat) (r : RecS) (s : State), s.store.rcd = some r → r.stop = some k → k ≤ s.tick →
      exec .recordingStop s = .next ((({ s with store := { s.store with rcd := none } } : State).journal).showStore)) ∧
  (∀ (r : RecS) (t : Take) (b : TakeBlk) (s : State), s.store.rcd = some r → s.store.takes = [t] → t.num = r.take → t.blocks = [b] →
      exec .recordingGap s = .next (s.setTakes [{ t with blocks := [{ b with gap := b.gap ||| 2 ^ (b.frames.length - 1), frames := b.frames.dropLast ++ [(b.frames.getLast?.getD []).map (fun c => c.map (fun _ => (0 : Int)))] }] }])) ∧
  (∀ (r : RecS) (s : State), s.store.rcd = some r → ((s.take r.take).any fun t => s.frameFits t) = false →
      exec .storeFull s = .next ((((({ s with store := { s.store with rcd := none } } : State).journal).showStore).log 0x0709
        (le 4 r.take ++ le 8 (((s.take r.take).map Take.lastFrame).getD 0)))))

/-- What playback sessions and the take list do. Concludes that exec answers a next state, under conditions on the state
and the operands alone, for: playOpen, playStart, playbackStart, playStop, playbackLeadExhausted, takeList,
takeDelete. -/
def Obligations.PlaybackRowsTakeEffect : Prop :=
  (∀ (d : Desc) (s u : State) (t : Take), s.on Reg.DRAM.STAT.RETRAIN = false → s.on Reg.STORE.STAT.JRN = false → s.Admits 0x83 roleO d →
      u = s.opened 0x83 d → u.take d.a0 = some t → d.a1 < 8 → d.buf.length = 2 * t.chans.length →
      firstBadIdx (u16s d.buf) (fun c => c == 65535 || decide (c < u.cap 2048)) = none → u.medium = 1 → u.inStandby = false →
      u.store.plays = [] → (t.enc = none ∨ u.rd Reg.SEC.STATUS.CRYPTO ≠ 2) → u.playKeyOk t = true →
      u.byteRate ((u16s d.buf).filter (fun c => c != 65535)).length t.width ≤ u.rd Reg.STORE.PERF.RD * 600000 →
      exec (.playOpen d) s = .next ((({ u with store := { u.store with plays := [(d.a1, { take := d.a0, map := u16s d.buf })] } } : State).showStore).completes d stOk [] [])) ∧
  (∀ (d : Desc) (s u : State) (x : PlayS), s.on Reg.STORE.STAT.JRN = false → s.Admits 0x84 roleO d → u = s.opened 0x84 d → d.a1 < 8 →
      d.a2 < 1000000000 → mapGet u.store.plays d.a1 = some x →
      exec (.playStart d) s = .next (State.completes { u with store := { u.store with plays := mapSet u.store.plays d.a1 { x with start := some (u.boundaryOf d 2), p0 := d.a3, running := false } } }
        d stOk (le 8 (u.boundaryOf d 2)) [])) ∧
  (∀ (n k : Nat) (x : PlayS) (s : State), mapGet s.store.plays n = some x → x.start = some k → k ≤ s.tick →
      exec (.playbackStart n) s = .next { s with store := { s.store with plays := mapSet s.store.plays n { x with running := true } } }) ∧
  (∀ (d : Desc) (s u : State) (x : PlayS), s.on Reg.STORE.STAT.JRN = false → s.Admits 0x85 roleO d → u = s.opened 0x85 d → d.a1 < 8 →
      d.a2 < 1000000000 → mapGet u.store.plays d.a1 = some x →
      exec (.playStop d) s = .next (State.completes { u with store := { u.store with plays := mapSet u.store.plays d.a1 { x with stop := some (u.boundaryOf d 0) } } } d stOk [] [])) ∧
  (∀ (n c k : Nat) (cite : Option Nat) (x : PlayS) (s : State), mapGet s.store.plays n = some x → x.start = some k → k ≤ s.tick →
      exec (.playbackLeadExhausted n c cite) s = .next (({ s with store := { s.store with plays := mapSet s.store.plays n { x with missing := x.missing ++ [(x.p0 + (s.tick - k) * s.spt, c)] } } } : State).siltWrite
        0x0705 (le 1 n ++ le 4 c) (s.citesBad cite))) ∧
  (∀ (d : Desc) (s u : State), s.on Reg.STORE.STAT.JRN = false → s.Admits 0x86 roleO d → u = s.opened 0x86 d → u.store.takes = [] →
      exec (.takeList d) s = .next (u.completes d stOk (le 4 0) [])) ∧
  (∀ (d : Desc) (s u : State) (t : Take), s.on Reg.STORE.STAT.JRN = false → s.Admits 0x87 roleO d → u = s.opened 0x87 d → u.take d.a0 = some t →
      u.medium = 1 → u.store.rcd = none → u.store.plays = [] →
      exec (.takeDelete d) s = .next (((((u.setTakes (u.store.takes.filter (fun t => t.num != d.a0))).eraseAll t.nand).journal).showStore).completes d stOk [] []))

/-- What formatting, file pieces, reads, deletes, lists and the pending timeout do. Concludes that exec answers a next
state, under conditions on the state and the operands alone, for: storeFormat, fileWrite, fwStage, fileRead,
fileDelete, fileList, pendingVersionTimeout. -/
def Obligations.FileRowsTakeEffect : Prop :=
  (∀ (d : Desc) (good mib : Nat) (bad : List Nat) (s u : State), s.on Reg.STORE.STAT.JRN = false → s.Admits 0x88 roleE d → u = s.opened 0x88 d →
      u.medium = 1 ∨ u.medium = 3 → u.storeRuns = false → u.store.install = none →
      exec (.storeFormat d good bad mib) s = .next (State.completes (((((((({ u with store := { u.store with formatted := true, good := good, total := good + bad.length, bad := bad, blocks := [], spare := good * 2 / 100, journal := 0, files := [], pend := [], takes := [], rcd := none, plays := [], mib := mib, grown := 0 } } : State).wr
        Reg.STORE.STAT.STATE 1).wrSat Reg.STORE.CAP.MIB mib).wr Reg.STORE.BLK.GROWN 0).showSpare).showWear).showStore)) d stOk (le 8 (min mib (2 ^ 22 - 1))) [])) ∧
  (∀ (d : Desc) (s u : State) (r : List Nat × State), s.on Reg.STORE.STAT.JRN = false → s.Admits 0x89 roleE d → u = s.opened 0x89 d →
      32 ≤ d.buf.length → d.a0 = 0 → d.a2 = 0 → u.store.pend = [] → (u.setPend []).fileBar (fileName d.buf) (d.buf.drop 32).length = none →
      r = ((u.setPend []).eraseAll []).holdBytes [] (d.buf.drop 32).length →
      exec (.fileWrite d) s = .next (((r.2.setPend [{ name := fileName d.buf, data := d.buf.drop 32, last := u.run, blocks := r.1 }]).showStore).completes d stOk
        (le 4 (d.buf.drop 32).length) [])) ∧
  (∀ (d : Desc) (s u : State), s.on Reg.STORE.STAT.JRN = false → s.Admits 0x98 roleX d → u = s.opened 0x98 d → 32 ≤ d.buf.length → d.a0 = 0 → d.a2 = 1 →
      u.store.pend = [] → (u.setPend []).fileBar (fileName d.buf) (d.buf.drop 32).length = none →
      exec (.fwStage d) s = .next ((((u.setPend []).eraseAll []).putFile (fileName d.buf) (d.buf.drop 32)).completes d stOk (le 4 (d.buf.drop 32).length) [])) ∧
  (∀ (d : Desc) (s u : State) (f : FileRec) (b : List Byte), s.on Reg.STORE.STAT.JRN = false → s.Admits 0x8A roleE d → u = s.opened 0x8A d →
      d.buf.length = 32 → u.file d.buf = some f → f.corrupt = [] → b = (f.data.drop d.a0).take d.rlen →
      exec (.fileRead d) s = .next ((u.readPages f.blocks d.a0 b.length).completes d stOk (le 4 b.length) b)) ∧
  (∀ (d : Desc) (s u : State) (f : FileRec), s.on Reg.STORE.STAT.JRN = false → s.Admits 0x8B roleE d → u = s.opened 0x8B d → d.buf.length = 32 →
      u.medium = 1 → u.file d.buf = some f →
      exec (.fileDelete d) s = .next (((((u.setFiles (otherFiles u.store.files d.buf)).eraseAll f.blocks).journal).showStore).completes d stOk [] [])) ∧
  (∀ (d : Desc) (s u : State), s.on Reg.STORE.STAT.JRN = false → s.Admits 0x8C roleE d → u = s.opened 0x8C d → u.store.files = [] →
      exec (.fileList d) s = .next (u.completes d stOk (le 4 0) [])) ∧
  (∀ (n : List Byte) (s : State), exec (.pendingVersionTimeout n) s = .next (((s.setPend (s.store.pend.filter (fun f => f.name != n || decide (s.run < f.last + 600000000000)))).eraseAll
        ((s.store.pend.filter (fun f => !(f.name != n || decide (s.run < f.last + 600000000000)))).flatMap fun f => f.blocks)).showStore))

/-- What LOG_READ, LOG_EXPORT and the firmware commands do. Concludes that exec answers a next state, under conditions on
the state and the operands alone, for: logRead, logExport, fwInstall, fwInstallComplete, fwStatus. -/
def Obligations.FirmwareAndLogRowsTakeEffect : Prop :=
  (∀ (d : Desc) (s u : State) (es : List SiltEntry), s.Admits 0x90 roleM d → u = s.opened 0x90 d → es = (u.siltFrom d.a0).take (d.rlen / 32) →
      exec (.logRead d) s = .next (u.completes d stOk (le 4 es.length) (es.map SiltEntry.bytes).flatten)) ∧
  (∀ (d : Desc) (s u : State) (es : List SiltEntry) (n : Nat), s.on Reg.STORE.STAT.JRN = false → s.Admits 0x91 roleM d → u = s.opened 0x91 d → d.a2 = 0 →
      u.rd Reg.SEC.STATUS.CRYPTO ≠ 2 → es = (if d.a1 = 0 then u.siltFrom d.a0 else (u.siltFrom d.a0).take d.a1) →
      n = (es.head?.map (fun e => e.seq)).getD d.a0 → (u.siltExport es n).length ≤ d.rlen →
      exec (.logExport d) s = .next ((u.siltWrite 0x070A (le 4 n ++ le 4 es.length)).completes d stOk (le 4 es.length) (u.siltExport es n))) ∧
  (∀ (d : Desc) (s u v w : State) (f : FileRec) (i r : Nat), s.on Reg.STORE.STAT.JRN = false → s.Admits 0x99 roleX d → u = s.opened 0x99 d → d.buf.length = 32 →
      u.store.install = none → u.file d.buf = some f → u.rd Reg.SEC.STATUS.CRYPTO ≠ 2 → f.corrupt = [] → f.data.length ≤ 33550336 → u.imageCheck f.data = none →
      i = 1 - u.rd Reg.STORE.BOOT.BOOTED → v = u.setBootSlot i {} → (r, w) = v.fresh →
      exec (.fwInstall d) s = .next (State.goesOn ((({ w with store := { w.store with install := some (i, f.data) } } : State).put
        Reg.STORE.BOOT.INSTALL true).wr Reg.STORE.BOOT.PROGRESS (min r 100)) d)) ∧
  (∀ (i : Nat) (image : List Byte) (s u : State), s.store.install = some (i, image) →
      u = (({ s with store := { s.store with install := none } } : State).put Reg.STORE.BOOT.INSTALL false).wr Reg.STORE.BOOT.PROGRESS 0 →
      exec (.fwInstallComplete true) s = .next (((u.setBootSlot i { image := image, record := installRecord s.nextSeq image }).siltWrite 0x0707
        (le 1 i ++ le 4 s.nextSeq)).finishOp 0x99 stOk (le 4 s.nextSeq))) ∧
  (∀ (d : Desc) (s u : State), s.Admits 0x9A roleX d → u = s.opened 0x9A d → 128 ≤ d.rlen →
      exec (.fwStatus d) s = .next (u.completes d stOk (le 1 (u.rd Reg.STORE.BOOT.BOOTED)) (padTo 64 u.store.slotA.record ++ padTo 64 u.store.slotB.record)))

/-- What codeword timeouts, program failures, refreshes, wear moves, scrubs, checkpoints and the mount do. Concludes that
exec answers a next state, under conditions on the state and the operands alone, for: codewordTimeout, programFailure,
blockRefresh, wearMove, nandScrub, journalCheckpoint, storeMount. -/
def Obligations.MediumRowsTakeEffect : Prop :=
  (∀ (ch ce b p k : Nat) (n : List Byte) (s u : State), u = (s.count Reg.STORE.ECCCNT.UNCORR).siltWrite 0x0704 (le 1 ch ++ le 1 ce ++ le 4 b ++ le 4 p) →
      exec (.codewordTimeout ch ce b p (.file n k)) s = .next (u.setFiles (s.store.files.map (fun f => if f.name = n && !f.corrupt.contains k then { f with corrupt := f.corrupt ++ [k] } else f)))) ∧
  (∀ (ch ce b p num first count : Nat) (ps : List Nat) (s u : State), u = (s.count Reg.STORE.ECCCNT.UNCORR).siltWrite 0x0704 (le 1 ch ++ le 1 ce ++ le 4 b ++ le 4 p) →
      exec (.codewordTimeout ch ce b p (.take num ps first count)) s = .next (u.modTake num fun t => { t with bad := t.bad ++ [(ps, first, count)] })) ∧
  (∀ (ch ce b : Nat) (s u : State), b ∉ s.store.bad → (s.blk b).used = false →
      u = { s with store := { s.store with bad := s.store.bad ++ [b], blocks := mapErase s.store.blocks b, spare := s.store.spare - 1, grown := s.store.grown + 1 } } →
      exec (.programFailure ch ce b) s = .next (((((u.wrSat Reg.STORE.BLK.GROWN (s.store.grown + 1)).siltWrite 0x0703 (le 1 ch ++ le 1 ce ++ le 4 b)).journal).showSpare).showWear)) ∧
  (∀ (ch ce b f : Nat) (s u v : State), b ∉ s.store.bad → (s.blk b).used = true →
      u = { s with store := { s.store with bad := s.store.bad ++ [b], blocks := mapErase s.store.blocks b, spare := s.store.spare - 1, grown := s.store.grown + 1 } } →
      u.freeBlk false = some f → v = (u.useBlk f).rehome b f →
      exec (.programFailure ch ce b) s = .next (((((v.wrSat Reg.STORE.BLK.GROWN v.store.grown).siltWrite 0x0703 (le 1 ch ++ le 1 ce ++ le 4 b)).journal).showSpare).showWear)) ∧
  (∀ (b : Nat) (s : State), s.refreshDue (s.blk b) = true → s.nandServes .refresh = true → exec (.blockRefresh b) s = .next (s.moveBlk b false)) ∧
  (∀ (a b : Nat) (x y : NandBlk) (s : State), s.store.blocks = [(a, x), (b, y)] → x.used = true → y.used = true → x.erases ≤ y.erases →
      s.rd Reg.STORE.NCFG.WDIFF < y.erases - x.erases → s.nandServes .wear = true → exec .wearMove s = .next (s.moveBlk a true)) ∧
  (∀ (b c : Nat) (s : State), s.scrubDue (s.blk b) = true → s.nandServes .scrub = true →
      exec (.nandScrub b c 2) s = .next ((s.setBlk b { s.blk b with reads := (s.blk b).reads + s.blockBytes / 16384, refresh := true, seen := s.run }).count
        Reg.STORE.ECCCNT.SOFT)) ∧
  (∀ s : State, exec .journalCheckpoint s = .next { s with store := { s.store with journal := 0 } }) ∧
  (∀ (n wr rd r : Nat) (s : State), s.on Reg.STORE.STAT.JRN = true → n ≠ 0 → s.store.formatted = true → s.store.cut = none →
      exec (.storeMount n wr rd r) s = .next ((((((((((((s.put Reg.STORE.STAT.JRN false).wr Reg.STORE.STAT.STATE 1).wrSat Reg.STORE.STAT.TARGETS (min n 16)).wrSat Reg.STORE.PERF.WR wr).wrSat
        Reg.STORE.PERF.RD rd).siltWrite 0x0701 (le 4 s.store.journal ++ le 1 r)).wrSat Reg.STORE.CAP.MIB s.store.mib).wrSat Reg.STORE.BLK.GROWN s.store.grown).showSpare).showWear).showStore)))

/-- What REG_WRITE and the writes of the route window do. Concludes that exec answers a next state, under conditions on
the state and the operands alone, for: regWrite, routeWindowLowWrite, routeWindowHighWrite. -/
def Obligations.RegisterPathRowsTakeEffect : Prop :=
  (∀ (d : Desc) (fs : List RField) (s u : State), s.Admits 0x11 roleE d → u = s.opened 0x11 d → u.Writes .ring d.a0 fs →
      exec (.regWrite d) s = .next ((u.writeMapped .ring d.a0 fs (u.maskedWord d.a0 (BitVec.ofNat 32 d.a1) (BitVec.ofNat 32 d.a2))).completes d stOk [] [])) ∧
  (∀ (q : Requester) (i : Nat) (v : Word) (s : State), i < 8192 → q ≠ .pcie ∨ s.host.lockHard = false →
      (s.os = osOpen ∨ s.os = osPrepared ∨ s.noCollect = false →
        exec (.routeWindowLowWrite q i v) s = .next { s with txn := { s.txn with low := some (i, v.toNat) } }) ∧
      (s.os ≠ osOpen → s.os ≠ osPrepared → s.noCollect = true →
        exec (.routeWindowLowWrite q i v) s = .next (s.count Reg.TXN.IMPL.IGN))) ∧
  (∀ (q : Requester) (i n : Nat) (wide : Bool) (low v : Word) (s u : State), i < 8192 → q ≠ .pcie ∨ s.host.lockHard = false →
      n = (if wide = true then low.toNat else if s.txn.low.map (fun x => x.1) = some i then (s.txn.low.map (fun x => x.2)).getD 0
        else s.route i % 2 ^ 32) + v.toNat * 2 ^ 32 →
      u = { s with txn := { s.txn with low := none } } →
      (s.os = osOpen ∨ s.os = osPrepared → (s.partOf i).isSome = true →
        exec (.routeWindowHighWrite q i wide low v) s = .next ((u.setItems (putItem s.txn.items (keyRoute i) n)).wr Reg.TXN.STATUS.OSTATE osOpen)) ∧
      (s.os ≠ osOpen → s.os ≠ osPrepared → s.noCollect = false → (s.partOf i).isSome = true →
        exec (.routeWindowHighWrite q i wide low v) s = .next ((u.setItems (putItem s.txn.items (keyRoute i) n)).wr Reg.TXN.STATUS.OSTATE osCollecting)) ∧
      (s.os = osOpen ∨ s.os = osPrepared ∨ s.noCollect = false → s.partOf i = none →
        exec (.routeWindowHighWrite q i wide low v) s = .next u) ∧
      (s.os ≠ osOpen → s.os ≠ osPrepared → s.noCollect = true →
        exec (.routeWindowHighWrite q i wide low v) s = .next ((if wide = true then s else u).count Reg.TXN.IMPL.IGN))) ∧
  (∀ (q : Requester) (i : Nat) (wide : Bool) (low v : Word) (s : State), q = .pcie ∧ s.host.lockHard = true ∨ 8192 ≤ i →
      exec (.routeWindowLowWrite q i v) s = .next (s.violate q) ∧ exec (.routeWindowHighWrite q i wide low v) s = .next (s.violate q))

/-- What the key commands, SVN_COMMIT and TOKEN_GEN do. Concludes that exec answers a next state, under conditions on the
state and the operands alone, for: keyImport, keyDelete, keyGen, keyActivate, keyList, svnCommit, tokenGen. -/
def Obligations.KeyRowsTakeEffect : Prop :=
  (∀ (d : Desc) (s u : State), s.Admits 0xA0 roleX d → u = s.opened 0xA0 d → d.a0 = 1 ∨ d.a0 = 2 → keySlotOk d.a0 d.a1 = true →
      d.a2 = 0 → d.a3 < 256 → u.cryptoDown = false → u.tamperBar = false → d.a0 = 2 ∨ d.session ≠ 0 ∨ u.keyAt 1 0 0 = none → d.buf.length = 97 →
      exec (.keyImport d) s = .next ((u.putKey { cls := d.a0, slot := d.a1, pos := 0, id := d.a3, key := d.buf }).completes d stOk [] [])) ∧
  (∀ (d : Desc) (key : List Byte) (x : Running) (s u : State), s.Admits 0xA0 roleX d → u = s.opened 0xA0 d → d.a0 = 3 ∨ d.a0 = 4 → keySlotOk d.a0 d.a1 = true →
      d.a2 < 2 → d.a3 < 256 → u.cryptoDown = false → u.tamperBar = false → d.session ≠ 0 → (u.ring d.ring).run = some x →
      Config.gcmOpen x.key d.ring d.seq d.buf = some key → key.length = 32 →
      exec (.keyImport d) s = .next ((u.putKey { cls := d.a0, slot := d.a1, pos := d.a2, id := d.a3, key := key }).completes d stOk [] [])) ∧
  (∀ (d : Desc) (s u : State) (k : KeyRec), s.Admits 0xA1 roleX d → u = s.opened 0xA1 d → 1 ≤ d.a0 → d.a0 ≤ 5 → keySlotOk d.a0 d.a1 = true → d.a2 < 2 →
      u.keyAt d.a0 d.a1 d.a2 = some k → u.keyBusy k = false →
      exec (.keyDelete d) s = .next ((({ u with sec := { u.sec with keys := u.sec.keys.filter (fun x => x != k) } } : State).siltWrite 0x0803
        (le 1 k.cls ++ le 1 k.slot ++ le 1 k.id)).completes d stOk [] [])) ∧
  (∀ (d : Desc) (key : List Byte) (s u : State), s.Admits 0xA2 roleX d → u = s.opened 0xA2 d → d.a1 < 16 → u.cryptoDown = false → u.tamperBar = false →
      key = padTo 64 (Config.drbgKey d.a1 u.fresh.1) →
      exec (.keyGen d) s = .next ((u.fresh.2.putKey { cls := 5, slot := d.a1, pos := 0, id := 0, key := key }).completes d stOk (le 4 (keyCheck key 0)) [])) ∧
  (∀ (d : Desc) (s u : State) (k : KeyRec), s.Admits 0xA3 roleX d → u = s.opened 0xA3 d → d.a1 < 64 → u.keyById 4 d.a1 d.a3 = some k →
      exec (.keyActivate d) s = .next (State.completes { u with sec := { u.sec with active := mapSet u.sec.active d.a1 d.a3 } } d stOk [] [])) ∧
  (∀ (d : Desc) (l : List Byte) (s u : State), s.Admits 0xA4 roleX d → u = s.opened 0xA4 d →
      l = (u.sec.keys.map (fun k => Config.listEntry [k.cls, k.slot, k.pos, k.id])).flatten → l.length ≤ d.rlen →
      exec (.keyList d) s = .next (u.completes d stOk (le 4 u.sec.keys.length) l)) ∧
  (∀ (d : Desc) (f : Fld) (top : Nat) (s u : State), s.Admits 0xA5 roleX d → u = s.opened 0xA5 d → d.a0 < 3 → u.svnOf d.a0 = (f, top) →
      u.rd f < d.a1 → d.a1 ≤ top →
      exec (.svnCommit d) s = .next ((((u.wr f d.a1).siltWrite 0x0802 (le 1 d.a0 ++ le 4 (u.rd f) ++ le 4 d.a1)).showEval u).completes d stOk [] [])) ∧
  (∀ (d : Desc) (s u : State), s.Admits 0xA6 roleX d → u = s.opened 0xA6 d → u.rd Reg.SEC.TOKGEN.GEN < d.a0 →
      exec (.tokenGen d) s = .next (((u.wr Reg.SEC.TOKGEN.GEN d.a0).endSessions (fun x => decide (x.gen < d.a0))).completes d stOk [] []))

/-- What scene files, the device certificate, tamper, zeroisation and debug commands do. Concludes that exec answers a
next state, under conditions on the state and the operands alone, for: sceneImport, sceneExport, devidCert,
tamperClear, zeroise, debugChallenge, debugUnlock, tamperTrip. -/
def Obligations.SceneFileAndTamperRowsTakeEffect : Prop :=
  (∀ (d : Desc) (f : FileRec) (r : List Byte) (items all : Tbl Nat) (s u : State), s.on Reg.STORE.STAT.JRN = false → s.Admits 0x8D roleE d → u = s.opened 0x8D d →
      d.buf.length = 32 → u.cryptoDown = false → u.file d.buf = some f → f.corrupt = [] → sceneHeadOk f.data = true → u.sceneSigOk f.data = true →
      rdLe f.data 12 8 = 0 ∨ rdLe f.data 12 8 = u.devSn → d.a1 < rdLe f.data 10 2 → u.names d = 1 →
      (splitRecs 256 ((f.data.drop 64).take (rdLe f.data 28 4)))[d.a1]? = some r → rdLe r 4 4 = u.planCrc →
      rdLe r (recLen (rdLe r 8 4) - 4) 4 = (crc32c (r.take (recLen (rdLe r 8 4) - 4))).toNat → recItems r = some items →
      (items.all fun e => keyKind e.1 != 2 || (u.partOf (keyIdx e.1)).isSome) = true → all = items.foldl (fun t e => putItem t e.1 e.2) u.txn.items →
      u.on Reg.TXN.STATUS.FULL = false → itemCount all ≤ itemLimit →
      exec (.sceneImport d) s = .next (((u.setItems all).wr Reg.TXN.STATUS.OSTATE osOpen).completes d stOk (le 4 items.length) [])) ∧
  (∀ (d : Desc) (r : SceneRec) (s u : State), s.on Reg.STORE.STAT.JRN = false → s.Admits 0x8E roleE d → u = s.opened 0x8E d → d.buf.length = 32 →
      u.cryptoDown = false → d.a0 = 0 → d.a1 < 256 → mapGet u.txn.scenes d.a1 = some r → u.fileBar d.buf (sceneFile r).length = none →
      exec (.sceneExport d) s = .next ((u.putFile d.buf (sceneFile r)).completes d stOk (le 4 (sceneFile r).length) [])) ∧
  (∀ (d : Desc) (c : List Byte) (s u : State), s.Admits 0xA7 roleX d → u = s.opened 0xA7 d → c = Config.deviceCert.take 1024 → c.length ≤ d.rlen →
      exec (.devidCert d) s = .next (u.completes d stOk (le 2 c.length) c)) ∧
  (∀ (d : Desc) (levels : Nat) (s u : State), s.Admits 0xA8 roleX d → u = s.opened 0xA8 d →
      (∀ i, i < 4 → u.on (tampFld i 0 1) = true → (if levels.testBit i then 1 else 0) ≠ u.rd (tampFld i 1 1)) →
      exec (.tamperClear d levels) s = .next (((u.wr Reg.BKUP.TAMPSTAT.LEVEL (levels % 16)).wr Reg.BKUP.TAMPSTAT.LATCH 0).completes d stOk [] [])) ∧
  (∀ (d : Desc) (s u : State), s.Admits 0xA9 roleX d → u = s.opened 0xA9 d →
      exec (.zeroise d) s = .next (((u.eraseKeys 2).endSessions (fun _ => true)).completes d stOk [] [])) ∧
  (∀ (d : Desc) (c : List Byte) (s u : State), s.Admits 0xAA roleX d → u = s.opened 0xAA d → u.cryptoDown = false → 48 ≤ d.rlen →
      c = le 8 u.devSn ++ le 32 u.fresh.1 ++ le 4 (u.rd Reg.HOST.SCTR_LO.CTR) ++ le 4 (u.rd Reg.HOST.SCTR_HI.CTR) →
      exec (.debugChallenge d) s = .next (State.completes { u.fresh.2 with sec := { u.sec with challenge := some c } } d stOk [] c)) ∧
  (∀ (d : Desc) (c : List Byte) (s u v : State), s.Admits 0xAB roleX d → u = s.opened 0xAB d → d.buf.length = 96 → u.on Reg.TICK.CFG.PLAN = false →
      u.cryptoDown = false → u.sec.challenge = some c →
      Config.ecdsaVerify Config.debugKey (Config.sha384 c) d.buf = true →
      v = ((u.eraseKeys 2).eraseScenes).siltWrite 0x0806 ((c.drop 8).take 8) →
      exec (.debugUnlock d) s = .next (((({ v with sec := { v.sec with challenge := none } } : State).put Reg.SEC.STATUS.DEBUG true).showEval u).completes d stOk [] [])) ∧
  (∀ (i : Nat) (s u : State), i < 4 → s.on (tampFld i 0 1) = true → s.on Reg.BKUP.STATUS.ONVBAT = false → s.rd (tampFld i 2 1) = 1 →
      u = (s.wr Reg.BKUP.TAMPSTAT.LATCH (s.rd Reg.BKUP.TAMPSTAT.LATCH ||| 2 ^ i)).wr ⟨Reg.BKUP.TAMPSTAT.LEVEL.off, 4 + i, 1⟩ (s.rd (tampFld i 1 1)) →
      exec (.tamperTrip i) s = .next ((((u.eraseKeys 1).endSessions (fun _ => true)).count Reg.SEC.CNT.TAMPER).siltWrite 0x0804 (le 1 i ++ le 1 1))) ∧
  (∀ (i : Nat) (s u : State), i < 4 → s.on (tampFld i 0 1) = true → s.on Reg.BKUP.STATUS.ONVBAT = false → s.rd (tampFld i 2 1) = 0 →
      u = (s.wr Reg.BKUP.TAMPSTAT.LATCH (s.rd Reg.BKUP.TAMPSTAT.LATCH ||| 2 ^ i)).wr ⟨Reg.BKUP.TAMPSTAT.LEVEL.off, 4 + i, 1⟩ (s.rd (tampFld i 1 1)) →
      exec (.tamperTrip i) s = .next ((u.count Reg.SEC.CNT.TAMPER).siltWrite 0x0804 (le 1 i ++ le 1 0))) ∧
  (∀ (i : Nat) (s u v : State), i < 4 → s.on (tampFld i 0 1) = true → s.on Reg.BKUP.STATUS.ONVBAT = true →
      u = (s.wr Reg.BKUP.TAMPSTAT.LATCH (s.rd Reg.BKUP.TAMPSTAT.LATCH ||| 2 ^ i)).wr ⟨Reg.BKUP.TAMPSTAT.LEVEL.off, 4 + i, 1⟩ (s.rd (tampFld i 1 1)) →
      v = (if s.rd (tampFld i 2 1) = 1 then u.eraseKeys 1 else u) →
      exec (.tamperTrip i) s = .next { v with sec := { v.sec with trips := v.sec.trips ++ [(i, s.rd (tampFld i 2 1))] } })

/-- What requests, grants, responses, timeouts and resets of the bus matrix do. Concludes that exec answers a next state,
under conditions on the state and the operands alone, for: busRequest, targetGrant, targetResponse,
targetResponseTimeout, masterReset, masterPortClosed. -/
def Obligations.FabricRowsTakeEffect : Prop :=
  (∀ (r : BusReq) (n a t : Nat) (s : State), n = (if r.write then r.data.length else r.len) → a = s.unswap r.master r.addr → r.master < 14 → 0 < n →
      (a + n - 1) / 32 + 1 - a / 32 ≤ 16 → r.addr < 2 ^ 40 → s.on (Reg.BUS.M.STAT.CLOSING r.master) = false → s.outstanding r.master < 32 →
      s.busTarget r.master a n = some t →
      exec (.busRequest r) s = .next (s.enqueue { master := r.master, id := r.id, write := r.write, addr := a, target := t, len := n, qos := s.busQos r.master r.write r.qos, gen := s.busGen r.master, data := (if r.write then r.data else []), strobes := (if r.write then (r.strobes ++ List.replicate (n - r.strobes.length) false).take n else []), since := s.run })) ∧
  (∀ (r : BusReq) (n a : Nat) (s : State), n = (if r.write then r.data.length else r.len) → a = s.unswap r.master r.addr → r.master < 14 → 0 < n →
      (a + n - 1) / 32 + 1 - a / 32 ≤ 16 → r.addr < 2 ^ 40 → s.on (Reg.BUS.M.STAT.CLOSING r.master) = false → s.outstanding r.master < 32 →
      s.busTarget r.master a n = none →
      exec (.busRequest r) s = .next ((s.violate (busClass r.master)).respond r.master ⟨r.id, if r.write then [] else List.replicate n 0, false⟩)) ∧
  (∀ (t : Nat) (w : Bool) (x : BusTxn) (s : State), t < 9 → s.portGrants t = true → s.arbitrate t w = some x →
      exec (.targetGrant t w) s = .next (((({ s with bus := { s.bus with queue := s.bus.queue.erase x, granted := s.bus.granted ++ [{ x with at_ := s.run }], lastQ := mapSet s.bus.lastQ (arbKey t w x.qos) x.master, waits := s.bus.waits ++ [(t, s.run, s.run - x.since)], busyFrom := if (mapGet s.bus.busyFrom t).isSome then s.bus.busyFrom else mapSet s.bus.busyFrom t s.run } } : State).wr
        (Reg.BUS.T.STAT.PARK t) x.master).put (Reg.BUS.T.STAT.PARKED t) ((s.bus.queue.erase x).all fun y => y.target != t)).showPort t)) ∧
  (∀ (t : Nat) (fl : List (Nat × Nat)) (x : BusTxn) (s : State), s.answerable t = some x → isDram t = false ∨ s.rd Reg.DRAM.STAT.STATE ≠ 3 → x.write = true →
      exec (.targetResponse t ⟨false, fl⟩) s = .next ((s.performWrite x.master t x.addr x.data x.strobes).sendBack x [] false none)) ∧
  (∀ (t : Nat) (fl : List (Nat × Nat)) (x : BusTxn) (s : State), s.answerable t = some x → isDram t = false → x.write = false →
      exec (.targetResponse t ⟨false, fl⟩) s = .next ((s.performRead x.master t x.addr x.len).sendBack x (s.readBytes x.master t x.addr x.len) false none)) ∧
  (∀ (t : Nat) (fl : List (Nat × Nat)) (x : BusTxn) (s : State), s.answerable t = some x →
      exec (.targetResponse t ⟨true, fl⟩) s = .next (s.sendBack x (List.replicate (if x.write then 0 else x.len) 0) true none)) ∧
  (∀ (t : Nat) (fl : List (Nat × Nat)) (x : BusTxn) (s : State), s.answerable t = some x → isDram t = true → s.rd Reg.DRAM.STAT.STATE ≠ 3 → x.write = false →
      s.dram.ecc = false →
      exec (.targetResponse t ⟨false, fl⟩) s = .next ((s.performRead x.master t x.addr x.len).sendBack x (upsetBytes x.addr fl (s.readBytes x.master t x.addr x.len)) false none)) ∧
  (∀ (t : Nat) (fl : List (Nat × Nat)) (x : BusTxn) (s : State), s.answerable t = some x → isDram t = true → s.rd Reg.DRAM.STAT.STATE ≠ 3 → x.write = false →
      s.dram.ecc = true →
      (failedBlock x.addr x.len fl = none → exec (.targetResponse t ⟨false, fl⟩) s = .next ((((s.performRead x.master t x.addr x.len).countIf
        (!(correctedBlocks x.addr x.len fl).isEmpty) Reg.DRAM.ECCCNT.CE).writeBacks (correctedBlocks x.addr x.len fl)).sendBack x
        (s.readBytes x.master t x.addr x.len) false none)) ∧
      (∀ b, failedBlock x.addr x.len fl = some b →
        exec (.targetResponse t ⟨false, fl⟩) s = .next { s with dram := { s.dram with retries := s.dram.retries ++ [{ txn := some x, block := b, at_ := s.run }] } })) ∧
  (∀ (t : Nat) (x : BusTxn) (s : State), isDram t = false ∨ s.on Reg.DRAM.STAT.RETRAIN = false →
      s.bus.granted.find? (fun x => x.target == t && decide (x.at_ + 20000 ≤ s.run)) = some x →
      exec (.targetResponseTimeout t) s = .next ((((({ s with dram := { s.dram with retries := s.dram.retries.filter fun r => r.txn != some x } } : State).count
        (Reg.BUS.T.CNT.TO t)).log 0x0506 (le 1 t ++ le 1 x.master ++ le 1 x.id))).sendBack x (List.replicate (if x.write then 0 else x.len) 0) true none)) ∧
  (∀ (m : Nat) (s : State), m < 14 →
      ∃ u, exec (.masterReset m) s = .next u ∧ u.bus.queue = s.bus.queue.filter (fun x => x.master != m) ∧ u.bus.mem = s.bus.mem ∧
        u.busGen m = s.busGen m + 1 ∧ u.on (Reg.BUS.M.STAT.CLOSING m) = s.bus.granted.any (fun x => x.master == m) ∧
        (∀ x ∈ u.bus.granted, x.master = m → x.dead = true ∧ true ∉ x.strobes) ∧
        (∀ x, x.master ≠ m → (x ∈ u.bus.granted ↔ x ∈ s.bus.granted))) ∧
  (∀ (m wr rds : Nat) (s u : State), m < 14 → s.on (Reg.BUS.M.STAT.CLOSING m) = true → s.bus.granted.any (fun x => x.master == m) = false →
      mapGetD s.bus.closing m (0, 0) = (wr, rds) →
      u = ({ s with bus := { s.bus with closing := mapErase s.bus.closing m } } : State).put (Reg.BUS.M.STAT.CLOSING m) false →
      exec (.masterPortClosed m) s = .next (((List.range 9).foldl (fun (a : State) t =>
        if a.rd (Reg.BUS.T.STAT.PARK t) = m then a.put (Reg.BUS.T.STAT.PARKED t) false else a) u).log 0x0507 (le 1 m ++ le 1 wr ++ le 1 rds)))

/-- What training, tracking, retraining, frequency changes, refresh, retries and scrubbing of DRAM do. Concludes that exec
answers a next state, under conditions on the state and the operands alone, for: dramTrainingEnd, trackingBurst,
dramFullRetrain, dramRetrainComplete, dramFrequencyChange, frequencyChange, frequencyChangeTimeout, refreshDue,
refreshPayback, retryDataArrival, eccWriteback, patrolScrub. -/
def Obligations.DramRowsTakeEffect : Prop :=
  (∀ (lanes : List TrainLane) (s u : State), s.rd Reg.DRAM.STAT.STATE = 1 → u = { s with dram := { s.dram with ecc := s.on Reg.DRAM.CFG.ECC } } →
      exec (.dramTrainingEnd lanes) s = .next ((u.wr Reg.DRAM.SIZE.USABLE u.dramMib).trained lanes)) ∧
  (∀ (c low m0 m1 : Nat) (l0 l1 : TrackLane) (s v u : State), c < 8 → s.on Reg.DRAM.TRK.EN = true → s.rd Reg.DRAM.STAT.STATE = 2 → s.on Reg.DRAM.STAT.RETRAIN = false → s.inStandby = false →
      s.trackDue c = true → 2000 ≤ (s.slackNow (c / 2)).2 → v = (s.trackLane c 0 l0).trackLane c 1 l1 →
      m0 = s.trackMargin c 0 l0 → m1 = s.trackMargin c 1 l1 → low = min m0 m1 →
      u = ((({ v with dram := { v.dram with lastTrk := mapSet v.dram.lastTrk c s.run, owed := v.dram.owed.filter fun x => x != c } } : State).showLanes c).wrSat (Reg.DRAM.CH.TRK.MARGIN c)
        (min (if s.rd (Reg.DRAM.CH.TRK.BURSTS c) = 0 then 255 else s.rd (Reg.DRAM.CH.TRK.MARGIN c)) low)).count (Reg.DRAM.CH.TRK.BURSTS c) →
      ((low ≤ 4 ∧ s.on (Reg.DRAM.CH.STAT.MARGINAL c) = true) ∨ (5 ≤ low ∧ low ≤ 7) ∨ (8 ≤ low ∧ s.on (Reg.DRAM.CH.STAT.MARGINAL c) = false) →
        exec (.trackingBurst c l0 l1) s = .next u) ∧
      ((low ≤ 4 ∧ s.on (Reg.DRAM.CH.STAT.MARGINAL c) = false) ∨ (8 ≤ low ∧ s.on (Reg.DRAM.CH.STAT.MARGINAL c) = true) →
        exec (.trackingBurst c l0 l1) s = .next ((u.put (Reg.DRAM.CH.STAT.MARGINAL c) (decide (low ≤ 4))).log 0x0502
          (le 1 c ++ le 1 (if m0 ≤ m1 then 0 else 1) ++ le 1 low)))) ∧
  (∀ (d : Desc) (s u : State), s.Admits 0x61 roleE d → u = s.opened 0x61 d → d.a0 = 0 → u.inStandby = false → u.quiesce = true → u.on Reg.DRAM.STAT.RETRAIN = false →
      u.on Reg.DRAM.STAT.FREQBUSY = false → exec (.dramFullRetrain d) s = .next (State.goesOn (({ u with dram := { u.dram with retrainAt := u.run } } : State).put Reg.DRAM.STAT.RETRAIN true) d)) ∧
  (∀ (lanes : List TrainLane) (s u : State), s.on Reg.DRAM.STAT.RETRAIN = true → u = (s.resumePorts.put Reg.DRAM.STAT.RETRAIN false).trained lanes →
      exec (.dramRetrainComplete lanes) s = .next ((u.log 0x0508
        (le 1 ((List.range 8).map fun c => if u.chPass 0 c then 2 ^ c else 0).sum ++ le 1 ((List.range 8).map fun c => if u.chPass 1 c then 2 ^ c else 0).sum)).finishOp 0x61 stOk)) ∧
  (∀ (d : Desc) (n : Nat) (s u : State), s.Admits 0x61 roleE d → u = s.opened 0x61 d → d.a0 = n + 1 → n < 2 → u.inStandby = false → u.setTrained n = true →
      (∀ p, u.plan.image = some p → p.minRate ≤ u.setRate n) → u.rd Reg.DRAM.STAT.SET ≠ n → u.on Reg.DRAM.STAT.FREQBUSY = false → u.on Reg.DRAM.STAT.RETRAIN = false →
      exec (.dramFrequencyChange d) s = .next (State.goesOn (({ u with dram := { u.dram with freq := some (n, d.readAt + 100000000) } } : State).put Reg.DRAM.STAT.FREQBUSY true) d)) ∧
  (∀ (n dl : Nat) (s : State), s.dram.freq = some (n, dl) → s.slackOk = true → s.run < dl →
      exec .frequencyChange s = .next ((s.switchSet n).finishOp 0x61 stOk)) ∧
  (∀ (n dl : Nat) (s : State), s.dram.freq = some (n, dl) → dl ≤ s.run →
      exec .frequencyChangeTimeout s = .next ((({ s with dram := { s.dram with freq := none } } : State).put Reg.DRAM.STAT.FREQBUSY false).finishOp 0x61 stDeferred)) ∧
  (∀ (c r k n : Nat) (s : State), c < 8 → r ≤ s.rd Reg.DRAM.CFG.RANKS → k = c * (s.rd Reg.DRAM.CFG.RANKS + 1) + r → s.rankWaits k = true → n = mapGetD s.dram.post k 0 → n < 8 →
      exec (.refreshDue c r) s = .next (({ s with dram := { s.dram with post := mapSet s.dram.post k (n + 1), postLog := s.dram.postLog ++ [(s.run, n + 1)] } } : State).showPost)) ∧
  (∀ (c r k : Nat) (s : State), c < 8 → r ≤ s.rd Reg.DRAM.CFG.RANKS → k = c * (s.rd Reg.DRAM.CFG.RANKS + 1) + r → s.rankWaits k = true → 8 ≤ mapGetD s.dram.post k 0 →
      exec (.refreshDue c r) s = .next (s.count Reg.DRAM.REF.FORCED)) ∧
  (∀ (c r : Nat) (s : State), s.rankWaits (c * (s.rd Reg.DRAM.CFG.RANKS + 1) + r) = false → exec (.refreshDue c r) s = .next s) ∧
  (∀ (k n : Nat) (s : State), s.rankWaits k = false → mapGet s.dram.post k = some n →
      exec (.refreshPayback k) s = .next (({ s with dram := { s.dram with post := mapErase s.dram.post k, postLog := s.dram.postLog ++ [(s.run, n)] } } : State).showPost)) ∧
  (∀ (r : RetryS) (x : BusTxn) (rest : List RetryS) (fl : List (Nat × Nat)) (s u : State), s.dram.retries = r :: rest → r.txn = some x → s.run ≤ r.at_ + 1000 → r.late = none →
      x.dead = false → x.gen = s.busGen x.master → failedBlock x.addr x.len fl = none →
      u = (({ s with dram := { s.dram with retries := rest } } : State).writeBacks (correctedBlocks x.addr x.len fl)).count Reg.DRAM.ECCCNT.RETRYOK →
      exec (.retryDataArrival fl) s = .next ((u.performRead x.master x.target x.addr x.len).sendBack x (s.readBytes x.master x.target x.addr x.len) false none)) ∧
  (∀ (r : RetryS) (x : BusTxn) (b : Nat) (rest : List RetryS) (fl : List (Nat × Nat)) (s u : State), s.dram.retries = r :: rest → r.txn = some x → r.late = none →
      x.dead = false → x.gen = s.busGen x.master → failedBlock x.addr x.len fl = some b → u = { s with dram := { s.dram with retries := rest } } →
      exec (.retryDataArrival fl) s = .next ((u.uncorrectable r.block x.master).sendBack x (List.replicate x.len 0) true (some (s.rd Reg.STORE.SILT.HEAD)))) ∧
  (∀ (r : RetryS) (x : BusTxn) (b k : Nat) (rest : List RetryS) (fl : List (Nat × Nat)) (s u : State), s.dram.retries = r :: rest → r.txn = some x → r.late = some k →
      r.told = false → failedBlock x.addr x.len fl = some b → u = (({ s with dram := { s.dram with retries := rest } } : State).noteUe r.block).count Reg.DRAM.ECCLATE.LATE →
      exec (.retryDataArrival fl) s = .next ((u.hold 0x0505 (lateEntry x.master k 0)).retireTxn x)) ∧
  (∀ (b : Nat) (s : State), exec (.eccWriteback b) s = .next { s with dram := { s.dram with back := s.dram.back.filter fun e => e.2 != b / 64 * 64 } }) ∧
  (∀ (b : Nat) (fl : List (Nat × Nat)) (s : State), (s.targetAt (b / 64 * 64)).any isDram = true → s.dram.ecc = true → s.rd Reg.DRAM.STAT.STATE = 2 → s.on Reg.DRAM.STAT.RETRAIN = false →
      (failedBlock (b / 64 * 64) 64 fl = none → exec (.patrolScrub b fl) s = .next ((s.countIf (!(correctedBlocks (b / 64 * 64) 64 fl).isEmpty) Reg.DRAM.ECCCNT.CE).writeBacks
        (correctedBlocks (b / 64 * 64) 64 fl))) ∧
      ((failedBlock (b / 64 * 64) 64 fl).isSome = true → exec (.patrolScrub b fl) s = .next { s with dram := { s.dram with retries := s.dram.retries ++ [{ txn := none, block := b / 64 * 64, at_ := s.run }] } }))

/-- What starts, stops, appends, descriptor fetches, requests, bursts, completions and tail polls of the DMA channels do.
Concludes that exec answers a next state, under conditions on the state and the operands alone, for:
dmaDescriptorFetch, dmaRequest, dmaBurstIssue, dmaDescriptorComplete, tailwaitPoll, dmaStart, dmaStop, dmaAppend. -/
def Obligations.DmaRowsTakeEffect : Prop :=
  (∀ (c : Nat) (d y : DmaDesc) (e : Bool) (s : State), c < 32 → (s.dmaCh c).fetch = true → s.dmaState c = dmaRun → s.dmaBars c (s.dptr c) 64 = false →
      y = (if dmaHost (s.dptr c) then d else dmaDescOf (s.dmaLoad c (s.dptr c) 64)) → dmaDescBad (s.dmaLine c) y = false →
      exec (.dmaDescriptorFetch c d e) s = .next (s.onCh c fun x => { desc := some y, pend := x.pend, append := x.append, polled := x.polled })) ∧
  (∀ (c : Nat) (d y : DmaDesc) (s u : State), c < 32 → (s.dmaCh c).fetch = true → s.dmaState c = dmaRun → s.dmaBars c (s.dptr c) 64 = false →
      y = (if dmaHost (s.dptr c) then d else dmaDescOf (s.dmaLoad c (s.dptr c) 64)) → dmaDescBad (s.dmaLine c) y = true →
      u = ((s.onCh c fun x => { desc := some y, pend := x.pend, append := x.append, polled := x.polled }).dmaStatus c 3 0 0 false).2 →
      exec (.dmaDescriptorFetch c d false) s = .next ((u.log 0x0602 (u.dmaEntry c 0)).setDmaState c dmaHalted)) ∧
  (∀ (line beats c : Nat) (s : State), line < 80 → s.lineCh line = some c → s.dmaState c = dmaRun ∨ s.dmaState c = dmaTail →
      ((s.dmaCh c).pend.length < 4 →
        exec (.dmaRequest line beats) s = .next (s.onCh c fun x => { x with pend := x.pend ++ [if 72 ≤ line then 0 else beats] })) ∧
      (4 ≤ (s.dmaCh c).pend.length →
        exec (.dmaRequest line beats) s = .next ((s.count (Reg.DMA.CH.STAT.REQLOST c)).siltWrite 0x0604 []))) ∧
  (∀ (e c n : Nat) (data : List Byte) (re we : Option Nat) (d : DmaDesc) (s : State), e < 2 → (s.dma.flight.filter fun b => b.ch / 16 == e).length < 8 →
      s.dmaPick e = some c → (s.dmaCh c).desc = some d →
      n = (if lineCounted (s.dmaLine c) then (s.dmaCh c).pend.headD 0 else min (descBlen d) (d.count - (s.dmaCh c).issued)) →
      ∃ u, exec (.dmaBurstIssue e data re we) s = .next u ∧ (u.dmaCh c).issued = (s.dmaCh c).issued + n ∧ (u.dmaCh c).src = (s.dmaCh c).src + n * descSrcW d ∧
        (u.dmaCh c).reqs = (s.dmaCh c).reqs + (if s.dmaLine c < 80 then 1 else 0) ∧ (u.dmaCh c).pend = (s.dmaCh c).pend.drop 1 ∧ u.dma.uid = s.dma.uid + 1) ∧
  (∀ (c link : Nat) (d : DmaDesc) (s u : State), c < 32 → s.dmaState c = dmaRun → (s.dmaCh c).fetch = false → (s.dmaCh c).err = none → s.dmaLeft c = 0 →
      s.dmaFlight c = 0 → (s.dmaCh c).desc = some d → descChk d = 0 → u = (s.dmaStatus c 1 0 (s.dmaCh c).issued false).2 →
      exec (.dmaDescriptorComplete c false false link) s = .next ((u.barLink c).followLink c (u.readLink c link))) ∧
  (∀ (c link : Nat) (s u : State), c < 32 → s.dmaState c = dmaStopping → s.dmaFlight c = 0 → (s.dmaCh c).desc = none →
      u = (s.dmaStatus c 4 0 (s.dmaCh c).issued false).2 →
      exec (.dmaDescriptorComplete c false false link) s = .next ((u.onCh c fun y => { polled := y.polled, append := y.append }).setDmaState c dmaIdle)) ∧
  (∀ (c link k i : Nat) (d : DmaDesc) (s u : State), c < 32 → s.dmaState c = dmaRun → (s.dmaCh c).fetch = false → (s.dmaCh c).err = some (k, i) →
      s.dmaFlight c = 0 → (s.dmaCh c).desc = some d → descChk d = 0 → descCont d = false → u = (s.dmaStatus c 2 k i false).2 →
      exec (.dmaDescriptorComplete c false false link) s = .next ((u.log 0x0601 (u.dmaEntry c i) (s.dmaCh c).cite).setDmaState c dmaHalted)) ∧
  (∀ (c link : Nat) (s : State), c < 32 → s.dmaState c = dmaTail →
      (s.dmaCh c).append = true ∨ (s.rd (Reg.DMA.CH.CFG.POLL c) ≠ 0 ∧ (s.dmaCh c).polled + s.rd (Reg.DMA.CH.CFG.POLL c) * 1000 ≤ s.run) →
      exec (.tailwaitPoll c link) s = .next ((s.barLink c).followLink c (s.readLink c link))) ∧
  (∀ (q : Requester) (c : Nat) (fs : List RField) (s : State), s.Writes q 0x170004 fs → c < 32 → s.dmaState c = dmaIdle → s.dma.chans.length = 32 →
      (s.rd (Reg.DMA.CH.CFG.REQ c) ≤ 79 → ∀ k < 32, k ≠ c → s.rd (Reg.DMA.CH.CFG.REQ k) = s.rd (Reg.DMA.CH.CFG.REQ c) → s.dmaState k = dmaIdle) →
      ∃ t, exec (.dmaStart q (BitVec.ofNat 32 (2 ^ c))) s = .next t ∧ t.dmaState c = dmaRun ∧ t.dmaCh c = { fetch := true, append := (s.dmaCh c).append } ∧
        t.rd (Reg.DMA.CH.CFG.ERR c) = 0 ∧ t.rd (Reg.DMA.CH.STAT.WBERR c) = 0) ∧
  (∀ (q : Requester) (c : Nat) (fs : List RField) (s : State), s.Writes q 0x170008 fs → c < 32 → s.dmaState c = dmaRun → s.dma.chans.length = 32 →
      ∃ t, exec (.dmaStop q (BitVec.ofNat 32 (2 ^ c))) s = .next t ∧ t.dmaState c = dmaStopping ∧ t.dmaCh c = { s.dmaCh c with pend := [], fetch := false }) ∧
  (∀ (q : Requester) (c : Nat) (fs : List RField) (s : State), s.Writes q 0x17000C fs → c < 32 → s.dmaState c ≠ dmaTail → s.dma.chans.length = 32 →
      ∃ t, exec (.dmaAppend q (BitVec.ofNat 32 (2 ^ c))) s = .next t ∧ t.dmaCh c = { s.dmaCh c with append := true } ∧ t.dmaState c = s.dmaState c ∧
        (s.rd (Reg.DMA.CH.STAT.APPIGN c) + 1 < 2 ^ (Reg.DMA.CH.STAT.APPIGN c).w → t.rd (Reg.DMA.CH.STAT.APPIGN c) = s.rd (Reg.DMA.CH.STAT.APPIGN c) + 1))

/-- What HEARTBEAT, CONFIG, IMAGE, HANDOVER and ACK frames and the link's state do. Concludes that exec answers a next
state, under conditions on the state and the operands alone, for: heartbeat, config, image, handover, ack,
ouvfelLinkStateChange. -/
def Obligations.PairFrameRowsTakeEffect : Prop :=
  (∀ (f : OuvFrame) (s : State), s.on Reg.GUARD.OUVCFG.EN = true → s.ouvUp = true →  frameOk ouvHeartbeat 8192 f = true → 16 ≤ f.payload.length →
      exec (.heartbeat f) s = .next (State.judgePartner { s with ouv := { s.ouv with hbTick := s.tick, hbSent := f.tick, hbSecond := f.secondary, heard := true, hbNode := rdLe f.payload 0 2, hbAuth := rdLe f.payload 2 1, hbState := rdLe f.payload 3 1, hbPlan := rdLe f.payload 4 4, hbGen := rdLe f.payload 8 4 } })) ∧
  (∀ (f : OuvFrame) (l : Nat) (all : Tbl Nat) (s : State), s.on Reg.GUARD.OUVCFG.EN = true → s.ouvUp = true →  frameOk ouvConfig 8192 f = true → s.follower = true → 8 ≤ f.payload.length →
      l = rdLe f.payload 0 8 → all = (configItems (f.payload.drop 8) (f.payload.length / 16 + 1)).foldl (fun t e => mapSet t e.1 e.2)
        (if f.flags % 2 = 1 ∧ (configItems (f.payload.drop 8) (f.payload.length / 16 + 1)).isEmpty then [] else ((s.ouv.cfgIn.filter fun x => x.1 == l).map Prod.snd).getD []) →
      (f.flags % 2 = 0 → exec (.config f) s = .next { s with ouv := { s.ouv with cfgIn := some (l, all) } }) ∧
      (f.flags % 2 = 1 → exec (.config f) s = .next (({ s with ouv := { s.ouv with cfgIn := none } } : State).takeConfig f.seq l all))) ∧
  (∀ (f : OuvFrame) (q : Nat) (all : List (Nat × Nat)) (s : State), s.on Reg.GUARD.OUVCFG.EN = true → s.ouvUp = true →  frameOk ouvImage 8192 f = true → s.follower = true → 8 ≤ f.payload.length →
      q = rdLe f.payload 0 4 → all = (if s.ouv.imgSeq = q then s.ouv.imgIn else []) ++
        ((List.range ((f.payload.length - 8) / 8)).map fun j => (rdLe f.payload 4 4 + j, rdLe f.payload (8 + 8 * j) 8)) →
      (f.flags % 2 = 0 → exec (.image f) s = .next { s with ouv := { s.ouv with imgIn := all, imgSeq := q } }) ∧
      (f.flags % 2 = 1 → exec (.image f) s = .next { s with ouv := { s.ouv with imgIn := [], imgSeq := q, imgReady := if (all.zipIdx.all fun e => e.1.1 == e.2) = true then some (q, all) else s.ouv.imgReady } })) ∧
  (∀ (f : OuvFrame) (s u : State), s.on Reg.GUARD.OUVCFG.EN = true → s.ouvUp = true →  frameOk ouvHandover 8192 f = true → 8 ≤ f.payload.length → u = s.sendAck f.seq 0 →
      s.service = true → s.holds = false → s.partner = 3 →
      exec (.handover f) s = .next { u with ouv := { u.ouv with hand := some (rdLe f.payload 0 8, false, f.seq, true) } }) ∧
  (∀ (f : OuvFrame) (s : State), s.on Reg.GUARD.OUVCFG.EN = true → s.ouvUp = true →  frameOk ouvHandover 8192 f = true → 8 ≤ f.payload.length →
      s.service = false ∨ s.holds = true ∨ s.partner ≠ 3 → exec (.handover f) s = .next (s.sendAck f.seq 1)) ∧
  (∀ (f : OuvFrame) (l q : Nat) (s : State), s.on Reg.GUARD.OUVCFG.EN = true → s.ouvUp = true →  frameOk ouvAck 8192 f = true → 8 ≤ f.payload.length → rdLe f.payload 4 4 = 0 →
      s.ouv.cfgWait = some (l, q) → rdLe f.payload 0 4 = q → s.ouv.hand = none →
      exec (.ack f) s = .next { s with ouv := { s.ouv with cfgWait := none } }) ∧
  (∀ (f : OuvFrame) (m q : Nat) (s : State), s.on Reg.GUARD.OUVCFG.EN = true → s.ouvUp = true →  frameOk ouvAck 8192 f = true → 8 ≤ f.payload.length → rdLe f.payload 4 4 = 0 →
      s.ouv.cfgWait = none → s.ouv.hand = some (m, true, q, false) → rdLe f.payload 0 4 = q →
      exec (.ack f) s = .next (({ s with ouv := { s.ouv with hand := some (m, true, q, true) } } : State).finishOp 0x49 stOk (le 8 m))) ∧
  (∀ (n : Nat) (s : State), n < 3 → exec (.ouvfelLinkStateChange n) s = .next (s.wr Reg.GUARD.OUVSTAT.LINK n))

/-- What the loss of the partner, timeouts, image sending, AUTH_HANDOVER and authority do. Concludes that exec answers a
next state, under conditions on the state and the operands alone, for: partnerLost, configAckTimeout, stateImageSend,
authHandover, handoverAckTimeout, handoverBoundary, authInSample, authorityWatchdog. -/
def Obligations.AuthorityRowsTakeEffect : Prop :=
  (∀ (s : State), s.on Reg.GUARD.OUVCFG.EN = true → s.ouv.heard = true → s.ouv.hbTick + s.rd Reg.GUARD.OUVCFG.HBMISS ≤ s.tick →
      exec .partnerLost s = .next ((((({ s with ouv := { s.ouv with heard := false, imgIn := [], imgReady := none, cfgIn := none } } : State).wr
        Reg.GUARD.OUVSTAT.PARTNER 0).count Reg.GUARD.OUVCNT.LOST)).log 0x0131 (le 8 s.ouv.hbSent))) ∧
  (∀ (l q : Nat) (s : State), s.ouv.cfgWait = some (l, q) → l ≤ s.tick + 1 → s.partner = 3 →
      exec .configAckTimeout s = .next (({ s with ouv := { s.ouv with cfgWait := none } } : State).wr Reg.GUARD.OUVSTAT.PARTNER 2)) ∧
  (∀ (s : State), s.paired = true → s.holds = true → s.on Reg.TICK.STATUS.RUN = false ∨ s.eng.finished = false → s.ouv.imgLast + s.rd Reg.GUARD.OUVCFG.IMGPER * 1000000 ≤ s.run →
      ∃ u, exec .stateImageSend s = .next u ∧ u.ouv.imgSent = (s.ouv.imgSent + 1) % 2 ^ 32 ∧ u.ouv.imgLast = s.run ∧ State.sameTopcoat s u) ∧
  (∀ (d : Desc) (m : Nat) (s u v : State), s.Admits 0x49 roleO d → u = s.opened 0x49 d → d.a2 < 1000000000 → u.holds = true → u.on Reg.GUARD.OUVCFG.EN = true →
      u.partner = 3 → u.ouv.hand = none → m = u.tickFrom (u.readNs d) (d.rbuf * 1000000000 + d.a2) 4 → v = u.ouvSend ouvHandover 0 (le 8 m) →
      exec (.authHandover d) s = .next (State.goesOn { v with ouv := { v.ouv with hand := some (m, true, u.ouv.txSeq, false) } } d)) ∧
  (∀ (m q : Nat) (s : State), s.ouv.hand = some (m, true, q, false) → m ≤ s.tick + 2 →
      exec .handoverAckTimeout s = .next (({ s with ouv := { s.ouv with hand := none } } : State).finishOp 0x49 stRefused)) ∧
  (∀ (m q : Nat) (s : State), s.ouv.hand = some (m, true, q, true) → m ≤ s.tick →
      exec .handoverBoundary s = .next (({ s with ouv := { s.ouv with hand := none } } : State).dropAuth 0)) ∧
  (∀ (m q : Nat) (s : State), s.ouv.hand = some (m, false, q, true) → m ≤ s.tick → s.holds = false →
      (s.on Reg.GUARD.OUVSTAT.AUTH_IN = false → exec .handoverBoundary s = .next ((({ s with ouv := { s.ouv with hand := none } } : State).raiseAuth).tookAuth 3)) ∧
      (s.on Reg.GUARD.OUVSTAT.AUTH_IN = true → exec .handoverBoundary s = .next s)) ∧
  (∀ (r : Nat) (s : State), s.ouv.justTaken = some r →
      exec (.authInSample true) s = .next ((s.put Reg.GUARD.OUVSTAT.AUTH_IN true).dropPin) ∧
      exec (.authInSample false) s = .next ((s.put Reg.GUARD.OUVSTAT.AUTH_IN false).tookAuth r)) ∧
  (∀ (b : Bool) (s : State), s.ouv.justTaken = none → b = true ∨ s.ouv.hand = none → exec (.authInSample b) s = .next (s.put Reg.GUARD.OUVSTAT.AUTH_IN b)) ∧
  (∀ (s : State), s.holds = true → s.guard.lastFlip + s.rd Reg.GUARD.AUTHWD.TICKS ≤ s.tick →
      exec .authorityWatchdog s = .next (((s.dropPin.discardOpen 1).count Reg.GUARD.OUVCNT.HANDOVER).log 0x0134 (le 1 3)))

/-- What the package resets, a software reset's write, supply trips and the backup domain do. Concludes that exec answers
a next state, under conditions on the state and the operands alone, for: powerOnReset, iodReset, stewardWatchdog,
stewardLockstepMismatch, supplyMonitorTrip, backupPowerOn, vbatSwitchover, softReset. -/
def Obligations.PowerAndResetRowsTakeEffect : Prop :=
  (∀ (b : BootEnv) (i : Nat) (rejected : List (Nat × Nat × Nat)) (s u : State), b.romOk = true →
      u = (((({ s.mramBack.packageReset with ref := { s.mramBack.packageReset.ref with history := s.mramBack.ref.history.map fun h => { h with used := false } }, time := { s.mramBack.packageReset.time with freq := 0, oscHz := if b.oscsel then 49152000 else 10000000 } } : State).put
        Reg.SYS.RSTCAUSE.SUPPLY s.pwr.tripped).put Reg.SEC.STATUS.KEK s.sec.kek.isSome).showVbat b.vbat) → u.tryBoot u.bootOrder = (some i, rejected) →
      exec (.powerOnReset b) s = .next (((u.count Reg.SEC.CNT.SIGFAIL rejected.length).wr Reg.SEC.STATUS.REASON
        (if rejected.isEmpty then 0 else ((rejected.getLast?).map fun e => e.2.2).getD 6)).stewardUp i rejected s.sec.kek.isSome b)) ∧
  (∀ (b : BootEnv) (rejected : List (Nat × Nat × Nat)) (s u : State), b.romOk = true →
      u = (((({ s.mramBack.packageReset with ref := { s.mramBack.packageReset.ref with history := s.mramBack.ref.history.map fun h => { h with used := false } }, time := { s.mramBack.packageReset.time with freq := 0, oscHz := if b.oscsel then 49152000 else 10000000 } } : State).put
        Reg.SYS.RSTCAUSE.SUPPLY s.pwr.tripped).put Reg.SEC.STATUS.KEK s.sec.kek.isSome).showVbat b.vbat) → u.tryBoot u.bootOrder = (none, rejected) →
      exec (.powerOnReset b) s = .next ((u.count Reg.SEC.CNT.SIGFAIL rejected.length).halt (((rejected.getLast?).map fun e => e.2.2).getD 6))) ∧
  (∀ (c : ResetCause) (b : BootEnv) (s u : State), c ≠ .soft → s.pwr.tripped = false →
      u = (((s.packageReset.setWord 0x30 (s.word 0x30)).put (causeFld c) true).put Reg.SEC.STATUS.DEBUG (s.on Reg.SEC.STATUS.DEBUG)).resumeMirrors s →
      exec (.iodReset c b) s = .next (u.boot s.sec.kek.isSome b)) ∧
  (∀ (t : Nat) (b : BootEnv) (s v u : State), s.pwr.tripped = false → s.pwr.softAt = some t → v = s.reach (s.ns + (t - s.run)) →
      u = (((v.packageReset.setWord 0x30 (v.word 0x30)).put (causeFld .soft) true).put Reg.SEC.STATUS.DEBUG (v.on Reg.SEC.STATUS.DEBUG)).resumeMirrors v →
      exec (.iodReset .soft b) s = .next (u.boot v.sec.kek.isSome b)) ∧
  (∀ (b : BootEnv) (s u : State), s.pwr.tripped = false →
      u = (((s.packageReset.setWord 0x30 (s.word 0x30)).put (causeFld .watchdog) true).put Reg.SEC.STATUS.DEBUG (s.on Reg.SEC.STATUS.DEBUG)).resumeMirrors s →
      exec (.stewardWatchdog b) s = .next (u.boot s.sec.kek.isSome b)) ∧
  (∀ (b : BootEnv) (s v u : State), v = s.dropAuth 3 → v.pwr.tripped = false →
      u = (((v.packageReset.setWord 0x30 (v.word 0x30)).put (causeFld .lockstep) true).put Reg.SEC.STATUS.DEBUG (v.on Reg.SEC.STATUS.DEBUG)).resumeMirrors v →
      exec (.stewardLockstepMismatch b) s = .next (u.boot v.sec.kek.isSome b)) ∧
  (∀ (n : Nat) (s : State), 1 ≤ n → n ≤ 4 →
      exec (.supplyMonitorTrip n) s = .next (State.dropPin { s with pwr := { s.pwr with tripped := true, mram := if s.pwr.tripped then s.pwr.mram else some s.mramNow }, modCh := s.modCh.map fun e => (e.1, e.2.off), ref := { s.ref with outs := s.ref.outs.map fun x => { x with running := false } }, sap := s.sap.map fun e => (e.1, { e.2 with out := [] }) })) ∧
  (∀ (s u : State), u = s.resetRange 0x1A0000 0x1B0000 →
      exec .backupPowerOn s = .next (({ u with sec := { u.sec with keys := [], kek := none, active := [], kekCause := 0, trips := [] } } : State).put Reg.SEC.STATUS.KEK false)) ∧
  (∀ (s : State), (s.on Reg.BKUP.STATUS.ONVBAT = false →
        exec .vbatSwitchover s = .next ((s.put Reg.BKUP.STATUS.ONVBAT true).count Reg.BKUP.LOSSCNT.COUNT)) ∧
      (s.on Reg.BKUP.STATUS.ONVBAT = true → exec .vbatSwitchover s = .next s)) ∧
  (∀ (q : Requester) (v : Word) (fs : List RField) (s : State), s.Writes q 0x34 fs → getBits v 0 1 = 1 → getBits v 8 8 = 0xA5 → s.pwr.softAt = none →
      ∃ t, exec (.softReset q v) s = .next t ∧ t.pwr.softAt = some (s.run + 10000)) ∧
  (∀ (q : Requester) (v : Word) (fs : List RField) (s : State), s.Writes q 0x34 fs → getBits v 8 8 ≠ 0xA5 →
      ∃ t, exec (.softReset q v) s = .next t ∧ t.pwr = s.pwr)

/-- While REQ is 1 a descriptor without a session is denied but for SESSION_OPEN, SESSION_CLOSE and ALLSTOP on CMD0; while
REQ is 0 it holds every role. Concludes that exec answers a next state, under conditions on the state and the operands
alone, for: allstop, writeItems, regWrite, txnBegin, txnPrepare, txnCommit, txnRollback, sceneStore, sceneRecall,
sceneErase, streamOpen, streamClose, streamStat, timeSet, reEpoch, realign, refHistory, dieReset, authHandover,
allstopRelease, scClear, senseCal, sentSet, sentStat, zCapture, sentRestart, selftestLanes, selftestClusterMemory,
dramFullRetrain, dramFrequencyChange, planUnload, standby, wake, meter, tapCapture, objRead, logRead, fwStatus,
keyImport, keyDelete, keyGen, keyActivate, keyList, svnCommit, tokenGen, devidCert, zeroise, debugChallenge,
debugUnlock, planLoad, tamperClear, recArm, recStart, recStop, playOpen, playStart, playStop, takeList, takeDelete,
fileWrite, fileRead, fileDelete, fileList, logExport, fwStage, fwInstall, sceneImport, sceneExport, storeFormat. -/
def Obligations.SessionsAreRequiredWhileReqIsOne : Prop :=
  (∀ (img : PlanImage) (levels : Nat) (d : Desc) (s : State) (e : (Desc → Instr) × Nat),
      e ∈ [(.writeItems, 0x10), (.regWrite, 0x11), (.txnBegin, 0x20), (.txnPrepare, 0x21), (.txnCommit, 0x22), (.txnRollback, 0x23), (.sceneStore, 0x24),
        (.sceneRecall, 0x25), (.sceneErase, 0x26), (.streamOpen, 0x30), (.streamClose, 0x31), (.streamStat, 0x32), (.timeSet, 0x40), (.reEpoch, 0x41),
        (.realign, 0x42), (.refHistory, 0x43), (.dieReset, 0x48), (.authHandover, 0x49), (.allstopRelease, 0x51), (.scClear, 0x52), (.senseCal, 0x53),
        (.sentSet, 0x54), (.sentStat, 0x55), (.zCapture, 0x56), (.sentRestart, 0x57), (.selftestLanes, 0x60), (.selftestClusterMemory, 0x60),
        (.dramFullRetrain, 0x61), (.dramFrequencyChange, 0x61), (.planUnload, 0x62), (.standby, 0x62), (.wake, 0x62), (.meter, 0x70), (.tapCapture, 0x71),
        (.objRead, 0x72), (.logRead, 0x90), (.fwStatus, 0x9A), (.keyImport, 0xA0), (.keyDelete, 0xA1), (.keyGen, 0xA2), (.keyActivate, 0xA3), (.keyList, 0xA4),
        (.svnCommit, 0xA5), (.tokenGen, 0xA6), (.devidCert, 0xA7), (.zeroise, 0xA9), (.debugChallenge, 0xAA), (.debugUnlock, 0xAB), (.allstop, 0x50),
        (fun d => .planLoad d img, 0x18), (fun d => .tamperClear d levels, 0xA8)] →
      s.on Reg.DRAM.STAT.RETRAIN = false → s.ready e.2 d = true → d.ring ≠ 0 → d.session = 0 → s.on Reg.HOST.CFG.REQ = true →
      exec (e.1 d) s = .next (State.completes (s.start e.2 d) d stDenied [] [])) ∧
  (∀ (good mib : Nat) (bad : List Nat) (d : Desc) (s : State) (e : (Desc → Instr) × Nat),
      e ∈ [(.recArm, 0x80), (.recStart, 0x81), (.recStop, 0x82), (.playOpen, 0x83), (.playStart, 0x84), (.playStop, 0x85), (.takeList, 0x86), (.takeDelete, 0x87),
        (.fileWrite, 0x89), (.fileRead, 0x8A), (.fileDelete, 0x8B), (.fileList, 0x8C), (.logExport, 0x91), (.fwStage, 0x98), (.fwInstall, 0x99),
        (.sceneImport, 0x8D), (.sceneExport, 0x8E), (fun d => .storeFormat d good bad mib, 0x88)] →
      s.on Reg.DRAM.STAT.RETRAIN = false → s.on Reg.STORE.STAT.JRN = false → s.ready e.2 d = true → d.ring ≠ 0 → d.session = 0 → s.on Reg.HOST.CFG.REQ = true →
      exec (e.1 d) s = .next (State.completes (s.start e.2 d) d stDenied [] [])) ∧
  (∀ (d : Desc) (s : State), s.ready 0x50 d = true → d.ring = 0 →
      exec (.allstop d) s = .next (pumpUnknown 4 0 ((s.start 0x50 d).settle d (allstopRes d (s.start 0x50 d))))) ∧
  (∀ (op : Nat) (d : Desc) (s : State), op = 1 ∨ op = 2 → s.ready op d = true → d.ring ≠ 0 → d.session = 0 → descBad d op = none → s.Admits op 0 d) ∧
  (∀ (op role : Nat) (d : Desc) (s : State), s.ready op d = true → d.ring ≠ 0 → d.session = 0 → descBad d op = none →
      s.on Reg.HOST.CFG.REQ = false → s.Admits op role d)

/-- A read of TICK.NOW_LO returns the low word of t divided by L, and TICK.NOW_HI then reads the high word of the same
instant. Concludes that exec answers a next state, under conditions on the state and the operands alone, for:
latchingRead. -/
def Obligations.TickNumberReads : Prop :=
  ∀ (q : Requester) (s : State), s.pwr.halted = false → s.hasPath q = true →
    s.readReg q 0x10010 = BitVec.ofNat 32 (s.ns / (62500 * 2 ^ s.rd Reg.TICK.CFG.LEN)) ∧
    ∃ t, exec (.latchingRead q 0x10010) s = .next t ∧
      ∀ u : State, u.pwr.halted = false → u.hasPath q = true → u.latches = t.latches →
        u.readReg q 0x10014 = BitVec.ofNat 32 (s.ns / (62500 * 2 ^ s.rd Reg.TICK.CFG.LEN) / 2 ^ 32)

/-- An offset of the blocks that no register table lists reads zero and ignores writes. Concludes that exec answers a next
state, under conditions on the state and the operands alone, for: registerWrite, latchingRead. -/
def Obligations.UnmappedOffsetsReadZeroAndIgnoreWrites : Prop :=
  ∀ (q : Requester) (off size : Nat) (v : Word) (s : State), off < 0x200000 → regFields off = none →
    s.readReg q off = 0 ∧
    (∃ t, exec (.registerWrite q off size v) s = .next t ∧ s.sameButRegs t ∧ s.regsFrame [Reg.SYS.VIOL_COUNT.PCIE.off] t) ∧
    (∃ t, exec (.latchingRead q off) s = .next t ∧ s.sameButRegs t ∧ s.regsFrame [Reg.SYS.VIOL_COUNT.PCIE.off] t)

/-- A refresh that falls due while accesses wait is postponed, at most 8 a rank; the ninth is forced and counted, and
every step keeps the bound. Concludes that exec answers a next state, under conditions on the state and the operands
alone, for: refreshDue. -/
def Obligations.ARefreshIsPostponedAtMostEightTimes : Prop :=
  (∀ (c r k : Nat) (s : State), c < 8 → r ≤ s.rd Reg.DRAM.CFG.RANKS → k = c * (s.rd Reg.DRAM.CFG.RANKS + 1) + r → s.rankWaits k = true → mapGetD s.dram.post k 0 < 8 →
      ∃ t, exec (.refreshDue c r) s = .next t ∧ mapGetD t.dram.post k 0 = mapGetD s.dram.post k 0 + 1 ∧ t.rd Reg.DRAM.REF.FORCED = s.rd Reg.DRAM.REF.FORCED) ∧
  (∀ (c r k : Nat) (s : State), c < 8 → r ≤ s.rd Reg.DRAM.CFG.RANKS → k = c * (s.rd Reg.DRAM.CFG.RANKS + 1) + r → s.rankWaits k = true → 8 ≤ mapGetD s.dram.post k 0 →
      ∃ t, exec (.refreshDue c r) s = .next t ∧ t.dram = s.dram ∧
        t.rd Reg.DRAM.REF.FORCED = satAdd (s.rd Reg.DRAM.REF.FORCED) 1 (2 ^ Reg.DRAM.REF.FORCED.w - 1)) ∧
  (∀ (c r : Nat) (s : State), s.rankWaits (c * (s.rd Reg.DRAM.CFG.RANKS + 1) + r) = false → exec (.refreshDue c r) s = .next s) ∧
  (∀ (s t : State), (∀ k, mapGetD s.dram.post k 0 ≤ 8) → step s = .next t → ∀ k, mapGetD t.dram.post k 0 ≤ 8)

/-- BKUP.LOSSCNT increments each time the domain switches from VDDIO_18 to VBAT. Concludes that exec answers a next state,
under conditions on the state and the operands alone, for: vbatSwitchover. -/
def Obligations.LossOfSupplyIsCounted : Prop :=
  ∀ s : State, s.on Reg.BKUP.STATUS.ONVBAT = false →
    ∃ t, exec .vbatSwitchover s = .next t ∧ t.on Reg.BKUP.STATUS.ONVBAT = true ∧
      t.rd Reg.BKUP.LOSSCNT.COUNT = satAdd (s.rd Reg.BKUP.LOSSCNT.COUNT) 1 (2 ^ Reg.BKUP.LOSSCNT.COUNT.w - 1) ∧
      s.sameButRegs t ∧ s.regsFrame [Reg.BKUP.STATUS.ONVBAT.off, Reg.BKUP.LOSSCNT.COUNT.off] t

/-- HI and LO of one half-bridge are never active together, and within a carrier period more than the dead time lies between an active step of each -/
def Obligations.GatesKeepTheDeadTime : Prop :=
  ∀ (n i : Nat) (t u : Int) (s : State) (x y : Bool × Bool), (s.gates n t)[i]? = some x → (s.gates n u)[i]? = some y →
    ¬ (x.1 = true ∧ x.2 = true) ∧ (x.1 = true → y.2 = true → (s.rd (Reg.MOD.G.CFG.DT (n / 8)) : Int) < |t - u| + 1)

/-- What reset leaves: an empty queue, every register at its Reset value, empty log, memories and buffers, the part in BOOT -/
def Obligations.ResetState : Prop :=
  State.reset.pending = [] ∧ (∀ o, State.reset.word o = resetWord o) ∧ State.reset.rd Reg.TICK.CFG.LEN = 1 ∧ State.reset.rd Reg.SYS.PWR.STATE = 0 ∧
  (∀ r, r < 16 → State.reset.on (Reg.HOST.RING.CFG.EN r) = false) ∧ State.reset.on Reg.HOST.CFG.REQ = false ∧ (∀ x ∈ State.reset.host.sessions, x = none) ∧
  State.reset.silt = [] ∧ State.reset.bus.mem = [] ∧ State.reset.plan.image = none ∧ State.reset.ls = 0 ∧ State.reset.os = 0 ∧ State.reset.strm.rx = [] ∧
  State.reset.strm.tx = [] ∧ State.reset.store.rcd = none ∧ State.reset.store.plays = [] ∧ State.reset.sec.keys = [] ∧ State.reset.pwr.halted = false ∧
  State.reset.pwr.softAt = none

/-- The state after reset meets every invariant that the other statements say each step keeps -/
def Obligations.ResetMeetsTheInvariants : Prop :=
  State.reset.RegsCanon ∧ State.reset.MemCanon ∧ State.reset.SiltBounded ∧ ∀ k, mapGetD State.reset.dram.post k 0 ≤ 8

/-- Every step keeps the register file in its canonical form -/
def Obligations.StepKeepsRegistersCanonical : Prop :=
  ∀ s t : State, s.RegsCanon → step s = .next t → t.RegsCanon

/-- Every step keeps the silt log at no more than 65,536 entries -/
def Obligations.StepKeepsSiltBounded : Prop :=
  ∀ s t : State, s.SiltBounded → step s = .next t → t.SiltBounded

/-- Every step keeps the fabric memories in their canonical form -/
def Obligations.StepKeepsMemoryCanonical : Prop :=
  ∀ s t : State, s.MemCanon → step s = .next t → t.MemCanon

/-- Every command answers a next state, and none changes the queue of waiting commands -/
def Obligations.EveryCommandAnswersAndLeavesTheQueue : Prop :=
  ∀ (c : Instr) (s : State), ∃ t, exec c s = .next t ∧ t.pending = s.pending

/-- Which commands change a byte of the fabric memories, and which bytes each may change -/
def Obligations.OnlyResponsesDescriptorsAndResetsWriteMemory : Prop :=
  (∀ (c : Instr) (s t : State), exec c s = .next t → (∀ p e, c ≠ .targetResponse p e) → (∀ n d e, c ≠ .dmaDescriptorFetch n d e) → (∀ n a b l, c ≠ .dmaDescriptorComplete n a b l) → (∀ b, c ≠ .powerOnReset b) → (∀ k b, c ≠ .iodReset k b) → (∀ b, c ≠ .stewardWatchdog b) → (∀ b, c ≠ .stewardLockstepMismatch b) → s.memSame t) ∧
  (∀ (p : Nat) (e : RespEnd) (s t : State), exec (.targetResponse p e) s = .next t →
      ∀ a, (∀ x, s.answerable p = some x → x.write = true → a < x.addr ∨ x.addr + x.data.length ≤ a) → Memory.read t.bus.mem a = Memory.read s.bus.mem a) ∧
  (∀ (n : Nat) (d : DmaDesc) (e : Bool) (s t : State), exec (.dmaDescriptorFetch n d e) s = .next t →
      ∀ a, a < s.dptr n + 32 ∨ s.dptr n + 40 ≤ a → Memory.read t.bus.mem a = Memory.read s.bus.mem a) ∧
  (∀ (n l : Nat) (e f : Bool) (s t : State), exec (.dmaDescriptorComplete n e f l) s = .next t →
      (∀ d, (s.dmaCh n).desc = some d → descChk d = 0 ∨ d.chka + 8 ≤ 0x40000000 ∨ 0x44000000 ≤ d.chka) →
      ∀ a, a < s.dptr n + 32 ∨ s.dptr n + 40 ≤ a → (∀ d, (s.dmaCh n).desc = some d → descChk d = 0 ∨ a < d.chka ∨ d.chka + 8 ≤ a) →
      Memory.read t.bus.mem a = Memory.read s.bus.mem a) ∧
  (∀ (k : ResetCause) (b : BootEnv) (c : Instr) (s t : State), c ∈ [.powerOnReset b, .iodReset k b, .stewardWatchdog b, .stewardLockstepMismatch b] →
      exec c s = .next t → ∀ a, addrKept a = true → Memory.read t.bus.mem a = Memory.read s.bus.mem a)

/-- Only the key commands, zeroisation, tamper, unlock, resets and the loss of the backup domain change the key store -/
def Obligations.OnlySecurityCommandsChangeTheKeys : Prop :=
  (∀ (c : Instr) (s t : State), exec c s = .next t → (∀ d, c ≠ .keyImport d) → (∀ d, c ≠ .keyDelete d) → (∀ d, c ≠ .keyGen d) → (∀ d, c ≠ .zeroise d) → (∀ d, c ≠ .debugUnlock d) → (∀ i, c ≠ .tamperTrip i) → (∀ b, c ≠ .powerOnReset b) → (∀ k b, c ≠ .iodReset k b) → (∀ b, c ≠ .stewardWatchdog b) → (∀ b, c ≠ .stewardLockstepMismatch b) → (c ≠ .backupPowerOn) → t.sec.keys = s.sec.keys) ∧
  (∀ (i : Nat) (d : Desc) (c : Instr) (s t : State), c ∈ [.tamperTrip i, .debugUnlock d, .zeroise d, .backupPowerOn] → exec c s = .next t →
      t.sec.keys = s.sec.keys ∨ t.sec.keys = [])

/-- A write of bytes with strobes keeps the canonical form, changes the bytes whose strobe is set, and leaves every other
byte. Concludes that exec answers a next state, under conditions on the state and the operands alone, for:
targetResponse. -/
def Obligations.MemoryReadsWhatWasWritten : Prop :=
  (∀ (m : List Host.Cell) (a b : Nat) (data : List Byte) (ks : List Bool), ks.length = data.length →
      Memory.read (Memory.writeN m a data ks) b = if a ≤ b ∧ ks.getD (b - a) false = true then data.getD (b - a) 0 else Memory.read m b) ∧
  (∀ (m : List Host.Cell) (a : Nat) (data : List Byte) (ks : List Bool), Memory.wf m = true → Memory.wf (Memory.writeN m a data ks) = true) ∧
  (∀ (x : BusTxn) (l : List (Nat × Nat)) (s : State), s.answerable 4 = some x → x.write = true → x.strobes.length = x.data.length →
      ∃ t, exec (.targetResponse 4 ⟨false, l⟩) s = .next t ∧
        ∀ b, Memory.read t.bus.mem b = if x.addr ≤ b ∧ x.strobes.getD (b - x.addr) false = true then x.data.getD (b - x.addr) 0 else Memory.read s.bus.mem b)
end

