-- ==== Sys2Proof/Laws/Table.lean ====
section
/-! SUPPORT. The laws of the sparse tables: what a read gives after a write, and that the operations keep the
canonical form. -/
namespace Sys2Proof.Machine

variable {α : Type}

theorem tblGet_tblErase_same (d : Nat → α) (t : Tbl α) (k : Nat) : tblGet d (tblErase t k) k = d k := by
  induction t with
  | nil => rfl
  | cons e r ih =>
    obtain ⟨a, v⟩ := e
    by_cases h : a = k <;> simp [tblErase, tblGet, h, ih]

theorem tblGet_tblErase_other (d : Nat → α) (t : Tbl α) {j k : Nat} (h : j ≠ k) :
    tblGet d (tblErase t k) j = tblGet d t j := by
  induction t with
  | nil => rfl
  | cons e r ih =>
    obtain ⟨a, v⟩ := e
    by_cases hk : a = k
    · subst hk; simp [tblErase, tblGet, ih, Ne.symm h]
    · by_cases hj : a = j
      · subst hj; simp [tblErase, tblGet, hk]
      · simp [tblErase, tblGet, hk, hj, ih]

theorem tblGet_tblInsert (d : Nat → α) (t : Tbl α) (j k : Nat) (v : α) (h : ∀ e ∈ t, e.1 ≠ k) :
    tblGet d (tblInsert t k v) j = if j = k then v else tblGet d t j := by
  induction t with
  | nil =>
    by_cases hj : j = k
    · simp [tblInsert, tblGet, hj]
    · simp [tblInsert, tblGet, hj, Ne.symm hj]
  | cons e r ih =>
    obtain ⟨a, w⟩ := e
    have ha : a ≠ k := h (a, w) (by simp)
    have hr : ∀ e ∈ r, e.1 ≠ k := fun e he => h e (by simp [he])
    by_cases hlt : k < a
    · by_cases hj : j = k
      · simp [tblInsert, tblGet, hlt, hj]
      · simp [tblInsert, tblGet, hlt, hj, Ne.symm hj]
    · by_cases haj : a = j
      · subst haj; simp [tblInsert, tblGet, hlt, ha]
      · simp [tblInsert, tblGet, hlt, haj, ih hr]

theorem not_mem_tblErase (t : Tbl α) (k : Nat) : ∀ e ∈ tblErase t k, e.1 ≠ k := by
  induction t with
  | nil => simp [tblErase]
  | cons e r ih =>
    obtain ⟨a, w⟩ := e
    by_cases h : a = k
    · simpa [tblErase, h] using ih
    · simp only [tblErase, h, if_false, List.mem_cons]
      rintro e (rfl | he)
      · exact h
      · exact ih e he

theorem tblGet_tblSet [DecidableEq α] (d : Nat → α) (t : Tbl α) (j k : Nat) (v : α) :
    tblGet d (tblSet d t k v) j = if j = k then v else tblGet d t j := by
  unfold tblSet
  by_cases hv : v = d k
  · by_cases hj : j = k
    · subst hj; simp [hv, tblGet_tblErase_same]
    · simp [hv, hj, tblGet_tblErase_other d t hj]
  · rw [if_neg hv, tblGet_tblInsert d _ j k v (not_mem_tblErase t k)]
    by_cases hj : j = k
    · simp [hj]
    · simp [hj, tblGet_tblErase_other d t hj]

@[simp] theorem tblGet_tblSet_same [DecidableEq α] (d : Nat → α) (t : Tbl α) (k : Nat) (v : α) :
    tblGet d (tblSet d t k v) k = v := by simp [tblGet_tblSet]

theorem tblGet_tblSet_other [DecidableEq α] (d : Nat → α) (t : Tbl α) {j k : Nat} (v : α) (h : j ≠ k) :
    tblGet d (tblSet d t k v) j = tblGet d t j := by simp [tblGet_tblSet, h]

theorem mapGet_tblErase_other (t : Tbl α) {j k : Nat} (h : j ≠ k) : mapGet (tblErase t k) j = mapGet t j := by
  induction t with
  | nil => rfl
  | cons e r ih =>
    obtain ⟨a, v⟩ := e
    by_cases hk : a = k
    · subst hk; simp [tblErase, mapGet, ih, Ne.symm h]
    · by_cases hj : a = j
      · subst hj; simp [tblErase, mapGet, hk]
      · simp [tblErase, mapGet, hk, hj, ih]

theorem mapGet_mapErase_same (t : Tbl α) (k : Nat) : mapGet (mapErase t k) k = none := by
  unfold mapErase
  induction t with
  | nil => rfl
  | cons e r ih =>
    obtain ⟨a, v⟩ := e
    by_cases h : a = k <;> simp [tblErase, mapGet, h, ih]

theorem mapGet_mapSet (t : Tbl α) (j k : Nat) (v : α) :
    mapGet (mapSet t k v) j = if j = k then some v else mapGet t j := by
  have key : ∀ u : Tbl α, (∀ e ∈ u, e.1 ≠ k) →
      mapGet (tblInsert u k v) j = if j = k then some v else mapGet u j := by
    intro u
    induction u with
    | nil =>
      intro _
      by_cases hj : j = k
      · simp [tblInsert, mapGet, hj]
      · simp [tblInsert, mapGet, hj, Ne.symm hj]
    | cons e r ih =>
      obtain ⟨a, w⟩ := e
      intro h
      have ha : a ≠ k := h (a, w) (by simp)
      have hr : ∀ e ∈ r, e.1 ≠ k := fun e he => h e (by simp [he])
      by_cases hlt : k < a
      · by_cases hj : j = k
        · simp [tblInsert, mapGet, hlt, hj]
        · simp [tblInsert, mapGet, hlt, hj, Ne.symm hj]
      · by_cases haj : a = j
        · subst haj; simp [tblInsert, mapGet, hlt, ha]
        · simp [tblInsert, mapGet, hlt, haj, ih hr]
  unfold mapSet
  rw [key _ (not_mem_tblErase t k)]
  by_cases hj : j = k
  · simp [hj]
  · simp [hj, mapGet_tblErase_other t hj]

@[simp] theorem mapGet_mapSet_same (t : Tbl α) (k : Nat) (v : α) : mapGet (mapSet t k v) k = some v := by
  simp [mapGet_mapSet]

@[simp] theorem mapGetD_mapSet_same (t : Tbl α) (k : Nat) (v d : α) : mapGetD (mapSet t k v) k d = v := by
  simp [mapGetD]

theorem mapGetD_mapSet_other (t : Tbl α) {j k : Nat} (v d : α) (h : j ≠ k) :
    mapGetD (mapSet t k v) j d = mapGetD t j d := by simp [mapGetD, mapGet_mapSet, h]

theorem tblWf_tblErase [DecidableEq α] (d : Nat → α) (t : Tbl α) (k : Nat) (h : tblWf d t = true) :
    tblWf d (tblErase t k) = true := by
  have sub : ∀ (u : Tbl α) (p : Nat × α → Bool), u.all p = true → (tblErase u k).all p = true := by
    intro u p hu
    induction u with
    | nil => rfl
    | cons e r ih =>
      obtain ⟨a, v⟩ := e
      simp only [List.all_cons, Bool.and_eq_true] at hu
      by_cases hk : a = k
      · simpa [tblErase, hk] using ih hu.2
      · simp [tblErase, hk, hu.1, ih hu.2]
  induction t with
  | nil => rfl
  | cons e r ih =>
    obtain ⟨a, v⟩ := e
    simp only [tblWf, Bool.and_eq_true] at h
    by_cases hk : a = k
    · simpa [tblErase, hk] using ih h.2
    · simp only [tblErase, hk, if_false, tblWf, Bool.and_eq_true]
      exact ⟨⟨h.1.1, sub r _ h.1.2⟩, ih h.2⟩

theorem tblWf_tblInsert [DecidableEq α] (d : Nat → α) (t : Tbl α) (k : Nat) (v : α) (hv : v ≠ d k)
    (hk : ∀ e ∈ t, e.1 ≠ k) (h : tblWf d t = true) : tblWf d (tblInsert t k v) = true := by
  have keep : ∀ (u : Tbl α) (p : Nat × α → Bool), p (k, v) = true → u.all p = true →
      (tblInsert u k v).all p = true := by
    intro u p hp hu
    induction u with
    | nil => simp [tblInsert, hp]
    | cons e r ih =>
      obtain ⟨a, w⟩ := e
      simp only [List.all_cons, Bool.and_eq_true] at hu
      by_cases hlt : k < a
      · simp only [tblInsert, if_pos hlt, List.all_cons, hp, Bool.true_and, Bool.and_eq_true]
        exact hu
      · simp [tblInsert, hlt, hu.1, ih hu.2]
  induction t with
  | nil => simp [tblInsert, tblWf, hv]
  | cons e r ih =>
    obtain ⟨a, w⟩ := e
    simp only [tblWf, Bool.and_eq_true] at h
    have ha : a ≠ k := hk (a, w) (by simp)
    have hr : ∀ e ∈ r, e.1 ≠ k := fun e he => hk e (by simp [he])
    by_cases hlt : k < a
    · simp only [tblInsert, hlt, if_true, tblWf, Bool.and_eq_true, List.all_cons, decide_eq_true_eq]
      have h2 := h.1.2
      simp only [List.all_eq_true, decide_eq_true_eq] at h2
      refine ⟨⟨hv, ⟨trivial, ?_⟩⟩, ⟨by simpa using h.1.1, h.1.2⟩, h.2⟩
      simp only [List.all_eq_true, decide_eq_true_eq]
      exact fun e he => Nat.lt_trans hlt (h2 e he)
    · simp only [tblInsert, hlt, if_false, tblWf, Bool.and_eq_true]
      refine ⟨⟨h.1.1, keep r _ (by simp; omega) h.1.2⟩, ih hr h.2⟩

theorem tblWf_tblSet [DecidableEq α] (d : Nat → α) (t : Tbl α) (k : Nat) (v : α) (h : tblWf d t = true) :
    tblWf d (tblSet d t k v) = true := by
  unfold tblSet
  split
  · exact tblWf_tblErase d t k h
  · rename_i hv
    exact tblWf_tblInsert d _ k v hv (not_mem_tblErase t k) (tblWf_tblErase d t k h)

theorem tblWf_filter [DecidableEq α] (d : Nat → α) (t : Tbl α) (p : Nat × α → Bool) (h : tblWf d t = true) :
    tblWf d (t.filter p) = true := by
  induction t with
  | nil => rfl
  | cons e r ih =>
    obtain ⟨a, v⟩ := e
    simp only [tblWf, Bool.and_eq_true] at h
    by_cases hp : p (a, v)
    · simp only [List.filter, hp, tblWf, Bool.and_eq_true]
      refine ⟨⟨h.1.1, ?_⟩, ih h.2⟩
      have h2 := h.1.2
      simp only [List.all_eq_true] at h2 ⊢
      exact fun e he => h2 e (List.mem_filter.1 he).1
    · simpa [List.filter, hp] using ih h.2

end Sys2Proof.Machine
end

