-- ==== Sys2Proof/Laws/Regs.lean ====
section
/-! SUPPORT. The laws of the register file: what a field reads after a write of the same field, of another
field of its word, and of another register; and that every write keeps the canonical form. -/
namespace Sys2Proof.Machine

/-- Two fields that share no bit. -/
def Fld.apart (f g : Fld) : Bool :=
  decide (f.off ≠ g.off) || decide (f.lo + f.w ≤ g.lo) || decide (g.lo + g.w ≤ f.lo)

/-- A field that lies inside its word. -/
def Fld.fits (f : Fld) : Bool := decide (f.lo + f.w ≤ 32)

theorem testBit_putBits (x : Word) (lo w v i : Nat) (hi : i < 32) :
    (putBits x lo w v).toNat.testBit i =
      if lo ≤ i ∧ i < lo + w then v.testBit (i - lo) else x.toNat.testBit i := by
  have e1 : (2 ^ w - 1) * 2 ^ lo = (2 ^ w - 1) <<< lo := by rw [Nat.shiftLeft_eq]
  have e2 : (v % 2 ^ w) * 2 ^ lo = (v % 2 ^ w) <<< lo := by rw [Nat.shiftLeft_eq]
  have lhs : (putBits x lo w v).toNat.testBit i = (putBits x lo w v).getLsbD i := by
    simp [BitVec.getLsbD]
  rw [lhs]
  unfold putBits
  rw [e1, e2]
  simp only [BitVec.getLsbD_or, BitVec.getLsbD_and, BitVec.getLsbD_not, BitVec.getLsbD_ofNat, hi,
    decide_true, Bool.true_and, Nat.testBit_shiftLeft, Nat.testBit_mod_two_pow, Nat.testBit_two_pow_sub_one]
  by_cases h1 : lo ≤ i <;> by_cases h2 : i < lo + w
  · have : i - lo < w := by omega
    simp [h1, h2, this]
  · have : ¬ i - lo < w := by omega
    simp [h1, h2, this, BitVec.getLsbD]
  · simp [h1, BitVec.getLsbD]
  · simp [h1, BitVec.getLsbD]

theorem testBit_getBits (x : Word) (lo w i : Nat) :
    (getBits x lo w).testBit i = (decide (i < w) && x.toNat.testBit (lo + i)) := by
  unfold getBits
  rw [← Nat.shiftRight_eq_div_pow, Nat.testBit_mod_two_pow, Nat.testBit_shiftRight]

theorem getBits_putBits_same (x : Word) (lo w v : Nat) (h : lo + w ≤ 32) :
    getBits (putBits x lo w v) lo w = v % 2 ^ w := by
  apply Nat.eq_of_testBit_eq
  intro i
  rw [testBit_getBits, Nat.testBit_mod_two_pow]
  by_cases hi : i < w
  · rw [testBit_putBits x lo w v (lo + i) (by omega)]
    have h1 : lo ≤ lo + i ∧ lo + i < lo + w := by omega
    rw [if_pos h1]
    congr 2
    omega
  · simp [hi]

theorem getBits_putBits_apart (x : Word) (lo w v lo' w' : Nat) (h : lo + w ≤ 32) (h' : lo' + w' ≤ 32)
    (ha : lo + w ≤ lo' ∨ lo' + w' ≤ lo) : getBits (putBits x lo w v) lo' w' = getBits x lo' w' := by
  apply Nat.eq_of_testBit_eq
  intro i
  rw [testBit_getBits, testBit_getBits]
  by_cases hi : i < w'
  · rw [testBit_putBits x lo w v (lo' + i) (by omega), if_neg (by omega)]
  · simp [hi]

theorem State.word_setWord (s : State) (o p : Nat) (w : Word) :
    (s.setWord o w).word p = if p = o then w else s.word p := by
  unfold State.word State.setWord
  exact tblGet_tblSet resetWord s.regs p o w

@[simp] theorem State.word_setWord_same (s : State) (o : Nat) (w : Word) : (s.setWord o w).word o = w := by
  simp [State.word_setWord]

theorem State.word_setWord_other (s : State) {o p : Nat} (w : Word) (h : p ≠ o) :
    (s.setWord o w).word p = s.word p := by simp [State.word_setWord, h]

theorem State.word_wr_other (s : State) (f : Fld) (v : Nat) {p : Nat} (h : p ≠ f.off) :
    (s.wr f v).word p = s.word p := s.word_setWord_other _ h

/-- A field reads what was written, modulo its width. -/
theorem State.rd_wr_same (s : State) (f : Fld) (v : Nat) (h : f.fits = true) :
    (s.wr f v).rd f = v % 2 ^ f.w := by
  unfold State.rd State.wr
  rw [State.word_setWord_same]
  exact getBits_putBits_same _ _ _ _ (by simpa [Fld.fits] using h)

/-- A write leaves every field that shares no bit with it. -/
theorem State.rd_wr_apart (s : State) (f g : Fld) (v : Nat) (h : f.fits = true) (h' : g.fits = true)
    (ha : f.apart g = true) : (s.wr f v).rd g = s.rd g := by
  unfold State.rd State.wr
  simp only [Fld.fits, decide_eq_true_eq] at h h'
  simp only [Fld.apart, Bool.or_eq_true, decide_eq_true_eq] at ha
  by_cases ho : g.off = f.off
  · rw [ho, State.word_setWord_same]
    exact getBits_putBits_apart _ _ _ _ _ _ h h' (by
      rcases ha with (h1 | h1) | h1
      · exact absurd ho.symm h1
      · exact Or.inl h1
      · exact Or.inr h1)
  · rw [State.word_setWord_other _ _ ho]

theorem State.rd_put_same (s : State) (f : Fld) (b : Bool) (h : f.fits = true) (hw : f.w = 1) :
    (s.put f b).on f = b := by
  unfold State.put State.on
  rw [State.rd_wr_same s f _ h, hw]
  cases b <;> rfl

theorem State.rd_put_apart (s : State) (f g : Fld) (b : Bool) (h : f.fits = true) (h' : g.fits = true)
    (ha : f.apart g = true) : (s.put f b).rd g = s.rd g := s.rd_wr_apart f g _ h h' ha

theorem State.on_put_apart (s : State) (f g : Fld) (b : Bool) (h : f.fits = true) (h' : g.fits = true)
    (ha : f.apart g = true) : (s.put f b).on g = s.on g := by
  unfold State.on; rw [State.rd_put_apart s f g b h h' ha]

theorem State.on_wr_apart (s : State) (f g : Fld) (v : Nat) (h : f.fits = true) (h' : g.fits = true)
    (ha : f.apart g = true) : (s.wr f v).on g = s.on g := by
  unfold State.on; rw [State.rd_wr_apart s f g v h h' ha]

/-- A field never exceeds its width. -/
theorem State.rd_lt (s : State) (f : Fld) : s.rd f < 2 ^ f.w := Nat.mod_lt _ (Nat.two_pow_pos _)

/-- A counter counts and stays at its largest value (R931). -/
theorem State.rd_count_same (s : State) (f : Fld) (n : Nat) (h : f.fits = true) :
    (s.count f n).rd f = satAdd (s.rd f) n (2 ^ f.w - 1) := by
  unfold State.count
  rw [State.rd_wr_same s f _ h]
  apply Nat.mod_eq_of_lt
  have := Nat.two_pow_pos f.w
  have := satAdd_le_top (s.rd f) n (2 ^ f.w - 1)
  omega

theorem State.rd_count_apart (s : State) (f g : Fld) (n : Nat) (h : f.fits = true) (h' : g.fits = true)
    (ha : f.apart g = true) : (s.count f n).rd g = s.rd g := s.rd_wr_apart f g _ h h' ha

theorem State.setWord_canon (s : State) (o : Nat) (w : Word) (h : tblWf resetWord s.regs = true) :
    tblWf resetWord (s.setWord o w).regs = true := tblWf_tblSet resetWord s.regs o w h

theorem State.wr_canon (s : State) (f : Fld) (v : Nat) (h : tblWf resetWord s.regs = true) :
    tblWf resetWord (s.wr f v).regs = true := s.setWord_canon _ _ h

theorem State.resetRange_canon (s : State) (lo hi : Nat) (h : tblWf resetWord s.regs = true) :
    tblWf resetWord (s.resetRange lo hi).regs = true := tblWf_filter resetWord s.regs _ h

/-- A register range taken back to its Reset values reads them (R938). -/
theorem State.word_resetRange (s : State) (lo hi p : Nat) (h : lo ≤ p) (h' : p < hi) :
    (s.resetRange lo hi).word p = resetWord p := by
  unfold State.word State.resetRange
  have : ∀ t : Tbl Word,
      tblGet resetWord (t.filter (fun e => !(decide (lo ≤ e.1) && decide (e.1 < hi)))) p = resetWord p := by
    intro t
    induction t with
    | nil => rfl
    | cons e r ih =>
      obtain ⟨a, v⟩ := e
      by_cases hp : (!(decide (lo ≤ a) && decide (a < hi))) = true
      · rw [List.filter_cons_of_pos (by exact hp)]
        have : a ≠ p := by
          rintro rfl
          simp [h, h'] at hp
        rw [tblGet, if_neg this]
        exact ih
      · rw [List.filter_cons_of_neg (by exact hp)]
        exact ih
  exact this s.regs

end Sys2Proof.Machine
end

