-- ==== Sys2Proof/Laws/State.lean ====
section
/-! SUPPORT. What the shared updates of the state leave alone: one lemma per field per update, so that no
later proof unfolds a record update. -/
namespace Sys2Proof.Machine

@[simp] theorem State.setWord_pending (s : State) (o : Nat) (w : Word) : (s.setWord o w).pending = s.pending := rfl
@[simp] theorem State.setWord_free (s : State) (o : Nat) (w : Word) : (s.setWord o w).free = s.free := rfl
@[simp] theorem State.setWord_latches (s : State) (o : Nat) (w : Word) : (s.setWord o w).latches = s.latches := rfl
@[simp] theorem State.setWord_silt (s : State) (o : Nat) (w : Word) : (s.setWord o w).silt = s.silt := rfl
@[simp] theorem State.setWord_time (s : State) (o : Nat) (w : Word) : (s.setWord o w).time = s.time := rfl
@[simp] theorem State.setWord_epoch (s : State) (o : Nat) (w : Word) : (s.setWord o w).epoch = s.epoch := rfl
@[simp] theorem State.setWord_ports (s : State) (o : Nat) (w : Word) : (s.setWord o w).ports = s.ports := rfl
@[simp] theorem State.setWord_evins (s : State) (o : Nat) (w : Word) : (s.setWord o w).evins = s.evins := rfl
@[simp] theorem State.setWord_starts (s : State) (o : Nat) (w : Word) : (s.setWord o w).starts = s.starts := rfl
@[simp] theorem State.setWord_ref (s : State) (o : Nat) (w : Word) : (s.setWord o w).ref = s.ref := rfl
@[simp] theorem State.setWord_host (s : State) (o : Nat) (w : Word) : (s.setWord o w).host = s.host := rfl
@[simp] theorem State.setWord_routes (s : State) (o : Nat) (w : Word) : (s.setWord o w).routes = s.routes := rfl
@[simp] theorem State.setWord_params (s : State) (o : Nat) (w : Word) : (s.setWord o w).params = s.params := rfl
@[simp] theorem State.setWord_gains (s : State) (o : Nat) (w : Word) : (s.setWord o w).gains = s.gains := rfl
@[simp] theorem State.setWord_txn (s : State) (o : Nat) (w : Word) : (s.setWord o w).txn = s.txn := rfl
@[simp] theorem State.setWord_plan (s : State) (o : Nat) (w : Word) : (s.setWord o w).plan = s.plan := rfl
@[simp] theorem State.setWord_eng (s : State) (o : Nat) (w : Word) : (s.setWord o w).eng = s.eng := rfl
@[simp] theorem State.setWord_guard (s : State) (o : Nat) (w : Word) : (s.setWord o w).guard = s.guard := rfl
@[simp] theorem State.setWord_ouv (s : State) (o : Nat) (w : Word) : (s.setWord o w).ouv = s.ouv := rfl
@[simp] theorem State.setWord_strm (s : State) (o : Nat) (w : Word) : (s.setWord o w).strm = s.strm := rfl
@[simp] theorem State.setWord_net (s : State) (o : Nat) (w : Word) : (s.setWord o w).net = s.net := rfl
@[simp] theorem State.setWord_store (s : State) (o : Nat) (w : Word) : (s.setWord o w).store = s.store := rfl
@[simp] theorem State.setWord_sec (s : State) (o : Nat) (w : Word) : (s.setWord o w).sec = s.sec := rfl
@[simp] theorem State.setWord_pwr (s : State) (o : Nat) (w : Word) : (s.setWord o w).pwr = s.pwr := rfl
@[simp] theorem State.setWord_bus (s : State) (o : Nat) (w : Word) : (s.setWord o w).bus = s.bus := rfl
@[simp] theorem State.setWord_dram (s : State) (o : Nat) (w : Word) : (s.setWord o w).dram = s.dram := rfl
@[simp] theorem State.setWord_dma (s : State) (o : Nat) (w : Word) : (s.setWord o w).dma = s.dma := rfl
@[simp] theorem State.setWord_dsp0 (s : State) (o : Nat) (w : Word) : (s.setWord o w).dsp0 = s.dsp0 := rfl
@[simp] theorem State.setWord_dsp1 (s : State) (o : Nat) (w : Word) : (s.setWord o w).dsp1 = s.dsp1 := rfl
@[simp] theorem State.setWord_old (s : State) (o : Nat) (w : Word) : (s.setWord o w).old = s.old := rfl
@[simp] theorem State.setWord_past (s : State) (o : Nat) (w : Word) : (s.setWord o w).past = s.past := rfl
@[simp] theorem State.setWord_meters (s : State) (o : Nat) (w : Word) : (s.setWord o w).meters = s.meters := rfl
@[simp] theorem State.setWord_caps (s : State) (o : Nat) (w : Word) : (s.setWord o w).caps = s.caps := rfl
@[simp] theorem State.setWord_sap (s : State) (o : Nat) (w : Word) : (s.setWord o w).sap = s.sap := rfl
@[simp] theorem State.setWord_skimIn (s : State) (o : Nat) (w : Word) : (s.setWord o w).skimIn = s.skimIn := rfl
@[simp] theorem State.setWord_modCh (s : State) (o : Nat) (w : Word) : (s.setWord o w).modCh = s.modCh := rfl
@[simp] theorem State.setWord_modG (s : State) (o : Nat) (w : Word) : (s.setWord o w).modG = s.modG := rfl
@[simp] theorem State.setWord_muteRise (s : State) (o : Nat) (w : Word) : (s.setWord o w).muteRise = s.muteRise := rfl
@[simp] theorem State.setWord_modFade (s : State) (o : Nat) (w : Word) : (s.setWord o w).modFade = s.modFade := rfl
@[simp] theorem State.setWord_tilCh (s : State) (o : Nat) (w : Word) : (s.setWord o w).tilCh = s.tilCh := rfl
@[simp] theorem State.setWord_tilG (s : State) (o : Nat) (w : Word) : (s.setWord o w).tilG = s.tilG := rfl
@[simp] theorem State.setWord_lanes (s : State) (o : Nat) (w : Word) : (s.setWord o w).lanes = s.lanes := rfl
@[simp] theorem State.setWord_dramLines (s : State) (o : Nat) (w : Word) : (s.setWord o w).dramLines = s.dramLines := rfl

@[simp] theorem State.wr_pending (s : State) (f : Fld) (v : Nat) : (s.wr f v).pending = s.pending := rfl
@[simp] theorem State.wr_free (s : State) (f : Fld) (v : Nat) : (s.wr f v).free = s.free := rfl
@[simp] theorem State.wr_latches (s : State) (f : Fld) (v : Nat) : (s.wr f v).latches = s.latches := rfl
@[simp] theorem State.wr_silt (s : State) (f : Fld) (v : Nat) : (s.wr f v).silt = s.silt := rfl
@[simp] theorem State.wr_time (s : State) (f : Fld) (v : Nat) : (s.wr f v).time = s.time := rfl
@[simp] theorem State.wr_epoch (s : State) (f : Fld) (v : Nat) : (s.wr f v).epoch = s.epoch := rfl
@[simp] theorem State.wr_ports (s : State) (f : Fld) (v : Nat) : (s.wr f v).ports = s.ports := rfl
@[simp] theorem State.wr_evins (s : State) (f : Fld) (v : Nat) : (s.wr f v).evins = s.evins := rfl
@[simp] theorem State.wr_starts (s : State) (f : Fld) (v : Nat) : (s.wr f v).starts = s.starts := rfl
@[simp] theorem State.wr_ref (s : State) (f : Fld) (v : Nat) : (s.wr f v).ref = s.ref := rfl
@[simp] theorem State.wr_host (s : State) (f : Fld) (v : Nat) : (s.wr f v).host = s.host := rfl
@[simp] theorem State.wr_routes (s : State) (f : Fld) (v : Nat) : (s.wr f v).routes = s.routes := rfl
@[simp] theorem State.wr_params (s : State) (f : Fld) (v : Nat) : (s.wr f v).params = s.params := rfl
@[simp] theorem State.wr_gains (s : State) (f : Fld) (v : Nat) : (s.wr f v).gains = s.gains := rfl
@[simp] theorem State.wr_txn (s : State) (f : Fld) (v : Nat) : (s.wr f v).txn = s.txn := rfl
@[simp] theorem State.wr_plan (s : State) (f : Fld) (v : Nat) : (s.wr f v).plan = s.plan := rfl
@[simp] theorem State.wr_eng (s : State) (f : Fld) (v : Nat) : (s.wr f v).eng = s.eng := rfl
@[simp] theorem State.wr_guard (s : State) (f : Fld) (v : Nat) : (s.wr f v).guard = s.guard := rfl
@[simp] theorem State.wr_ouv (s : State) (f : Fld) (v : Nat) : (s.wr f v).ouv = s.ouv := rfl
@[simp] theorem State.wr_strm (s : State) (f : Fld) (v : Nat) : (s.wr f v).strm = s.strm := rfl
@[simp] theorem State.wr_net (s : State) (f : Fld) (v : Nat) : (s.wr f v).net = s.net := rfl
@[simp] theorem State.wr_store (s : State) (f : Fld) (v : Nat) : (s.wr f v).store = s.store := rfl
@[simp] theorem State.wr_sec (s : State) (f : Fld) (v : Nat) : (s.wr f v).sec = s.sec := rfl
@[simp] theorem State.wr_pwr (s : State) (f : Fld) (v : Nat) : (s.wr f v).pwr = s.pwr := rfl
@[simp] theorem State.wr_bus (s : State) (f : Fld) (v : Nat) : (s.wr f v).bus = s.bus := rfl
@[simp] theorem State.wr_dram (s : State) (f : Fld) (v : Nat) : (s.wr f v).dram = s.dram := rfl
@[simp] theorem State.wr_dma (s : State) (f : Fld) (v : Nat) : (s.wr f v).dma = s.dma := rfl
@[simp] theorem State.wr_dsp0 (s : State) (f : Fld) (v : Nat) : (s.wr f v).dsp0 = s.dsp0 := rfl
@[simp] theorem State.wr_dsp1 (s : State) (f : Fld) (v : Nat) : (s.wr f v).dsp1 = s.dsp1 := rfl
@[simp] theorem State.wr_old (s : State) (f : Fld) (v : Nat) : (s.wr f v).old = s.old := rfl
@[simp] theorem State.wr_past (s : State) (f : Fld) (v : Nat) : (s.wr f v).past = s.past := rfl
@[simp] theorem State.wr_meters (s : State) (f : Fld) (v : Nat) : (s.wr f v).meters = s.meters := rfl
@[simp] theorem State.wr_caps (s : State) (f : Fld) (v : Nat) : (s.wr f v).caps = s.caps := rfl
@[simp] theorem State.wr_sap (s : State) (f : Fld) (v : Nat) : (s.wr f v).sap = s.sap := rfl
@[simp] theorem State.wr_skimIn (s : State) (f : Fld) (v : Nat) : (s.wr f v).skimIn = s.skimIn := rfl
@[simp] theorem State.wr_modCh (s : State) (f : Fld) (v : Nat) : (s.wr f v).modCh = s.modCh := rfl
@[simp] theorem State.wr_modG (s : State) (f : Fld) (v : Nat) : (s.wr f v).modG = s.modG := rfl
@[simp] theorem State.wr_muteRise (s : State) (f : Fld) (v : Nat) : (s.wr f v).muteRise = s.muteRise := rfl
@[simp] theorem State.wr_modFade (s : State) (f : Fld) (v : Nat) : (s.wr f v).modFade = s.modFade := rfl
@[simp] theorem State.wr_tilCh (s : State) (f : Fld) (v : Nat) : (s.wr f v).tilCh = s.tilCh := rfl
@[simp] theorem State.wr_tilG (s : State) (f : Fld) (v : Nat) : (s.wr f v).tilG = s.tilG := rfl
@[simp] theorem State.wr_lanes (s : State) (f : Fld) (v : Nat) : (s.wr f v).lanes = s.lanes := rfl
@[simp] theorem State.wr_dramLines (s : State) (f : Fld) (v : Nat) : (s.wr f v).dramLines = s.dramLines := rfl

@[simp] theorem State.put_pending (s : State) (f : Fld) (b : Bool) : (s.put f b).pending = s.pending := rfl
@[simp] theorem State.put_free (s : State) (f : Fld) (b : Bool) : (s.put f b).free = s.free := rfl
@[simp] theorem State.put_latches (s : State) (f : Fld) (b : Bool) : (s.put f b).latches = s.latches := rfl
@[simp] theorem State.put_silt (s : State) (f : Fld) (b : Bool) : (s.put f b).silt = s.silt := rfl
@[simp] theorem State.put_time (s : State) (f : Fld) (b : Bool) : (s.put f b).time = s.time := rfl
@[simp] theorem State.put_epoch (s : State) (f : Fld) (b : Bool) : (s.put f b).epoch = s.epoch := rfl
@[simp] theorem State.put_ports (s : State) (f : Fld) (b : Bool) : (s.put f b).ports = s.ports := rfl
@[simp] theorem State.put_evins (s : State) (f : Fld) (b : Bool) : (s.put f b).evins = s.evins := rfl
@[simp] theorem State.put_starts (s : State) (f : Fld) (b : Bool) : (s.put f b).starts = s.starts := rfl
@[simp] theorem State.put_ref (s : State) (f : Fld) (b : Bool) : (s.put f b).ref = s.ref := rfl
@[simp] theorem State.put_host (s : State) (f : Fld) (b : Bool) : (s.put f b).host = s.host := rfl
@[simp] theorem State.put_routes (s : State) (f : Fld) (b : Bool) : (s.put f b).routes = s.routes := rfl
@[simp] theorem State.put_params (s : State) (f : Fld) (b : Bool) : (s.put f b).params = s.params := rfl
@[simp] theorem State.put_gains (s : State) (f : Fld) (b : Bool) : (s.put f b).gains = s.gains := rfl
@[simp] theorem State.put_txn (s : State) (f : Fld) (b : Bool) : (s.put f b).txn = s.txn := rfl
@[simp] theorem State.put_plan (s : State) (f : Fld) (b : Bool) : (s.put f b).plan = s.plan := rfl
@[simp] theorem State.put_eng (s : State) (f : Fld) (b : Bool) : (s.put f b).eng = s.eng := rfl
@[simp] theorem State.put_guard (s : State) (f : Fld) (b : Bool) : (s.put f b).guard = s.guard := rfl
@[simp] theorem State.put_ouv (s : State) (f : Fld) (b : Bool) : (s.put f b).ouv = s.ouv := rfl
@[simp] theorem State.put_strm (s : State) (f : Fld) (b : Bool) : (s.put f b).strm = s.strm := rfl
@[simp] theorem State.put_net (s : State) (f : Fld) (b : Bool) : (s.put f b).net = s.net := rfl
@[simp] theorem State.put_store (s : State) (f : Fld) (b : Bool) : (s.put f b).store = s.store := rfl
@[simp] theorem State.put_sec (s : State) (f : Fld) (b : Bool) : (s.put f b).sec = s.sec := rfl
@[simp] theorem State.put_pwr (s : State) (f : Fld) (b : Bool) : (s.put f b).pwr = s.pwr := rfl
@[simp] theorem State.put_bus (s : State) (f : Fld) (b : Bool) : (s.put f b).bus = s.bus := rfl
@[simp] theorem State.put_dram (s : State) (f : Fld) (b : Bool) : (s.put f b).dram = s.dram := rfl
@[simp] theorem State.put_dma (s : State) (f : Fld) (b : Bool) : (s.put f b).dma = s.dma := rfl
@[simp] theorem State.put_dsp0 (s : State) (f : Fld) (b : Bool) : (s.put f b).dsp0 = s.dsp0 := rfl
@[simp] theorem State.put_dsp1 (s : State) (f : Fld) (b : Bool) : (s.put f b).dsp1 = s.dsp1 := rfl
@[simp] theorem State.put_old (s : State) (f : Fld) (b : Bool) : (s.put f b).old = s.old := rfl
@[simp] theorem State.put_past (s : State) (f : Fld) (b : Bool) : (s.put f b).past = s.past := rfl
@[simp] theorem State.put_meters (s : State) (f : Fld) (b : Bool) : (s.put f b).meters = s.meters := rfl
@[simp] theorem State.put_caps (s : State) (f : Fld) (b : Bool) : (s.put f b).caps = s.caps := rfl
@[simp] theorem State.put_sap (s : State) (f : Fld) (b : Bool) : (s.put f b).sap = s.sap := rfl
@[simp] theorem State.put_skimIn (s : State) (f : Fld) (b : Bool) : (s.put f b).skimIn = s.skimIn := rfl
@[simp] theorem State.put_modCh (s : State) (f : Fld) (b : Bool) : (s.put f b).modCh = s.modCh := rfl
@[simp] theorem State.put_modG (s : State) (f : Fld) (b : Bool) : (s.put f b).modG = s.modG := rfl
@[simp] theorem State.put_muteRise (s : State) (f : Fld) (b : Bool) : (s.put f b).muteRise = s.muteRise := rfl
@[simp] theorem State.put_modFade (s : State) (f : Fld) (b : Bool) : (s.put f b).modFade = s.modFade := rfl
@[simp] theorem State.put_tilCh (s : State) (f : Fld) (b : Bool) : (s.put f b).tilCh = s.tilCh := rfl
@[simp] theorem State.put_tilG (s : State) (f : Fld) (b : Bool) : (s.put f b).tilG = s.tilG := rfl
@[simp] theorem State.put_lanes (s : State) (f : Fld) (b : Bool) : (s.put f b).lanes = s.lanes := rfl
@[simp] theorem State.put_dramLines (s : State) (f : Fld) (b : Bool) : (s.put f b).dramLines = s.dramLines := rfl

@[simp] theorem State.wrInt_pending (s : State) (f : Fld) (v : Int) : (s.wrInt f v).pending = s.pending := rfl
@[simp] theorem State.wrInt_free (s : State) (f : Fld) (v : Int) : (s.wrInt f v).free = s.free := rfl
@[simp] theorem State.wrInt_latches (s : State) (f : Fld) (v : Int) : (s.wrInt f v).latches = s.latches := rfl
@[simp] theorem State.wrInt_silt (s : State) (f : Fld) (v : Int) : (s.wrInt f v).silt = s.silt := rfl
@[simp] theorem State.wrInt_time (s : State) (f : Fld) (v : Int) : (s.wrInt f v).time = s.time := rfl
@[simp] theorem State.wrInt_epoch (s : State) (f : Fld) (v : Int) : (s.wrInt f v).epoch = s.epoch := rfl
@[simp] theorem State.wrInt_ports (s : State) (f : Fld) (v : Int) : (s.wrInt f v).ports = s.ports := rfl
@[simp] theorem State.wrInt_evins (s : State) (f : Fld) (v : Int) : (s.wrInt f v).evins = s.evins := rfl
@[simp] theorem State.wrInt_starts (s : State) (f : Fld) (v : Int) : (s.wrInt f v).starts = s.starts := rfl
@[simp] theorem State.wrInt_ref (s : State) (f : Fld) (v : Int) : (s.wrInt f v).ref = s.ref := rfl
@[simp] theorem State.wrInt_host (s : State) (f : Fld) (v : Int) : (s.wrInt f v).host = s.host := rfl
@[simp] theorem State.wrInt_routes (s : State) (f : Fld) (v : Int) : (s.wrInt f v).routes = s.routes := rfl
@[simp] theorem State.wrInt_params (s : State) (f : Fld) (v : Int) : (s.wrInt f v).params = s.params := rfl
@[simp] theorem State.wrInt_gains (s : State) (f : Fld) (v : Int) : (s.wrInt f v).gains = s.gains := rfl
@[simp] theorem State.wrInt_txn (s : State) (f : Fld) (v : Int) : (s.wrInt f v).txn = s.txn := rfl
@[simp] theorem State.wrInt_plan (s : State) (f : Fld) (v : Int) : (s.wrInt f v).plan = s.plan := rfl
@[simp] theorem State.wrInt_eng (s : State) (f : Fld) (v : Int) : (s.wrInt f v).eng = s.eng := rfl
@[simp] theorem State.wrInt_guard (s : State) (f : Fld) (v : Int) : (s.wrInt f v).guard = s.guard := rfl
@[simp] theorem State.wrInt_ouv (s : State) (f : Fld) (v : Int) : (s.wrInt f v).ouv = s.ouv := rfl
@[simp] theorem State.wrInt_strm (s : State) (f : Fld) (v : Int) : (s.wrInt f v).strm = s.strm := rfl
@[simp] theorem State.wrInt_net (s : State) (f : Fld) (v : Int) : (s.wrInt f v).net = s.net := rfl
@[simp] theorem State.wrInt_store (s : State) (f : Fld) (v : Int) : (s.wrInt f v).store = s.store := rfl
@[simp] theorem State.wrInt_sec (s : State) (f : Fld) (v : Int) : (s.wrInt f v).sec = s.sec := rfl
@[simp] theorem State.wrInt_pwr (s : State) (f : Fld) (v : Int) : (s.wrInt f v).pwr = s.pwr := rfl
@[simp] theorem State.wrInt_bus (s : State) (f : Fld) (v : Int) : (s.wrInt f v).bus = s.bus := rfl
@[simp] theorem State.wrInt_dram (s : State) (f : Fld) (v : Int) : (s.wrInt f v).dram = s.dram := rfl
@[simp] theorem State.wrInt_dma (s : State) (f : Fld) (v : Int) : (s.wrInt f v).dma = s.dma := rfl
@[simp] theorem State.wrInt_dsp0 (s : State) (f : Fld) (v : Int) : (s.wrInt f v).dsp0 = s.dsp0 := rfl
@[simp] theorem State.wrInt_dsp1 (s : State) (f : Fld) (v : Int) : (s.wrInt f v).dsp1 = s.dsp1 := rfl
@[simp] theorem State.wrInt_old (s : State) (f : Fld) (v : Int) : (s.wrInt f v).old = s.old := rfl
@[simp] theorem State.wrInt_past (s : State) (f : Fld) (v : Int) : (s.wrInt f v).past = s.past := rfl
@[simp] theorem State.wrInt_meters (s : State) (f : Fld) (v : Int) : (s.wrInt f v).meters = s.meters := rfl
@[simp] theorem State.wrInt_caps (s : State) (f : Fld) (v : Int) : (s.wrInt f v).caps = s.caps := rfl
@[simp] theorem State.wrInt_sap (s : State) (f : Fld) (v : Int) : (s.wrInt f v).sap = s.sap := rfl
@[simp] theorem State.wrInt_skimIn (s : State) (f : Fld) (v : Int) : (s.wrInt f v).skimIn = s.skimIn := rfl
@[simp] theorem State.wrInt_modCh (s : State) (f : Fld) (v : Int) : (s.wrInt f v).modCh = s.modCh := rfl
@[simp] theorem State.wrInt_modG (s : State) (f : Fld) (v : Int) : (s.wrInt f v).modG = s.modG := rfl
@[simp] theorem State.wrInt_muteRise (s : State) (f : Fld) (v : Int) : (s.wrInt f v).muteRise = s.muteRise := rfl
@[simp] theorem State.wrInt_modFade (s : State) (f : Fld) (v : Int) : (s.wrInt f v).modFade = s.modFade := rfl
@[simp] theorem State.wrInt_tilCh (s : State) (f : Fld) (v : Int) : (s.wrInt f v).tilCh = s.tilCh := rfl
@[simp] theorem State.wrInt_tilG (s : State) (f : Fld) (v : Int) : (s.wrInt f v).tilG = s.tilG := rfl
@[simp] theorem State.wrInt_lanes (s : State) (f : Fld) (v : Int) : (s.wrInt f v).lanes = s.lanes := rfl
@[simp] theorem State.wrInt_dramLines (s : State) (f : Fld) (v : Int) : (s.wrInt f v).dramLines = s.dramLines := rfl

@[simp] theorem State.wrSat_pending (s : State) (f : Fld) (v : Nat) : (s.wrSat f v).pending = s.pending := rfl
@[simp] theorem State.wrSat_free (s : State) (f : Fld) (v : Nat) : (s.wrSat f v).free = s.free := rfl
@[simp] theorem State.wrSat_latches (s : State) (f : Fld) (v : Nat) : (s.wrSat f v).latches = s.latches := rfl
@[simp] theorem State.wrSat_silt (s : State) (f : Fld) (v : Nat) : (s.wrSat f v).silt = s.silt := rfl
@[simp] theorem State.wrSat_time (s : State) (f : Fld) (v : Nat) : (s.wrSat f v).time = s.time := rfl
@[simp] theorem State.wrSat_epoch (s : State) (f : Fld) (v : Nat) : (s.wrSat f v).epoch = s.epoch := rfl
@[simp] theorem State.wrSat_ports (s : State) (f : Fld) (v : Nat) : (s.wrSat f v).ports = s.ports := rfl
@[simp] theorem State.wrSat_evins (s : State) (f : Fld) (v : Nat) : (s.wrSat f v).evins = s.evins := rfl
@[simp] theorem State.wrSat_starts (s : State) (f : Fld) (v : Nat) : (s.wrSat f v).starts = s.starts := rfl
@[simp] theorem State.wrSat_ref (s : State) (f : Fld) (v : Nat) : (s.wrSat f v).ref = s.ref := rfl
@[simp] theorem State.wrSat_host (s : State) (f : Fld) (v : Nat) : (s.wrSat f v).host = s.host := rfl
@[simp] theorem State.wrSat_routes (s : State) (f : Fld) (v : Nat) : (s.wrSat f v).routes = s.routes := rfl
@[simp] theorem State.wrSat_params (s : State) (f : Fld) (v : Nat) : (s.wrSat f v).params = s.params := rfl
@[simp] theorem State.wrSat_gains (s : State) (f : Fld) (v : Nat) : (s.wrSat f v).gains = s.gains := rfl
@[simp] theorem State.wrSat_txn (s : State) (f : Fld) (v : Nat) : (s.wrSat f v).txn = s.txn := rfl
@[simp] theorem State.wrSat_plan (s : State) (f : Fld) (v : Nat) : (s.wrSat f v).plan = s.plan := rfl
@[simp] theorem State.wrSat_eng (s : State) (f : Fld) (v : Nat) : (s.wrSat f v).eng = s.eng := rfl
@[simp] theorem State.wrSat_guard (s : State) (f : Fld) (v : Nat) : (s.wrSat f v).guard = s.guard := rfl
@[simp] theorem State.wrSat_ouv (s : State) (f : Fld) (v : Nat) : (s.wrSat f v).ouv = s.ouv := rfl
@[simp] theorem State.wrSat_strm (s : State) (f : Fld) (v : Nat) : (s.wrSat f v).strm = s.strm := rfl
@[simp] theorem State.wrSat_net (s : State) (f : Fld) (v : Nat) : (s.wrSat f v).net = s.net := rfl
@[simp] theorem State.wrSat_store (s : State) (f : Fld) (v : Nat) : (s.wrSat f v).store = s.store := rfl
@[simp] theorem State.wrSat_sec (s : State) (f : Fld) (v : Nat) : (s.wrSat f v).sec = s.sec := rfl
@[simp] theorem State.wrSat_pwr (s : State) (f : Fld) (v : Nat) : (s.wrSat f v).pwr = s.pwr := rfl
@[simp] theorem State.wrSat_bus (s : State) (f : Fld) (v : Nat) : (s.wrSat f v).bus = s.bus := rfl
@[simp] theorem State.wrSat_dram (s : State) (f : Fld) (v : Nat) : (s.wrSat f v).dram = s.dram := rfl
@[simp] theorem State.wrSat_dma (s : State) (f : Fld) (v : Nat) : (s.wrSat f v).dma = s.dma := rfl
@[simp] theorem State.wrSat_dsp0 (s : State) (f : Fld) (v : Nat) : (s.wrSat f v).dsp0 = s.dsp0 := rfl
@[simp] theorem State.wrSat_dsp1 (s : State) (f : Fld) (v : Nat) : (s.wrSat f v).dsp1 = s.dsp1 := rfl
@[simp] theorem State.wrSat_old (s : State) (f : Fld) (v : Nat) : (s.wrSat f v).old = s.old := rfl
@[simp] theorem State.wrSat_past (s : State) (f : Fld) (v : Nat) : (s.wrSat f v).past = s.past := rfl
@[simp] theorem State.wrSat_meters (s : State) (f : Fld) (v : Nat) : (s.wrSat f v).meters = s.meters := rfl
@[simp] theorem State.wrSat_caps (s : State) (f : Fld) (v : Nat) : (s.wrSat f v).caps = s.caps := rfl
@[simp] theorem State.wrSat_sap (s : State) (f : Fld) (v : Nat) : (s.wrSat f v).sap = s.sap := rfl
@[simp] theorem State.wrSat_skimIn (s : State) (f : Fld) (v : Nat) : (s.wrSat f v).skimIn = s.skimIn := rfl
@[simp] theorem State.wrSat_modCh (s : State) (f : Fld) (v : Nat) : (s.wrSat f v).modCh = s.modCh := rfl
@[simp] theorem State.wrSat_modG (s : State) (f : Fld) (v : Nat) : (s.wrSat f v).modG = s.modG := rfl
@[simp] theorem State.wrSat_muteRise (s : State) (f : Fld) (v : Nat) : (s.wrSat f v).muteRise = s.muteRise := rfl
@[simp] theorem State.wrSat_modFade (s : State) (f : Fld) (v : Nat) : (s.wrSat f v).modFade = s.modFade := rfl
@[simp] theorem State.wrSat_tilCh (s : State) (f : Fld) (v : Nat) : (s.wrSat f v).tilCh = s.tilCh := rfl
@[simp] theorem State.wrSat_tilG (s : State) (f : Fld) (v : Nat) : (s.wrSat f v).tilG = s.tilG := rfl
@[simp] theorem State.wrSat_lanes (s : State) (f : Fld) (v : Nat) : (s.wrSat f v).lanes = s.lanes := rfl
@[simp] theorem State.wrSat_dramLines (s : State) (f : Fld) (v : Nat) : (s.wrSat f v).dramLines = s.dramLines := rfl

@[simp] theorem State.count_pending (s : State) (f : Fld) (n : Nat) : (s.count f n).pending = s.pending := rfl
@[simp] theorem State.count_free (s : State) (f : Fld) (n : Nat) : (s.count f n).free = s.free := rfl
@[simp] theorem State.count_latches (s : State) (f : Fld) (n : Nat) : (s.count f n).latches = s.latches := rfl
@[simp] theorem State.count_silt (s : State) (f : Fld) (n : Nat) : (s.count f n).silt = s.silt := rfl
@[simp] theorem State.count_time (s : State) (f : Fld) (n : Nat) : (s.count f n).time = s.time := rfl
@[simp] theorem State.count_epoch (s : State) (f : Fld) (n : Nat) : (s.count f n).epoch = s.epoch := rfl
@[simp] theorem State.count_ports (s : State) (f : Fld) (n : Nat) : (s.count f n).ports = s.ports := rfl
@[simp] theorem State.count_evins (s : State) (f : Fld) (n : Nat) : (s.count f n).evins = s.evins := rfl
@[simp] theorem State.count_starts (s : State) (f : Fld) (n : Nat) : (s.count f n).starts = s.starts := rfl
@[simp] theorem State.count_ref (s : State) (f : Fld) (n : Nat) : (s.count f n).ref = s.ref := rfl
@[simp] theorem State.count_host (s : State) (f : Fld) (n : Nat) : (s.count f n).host = s.host := rfl
@[simp] theorem State.count_routes (s : State) (f : Fld) (n : Nat) : (s.count f n).routes = s.routes := rfl
@[simp] theorem State.count_params (s : State) (f : Fld) (n : Nat) : (s.count f n).params = s.params := rfl
@[simp] theorem State.count_gains (s : State) (f : Fld) (n : Nat) : (s.count f n).gains = s.gains := rfl
@[simp] theorem State.count_txn (s : State) (f : Fld) (n : Nat) : (s.count f n).txn = s.txn := rfl
@[simp] theorem State.count_plan (s : State) (f : Fld) (n : Nat) : (s.count f n).plan = s.plan := rfl
@[simp] theorem State.count_eng (s : State) (f : Fld) (n : Nat) : (s.count f n).eng = s.eng := rfl
@[simp] theorem State.count_guard (s : State) (f : Fld) (n : Nat) : (s.count f n).guard = s.guard := rfl
@[simp] theorem State.count_ouv (s : State) (f : Fld) (n : Nat) : (s.count f n).ouv = s.ouv := rfl
@[simp] theorem State.count_strm (s : State) (f : Fld) (n : Nat) : (s.count f n).strm = s.strm := rfl
@[simp] theorem State.count_net (s : State) (f : Fld) (n : Nat) : (s.count f n).net = s.net := rfl
@[simp] theorem State.count_store (s : State) (f : Fld) (n : Nat) : (s.count f n).store = s.store := rfl
@[simp] theorem State.count_sec (s : State) (f : Fld) (n : Nat) : (s.count f n).sec = s.sec := rfl
@[simp] theorem State.count_pwr (s : State) (f : Fld) (n : Nat) : (s.count f n).pwr = s.pwr := rfl
@[simp] theorem State.count_bus (s : State) (f : Fld) (n : Nat) : (s.count f n).bus = s.bus := rfl
@[simp] theorem State.count_dram (s : State) (f : Fld) (n : Nat) : (s.count f n).dram = s.dram := rfl
@[simp] theorem State.count_dma (s : State) (f : Fld) (n : Nat) : (s.count f n).dma = s.dma := rfl
@[simp] theorem State.count_dsp0 (s : State) (f : Fld) (n : Nat) : (s.count f n).dsp0 = s.dsp0 := rfl
@[simp] theorem State.count_dsp1 (s : State) (f : Fld) (n : Nat) : (s.count f n).dsp1 = s.dsp1 := rfl
@[simp] theorem State.count_old (s : State) (f : Fld) (n : Nat) : (s.count f n).old = s.old := rfl
@[simp] theorem State.count_past (s : State) (f : Fld) (n : Nat) : (s.count f n).past = s.past := rfl
@[simp] theorem State.count_meters (s : State) (f : Fld) (n : Nat) : (s.count f n).meters = s.meters := rfl
@[simp] theorem State.count_caps (s : State) (f : Fld) (n : Nat) : (s.count f n).caps = s.caps := rfl
@[simp] theorem State.count_sap (s : State) (f : Fld) (n : Nat) : (s.count f n).sap = s.sap := rfl
@[simp] theorem State.count_skimIn (s : State) (f : Fld) (n : Nat) : (s.count f n).skimIn = s.skimIn := rfl
@[simp] theorem State.count_modCh (s : State) (f : Fld) (n : Nat) : (s.count f n).modCh = s.modCh := rfl
@[simp] theorem State.count_modG (s : State) (f : Fld) (n : Nat) : (s.count f n).modG = s.modG := rfl
@[simp] theorem State.count_muteRise (s : State) (f : Fld) (n : Nat) : (s.count f n).muteRise = s.muteRise := rfl
@[simp] theorem State.count_modFade (s : State) (f : Fld) (n : Nat) : (s.count f n).modFade = s.modFade := rfl
@[simp] theorem State.count_tilCh (s : State) (f : Fld) (n : Nat) : (s.count f n).tilCh = s.tilCh := rfl
@[simp] theorem State.count_tilG (s : State) (f : Fld) (n : Nat) : (s.count f n).tilG = s.tilG := rfl
@[simp] theorem State.count_lanes (s : State) (f : Fld) (n : Nat) : (s.count f n).lanes = s.lanes := rfl
@[simp] theorem State.count_dramLines (s : State) (f : Fld) (n : Nat) : (s.count f n).dramLines = s.dramLines := rfl

@[simp] theorem State.countIf_pending (s : State) (b : Bool) (f : Fld) : (s.countIf b f).pending = s.pending := by cases b <;> rfl
@[simp] theorem State.countIf_free (s : State) (b : Bool) (f : Fld) : (s.countIf b f).free = s.free := by cases b <;> rfl
@[simp] theorem State.countIf_latches (s : State) (b : Bool) (f : Fld) : (s.countIf b f).latches = s.latches := by cases b <;> rfl
@[simp] theorem State.countIf_silt (s : State) (b : Bool) (f : Fld) : (s.countIf b f).silt = s.silt := by cases b <;> rfl
@[simp] theorem State.countIf_time (s : State) (b : Bool) (f : Fld) : (s.countIf b f).time = s.time := by cases b <;> rfl
@[simp] theorem State.countIf_epoch (s : State) (b : Bool) (f : Fld) : (s.countIf b f).epoch = s.epoch := by cases b <;> rfl
@[simp] theorem State.countIf_ports (s : State) (b : Bool) (f : Fld) : (s.countIf b f).ports = s.ports := by cases b <;> rfl
@[simp] theorem State.countIf_evins (s : State) (b : Bool) (f : Fld) : (s.countIf b f).evins = s.evins := by cases b <;> rfl
@[simp] theorem State.countIf_starts (s : State) (b : Bool) (f : Fld) : (s.countIf b f).starts = s.starts := by cases b <;> rfl
@[simp] theorem State.countIf_ref (s : State) (b : Bool) (f : Fld) : (s.countIf b f).ref = s.ref := by cases b <;> rfl
@[simp] theorem State.countIf_host (s : State) (b : Bool) (f : Fld) : (s.countIf b f).host = s.host := by cases b <;> rfl
@[simp] theorem State.countIf_routes (s : State) (b : Bool) (f : Fld) : (s.countIf b f).routes = s.routes := by cases b <;> rfl
@[simp] theorem State.countIf_params (s : State) (b : Bool) (f : Fld) : (s.countIf b f).params = s.params := by cases b <;> rfl
@[simp] theorem State.countIf_gains (s : State) (b : Bool) (f : Fld) : (s.countIf b f).gains = s.gains := by cases b <;> rfl
@[simp] theorem State.countIf_txn (s : State) (b : Bool) (f : Fld) : (s.countIf b f).txn = s.txn := by cases b <;> rfl
@[simp] theorem State.countIf_plan (s : State) (b : Bool) (f : Fld) : (s.countIf b f).plan = s.plan := by cases b <;> rfl
@[simp] theorem State.countIf_eng (s : State) (b : Bool) (f : Fld) : (s.countIf b f).eng = s.eng := by cases b <;> rfl
@[simp] theorem State.countIf_guard (s : State) (b : Bool) (f : Fld) : (s.countIf b f).guard = s.guard := by cases b <;> rfl
@[simp] theorem State.countIf_ouv (s : State) (b : Bool) (f : Fld) : (s.countIf b f).ouv = s.ouv := by cases b <;> rfl
@[simp] theorem State.countIf_strm (s : State) (b : Bool) (f : Fld) : (s.countIf b f).strm = s.strm := by cases b <;> rfl
@[simp] theorem State.countIf_net (s : State) (b : Bool) (f : Fld) : (s.countIf b f).net = s.net := by cases b <;> rfl
@[simp] theorem State.countIf_store (s : State) (b : Bool) (f : Fld) : (s.countIf b f).store = s.store := by cases b <;> rfl
@[simp] theorem State.countIf_sec (s : State) (b : Bool) (f : Fld) : (s.countIf b f).sec = s.sec := by cases b <;> rfl
@[simp] theorem State.countIf_pwr (s : State) (b : Bool) (f : Fld) : (s.countIf b f).pwr = s.pwr := by cases b <;> rfl
@[simp] theorem State.countIf_bus (s : State) (b : Bool) (f : Fld) : (s.countIf b f).bus = s.bus := by cases b <;> rfl
@[simp] theorem State.countIf_dram (s : State) (b : Bool) (f : Fld) : (s.countIf b f).dram = s.dram := by cases b <;> rfl
@[simp] theorem State.countIf_dma (s : State) (b : Bool) (f : Fld) : (s.countIf b f).dma = s.dma := by cases b <;> rfl
@[simp] theorem State.countIf_dsp0 (s : State) (b : Bool) (f : Fld) : (s.countIf b f).dsp0 = s.dsp0 := by cases b <;> rfl
@[simp] theorem State.countIf_dsp1 (s : State) (b : Bool) (f : Fld) : (s.countIf b f).dsp1 = s.dsp1 := by cases b <;> rfl
@[simp] theorem State.countIf_old (s : State) (b : Bool) (f : Fld) : (s.countIf b f).old = s.old := by cases b <;> rfl
@[simp] theorem State.countIf_past (s : State) (b : Bool) (f : Fld) : (s.countIf b f).past = s.past := by cases b <;> rfl
@[simp] theorem State.countIf_meters (s : State) (b : Bool) (f : Fld) : (s.countIf b f).meters = s.meters := by cases b <;> rfl
@[simp] theorem State.countIf_caps (s : State) (b : Bool) (f : Fld) : (s.countIf b f).caps = s.caps := by cases b <;> rfl
@[simp] theorem State.countIf_sap (s : State) (b : Bool) (f : Fld) : (s.countIf b f).sap = s.sap := by cases b <;> rfl
@[simp] theorem State.countIf_skimIn (s : State) (b : Bool) (f : Fld) : (s.countIf b f).skimIn = s.skimIn := by cases b <;> rfl
@[simp] theorem State.countIf_modCh (s : State) (b : Bool) (f : Fld) : (s.countIf b f).modCh = s.modCh := by cases b <;> rfl
@[simp] theorem State.countIf_modG (s : State) (b : Bool) (f : Fld) : (s.countIf b f).modG = s.modG := by cases b <;> rfl
@[simp] theorem State.countIf_muteRise (s : State) (b : Bool) (f : Fld) : (s.countIf b f).muteRise = s.muteRise := by cases b <;> rfl
@[simp] theorem State.countIf_modFade (s : State) (b : Bool) (f : Fld) : (s.countIf b f).modFade = s.modFade := by cases b <;> rfl
@[simp] theorem State.countIf_tilCh (s : State) (b : Bool) (f : Fld) : (s.countIf b f).tilCh = s.tilCh := by cases b <;> rfl
@[simp] theorem State.countIf_tilG (s : State) (b : Bool) (f : Fld) : (s.countIf b f).tilG = s.tilG := by cases b <;> rfl
@[simp] theorem State.countIf_lanes (s : State) (b : Bool) (f : Fld) : (s.countIf b f).lanes = s.lanes := by cases b <;> rfl
@[simp] theorem State.countIf_dramLines (s : State) (b : Bool) (f : Fld) : (s.countIf b f).dramLines = s.dramLines := by cases b <;> rfl

@[simp] theorem State.violate_pending (s : State) (q : Requester) : (s.violate q).pending = s.pending := rfl
@[simp] theorem State.violate_free (s : State) (q : Requester) : (s.violate q).free = s.free := rfl
@[simp] theorem State.violate_latches (s : State) (q : Requester) : (s.violate q).latches = s.latches := rfl
@[simp] theorem State.violate_silt (s : State) (q : Requester) : (s.violate q).silt = s.silt := rfl
@[simp] theorem State.violate_time (s : State) (q : Requester) : (s.violate q).time = s.time := rfl
@[simp] theorem State.violate_epoch (s : State) (q : Requester) : (s.violate q).epoch = s.epoch := rfl
@[simp] theorem State.violate_ports (s : State) (q : Requester) : (s.violate q).ports = s.ports := rfl
@[simp] theorem State.violate_evins (s : State) (q : Requester) : (s.violate q).evins = s.evins := rfl
@[simp] theorem State.violate_starts (s : State) (q : Requester) : (s.violate q).starts = s.starts := rfl
@[simp] theorem State.violate_ref (s : State) (q : Requester) : (s.violate q).ref = s.ref := rfl
@[simp] theorem State.violate_host (s : State) (q : Requester) : (s.violate q).host = s.host := rfl
@[simp] theorem State.violate_routes (s : State) (q : Requester) : (s.violate q).routes = s.routes := rfl
@[simp] theorem State.violate_params (s : State) (q : Requester) : (s.violate q).params = s.params := rfl
@[simp] theorem State.violate_gains (s : State) (q : Requester) : (s.violate q).gains = s.gains := rfl
@[simp] theorem State.violate_txn (s : State) (q : Requester) : (s.violate q).txn = s.txn := rfl
@[simp] theorem State.violate_plan (s : State) (q : Requester) : (s.violate q).plan = s.plan := rfl
@[simp] theorem State.violate_eng (s : State) (q : Requester) : (s.violate q).eng = s.eng := rfl
@[simp] theorem State.violate_guard (s : State) (q : Requester) : (s.violate q).guard = s.guard := rfl
@[simp] theorem State.violate_ouv (s : State) (q : Requester) : (s.violate q).ouv = s.ouv := rfl
@[simp] theorem State.violate_strm (s : State) (q : Requester) : (s.violate q).strm = s.strm := rfl
@[simp] theorem State.violate_net (s : State) (q : Requester) : (s.violate q).net = s.net := rfl
@[simp] theorem State.violate_store (s : State) (q : Requester) : (s.violate q).store = s.store := rfl
@[simp] theorem State.violate_sec (s : State) (q : Requester) : (s.violate q).sec = s.sec := rfl
@[simp] theorem State.violate_pwr (s : State) (q : Requester) : (s.violate q).pwr = s.pwr := rfl
@[simp] theorem State.violate_bus (s : State) (q : Requester) : (s.violate q).bus = s.bus := rfl
@[simp] theorem State.violate_dram (s : State) (q : Requester) : (s.violate q).dram = s.dram := rfl
@[simp] theorem State.violate_dma (s : State) (q : Requester) : (s.violate q).dma = s.dma := rfl
@[simp] theorem State.violate_dsp0 (s : State) (q : Requester) : (s.violate q).dsp0 = s.dsp0 := rfl
@[simp] theorem State.violate_dsp1 (s : State) (q : Requester) : (s.violate q).dsp1 = s.dsp1 := rfl
@[simp] theorem State.violate_old (s : State) (q : Requester) : (s.violate q).old = s.old := rfl
@[simp] theorem State.violate_past (s : State) (q : Requester) : (s.violate q).past = s.past := rfl
@[simp] theorem State.violate_meters (s : State) (q : Requester) : (s.violate q).meters = s.meters := rfl
@[simp] theorem State.violate_caps (s : State) (q : Requester) : (s.violate q).caps = s.caps := rfl
@[simp] theorem State.violate_sap (s : State) (q : Requester) : (s.violate q).sap = s.sap := rfl
@[simp] theorem State.violate_skimIn (s : State) (q : Requester) : (s.violate q).skimIn = s.skimIn := rfl
@[simp] theorem State.violate_modCh (s : State) (q : Requester) : (s.violate q).modCh = s.modCh := rfl
@[simp] theorem State.violate_modG (s : State) (q : Requester) : (s.violate q).modG = s.modG := rfl
@[simp] theorem State.violate_muteRise (s : State) (q : Requester) : (s.violate q).muteRise = s.muteRise := rfl
@[simp] theorem State.violate_modFade (s : State) (q : Requester) : (s.violate q).modFade = s.modFade := rfl
@[simp] theorem State.violate_tilCh (s : State) (q : Requester) : (s.violate q).tilCh = s.tilCh := rfl
@[simp] theorem State.violate_tilG (s : State) (q : Requester) : (s.violate q).tilG = s.tilG := rfl
@[simp] theorem State.violate_lanes (s : State) (q : Requester) : (s.violate q).lanes = s.lanes := rfl
@[simp] theorem State.violate_dramLines (s : State) (q : Requester) : (s.violate q).dramLines = s.dramLines := rfl

@[simp] theorem State.resetRange_pending (s : State) (lo hi : Nat) : (s.resetRange lo hi).pending = s.pending := rfl
@[simp] theorem State.resetRange_free (s : State) (lo hi : Nat) : (s.resetRange lo hi).free = s.free := rfl
@[simp] theorem State.resetRange_latches (s : State) (lo hi : Nat) : (s.resetRange lo hi).latches = s.latches := rfl
@[simp] theorem State.resetRange_silt (s : State) (lo hi : Nat) : (s.resetRange lo hi).silt = s.silt := rfl
@[simp] theorem State.resetRange_time (s : State) (lo hi : Nat) : (s.resetRange lo hi).time = s.time := rfl
@[simp] theorem State.resetRange_epoch (s : State) (lo hi : Nat) : (s.resetRange lo hi).epoch = s.epoch := rfl
@[simp] theorem State.resetRange_ports (s : State) (lo hi : Nat) : (s.resetRange lo hi).ports = s.ports := rfl
@[simp] theorem State.resetRange_evins (s : State) (lo hi : Nat) : (s.resetRange lo hi).evins = s.evins := rfl
@[simp] theorem State.resetRange_starts (s : State) (lo hi : Nat) : (s.resetRange lo hi).starts = s.starts := rfl
@[simp] theorem State.resetRange_ref (s : State) (lo hi : Nat) : (s.resetRange lo hi).ref = s.ref := rfl
@[simp] theorem State.resetRange_host (s : State) (lo hi : Nat) : (s.resetRange lo hi).host = s.host := rfl
@[simp] theorem State.resetRange_routes (s : State) (lo hi : Nat) : (s.resetRange lo hi).routes = s.routes := rfl
@[simp] theorem State.resetRange_params (s : State) (lo hi : Nat) : (s.resetRange lo hi).params = s.params := rfl
@[simp] theorem State.resetRange_gains (s : State) (lo hi : Nat) : (s.resetRange lo hi).gains = s.gains := rfl
@[simp] theorem State.resetRange_txn (s : State) (lo hi : Nat) : (s.resetRange lo hi).txn = s.txn := rfl
@[simp] theorem State.resetRange_plan (s : State) (lo hi : Nat) : (s.resetRange lo hi).plan = s.plan := rfl
@[simp] theorem State.resetRange_eng (s : State) (lo hi : Nat) : (s.resetRange lo hi).eng = s.eng := rfl
@[simp] theorem State.resetRange_guard (s : State) (lo hi : Nat) : (s.resetRange lo hi).guard = s.guard := rfl
@[simp] theorem State.resetRange_ouv (s : State) (lo hi : Nat) : (s.resetRange lo hi).ouv = s.ouv := rfl
@[simp] theorem State.resetRange_strm (s : State) (lo hi : Nat) : (s.resetRange lo hi).strm = s.strm := rfl
@[simp] theorem State.resetRange_net (s : State) (lo hi : Nat) : (s.resetRange lo hi).net = s.net := rfl
@[simp] theorem State.resetRange_store (s : State) (lo hi : Nat) : (s.resetRange lo hi).store = s.store := rfl
@[simp] theorem State.resetRange_sec (s : State) (lo hi : Nat) : (s.resetRange lo hi).sec = s.sec := rfl
@[simp] theorem State.resetRange_pwr (s : State) (lo hi : Nat) : (s.resetRange lo hi).pwr = s.pwr := rfl
@[simp] theorem State.resetRange_bus (s : State) (lo hi : Nat) : (s.resetRange lo hi).bus = s.bus := rfl
@[simp] theorem State.resetRange_dram (s : State) (lo hi : Nat) : (s.resetRange lo hi).dram = s.dram := rfl
@[simp] theorem State.resetRange_dma (s : State) (lo hi : Nat) : (s.resetRange lo hi).dma = s.dma := rfl
@[simp] theorem State.resetRange_dsp0 (s : State) (lo hi : Nat) : (s.resetRange lo hi).dsp0 = s.dsp0 := rfl
@[simp] theorem State.resetRange_dsp1 (s : State) (lo hi : Nat) : (s.resetRange lo hi).dsp1 = s.dsp1 := rfl
@[simp] theorem State.resetRange_old (s : State) (lo hi : Nat) : (s.resetRange lo hi).old = s.old := rfl
@[simp] theorem State.resetRange_past (s : State) (lo hi : Nat) : (s.resetRange lo hi).past = s.past := rfl
@[simp] theorem State.resetRange_meters (s : State) (lo hi : Nat) : (s.resetRange lo hi).meters = s.meters := rfl
@[simp] theorem State.resetRange_caps (s : State) (lo hi : Nat) : (s.resetRange lo hi).caps = s.caps := rfl
@[simp] theorem State.resetRange_sap (s : State) (lo hi : Nat) : (s.resetRange lo hi).sap = s.sap := rfl
@[simp] theorem State.resetRange_skimIn (s : State) (lo hi : Nat) : (s.resetRange lo hi).skimIn = s.skimIn := rfl
@[simp] theorem State.resetRange_modCh (s : State) (lo hi : Nat) : (s.resetRange lo hi).modCh = s.modCh := rfl
@[simp] theorem State.resetRange_modG (s : State) (lo hi : Nat) : (s.resetRange lo hi).modG = s.modG := rfl
@[simp] theorem State.resetRange_muteRise (s : State) (lo hi : Nat) : (s.resetRange lo hi).muteRise = s.muteRise := rfl
@[simp] theorem State.resetRange_modFade (s : State) (lo hi : Nat) : (s.resetRange lo hi).modFade = s.modFade := rfl
@[simp] theorem State.resetRange_tilCh (s : State) (lo hi : Nat) : (s.resetRange lo hi).tilCh = s.tilCh := rfl
@[simp] theorem State.resetRange_tilG (s : State) (lo hi : Nat) : (s.resetRange lo hi).tilG = s.tilG := rfl
@[simp] theorem State.resetRange_lanes (s : State) (lo hi : Nat) : (s.resetRange lo hi).lanes = s.lanes := rfl
@[simp] theorem State.resetRange_dramLines (s : State) (lo hi : Nat) : (s.resetRange lo hi).dramLines = s.dramLines := rfl

@[simp] theorem State.fresh_pending (s : State) : (s.fresh.2).pending = s.pending := rfl
@[simp] theorem State.fresh_regs (s : State) : (s.fresh.2).regs = s.regs := rfl
@[simp] theorem State.fresh_latches (s : State) : (s.fresh.2).latches = s.latches := rfl
@[simp] theorem State.fresh_silt (s : State) : (s.fresh.2).silt = s.silt := rfl
@[simp] theorem State.fresh_time (s : State) : (s.fresh.2).time = s.time := rfl
@[simp] theorem State.fresh_epoch (s : State) : (s.fresh.2).epoch = s.epoch := rfl
@[simp] theorem State.fresh_ports (s : State) : (s.fresh.2).ports = s.ports := rfl
@[simp] theorem State.fresh_evins (s : State) : (s.fresh.2).evins = s.evins := rfl
@[simp] theorem State.fresh_starts (s : State) : (s.fresh.2).starts = s.starts := rfl
@[simp] theorem State.fresh_ref (s : State) : (s.fresh.2).ref = s.ref := rfl
@[simp] theorem State.fresh_host (s : State) : (s.fresh.2).host = s.host := rfl
@[simp] theorem State.fresh_routes (s : State) : (s.fresh.2).routes = s.routes := rfl
@[simp] theorem State.fresh_params (s : State) : (s.fresh.2).params = s.params := rfl
@[simp] theorem State.fresh_gains (s : State) : (s.fresh.2).gains = s.gains := rfl
@[simp] theorem State.fresh_txn (s : State) : (s.fresh.2).txn = s.txn := rfl
@[simp] theorem State.fresh_plan (s : State) : (s.fresh.2).plan = s.plan := rfl
@[simp] theorem State.fresh_eng (s : State) : (s.fresh.2).eng = s.eng := rfl
@[simp] theorem State.fresh_guard (s : State) : (s.fresh.2).guard = s.guard := rfl
@[simp] theorem State.fresh_ouv (s : State) : (s.fresh.2).ouv = s.ouv := rfl
@[simp] theorem State.fresh_strm (s : State) : (s.fresh.2).strm = s.strm := rfl
@[simp] theorem State.fresh_net (s : State) : (s.fresh.2).net = s.net := rfl
@[simp] theorem State.fresh_store (s : State) : (s.fresh.2).store = s.store := rfl
@[simp] theorem State.fresh_sec (s : State) : (s.fresh.2).sec = s.sec := rfl
@[simp] theorem State.fresh_pwr (s : State) : (s.fresh.2).pwr = s.pwr := rfl
@[simp] theorem State.fresh_bus (s : State) : (s.fresh.2).bus = s.bus := rfl
@[simp] theorem State.fresh_dram (s : State) : (s.fresh.2).dram = s.dram := rfl
@[simp] theorem State.fresh_dma (s : State) : (s.fresh.2).dma = s.dma := rfl
@[simp] theorem State.fresh_dsp0 (s : State) : (s.fresh.2).dsp0 = s.dsp0 := rfl
@[simp] theorem State.fresh_dsp1 (s : State) : (s.fresh.2).dsp1 = s.dsp1 := rfl
@[simp] theorem State.fresh_old (s : State) : (s.fresh.2).old = s.old := rfl
@[simp] theorem State.fresh_past (s : State) : (s.fresh.2).past = s.past := rfl
@[simp] theorem State.fresh_meters (s : State) : (s.fresh.2).meters = s.meters := rfl
@[simp] theorem State.fresh_caps (s : State) : (s.fresh.2).caps = s.caps := rfl
@[simp] theorem State.fresh_sap (s : State) : (s.fresh.2).sap = s.sap := rfl
@[simp] theorem State.fresh_skimIn (s : State) : (s.fresh.2).skimIn = s.skimIn := rfl
@[simp] theorem State.fresh_modCh (s : State) : (s.fresh.2).modCh = s.modCh := rfl
@[simp] theorem State.fresh_modG (s : State) : (s.fresh.2).modG = s.modG := rfl
@[simp] theorem State.fresh_muteRise (s : State) : (s.fresh.2).muteRise = s.muteRise := rfl
@[simp] theorem State.fresh_modFade (s : State) : (s.fresh.2).modFade = s.modFade := rfl
@[simp] theorem State.fresh_tilCh (s : State) : (s.fresh.2).tilCh = s.tilCh := rfl
@[simp] theorem State.fresh_tilG (s : State) : (s.fresh.2).tilG = s.tilG := rfl
@[simp] theorem State.fresh_lanes (s : State) : (s.fresh.2).lanes = s.lanes := rfl
@[simp] theorem State.fresh_dramLines (s : State) : (s.fresh.2).dramLines = s.dramLines := rfl

@[simp] theorem State.siltWrite_pending (s : State) (c : Nat) (d : List Byte) (k : Option Nat) : (s.siltWrite c d k).pending = s.pending := rfl
@[simp] theorem State.siltWrite_free (s : State) (c : Nat) (d : List Byte) (k : Option Nat) : (s.siltWrite c d k).free = s.free := rfl
@[simp] theorem State.siltWrite_latches (s : State) (c : Nat) (d : List Byte) (k : Option Nat) : (s.siltWrite c d k).latches = s.latches := rfl
@[simp] theorem State.siltWrite_time (s : State) (c : Nat) (d : List Byte) (k : Option Nat) : (s.siltWrite c d k).time = s.time := rfl
@[simp] theorem State.siltWrite_epoch (s : State) (c : Nat) (d : List Byte) (k : Option Nat) : (s.siltWrite c d k).epoch = s.epoch := rfl
@[simp] theorem State.siltWrite_ports (s : State) (c : Nat) (d : List Byte) (k : Option Nat) : (s.siltWrite c d k).ports = s.ports := rfl
@[simp] theorem State.siltWrite_evins (s : State) (c : Nat) (d : List Byte) (k : Option Nat) : (s.siltWrite c d k).evins = s.evins := rfl
@[simp] theorem State.siltWrite_starts (s : State) (c : Nat) (d : List Byte) (k : Option Nat) : (s.siltWrite c d k).starts = s.starts := rfl
@[simp] theorem State.siltWrite_ref (s : State) (c : Nat) (d : List Byte) (k : Option Nat) : (s.siltWrite c d k).ref = s.ref := rfl
@[simp] theorem State.siltWrite_host (s : State) (c : Nat) (d : List Byte) (k : Option Nat) : (s.siltWrite c d k).host = s.host := rfl
@[simp] theorem State.siltWrite_routes (s : State) (c : Nat) (d : List Byte) (k : Option Nat) : (s.siltWrite c d k).routes = s.routes := rfl
@[simp] theorem State.siltWrite_params (s : State) (c : Nat) (d : List Byte) (k : Option Nat) : (s.siltWrite c d k).params = s.params := rfl
@[simp] theorem State.siltWrite_gains (s : State) (c : Nat) (d : List Byte) (k : Option Nat) : (s.siltWrite c d k).gains = s.gains := rfl
@[simp] theorem State.siltWrite_txn (s : State) (c : Nat) (d : List Byte) (k : Option Nat) : (s.siltWrite c d k).txn = s.txn := rfl
@[simp] theorem State.siltWrite_plan (s : State) (c : Nat) (d : List Byte) (k : Option Nat) : (s.siltWrite c d k).plan = s.plan := rfl
@[simp] theorem State.siltWrite_eng (s : State) (c : Nat) (d : List Byte) (k : Option Nat) : (s.siltWrite c d k).eng = s.eng := rfl
@[simp] theorem State.siltWrite_guard (s : State) (c : Nat) (d : List Byte) (k : Option Nat) : (s.siltWrite c d k).guard = s.guard := rfl
@[simp] theorem State.siltWrite_ouv (s : State) (c : Nat) (d : List Byte) (k : Option Nat) : (s.siltWrite c d k).ouv = s.ouv := rfl
@[simp] theorem State.siltWrite_strm (s : State) (c : Nat) (d : List Byte) (k : Option Nat) : (s.siltWrite c d k).strm = s.strm := rfl
@[simp] theorem State.siltWrite_net (s : State) (c : Nat) (d : List Byte) (k : Option Nat) : (s.siltWrite c d k).net = s.net := rfl
@[simp] theorem State.siltWrite_store (s : State) (c : Nat) (d : List Byte) (k : Option Nat) : (s.siltWrite c d k).store = s.store := rfl
@[simp] theorem State.siltWrite_sec (s : State) (c : Nat) (d : List Byte) (k : Option Nat) : (s.siltWrite c d k).sec = s.sec := rfl
@[simp] theorem State.siltWrite_pwr (s : State) (c : Nat) (d : List Byte) (k : Option Nat) : (s.siltWrite c d k).pwr = s.pwr := rfl
@[simp] theorem State.siltWrite_bus (s : State) (c : Nat) (d : List Byte) (k : Option Nat) : (s.siltWrite c d k).bus = s.bus := rfl
@[simp] theorem State.siltWrite_dram (s : State) (c : Nat) (d : List Byte) (k : Option Nat) : (s.siltWrite c d k).dram = s.dram := rfl
@[simp] theorem State.siltWrite_dma (s : State) (c : Nat) (d : List Byte) (k : Option Nat) : (s.siltWrite c d k).dma = s.dma := rfl
@[simp] theorem State.siltWrite_dsp0 (s : State) (c : Nat) (d : List Byte) (k : Option Nat) : (s.siltWrite c d k).dsp0 = s.dsp0 := rfl
@[simp] theorem State.siltWrite_dsp1 (s : State) (c : Nat) (d : List Byte) (k : Option Nat) : (s.siltWrite c d k).dsp1 = s.dsp1 := rfl
@[simp] theorem State.siltWrite_old (s : State) (c : Nat) (d : List Byte) (k : Option Nat) : (s.siltWrite c d k).old = s.old := rfl
@[simp] theorem State.siltWrite_past (s : State) (c : Nat) (d : List Byte) (k : Option Nat) : (s.siltWrite c d k).past = s.past := rfl
@[simp] theorem State.siltWrite_meters (s : State) (c : Nat) (d : List Byte) (k : Option Nat) : (s.siltWrite c d k).meters = s.meters := rfl
@[simp] theorem State.siltWrite_caps (s : State) (c : Nat) (d : List Byte) (k : Option Nat) : (s.siltWrite c d k).caps = s.caps := rfl
@[simp] theorem State.siltWrite_sap (s : State) (c : Nat) (d : List Byte) (k : Option Nat) : (s.siltWrite c d k).sap = s.sap := rfl
@[simp] theorem State.siltWrite_skimIn (s : State) (c : Nat) (d : List Byte) (k : Option Nat) : (s.siltWrite c d k).skimIn = s.skimIn := rfl
@[simp] theorem State.siltWrite_modCh (s : State) (c : Nat) (d : List Byte) (k : Option Nat) : (s.siltWrite c d k).modCh = s.modCh := rfl
@[simp] theorem State.siltWrite_modG (s : State) (c : Nat) (d : List Byte) (k : Option Nat) : (s.siltWrite c d k).modG = s.modG := rfl
@[simp] theorem State.siltWrite_muteRise (s : State) (c : Nat) (d : List Byte) (k : Option Nat) : (s.siltWrite c d k).muteRise = s.muteRise := rfl
@[simp] theorem State.siltWrite_modFade (s : State) (c : Nat) (d : List Byte) (k : Option Nat) : (s.siltWrite c d k).modFade = s.modFade := rfl
@[simp] theorem State.siltWrite_tilCh (s : State) (c : Nat) (d : List Byte) (k : Option Nat) : (s.siltWrite c d k).tilCh = s.tilCh := rfl
@[simp] theorem State.siltWrite_tilG (s : State) (c : Nat) (d : List Byte) (k : Option Nat) : (s.siltWrite c d k).tilG = s.tilG := rfl
@[simp] theorem State.siltWrite_lanes (s : State) (c : Nat) (d : List Byte) (k : Option Nat) : (s.siltWrite c d k).lanes = s.lanes := rfl
@[simp] theorem State.siltWrite_dramLines (s : State) (c : Nat) (d : List Byte) (k : Option Nat) : (s.siltWrite c d k).dramLines = s.dramLines := rfl

@[simp] theorem State.writeEvt_pending (s : State) (e : Evt) : (s.writeEvt e).pending = s.pending := rfl
@[simp] theorem State.writeEvt_free (s : State) (e : Evt) : (s.writeEvt e).free = s.free := rfl
@[simp] theorem State.writeEvt_regs (s : State) (e : Evt) : (s.writeEvt e).regs = s.regs := rfl
@[simp] theorem State.writeEvt_latches (s : State) (e : Evt) : (s.writeEvt e).latches = s.latches := rfl
@[simp] theorem State.writeEvt_silt (s : State) (e : Evt) : (s.writeEvt e).silt = s.silt := rfl
@[simp] theorem State.writeEvt_time (s : State) (e : Evt) : (s.writeEvt e).time = s.time := rfl
@[simp] theorem State.writeEvt_epoch (s : State) (e : Evt) : (s.writeEvt e).epoch = s.epoch := rfl
@[simp] theorem State.writeEvt_ports (s : State) (e : Evt) : (s.writeEvt e).ports = s.ports := rfl
@[simp] theorem State.writeEvt_evins (s : State) (e : Evt) : (s.writeEvt e).evins = s.evins := rfl
@[simp] theorem State.writeEvt_starts (s : State) (e : Evt) : (s.writeEvt e).starts = s.starts := rfl
@[simp] theorem State.writeEvt_ref (s : State) (e : Evt) : (s.writeEvt e).ref = s.ref := rfl
@[simp] theorem State.writeEvt_routes (s : State) (e : Evt) : (s.writeEvt e).routes = s.routes := rfl
@[simp] theorem State.writeEvt_params (s : State) (e : Evt) : (s.writeEvt e).params = s.params := rfl
@[simp] theorem State.writeEvt_gains (s : State) (e : Evt) : (s.writeEvt e).gains = s.gains := rfl
@[simp] theorem State.writeEvt_txn (s : State) (e : Evt) : (s.writeEvt e).txn = s.txn := rfl
@[simp] theorem State.writeEvt_plan (s : State) (e : Evt) : (s.writeEvt e).plan = s.plan := rfl
@[simp] theorem State.writeEvt_eng (s : State) (e : Evt) : (s.writeEvt e).eng = s.eng := rfl
@[simp] theorem State.writeEvt_guard (s : State) (e : Evt) : (s.writeEvt e).guard = s.guard := rfl
@[simp] theorem State.writeEvt_ouv (s : State) (e : Evt) : (s.writeEvt e).ouv = s.ouv := rfl
@[simp] theorem State.writeEvt_strm (s : State) (e : Evt) : (s.writeEvt e).strm = s.strm := rfl
@[simp] theorem State.writeEvt_net (s : State) (e : Evt) : (s.writeEvt e).net = s.net := rfl
@[simp] theorem State.writeEvt_store (s : State) (e : Evt) : (s.writeEvt e).store = s.store := rfl
@[simp] theorem State.writeEvt_sec (s : State) (e : Evt) : (s.writeEvt e).sec = s.sec := rfl
@[simp] theorem State.writeEvt_pwr (s : State) (e : Evt) : (s.writeEvt e).pwr = s.pwr := rfl
@[simp] theorem State.writeEvt_bus (s : State) (e : Evt) : (s.writeEvt e).bus = s.bus := rfl
@[simp] theorem State.writeEvt_dram (s : State) (e : Evt) : (s.writeEvt e).dram = s.dram := rfl
@[simp] theorem State.writeEvt_dma (s : State) (e : Evt) : (s.writeEvt e).dma = s.dma := rfl
@[simp] theorem State.writeEvt_dsp0 (s : State) (e : Evt) : (s.writeEvt e).dsp0 = s.dsp0 := rfl
@[simp] theorem State.writeEvt_dsp1 (s : State) (e : Evt) : (s.writeEvt e).dsp1 = s.dsp1 := rfl
@[simp] theorem State.writeEvt_old (s : State) (e : Evt) : (s.writeEvt e).old = s.old := rfl
@[simp] theorem State.writeEvt_past (s : State) (e : Evt) : (s.writeEvt e).past = s.past := rfl
@[simp] theorem State.writeEvt_meters (s : State) (e : Evt) : (s.writeEvt e).meters = s.meters := rfl
@[simp] theorem State.writeEvt_caps (s : State) (e : Evt) : (s.writeEvt e).caps = s.caps := rfl
@[simp] theorem State.writeEvt_sap (s : State) (e : Evt) : (s.writeEvt e).sap = s.sap := rfl
@[simp] theorem State.writeEvt_skimIn (s : State) (e : Evt) : (s.writeEvt e).skimIn = s.skimIn := rfl
@[simp] theorem State.writeEvt_modCh (s : State) (e : Evt) : (s.writeEvt e).modCh = s.modCh := rfl
@[simp] theorem State.writeEvt_modG (s : State) (e : Evt) : (s.writeEvt e).modG = s.modG := rfl
@[simp] theorem State.writeEvt_muteRise (s : State) (e : Evt) : (s.writeEvt e).muteRise = s.muteRise := rfl
@[simp] theorem State.writeEvt_modFade (s : State) (e : Evt) : (s.writeEvt e).modFade = s.modFade := rfl
@[simp] theorem State.writeEvt_tilCh (s : State) (e : Evt) : (s.writeEvt e).tilCh = s.tilCh := rfl
@[simp] theorem State.writeEvt_tilG (s : State) (e : Evt) : (s.writeEvt e).tilG = s.tilG := rfl
@[simp] theorem State.writeEvt_lanes (s : State) (e : Evt) : (s.writeEvt e).lanes = s.lanes := rfl
@[simp] theorem State.writeEvt_dramLines (s : State) (e : Evt) : (s.writeEvt e).dramLines = s.dramLines := rfl

@[simp] theorem State.post_pending (s : State) (t : Nat) (p : List Byte) : (s.post t p).pending = s.pending := by
  unfold State.post; dsimp only; split
  · rfl
  · split <;> rfl
@[simp] theorem State.post_free (s : State) (t : Nat) (p : List Byte) : (s.post t p).free = s.free := by
  unfold State.post; dsimp only; split
  · rfl
  · split <;> rfl
@[simp] theorem State.post_latches (s : State) (t : Nat) (p : List Byte) : (s.post t p).latches = s.latches := by
  unfold State.post; dsimp only; split
  · rfl
  · split <;> rfl
@[simp] theorem State.post_silt (s : State) (t : Nat) (p : List Byte) : (s.post t p).silt = s.silt := by
  unfold State.post; dsimp only; split
  · rfl
  · split <;> rfl
@[simp] theorem State.post_time (s : State) (t : Nat) (p : List Byte) : (s.post t p).time = s.time := by
  unfold State.post; dsimp only; split
  · rfl
  · split <;> rfl
@[simp] theorem State.post_epoch (s : State) (t : Nat) (p : List Byte) : (s.post t p).epoch = s.epoch := by
  unfold State.post; dsimp only; split
  · rfl
  · split <;> rfl
@[simp] theorem State.post_ports (s : State) (t : Nat) (p : List Byte) : (s.post t p).ports = s.ports := by
  unfold State.post; dsimp only; split
  · rfl
  · split <;> rfl
@[simp] theorem State.post_evins (s : State) (t : Nat) (p : List Byte) : (s.post t p).evins = s.evins := by
  unfold State.post; dsimp only; split
  · rfl
  · split <;> rfl
@[simp] theorem State.post_starts (s : State) (t : Nat) (p : List Byte) : (s.post t p).starts = s.starts := by
  unfold State.post; dsimp only; split
  · rfl
  · split <;> rfl
@[simp] theorem State.post_ref (s : State) (t : Nat) (p : List Byte) : (s.post t p).ref = s.ref := by
  unfold State.post; dsimp only; split
  · rfl
  · split <;> rfl
@[simp] theorem State.post_routes (s : State) (t : Nat) (p : List Byte) : (s.post t p).routes = s.routes := by
  unfold State.post; dsimp only; split
  · rfl
  · split <;> rfl
@[simp] theorem State.post_params (s : State) (t : Nat) (p : List Byte) : (s.post t p).params = s.params := by
  unfold State.post; dsimp only; split
  · rfl
  · split <;> rfl
@[simp] theorem State.post_gains (s : State) (t : Nat) (p : List Byte) : (s.post t p).gains = s.gains := by
  unfold State.post; dsimp only; split
  · rfl
  · split <;> rfl
@[simp] theorem State.post_txn (s : State) (t : Nat) (p : List Byte) : (s.post t p).txn = s.txn := by
  unfold State.post; dsimp only; split
  · rfl
  · split <;> rfl
@[simp] theorem State.post_plan (s : State) (t : Nat) (p : List Byte) : (s.post t p).plan = s.plan := by
  unfold State.post; dsimp only; split
  · rfl
  · split <;> rfl
@[simp] theorem State.post_eng (s : State) (t : Nat) (p : List Byte) : (s.post t p).eng = s.eng := by
  unfold State.post; dsimp only; split
  · rfl
  · split <;> rfl
@[simp] theorem State.post_guard (s : State) (t : Nat) (p : List Byte) : (s.post t p).guard = s.guard := by
  unfold State.post; dsimp only; split
  · rfl
  · split <;> rfl
@[simp] theorem State.post_ouv (s : State) (t : Nat) (p : List Byte) : (s.post t p).ouv = s.ouv := by
  unfold State.post; dsimp only; split
  · rfl
  · split <;> rfl
@[simp] theorem State.post_strm (s : State) (t : Nat) (p : List Byte) : (s.post t p).strm = s.strm := by
  unfold State.post; dsimp only; split
  · rfl
  · split <;> rfl
@[simp] theorem State.post_net (s : State) (t : Nat) (p : List Byte) : (s.post t p).net = s.net := by
  unfold State.post; dsimp only; split
  · rfl
  · split <;> rfl
@[simp] theorem State.post_store (s : State) (t : Nat) (p : List Byte) : (s.post t p).store = s.store := by
  unfold State.post; dsimp only; split
  · rfl
  · split <;> rfl
@[simp] theorem State.post_sec (s : State) (t : Nat) (p : List Byte) : (s.post t p).sec = s.sec := by
  unfold State.post; dsimp only; split
  · rfl
  · split <;> rfl
@[simp] theorem State.post_pwr (s : State) (t : Nat) (p : List Byte) : (s.post t p).pwr = s.pwr := by
  unfold State.post; dsimp only; split
  · rfl
  · split <;> rfl
@[simp] theorem State.post_bus (s : State) (t : Nat) (p : List Byte) : (s.post t p).bus = s.bus := by
  unfold State.post; dsimp only; split
  · rfl
  · split <;> rfl
@[simp] theorem State.post_dram (s : State) (t : Nat) (p : List Byte) : (s.post t p).dram = s.dram := by
  unfold State.post; dsimp only; split
  · rfl
  · split <;> rfl
@[simp] theorem State.post_dma (s : State) (t : Nat) (p : List Byte) : (s.post t p).dma = s.dma := by
  unfold State.post; dsimp only; split
  · rfl
  · split <;> rfl
@[simp] theorem State.post_dsp0 (s : State) (t : Nat) (p : List Byte) : (s.post t p).dsp0 = s.dsp0 := by
  unfold State.post; dsimp only; split
  · rfl
  · split <;> rfl
@[simp] theorem State.post_dsp1 (s : State) (t : Nat) (p : List Byte) : (s.post t p).dsp1 = s.dsp1 := by
  unfold State.post; dsimp only; split
  · rfl
  · split <;> rfl
@[simp] theorem State.post_old (s : State) (t : Nat) (p : List Byte) : (s.post t p).old = s.old := by
  unfold State.post; dsimp only; split
  · rfl
  · split <;> rfl
@[simp] theorem State.post_past (s : State) (t : Nat) (p : List Byte) : (s.post t p).past = s.past := by
  unfold State.post; dsimp only; split
  · rfl
  · split <;> rfl
@[simp] theorem State.post_meters (s : State) (t : Nat) (p : List Byte) : (s.post t p).meters = s.meters := by
  unfold State.post; dsimp only; split
  · rfl
  · split <;> rfl
@[simp] theorem State.post_caps (s : State) (t : Nat) (p : List Byte) : (s.post t p).caps = s.caps := by
  unfold State.post; dsimp only; split
  · rfl
  · split <;> rfl
@[simp] theorem State.post_sap (s : State) (t : Nat) (p : List Byte) : (s.post t p).sap = s.sap := by
  unfold State.post; dsimp only; split
  · rfl
  · split <;> rfl
@[simp] theorem State.post_skimIn (s : State) (t : Nat) (p : List Byte) : (s.post t p).skimIn = s.skimIn := by
  unfold State.post; dsimp only; split
  · rfl
  · split <;> rfl
@[simp] theorem State.post_modCh (s : State) (t : Nat) (p : List Byte) : (s.post t p).modCh = s.modCh := by
  unfold State.post; dsimp only; split
  · rfl
  · split <;> rfl
@[simp] theorem State.post_modG (s : State) (t : Nat) (p : List Byte) : (s.post t p).modG = s.modG := by
  unfold State.post; dsimp only; split
  · rfl
  · split <;> rfl
@[simp] theorem State.post_muteRise (s : State) (t : Nat) (p : List Byte) : (s.post t p).muteRise = s.muteRise := by
  unfold State.post; dsimp only; split
  · rfl
  · split <;> rfl
@[simp] theorem State.post_modFade (s : State) (t : Nat) (p : List Byte) : (s.post t p).modFade = s.modFade := by
  unfold State.post; dsimp only; split
  · rfl
  · split <;> rfl
@[simp] theorem State.post_tilCh (s : State) (t : Nat) (p : List Byte) : (s.post t p).tilCh = s.tilCh := by
  unfold State.post; dsimp only; split
  · rfl
  · split <;> rfl
@[simp] theorem State.post_tilG (s : State) (t : Nat) (p : List Byte) : (s.post t p).tilG = s.tilG := by
  unfold State.post; dsimp only; split
  · rfl
  · split <;> rfl
@[simp] theorem State.post_lanes (s : State) (t : Nat) (p : List Byte) : (s.post t p).lanes = s.lanes := by
  unfold State.post; dsimp only; split
  · rfl
  · split <;> rfl
@[simp] theorem State.post_dramLines (s : State) (t : Nat) (p : List Byte) : (s.post t p).dramLines = s.dramLines := by
  unfold State.post; dsimp only; split
  · rfl
  · split <;> rfl

@[simp] theorem State.log_pending (s : State) (c : Nat) (d : List Byte) (k : Option Nat) : (s.log c d k).pending = s.pending := by simp [State.log]
@[simp] theorem State.log_free (s : State) (c : Nat) (d : List Byte) (k : Option Nat) : (s.log c d k).free = s.free := by simp [State.log]
@[simp] theorem State.log_latches (s : State) (c : Nat) (d : List Byte) (k : Option Nat) : (s.log c d k).latches = s.latches := by simp [State.log]
@[simp] theorem State.log_time (s : State) (c : Nat) (d : List Byte) (k : Option Nat) : (s.log c d k).time = s.time := by simp [State.log]
@[simp] theorem State.log_epoch (s : State) (c : Nat) (d : List Byte) (k : Option Nat) : (s.log c d k).epoch = s.epoch := by simp [State.log]
@[simp] theorem State.log_ports (s : State) (c : Nat) (d : List Byte) (k : Option Nat) : (s.log c d k).ports = s.ports := by simp [State.log]
@[simp] theorem State.log_evins (s : State) (c : Nat) (d : List Byte) (k : Option Nat) : (s.log c d k).evins = s.evins := by simp [State.log]
@[simp] theorem State.log_starts (s : State) (c : Nat) (d : List Byte) (k : Option Nat) : (s.log c d k).starts = s.starts := by simp [State.log]
@[simp] theorem State.log_ref (s : State) (c : Nat) (d : List Byte) (k : Option Nat) : (s.log c d k).ref = s.ref := by simp [State.log]
@[simp] theorem State.log_routes (s : State) (c : Nat) (d : List Byte) (k : Option Nat) : (s.log c d k).routes = s.routes := by simp [State.log]
@[simp] theorem State.log_params (s : State) (c : Nat) (d : List Byte) (k : Option Nat) : (s.log c d k).params = s.params := by simp [State.log]
@[simp] theorem State.log_gains (s : State) (c : Nat) (d : List Byte) (k : Option Nat) : (s.log c d k).gains = s.gains := by simp [State.log]
@[simp] theorem State.log_txn (s : State) (c : Nat) (d : List Byte) (k : Option Nat) : (s.log c d k).txn = s.txn := by simp [State.log]
@[simp] theorem State.log_plan (s : State) (c : Nat) (d : List Byte) (k : Option Nat) : (s.log c d k).plan = s.plan := by simp [State.log]
@[simp] theorem State.log_eng (s : State) (c : Nat) (d : List Byte) (k : Option Nat) : (s.log c d k).eng = s.eng := by simp [State.log]
@[simp] theorem State.log_guard (s : State) (c : Nat) (d : List Byte) (k : Option Nat) : (s.log c d k).guard = s.guard := by simp [State.log]
@[simp] theorem State.log_ouv (s : State) (c : Nat) (d : List Byte) (k : Option Nat) : (s.log c d k).ouv = s.ouv := by simp [State.log]
@[simp] theorem State.log_strm (s : State) (c : Nat) (d : List Byte) (k : Option Nat) : (s.log c d k).strm = s.strm := by simp [State.log]
@[simp] theorem State.log_net (s : State) (c : Nat) (d : List Byte) (k : Option Nat) : (s.log c d k).net = s.net := by simp [State.log]
@[simp] theorem State.log_store (s : State) (c : Nat) (d : List Byte) (k : Option Nat) : (s.log c d k).store = s.store := by simp [State.log]
@[simp] theorem State.log_sec (s : State) (c : Nat) (d : List Byte) (k : Option Nat) : (s.log c d k).sec = s.sec := by simp [State.log]
@[simp] theorem State.log_pwr (s : State) (c : Nat) (d : List Byte) (k : Option Nat) : (s.log c d k).pwr = s.pwr := by simp [State.log]
@[simp] theorem State.log_bus (s : State) (c : Nat) (d : List Byte) (k : Option Nat) : (s.log c d k).bus = s.bus := by simp [State.log]
@[simp] theorem State.log_dram (s : State) (c : Nat) (d : List Byte) (k : Option Nat) : (s.log c d k).dram = s.dram := by simp [State.log]
@[simp] theorem State.log_dma (s : State) (c : Nat) (d : List Byte) (k : Option Nat) : (s.log c d k).dma = s.dma := by simp [State.log]
@[simp] theorem State.log_dsp0 (s : State) (c : Nat) (d : List Byte) (k : Option Nat) : (s.log c d k).dsp0 = s.dsp0 := by simp [State.log]
@[simp] theorem State.log_dsp1 (s : State) (c : Nat) (d : List Byte) (k : Option Nat) : (s.log c d k).dsp1 = s.dsp1 := by simp [State.log]
@[simp] theorem State.log_old (s : State) (c : Nat) (d : List Byte) (k : Option Nat) : (s.log c d k).old = s.old := by simp [State.log]
@[simp] theorem State.log_past (s : State) (c : Nat) (d : List Byte) (k : Option Nat) : (s.log c d k).past = s.past := by simp [State.log]
@[simp] theorem State.log_meters (s : State) (c : Nat) (d : List Byte) (k : Option Nat) : (s.log c d k).meters = s.meters := by simp [State.log]
@[simp] theorem State.log_caps (s : State) (c : Nat) (d : List Byte) (k : Option Nat) : (s.log c d k).caps = s.caps := by simp [State.log]
@[simp] theorem State.log_sap (s : State) (c : Nat) (d : List Byte) (k : Option Nat) : (s.log c d k).sap = s.sap := by simp [State.log]
@[simp] theorem State.log_skimIn (s : State) (c : Nat) (d : List Byte) (k : Option Nat) : (s.log c d k).skimIn = s.skimIn := by simp [State.log]
@[simp] theorem State.log_modCh (s : State) (c : Nat) (d : List Byte) (k : Option Nat) : (s.log c d k).modCh = s.modCh := by simp [State.log]
@[simp] theorem State.log_modG (s : State) (c : Nat) (d : List Byte) (k : Option Nat) : (s.log c d k).modG = s.modG := by simp [State.log]
@[simp] theorem State.log_muteRise (s : State) (c : Nat) (d : List Byte) (k : Option Nat) : (s.log c d k).muteRise = s.muteRise := by simp [State.log]
@[simp] theorem State.log_modFade (s : State) (c : Nat) (d : List Byte) (k : Option Nat) : (s.log c d k).modFade = s.modFade := by simp [State.log]
@[simp] theorem State.log_tilCh (s : State) (c : Nat) (d : List Byte) (k : Option Nat) : (s.log c d k).tilCh = s.tilCh := by simp [State.log]
@[simp] theorem State.log_tilG (s : State) (c : Nat) (d : List Byte) (k : Option Nat) : (s.log c d k).tilG = s.tilG := by simp [State.log]
@[simp] theorem State.log_lanes (s : State) (c : Nat) (d : List Byte) (k : Option Nat) : (s.log c d k).lanes = s.lanes := by simp [State.log]
@[simp] theorem State.log_dramLines (s : State) (c : Nat) (d : List Byte) (k : Option Nat) : (s.log c d k).dramLines = s.dramLines := by simp [State.log]

@[simp] theorem State.reach_pending (s : State) (n : Nat) : (s.reach n).pending = s.pending := by unfold State.reach; split <;> rfl
@[simp] theorem State.reach_free (s : State) (n : Nat) : (s.reach n).free = s.free := by unfold State.reach; split <;> rfl
@[simp] theorem State.reach_regs (s : State) (n : Nat) : (s.reach n).regs = s.regs := by unfold State.reach; split <;> rfl
@[simp] theorem State.reach_latches (s : State) (n : Nat) : (s.reach n).latches = s.latches := by unfold State.reach; split <;> rfl
@[simp] theorem State.reach_silt (s : State) (n : Nat) : (s.reach n).silt = s.silt := by unfold State.reach; split <;> rfl
@[simp] theorem State.reach_epoch (s : State) (n : Nat) : (s.reach n).epoch = s.epoch := by unfold State.reach; split <;> rfl
@[simp] theorem State.reach_ports (s : State) (n : Nat) : (s.reach n).ports = s.ports := by unfold State.reach; split <;> rfl
@[simp] theorem State.reach_evins (s : State) (n : Nat) : (s.reach n).evins = s.evins := by unfold State.reach; split <;> rfl
@[simp] theorem State.reach_starts (s : State) (n : Nat) : (s.reach n).starts = s.starts := by unfold State.reach; split <;> rfl
@[simp] theorem State.reach_ref (s : State) (n : Nat) : (s.reach n).ref = s.ref := by unfold State.reach; split <;> rfl
@[simp] theorem State.reach_host (s : State) (n : Nat) : (s.reach n).host = s.host := by unfold State.reach; split <;> rfl
@[simp] theorem State.reach_routes (s : State) (n : Nat) : (s.reach n).routes = s.routes := by unfold State.reach; split <;> rfl
@[simp] theorem State.reach_params (s : State) (n : Nat) : (s.reach n).params = s.params := by unfold State.reach; split <;> rfl
@[simp] theorem State.reach_gains (s : State) (n : Nat) : (s.reach n).gains = s.gains := by unfold State.reach; split <;> rfl
@[simp] theorem State.reach_txn (s : State) (n : Nat) : (s.reach n).txn = s.txn := by unfold State.reach; split <;> rfl
@[simp] theorem State.reach_plan (s : State) (n : Nat) : (s.reach n).plan = s.plan := by unfold State.reach; split <;> rfl
@[simp] theorem State.reach_eng (s : State) (n : Nat) : (s.reach n).eng = s.eng := by unfold State.reach; split <;> rfl
@[simp] theorem State.reach_guard (s : State) (n : Nat) : (s.reach n).guard = s.guard := by unfold State.reach; split <;> rfl
@[simp] theorem State.reach_ouv (s : State) (n : Nat) : (s.reach n).ouv = s.ouv := by unfold State.reach; split <;> rfl
@[simp] theorem State.reach_strm (s : State) (n : Nat) : (s.reach n).strm = s.strm := by unfold State.reach; split <;> rfl
@[simp] theorem State.reach_net (s : State) (n : Nat) : (s.reach n).net = s.net := by unfold State.reach; split <;> rfl
@[simp] theorem State.reach_store (s : State) (n : Nat) : (s.reach n).store = s.store := by unfold State.reach; split <;> rfl
@[simp] theorem State.reach_sec (s : State) (n : Nat) : (s.reach n).sec = s.sec := by unfold State.reach; split <;> rfl
@[simp] theorem State.reach_pwr (s : State) (n : Nat) : (s.reach n).pwr = s.pwr := by unfold State.reach; split <;> rfl
@[simp] theorem State.reach_bus (s : State) (n : Nat) : (s.reach n).bus = s.bus := by unfold State.reach; split <;> rfl
@[simp] theorem State.reach_dram (s : State) (n : Nat) : (s.reach n).dram = s.dram := by unfold State.reach; split <;> rfl
@[simp] theorem State.reach_dma (s : State) (n : Nat) : (s.reach n).dma = s.dma := by unfold State.reach; split <;> rfl
@[simp] theorem State.reach_dsp0 (s : State) (n : Nat) : (s.reach n).dsp0 = s.dsp0 := by unfold State.reach; split <;> rfl
@[simp] theorem State.reach_dsp1 (s : State) (n : Nat) : (s.reach n).dsp1 = s.dsp1 := by unfold State.reach; split <;> rfl
@[simp] theorem State.reach_old (s : State) (n : Nat) : (s.reach n).old = s.old := by unfold State.reach; split <;> rfl
@[simp] theorem State.reach_past (s : State) (n : Nat) : (s.reach n).past = s.past := by unfold State.reach; split <;> rfl
@[simp] theorem State.reach_meters (s : State) (n : Nat) : (s.reach n).meters = s.meters := by unfold State.reach; split <;> rfl
@[simp] theorem State.reach_caps (s : State) (n : Nat) : (s.reach n).caps = s.caps := by unfold State.reach; split <;> rfl
@[simp] theorem State.reach_sap (s : State) (n : Nat) : (s.reach n).sap = s.sap := by unfold State.reach; split <;> rfl
@[simp] theorem State.reach_skimIn (s : State) (n : Nat) : (s.reach n).skimIn = s.skimIn := by unfold State.reach; split <;> rfl
@[simp] theorem State.reach_modCh (s : State) (n : Nat) : (s.reach n).modCh = s.modCh := by unfold State.reach; split <;> rfl
@[simp] theorem State.reach_modG (s : State) (n : Nat) : (s.reach n).modG = s.modG := by unfold State.reach; split <;> rfl
@[simp] theorem State.reach_muteRise (s : State) (n : Nat) : (s.reach n).muteRise = s.muteRise := by unfold State.reach; split <;> rfl
@[simp] theorem State.reach_modFade (s : State) (n : Nat) : (s.reach n).modFade = s.modFade := by unfold State.reach; split <;> rfl
@[simp] theorem State.reach_tilCh (s : State) (n : Nat) : (s.reach n).tilCh = s.tilCh := by unfold State.reach; split <;> rfl
@[simp] theorem State.reach_tilG (s : State) (n : Nat) : (s.reach n).tilG = s.tilG := by unfold State.reach; split <;> rfl
@[simp] theorem State.reach_lanes (s : State) (n : Nat) : (s.reach n).lanes = s.lanes := by unfold State.reach; split <;> rfl
@[simp] theorem State.reach_dramLines (s : State) (n : Nat) : (s.reach n).dramLines = s.dramLines := by unfold State.reach; split <;> rfl

@[simp] theorem State.setRing_pending (s : State) (r : Nat) (x : RingS) : (s.setRing r x).pending = s.pending := rfl
@[simp] theorem State.setRing_free (s : State) (r : Nat) (x : RingS) : (s.setRing r x).free = s.free := rfl
@[simp] theorem State.setRing_regs (s : State) (r : Nat) (x : RingS) : (s.setRing r x).regs = s.regs := rfl
@[simp] theorem State.setRing_latches (s : State) (r : Nat) (x : RingS) : (s.setRing r x).latches = s.latches := rfl
@[simp] theorem State.setRing_silt (s : State) (r : Nat) (x : RingS) : (s.setRing r x).silt = s.silt := rfl
@[simp] theorem State.setRing_time (s : State) (r : Nat) (x : RingS) : (s.setRing r x).time = s.time := rfl
@[simp] theorem State.setRing_epoch (s : State) (r : Nat) (x : RingS) : (s.setRing r x).epoch = s.epoch := rfl
@[simp] theorem State.setRing_ports (s : State) (r : Nat) (x : RingS) : (s.setRing r x).ports = s.ports := rfl
@[simp] theorem State.setRing_evins (s : State) (r : Nat) (x : RingS) : (s.setRing r x).evins = s.evins := rfl
@[simp] theorem State.setRing_starts (s : State) (r : Nat) (x : RingS) : (s.setRing r x).starts = s.starts := rfl
@[simp] theorem State.setRing_ref (s : State) (r : Nat) (x : RingS) : (s.setRing r x).ref = s.ref := rfl
@[simp] theorem State.setRing_routes (s : State) (r : Nat) (x : RingS) : (s.setRing r x).routes = s.routes := rfl
@[simp] theorem State.setRing_params (s : State) (r : Nat) (x : RingS) : (s.setRing r x).params = s.params := rfl
@[simp] theorem State.setRing_gains (s : State) (r : Nat) (x : RingS) : (s.setRing r x).gains = s.gains := rfl
@[simp] theorem State.setRing_txn (s : State) (r : Nat) (x : RingS) : (s.setRing r x).txn = s.txn := rfl
@[simp] theorem State.setRing_plan (s : State) (r : Nat) (x : RingS) : (s.setRing r x).plan = s.plan := rfl
@[simp] theorem State.setRing_eng (s : State) (r : Nat) (x : RingS) : (s.setRing r x).eng = s.eng := rfl
@[simp] theorem State.setRing_guard (s : State) (r : Nat) (x : RingS) : (s.setRing r x).guard = s.guard := rfl
@[simp] theorem State.setRing_ouv (s : State) (r : Nat) (x : RingS) : (s.setRing r x).ouv = s.ouv := rfl
@[simp] theorem State.setRing_strm (s : State) (r : Nat) (x : RingS) : (s.setRing r x).strm = s.strm := rfl
@[simp] theorem State.setRing_net (s : State) (r : Nat) (x : RingS) : (s.setRing r x).net = s.net := rfl
@[simp] theorem State.setRing_store (s : State) (r : Nat) (x : RingS) : (s.setRing r x).store = s.store := rfl
@[simp] theorem State.setRing_sec (s : State) (r : Nat) (x : RingS) : (s.setRing r x).sec = s.sec := rfl
@[simp] theorem State.setRing_pwr (s : State) (r : Nat) (x : RingS) : (s.setRing r x).pwr = s.pwr := rfl
@[simp] theorem State.setRing_bus (s : State) (r : Nat) (x : RingS) : (s.setRing r x).bus = s.bus := rfl
@[simp] theorem State.setRing_dram (s : State) (r : Nat) (x : RingS) : (s.setRing r x).dram = s.dram := rfl
@[simp] theorem State.setRing_dma (s : State) (r : Nat) (x : RingS) : (s.setRing r x).dma = s.dma := rfl
@[simp] theorem State.setRing_dsp0 (s : State) (r : Nat) (x : RingS) : (s.setRing r x).dsp0 = s.dsp0 := rfl
@[simp] theorem State.setRing_dsp1 (s : State) (r : Nat) (x : RingS) : (s.setRing r x).dsp1 = s.dsp1 := rfl
@[simp] theorem State.setRing_old (s : State) (r : Nat) (x : RingS) : (s.setRing r x).old = s.old := rfl
@[simp] theorem State.setRing_past (s : State) (r : Nat) (x : RingS) : (s.setRing r x).past = s.past := rfl
@[simp] theorem State.setRing_meters (s : State) (r : Nat) (x : RingS) : (s.setRing r x).meters = s.meters := rfl
@[simp] theorem State.setRing_caps (s : State) (r : Nat) (x : RingS) : (s.setRing r x).caps = s.caps := rfl
@[simp] theorem State.setRing_sap (s : State) (r : Nat) (x : RingS) : (s.setRing r x).sap = s.sap := rfl
@[simp] theorem State.setRing_skimIn (s : State) (r : Nat) (x : RingS) : (s.setRing r x).skimIn = s.skimIn := rfl
@[simp] theorem State.setRing_modCh (s : State) (r : Nat) (x : RingS) : (s.setRing r x).modCh = s.modCh := rfl
@[simp] theorem State.setRing_modG (s : State) (r : Nat) (x : RingS) : (s.setRing r x).modG = s.modG := rfl
@[simp] theorem State.setRing_muteRise (s : State) (r : Nat) (x : RingS) : (s.setRing r x).muteRise = s.muteRise := rfl
@[simp] theorem State.setRing_modFade (s : State) (r : Nat) (x : RingS) : (s.setRing r x).modFade = s.modFade := rfl
@[simp] theorem State.setRing_tilCh (s : State) (r : Nat) (x : RingS) : (s.setRing r x).tilCh = s.tilCh := rfl
@[simp] theorem State.setRing_tilG (s : State) (r : Nat) (x : RingS) : (s.setRing r x).tilG = s.tilG := rfl
@[simp] theorem State.setRing_lanes (s : State) (r : Nat) (x : RingS) : (s.setRing r x).lanes = s.lanes := rfl
@[simp] theorem State.setRing_dramLines (s : State) (r : Nat) (x : RingS) : (s.setRing r x).dramLines = s.dramLines := rfl

@[simp] theorem State.showFull_pending (s : State) (r : Nat) : (s.showFull r).pending = s.pending := by unfold State.showFull; split <;> rfl
@[simp] theorem State.showFull_free (s : State) (r : Nat) : (s.showFull r).free = s.free := by unfold State.showFull; split <;> rfl
@[simp] theorem State.showFull_latches (s : State) (r : Nat) : (s.showFull r).latches = s.latches := by unfold State.showFull; split <;> rfl
@[simp] theorem State.showFull_silt (s : State) (r : Nat) : (s.showFull r).silt = s.silt := by unfold State.showFull; split <;> rfl
@[simp] theorem State.showFull_time (s : State) (r : Nat) : (s.showFull r).time = s.time := by unfold State.showFull; split <;> rfl
@[simp] theorem State.showFull_epoch (s : State) (r : Nat) : (s.showFull r).epoch = s.epoch := by unfold State.showFull; split <;> rfl
@[simp] theorem State.showFull_ports (s : State) (r : Nat) : (s.showFull r).ports = s.ports := by unfold State.showFull; split <;> rfl
@[simp] theorem State.showFull_evins (s : State) (r : Nat) : (s.showFull r).evins = s.evins := by unfold State.showFull; split <;> rfl
@[simp] theorem State.showFull_starts (s : State) (r : Nat) : (s.showFull r).starts = s.starts := by unfold State.showFull; split <;> rfl
@[simp] theorem State.showFull_ref (s : State) (r : Nat) : (s.showFull r).ref = s.ref := by unfold State.showFull; split <;> rfl
@[simp] theorem State.showFull_host (s : State) (r : Nat) : (s.showFull r).host = s.host := by unfold State.showFull; split <;> rfl
@[simp] theorem State.showFull_routes (s : State) (r : Nat) : (s.showFull r).routes = s.routes := by unfold State.showFull; split <;> rfl
@[simp] theorem State.showFull_params (s : State) (r : Nat) : (s.showFull r).params = s.params := by unfold State.showFull; split <;> rfl
@[simp] theorem State.showFull_gains (s : State) (r : Nat) : (s.showFull r).gains = s.gains := by unfold State.showFull; split <;> rfl
@[simp] theorem State.showFull_txn (s : State) (r : Nat) : (s.showFull r).txn = s.txn := by unfold State.showFull; split <;> rfl
@[simp] theorem State.showFull_plan (s : State) (r : Nat) : (s.showFull r).plan = s.plan := by unfold State.showFull; split <;> rfl
@[simp] theorem State.showFull_eng (s : State) (r : Nat) : (s.showFull r).eng = s.eng := by unfold State.showFull; split <;> rfl
@[simp] theorem State.showFull_guard (s : State) (r : Nat) : (s.showFull r).guard = s.guard := by unfold State.showFull; split <;> rfl
@[simp] theorem State.showFull_ouv (s : State) (r : Nat) : (s.showFull r).ouv = s.ouv := by unfold State.showFull; split <;> rfl
@[simp] theorem State.showFull_strm (s : State) (r : Nat) : (s.showFull r).strm = s.strm := by unfold State.showFull; split <;> rfl
@[simp] theorem State.showFull_net (s : State) (r : Nat) : (s.showFull r).net = s.net := by unfold State.showFull; split <;> rfl
@[simp] theorem State.showFull_store (s : State) (r : Nat) : (s.showFull r).store = s.store := by unfold State.showFull; split <;> rfl
@[simp] theorem State.showFull_sec (s : State) (r : Nat) : (s.showFull r).sec = s.sec := by unfold State.showFull; split <;> rfl
@[simp] theorem State.showFull_pwr (s : State) (r : Nat) : (s.showFull r).pwr = s.pwr := by unfold State.showFull; split <;> rfl
@[simp] theorem State.showFull_bus (s : State) (r : Nat) : (s.showFull r).bus = s.bus := by unfold State.showFull; split <;> rfl
@[simp] theorem State.showFull_dram (s : State) (r : Nat) : (s.showFull r).dram = s.dram := by unfold State.showFull; split <;> rfl
@[simp] theorem State.showFull_dma (s : State) (r : Nat) : (s.showFull r).dma = s.dma := by unfold State.showFull; split <;> rfl
@[simp] theorem State.showFull_dsp0 (s : State) (r : Nat) : (s.showFull r).dsp0 = s.dsp0 := by unfold State.showFull; split <;> rfl
@[simp] theorem State.showFull_dsp1 (s : State) (r : Nat) : (s.showFull r).dsp1 = s.dsp1 := by unfold State.showFull; split <;> rfl
@[simp] theorem State.showFull_old (s : State) (r : Nat) : (s.showFull r).old = s.old := by unfold State.showFull; split <;> rfl
@[simp] theorem State.showFull_past (s : State) (r : Nat) : (s.showFull r).past = s.past := by unfold State.showFull; split <;> rfl
@[simp] theorem State.showFull_meters (s : State) (r : Nat) : (s.showFull r).meters = s.meters := by unfold State.showFull; split <;> rfl
@[simp] theorem State.showFull_caps (s : State) (r : Nat) : (s.showFull r).caps = s.caps := by unfold State.showFull; split <;> rfl
@[simp] theorem State.showFull_sap (s : State) (r : Nat) : (s.showFull r).sap = s.sap := by unfold State.showFull; split <;> rfl
@[simp] theorem State.showFull_skimIn (s : State) (r : Nat) : (s.showFull r).skimIn = s.skimIn := by unfold State.showFull; split <;> rfl
@[simp] theorem State.showFull_modCh (s : State) (r : Nat) : (s.showFull r).modCh = s.modCh := by unfold State.showFull; split <;> rfl
@[simp] theorem State.showFull_modG (s : State) (r : Nat) : (s.showFull r).modG = s.modG := by unfold State.showFull; split <;> rfl
@[simp] theorem State.showFull_muteRise (s : State) (r : Nat) : (s.showFull r).muteRise = s.muteRise := by unfold State.showFull; split <;> rfl
@[simp] theorem State.showFull_modFade (s : State) (r : Nat) : (s.showFull r).modFade = s.modFade := by unfold State.showFull; split <;> rfl
@[simp] theorem State.showFull_tilCh (s : State) (r : Nat) : (s.showFull r).tilCh = s.tilCh := by unfold State.showFull; split <;> rfl
@[simp] theorem State.showFull_tilG (s : State) (r : Nat) : (s.showFull r).tilG = s.tilG := by unfold State.showFull; split <;> rfl
@[simp] theorem State.showFull_lanes (s : State) (r : Nat) : (s.showFull r).lanes = s.lanes := by unfold State.showFull; split <;> rfl
@[simp] theorem State.showFull_dramLines (s : State) (r : Nat) : (s.showFull r).dramLines = s.dramLines := by unfold State.showFull; split <;> rfl

@[simp] theorem State.start_pending (s : State) (o : Nat) (d : Desc) : (s.start o d).pending = s.pending := rfl
@[simp] theorem State.start_free (s : State) (o : Nat) (d : Desc) : (s.start o d).free = s.free := rfl
@[simp] theorem State.start_regs (s : State) (o : Nat) (d : Desc) : (s.start o d).regs = s.regs := rfl
@[simp] theorem State.start_latches (s : State) (o : Nat) (d : Desc) : (s.start o d).latches = s.latches := rfl
@[simp] theorem State.start_silt (s : State) (o : Nat) (d : Desc) : (s.start o d).silt = s.silt := rfl
@[simp] theorem State.start_time (s : State) (o : Nat) (d : Desc) : (s.start o d).time = s.time := rfl
@[simp] theorem State.start_epoch (s : State) (o : Nat) (d : Desc) : (s.start o d).epoch = s.epoch := rfl
@[simp] theorem State.start_ports (s : State) (o : Nat) (d : Desc) : (s.start o d).ports = s.ports := rfl
@[simp] theorem State.start_evins (s : State) (o : Nat) (d : Desc) : (s.start o d).evins = s.evins := rfl
@[simp] theorem State.start_starts (s : State) (o : Nat) (d : Desc) : (s.start o d).starts = s.starts := rfl
@[simp] theorem State.start_ref (s : State) (o : Nat) (d : Desc) : (s.start o d).ref = s.ref := rfl
@[simp] theorem State.start_routes (s : State) (o : Nat) (d : Desc) : (s.start o d).routes = s.routes := rfl
@[simp] theorem State.start_params (s : State) (o : Nat) (d : Desc) : (s.start o d).params = s.params := rfl
@[simp] theorem State.start_gains (s : State) (o : Nat) (d : Desc) : (s.start o d).gains = s.gains := rfl
@[simp] theorem State.start_txn (s : State) (o : Nat) (d : Desc) : (s.start o d).txn = s.txn := rfl
@[simp] theorem State.start_plan (s : State) (o : Nat) (d : Desc) : (s.start o d).plan = s.plan := rfl
@[simp] theorem State.start_eng (s : State) (o : Nat) (d : Desc) : (s.start o d).eng = s.eng := rfl
@[simp] theorem State.start_guard (s : State) (o : Nat) (d : Desc) : (s.start o d).guard = s.guard := rfl
@[simp] theorem State.start_ouv (s : State) (o : Nat) (d : Desc) : (s.start o d).ouv = s.ouv := rfl
@[simp] theorem State.start_strm (s : State) (o : Nat) (d : Desc) : (s.start o d).strm = s.strm := rfl
@[simp] theorem State.start_net (s : State) (o : Nat) (d : Desc) : (s.start o d).net = s.net := rfl
@[simp] theorem State.start_store (s : State) (o : Nat) (d : Desc) : (s.start o d).store = s.store := rfl
@[simp] theorem State.start_sec (s : State) (o : Nat) (d : Desc) : (s.start o d).sec = s.sec := rfl
@[simp] theorem State.start_pwr (s : State) (o : Nat) (d : Desc) : (s.start o d).pwr = s.pwr := rfl
@[simp] theorem State.start_bus (s : State) (o : Nat) (d : Desc) : (s.start o d).bus = s.bus := rfl
@[simp] theorem State.start_dram (s : State) (o : Nat) (d : Desc) : (s.start o d).dram = s.dram := rfl
@[simp] theorem State.start_dma (s : State) (o : Nat) (d : Desc) : (s.start o d).dma = s.dma := rfl
@[simp] theorem State.start_dsp0 (s : State) (o : Nat) (d : Desc) : (s.start o d).dsp0 = s.dsp0 := rfl
@[simp] theorem State.start_dsp1 (s : State) (o : Nat) (d : Desc) : (s.start o d).dsp1 = s.dsp1 := rfl
@[simp] theorem State.start_old (s : State) (o : Nat) (d : Desc) : (s.start o d).old = s.old := rfl
@[simp] theorem State.start_past (s : State) (o : Nat) (d : Desc) : (s.start o d).past = s.past := rfl
@[simp] theorem State.start_meters (s : State) (o : Nat) (d : Desc) : (s.start o d).meters = s.meters := rfl
@[simp] theorem State.start_caps (s : State) (o : Nat) (d : Desc) : (s.start o d).caps = s.caps := rfl
@[simp] theorem State.start_sap (s : State) (o : Nat) (d : Desc) : (s.start o d).sap = s.sap := rfl
@[simp] theorem State.start_skimIn (s : State) (o : Nat) (d : Desc) : (s.start o d).skimIn = s.skimIn := rfl
@[simp] theorem State.start_modCh (s : State) (o : Nat) (d : Desc) : (s.start o d).modCh = s.modCh := rfl
@[simp] theorem State.start_modG (s : State) (o : Nat) (d : Desc) : (s.start o d).modG = s.modG := rfl
@[simp] theorem State.start_muteRise (s : State) (o : Nat) (d : Desc) : (s.start o d).muteRise = s.muteRise := rfl
@[simp] theorem State.start_modFade (s : State) (o : Nat) (d : Desc) : (s.start o d).modFade = s.modFade := rfl
@[simp] theorem State.start_tilCh (s : State) (o : Nat) (d : Desc) : (s.start o d).tilCh = s.tilCh := rfl
@[simp] theorem State.start_tilG (s : State) (o : Nat) (d : Desc) : (s.start o d).tilG = s.tilG := rfl
@[simp] theorem State.start_lanes (s : State) (o : Nat) (d : Desc) : (s.start o d).lanes = s.lanes := rfl
@[simp] theorem State.start_dramLines (s : State) (o : Nat) (d : Desc) : (s.start o d).dramLines = s.dramLines := rfl

@[simp] theorem State.writeCpl_pending (s : State) (r : Nat) (c : Cpl) (k p : List Byte) (n : Nat) : (s.writeCpl r c k p n).pending = s.pending := by simp [State.writeCpl]
@[simp] theorem State.writeCpl_free (s : State) (r : Nat) (c : Cpl) (k p : List Byte) (n : Nat) : (s.writeCpl r c k p n).free = s.free := by simp [State.writeCpl]
@[simp] theorem State.writeCpl_latches (s : State) (r : Nat) (c : Cpl) (k p : List Byte) (n : Nat) : (s.writeCpl r c k p n).latches = s.latches := by simp [State.writeCpl]
@[simp] theorem State.writeCpl_silt (s : State) (r : Nat) (c : Cpl) (k p : List Byte) (n : Nat) : (s.writeCpl r c k p n).silt = s.silt := by simp [State.writeCpl]
@[simp] theorem State.writeCpl_time (s : State) (r : Nat) (c : Cpl) (k p : List Byte) (n : Nat) : (s.writeCpl r c k p n).time = s.time := by simp [State.writeCpl]
@[simp] theorem State.writeCpl_epoch (s : State) (r : Nat) (c : Cpl) (k p : List Byte) (n : Nat) : (s.writeCpl r c k p n).epoch = s.epoch := by simp [State.writeCpl]
@[simp] theorem State.writeCpl_ports (s : State) (r : Nat) (c : Cpl) (k p : List Byte) (n : Nat) : (s.writeCpl r c k p n).ports = s.ports := by simp [State.writeCpl]
@[simp] theorem State.writeCpl_evins (s : State) (r : Nat) (c : Cpl) (k p : List Byte) (n : Nat) : (s.writeCpl r c k p n).evins = s.evins := by simp [State.writeCpl]
@[simp] theorem State.writeCpl_starts (s : State) (r : Nat) (c : Cpl) (k p : List Byte) (n : Nat) : (s.writeCpl r c k p n).starts = s.starts := by simp [State.writeCpl]
@[simp] theorem State.writeCpl_ref (s : State) (r : Nat) (c : Cpl) (k p : List Byte) (n : Nat) : (s.writeCpl r c k p n).ref = s.ref := by simp [State.writeCpl]
@[simp] theorem State.writeCpl_routes (s : State) (r : Nat) (c : Cpl) (k p : List Byte) (n : Nat) : (s.writeCpl r c k p n).routes = s.routes := by simp [State.writeCpl]
@[simp] theorem State.writeCpl_params (s : State) (r : Nat) (c : Cpl) (k p : List Byte) (n : Nat) : (s.writeCpl r c k p n).params = s.params := by simp [State.writeCpl]
@[simp] theorem State.writeCpl_gains (s : State) (r : Nat) (c : Cpl) (k p : List Byte) (n : Nat) : (s.writeCpl r c k p n).gains = s.gains := by simp [State.writeCpl]
@[simp] theorem State.writeCpl_txn (s : State) (r : Nat) (c : Cpl) (k p : List Byte) (n : Nat) : (s.writeCpl r c k p n).txn = s.txn := by simp [State.writeCpl]
@[simp] theorem State.writeCpl_plan (s : State) (r : Nat) (c : Cpl) (k p : List Byte) (n : Nat) : (s.writeCpl r c k p n).plan = s.plan := by simp [State.writeCpl]
@[simp] theorem State.writeCpl_eng (s : State) (r : Nat) (c : Cpl) (k p : List Byte) (n : Nat) : (s.writeCpl r c k p n).eng = s.eng := by simp [State.writeCpl]
@[simp] theorem State.writeCpl_guard (s : State) (r : Nat) (c : Cpl) (k p : List Byte) (n : Nat) : (s.writeCpl r c k p n).guard = s.guard := by simp [State.writeCpl]
@[simp] theorem State.writeCpl_ouv (s : State) (r : Nat) (c : Cpl) (k p : List Byte) (n : Nat) : (s.writeCpl r c k p n).ouv = s.ouv := by simp [State.writeCpl]
@[simp] theorem State.writeCpl_strm (s : State) (r : Nat) (c : Cpl) (k p : List Byte) (n : Nat) : (s.writeCpl r c k p n).strm = s.strm := by simp [State.writeCpl]
@[simp] theorem State.writeCpl_net (s : State) (r : Nat) (c : Cpl) (k p : List Byte) (n : Nat) : (s.writeCpl r c k p n).net = s.net := by simp [State.writeCpl]
@[simp] theorem State.writeCpl_store (s : State) (r : Nat) (c : Cpl) (k p : List Byte) (n : Nat) : (s.writeCpl r c k p n).store = s.store := by simp [State.writeCpl]
@[simp] theorem State.writeCpl_sec (s : State) (r : Nat) (c : Cpl) (k p : List Byte) (n : Nat) : (s.writeCpl r c k p n).sec = s.sec := by simp [State.writeCpl]
@[simp] theorem State.writeCpl_pwr (s : State) (r : Nat) (c : Cpl) (k p : List Byte) (n : Nat) : (s.writeCpl r c k p n).pwr = s.pwr := by simp [State.writeCpl]
@[simp] theorem State.writeCpl_bus (s : State) (r : Nat) (c : Cpl) (k p : List Byte) (n : Nat) : (s.writeCpl r c k p n).bus = s.bus := by simp [State.writeCpl]
@[simp] theorem State.writeCpl_dram (s : State) (r : Nat) (c : Cpl) (k p : List Byte) (n : Nat) : (s.writeCpl r c k p n).dram = s.dram := by simp [State.writeCpl]
@[simp] theorem State.writeCpl_dma (s : State) (r : Nat) (c : Cpl) (k p : List Byte) (n : Nat) : (s.writeCpl r c k p n).dma = s.dma := by simp [State.writeCpl]
@[simp] theorem State.writeCpl_dsp0 (s : State) (r : Nat) (c : Cpl) (k p : List Byte) (n : Nat) : (s.writeCpl r c k p n).dsp0 = s.dsp0 := by simp [State.writeCpl]
@[simp] theorem State.writeCpl_dsp1 (s : State) (r : Nat) (c : Cpl) (k p : List Byte) (n : Nat) : (s.writeCpl r c k p n).dsp1 = s.dsp1 := by simp [State.writeCpl]
@[simp] theorem State.writeCpl_old (s : State) (r : Nat) (c : Cpl) (k p : List Byte) (n : Nat) : (s.writeCpl r c k p n).old = s.old := by simp [State.writeCpl]
@[simp] theorem State.writeCpl_past (s : State) (r : Nat) (c : Cpl) (k p : List Byte) (n : Nat) : (s.writeCpl r c k p n).past = s.past := by simp [State.writeCpl]
@[simp] theorem State.writeCpl_meters (s : State) (r : Nat) (c : Cpl) (k p : List Byte) (n : Nat) : (s.writeCpl r c k p n).meters = s.meters := by simp [State.writeCpl]
@[simp] theorem State.writeCpl_caps (s : State) (r : Nat) (c : Cpl) (k p : List Byte) (n : Nat) : (s.writeCpl r c k p n).caps = s.caps := by simp [State.writeCpl]
@[simp] theorem State.writeCpl_sap (s : State) (r : Nat) (c : Cpl) (k p : List Byte) (n : Nat) : (s.writeCpl r c k p n).sap = s.sap := by simp [State.writeCpl]
@[simp] theorem State.writeCpl_skimIn (s : State) (r : Nat) (c : Cpl) (k p : List Byte) (n : Nat) : (s.writeCpl r c k p n).skimIn = s.skimIn := by simp [State.writeCpl]
@[simp] theorem State.writeCpl_modCh (s : State) (r : Nat) (c : Cpl) (k p : List Byte) (n : Nat) : (s.writeCpl r c k p n).modCh = s.modCh := by simp [State.writeCpl]
@[simp] theorem State.writeCpl_modG (s : State) (r : Nat) (c : Cpl) (k p : List Byte) (n : Nat) : (s.writeCpl r c k p n).modG = s.modG := by simp [State.writeCpl]
@[simp] theorem State.writeCpl_muteRise (s : State) (r : Nat) (c : Cpl) (k p : List Byte) (n : Nat) : (s.writeCpl r c k p n).muteRise = s.muteRise := by simp [State.writeCpl]
@[simp] theorem State.writeCpl_modFade (s : State) (r : Nat) (c : Cpl) (k p : List Byte) (n : Nat) : (s.writeCpl r c k p n).modFade = s.modFade := by simp [State.writeCpl]
@[simp] theorem State.writeCpl_tilCh (s : State) (r : Nat) (c : Cpl) (k p : List Byte) (n : Nat) : (s.writeCpl r c k p n).tilCh = s.tilCh := by simp [State.writeCpl]
@[simp] theorem State.writeCpl_tilG (s : State) (r : Nat) (c : Cpl) (k p : List Byte) (n : Nat) : (s.writeCpl r c k p n).tilG = s.tilG := by simp [State.writeCpl]
@[simp] theorem State.writeCpl_lanes (s : State) (r : Nat) (c : Cpl) (k p : List Byte) (n : Nat) : (s.writeCpl r c k p n).lanes = s.lanes := by simp [State.writeCpl]
@[simp] theorem State.writeCpl_dramLines (s : State) (r : Nat) (c : Cpl) (k p : List Byte) (n : Nat) : (s.writeCpl r c k p n).dramLines = s.dramLines := by simp [State.writeCpl]

@[simp] theorem State.emitCpl_pending (s : State) (r : Nat) (c : Cpl) (k p : List Byte) (n : Nat) : (s.emitCpl r c k p n).pending = s.pending := by
  unfold State.emitCpl; split
  · split <;> rfl
  · simp
@[simp] theorem State.emitCpl_free (s : State) (r : Nat) (c : Cpl) (k p : List Byte) (n : Nat) : (s.emitCpl r c k p n).free = s.free := by
  unfold State.emitCpl; split
  · split <;> rfl
  · simp
@[simp] theorem State.emitCpl_latches (s : State) (r : Nat) (c : Cpl) (k p : List Byte) (n : Nat) : (s.emitCpl r c k p n).latches = s.latches := by
  unfold State.emitCpl; split
  · split <;> rfl
  · simp
@[simp] theorem State.emitCpl_silt (s : State) (r : Nat) (c : Cpl) (k p : List Byte) (n : Nat) : (s.emitCpl r c k p n).silt = s.silt := by
  unfold State.emitCpl; split
  · split <;> rfl
  · simp
@[simp] theorem State.emitCpl_time (s : State) (r : Nat) (c : Cpl) (k p : List Byte) (n : Nat) : (s.emitCpl r c k p n).time = s.time := by
  unfold State.emitCpl; split
  · split <;> rfl
  · simp
@[simp] theorem State.emitCpl_epoch (s : State) (r : Nat) (c : Cpl) (k p : List Byte) (n : Nat) : (s.emitCpl r c k p n).epoch = s.epoch := by
  unfold State.emitCpl; split
  · split <;> rfl
  · simp
@[simp] theorem State.emitCpl_ports (s : State) (r : Nat) (c : Cpl) (k p : List Byte) (n : Nat) : (s.emitCpl r c k p n).ports = s.ports := by
  unfold State.emitCpl; split
  · split <;> rfl
  · simp
@[simp] theorem State.emitCpl_evins (s : State) (r : Nat) (c : Cpl) (k p : List Byte) (n : Nat) : (s.emitCpl r c k p n).evins = s.evins := by
  unfold State.emitCpl; split
  · split <;> rfl
  · simp
@[simp] theorem State.emitCpl_starts (s : State) (r : Nat) (c : Cpl) (k p : List Byte) (n : Nat) : (s.emitCpl r c k p n).starts = s.starts := by
  unfold State.emitCpl; split
  · split <;> rfl
  · simp
@[simp] theorem State.emitCpl_ref (s : State) (r : Nat) (c : Cpl) (k p : List Byte) (n : Nat) : (s.emitCpl r c k p n).ref = s.ref := by
  unfold State.emitCpl; split
  · split <;> rfl
  · simp
@[simp] theorem State.emitCpl_routes (s : State) (r : Nat) (c : Cpl) (k p : List Byte) (n : Nat) : (s.emitCpl r c k p n).routes = s.routes := by
  unfold State.emitCpl; split
  · split <;> rfl
  · simp
@[simp] theorem State.emitCpl_params (s : State) (r : Nat) (c : Cpl) (k p : List Byte) (n : Nat) : (s.emitCpl r c k p n).params = s.params := by
  unfold State.emitCpl; split
  · split <;> rfl
  · simp
@[simp] theorem State.emitCpl_gains (s : State) (r : Nat) (c : Cpl) (k p : List Byte) (n : Nat) : (s.emitCpl r c k p n).gains = s.gains := by
  unfold State.emitCpl; split
  · split <;> rfl
  · simp
@[simp] theorem State.emitCpl_txn (s : State) (r : Nat) (c : Cpl) (k p : List Byte) (n : Nat) : (s.emitCpl r c k p n).txn = s.txn := by
  unfold State.emitCpl; split
  · split <;> rfl
  · simp
@[simp] theorem State.emitCpl_plan (s : State) (r : Nat) (c : Cpl) (k p : List Byte) (n : Nat) : (s.emitCpl r c k p n).plan = s.plan := by
  unfold State.emitCpl; split
  · split <;> rfl
  · simp
@[simp] theorem State.emitCpl_eng (s : State) (r : Nat) (c : Cpl) (k p : List Byte) (n : Nat) : (s.emitCpl r c k p n).eng = s.eng := by
  unfold State.emitCpl; split
  · split <;> rfl
  · simp
@[simp] theorem State.emitCpl_guard (s : State) (r : Nat) (c : Cpl) (k p : List Byte) (n : Nat) : (s.emitCpl r c k p n).guard = s.guard := by
  unfold State.emitCpl; split
  · split <;> rfl
  · simp
@[simp] theorem State.emitCpl_ouv (s : State) (r : Nat) (c : Cpl) (k p : List Byte) (n : Nat) : (s.emitCpl r c k p n).ouv = s.ouv := by
  unfold State.emitCpl; split
  · split <;> rfl
  · simp
@[simp] theorem State.emitCpl_strm (s : State) (r : Nat) (c : Cpl) (k p : List Byte) (n : Nat) : (s.emitCpl r c k p n).strm = s.strm := by
  unfold State.emitCpl; split
  · split <;> rfl
  · simp
@[simp] theorem State.emitCpl_net (s : State) (r : Nat) (c : Cpl) (k p : List Byte) (n : Nat) : (s.emitCpl r c k p n).net = s.net := by
  unfold State.emitCpl; split
  · split <;> rfl
  · simp
@[simp] theorem State.emitCpl_store (s : State) (r : Nat) (c : Cpl) (k p : List Byte) (n : Nat) : (s.emitCpl r c k p n).store = s.store := by
  unfold State.emitCpl; split
  · split <;> rfl
  · simp
@[simp] theorem State.emitCpl_sec (s : State) (r : Nat) (c : Cpl) (k p : List Byte) (n : Nat) : (s.emitCpl r c k p n).sec = s.sec := by
  unfold State.emitCpl; split
  · split <;> rfl
  · simp
@[simp] theorem State.emitCpl_pwr (s : State) (r : Nat) (c : Cpl) (k p : List Byte) (n : Nat) : (s.emitCpl r c k p n).pwr = s.pwr := by
  unfold State.emitCpl; split
  · split <;> rfl
  · simp
@[simp] theorem State.emitCpl_bus (s : State) (r : Nat) (c : Cpl) (k p : List Byte) (n : Nat) : (s.emitCpl r c k p n).bus = s.bus := by
  unfold State.emitCpl; split
  · split <;> rfl
  · simp
@[simp] theorem State.emitCpl_dram (s : State) (r : Nat) (c : Cpl) (k p : List Byte) (n : Nat) : (s.emitCpl r c k p n).dram = s.dram := by
  unfold State.emitCpl; split
  · split <;> rfl
  · simp
@[simp] theorem State.emitCpl_dma (s : State) (r : Nat) (c : Cpl) (k p : List Byte) (n : Nat) : (s.emitCpl r c k p n).dma = s.dma := by
  unfold State.emitCpl; split
  · split <;> rfl
  · simp
@[simp] theorem State.emitCpl_dsp0 (s : State) (r : Nat) (c : Cpl) (k p : List Byte) (n : Nat) : (s.emitCpl r c k p n).dsp0 = s.dsp0 := by
  unfold State.emitCpl; split
  · split <;> rfl
  · simp
@[simp] theorem State.emitCpl_dsp1 (s : State) (r : Nat) (c : Cpl) (k p : List Byte) (n : Nat) : (s.emitCpl r c k p n).dsp1 = s.dsp1 := by
  unfold State.emitCpl; split
  · split <;> rfl
  · simp
@[simp] theorem State.emitCpl_old (s : State) (r : Nat) (c : Cpl) (k p : List Byte) (n : Nat) : (s.emitCpl r c k p n).old = s.old := by
  unfold State.emitCpl; split
  · split <;> rfl
  · simp
@[simp] theorem State.emitCpl_past (s : State) (r : Nat) (c : Cpl) (k p : List Byte) (n : Nat) : (s.emitCpl r c k p n).past = s.past := by
  unfold State.emitCpl; split
  · split <;> rfl
  · simp
@[simp] theorem State.emitCpl_meters (s : State) (r : Nat) (c : Cpl) (k p : List Byte) (n : Nat) : (s.emitCpl r c k p n).meters = s.meters := by
  unfold State.emitCpl; split
  · split <;> rfl
  · simp
@[simp] theorem State.emitCpl_caps (s : State) (r : Nat) (c : Cpl) (k p : List Byte) (n : Nat) : (s.emitCpl r c k p n).caps = s.caps := by
  unfold State.emitCpl; split
  · split <;> rfl
  · simp
@[simp] theorem State.emitCpl_sap (s : State) (r : Nat) (c : Cpl) (k p : List Byte) (n : Nat) : (s.emitCpl r c k p n).sap = s.sap := by
  unfold State.emitCpl; split
  · split <;> rfl
  · simp
@[simp] theorem State.emitCpl_skimIn (s : State) (r : Nat) (c : Cpl) (k p : List Byte) (n : Nat) : (s.emitCpl r c k p n).skimIn = s.skimIn := by
  unfold State.emitCpl; split
  · split <;> rfl
  · simp
@[simp] theorem State.emitCpl_modCh (s : State) (r : Nat) (c : Cpl) (k p : List Byte) (n : Nat) : (s.emitCpl r c k p n).modCh = s.modCh := by
  unfold State.emitCpl; split
  · split <;> rfl
  · simp
@[simp] theorem State.emitCpl_modG (s : State) (r : Nat) (c : Cpl) (k p : List Byte) (n : Nat) : (s.emitCpl r c k p n).modG = s.modG := by
  unfold State.emitCpl; split
  · split <;> rfl
  · simp
@[simp] theorem State.emitCpl_muteRise (s : State) (r : Nat) (c : Cpl) (k p : List Byte) (n : Nat) : (s.emitCpl r c k p n).muteRise = s.muteRise := by
  unfold State.emitCpl; split
  · split <;> rfl
  · simp
@[simp] theorem State.emitCpl_modFade (s : State) (r : Nat) (c : Cpl) (k p : List Byte) (n : Nat) : (s.emitCpl r c k p n).modFade = s.modFade := by
  unfold State.emitCpl; split
  · split <;> rfl
  · simp
@[simp] theorem State.emitCpl_tilCh (s : State) (r : Nat) (c : Cpl) (k p : List Byte) (n : Nat) : (s.emitCpl r c k p n).tilCh = s.tilCh := by
  unfold State.emitCpl; split
  · split <;> rfl
  · simp
@[simp] theorem State.emitCpl_tilG (s : State) (r : Nat) (c : Cpl) (k p : List Byte) (n : Nat) : (s.emitCpl r c k p n).tilG = s.tilG := by
  unfold State.emitCpl; split
  · split <;> rfl
  · simp
@[simp] theorem State.emitCpl_lanes (s : State) (r : Nat) (c : Cpl) (k p : List Byte) (n : Nat) : (s.emitCpl r c k p n).lanes = s.lanes := by
  unfold State.emitCpl; split
  · split <;> rfl
  · simp
@[simp] theorem State.emitCpl_dramLines (s : State) (r : Nat) (c : Cpl) (k p : List Byte) (n : Nat) : (s.emitCpl r c k p n).dramLines = s.dramLines := by
  unfold State.emitCpl; split
  · split <;> rfl
  · simp

@[simp] theorem State.noteSeq_pending (s : State) (d : Desc) : (s.noteSeq d).pending = s.pending := by
  unfold State.noteSeq; split
  · rfl
  · split
    · rfl
    · dsimp only; split <;> rfl
@[simp] theorem State.noteSeq_free (s : State) (d : Desc) : (s.noteSeq d).free = s.free := by
  unfold State.noteSeq; split
  · rfl
  · split
    · rfl
    · dsimp only; split <;> rfl
@[simp] theorem State.noteSeq_latches (s : State) (d : Desc) : (s.noteSeq d).latches = s.latches := by
  unfold State.noteSeq; split
  · rfl
  · split
    · rfl
    · dsimp only; split <;> rfl
@[simp] theorem State.noteSeq_silt (s : State) (d : Desc) : (s.noteSeq d).silt = s.silt := by
  unfold State.noteSeq; split
  · rfl
  · split
    · rfl
    · dsimp only; split <;> rfl
@[simp] theorem State.noteSeq_time (s : State) (d : Desc) : (s.noteSeq d).time = s.time := by
  unfold State.noteSeq; split
  · rfl
  · split
    · rfl
    · dsimp only; split <;> rfl
@[simp] theorem State.noteSeq_epoch (s : State) (d : Desc) : (s.noteSeq d).epoch = s.epoch := by
  unfold State.noteSeq; split
  · rfl
  · split
    · rfl
    · dsimp only; split <;> rfl
@[simp] theorem State.noteSeq_ports (s : State) (d : Desc) : (s.noteSeq d).ports = s.ports := by
  unfold State.noteSeq; split
  · rfl
  · split
    · rfl
    · dsimp only; split <;> rfl
@[simp] theorem State.noteSeq_evins (s : State) (d : Desc) : (s.noteSeq d).evins = s.evins := by
  unfold State.noteSeq; split
  · rfl
  · split
    · rfl
    · dsimp only; split <;> rfl
@[simp] theorem State.noteSeq_starts (s : State) (d : Desc) : (s.noteSeq d).starts = s.starts := by
  unfold State.noteSeq; split
  · rfl
  · split
    · rfl
    · dsimp only; split <;> rfl
@[simp] theorem State.noteSeq_ref (s : State) (d : Desc) : (s.noteSeq d).ref = s.ref := by
  unfold State.noteSeq; split
  · rfl
  · split
    · rfl
    · dsimp only; split <;> rfl
@[simp] theorem State.noteSeq_routes (s : State) (d : Desc) : (s.noteSeq d).routes = s.routes := by
  unfold State.noteSeq; split
  · rfl
  · split
    · rfl
    · dsimp only; split <;> rfl
@[simp] theorem State.noteSeq_params (s : State) (d : Desc) : (s.noteSeq d).params = s.params := by
  unfold State.noteSeq; split
  · rfl
  · split
    · rfl
    · dsimp only; split <;> rfl
@[simp] theorem State.noteSeq_gains (s : State) (d : Desc) : (s.noteSeq d).gains = s.gains := by
  unfold State.noteSeq; split
  · rfl
  · split
    · rfl
    · dsimp only; split <;> rfl
@[simp] theorem State.noteSeq_txn (s : State) (d : Desc) : (s.noteSeq d).txn = s.txn := by
  unfold State.noteSeq; split
  · rfl
  · split
    · rfl
    · dsimp only; split <;> rfl
@[simp] theorem State.noteSeq_plan (s : State) (d : Desc) : (s.noteSeq d).plan = s.plan := by
  unfold State.noteSeq; split
  · rfl
  · split
    · rfl
    · dsimp only; split <;> rfl
@[simp] theorem State.noteSeq_eng (s : State) (d : Desc) : (s.noteSeq d).eng = s.eng := by
  unfold State.noteSeq; split
  · rfl
  · split
    · rfl
    · dsimp only; split <;> rfl
@[simp] theorem State.noteSeq_guard (s : State) (d : Desc) : (s.noteSeq d).guard = s.guard := by
  unfold State.noteSeq; split
  · rfl
  · split
    · rfl
    · dsimp only; split <;> rfl
@[simp] theorem State.noteSeq_ouv (s : State) (d : Desc) : (s.noteSeq d).ouv = s.ouv := by
  unfold State.noteSeq; split
  · rfl
  · split
    · rfl
    · dsimp only; split <;> rfl
@[simp] theorem State.noteSeq_strm (s : State) (d : Desc) : (s.noteSeq d).strm = s.strm := by
  unfold State.noteSeq; split
  · rfl
  · split
    · rfl
    · dsimp only; split <;> rfl
@[simp] theorem State.noteSeq_net (s : State) (d : Desc) : (s.noteSeq d).net = s.net := by
  unfold State.noteSeq; split
  · rfl
  · split
    · rfl
    · dsimp only; split <;> rfl
@[simp] theorem State.noteSeq_store (s : State) (d : Desc) : (s.noteSeq d).store = s.store := by
  unfold State.noteSeq; split
  · rfl
  · split
    · rfl
    · dsimp only; split <;> rfl
@[simp] theorem State.noteSeq_sec (s : State) (d : Desc) : (s.noteSeq d).sec = s.sec := by
  unfold State.noteSeq; split
  · rfl
  · split
    · rfl
    · dsimp only; split <;> rfl
@[simp] theorem State.noteSeq_pwr (s : State) (d : Desc) : (s.noteSeq d).pwr = s.pwr := by
  unfold State.noteSeq; split
  · rfl
  · split
    · rfl
    · dsimp only; split <;> rfl
@[simp] theorem State.noteSeq_bus (s : State) (d : Desc) : (s.noteSeq d).bus = s.bus := by
  unfold State.noteSeq; split
  · rfl
  · split
    · rfl
    · dsimp only; split <;> rfl
@[simp] theorem State.noteSeq_dram (s : State) (d : Desc) : (s.noteSeq d).dram = s.dram := by
  unfold State.noteSeq; split
  · rfl
  · split
    · rfl
    · dsimp only; split <;> rfl
@[simp] theorem State.noteSeq_dma (s : State) (d : Desc) : (s.noteSeq d).dma = s.dma := by
  unfold State.noteSeq; split
  · rfl
  · split
    · rfl
    · dsimp only; split <;> rfl
@[simp] theorem State.noteSeq_dsp0 (s : State) (d : Desc) : (s.noteSeq d).dsp0 = s.dsp0 := by
  unfold State.noteSeq; split
  · rfl
  · split
    · rfl
    · dsimp only; split <;> rfl
@[simp] theorem State.noteSeq_dsp1 (s : State) (d : Desc) : (s.noteSeq d).dsp1 = s.dsp1 := by
  unfold State.noteSeq; split
  · rfl
  · split
    · rfl
    · dsimp only; split <;> rfl
@[simp] theorem State.noteSeq_old (s : State) (d : Desc) : (s.noteSeq d).old = s.old := by
  unfold State.noteSeq; split
  · rfl
  · split
    · rfl
    · dsimp only; split <;> rfl
@[simp] theorem State.noteSeq_past (s : State) (d : Desc) : (s.noteSeq d).past = s.past := by
  unfold State.noteSeq; split
  · rfl
  · split
    · rfl
    · dsimp only; split <;> rfl
@[simp] theorem State.noteSeq_meters (s : State) (d : Desc) : (s.noteSeq d).meters = s.meters := by
  unfold State.noteSeq; split
  · rfl
  · split
    · rfl
    · dsimp only; split <;> rfl
@[simp] theorem State.noteSeq_caps (s : State) (d : Desc) : (s.noteSeq d).caps = s.caps := by
  unfold State.noteSeq; split
  · rfl
  · split
    · rfl
    · dsimp only; split <;> rfl
@[simp] theorem State.noteSeq_sap (s : State) (d : Desc) : (s.noteSeq d).sap = s.sap := by
  unfold State.noteSeq; split
  · rfl
  · split
    · rfl
    · dsimp only; split <;> rfl
@[simp] theorem State.noteSeq_skimIn (s : State) (d : Desc) : (s.noteSeq d).skimIn = s.skimIn := by
  unfold State.noteSeq; split
  · rfl
  · split
    · rfl
    · dsimp only; split <;> rfl
@[simp] theorem State.noteSeq_modCh (s : State) (d : Desc) : (s.noteSeq d).modCh = s.modCh := by
  unfold State.noteSeq; split
  · rfl
  · split
    · rfl
    · dsimp only; split <;> rfl
@[simp] theorem State.noteSeq_modG (s : State) (d : Desc) : (s.noteSeq d).modG = s.modG := by
  unfold State.noteSeq; split
  · rfl
  · split
    · rfl
    · dsimp only; split <;> rfl
@[simp] theorem State.noteSeq_muteRise (s : State) (d : Desc) : (s.noteSeq d).muteRise = s.muteRise := by
  unfold State.noteSeq; split
  · rfl
  · split
    · rfl
    · dsimp only; split <;> rfl
@[simp] theorem State.noteSeq_modFade (s : State) (d : Desc) : (s.noteSeq d).modFade = s.modFade := by
  unfold State.noteSeq; split
  · rfl
  · split
    · rfl
    · dsimp only; split <;> rfl
@[simp] theorem State.noteSeq_tilCh (s : State) (d : Desc) : (s.noteSeq d).tilCh = s.tilCh := by
  unfold State.noteSeq; split
  · rfl
  · split
    · rfl
    · dsimp only; split <;> rfl
@[simp] theorem State.noteSeq_tilG (s : State) (d : Desc) : (s.noteSeq d).tilG = s.tilG := by
  unfold State.noteSeq; split
  · rfl
  · split
    · rfl
    · dsimp only; split <;> rfl
@[simp] theorem State.noteSeq_lanes (s : State) (d : Desc) : (s.noteSeq d).lanes = s.lanes := by
  unfold State.noteSeq; split
  · rfl
  · split
    · rfl
    · dsimp only; split <;> rfl
@[simp] theorem State.noteSeq_dramLines (s : State) (d : Desc) : (s.noteSeq d).dramLines = s.dramLines := by
  unfold State.noteSeq; split
  · rfl
  · split
    · rfl
    · dsimp only; split <;> rfl

@[simp] theorem State.finish_pending (s : State) (r st : Nat) (a b : List Byte) : (s.finish r st a b).pending = s.pending := by
  unfold State.finish; split
  · rfl
  · dsimp only; (repeat' split) <;> simp
@[simp] theorem State.finish_free (s : State) (r st : Nat) (a b : List Byte) : (s.finish r st a b).free = s.free := by
  unfold State.finish; split
  · rfl
  · dsimp only; (repeat' split) <;> simp
@[simp] theorem State.finish_latches (s : State) (r st : Nat) (a b : List Byte) : (s.finish r st a b).latches = s.latches := by
  unfold State.finish; split
  · rfl
  · dsimp only; (repeat' split) <;> simp
@[simp] theorem State.finish_silt (s : State) (r st : Nat) (a b : List Byte) : (s.finish r st a b).silt = s.silt := by
  unfold State.finish; split
  · rfl
  · dsimp only; (repeat' split) <;> simp
@[simp] theorem State.finish_time (s : State) (r st : Nat) (a b : List Byte) : (s.finish r st a b).time = s.time := by
  unfold State.finish; split
  · rfl
  · dsimp only; (repeat' split) <;> simp
@[simp] theorem State.finish_epoch (s : State) (r st : Nat) (a b : List Byte) : (s.finish r st a b).epoch = s.epoch := by
  unfold State.finish; split
  · rfl
  · dsimp only; (repeat' split) <;> simp
@[simp] theorem State.finish_ports (s : State) (r st : Nat) (a b : List Byte) : (s.finish r st a b).ports = s.ports := by
  unfold State.finish; split
  · rfl
  · dsimp only; (repeat' split) <;> simp
@[simp] theorem State.finish_evins (s : State) (r st : Nat) (a b : List Byte) : (s.finish r st a b).evins = s.evins := by
  unfold State.finish; split
  · rfl
  · dsimp only; (repeat' split) <;> simp
@[simp] theorem State.finish_starts (s : State) (r st : Nat) (a b : List Byte) : (s.finish r st a b).starts = s.starts := by
  unfold State.finish; split
  · rfl
  · dsimp only; (repeat' split) <;> simp
@[simp] theorem State.finish_ref (s : State) (r st : Nat) (a b : List Byte) : (s.finish r st a b).ref = s.ref := by
  unfold State.finish; split
  · rfl
  · dsimp only; (repeat' split) <;> simp
@[simp] theorem State.finish_routes (s : State) (r st : Nat) (a b : List Byte) : (s.finish r st a b).routes = s.routes := by
  unfold State.finish; split
  · rfl
  · dsimp only; (repeat' split) <;> simp
@[simp] theorem State.finish_params (s : State) (r st : Nat) (a b : List Byte) : (s.finish r st a b).params = s.params := by
  unfold State.finish; split
  · rfl
  · dsimp only; (repeat' split) <;> simp
@[simp] theorem State.finish_gains (s : State) (r st : Nat) (a b : List Byte) : (s.finish r st a b).gains = s.gains := by
  unfold State.finish; split
  · rfl
  · dsimp only; (repeat' split) <;> simp
@[simp] theorem State.finish_txn (s : State) (r st : Nat) (a b : List Byte) : (s.finish r st a b).txn = s.txn := by
  unfold State.finish; split
  · rfl
  · dsimp only; (repeat' split) <;> simp
@[simp] theorem State.finish_plan (s : State) (r st : Nat) (a b : List Byte) : (s.finish r st a b).plan = s.plan := by
  unfold State.finish; split
  · rfl
  · dsimp only; (repeat' split) <;> simp
@[simp] theorem State.finish_eng (s : State) (r st : Nat) (a b : List Byte) : (s.finish r st a b).eng = s.eng := by
  unfold State.finish; split
  · rfl
  · dsimp only; (repeat' split) <;> simp
@[simp] theorem State.finish_guard (s : State) (r st : Nat) (a b : List Byte) : (s.finish r st a b).guard = s.guard := by
  unfold State.finish; split
  · rfl
  · dsimp only; (repeat' split) <;> simp
@[simp] theorem State.finish_ouv (s : State) (r st : Nat) (a b : List Byte) : (s.finish r st a b).ouv = s.ouv := by
  unfold State.finish; split
  · rfl
  · dsimp only; (repeat' split) <;> simp
@[simp] theorem State.finish_strm (s : State) (r st : Nat) (a b : List Byte) : (s.finish r st a b).strm = s.strm := by
  unfold State.finish; split
  · rfl
  · dsimp only; (repeat' split) <;> simp
@[simp] theorem State.finish_net (s : State) (r st : Nat) (a b : List Byte) : (s.finish r st a b).net = s.net := by
  unfold State.finish; split
  · rfl
  · dsimp only; (repeat' split) <;> simp
@[simp] theorem State.finish_store (s : State) (r st : Nat) (a b : List Byte) : (s.finish r st a b).store = s.store := by
  unfold State.finish; split
  · rfl
  · dsimp only; (repeat' split) <;> simp
@[simp] theorem State.finish_sec (s : State) (r st : Nat) (a b : List Byte) : (s.finish r st a b).sec = s.sec := by
  unfold State.finish; split
  · rfl
  · dsimp only; (repeat' split) <;> simp
@[simp] theorem State.finish_pwr (s : State) (r st : Nat) (a b : List Byte) : (s.finish r st a b).pwr = s.pwr := by
  unfold State.finish; split
  · rfl
  · dsimp only; (repeat' split) <;> simp
@[simp] theorem State.finish_bus (s : State) (r st : Nat) (a b : List Byte) : (s.finish r st a b).bus = s.bus := by
  unfold State.finish; split
  · rfl
  · dsimp only; (repeat' split) <;> simp
@[simp] theorem State.finish_dram (s : State) (r st : Nat) (a b : List Byte) : (s.finish r st a b).dram = s.dram := by
  unfold State.finish; split
  · rfl
  · dsimp only; (repeat' split) <;> simp
@[simp] theorem State.finish_dma (s : State) (r st : Nat) (a b : List Byte) : (s.finish r st a b).dma = s.dma := by
  unfold State.finish; split
  · rfl
  · dsimp only; (repeat' split) <;> simp
@[simp] theorem State.finish_dsp0 (s : State) (r st : Nat) (a b : List Byte) : (s.finish r st a b).dsp0 = s.dsp0 := by
  unfold State.finish; split
  · rfl
  · dsimp only; (repeat' split) <;> simp
@[simp] theorem State.finish_dsp1 (s : State) (r st : Nat) (a b : List Byte) : (s.finish r st a b).dsp1 = s.dsp1 := by
  unfold State.finish; split
  · rfl
  · dsimp only; (repeat' split) <;> simp
@[simp] theorem State.finish_old (s : State) (r st : Nat) (a b : List Byte) : (s.finish r st a b).old = s.old := by
  unfold State.finish; split
  · rfl
  · dsimp only; (repeat' split) <;> simp
@[simp] theorem State.finish_past (s : State) (r st : Nat) (a b : List Byte) : (s.finish r st a b).past = s.past := by
  unfold State.finish; split
  · rfl
  · dsimp only; (repeat' split) <;> simp
@[simp] theorem State.finish_meters (s : State) (r st : Nat) (a b : List Byte) : (s.finish r st a b).meters = s.meters := by
  unfold State.finish; split
  · rfl
  · dsimp only; (repeat' split) <;> simp
@[simp] theorem State.finish_caps (s : State) (r st : Nat) (a b : List Byte) : (s.finish r st a b).caps = s.caps := by
  unfold State.finish; split
  · rfl
  · dsimp only; (repeat' split) <;> simp
@[simp] theorem State.finish_sap (s : State) (r st : Nat) (a b : List Byte) : (s.finish r st a b).sap = s.sap := by
  unfold State.finish; split
  · rfl
  · dsimp only; (repeat' split) <;> simp
@[simp] theorem State.finish_skimIn (s : State) (r st : Nat) (a b : List Byte) : (s.finish r st a b).skimIn = s.skimIn := by
  unfold State.finish; split
  · rfl
  · dsimp only; (repeat' split) <;> simp
@[simp] theorem State.finish_modCh (s : State) (r st : Nat) (a b : List Byte) : (s.finish r st a b).modCh = s.modCh := by
  unfold State.finish; split
  · rfl
  · dsimp only; (repeat' split) <;> simp
@[simp] theorem State.finish_modG (s : State) (r st : Nat) (a b : List Byte) : (s.finish r st a b).modG = s.modG := by
  unfold State.finish; split
  · rfl
  · dsimp only; (repeat' split) <;> simp
@[simp] theorem State.finish_muteRise (s : State) (r st : Nat) (a b : List Byte) : (s.finish r st a b).muteRise = s.muteRise := by
  unfold State.finish; split
  · rfl
  · dsimp only; (repeat' split) <;> simp
@[simp] theorem State.finish_modFade (s : State) (r st : Nat) (a b : List Byte) : (s.finish r st a b).modFade = s.modFade := by
  unfold State.finish; split
  · rfl
  · dsimp only; (repeat' split) <;> simp
@[simp] theorem State.finish_tilCh (s : State) (r st : Nat) (a b : List Byte) : (s.finish r st a b).tilCh = s.tilCh := by
  unfold State.finish; split
  · rfl
  · dsimp only; (repeat' split) <;> simp
@[simp] theorem State.finish_tilG (s : State) (r st : Nat) (a b : List Byte) : (s.finish r st a b).tilG = s.tilG := by
  unfold State.finish; split
  · rfl
  · dsimp only; (repeat' split) <;> simp
@[simp] theorem State.finish_lanes (s : State) (r st : Nat) (a b : List Byte) : (s.finish r st a b).lanes = s.lanes := by
  unfold State.finish; split
  · rfl
  · dsimp only; (repeat' split) <;> simp
@[simp] theorem State.finish_dramLines (s : State) (r st : Nat) (a b : List Byte) : (s.finish r st a b).dramLines = s.dramLines := by
  unfold State.finish; split
  · rfl
  · dsimp only; (repeat' split) <;> simp

@[simp] theorem State.finishOp_pending (s : State) (o st : Nat) (a b : List Byte) (p : Desc → Bool) : (s.finishOp o st a b p).pending = s.pending := by
  unfold State.finishOp; split <;> simp
@[simp] theorem State.finishOp_free (s : State) (o st : Nat) (a b : List Byte) (p : Desc → Bool) : (s.finishOp o st a b p).free = s.free := by
  unfold State.finishOp; split <;> simp
@[simp] theorem State.finishOp_latches (s : State) (o st : Nat) (a b : List Byte) (p : Desc → Bool) : (s.finishOp o st a b p).latches = s.latches := by
  unfold State.finishOp; split <;> simp
@[simp] theorem State.finishOp_silt (s : State) (o st : Nat) (a b : List Byte) (p : Desc → Bool) : (s.finishOp o st a b p).silt = s.silt := by
  unfold State.finishOp; split <;> simp
@[simp] theorem State.finishOp_time (s : State) (o st : Nat) (a b : List Byte) (p : Desc → Bool) : (s.finishOp o st a b p).time = s.time := by
  unfold State.finishOp; split <;> simp
@[simp] theorem State.finishOp_epoch (s : State) (o st : Nat) (a b : List Byte) (p : Desc → Bool) : (s.finishOp o st a b p).epoch = s.epoch := by
  unfold State.finishOp; split <;> simp
@[simp] theorem State.finishOp_ports (s : State) (o st : Nat) (a b : List Byte) (p : Desc → Bool) : (s.finishOp o st a b p).ports = s.ports := by
  unfold State.finishOp; split <;> simp
@[simp] theorem State.finishOp_evins (s : State) (o st : Nat) (a b : List Byte) (p : Desc → Bool) : (s.finishOp o st a b p).evins = s.evins := by
  unfold State.finishOp; split <;> simp
@[simp] theorem State.finishOp_starts (s : State) (o st : Nat) (a b : List Byte) (p : Desc → Bool) : (s.finishOp o st a b p).starts = s.starts := by
  unfold State.finishOp; split <;> simp
@[simp] theorem State.finishOp_ref (s : State) (o st : Nat) (a b : List Byte) (p : Desc → Bool) : (s.finishOp o st a b p).ref = s.ref := by
  unfold State.finishOp; split <;> simp
@[simp] theorem State.finishOp_routes (s : State) (o st : Nat) (a b : List Byte) (p : Desc → Bool) : (s.finishOp o st a b p).routes = s.routes := by
  unfold State.finishOp; split <;> simp
@[simp] theorem State.finishOp_params (s : State) (o st : Nat) (a b : List Byte) (p : Desc → Bool) : (s.finishOp o st a b p).params = s.params := by
  unfold State.finishOp; split <;> simp
@[simp] theorem State.finishOp_gains (s : State) (o st : Nat) (a b : List Byte) (p : Desc → Bool) : (s.finishOp o st a b p).gains = s.gains := by
  unfold State.finishOp; split <;> simp
@[simp] theorem State.finishOp_txn (s : State) (o st : Nat) (a b : List Byte) (p : Desc → Bool) : (s.finishOp o st a b p).txn = s.txn := by
  unfold State.finishOp; split <;> simp
@[simp] theorem State.finishOp_plan (s : State) (o st : Nat) (a b : List Byte) (p : Desc → Bool) : (s.finishOp o st a b p).plan = s.plan := by
  unfold State.finishOp; split <;> simp
@[simp] theorem State.finishOp_eng (s : State) (o st : Nat) (a b : List Byte) (p : Desc → Bool) : (s.finishOp o st a b p).eng = s.eng := by
  unfold State.finishOp; split <;> simp
@[simp] theorem State.finishOp_guard (s : State) (o st : Nat) (a b : List Byte) (p : Desc → Bool) : (s.finishOp o st a b p).guard = s.guard := by
  unfold State.finishOp; split <;> simp
@[simp] theorem State.finishOp_ouv (s : State) (o st : Nat) (a b : List Byte) (p : Desc → Bool) : (s.finishOp o st a b p).ouv = s.ouv := by
  unfold State.finishOp; split <;> simp
@[simp] theorem State.finishOp_strm (s : State) (o st : Nat) (a b : List Byte) (p : Desc → Bool) : (s.finishOp o st a b p).strm = s.strm := by
  unfold State.finishOp; split <;> simp
@[simp] theorem State.finishOp_net (s : State) (o st : Nat) (a b : List Byte) (p : Desc → Bool) : (s.finishOp o st a b p).net = s.net := by
  unfold State.finishOp; split <;> simp
@[simp] theorem State.finishOp_store (s : State) (o st : Nat) (a b : List Byte) (p : Desc → Bool) : (s.finishOp o st a b p).store = s.store := by
  unfold State.finishOp; split <;> simp
@[simp] theorem State.finishOp_sec (s : State) (o st : Nat) (a b : List Byte) (p : Desc → Bool) : (s.finishOp o st a b p).sec = s.sec := by
  unfold State.finishOp; split <;> simp
@[simp] theorem State.finishOp_pwr (s : State) (o st : Nat) (a b : List Byte) (p : Desc → Bool) : (s.finishOp o st a b p).pwr = s.pwr := by
  unfold State.finishOp; split <;> simp
@[simp] theorem State.finishOp_bus (s : State) (o st : Nat) (a b : List Byte) (p : Desc → Bool) : (s.finishOp o st a b p).bus = s.bus := by
  unfold State.finishOp; split <;> simp
@[simp] theorem State.finishOp_dram (s : State) (o st : Nat) (a b : List Byte) (p : Desc → Bool) : (s.finishOp o st a b p).dram = s.dram := by
  unfold State.finishOp; split <;> simp
@[simp] theorem State.finishOp_dma (s : State) (o st : Nat) (a b : List Byte) (p : Desc → Bool) : (s.finishOp o st a b p).dma = s.dma := by
  unfold State.finishOp; split <;> simp
@[simp] theorem State.finishOp_dsp0 (s : State) (o st : Nat) (a b : List Byte) (p : Desc → Bool) : (s.finishOp o st a b p).dsp0 = s.dsp0 := by
  unfold State.finishOp; split <;> simp
@[simp] theorem State.finishOp_dsp1 (s : State) (o st : Nat) (a b : List Byte) (p : Desc → Bool) : (s.finishOp o st a b p).dsp1 = s.dsp1 := by
  unfold State.finishOp; split <;> simp
@[simp] theorem State.finishOp_old (s : State) (o st : Nat) (a b : List Byte) (p : Desc → Bool) : (s.finishOp o st a b p).old = s.old := by
  unfold State.finishOp; split <;> simp
@[simp] theorem State.finishOp_past (s : State) (o st : Nat) (a b : List Byte) (p : Desc → Bool) : (s.finishOp o st a b p).past = s.past := by
  unfold State.finishOp; split <;> simp
@[simp] theorem State.finishOp_meters (s : State) (o st : Nat) (a b : List Byte) (p : Desc → Bool) : (s.finishOp o st a b p).meters = s.meters := by
  unfold State.finishOp; split <;> simp
@[simp] theorem State.finishOp_caps (s : State) (o st : Nat) (a b : List Byte) (p : Desc → Bool) : (s.finishOp o st a b p).caps = s.caps := by
  unfold State.finishOp; split <;> simp
@[simp] theorem State.finishOp_sap (s : State) (o st : Nat) (a b : List Byte) (p : Desc → Bool) : (s.finishOp o st a b p).sap = s.sap := by
  unfold State.finishOp; split <;> simp
@[simp] theorem State.finishOp_skimIn (s : State) (o st : Nat) (a b : List Byte) (p : Desc → Bool) : (s.finishOp o st a b p).skimIn = s.skimIn := by
  unfold State.finishOp; split <;> simp
@[simp] theorem State.finishOp_modCh (s : State) (o st : Nat) (a b : List Byte) (p : Desc → Bool) : (s.finishOp o st a b p).modCh = s.modCh := by
  unfold State.finishOp; split <;> simp
@[simp] theorem State.finishOp_modG (s : State) (o st : Nat) (a b : List Byte) (p : Desc → Bool) : (s.finishOp o st a b p).modG = s.modG := by
  unfold State.finishOp; split <;> simp
@[simp] theorem State.finishOp_muteRise (s : State) (o st : Nat) (a b : List Byte) (p : Desc → Bool) : (s.finishOp o st a b p).muteRise = s.muteRise := by
  unfold State.finishOp; split <;> simp
@[simp] theorem State.finishOp_modFade (s : State) (o st : Nat) (a b : List Byte) (p : Desc → Bool) : (s.finishOp o st a b p).modFade = s.modFade := by
  unfold State.finishOp; split <;> simp
@[simp] theorem State.finishOp_tilCh (s : State) (o st : Nat) (a b : List Byte) (p : Desc → Bool) : (s.finishOp o st a b p).tilCh = s.tilCh := by
  unfold State.finishOp; split <;> simp
@[simp] theorem State.finishOp_tilG (s : State) (o st : Nat) (a b : List Byte) (p : Desc → Bool) : (s.finishOp o st a b p).tilG = s.tilG := by
  unfold State.finishOp; split <;> simp
@[simp] theorem State.finishOp_lanes (s : State) (o st : Nat) (a b : List Byte) (p : Desc → Bool) : (s.finishOp o st a b p).lanes = s.lanes := by
  unfold State.finishOp; split <;> simp
@[simp] theorem State.finishOp_dramLines (s : State) (o st : Nat) (a b : List Byte) (p : Desc → Bool) : (s.finishOp o st a b p).dramLines = s.dramLines := by
  unfold State.finishOp; split <;> simp



end Sys2Proof.Machine
end

