-- ==== Sys2Proof/Laws/Command.lean ====
section
/-! SUPPORT. What an admitted command of a host ring comes to: its effect in the state in which it started, then
its completion. -/
namespace Sys2Proof.Machine

/-- An admitted command acts in the opened state, and is settled (R691 to R700, R710, R716). -/
theorem hostCmd_admitted {s : State} {op role : Nat} {d : Desc} (eff : State → Res) (h : s.Admits op role d) :
    hostCmd op role d eff s = pumpUnknown 4 d.ring ((s.start op d).settle d (eff (s.opened op d))) := by
  unfold hostCmd hostAct
  rw [if_pos h.ready]
  have e : Res.permit (s.start op d) op role d eff = eff (s.opened op d) := by
    unfold Res.permit
    rw [if_neg h.ring]
    have hc : ¬ ((decide (d.session ≠ 0) && decide ((s.start op d).rd Reg.SEC.STATUS.CRYPTO = 2)) = true) := by
      rcases h.crypto with h0 | h0 <;> simp [h0]
    simp only [hc, h.allowed, h.clean]
    rfl
  dsimp only
  rw [e]

theorem settle_ok (s t : State) (d : Desc) (r p : List Byte) (h : p.length ≤ d.rlen) :
    s.settle d (okRes t r p) = t.finish d.ring stOk r p := by
  have h' : ¬ d.rlen < p.length := by omega
  simp [State.settle, okRes, h']
  rfl

theorem settle_fail (s t : State) (d : Desc) (st : Nat) (r : List Byte) (h : st ≠ stOk) :
    s.settle d (failRes t st r) = t.finish d.ring st r [] := by
  simp [State.settle, failRes, h]

theorem settle_long (s t : State) (d : Desc) : s.settle d (longRes t) = t := rfl

/-- An admitted command whose effect is OK with RESULT bytes and a response that fits completes so. -/
theorem hostCmd_ok {s t : State} {op role : Nat} {d : Desc} {eff : State → Res} {r p : List Byte}
    (h : s.Admits op role d) (e : eff (s.opened op d) = okRes t r p) (hp : p.length ≤ d.rlen) :
    hostCmd op role d eff s = t.completes d stOk r p := by
  rw [hostCmd_admitted eff h, e, settle_ok _ _ _ _ _ hp]; rfl

/-- An admitted command that goes on executing leaves its effect and completes later. -/
theorem hostCmd_long {s t : State} {op role : Nat} {d : Desc} {eff : State → Res}
    (h : s.Admits op role d) (e : eff (s.opened op d) = longRes t) : hostCmd op role d eff s = t.goesOn d := by
  rw [hostCmd_admitted eff h, e, settle_long]; rfl

/-- An admitted command that is refused completes with its status and no other effect. -/
theorem hostCmd_fail {s t : State} {op role : Nat} {d : Desc} {eff : State → Res} {st : Nat} {r : List Byte}
    (h : s.Admits op role d) (e : eff (s.opened op d) = failRes t st r) (hs : st ≠ stOk) :
    hostCmd op role d eff s = t.completes d st r [] := by
  rw [hostCmd_admitted eff h, e, settle_fail _ _ _ _ _ hs]; rfl

end Sys2Proof.Machine
end

