-- ==== Sys2Proof/Laws/Store.lean ====
section
/-! SUPPORT. Storage commands as ring commands: the journal replay is over, and no full retrain runs (R758, R827). -/
namespace Sys2Proof.Machine

/-- After the replay a storage command is a ring command (R827). -/
theorem storeCmd_eq {s : State} (h : s.on Reg.STORE.STAT.JRN = false) (op role : Nat) (d : Desc) (eff : State → Res) :
    storeCmd op role d eff s = hostCmd op role d eff s := by
  rw [storeCmd, h]; rfl

/-- With neither replay nor full retrain a command with buffers is a ring command (R758, R827). -/
theorem bufferCmd_eq {s : State} (h : s.on Reg.DRAM.STAT.RETRAIN = false) (j : s.on Reg.STORE.STAT.JRN = false) (op role : Nat)
    (d : Desc) (eff : State → Res) : bufferCmd op role d eff s = hostCmd op role d eff s := by
  rw [bufferCmd, h, storeCmd_eq j]; rfl

end Sys2Proof.Machine
end

