-- ==== Sys2Proof/WellFormed.lean ====
section
/-! DEFINITION. Well-formed commands: operands that name items of the part and fit the fields that carry them.
A term that is not well formed names nothing (R7) and its meaning leaves the machine as it is, or reads the
operand modulo its field. -/
namespace Sys2Proof

/-- A register's BAR0 offset: aligned to 4 bytes, inside the 64 MiB of BAR0 (R675, R928). -/
def offsetWf (o : Nat) : Bool := decide (o % 4 = 0) && decide (o < 2 ^ 26)

/-- A session number (Table 14.3). -/
def sessionWf (n : Nat) : Bool := decide (1 ≤ n) && decide (n ≤ 16)

/-- The group of a supply rail that SUPPLY_MONITOR_TRIP names (R897). -/
def railWf (r : Nat) : Bool := decide (1 ≤ r) && decide (r ≤ 4)

/-- The size of a register access in bytes (R928). -/
def sizeWf (n : Nat) : Bool := n == 1 || n == 2 || n == 4 || n == 8

/-- A descriptor's fields fit Table 14.3. -/
def Desc.wf (d : Desc) : Bool :=
  decide (d.ring < 16) && decide (d.index < 2 ^ 16) && decide (d.flags < 2 ^ 8) && decide (d.tag < 2 ^ 16) &&
  decide (d.session < 2 ^ 16) && decide (d.seq < 2 ^ 32) && decide (d.mac < 2 ^ 64) && decide (d.rsvd < 2 ^ 48) &&
  decide (d.bufAddr < 2 ^ 64) && decide (d.rlen < 2 ^ 32) && decide (d.rbuf < 2 ^ 64) && decide (d.a0 < 2 ^ 32) &&
  decide (d.a1 < 2 ^ 32) && decide (d.a2 < 2 ^ 32) && decide (d.a3 < 2 ^ 32) && decide (d.buf.length < 2 ^ 32)

/-- A fetched descriptor: its opcode is a byte. -/
def RawDesc.wf (x : RawDesc) : Bool := decide (x.opcode < 256) && x.d.wf

/-- What a tick boundary meets names route entries and modulator channels. -/
def FlipEnv.wf (e : FlipEnv) : Bool :=
  e.unstaged.all (fun i => decide (i < 8192)) && e.lost.all (fun r => decide (r < 65536)) && e.feeds.all (fun f => decide (f.ch < 128) && f.isns.all fun d => decide (d ≤ 2 ^ 24)) &&
  e.sentCe.all (fun g => decide (g < 16))

/-- What the finish line meets names clusters, dies and route entries. -/
def FinishEnv.wf (e : FinishEnv) : Bool :=
  e.overruns.all (fun c => decide (c < 32)) && e.upsets.all (fun u => decide (u.1 < 2) && decide (u.2.1 < 8192)) &&
  e.regionUe.all (fun d => decide (d.1 < 2) && decide (d.2 < 8192))

/-- The bundles of an instruction memory that a fill gets wrong (R221, R238). -/
def upsetsWf (l : List (Nat × BitVec 64)) : Bool := l.all fun e => decide (e.1 < 16384)

/-- A transfer's lines lie in region memory and lane memory, its positions in the cluster (R168). -/
def Transfer.wf (x : Transfer) : Bool :=
  decide (x.regionLine < 262144) && decide (x.laneAddr < 0x8000) && x.positions.all (fun l => decide (l < 9))

/-- The doorbell page carries 16 indices of each kind (Table 14.2). -/
def Doorbells.wf (p : Doorbells) : Bool :=
  decide (p.cmd.length = 16) && decide (p.cpl.length = 16) && (p.evt :: p.cmd ++ p.cpl).all (fun i => decide (i < 65536))

/-- A plan image's code and memory lie in clusters and logical lanes (R3, R4). -/
def PlanImage.wf (x : PlanImage) : Bool :=
  x.code.all (fun c => decide (c.cluster < 32)) && x.images.all (fun l => decide (l.lane < 256))

/-- A stream packet's fields fit their headers (R541). -/
def Packet.wf (p : Packet) : Bool :=
  decide (p.port < 4) && decide (p.src < 2 ^ 32) && decide (p.dst < 2 ^ 32) && decide (p.udp < 2 ^ 16) &&
  decide (p.rtp < 2 ^ 32) && decide (p.seq < 2 ^ 16) && decide (p.ssrc < 2 ^ 32) && decide (p.pt < 128) &&
  decide (p.vid < 2 ^ 12)

/-- An IPv4 address and a VLAN ID (R514, R516). -/
def NetHost.wf (x : NetHost) : Bool := decide (x.addr < 2 ^ 32) && decide (x.vid < 2 ^ 12)

/-- A frame enters by an external port; its addresses have 48 bits (R518). -/
def NetFrame.wf (f : NetFrame) : Bool :=
  decide (f.port < 4) && decide (f.src < 2 ^ 48) && decide (f.dst < 2 ^ 48) && decide (f.dscp < 64) && decide (f.pcp < 8)

/-- A PTP message's port and domain (R435). -/
def PtpMsg.wf (m : PtpMsg) : Bool :=
  decide (m.port < 4) && decide (m.domain < 256) && decide (m.at_ ≤ m.frame.length) && decide (m.vid < 2 ^ 12)

/-- An Ouvfel frame's fields fit Table 6.3. -/
def OuvFrame.wf (f : OuvFrame) : Bool :=
  decide (f.type < 256) && decide (f.flags < 256) && decide (f.seq < 2 ^ 32) && decide (f.tick < 2 ^ 64) &&
  decide (f.payload.length ≤ 8192) && decide (f.payload.length % 4 = 0)

/-- A pilot window belongs to a modulator channel. -/
def PilotWindow.wf (w : PilotWindow) : Bool := decide (w.ch < 128)

/-- A request names a master, and has one strobe per byte written (R729). -/
def BusReq.wf (r : BusReq) : Bool :=
  decide (r.master < 14) && decide (r.addr < 2 ^ 40) && decide (r.qos < 16) &&
  (!r.write || decide (r.data.length = r.len)) && decide (r.strobes.length ≤ r.len)

/-- A training sweep names a byte lane and says of each of 128 taps whether it passes (R752). -/
def TrainLane.wf (t : TrainLane) : Bool :=
  decide (t.ch < 8) && decide (t.lane < 2) && decide (t.set < 2) &&
  [t.rPass, t.wPass].all (fun x => decide (x < 2 ^ 128))

/-- A tracking burst's taps lie in 0 to 127 (R752). -/
def TrackLane.wf (t : TrackLane) : Bool :=
  [t.rLo, t.rHi, t.wLo, t.wHi].all (fun x => decide (x < 128)) && decide (t.rLo ≤ t.rHi) && decide (t.wLo ≤ t.wHi)

/-- The upset bits of a read: of each word, data bits 0 to 63 and check bits 64 to 71 (R769). -/
def flipsWf (l : List (Nat × Nat)) : Bool := l.all fun f => decide (f.1 < 65) && decide (f.2 < 72)

/-- A codeword holds 4,096 data bytes, so at most 1,365 samples of 3 bytes (R813, R831). -/
def CwUse.wf : CwUse → Bool
  | .idle => true
  | .file name _ => decide (name.length = 32)
  | .take _ places _ count => decide (places.length * count ≤ 1366)

/-- A DMA descriptor's fields fit Table 16.1. -/
def DmaDesc.wf (d : DmaDesc) : Bool :=
  decide (d.src < 2 ^ 64) && decide (d.dst < 2 ^ 64) && decide (d.chka < 2 ^ 64) && decide (d.count < 2 ^ 32) &&
  decide (d.ctl < 2 ^ 32) && decide (d.link < 2 ^ 64)

/-- A well-formed command: every operand names an item of the part (R7) and lies in the range of the field that
carries it. -/
def Instr.wf : Instr → Bool
  | .tickBoundary e => e.wf
  | .finishLine e => e.wf
  | .delayPrefetchMiss die cluster => decide (die < 2) && decide (cluster < 16)
  | .sentinelFeedMiss g => decide (g < 16)
  | .bundleIssue p _ => decide (p < 288)
  | .kendOverdue p => decide (p < 288)
  | .transferLine c x => decide (c < 32) && x.wf
  | .importWaitEnd w => decide (w.p < 288)
  | .laneSelftestEnd p _ => decide (p < 288)
  | .spareRotation c => decide (c < 32)
  | .clusterMemoryTestEnd c _ fills => decide (c < 32) && upsetsWf fills.first && upsetsWf fills.second
  | .dieReloadComplete die _ => decide (die < 2)
  | .computeDieSupplyTrip die => decide (die < 2)
  | .supplyMonitorTrip rail => railWf rail
  | .zeroCrossing i _ => decide (i < 8192)
  | .zcTimeout i => decide (i < 8192)
  | .descriptorFetch r descs => decide (r < 16) && descs.all RawDesc.wf
  | .doorbellPoll page => page.wf
  | .fetchDeadline r _ _ => decide (r < 16)
  | .pcieCompletionTimeout r _ => decide (r < 16)
  | .ringEnable _ r _ => decide (r < 16)
  | .ringDisable _ r _ => decide (r < 16)
  | .blockLock _ offset _ => offsetWf offset
  | .counterClear _ offset _ => offsetWf offset
  | .registerWrite _ offset size _ => offsetWf offset && sizeWf size
  | .shRegisterWrite _ offset _ => offsetWf offset
  | .routeWindowLowWrite _ i _ => decide (i < 8192)
  | .routeWindowHighWrite _ i _ _ _ => decide (i < 8192)
  | .sessionExpiry n => sessionWf n
  | .sessionOpen d => d.wf
  | .sessionClose d => d.wf
  | .writeItems d => d.wf
  | .regWrite d => d.wf
  | .planLoad d img => d.wf && img.wf
  | .planLoadComplete env => env.upsets.all (fun e => decide (e.1 < 32) && decide (e.2.1 < 16384))
  | .txnBegin d => d.wf
  | .txnPrepare d => d.wf
  | .txnCommit d => d.wf
  | .txnRollback d => d.wf
  | .sceneStore d => d.wf
  | .sceneRecall d => d.wf
  | .sceneErase d => d.wf
  | .streamOpen d => d.wf
  | .streamOpenEffect _ i => decide (i < 512)
  | .streamClose d => d.wf
  | .streamCloseEffect _ i => decide (i < 512)
  | .streamStat d => d.wf
  | .timeSet d => d.wf
  | .reEpoch d => d.wf
  | .realign d => d.wf
  | .refHistory d => d.wf
  | .dieReset d => d.wf
  | .authHandover d => d.wf
  | .allstop d => d.wf
  | .allstopRelease d => d.wf
  | .scClear d => d.wf
  | .senseCal d => d.wf
  | .senseCalibration n _ _ => decide (n < 128)
  | .senseCalTimeout n => decide (n < 128)
  | .sentSet d => d.wf
  | .sentSetEffect n => decide (n < 128)
  | .sentStat d => d.wf
  | .zCapture d => d.wf
  | .zCaptureTimeout n => decide (n < 128)
  | .sentRestart d => d.wf
  | .selftestLanes d => d.wf
  | .selftestClusterMemory d => d.wf
  | .dramFullRetrain d => d.wf
  | .dramFrequencyChange d => d.wf
  | .planUnload d => d.wf
  | .standby d => d.wf
  | .wake d => d.wf
  | .meter d => d.wf
  | .tapCapture d => d.wf
  | .objRead d => d.wf
  | .recArm d => d.wf
  | .recStart d => d.wf
  | .recStop d => d.wf
  | .playOpen d => d.wf
  | .playStart d => d.wf
  | .playbackStart n => decide (n < 8)
  | .playStop d => d.wf
  | .playbackLeadExhausted n _ _ => decide (n < 8)
  | .takeList d => d.wf
  | .takeDelete d => d.wf
  | .storeFormat d _ _ _ => d.wf
  | .fileWrite d => d.wf
  | .fileRead d => d.wf
  | .fileDelete d => d.wf
  | .fileList d => d.wf
  | .pendingVersionTimeout name => decide (name.length = 32)
  | .logRead d => d.wf
  | .logExport d => d.wf
  | .fwStage d => d.wf
  | .fwInstall d => d.wf
  | .fwStatus d => d.wf
  | .sceneImport d => d.wf
  | .sceneExport d => d.wf
  | .keyImport d => d.wf
  | .keyDelete d => d.wf
  | .keyGen d => d.wf
  | .keyActivate d => d.wf
  | .keyList d => d.wf
  | .svnCommit d => d.wf
  | .tokenGen d => d.wf
  | .devidCert d => d.wf
  | .tamperClear d levels => d.wf && decide (levels < 16)
  | .zeroise d => d.wf
  | .debugChallenge d => d.wf
  | .debugUnlock d => d.wf
  | .packetReceive p => p.wf
  | .arpRequest port target sender => decide (port < 4) && decide (target < 2 ^ 32) && sender.wf
  | .icmpEchoRequest port target sender _ => decide (port < 4) && decide (target < 2 ^ 32) && sender.wf
  | .igmpReport port group => decide (port < 4) && decide (group < 2 ^ 32)
  | .frameForward f => f.wf
  | .egressFrameStart port => decide (port < 4)
  | .fdbAgeing group mac => decide (group < 2 ^ 32) && decide (mac < 2 ^ 48)
  | .linkStateChange port _ _ => decide (port < 4)
  | .streamPathDown i _ => decide (i < 512)
  | .slipWindowEnd i => decide (i < 512)
  | .streamPacketLaunch i => decide (i < 512)
  | .packetTxDeadline i => decide (i < 512)
  | .ptpMessageReceive m => m.wf
  | .delayReq m => m.wf
  | .managementMessage m => m.wf
  | .ptpEventForward m egressPort => m.wf && decide (egressPort < 4)
  | .syncTransmit port _ => decide (port < 4)
  | .followUp port => decide (port < 4)
  | .announceTransmit port => decide (port < 4)
  | .referenceEdge slot _ => decide (slot < 10)
  | .referenceActivityLoss slot => decide (slot < 10)
  | .frequencyGateEnd slot _ => decide (slot < 10)
  | .waitToRestoreEnd slot => decide (slot < 10)
  | .eventInputEdge i _ _ _ => decide (i < 16)
  | .launchOutputArm _ j _ => decide (j < 8)
  | .launchOutputDisarm _ j _ => decide (j < 8)
  | .launchOutputPulse j => decide (j < 8)
  | .launchOutputPulseEnd j => decide (j < 8)
  | .heartbeat f => f.wf
  | .config f => f.wf
  | .image f => f.wf
  | .handover f => f.wf
  | .ack f => f.wf
  | .timeFrame f a2 => f.wf && decide (a2 < 2 ^ 80)
  | .portStart _ p _ => decide (p < 32)
  | .portStop _ p _ => decide (p < 32)
  | .maskArm _ p _ => decide (p < 32)
  | .portFrame p _ _ => decide (p < 32)
  | .slotUnderrun p => decide (p < 32)
  | .sapLossOfClock p => decide (p < 32)
  | .sapRateMeasurement p _ => decide (p < 32)
  | .slipLogWindowEnd p => decide (p < 32)
  | .groupEnable _ g _ => decide (g < 16)
  | .railQualified g => decide (g < 16)
  | .bootEnd g => decide (g < 16)
  | .carrierPeriod g bits => decide (g < 16) && decide (bits < 2 ^ 64)
  | .scNFall n => decide (n < 128)
  | .probeStart n => decide (n < 128)
  | .probeResult w => w.wf
  | .rearmRampEnd n => decide (n < 128)
  | .scWaitExpiry n => decide (n < 128)
  | .railUndervoltage g => decide (g < 16)
  | .railOvervoltage g => decide (g < 16)
  | .stageStatusFrame g _ => decide (g < 16)
  | .stageStatusTimeout g => decide (g < 16)
  | .stageFaultRestart g => decide (g < 16)
  | .senseStuck n stream => decide (n < 128) && decide (stream < 2)
  | .senseStuckClear n stream => decide (n < 128) && decide (stream < 2)
  | .pilotWindowEnd w => w.wf
  | .sentinelFault g _ => decide (g < 16)
  | .sentinelRestartDone g => decide (g < 16)
  | .sentinelRestartTimeout g => decide (g < 16)
  | .busRequest r => r.wf
  | .targetGrant t _ => decide (t < 9)
  | .targetResponse t e => decide (t < 9) && flipsWf e.flips
  | .targetResponseTimeout t => decide (t < 9)
  | .masterReset m => decide (m < 14)
  | .masterPortClosed m => decide (m < 14)
  | .dramTrainingEnd lanes => lanes.all TrainLane.wf
  | .trackingBurst c l0 l1 => decide (c < 8) && l0.wf && l1.wf
  | .refreshDue ch rank => decide (ch < 8) && decide (rank < 2)
  | .retryDataArrival flips => flipsWf flips
  | .patrolScrub _ flips => flipsWf flips
  | .refreshPayback rank => decide (rank < 16)
  | .dmaDescriptorFetch c d _ => decide (c < 32) && d.wf
  | .dmaRequest line _ => decide (line < 80)
  | .dmaBurstIssue engine _ _ _ => decide (engine < 2)
  | .dmaDescriptorComplete c _ _ link => decide (c < 32) && decide (link < 2 ^ 64)
  | .tailwaitPoll c link => decide (c < 32) && decide (link < 2 ^ 64)
  | .codewordTimeout chan ce _ _ use => decide (chan < 4) && decide (ce < 4) && use.wf
  | .programFailure chan ce _ => decide (chan < 4) && decide (ce < 4)
  | .nandScrub _ _ stage => decide (stage < 4)
  | .storeMount _ _ _ result => decide (result < 256)
  | .tamperTrip i => decide (i < 4)
  | .latchingRead _ offset => offsetWf offset
  | .ouvfelLinkStateChange state => decide (state < 3)
  | .announceReceiptTimeout port => decide (port < 4)
  | .delayReqTransmit port _ => decide (port < 4)
  | .dramRetrainComplete lanes => lanes.all TrainLane.wf
  | .intakeCutoff | .eddyDeadline | .delayWriteMiss | .recordingGap
  | .eddyPassAdmission | .faultReplayAdmission | .eddyPassRun | .rebuildComplete
  | .rebuildTimeout _ | .launch | .primingStart | .crossfadeEnd
  | .collectionCommit | .nudge _ | .cpl0CompletionDrain | .eventQueueDrain
  | .hostLinkReset _ | .eventRingEnable _ _ | .eventRingDisable _ _ | .hostLock _ _
  | .reEpochStep _ | .realignApply | .handoverBoundary | .frequencyChange
  | .frequencyChangeTimeout | .recordingStart | .recordingStop | .lateDropWindowEnd
  | .switchConfigWrite _ _ | .ptpclkWrite _ _ | .firstLockStep | .holdoverHistoryWrite
  | .partnerLost | .configAckTimeout | .stateImageSend | .handoverAckTimeout
  | .authInSample _ | .authorityWatchdog | .stewardLockstepMismatch _ | .muteNFall _
  | .muteNRise | .pinAllstopEnd | .eccWriteback _
  | .dmaStart _ _ | .dmaStop _ _ | .dmaAppend _ _
  | .blockRefresh _ | .wearMove | .journalCheckpoint | .storeFull
  | .powerOnReset _ | .iodReset _ _ | .stewardWatchdog _ | .softReset _ _
  | .backupPowerOn | .vbatSwitchover | .engineStart | .engineStop
  | .fwInstallComplete _ => true

end Sys2Proof
end

