-- ==== Sys2Proof/Tests/Slice0.lean ====
section
/-! SUPPORT. The model's own tests: well-formedness, worked examples of the manual, and a witness for every
statement's hypotheses. -/
namespace Sys2Proof.Tests
open Sys2Proof Sys2Proof.Machine
set_option Elab.async false

/-! ### Well-formedness: one ill-formed term for each check, which the check refuses -/

def dIn : Desc := { ring := 1, index := 0 }
def dBad : Desc := { ring := 16, index := 0 }
def ouvIn : OuvFrame := ⟨1, 0, 0, 0, [], 0, true⟩
def ouvBad : OuvFrame := ⟨256, 0, 0, 0, [], 0, true⟩
def imgBad : PlanImage := { code := [{ cluster := 32, bundles := [], kernels := [], crc := 0 }] }

theorem test_wf_refuses_0 : ([.tickBoundary { unstaged := [8192] }, .finishLine { overruns := [32] }, .finishLine { upsets := [(2, 0, 0, 0)] },
   .finishLine { upsets := [(0, 8192, 0, 0)] }, .tickBoundary { lost := [65536] }, .delayPrefetchMiss 2 0, .delayPrefetchMiss 0 16, .sentinelFeedMiss 16,
   .bundleIssue 288 .clean, .kendOverdue 288, .transferLine 32 ⟨true, 0, [], 0, .ok, []⟩, .transferLine 0 ⟨true, 262144, [], 0, .ok, []⟩, .importWaitEnd ⟨288, .clean⟩,
   .laneSelftestEnd 288 false, .spareRotation 32, .clusterMemoryTestEnd 32 false {}, .clusterMemoryTestEnd 0 false ⟨[(16384, 0)], []⟩, .clusterMemoryTestEnd 0 false ⟨[], [(16384, 0)]⟩, .dieReloadComplete 2 false, .computeDieSupplyTrip 2,
   .supplyMonitorTrip 5, .zeroCrossing 8192 0, .zcTimeout 8192, .descriptorFetch 16 [], .doorbellPoll ⟨[], [], 0⟩,
   .fetchDeadline 16 .descriptor false, .pcieCompletionTimeout 16 .descriptor, .ringEnable .pcie 16 0, .ringDisable .pcie 16 0, .blockLock .pcie 2 0,
   .counterClear .pcie 2 0, .registerWrite .pcie 2 4 0, .registerWrite .pcie 0 3 0, .shRegisterWrite .pcie 2 0, .routeWindowLowWrite .pcie 8192 0,
   .routeWindowHighWrite .pcie 8192 false 0 0, .sessionExpiry 17, .sessionOpen dBad, .sessionClose dBad, .writeItems dBad, .regWrite dBad,
   .planLoad dBad {}, .planLoad dIn imgBad, .txnBegin dBad, .txnPrepare dBad, .txnCommit dBad, .txnRollback dBad, .sceneStore dBad,
   .sceneRecall dBad, .sceneErase dBad] : List Instr).all (fun i => !i.wf) = true := by decide +kernel

theorem test_wf_refuses_1 : ([.streamOpen dBad, .streamOpenEffect false 512, .streamClose dBad, .streamCloseEffect false 512, .streamStat dBad, .timeSet dBad, .reEpoch dBad,
   .realign dBad, .refHistory dBad, .dieReset dBad, .authHandover dBad, .allstop dBad, .allstopRelease dBad, .scClear dBad, .senseCal dBad,
   .senseCalibration 128 0 0, .senseCalTimeout 128, .sentSet dBad, .sentSetEffect 128, .sentStat dBad, .zCapture dBad, .zCaptureTimeout 128,
   .sentRestart dBad, .selftestLanes dBad, .selftestClusterMemory dBad, .dramFullRetrain dBad, .dramFrequencyChange dBad, .planUnload dBad,
   .standby dBad, .wake dBad, .meter dBad, .tapCapture dBad, .objRead dBad, .recArm dBad, .recStart dBad, .recStop dBad, .playOpen dBad,
   .playStart dBad, .playbackStart 8, .playStop dBad, .playbackLeadExhausted 8 0 none, .takeList dBad, .takeDelete dBad, .storeFormat dBad 0 [] 0,
   .fileWrite dBad] : List Instr).all (fun i => !i.wf) = true := by decide +kernel

theorem test_wf_refuses_2 : ([.fileRead dBad, .fileDelete dBad, .fileList dBad, .logRead dBad, .logExport dBad, .fwStage dBad, .fwInstall dBad, .fwStatus dBad,
   .sceneImport dBad, .sceneExport dBad, .keyImport dBad, .keyDelete dBad, .keyGen dBad, .keyActivate dBad, .keyList dBad, .svnCommit dBad,
   .tokenGen dBad, .devidCert dBad, .tamperClear dBad 0, .tamperClear dIn 16, .zeroise dBad, .debugChallenge dBad, .debugUnlock dBad,
   .packetReceive ⟨4, 0, 0, 0, 0, 0, 0, 0, 0, [], [], 0⟩, .arpRequest 4 0 ⟨0, 0⟩, .arpRequest 0 (2 ^ 32) ⟨0, 0⟩, .arpRequest 0 0 ⟨2 ^ 32, 0⟩, .arpRequest 0 0 ⟨0, 4096⟩,
   .icmpEchoRequest 4 0 ⟨0, 0⟩ [], .icmpEchoRequest 0 (2 ^ 32) ⟨0, 0⟩ [], .icmpEchoRequest 0 0 ⟨2 ^ 32, 0⟩ [],
   .icmpEchoRequest 0 0 ⟨0, 4096⟩ [], .igmpReport 4 0, .igmpReport 0 (2 ^ 32),
   .frameForward ⟨4, .unicast, 0, 0, 0, 0, 0, false⟩, .egressFrameStart 4, .fdbAgeing (2 ^ 32) 0, .fdbAgeing 0 (2 ^ 48), .linkStateChange 4 false false,
   .streamPathDown 512 false, .slipWindowEnd 512, .streamPacketLaunch 512, .packetTxDeadline 512,
   .ptpMessageReceive { port := 4, kind := .sync, domain := 0 }, .delayReq { port := 4, kind := .sync, domain := 0 },
   .managementMessage { port := 4, kind := .sync, domain := 0 }, .ptpEventForward { port := 4, kind := .sync, domain := 0 } 0] : List Instr).all (fun i => !i.wf) = true := by decide +kernel

theorem test_wf_refuses_3 : ([.ptpEventForward { port := 0, kind := .sync, domain := 0 } 4, .syncTransmit 4 0, .followUp 4, .announceTransmit 4, .referenceEdge 10 0,
   .referenceActivityLoss 10, .frequencyGateEnd 10 0, .waitToRestoreEnd 10, .eventInputEdge 16 false 0 0, .launchOutputArm .pcie 8 0,
   .launchOutputDisarm .pcie 8 0, .launchOutputPulse 8, .launchOutputPulseEnd 8, .heartbeat ouvBad, .config ouvBad, .image ouvBad, .handover ouvBad,
   .ack ouvBad, .timeFrame ouvBad 0, .timeFrame ⟨1, 0, 0, 0, [], 0, true⟩ (2 ^ 80), .portStart .pcie 32 0, .portStop .pcie 32 0, .maskArm .pcie 32 0,
   .slotUnderrun 32, .sapLossOfClock 32, .sapRateMeasurement 32 0, .slipLogWindowEnd 32, .groupEnable .pcie 16 0, .railQualified 16, .bootEnd 16,
   .carrierPeriod 16 0, .scNFall 128, .probeStart 128, .probeResult ⟨128, 0, 0, 0, 0, true⟩, .rearmRampEnd 128, .scWaitExpiry 128,
   .railUndervoltage 16, .railOvervoltage 16, .stageStatusFrame 16 0, .stageStatusTimeout 16, .stageFaultRestart 16, .senseStuck 128 0,
   .senseStuck 0 2, .senseStuckClear 128 0, .senseStuckClear 0 2] : List Instr).all (fun i => !i.wf) = true := by decide +kernel

theorem test_wf_refuses_4 : ([.pilotWindowEnd ⟨128, 0, 0, 0, 0, true⟩, .sentinelFault 16 0, .sentinelRestartDone 16, .sentinelRestartTimeout 16,
   .busRequest ⟨14, 0, false, 0, [], [], 0, 0⟩, .targetGrant 9 false, .targetResponse 9 {}, .targetResponse 0 ⟨false, [(65, 0)]⟩, .targetResponse 0 ⟨false, [(0, 72)]⟩,
   .retryDataArrival [(65, 0)], .patrolScrub 0 [(0, 72)], .targetResponseTimeout 9, .masterReset 14,
   .masterPortClosed 14, .trackingBurst 8 ⟨0, 0, 0, 0⟩ ⟨0, 0, 0, 0⟩, .trackingBurst 0 ⟨0, 128, 0, 0⟩ ⟨0, 0, 0, 0⟩, .trackingBurst 0 ⟨0, 0, 0, 0⟩ ⟨0, 0, 0, 128⟩,
   .trackingBurst 0 ⟨1, 0, 0, 0⟩ ⟨0, 0, 0, 0⟩, .trackingBurst 0 ⟨0, 0, 1, 0⟩ ⟨0, 0, 0, 0⟩,
   .refreshDue 8 0, .refreshDue 0 2, .refreshPayback 16, .dmaDescriptorFetch 32 ⟨0, 0, 0, 0, 0, 0, 0⟩ false,
   .dmaDescriptorFetch 0 ⟨2 ^ 64, 0, 0, 0, 0, 0, 0⟩ false, .dmaRequest 80 0, .dmaBurstIssue 2 [] none none, .dmaDescriptorComplete 32 false false 0,
   .dmaDescriptorComplete 0 false false (2 ^ 64), .tailwaitPoll 32 0, .tailwaitPoll 0 (2 ^ 64), .codewordTimeout 4 0 0 0 .idle,
   .codewordTimeout 0 4 0 0 .idle, .programFailure 4 0 0, .programFailure 0 4 0, .nandScrub 0 0 4, .storeMount 0 0 0 256, .tamperTrip 4,
   .latchingRead .pcie 2, .ouvfelLinkStateChange 3, .announceReceiptTimeout 4, .delayReqTransmit 4 0, .planLoadComplete { upsets := [(32, 0, 0)] }, .planLoadComplete { upsets := [(0, 16384, 0)] },
   .pendingVersionTimeout [], .portFrame 32 [] 0, .dramTrainingEnd [⟨8, 0, 0, 0, 0⟩], .dramRetrainComplete [⟨0, 0, 2, 0, 0⟩],
   .dramTrainingEnd [⟨0, 2, 0, 0, 0⟩], .dramTrainingEnd [⟨0, 0, 0, 2 ^ 128, 0⟩], .tickBoundary { feeds := [⟨128, []⟩] }, .tickBoundary { feeds := [⟨0, [2 ^ 24 + 1]⟩] },
   .tickBoundary { sentCe := [16] }, .delayReq { port := 0, kind := .sync, domain := 0, at_ := 1 }, .carrierPeriod 0 (2 ^ 64),
   .finishLine { regionUe := [(2, 0)] }, .finishLine { regionUe := [(0, 8192)] }, .transferLine 0 ⟨true, 0, [9], 0, .ok, []⟩] : List Instr).all (fun i => !i.wf) = true := by decide +kernel

theorem test_wf_refuses_5 : ([.transferLine 0 ⟨true, 0, [], 0x8000, .ok, []⟩, .descriptorFetch 0 [⟨256, dIn⟩], .descriptorFetch 0 [⟨1, dBad⟩],
   .doorbellPoll ⟨List.replicate 16 0, List.replicate 16 0, 65536⟩, .planLoad dIn { images := [{ lane := 256, words := [] }] },
   .dmaDescriptorFetch 0 ⟨0, 2 ^ 64, 0, 0, 0, 0, 0⟩ false, .dmaDescriptorFetch 0 ⟨0, 0, 2 ^ 64, 0, 0, 0, 0⟩ false,
   .dmaDescriptorFetch 0 ⟨0, 0, 0, 2 ^ 32, 0, 0, 0⟩ false, .dmaDescriptorFetch 0 ⟨0, 0, 0, 0, 2 ^ 32, 0, 0⟩ false,
   .dmaDescriptorFetch 0 ⟨0, 0, 0, 0, 0, 0, 2 ^ 64⟩ false, .busRequest ⟨0, 0, false, 2 ^ 40, [], [], 0, 0⟩,
   .busRequest ⟨0, 0, false, 0, [], [], 0, 16⟩, .busRequest ⟨0, 0, true, 0, [1], [true], 2, 0⟩, .busRequest ⟨0, 0, true, 0, [1], [true, true], 1, 0⟩,
   .managementMessage { port := 0, kind := .sync, domain := 256 }, .codewordTimeout 0 0 0 0 (.file [] 0), .codewordTimeout 0 0 0 0 (.take 0 [0] 0 1367),
   .frameForward ⟨0, .unicast, 2 ^ 48, 0, 0, 0, 0, false⟩, .frameForward ⟨0, .unicast, 0, 2 ^ 48, 0, 0, 0, false⟩, .frameForward ⟨0, .unicast, 0, 0, 0, 64, 0, false⟩,
   .frameForward ⟨0, .unicast, 0, 0, 0, 0, 8, false⟩, .latchingRead .pcie (2 ^ 26), .sessionExpiry 0, .supplyMonitorTrip 0,
   .zeroise { dIn with ring := 16 }, .zeroise { dIn with index := 2 ^ 16 }, .zeroise { dIn with flags := 2 ^ 8 },
   .zeroise { dIn with tag := 2 ^ 16 }, .zeroise { dIn with session := 2 ^ 16 }, .zeroise { dIn with seq := 2 ^ 32 },
   .zeroise { dIn with mac := 2 ^ 64 }, .zeroise { dIn with rsvd := 2 ^ 48 }, .zeroise { dIn with bufAddr := 2 ^ 64 },
   .zeroise { dIn with rlen := 2 ^ 32 }, .zeroise { dIn with rbuf := 2 ^ 64 }, .zeroise { dIn with a0 := 2 ^ 32 },
   .zeroise { dIn with a1 := 2 ^ 32 }, .zeroise { dIn with a2 := 2 ^ 32 }, .zeroise { dIn with a3 := 2 ^ 32 },
   .packetReceive ⟨4, 0, 0, 0, 0, 0, 0, 0, 0, [], [], 0⟩, .packetReceive ⟨0, 2 ^ 32, 0, 0, 0, 0, 0, 0, 0, [], [], 0⟩,
   .packetReceive ⟨0, 0, 2 ^ 32, 0, 0, 0, 0, 0, 0, [], [], 0⟩, .packetReceive ⟨0, 0, 0, 2 ^ 16, 0, 0, 0, 0, 0, [], [], 0⟩,
   .packetReceive ⟨0, 0, 0, 0, 0, 2 ^ 32, 0, 0, 0, [], [], 0⟩, .packetReceive ⟨0, 0, 0, 0, 0, 0, 2 ^ 16, 0, 0, [], [], 0⟩] : List Instr).all (fun i => !i.wf) = true := by decide +kernel

theorem test_wf_refuses_6 : ([.packetReceive ⟨0, 0, 0, 0, 0, 0, 0, 2 ^ 32, 0, [], [], 0⟩, .packetReceive ⟨0, 0, 0, 0, 0, 0, 0, 0, 128, [], [], 0⟩, .packetReceive ⟨0, 0, 0, 0, 0, 0, 0, 0, 0, [], [], 2 ^ 12⟩,
   .ack { ouvIn with type := 256 }, .ack { ouvIn with flags := 256 }, .ack { ouvIn with seq := 2 ^ 32 }, .ack { ouvIn with tick := 2 ^ 64 },
   .ack { ouvIn with payload := [0] }] : List Instr).all (fun i => !i.wf) = true := by decide +kernel

/-- Well-formed terms at the ends of the ranges. -/
theorem test_wf_takes : ([.zeroise dIn, .ack ouvIn, .supplyMonitorTrip 4, .latchingRead .pcie 0x20FFFC, .sessionExpiry 16, .planLoad dIn {},
    .busRequest ⟨13, 0, true, 2 ^ 40 - 1, [1], [true], 1, 15⟩, .dmaRequest 79 0, .ouvfelLinkStateChange 2] : List Instr).all Instr.wf = true := by decide +kernel

/-! ### Worked examples of the manual -/

/-- R2, R3: physical lane 1.2.3.8 is flat lane 251, in flat cluster 27. -/
theorem test_flat_lane : flatPos 27 8 = 251 := by decide
/-- R14: tick 13,744,000,000,500 begins at 1718000000:062500000. -/
theorem test_tick_number : ({ State.reset with time := { now := 1718000000062500000 * tu } } : State).tick = 13744000000500 ∧
    State.reset.tAt 13744000000500 = 1718000000062500000 := by decide +kernel
/-- R851: the CRC-16 of the nine ASCII digits. -/
theorem test_crc16 : crc16 [0x31, 0x32, 0x33, 0x34, 0x35, 0x36, 0x37, 0x38, 0x39] = 0x29B1#16 := by decide +kernel
/-- The example of R748 and R749: offset 74,565 with inline ECC and without. -/
theorem test_ecc_place : eccDevice 74565 = 85189 ∧ eccCheck 74565 = 85464 ∧ (dramPlace true 74565).1 = 6 ∧ (dramPlace false 74565).1 = 3 := by decide
/-- The example of R829: 2,048 channels at 96 kHz of 3 bytes. -/
theorem test_record_rate : (State.reset.wr Reg.TICK.CFG.RATE 1).byteRate 2048 0 = 589824000 := by decide +kernel
/-- The example of R610: SG2 takes 308.25 kHz beside three protected carriers. -/
def stBand : State := ((((((State.reset.put (Reg.MOD.BAND.EN 0) true).wr (Reg.MOD.BAND.FREQ 0) 1206).put (Reg.MOD.BAND.EN 1) true).wr (Reg.MOD.BAND.FREQ 1) 2592).put
  (Reg.MOD.BAND.EN 2) true).wr (Reg.MOD.BAND.FREQ 2) 3060)
theorem test_carrier : (stBand.chooseCarrier 2 0).rd (Reg.MOD.G.CARSTAT.FREQ 2) = 30825 := by decide +kernel
/-- The example of R935: MOD.G[9].CFG takes EN, leaves the locked fields, and counts no violation; a changed DT counts one. -/
def stLockG : State := ((((State.reset.put Reg.MOD.CTRL.LOCK true).wr (Reg.MOD.G.RAIL.VNOM 9) 500).wr (Reg.MOD.G.RAIL.RAILFS 9) 1000).wr (Reg.MOD.G.RAILLIM.OV 9) 600).wr (Reg.MOD.G.RAILLIM.UV 9) 400
theorem test_locked_write : regFields 0x100220 ≠ none ∧ (stLockG.writeReg .pcie 0x100220 0x44100203).rd Reg.SYS.VIOL_COUNT.PCIE = 0 ∧
    (stLockG.writeReg .pcie 0x100220 0x44100203).on (Reg.MOD.G.CFG.EN 9) = true ∧
    (stLockG.writeReg .pcie 0x100220 0x4410020B).rd Reg.SYS.VIOL_COUNT.PCIE = 1 ∧
    (stLockG.writeReg .pcie 0x100220 0x4410020B).rd (Reg.MOD.G.CFG.DT 9) = 128 := by decide +kernel
/-- The example of the ring rules: with all indices at 62 and SIZE 6, a completion at slot 62 carries PHASE 1. -/
def stPhase : State := { (State.reset.put (Reg.HOST.RING.CFG.EN 2) true).wr (Reg.HOST.RING.CFG.SIZE 2) 6 with
  host := { rings := (List.replicate 16 ({} : RingS)).set 2 { cplP := 62, cplC := 62 } } }
theorem test_phase : ((mapGet (stPhase.writeCpl 2 ⟨0, 1, 0, 63, [], 0, 0⟩ [] [] 0).host.cplMem (2 * 65536 + 62)).map Cpl.phase) = some 1 := by decide +kernel

/-! ### Witnesses: states and operands that meet each statement's hypotheses -/

/-- An empty queue. -/
theorem wit_IdleStep : State.reset.pending = [] := rfl

/-- A state with the engine running on frame `f` from frame `m` at local instant `ns`. -/
def stRun (m f ns : Nat) : State :=
  { (State.reset.put Reg.TICK.STATUS.RUN true) with
    eng := { first := some m, frame := f }
    time := { now := ns * tu } }
/-- INTAKE_CUTOFF: the engine runs and the cutoff is due. -/
theorem wit_IntakeCutoff : (stRun 0 0 200000).inRun (stRun 0 0 200000).tick = true ∧
    (stRun 0 0 200000).eng.cutDone = false := by decide
theorem wit_IntakeCutoffClosed : ∃ s : State, s.inRun s.tick = true ∧ s.eng.cutDone = false ∧ s.eng.eddyClosed = true :=
  ⟨{ stRun 0 0 200000 with eng := { (stRun 0 0 200000).eng with eddyClosed := true } }, by decide, by decide, by decide⟩
/-- EDDY_DEADLINE and FINISH_LINE: frame 0 is in the main pass during tick 1. -/
theorem wit_EddyDeadline : (stRun 0 0 200000).inRun 0 = true ∧ (stRun 0 0 200000).eng.eddyClosed = false ∧
    (stRun 0 0 200000).eng.finished = false ∧ (stRun 0 0 200000).tick = 0 + 1 := by decide
/-- DELAY_PREFETCH_MISS: the last cluster, the engine runs. -/
theorem wit_DelayPrefetchMiss : 1 < 2 ∧ 15 < 16 ∧ 31 = 1 * 16 + 15 ∧ (stRun 0 0 0).on Reg.TICK.STATUS.RUN = true := by decide
/-- ENGINE_START: first frame 1 at the very instant T(1), a plan and the grid stand. -/
def stStart : State :=
  { ((State.reset.put Reg.TICK.CFG.PLAN true).put Reg.TICK.STATUS.GRID true) with
    eng := { first := some 1 }
    time := { now := 125000 * tu } }
theorem wit_EngineStart : stStart.eng.first = some 1 ∧ stStart.on Reg.TICK.STATUS.RUN = false ∧
    stStart.tAt 1 ≤ stStart.ns ∧ stStart.on Reg.TICK.CFG.PLAN = true ∧ stStart.on Reg.TICK.STATUS.GRID = true := by
  decide

/-- A state with one lane. -/
def stLane (p : Nat) (x : LaneP) : State := { State.reset with lanes := { pos := [(p, x)] } }
/-- A lane without results on its way is as it stands. -/
theorem mature_nil (x : LaneP) (c : Nat) (h : x.pend = []) : x.mature c = x := by
  obtain ⟨⟩ := x
  subst h
  cases hp : Config.postStands <;> simp [LaneP.mature, hp]
/-- BUNDLE_ISSUE: the last position runs the empty bundle. -/
theorem wit_BundleIssue : 287 < 288 ∧ ∃ s : State, ∃ x : LaneP, (s.laneP 287).log.isSome = true ∧
    (s.laneP 287).halted = false ∧ (s.laneP 287).faulted = false ∧ x = (s.laneP 287).mature (s.laneP 287).cyc ∧
    x.waiting = false ∧ (x.seq.isSome && x.run.isNone) = false ∧ s.mustWait 287 x = false ∧
    (s.cluMem (287 / 9)).bad.contains x.pc = false ∧ illBits 0#64 = false ∧ illCtl x 0#64 = false ∧
    ((addrOp 0#64 20).accesses) = false ∧ ((addrOp 0#64 36).accesses) = false ∧ x.run = none ∧
    tblGet (fun _ => 0#64) (s.cluMem (287 / 9)).code x.pc = 0#64 := by
  refine ⟨by decide, stLane 287 { log := some 7, halted := false }, { log := some 7, halted := false },
    by decide, by decide, by decide, ?_, by decide, by decide, by decide, by decide, by decide, by decide, by decide, by decide,
    by decide, by decide⟩
  rw [mature_nil _ _ (by decide)]; decide
/-- A lane memory without upset words. -/
theorem wit_NoUpset (x : LaneP) (h : x.upset = []) : ∀ a, x.eccAt a = .ok := by
  intro a
  have e : eccOf 0 = .ok := by decide
  simpa [LaneP.eccAt, h, mapGetD, mapGet] using e
/-- BUNDLE_ISSUE that waits: LD from line 0, which is not ready. -/
def waitLane : LaneP := { log := some 0, halted := false, a := [0, 0, 0, 0, 0, 0, 0, 0], unready := [0] }
/-- A load of the Y slot from A0. -/
def waitState : State := { State.reset with lanes := { pos := [(0, waitLane)], cl := [(0, { code := [(0, 1#64 <<< 48)] })] } }
theorem wit_BundleWaits : waitLane.waiting = false ∧ (waitLane.seq.isSome && waitLane.run.isNone) = false ∧
    (waitState.cluMem 0).bad.contains waitLane.pc = false ∧ waitLane = waitLane.mature waitLane.cyc := by
  refine ⟨by decide, by decide, by decide, ?_⟩
  rw [mature_nil _ _ (by decide)]
/-- BUNDLE_ISSUE of a lane whose repair pass has no instance left. -/
def doneLane : LaneP := { log := some 0, halted := false, seq := some [] }
theorem wit_RepairEnds : ∃ s : State, ∃ x : LaneP, (s.laneP 0).log.isSome = true ∧ (s.laneP 0).halted = false ∧
    (s.laneP 0).faulted = false ∧ x = (s.laneP 0).mature (s.laneP 0).cyc ∧ x.waiting = false ∧ x.seq = some [] ∧ x.run = none := by
  refine ⟨stLane 0 doneLane, doneLane, by decide, by decide, by decide, ?_, by decide, by decide, by decide⟩
  rw [mature_nil _ _ (by decide)]; decide
/-- KEND_OVERDUE: 64 cycles after the expected count, to the cycle. -/
theorem wit_KendOverdue : ∃ r : LaneRun,
    ((stLane 0 { run := some ⟨0, 10, 20⟩, halted := false, cyc := 94 }).laneP 0).run = some r ∧
    r.since + r.expect + 64 ≤ ((stLane 0 { run := some ⟨0, 10, 20⟩, halted := false, cyc := 94 }).laneP 0).cyc :=
  ⟨⟨0, 10, 20⟩, by decide, by decide⟩
/-- TRANSFER_LINE: the last cluster, the last position, the last region line and the last lane word, each way, due at
cycle 5 of the pass. -/
def xferLane : LaneP := { log := some 255, halted := false, cyc := 5, xfers := [⟨5, true, 262143, 0xFFF⟩, ⟨5, false, 262143, 0xFFF⟩] }
theorem wit_TransferLine : 31 < 32 ∧ 8 < 9 ∧ 262143 < 262144 ∧ 0x7FFF < 0x8000 ∧ (stLane 287 xferLane).eng.finished = false ∧
    xferOf ((stLane 287 xferLane).laneP (flatPos 31 8)) ⟨true, 262143, [8], 0x7FFF, .ok, []⟩ = some ⟨5, true, 262143, 0xFFF⟩ ∧
    xferOf ((stLane 287 xferLane).laneP (flatPos 31 8)) ⟨false, 262143, [8], 0x7FFF, .ok, []⟩ = some ⟨5, false, 262143, 0xFFF⟩ := by decide
/-- IMPORT_WAIT_END: a waiting lane whose line is ready. -/
theorem wit_ImportWaitEnd : ∃ s : State, ∃ x : LaneP, (s.laneP 0).waiting = true ∧ (s.laneP 0).halted = false ∧
    (s.laneP 0).faulted = false ∧ x = (s.laneP 0).mature (s.laneP 0).cyc ∧ s.mustWait 0 x = false ∧ x.run.isNone = false := by
  refine ⟨stLane 0 { log := some 0, halted := false, waiting := true, run := some ⟨0, 0, 9⟩ },
    { log := some 0, halted := false, waiting := true, run := some ⟨0, 0, 9⟩ },
    by decide, by decide, by decide, ?_, by decide, by decide⟩
  rw [mature_nil _ _ (by decide)]; decide

/-- An eddy request of the frame in the main pass. -/
def reqOf : EddyReq := { stream := some 3, frame := 0, cycle := 5, data := [(4, [(0, 1)])] }
/-- A plan whose cone of source 4 is one instance. -/
def planCone : PlanImage := { insts := [{ lane := 0, kernel := .gain, objs := [] }], cones := [(4, [0])] }
/-- A state in which the arbiter takes the request up, exactly at T(1). -/
def stEddy : State := { stRun 0 0 125000 with
  plan := { image := some planCone }
  eng := { first := some 0, reqs := [reqOf], faults := [], lanes := [(0, (100000, 0))] } }
/-- EDDY_PASS_ADMISSION. -/
theorem wit_EddyPassAdmission : stEddy.eng.reqs.find? (fun x => x.frame == stEddy.eng.frame) = some reqOf ∧
    stEddy.on Reg.TICK.STATUS.RUN = true ∧ stEddy.eng.finished = false ∧ stEddy.tAt (0 + 1) ≤ stEddy.ns ∧
    stEddy.eng.eddyClosed = false ∧ stEddy.faultFirst 5 = false ∧ stEddy.alreadyIn 0 reqOf.data = false ∧
    (stEddy.cone planCone [4]).isEmpty = false ∧ stEddy.eddyOn 0 = true := by decide
/-- FAULT_REPLAY_ADMISSION: a fault of a position whose cluster has no spare. -/
def stFault : State := { stEddy with eng := { stEddy.eng with reqs := [], faults := [⟨8, 0, 1, 100⟩] } }
theorem wit_FaultReplayAdmission : stFault.eng.faults = [⟨8, 0, 1, 100⟩] ∧ stFault.plan.image = some planCone ∧
    stFault.eng.finished = false ∧ stFault.replayServer ⟨8, 0, 1, 100⟩ = none := by decide
/-- EDDY_PASS_RUN: one lane part that has not started. -/
def stPass : State := { stEddy with
  eng := { stEddy.eng with passes := [{ stream := none, frame := 0, parts := [⟨0, 40, 9, false⟩], s0 := 9, s1 := 9 }] }
  lanes := { pos := [(0, { log := some 0, halted := true })], logl := [(0, {})] } }
theorem wit_EddyPassRun : stPass.nextPart = some (0, ⟨0, 40, 9, false⟩) ∧ stPass.eng.finished = false := by decide

/-- Lane self-tests: the last position is in test, with 0 and with 1 failure, and with the command waiting. -/
def stTest (n : Nat) (w : Option Nat) : State :=
  { State.reset.wr (lstatFld 31 8) 2 with
    time := { mono := 5 * tu }
    guard := { pos := [(287, { testEnd := some 5, fails := n })], cl := [(31, { testPos := w })] } }
theorem wit_LaneSelftestEnd : 287 < 288 ∧ (stTest 0 none).lstat (287 / 9) (287 % 9) = 2 ∧
    ((stTest 0 none).posS 287).testEnd = some 5 ∧ 5 ≤ (stTest 0 none).run ∧ ((stTest 0 none).clS (287 / 9)).testPos ≠ some (287 % 9) ∧
    ((stTest 0 none).posS 287).fails = 0 ∧ 1 ≤ ((stTest 1 none).posS 287).fails ∧
    ((stTest 0 (some 8)).clS (287 / 9)).testPos = some (287 % 9) := by decide
/-- SPARE_ROTATION: rotation is enabled and its period has passed to the ns. -/
def stRotate : State := { ((stRun 0 0 0).put Reg.GUARD.ROT.EN true) with
  time := { mono := (State.reset.rd Reg.GUARD.ROT.PERIOD * 100000000) * tu } }
theorem wit_SpareRotation : 31 < 32 ∧ stRotate.mayRotate 31 = true := by decide
/-- CLUSTER_MEMORY_TEST_END: a test whose time has come, a plan of one bundle, and its CRC. -/
def stMem (n : Nat) : State := { ((State.reset.wr (Reg.LANE.CL.IUSE.BUNDLES 31) 1).wr (Reg.LANE.CL.ICRC.CRC 31) n).wr Reg.LANE.LOADOK.OK (2 ^ 31) with
  time := { mono := 7 * tu }, guard := { cl := [(31, { memEnd := [(7, 2)] })] } }
theorem wit_ClusterMemoryTestEnd : ((stMem 0).clS 31).memEnd = [(7, 2)] ∧ 7 ≤ (stMem 0).run ∧ ((stMem 0).clS 31).stuck = false ∧
    ((stMem 0).rd Reg.LANE.LOADOK.OK).testBit 31 = true ∧ (stMem (crc32c [0, 0, 0, 0, 0, 0, 0, 0]).toNat).memCrc 31 = crc32c [0, 0, 0, 0, 0, 0, 0, 0] ∧
    ((((stMem 0).fillCode 31 []).memCrc 31).toNat ≠ ((stMem 0).fillCode 31 []).rd (Reg.LANE.CL.ICRC.CRC 31)) ∧
    (let x := crc32c [0, 0, 0, 0, 0, 0, 0, 0]
     (((stMem x.toNat).fillCode 31 []).memCrc 31).toNat = ((stMem x.toNat).fillCode 31 []).rd (Reg.LANE.CL.ICRC.CRC 31)) := by decide +kernel

/-- A die's rows: CD0 or CD1 in rebuild since tick 0, at tick 63 and at tick 64, the copy ended, a reload in progress. -/
def stRebuild (d n : Nat) : State :=
  { ((State.reset.wr (dieFld d) 1).setDieS d { rebuild := some 0, ended := true }) with time := { now := n * 125000 * tu } }
theorem wit_DieRows : (stRebuild 0 63).die 0 = 1 ∧ (stRebuild 0 63).rebuildAge 0 < 64 ∧ (stRebuild 0 63).die 1 ≠ 1 ∧
    ((stRebuild 0 63).dieS 0).ended = true ∧ (stRebuild 1 63).die 0 ≠ 1 ∧ (stRebuild 1 63).die 1 = 1 ∧
    (stRebuild 1 63).rebuildAge 1 < 64 ∧ 64 ≤ (stRebuild 0 64).rebuildAge 0 ∧ 64 ≤ (stRebuild 1 64).rebuildAge 1 := by decide +kernel
theorem wit_DieReload : 1 < 2 ∧
    (({ State.reset.wr (dieFld 1) 3 with guard := { die1 := { reload := some 9 } } } : State).dieS 1).reload = some 9 ∧
    ({ State.reset.wr (dieFld 1) 3 with guard := { die1 := { reload := some 9 } } } : State).die 1 = 3 ∧
    ({ State.reset.wr (dieFld 1) 3 with guard := { die1 := { reload := some 9 } } } : State).run ≤ 9 := by decide

/-- A descriptor without a session on ring 1. -/
def dOf (a0 a1 : Nat) : Desc := { ring := 1, index := 0, a0 := a0, a1 := a1 }
/-- A state with one descriptor at the head of ring 1, which is enabled. -/
def atHead (s : State) (op : Nat) (d : Desc) : State :=
  (s.put (Reg.HOST.RING.CFG.EN 1) true).setRing 1 { fetched := [⟨op, d⟩] }
/-- Containment commands: SELFTEST of the last cluster with the engine running, DIE_RESET of CD1. -/
def stPlan : State := { (stRun 0 0 0) with plan := { image := some { alts := [{ cluster := 31 }] } } }
theorem wit_SelftestLanes : (atHead stPlan 0x60 (dOf 0 31)).Admits 0x60 roleE (dOf 0 31) ∧
    (((atHead stPlan 0x60 (dOf 0 31)).opened 0x60 (dOf 0 31)).positions 31 1).isEmpty = false ∧
    ((atHead stPlan 0x60 (dOf 0 31)).opened 0x60 (dOf 0 31)).altOf (regionOf 31) ≠ some 31 ∧
    ((atHead stPlan 0x60 (dOf 0 31)).opened 0x60 (dOf 0 31)).on Reg.TICK.STATUS.RUN = true :=
  ⟨⟨by decide, by decide, by decide, by decide, by decide⟩, by decide, by decide, by decide⟩
theorem wit_SelftestClusterMemory : (atHead stPlan 0x60 (dOf 1 31)).Admits 0x60 roleE (dOf 1 31) ∧
    ((atHead stPlan 0x60 (dOf 1 31)).opened 0x60 (dOf 1 31)).txnBusy = false ∧
    ((atHead stPlan 0x60 (dOf 1 31)).opened 0x60 (dOf 1 31)).on (Reg.GUARD.ALT.ACTIVE (regionOf 31)) = false :=
  ⟨⟨by decide, by decide, by decide, by decide, by decide⟩, by decide, by decide⟩
def stCd : State := (stPlan.put Reg.SYS.PWR.CD0OK true).put Reg.SYS.PWR.CD1OK true
theorem wit_DieReset : (atHead stCd 0x48 (dOf 1 0)).Admits 0x48 roleE (dOf 1 0) ∧
    ((atHead stCd 0x48 (dOf 1 0)).opened 0x48 (dOf 1 0)).die (1 - 1) = 0 ∧
    ((atHead stCd 0x48 (dOf 1 0)).opened 0x48 (dOf 1 0)).on Reg.SYS.PWR.CD1OK = true :=
  ⟨⟨by decide, by decide, by decide, by decide, by decide⟩, by decide, by decide⟩

/-- A plan loaded, the time on the grid, far from any boundary. -/
def stTxn : State := ((State.reset.put Reg.TICK.CFG.PLAN true).put Reg.TICK.STATUS.GRID true)
/-- An open slot of ring 1 under number 7, in a state. -/
def slotOf (st : Nat) (items : Tbl Nat) : State :=
  { (((stTxn.wr Reg.TXN.STATUS.OSTATE st).wr Reg.TXN.OID.ID 7).wr Reg.TXN.STATUS.OWNER 1) with txn := { items := items } }
/-- A committed launching slot of ring 1 under number 9 for tick 1,000. -/
def slotL : State :=
  { ((stTxn.wr Reg.TXN.STATUS.LSTATE 1).wr Reg.TXN.LID.ID 9).setLaunch 1000 with txn := { lRing := some 1 } }
theorem wit_TxnBegin : (atHead stTxn 0x20 (dOf 0 0)).Admits 0x20 roleO (dOf 0 0) ∧
    ((atHead stTxn 0x20 (dOf 0 0)).opened 0x20 (dOf 0 0)).on Reg.TICK.CFG.PLAN = true ∧
    ((atHead stTxn 0x20 (dOf 0 0)).opened 0x20 (dOf 0 0)).follower = false ∧
    ((atHead stTxn 0x20 (dOf 0 0)).opened 0x20 (dOf 0 0)).os = osIdle :=
  ⟨⟨by decide, by decide, by decide, by decide, by decide⟩, by decide, by decide, by decide⟩
theorem wit_TxnPrepare : (atHead (slotOf osOpen []) 0x21 (dOf 7 0)).Admits 0x21 roleO (dOf 7 0) ∧
    ((atHead (slotOf osOpen []) 0x21 (dOf 7 0)).opened 0x21 (dOf 7 0)).names (dOf 7 0) = 1 ∧
    ((atHead (slotOf osOpen []) 0x21 (dOf 7 0)).opened 0x21 (dOf 7 0)).view.firstBad = none ∧
    ((atHead (slotOf osOpen []) 0x21 (dOf 7 0)).opened 0x21 (dOf 7 0)).view.budget false = none :=
  ⟨⟨by decide, by decide, by decide, by decide, by decide⟩, by decide, by decide +kernel, by decide⟩
/-- TXN_COMMIT for a launch exactly 2 ticks away. -/
def dCommit : Desc := { dOf 7 16 with a2 := 250000 }
theorem wit_TxnCommit : (atHead (slotOf osPrepared [(65540, 0)]) 0x22 dCommit).Admits 0x22 roleO dCommit ∧
    ((atHead (slotOf osPrepared [(65540, 0)]) 0x22 dCommit).opened 0x22 dCommit).names dCommit = 1 ∧
    ((atHead (slotOf osPrepared [(65540, 0)]) 0x22 dCommit).opened 0x22 dCommit).ls = 0 ∧
    ceilDiv 250000 ((atHead (slotOf osPrepared [(65540, 0)]) 0x22 dCommit).opened 0x22 dCommit).tickNs = 2 ∧
    ((atHead (slotOf osPrepared [(65540, 0)]) 0x22 dCommit).opened 0x22 dCommit).ns + 2 * 125000 ≤
      ((atHead (slotOf osPrepared [(65540, 0)]) 0x22 dCommit).opened 0x22 dCommit).tAt 2 ∧
    ((atHead (slotOf osPrepared [(65540, 0)]) 0x22 dCommit).opened 0x22 dCommit).view.budget false = none ∧
    (atHead (slotOf osPrepared []) 0x22 dCommit).Admits 0x22 roleO dCommit ∧
    ((atHead (slotOf osPrepared []) 0x22 dCommit).opened 0x22 dCommit).txn.items.isEmpty = true :=
  ⟨⟨by decide, by decide, by decide, by decide, by decide⟩, by decide, by decide, by decide, by decide, by decide, ⟨by decide, by decide, by decide, by decide, by decide⟩, by decide⟩
theorem wit_TxnRollback : (atHead (slotOf osOpen []) 0x23 (dOf 7 0)).Admits 0x23 roleO (dOf 7 0) ∧
    ((atHead (slotOf osOpen []) 0x23 (dOf 7 0)).opened 0x23 (dOf 7 0)).names (dOf 7 0) = 1 ∧
    (atHead slotL 0x23 (dOf 9 0)).Admits 0x23 roleO (dOf 9 0) ∧
    ((atHead slotL 0x23 (dOf 9 0)).opened 0x23 (dOf 9 0)).names (dOf 9 0) = 2 ∧
    ((atHead slotL 0x23 (dOf 9 0)).opened 0x23 (dOf 9 0)).ls = 1 ∧
    ((atHead slotL 0x23 (dOf 9 0)).opened 0x23 (dOf 9 0)).ns < slotL.tAt 999 ∧
    ((atHead slotL 0x23 (dOf 9 0)).opened 0x23 (dOf 9 0)).paired = false :=
  ⟨⟨by decide, by decide, by decide, by decide, by decide⟩, by decide, ⟨by decide, by decide, by decide, by decide, by decide⟩, by decide, by decide, by decide, by decide⟩

/-- WRITE_ITEMS: one register item, into the open slot and into a collection. -/
def dItems (n : Nat) : Desc := { dOf n 0 with buf := [3, 0, 0, 0, 4, 0, 1, 0, 0, 0, 0, 0, 255, 255, 255, 255] }
theorem wit_WriteItems : (atHead (slotOf osOpen []) 0x10 (dItems 7)).Admits 0x10 roleO (dItems 7) ∧
    ((atHead (slotOf osOpen []) 0x10 (dItems 7)).opened 0x10 (dItems 7)).names (dItems 7) = 1 ∧
    (addItems State.addOpen (pieces 16 1 (dItems 7).buf) 0
      ((atHead (slotOf osOpen []) 0x10 (dItems 7)).opened 0x10 (dItems 7))).1 = 1 ∧
    (addItems State.addOpen (pieces 16 1 (dItems 7).buf) 0
      ((atHead (slotOf osOpen []) 0x10 (dItems 7)).opened 0x10 (dItems 7))).2.1 = 0 ∧
    (atHead stTxn 0x10 (dItems 0)).Admits 0x10 roleO (dItems 0) ∧
    ((atHead stTxn 0x10 (dItems 0)).opened 0x10 (dItems 0)).noCollect = false ∧
    (addItems State.addCollect (pieces 16 1 (dItems 0).buf) 0 ((atHead stTxn 0x10 (dItems 0)).opened 0x10 (dItems 0))).2.1 = 0 :=
  ⟨⟨by decide, by decide, by decide, by decide, by decide⟩, by decide, by decide, by decide, ⟨by decide, by decide, by decide, by decide, by decide⟩, by decide, by decide⟩
/-- SCENE_STORE into the last scene number of an empty store. -/
def dScene : Desc := { dOf 7 255 with buf := List.replicate 16 65 }
theorem wit_SceneStore : (atHead (slotOf osPrepared []) 0x24 dScene).Admits 0x24 roleO dScene ∧ dScene.a1 < 256 ∧
    dScene.buf.length = 16 ∧ dScene.a0 ≠ 0 ∧
    dScene.a0 = ((atHead (slotOf osPrepared []) 0x24 dScene).opened 0x24 dScene).rd Reg.TXN.OID.ID ∧
    ((atHead (slotOf osPrepared []) 0x24 dScene).opened 0x24 dScene).os = osPrepared ∧ recBlocks 0 = 1 :=
  ⟨⟨by decide, by decide, by decide, by decide, by decide⟩, by decide, by decide, by decide, by decide, by decide, by decide⟩
/-- SCENE_RECALL of an empty record of the loaded plan. -/
def recOf : SceneRec := { planCrc := 0, txnId := 0, name := [], secs := 0, nsecs := 0, items := [], crc := 0, first := 0, blocks := 1 }
def stScene : State :=
  { slotOf osOpen [] with txn := { scenes := [(255, { recOf with crc := crc32c (recBytes recOf) })] } }
theorem wit_SceneRecall : (atHead stScene 0x25 (dOf 7 255)).Admits 0x25 roleO (dOf 7 255) ∧
    ((atHead stScene 0x25 (dOf 7 255)).opened 0x25 (dOf 7 255)).names (dOf 7 255) = 1 ∧
    mapGet ((atHead stScene 0x25 (dOf 7 255)).opened 0x25 (dOf 7 255)).txn.scenes 255 =
      some { recOf with crc := crc32c (recBytes recOf) } ∧
    crc32c (recBytes { recOf with crc := crc32c (recBytes recOf) }) = crc32c (recBytes recOf) ∧
    ((atHead stScene 0x25 (dOf 7 255)).opened 0x25 (dOf 7 255)).planCrc = 0 :=
  ⟨⟨by decide, by decide, by decide, by decide, by decide⟩, by decide, by decide +kernel, by decide +kernel, by decide⟩
theorem wit_SceneErase : (atHead stTxn 0x26 (dOf 0 255)).Admits 0x26 roleE (dOf 0 255) ∧ (dOf 0 255).a1 < 256 :=
  ⟨⟨by decide, by decide, by decide, by decide, by decide⟩, by decide⟩

/-- A committed transaction at T(L), in crossfade at T(L + X + 1), and a collection. -/
theorem wit_LaunchRows : ((slotL.setLaunch 0).ls = 1) ∧ (slotL.setLaunch 0).launchTick ≤ (slotL.setLaunch 0).tick ∧
    slotL.txn.ending = false ∧ slotL.txn.moveEnd ≤ slotL.ns ∧ slotL.ns = slotL.tAt slotL.tick ∧
    (({ (State.reset.wr Reg.TXN.STATUS.LSTATE 2) with time := { now := 125000 * tu } } : State).ls = 2) ∧
    ({ (State.reset.wr Reg.TXN.STATUS.LSTATE 2) with time := { now := 125000 * tu } } : State).launchTick + 0 + 1 ≤
      ({ (State.reset.wr Reg.TXN.STATUS.LSTATE 2) with time := { now := 125000 * tu } } : State).tick := by decide
theorem wit_CollectionCommit : (slotOf osCollecting [(65540, 0)]).os = osCollecting ∧
    (slotOf osCollecting [(65540, 0)]).ls = 0 ∧ (slotOf osCollecting [(65540, 0)]).txn.rejected = none ∧
    (slotOf osCollecting [(65540, 0)]).view.firstBad = none ∧ (slotOf osCollecting [(65540, 0)]).view.budget true = none := by
  decide +kernel
def stZc (b : Bool) : State := { State.reset with
  gains := { mutes := [(8191, { ramp := settled 0, wait := some (3, true) })] }
  dsp0 := { hits := [{ entry := 8191, timeout := b, ramp := { settled 0 with l := 3 } }] } }
theorem wit_ZeroCrossing : ((stZc false).zcHits.find? fun h => h.entry == 8191 && !h.timeout && h.ramp.k0 == 0) =
      some { entry := 8191, timeout := false, ramp := { settled 0 with l := 3 } } ∧
    ((stZc true).zcHits.find? fun h => h.entry == 8191 && h.timeout) =
      some { entry := 8191, timeout := true, ramp := { settled 0 with l := 3 } } ∧
    mapGet (stZc true).gains.mutes 8191 = some { ramp := ((stZc true).muteOf 8191).ramp, wait := some (3, true) } := by decide

/-- A register write at the last ring, the last port, the last group, the last launch output, and each single register. -/
theorem wit_RegisterWrites (off : Nat) (h : off ∈ [0x1402F0, 0x140018, 0x140000, 0x100000, 0x170000, 0xA0004, 0x80030, 0x802F4, 0xD07C0, 0xD07D0, 0x1002E0, 0x170004, 0x170008, 0x17000C, 0x34, 0x20004]) :
    State.reset.pwr.halted = false ∧ State.reset.writeBarred .pcie off = false ∧ off % 4 = 0 ∧
    (regFields off).isSome = true := by
  simp only [List.mem_cons, List.mem_nil_iff, or_false] at h
  rcases h with rfl | rfl | rfl | rfl | rfl | rfl | rfl | rfl | rfl | rfl | rfl | rfl | rfl | rfl | rfl | rfl <;> decide +kernel
/-- A lock bit, a counter clear, a register of SH fields, and one of a block whose registers set nothing off. -/
theorem wit_RegisterEffects : lockFld 0x100000 = some Reg.MOD.CTRL.LOCK ∧ Reg.MOD.CTRL.LOCK.off = 0x100000 ∧
    clearedBy 0x90000 ≠ [] ∧ 0x90000 ∈ clearOffs ∧ ((regFields 0x20004).map fun fs => fs.any fun f => f.ty == .sh) = some true ∧
    0x150040 / 0x10000 ∈ [1, 2, 6, 10, 12, 18, 21, 22] ∧ clearOffs.contains 0x150040 = false ∧
    ((regFields 0x150040).map fun fs => fs.any fun f => f.ty == .sh) = some false := by decide +kernel

/-- Ring 15 enabled and disabled. -/
theorem wit_SetsTheRingIndices : (State.reset.put (Reg.HOST.RING.CFG.EN 15) true).on (Reg.HOST.RING.CFG.EN 15) = true ∧
    (State.reset.put Reg.HOST.EVCFG.EN true).on Reg.HOST.EVCFG.EN = true ∧
    State.reset.on (Reg.HOST.RING.CFG.EN 15) = false ∧ State.reset.on Reg.HOST.EVCFG.EN = false ∧
    State.reset.host.rings.length = 16 ∧ getBits 0xFFFFFFFF#32 0 1 = 1 ∧ (∀ i < 16, (State.reset.evins.getD i {}).queue = []) := by decide +kernel

/-- Ring 15 has room for a fetch; ring 0 has a free completion entry; the event ring has space. -/
def stHost : State :=
  { ((((State.reset.put (Reg.HOST.RING.CFG.EN 15) true).put (Reg.HOST.RING.CFG.EN 0) true).put Reg.HOST.EVCFG.EN true).put
      Reg.HOST.CFG.DBEN true) with host := { rings := (List.replicate 16 ({} : RingS)).set 15 { cmdP := 5 } } }
theorem wit_HostRingRows : (stHost.fetchTurn 15 = true) ∧ stHost.fetchable 15 = 4 ∧ stHost.on Reg.HOST.CFG.DBEN = true ∧
    getBits 0x0001000F#32 0 6 = 15 ∧ getBits 0x0001001F#32 0 6 = 31 ∧ getBits 0x00010020#32 0 6 = 32 ∧
    getBits 0x00010021#32 0 6 = 33 ∧ (stHost.host.retried.filter fun x => x == 15).length < 2 ∧ stHost.cplFree 0 ≠ 0 ∧
    stHost.on (Reg.HOST.RING.CFG.EN 0) = true ∧ 0 < stHost.evFree ∧ (∀ i < 16, (stHost.evins.getD i {}).queue = []) ∧
    2 ≤ ([15, 15].filter fun x => x == 15).length := by decide +kernel
/-- A response that a running command waits for. -/
theorem wit_FetchDeadline : (({ stHost with host := { stHost.host with rings := (List.replicate 16 ({} : RingS)).set 15 { run := some ⟨0x10, dOf 0 0, [], false, 0⟩ } } } : State).ring 15).run.isSome = true := by decide +kernel

/-- HOST_LINK_RESET, SESSION_EXPIRY to the second, SESSION_CLOSE of session 1 by itself, a latching read. -/
theorem wit_HostLink : State.reset.host.rings.length = 16 ∧ State.reset.pwr.halted = false ∧ State.reset.hasPath .pcie = true ∧
    0x10010 ∈ latchFirsts ∧ (∀ o ∈ latchFirsts, o % 4 = 0 ∧ regMapped o = true ∧ o < 0x200000) := by decide +kernel
def stSess : State :=
  { State.reset with host := { sessions := (List.replicate 16 none).set 0 (some { roles := 15, gen := 0, mask := 0xFFFF, notAfter := 9, key := [], seqs := List.replicate 16 0 }) }, time := { now := 9000000000 * tu } }
theorem wit_SessionExpiry : ∃ x, atD stSess.host.sessions (1 - 1) none = some x ∧ x.notAfter ≠ 0 ∧ x.notAfter ≤ stSess.secs :=
  ⟨_, rfl, by decide, by decide⟩
theorem wit_SessionCount : stSess.host.sessions.length = 16 := by decide

/-- FIRST_LOCK_STEP: slot 3 selected, its port a slave, the fourth agreeing measurement. -/
def stLock : State :=
  { ((State.reset.wr Reg.REFSEL.STATUS.SEL 3).wr (Reg.TIME.PORT.PSTAT.STATE 3) 9) with
    ports := (List.replicate 4 ({} : PtpPort)).set 3 { agree := 4 } }
theorem wit_FirstLock : stLock.on Reg.TIME.STATUS.STEPPED = false ∧ stLock.sel < 4 ∧
    stLock.rd (Reg.TIME.PORT.PSTAT.STATE stLock.sel) = 9 ∧ 4 ≤ (stLock.port stLock.sel).agree := by decide
/-- TIME_SET and RE_EPOCH with slot 6, with none, and with a PPS slot; the last nanosecond of a second. -/
def selSt (n : Nat) (stepped : Bool) : State := (State.reset.wr Reg.REFSEL.STATUS.SEL n).put Reg.TIME.STATUS.STEPPED stepped
def dNs : Desc := { dOf 0 0 with a2 := 999999999 }
theorem wit_TimeSet : (atHead (selSt 6 false) 0x40 dNs).Admits 0x40 roleE dNs ∧
    ((atHead (selSt 6 false) 0x40 dNs).opened 0x40 dNs).sel = 6 ∧
    ((atHead (selSt 6 false) 0x40 dNs).opened 0x40 dNs).on Reg.TIME.STATUS.STEPPED = false ∧
    (atHead (selSt 7 false) 0x40 (dOf 0 0)).Admits 0x40 roleE (dOf 0 0) ∧
    ((atHead (selSt 7 false) 0x40 (dOf 0 0)).opened 0x40 (dOf 0 0)).sel = 7 :=
  ⟨⟨by decide, by decide, by decide, by decide, by decide⟩, by decide, by decide, ⟨by decide, by decide, by decide, by decide, by decide⟩, by decide⟩
theorem wit_ReEpoch : (atHead (selSt 15 true) 0x41 dNs).Admits 0x41 roleE dNs ∧
    ((atHead (selSt 15 true) 0x41 dNs).opened 0x41 dNs).on Reg.TIME.STATUS.STEPPED = true ∧
    ((atHead (selSt 15 true) 0x41 dNs).opened 0x41 dNs).anyStream = false ∧
    ((atHead (selSt 15 true) 0x41 dNs).opened 0x41 dNs).storeRuns = false ∧
    ((atHead (selSt 15 true) 0x41 dNs).opened 0x41 dNs).ls = 0 ∧
    (atHead (selSt 8 true) 0x41 (dOf 0 0)).Admits 0x41 roleE (dOf 0 0) ∧
    ((atHead (selSt 8 true) 0x41 (dOf 0 0)).opened 0x41 (dOf 0 0)).sel = 8 :=
  ⟨⟨by decide, by decide, by decide, by decide, by decide⟩, by decide, by decide, by decide, by decide, ⟨by decide, by decide, by decide, by decide, by decide⟩, by decide⟩
/-- RE_EPOCH_STEP at the very instant T(2), and the last event input. -/
def stEpoch : State := { (State.reset.wr (Reg.TIME.EVCFG.EDGE 15) 3).put (Reg.TIME.EVCFG.EN 15) true with
  epoch := some ⟨2, 2, 5, 0⟩, time := { now := 250000 * tu } }
theorem wit_ReEpochStep : (stEpoch.epoch = some ⟨2, 2, 5, 0⟩) ∧ stEpoch.tAt 2 ≤ stEpoch.ns ∧
    stEpoch.on Reg.TICK.STATUS.RUN = false := by decide
theorem wit_EventInputEdge : stEpoch.on (Reg.TIME.EVCFG.EN 15) = true ∧ stEpoch.rd (Reg.TIME.EVCFG.EDGE 15) = 3 ∧
    (atD stEpoch.evins 15 {}).last = none ∧ stEpoch.evins.length = 16 ∧ (atD stEpoch.evins 15 {}).level ≠ some true ∧
    (atD stEpoch.evins 15 {}).queue = [] ∧ stEpoch.evFree = 0 ∧ 0 < (stEpoch.put Reg.HOST.EVCFG.EN true).evFree ∧
    stEpoch.host.evQueue = [] ∧ stEpoch.host.evLost = 0 ∧ 1 % ((stEpoch.wr (Reg.TIME.EVCFG.DIV 15) 1).rd (Reg.TIME.EVCFG.DIV 15) + 1) ≠ 0 ∧ (atD stEpoch.evins 15 {}).seen % (stEpoch.rd (Reg.TIME.EVCFG.DIV 15) + 1) = 0 ∧
    stEpoch.rd (Reg.TIME.EVCFG.FILT 15) ≤ 65535 ∧ 4 < (stEpoch.wr (Reg.TIME.EVCFG.FILT 15) 5).rd (Reg.TIME.EVCFG.FILT 15) ∧ (stEpoch.put Reg.TICK.STATUS.RUN true).on Reg.TICK.STATUS.RUN = true ∧
    ({ stEpoch with evins := stEpoch.evins.set 15 { last := some 1000 } } : State).evins[15]? = some { last := some 1000 } ∧
    1049 < 1000 + 50 := by decide

/-- The last launch output: armed exactly 1,000 ns ahead, at its start, and at the end of its pulse. -/
def stOut (x : LaunchOut) : State :=
  { ((((State.reset.put Reg.TIME.STATUS.STEPPED true).wr (Reg.TIME.ST.WIDTH 7) 10).wr (Reg.TIME.ST.TNS 7) 1000).wr
      (Reg.TIME.ST.CTRL.STAT 7) 1) with starts := (List.replicate 8 ({} : LaunchOut)).set 7 x }
theorem wit_LaunchOutputs : (stOut {}).on Reg.TIME.STATUS.STEPPED = true ∧ 10 ≤ (stOut {}).rd (Reg.TIME.ST.WIDTH 7) ∧
    (stOut {}).rd (Reg.TIME.ST.PERIOD 7) = 0 ∧ (stOut {}).ns + 1000 ≤ (stOut {}).startOf 7 ∧
    ((stOut { armed := some 0 }).lout 7).armed = some 0 ∧ 0 ≤ (stOut { armed := some 0 }).ns ∧
    ((stOut { armed := some 0 }).lout 7).pulseEnd = none ∧
    ((stOut { pulseEnd := some 0 }).lout 7).pulseEnd = some 0 ∧ (stOut { pulseEnd := some 0 }).rd (Reg.TIME.ST.CTRL.STAT 7) = 1 ∧
    ((stOut { pulseEnd := some 0, armed := some 9 }).lout 7).armed = some 9 ∧
    ((stOut { pulseEnd := some 0, stopAfter := true }).lout 7).stopAfter = true ∧ (stOut {}).starts.length = 8 ∧
    ((stOut {}).lout 7).armed = none ∧
    ((stOut { pulseEnd := some 0, rearm := some ⟨0, 1000, 10, 0⟩ }).lout 7).rearm = some ⟨0, 1000, 10, 0⟩ ∧
    ((stOut { pulseEnd := some 0, armed := some 9, rearm := some ⟨9, 0, 0, 0⟩ }).lout 7).began < 9 ∧ 999 < (stOut { armed := some 999 }).ns + 1000 ∧
    ((stOut {}).wr (Reg.TIME.ST.WIDTH 7) 9).rd (Reg.TIME.ST.WIDTH 7) < 10 ∧ ((stOut {}).wr (Reg.TIME.ST.TNS 7) 999).startOf 7 < 1000 ∧
    ((stOut {}).put Reg.TIME.STATUS.STEPPED false).on Reg.TIME.STATUS.STEPPED = false := by decide
theorem wit_ArmWrite : (stOut {}).pwr.halted = false ∧ (stOut {}).writeBarred .pcie (0x80214 + 32 * 7) = false ∧
    (regFields (0x80214 + 32 * 7)).isSome = true ∧ getBits 1#32 0 1 = 1 ∧ getBits 1#32 1 1 = 0 ∧ getBits 2#32 0 1 = 0 ∧
    getBits 2#32 1 1 = 1 := by decide +kernel

/-- PTP at the last port: a master or a slave, one-step; a message in domain 0; a transparent clock. -/
def stPtp (v : Nat) : State :=
  (State.reset.put (Reg.TIME.PORT.PCFG.EN 3) true).wr (Reg.TIME.PORT.PSTAT.STATE 3) v
def mPtp (k : PtpKind) : PtpMsg := { port := 3, kind := k, domain := 0 }
def stTc : State := ((((stPtp 6).wr Reg.TIME.PTPCLK.TYPE 2).put (Reg.NET.PORT.CFG.EN 3) true).put (Reg.NET.PORT.CFG.EN 2) true).setWord Reg.NET.SW.BRG0.off 0
theorem wit_Ptp : (mPtp .sync).domain = (stPtp 9).ptpDomain ∧ (stPtp 6).ptpDomain = 0 ∧ ((stPtp 9).ptpAccept (mPtp .sync)).1 = true ∧ ((stPtp 9).ptpAccept (mPtp .sync)).2 = stPtp 9 ∧
    ((stPtp 9).ptpAccept (mPtp .announce)).1 = true ∧ (mPtp .sync).twoStep = false ∧ stTc.transparent = true ∧ 2 ∈ stTc.peers 3 ∧
    stTc.peerDelay 3 = false ∧ stTc.ptpAuth (mPtp .sync) = true ∧ (stTc.put (Reg.TIME.PORT.PCFG.AUTHREQ 3) true).ptpAuth (mPtp .sync) = false := by
  decide
theorem wit_PtpMaster : ((stPtp 6).ptpAccept (mPtp .delayReq)).1 = true ∧ (stPtp 6).portState 3 = 6 ∧ ((stPtp 6).port 3).reqs < 2048 ∧
    (stPtp 6).transparent = false ∧ (stPtp 6).ports.length = 4 ∧
    (stPtp 6).on (Reg.TIME.PORT.PCFG.EN 3) = true ∧ (stPtp 6).writeBarred .pcie 0x80030 = false ∧ (mPtp .sync).tlv = none ∧
    (stPtp 6).boundary = false ∧ (stPtp 9).portState 3 = 9 ∧ ((stPtp 9).port 3).lastAnnounce = none ∧ ((stPtp 9).port 3).foreign = [] ∧
    ((stPtp 9).wr (Reg.TIME.PORT.PCFG.MODE 3) 2).slaveOnly 3 = true ∧ ((stPtp 9).put Reg.TIME.PTPCLK.GMCAP true).slaveOnly 3 = false ∧
    ((stPtp 6).put Reg.TIME.PTPCLK.TWOSTEP true).twoStep 3 = true ∧ ((stPtp 6).put Reg.TIME.PTPCLK.TWOSTEP false).twoStep 3 = false := by
  decide
def stSlave (x : PtpPort) : State := { stPtp 9 with ports := (List.replicate 4 ({} : PtpPort)).set 3 x }
theorem wit_PtpSlave : (stSlave { parent := some ⟨7, 7, 0, 0, 0, 0, 0, 0, 0⟩ }).fromMaster { mPtp .sync with sender := 7 } = true ∧
    (stSlave {}).on (Reg.REFSEL.SLOT.CFG.EN 3) = false ∧
    2048 ≤ ((stSlave { reqs := 2048 }).port 3).reqs ∧ ((stSlave { reqs := 2048 }).port 3).reqSec = (stSlave {}).secs := by decide
theorem wit_FollowUp : ((stSlave { followUps := [(.sync, 0, 0, 65537)] }).port 3).followUps = [(.sync, 0, 0, 65537)] := by decide

/-- Slot 8 enabled, with a state of its own; a second of running time has passed. -/
def stSlot (x : RefSlot) : State :=
  { (State.reset.put (Reg.REFSEL.SLOT.CFG.EN 8) true) with
    ref := { slots := (List.replicate 10 ({} : RefSlot)).set 8 x }
    time := { mono := 3600000000000 * tu } }
theorem wit_Reference : (stSlot {}).on (Reg.REFSEL.SLOT.CFG.EN 8) = true ∧ (stSlot {}).epoch = none ∧
    ((stSlot { last := some 0 }).slot 8).last = some 0 ∧ 0 + (stSlot { last := some 0 }).twoPeriods 8 ≤ (stSlot { last := some 0 }).run ∧
    ((stSlot { gateFrom := some 0 }).slot 8).gateFrom = some 0 ∧ (stSlot {}).sel ≠ 8 ∧
    |(0 : Int)| ≤ ((stSlot {}).rd (Reg.REFSEL.SLOT.CFG.FWIN 8) : Int) * 1000000 ∧
    ((stSlot {}).rd (Reg.REFSEL.SLOT.CFG.FWIN 8) : Int) * 1000000 < |(2147483647 : Int)| := by decide
theorem wit_WaitToRestore : (((stSlot { gates := 1, hit := true, since := some 0 }).wr (Reg.REFSEL.SLOT.CFG.QUAL 8) 9).wr (Reg.REFSEL.SLOT.STAT.REASON 8) 0).reasons 8 = 0 ∧
    0 + (stSlot {}).rd Reg.REFSEL.CFG.WTR * 1000000000 ≤ (stSlot {}).run ∧
    (stSlot {}).on (Reg.REFSEL.SLOT.STAT.OUTVOTED 8) = false ∧ ((stSlot {}).wr (Reg.REFSEL.SLOT.CFG.QUAL 8) 9).quality 8 ≠ 255 ∧
    (((stSlot {}).wr Reg.REFSEL.STATUS.SEL 8).sel ≠ 15) ∧ ((stSlot {}).on Reg.REFSEL.CTRL.FORCEHO = false) := by decide

/-- TIME_FRAME: 32 zero bytes with their CRC, over a link that operates; slot 9 enabled. -/
def fTime : OuvFrame :=
  let f : OuvFrame := { type := ouvTime, flags := 0, seq := 0, tick := 0, payload := List.replicate 32 0, crc := 0 }
  { f with crc := crc32c (ouvBytes f) }
def stOuv : State := (((State.reset.put Reg.GUARD.OUVCFG.EN true).put (Reg.REFSEL.SLOT.CFG.EN 9) true).wr Reg.GUARD.OUVSTAT.LINK 2)
theorem wit_TimeFrame : stOuv.on Reg.GUARD.OUVCFG.EN = true ∧ stOuv.ouvUp = true ∧ frameOk ouvTime 8192 fTime = true ∧
    fTime.payload.length = 32 ∧ stOuv.ref.sentTime.find? (fun e => e.1 == rdLe fTime.payload 12 4) = none ∧
    ({ stOuv with ref := { sentTime := [(0, 7)] } } : State).ref.sentTime.find? (fun e => e.1 == rdLe fTime.payload 12 4) = some (0, 7) ∧
    stOuv.on (Reg.REFSEL.SLOT.CFG.EN 9) = true := by decide +kernel
theorem wit_Realign : (atHead (selSt 6 true) 0x42 { dNs with a0 := 32767 }).Admits 0x42 roleE { dNs with a0 := 32767 } ∧
    ((atHead (selSt 6 true) 0x42 { dNs with a0 := 32767 }).opened 0x42 { dNs with a0 := 32767 }).on Reg.TIME.STATUS.STEPPED = true ∧
    ({ State.reset with ref := { realign := [(0, 1)] } } : State).ref.realign.find? (fun e => decide (e.1 ≤ State.reset.tick)) = some (0, 1) :=
  ⟨⟨by decide, by decide, by decide, by decide, by decide⟩, by decide, by decide⟩
def dRsp (n : Nat) : Desc := { dOf 0 0 with rlen := n }
theorem wit_RefHistory : (atHead State.reset 0x43 (dRsp 16384)).Admits 0x43 roleM (dRsp 16384) ∧ ((atHead State.reset 0x43 (dRsp 16384)).opened 0x43 (dRsp 16384)).ref.history = [] :=
  ⟨⟨by decide, by decide, by decide, by decide, by decide⟩, by decide⟩

/-- STREAM_OPEN: one channel of 16 bits per packet of 62.5 us (receive, context 511; both paths) and transmit. -/
def bRx (dual : Byte) : List Byte :=
  [255, 1, 0, 1, 0, 2, dual, 96, 1, 0, 0, 0, 0, 0, 0, 0, 0, 0, 0, 0, 1, 0, 0, 0, 1, 0] ++ List.replicate 38 0 ++ [0xFF, 0xFF] ++ List.replicate 126 0
def bTx : List Byte :=
  [255, 1, 0, 1, 0, 0, 96, 1, 0, 0, 0, 1] ++ List.replicate 52 0 ++ [0xFF, 0xFF] ++ List.replicate 126 0
def stStrm : State := (stTxn.wr Reg.SYS.PWR.STATE 3).wr (Reg.NET.PORT.CFG.MTU 1) 1500
def dStrm (a0 : Nat) (b : List Byte) : Desc := { dOf a0 511 with buf := b }
theorem wit_StreamOpen : (atHead stStrm 0x30 (dStrm 0 (bRx 0))).Admits 0x30 roleO (dStrm 0 (bRx 0)) ∧ (bRx 1).length = 192 ∧
    bTx.length = 192 ∧ ((atHead stStrm 0x30 (dStrm 0 (bRx 0))).opened 0x30 (dStrm 0 (bRx 0))).rxBad (bRx 0) = none ∧
    ((atHead stStrm 0x30 (dStrm 0 (bRx 1))).opened 0x30 (dStrm 0 (bRx 1))).rxBad (bRx 1) = none ∧
    (rxOf (bRx 1) 2).dual = true ∧ (rxOf (bRx 0) 2).dual = false ∧ stStrm.rxConflict (rxOf (bRx 1) 2) = false ∧
    ((atHead stStrm 0x30 (dStrm 1 bTx)).opened 0x30 (dStrm 1 bTx)).txBad bTx = none ∧
    ((pathPorts (txOf bTx 2 9).porta (txOf bTx 2 9).dual).any fun p => decide (stStrm.lineRate p * 8 < stStrm.portLoad p (stStrm.txUsed ++ [txOf bTx 2 9]) * 10)) = false := by
  refine ⟨⟨?_, ?_, ?_, ?_, ?_⟩, ?_⟩ <;> decide +kernel
/-- Receive and transmit context 511 in a state. -/
def stCtx (v : Nat) : State := { stStrm with strm := { rx := [(511, { state := v })], tx := [(511, { state := v })] } }
theorem wit_StreamStat : (atHead (stCtx 2) 0x32 { dRsp 64 with a1 := 510 }).Admits 0x32 roleM { dRsp 64 with a1 := 510 } ∧ mapGet (stCtx 2).strm.rx 510 = none ∧
    (mapGet (stCtx 2).strm.tx 511).isSome = true ∧ ({} : TxCtx).pub.length ≤ 32 ∧ (atHead (stCtx 3) 0x31 (dOf 1 511)).Admits 0x31 roleO (dOf 1 511) ∧
    (atHead (stCtx 1) 0x31 (dOf 0 511)).Admits 0x31 roleO (dOf 0 511) ∧ ((stCtx 4).rxc 511).state = 4 :=
  ⟨⟨by decide, by decide, by decide, by decide, by decide⟩, by decide, by decide, by decide, ⟨by decide, by decide, by decide, by decide, by decide⟩, ⟨by decide, by decide, by decide, by decide, by decide⟩, by decide⟩
theorem wit_StreamClose : (atHead (stCtx 2) 0x31 (dOf 0 511)).Admits 0x31 roleO (dOf 0 511) ∧ ((stCtx 2).rxc 511).state ≠ 0 ∧
    ((stCtx 2).txc 511).state ≠ 0 ∧ ((stCtx 1).rxc 511).state = 1 ∧ ((stCtx 1).txc 511).state = 1 ∧
    ((stCtx 3).rxc 511).state = 3 ∧ ((stCtx 3).rxc 511).dual = false ∧ ((stCtx 3).txc 511).state = 3 ∧
    (atHead (stCtx 2) 0x32 { dRsp 64 with a1 := 511, flags := 1 }).Admits 0x32 roleM { dRsp 64 with a1 := 511, flags := 1 } ∧
    ({} : RxCtx).pub.length ≤ 64 ∧ mapGet (stCtx 2).strm.tx 510 = none :=
  ⟨⟨by decide, by decide, by decide, by decide, by decide⟩, by decide, by decide, by decide, by decide, by decide, by decide, by decide, ⟨by decide, by decide, by decide, by decide, by decide⟩, by decide, by decide⟩

/-- PACKET_RECEIVE at port 1 for context 511: one 16-bit channel at 62.5 us; and to nobody. -/
def pkt (udp : Nat) : Packet :=
  { port := 1, src := 0, dst := 1, udp := udp, ipLen := 1500, rtp := 0, seq := 0, ssrc := 0, pt := 96, payload := List.replicate 12 0 }
def stPkt : State := { (stStrm.put (Reg.NET.PORT.CFG.EN 1) true).put (Reg.NET.PORT.STAT.LINK 1) true with
  strm := { rx := [(511, { (rxOf (bRx 0) 2) with state := 2, upB := true, dropWin := 1 })], tx := [(511, { (txOf bTx 2 9) with state := 2, queue := [⟨7, 0, 0, [], 0, 0, 0, [false], [], []⟩] })] } }
def stRcv : State := stPkt.count (Reg.NET.PORT.RXFRM 1)
theorem wit_PacketReceive : stPkt.portOn (pkt 1).port = true ∧ (pkt 1).ipLen ≤ stPkt.rd (Reg.NET.PORT.CFG.MTU 1) ∧
    stPkt.vidOk 1 (pkt 1).vid = true ∧ stRcv.matchRx (pkt 1) = some (511, false) ∧ stRcv.fmtBad (stRcv.rxc 511) false (pkt 1) = false ∧
    stRcv.authCheck (stRcv.rxc 511) (pkt 1) = .accept ∧ (∀ e ∈ stRcv.portions 511 (stRcv.rxc 511) (pkt 1), e.1 ≤ stRcv.openFrame + 64) ∧
    stRcv.matchRx (pkt 2) = none ∧ ctxOpen (stPkt.rxc 511).state = true ∧ (stPkt.rxc 511).upB = true ∧ (stPkt.rxc 511).lastB = none := by decide +kernel
theorem wit_PacketTurned : stRcv.fmtBad (stRcv.rxc 511) false { pkt 1 with payload := [] } = true ∧
    (∃ e ∈ stRcv.portions 511 (stRcv.rxc 511) { pkt 1 with rtp := 65536 }, stRcv.openFrame + 64 < e.1) ∧
    stRcv.authCheck { stRcv.rxc 511 with auth := true } (pkt 1) = .fail ∧
    stRcv.authCheck { stRcv.rxc 511 with auth := true, ctrSeen := [(0, 0)] } { pkt 1 with raw := [16, 96] ++ List.replicate 9 0 ++ [0, 0xF1, 0x60, 0, 4, 1] ++ List.replicate 15 0 ++ List.replicate 12 0, ssrc := 0 } = .dup := by
  refine ⟨?_, ?_, ?_, ?_⟩ <;> decide +kernel
theorem wit_PacketLaunch : (stPkt.txc 511).queue = [⟨7, 0, 0, [], 0, 0, 0, [false], [], []⟩] ∧ (stPkt.txc 511).sent = none ∧
    stPkt.portReady (stPkt.txc 511).porta = true ∧ stPkt.firstLaunch (stPkt.txc 511).porta = some 7 ∧ (stPkt.reach 7).ns < 0 + (stPkt.reach 7).tickNs ∧
    State.reset.portReady (State.reset.txc 511).porta = false ∧ State.reset.portReady ((State.reset.txc 511).porta + 2) = false := by decide
/-- SLIP_WINDOW_END: an average 20,000 ns above the first second's. -/
def stLate : State := { State.reset with time := { State.reset.time with mono := 50000000 * tu } }
def rxSlip : RxCtx := { state := 2, slipen := true, m0Sum := 0, m0Cnt := 1, winSum := 20834, winCnt := 1 }
theorem wit_SlipWindow : ctxOpen rxSlip.state = true ∧ rxSlip.slipen = true ∧ rxSlip.m0Cnt ≠ 0 ∧ rxSlip.winCnt ≠ 0 ∧ rxSlip.winFrom + 50000000 ≤ stLate.run ∧
    (rxSlip.m0Sum : Rat) / rxSlip.m0Cnt + (stLate.ts3 : Rat) / 3 < (rxSlip.winSum : Rat) / rxSlip.winCnt := by
  decide +kernel

/-- The last port enabled with an address and a first-queue frame; a registered group. -/
def stNet : State :=
  { (((State.reset.put (Reg.NET.PORT.CFG.EN 3) true).wr (Reg.NET.PORT.IP.ADDR 3) 0x0A000001).wr (Reg.NET.PORT.CFG.MTU 3) 1500).put (Reg.NET.PORT.STAT.LINK 3) true with
    net := { mcg := [(0xE0000001, 0, 0)], queues := [[], [], [], [⟨0, 64⟩]] } }
theorem wit_Switch : stNet.portOn 3 = true ∧ 1500 ≤ stNet.rd (Reg.NET.PORT.CFG.MTU 3) ∧
    stNet.rd (Reg.NET.PORT.IP.ADDR 3) = 0x0A000001 ∧ (stNet.net.mcg.any fun e => e.1 == 0xE0000001) = true ∧
    atD stNet.net.queues 3 [] = [⟨0, 64⟩] ∧ stNet.on (Reg.NET.PORT.STAT.LINK 3) = true ∧ (∀ e ∈ stNet.net.fdb, e.2.2.2 + stNet.rd Reg.NET.SW.AGE * 1000000000 ≤ stNet.run) ∧
    stNet.pwr.halted = false ∧ stNet.writeBarred .pcie 0xA0004 = false ∧ (regFields 0xA0004).isSome = true ∧ stNet.rd Reg.SYS.PWR.STATE ≠ 4 ∧
    ({ stPkt with time := { now := 7 * tu } } : State).firstLaunch 1 = some 7 ∧ 7 ≤ ({ stPkt with time := { now := 7 * tu } } : State).ns ∧ (∀ e ∈ atD stPkt.net.queues 1 [], e.queue = 2) := by decide

/-- The last port, in RUN as a slave and in STARTING as a master; slips noted. -/
def stSap (st : Nat) (m : Bool) : State :=
  { ((State.reset.wr (Reg.SAP.P.STATUS.STATE 31) st).put (Reg.SAP.P.CFG.ROLE 31) m) with sap := [(31, { last := some 0, slips := some (0, 1, 2) })], time := { State.reset.time with mono := 1000000000 * tu, now := 1000000000 * tu } }
theorem wit_Serial : (stSap 2 false).sapState 31 = 2 ∧ (stSap 2 false).on (Reg.SAP.P.STATUS.LOS 31) = false ∧
    (stSap 2 false).on (Reg.SAP.P.CFG.ROLE 31) = false ∧ (stSap 1 true).sapState 31 = 1 ∧
    (stSap 1 true).on (Reg.SAP.P.CFG.ROLE 31) = true ∧ 62500 % (stSap 1 true).ts3 = 0 ∧ (((stSap 1 true).reach (62500 / 3)).sp 31).from_ ≤ 62500 / 3 ∧
    (((stSap 1 false).reach (2 / 3)).sp 31).last = some 0 ∧ 2 < 0 + 2 * (stSap 1 false).ts3 ∧ 0 + 2 * (stSap 1 false).ts3 ≤ 125000 ∧
    (((stSap 1 true).setSp 31 { from_ := 1 }).sp 31).from_ = 1 ∧ ((stSap 2 false).put (Reg.SAP.P.STATUS.LOS 31) true).on (Reg.SAP.P.STATUS.LOS 31) = true ∧
    1000000 < (1000001 : Int).natAbs ∧ (-500000 : Int).natAbs ≤ 500000 ∧ ((stSap 2 false).sp 31).slips = some (0, 1, 2) ∧
    0 + 1000000000 ≤ (stSap 2 false).run ∧ (stSap 2 false).noClock 31 = true := by decide +kernel
theorem wit_SerialWrites : State.reset.pwr.halted = false ∧ State.reset.writeBarred .pcie 0xD07C0 = false ∧
    State.reset.writeBarred .pcie 0xD07D0 = false ∧ (regFields 0xD07C0).isSome = true ∧ (regFields 0xD07D0).isSome = true ∧
    State.reset.sapState 31 = 0 ∧ State.reset.on (Reg.SAP.P.CFG.EN 31) = false ∧ State.reset.on (Reg.SAP.P.MCTRL.ARM 31) = false ∧
    getBits (1 : Word) 0 1 = 1 ∧ getBits (0 : Word) 0 1 = 0 := by decide +kernel

/-- The last group in each state; its carrier; a status frame of 0 with its CRC; the sense streams' last indices. -/
def stMod (st : Nat) : State := { (State.reset.wr (Reg.MOD.G.STAT.STATE 15) st) with
  time := { State.reset.time with mono := 100000000 * tu, now := 100000000 * tu / 30000 }
  modG := [(15, { fc := 30000, vrail := 100000, inAt := some 0, underAt := some 0, clearAt := some 0 })] }
def stBooted : State := (stMod 1).setMg 15 { (stMod 1).mg 15 with boot := some 4095 }
def frameBits : Word := BitVec.ofNat 32 (0xA0000000 + crc8Of 0xA0000000)
theorem wit_StageGroup : (stMod 1).rd (Reg.MOD.G.STAT.STATE 15) = 1 ∧ (stMod 1).stopped 15 = false ∧ ((stMod 1).mg 15).rel = false ∧ ((stMod 1).mg 15).boot = none ∧ (stBooted.mg 15).boot = some 4095 ∧
    stBooted.rd (Reg.MOD.G.CFG.BOOT 15) ≤ 4095 ∧ stBooted.stopped 15 = false ∧ 0 + 100000000 ≤ (stMod 3).run ∧
    ((stMod 2).mg 15).due ≤ (stMod 2).time.now ∧ (stMod 2).time.now < ((stMod 2).mg 15).due + 100000000 * tu / 30000 ∧
    (((stMod 2).rd (Reg.MOD.G.RAILLIM.OV 15) : Nat) : Rat) < ((stMod 2).mg 15).vrail ∧ (stMod 2).on (Reg.MOD.G.STAT.OV 15) = false ∧
    (stMod 2).on (Reg.MOD.G.STAT.UV 15) = false ∧ ((stMod 2).mg 15).frameAt + 10000000 ≤ (stMod 2).run ∧
    (stMod 2).rd (Reg.MOD.G.STAT.STATE 15) = 2 ∧ ((stMod 2).mg 15).fc ≠ 0 ∧ ((stMod 2).mg 15).next = none ∧
    (stMod 2).on (Reg.MOD.G.STAT.RAILFAIL 15) = false ∧ frameBits.toNat / 2 ^ 28 = 0xA ∧
    crc8Of frameBits.toNat = frameBits.toNat % 256 ∧ frameBits.toNat.testBit 16 = false ∧ frameBits.toNat.testBit 15 = false ∧
    frameBits.toNat.testBit 14 = false ∧ (stMod 2).on (Reg.MOD.G.STAT.STATLOS 15) = false ∧
    (stMod 3).rd (Reg.MOD.G.STAT.STATE 15) = 3 ∧ State.reset.rd (Reg.MOD.G.STAT.STATE 15) = 0 ∧
    State.reset.writeBarred .pcie 0x1002E0 = false ∧ (regFields 0x1002E0).isSome = true ∧
    senseBit 127 1 = some (Reg.MOD.CH.STAT.VSNSF 127) ∧ senseBit 15 2 = some (Reg.MOD.G.STAT.RAILFAIL 15) ∧
    (stMod 3).on (Reg.MOD.CH.STAT.VSNSF 127) = false := by decide +kernel

/-- Channel 127 in a state of Table 12.1; windows of a probe; a calibration that runs on ring 1. -/
def stCh (b : Nat) : State :=
  { ((State.reset.wr (Reg.MOD.CH.STAT.STATE 127) b).put (Reg.MOD.G.CFG.SCEN 15) true) with
    time := { State.reset.time with mono := 60000000000 * tu }, modCh := [(127, { base := b, rearm := some 0 })] }
def winOf (v i : Nat) : PilotWindow := { ch := 127, vAmp := v, iAmp := i, vArg := 0, iArg := 0, quiet := true }
theorem wit_ShortCircuit : (stCh 2).rd (Reg.MOD.CH.STAT.STATE 127) = 2 ∧ (stCh 2).on (Reg.MOD.G.CFG.SCEN (127 / 8)) = true ∧
    ((stCh 3).mc 127).base = 3 ∧ ((stCh 6).mc 127).base = 6 ∧ ((stCh 4).mc 127).base = 4 ∧
    ((stCh 4).wr (Reg.MOD.G.SNS.VSFS 15) 10).vMeets (winOf 9 0) = false ∧ (stCh 4).vMeets (winOf 9999 99999) = true ∧
    (stCh 4).iMeets (winOf 9999 99999) = true ∧ (stCh 4).vMeets (winOf 9999 9999) = true ∧
    ((stCh 3).mc 127).offAt + 1000000000 ≤ (stCh 3).run ∧ ((stCh 6).mc 127).retries.headD 0 + 60000000000 ≤ (stCh 6).run ∧
    ((stCh 2).mc 127).rearm = some 0 := by decide +kernel
theorem wit_ScClear : (atHead (stCh 5) 0x52 (dOf 127 0)).Admits 0x52 roleO (dOf 127 0) ∧
    (((atHead (stCh 5) 0x52 (dOf 127 0)).opened 0x52 (dOf 127 0)).mc 127).base ∈ [3, 5, 6] ∧
    (atHead (stCh 2) 0x53 { dOf 127 60 with a2 := 1 }).Admits 0x53 roleE { dOf 127 60 with a2 := 1 } ∧
    ((atHead (stCh 2) 0x53 { dOf 127 60 with a2 := 1 }).opened 0x53 { dOf 127 60 with a2 := 1 }).rd (Reg.MOD.CH.STAT.STATE 127) = 2 :=
  ⟨⟨by decide, by decide, by decide, by decide, by decide⟩, by decide, ⟨by decide, by decide, by decide, by decide, by decide⟩, by decide⟩
def stCal : State := { State.reset with
  time := { State.reset.time with mono := 2000000000 * tu }, host := { rings := (List.replicate 16 ({} : RingS)).set 1 { run := some { opcode := 0x53, d := dOf 127 0 } } } }
theorem wit_SenseCalibration : stCal.ringOf 0x53 (fun d => d.a0 == 127) = some 1 ∧
    stCal.ringOf 0x53 (fun d => d.a0 == 127 && d.a2 % 2 == 0) = some 1 ∧ (stCal.ring 1).run = some { opcode := 0x53, d := dOf 127 0 } ∧
    (dOf 127 0).a2 % 2 = 0 ∧ (stCal.mc 127).loudAt + 2000000000 ≤ stCal.run ∧
    0 + ((32 * stCal.ts3 + 2) / 3 + 20000000) ≤ stCal.run ∧ 0 + (dOf 127 0).a1 * 1000000000 ≤ stCal.run := by decide +kernel

/-- ALLSTOP of group 15 at the head of CMD0. -/
def dAll : Desc := { dOf 0x8000 0 with ring := 0 }
def stAll : State := { (State.reset.put (Reg.HOST.RING.CFG.EN 0) true) with
  host := { rings := (List.replicate 16 ({} : RingS)).set 0 { fetched := [⟨0x50, dAll⟩] } } }
theorem wit_Allstop : stAll.ready 0x50 dAll = true ∧ dAll.ring = 0 ∧ groupsIn dAll.a0 ≠ [] ∧
    State.reset.rd Reg.MOD.STOP.FILT ≤ 65535 := by decide
theorem wit_AllstopRelease : (atHead State.reset 0x51 (dOf 0 0)).Admits 0x51 roleO (dOf 0 0) ∧
    ((atHead State.reset 0x51 (dOf 0 0)).opened 0x51 (dOf 0 0)).on Reg.MOD.STOP.PIN = false ∧
    ((State.reset.put Reg.MOD.STOP.LATCH false).put Reg.MOD.STOP.LATCHED true).on Reg.MOD.STOP.LATCH = false ∧
    ((State.reset.put Reg.MOD.STOP.LATCH false).put Reg.MOD.STOP.LATCHED true).on Reg.MOD.STOP.LATCHED = true ∧
    ({ State.reset with time := { State.reset.time with mono := 10000000 * tu } } : State).muteRise + 10000000 ≤ ({ State.reset with time := { State.reset.time with mono := 10000000 * tu } } : State).run := ⟨⟨by decide, by decide, by decide, by decide, by decide⟩, by decide, by decide, by decide, by decide⟩

/-- A record of CLASS 0; channel 127 with the pilot; group 15 in each state; a capture that runs on ring 1. -/
def dRec : Desc := { dOf 127 0 with buf := List.replicate 64 0 }
def tilP : TilCh := { record := [1, 4] ++ List.replicate 62 0 }
def stTil (st : Nat) : State := { (State.reset.wr (Reg.TILCA.G.GSTAT.STATE 15) st) with
  tilCh := [(127, tilP)], time := { State.reset.time with mono := 1000000000 * tu, now := 1000000000 * tu } }
theorem wit_Sentinel : (atHead State.reset 0x54 dRec).Admits 0x54 roleE dRec ∧ dRec.buf.length = 64 ∧ recordBad dRec.buf false = none ∧
    ((atHead State.reset 0x54 dRec).opened 0x54 dRec).on Reg.TILCA.CTRL.LOCK = false ∧
    ((({ State.reset with tilCh := [(127, { next := [([], 0)] })] } : State).tc 127).next = [([], 0)]) ∧
    (atHead (stTil 0) 0x55 { dRsp 32 with a0 := 127 }).Admits 0x55 roleM { dRsp 32 with a0 := 127 } ∧
    mapGet (stTil 0).tilCh 127 = some tilP ∧ tilP.pub.length ≤ 32 ∧ (stTil 0).pilotSet 127 = true ∧ ((stTil 0).tc 127).winSec < (stTil 0).ns / 1000000000 ∧
    ((stTil 1).tg 15).restartAt + 50000000 ≤ (stTil 1).run ∧
    (atHead (stTil 0) 0x56 (dOf 127 0)).Admits 0x56 roleE (dOf 127 0) ∧
    (atHead (stTil 2) 0x57 (dOf 15 0)).Admits 0x57 roleE (dOf 15 0) ∧ (stTil 2).rd (Reg.TILCA.G.GSTAT.STATE 15) = 2 ∧
    State.reset.tilChans 15 = [] ∧ (stTil 0).rd (Reg.TILCA.G.GSTAT.STATE 15) = 0 ∧ (stTil 1).rd (Reg.TILCA.G.GSTAT.STATE 15) = 1 ∧
    ((stTil 1).tg 15).mirror = none ∧ ((stTil 1).tg 15).asked = false ∧ ((stTil 1).tg 15).faults = [] ∧
    ((stTil 0).wr (Reg.MOD.G.SNS.VSFS 15) 10).vMeets (winOf 9 0) = false ∧ ((stTil 0).tc 127).alarms = [false, false, false, false] := by
  refine ⟨⟨by decide +kernel, by decide +kernel, by decide +kernel, by decide +kernel, by decide +kernel⟩, ?_, ?_, ?_, ?_, ⟨by decide +kernel, by decide +kernel, by decide +kernel, by decide +kernel, by decide +kernel⟩, ?_, ?_, ?_, ?_, ?_, ⟨by decide +kernel, by decide +kernel, by decide +kernel, by decide +kernel, by decide +kernel⟩, ⟨by decide +kernel, by decide +kernel, by decide +kernel, by decide +kernel, by decide +kernel⟩, ?_⟩ <;> decide +kernel
def stCapt : State := { State.reset with
  time := { State.reset.time with mono := 30000000000 * tu }
  host := { rings := (List.replicate 16 ({} : RingS)).set 1 { run := some { opcode := 0x56, d := dOf 127 0 } } } }
theorem wit_ZCaptureTimeout : stCapt.ringOf 0x56 (fun d => d.a0 == 127) = some 1 ∧ stCapt.ranFor 1 30000000000 = true := by
  decide +kernel

/-- A loaded plan, a load in progress (stPlan's image), a stop at T(2) that is due, and the power states. -/
def stPw (n : Nat) (run : Bool) : State := ((State.reset.wr Reg.SYS.PWR.STATE n).put Reg.TICK.CFG.PLAN true).put Reg.TICK.STATUS.RUN run
def stIdle : State := State.reset.wr Reg.SYS.PWR.STATE 1
/-- PLAN_LO⟨by decide, by decide, by decide, by decide, by decide⟩ of an empty image, where the steward knows its format number. -/
theorem wit_PlanLoad (h : Config.planFormat ({} : PlanImage).format = true) :
    (atHead stIdle 0x18 (dOf 0 0)).Admits 0x18 roleE (dOf 0 0) ∧ stIdle.pw = 1 ∧ stIdle.rd Reg.DRAM.STAT.STATE ≠ 3 ∧
    ((atHead stIdle 0x18 (dOf 0 0)).opened 0x18 (dOf 0 0)).customOk {} = true ∧
    ((atHead stIdle 0x18 (dOf 0 0)).opened 0x18 (dOf 0 0)).imageOk {} = true := by
  refine ⟨⟨by decide +kernel, by decide +kernel, by decide +kernel, by decide +kernel, by decide +kernel⟩, by decide, by decide, by decide, ?_⟩
  simp only [State.imageOk, h, Bool.and_eq_true]
  refine ⟨⟨⟨⟨⟨⟨⟨⟨⟨⟨⟨?_, ?_⟩, ?_⟩, ?_⟩, ?_⟩, ?_⟩, ?_⟩, ?_⟩, ?_⟩, ?_⟩, ?_⟩, ?_⟩ <;> decide +kernel
/-- An image whose one cluster memory holds one bundle, with its CRC and with another. -/
def imgOne (c : Word) : PlanImage := { code := [{ cluster := 0, bundles := [0], kernels := [], crc := c }] }
def stLoading (c : Word) : State := { State.reset with plan := { loading := some (imgOne c) } }
theorem wit_PlanComplete : (stLoading 0).plan.loading = some (imgOne 0) ∧ State.reset.on Reg.TICK.STATUS.RUN = false ∧
    State.reset.eng.stopAt = none ∧ ((stLoading 0).loadCode {} (fun _ => true) []).codeGood {} (fun _ => true) = true ∧
    ((stLoading 0).loadCode (imgOne 0) (fun _ => true) []).codeGood (imgOne 0) (fun _ => true) = false := by decide +kernel
theorem wit_PlanUnload : (atHead (stPw 3 false) 0x62 (dOf 0 0)).Admits 0x62 roleE (dOf 0 0) ∧
    ((atHead (stPw 3 false) 0x62 (dOf 0 0)).opened 0x62 (dOf 0 0)).on Reg.TICK.STATUS.RUN = false ∧
    ((atHead (stPw 3 false) 0x62 (dOf 0 0)).opened 0x62 (dOf 0 0)).on Reg.TICK.CFG.PLAN = true ∧
    (atHead (stPw 3 true) 0x62 (dOf 0 0)).Admits 0x62 roleE (dOf 0 0) ∧
    ((atHead (stPw 3 true) 0x62 (dOf 0 0)).opened 0x62 (dOf 0 0)).on Reg.TICK.STATUS.RUN = true ∧
    ({ State.reset with eng := { stopAt := some 2 }, time := { now := 250000 * tu } } : State).tAt 2 ≤
      ({ State.reset with eng := { stopAt := some 2 }, time := { now := 250000 * tu } } : State).ns ∧
    (atHead stIdle 0x62 (dOf 1 0)).Admits 0x62 roleE (dOf 1 0) ∧
    ((atHead stIdle 0x62 (dOf 1 0)).opened 0x62 (dOf 1 0)).pw = 1 ∧
    ((atHead stIdle 0x62 (dOf 1 0)).opened 0x62 (dOf 1 0)).quiesce = true ∧
    ((atHead stIdle 0x62 (dOf 1 0)).opened 0x62 (dOf 1 0)).anyStream = false ∧
    (atHead (stPw 4 false) 0x62 (dOf 2 0)).Admits 0x62 roleE (dOf 2 0) ∧
    ((atHead (stPw 4 false) 0x62 (dOf 2 0)).opened 0x62 (dOf 2 0)).pw = 4 :=
  ⟨⟨by decide, by decide, by decide, by decide, by decide⟩, by decide, by decide, ⟨by decide, by decide, by decide, by decide, by decide⟩, by decide, by decide, ⟨by decide, by decide, by decide, by decide, by decide⟩, by decide, by decide, by decide, ⟨by decide, by decide, by decide, by decide, by decide⟩, by decide⟩

/-- METER of tap 63 with CLEAR and without; TAP_CAPTURE of one sample; OBJ_RE⟨by decide, by decide, by decide, by decide, by decide⟩ of 8 bytes. -/
def dMeter (f : Nat) : Desc := { dRsp 64 with a0 := 2, a1 := 63, flags := f }
theorem wit_EngineQueries : (atHead State.reset 0x70 (dMeter 1)).Admits 0x70 roleM (dMeter 1) ∧
    (atHead State.reset 0x70 (dMeter 0)).Admits 0x70 roleM (dMeter 0) ∧ ({} : MeterR).bytes.length ≤ 64 ∧
    (atHead State.reset 0x71 { dRsp 8 with a0 := 63, a1 := 1 }).Admits 0x71 roleM { dRsp 8 with a0 := 63, a1 := 1 } ∧
    (atHead (State.reset.wr Reg.GRAPH.SIZE.INS 1) 0x72 { dRsp 8 with a0 := 1 }).Admits 0x72 roleM { dRsp 8 with a0 := 1 } :=
  ⟨⟨by decide, by decide, by decide, by decide, by decide⟩, ⟨by decide, by decide, by decide, by decide, by decide⟩, by decide, ⟨by decide, by decide, by decide, by decide, by decide⟩, ⟨by decide, by decide, by decide, by decide, by decide⟩⟩

/-- A ready medium with bandwidth; REC_ARM of the highest channel at 96 kHz; an armed take at T(0). -/
def stMed : State := (((State.reset.wr Reg.STORE.STAT.STATE 1).wr Reg.STORE.PERF.WR 100).put Reg.STORE.STAT.JRN false).wr Reg.STORE.CAP.MIB 4
def dArm : Desc := { dOf 1 0 with buf := [0xFF, 0x07] }
def stRec (r : RecS) : State := { stMed with store := { rcd := some r, takes := [{ num := 1, width := 0, chans := [2047], blocks := [{ first := 0, frames := [[[5]]] }] }] } }
theorem wit_Recording : stMed.on Reg.DRAM.STAT.RETRAIN = false ∧ stMed.on Reg.STORE.STAT.JRN = false ∧ (atHead stMed 0x80 dArm).Admits 0x80 roleO dArm ∧
    firstBadIdx (u16s dArm.buf) (fun c => decide (c < stMed.cap 2048)) = none ∧ (u16s dArm.buf).length ≤ stMed.cap 2048 ∧ stMed.medium = 1 ∧
    stMed.inStandby = false ∧ stMed.store.rcd = none ∧ stMed.byteRate 1 1 ≤ stMed.rd Reg.STORE.PERF.WR * 600000 ∧
    (atHead (stRec { take := 1 }) 0x81 dNs).Admits 0x81 roleO dNs ∧ (stRec { take := 1 }).on Reg.STORE.STAT.JRN = false ∧
    (atHead (stRec { take := 1, start := some 0 }) 0x82 dNs).Admits 0x82 roleO dNs ∧ 0 ≤ (stRec { take := 1, start := some 0, stop := some 0 }).tick ∧
    (stRec { take := 1 }).store.takes.length = 1 ∧
    ((({ State.reset with store := (stRec { take := 1 }).store } : State).take 1).any fun t => ({ State.reset with store := (stRec { take := 1 }).store } : State).frameFits t) = false := by
  refine ⟨?_, ?_, ⟨by decide +kernel, by decide +kernel, by decide +kernel, by decide +kernel, by decide +kernel⟩, ?_, ?_, ?_, ?_, ?_, ?_, ⟨by decide +kernel, by decide +kernel, by decide +kernel, by decide +kernel, by decide +kernel⟩, ?_, ⟨by decide +kernel, by decide +kernel, by decide +kernel, by decide +kernel, by decide +kernel⟩, ?_⟩ <;> decide +kernel

/-- Take 1 of one channel, free to open and to delete; session 7 open and started at T(0). -/
def stTake : State := { stMed.wr Reg.STORE.PERF.RD 100 with store := { takes := [{ num := 1, width := 0, chans := [2047] }] } }
def stPlay : State := { stTake with store := { takes := [{ num := 1, width := 0, chans := [2047] }], plays := [(7, { take := 1, map := [0], start := some 0 })] } }
def dPlay : Desc := { dOf 1 7 with buf := [0, 0] }
theorem wit_Playback : (atHead stTake 0x83 dPlay).Admits 0x83 roleO dPlay ∧ stTake.take 1 = some { num := 1, width := 0, chans := [2047] } ∧
    firstBadIdx (u16s dPlay.buf) (fun c => c == 65535 || decide (c < stTake.cap 2048)) = none ∧ stTake.medium = 1 ∧
    stTake.playKeyOk { num := 1, width := 0, chans := [2047] } = true ∧ stTake.byteRate 1 0 ≤ stTake.rd Reg.STORE.PERF.RD * 600000 ∧
    (atHead stPlay 0x84 dPlay).Admits 0x84 roleO dPlay ∧ (atHead stPlay 0x85 dPlay).Admits 0x85 roleO dPlay ∧
    (mapGet stPlay.store.plays 7).isSome = true ∧ 0 ≤ stPlay.tick ∧ (atHead stMed 0x86 (dOf 0 0)).Admits 0x86 roleO (dOf 0 0) ∧
    (atHead stTake 0x87 (dOf 1 0)).Admits 0x87 roleO (dOf 1 0) ∧ stTake.on Reg.STORE.STAT.JRN = false := by
  refine ⟨⟨by decide +kernel, by decide +kernel, by decide +kernel, by decide +kernel, by decide +kernel⟩, ?_, ?_, ?_, ?_, ?_, ⟨by decide +kernel, by decide +kernel, by decide +kernel, by decide +kernel, by decide +kernel⟩, ⟨by decide +kernel, by decide +kernel, by decide +kernel, by decide +kernel, by decide +kernel⟩, ?_, ?_, ⟨by decide +kernel, by decide +kernel, by decide +kernel, by decide +kernel, by decide +kernel⟩, ⟨by decide +kernel, by decide +kernel, by decide +kernel, by decide +kernel, by decide +kernel⟩, ?_⟩ <;> decide +kernel

/-- A ready and an unformatted medium; a file "A…A"; a first piece of one byte. -/
def bName : List Byte := List.replicate 32 65
def dPiece (last : Nat) : Desc := { dOf 0 0 with buf := bName ++ [7], a2 := last }
def dName : Desc := { dOf 0 0 with buf := bName, rlen := 1 }
def stFile : State := { stMed with store := { files := [{ name := bName, data := [1, 2] }] } }
theorem wit_Files : (atHead stMed 0x88 (dOf 0 0)).Admits 0x88 roleE (dOf 0 0) ∧ stMed.medium = 1 ∧ (stMed.wr Reg.STORE.STAT.STATE 3).medium = 3 ∧
    (atHead stMed 0x89 (dPiece 0)).Admits 0x89 roleE (dPiece 0) ∧ (atHead stMed 0x98 (dPiece 1)).Admits 0x98 roleX (dPiece 1) ∧
    32 ≤ (dPiece 0).buf.length ∧ stMed.fileBar (fileName (dPiece 0).buf) ((dPiece 0).buf.drop 32).length = none ∧
    (atHead stFile 0x8A dName).Admits 0x8A roleE dName ∧ dName.buf.length = 32 ∧ stFile.file dName.buf = some { name := bName, data := [1, 2] } ∧
    (atHead stFile 0x8B dName).Admits 0x8B roleE dName ∧ stFile.medium = 1 ∧ (atHead stMed 0x8C (dOf 0 0)).Admits 0x8C roleE (dOf 0 0) ∧
    stMed.store.files = [] ∧ stMed.on Reg.STORE.STAT.JRN = false ∧ stFile.on Reg.STORE.STAT.JRN = false := by
  refine ⟨⟨by decide +kernel, by decide +kernel, by decide +kernel, by decide +kernel, by decide +kernel⟩, ?_, ?_, ⟨by decide +kernel, by decide +kernel, by decide +kernel, by decide +kernel, by decide +kernel⟩, ⟨by decide +kernel, by decide +kernel, by decide +kernel, by decide +kernel, by decide +kernel⟩, ?_, ?_, ⟨by decide +kernel, by decide +kernel, by decide +kernel, by decide +kernel, by decide +kernel⟩, ?_, ?_, ⟨by decide +kernel, by decide +kernel, by decide +kernel, by decide +kernel, by decide +kernel⟩, ?_, ⟨by decide +kernel, by decide +kernel, by decide +kernel, by decide +kernel, by decide +kernel⟩, ?_⟩ <;> decide +kernel

/-- An empty log read and exported; an install in progress; a file whose objects verify, where they do. -/
theorem wit_FirmwareAndLog : (atHead stMed 0x90 (dRsp 32)).Admits 0x90 roleM (dRsp 32) ∧ (atHead stMed 0x91 (dRsp 16777215)).Admits 0x91 roleM (dRsp 16777215) ∧
    (stMed.wr Reg.SEC.STATUS.CRYPTO 1).rd Reg.SEC.STATUS.CRYPTO ≠ 2 ∧ (atHead stMed 0x9A (dRsp 128)).Admits 0x9A roleX (dRsp 128) ∧
    ({ State.reset with store := { install := some (1, []) } } : State).store.install = some (1, []) :=
  ⟨⟨by decide +kernel, by decide +kernel, by decide +kernel, by decide +kernel, by decide +kernel⟩, ⟨by decide +kernel, by decide +kernel, by decide +kernel, by decide +kernel, by decide +kernel⟩, by decide, ⟨by decide +kernel, by decide +kernel, by decide +kernel, by decide +kernel, by decide +kernel⟩, rfl⟩
theorem wit_FwInstall (h : stFile.imageCheck [1, 2] = none) : (atHead stFile 0x99 dName).Admits 0x99 roleX dName ∧
    stFile.file dName.buf = some { name := bName, data := [1, 2] } ∧ stFile.store.install = none ∧ stFile.imageCheck [1, 2] = none :=
  ⟨⟨by decide +kernel, by decide +kernel, by decide +kernel, by decide +kernel, by decide +kernel⟩, by decide +kernel, by decide, h⟩

/-- A marked block of three; a spread above WDIFF; a block that was never scrubbed; a mount that is due. -/
def stNand (l : List (Nat × NandBlk)) : State :=
  { stMed with store := { total := 4, blocks := l }, time := { State.reset.time with mono := 2 ^ 60 * tu } }
theorem wit_Medium : (stNand [(3, { used := true, refresh := true, seen := 2 ^ 60 })]).refreshDue { used := true, refresh := true, seen := 2 ^ 60 } = true ∧
    (stNand [(3, { used := true, refresh := true, seen := 2 ^ 60 })]).nandServes .refresh = true ∧
    (stNand [(0, { used := true, seen := 2 ^ 60 }), (1, { used := true, erases := 65535, seen := 2 ^ 60 })]).nandServes .wear = true ∧
    (stNand [(3, { used := true })]).scrubDue { used := true } = true ∧ (stNand [(3, { used := true })]).nandServes .scrub = true ∧
    (3 ∉ State.reset.store.bad) ∧ (State.reset.blk 3).used = false ∧ State.reset.rd Reg.STORE.NCFG.WDIFF < 65535 - 0 ∧
    (stNand [(0, { used := true })]).freeBlk false = some 1 ∧
    (State.reset.put Reg.STORE.STAT.JRN true).on Reg.STORE.STAT.JRN = true ∧ State.reset.store.cut = none := by decide +kernel

/-- REG_WRITE of the last engine register; the last entry of the route window in its partition, an entry of none, the
slot OPEN, IDLE and barred, and the host lock. -/
def stWindow : State := ((State.reset.wr (Reg.GRAPH.RTPART.BASE 0) 0).wr (Reg.GRAPH.RTPART.COUNT 0) 8192).wr Reg.TXN.STATUS.OSTATE osOpen
theorem wit_RegisterPaths : (atHead State.reset 0x11 (dOf 0x20004 0xFF)).Admits 0x11 roleE (dOf 0x20004 0xFF) ∧
    ((atHead State.reset 0x11 (dOf 0x20004 0xFF)).opened 0x11 (dOf 0x20004 0xFF)).pwr.halted = false ∧
    ((atHead State.reset 0x11 (dOf 0x20004 0xFF)).opened 0x11 (dOf 0x20004 0xFF)).writeBarred .ring 0x20004 = false ∧
    (regFields 0x20004).isSome = true := ⟨⟨by decide +kernel, by decide +kernel, by decide +kernel, by decide +kernel, by decide +kernel⟩, by decide +kernel, by decide +kernel, by decide +kernel⟩
theorem wit_RouteWindow : State.reset.host.lockHard = false ∧ stWindow.os = osOpen ∧ (stWindow.partOf 8191).isSome = true ∧
    State.reset.partOf 8191 = none ∧ State.reset.os ≠ osOpen ∧ State.reset.os ≠ osPrepared ∧
    (State.reset.put Reg.TICK.CFG.PLAN true).noCollect = false ∧ State.reset.noCollect = true := by decide +kernel

/-- Descriptors of the key commands and a store that holds two keys. -/
def dKey (a0 a1 : Nat) (b : List Byte) : Desc := { dOf a0 a1 with buf := b }
def stKey : State := ({ State.reset with sec := { keys := [{ cls := 4, slot := 63, pos := 0, id := 0, key := [] }] } } : State).wr Reg.SEC.RUNSVN.STEWARD 1
theorem wit_KeyClear : (atHead stKey 0xA0 (dKey 2 7 (List.replicate 97 0))).Admits 0xA0 roleX (dKey 2 7 (List.replicate 97 0)) ∧
    (atHead stKey 0xA0 (dKey 1 0 (List.replicate 97 0))).Admits 0xA0 roleX (dKey 1 0 (List.replicate 97 0)) ∧ stKey.keyAt 1 0 0 = none ∧
    keySlotOk 2 7 = true ∧ keySlotOk 1 0 = true ∧ stKey.cryptoDown = false ∧ stKey.tamperBar = false ∧ (List.replicate 97 (0 : Byte)).length = 97 :=
  ⟨⟨by decide +kernel, by decide +kernel, by decide +kernel, by decide +kernel, by decide +kernel⟩, ⟨by decide +kernel, by decide +kernel, by decide +kernel, by decide +kernel, by decide +kernel⟩, by decide +kernel, by decide, by decide, by decide +kernel, by decide +kernel, by decide⟩
/-- A wrapped key under session 1, where the MAC and the wrap hold. -/
def dWrap : Desc := { dKey 4 63 [] with session := 1, seq := 1 }
def stWrap : State := { atHead stKey 0xA0 dWrap with host := { (atHead stKey 0xA0 dWrap).host with
  sessions := (List.replicate 16 none).set 0 (some { roles := 15, gen := 0, mask := 2, notAfter := 0, key := [], seqs := List.replicate 16 0 }) } }
theorem wit_KeyWrapped (key : List Byte) (h : Config.gcmOpen [] 1 1 [] = some key) (hl : key.length = 32)
    (hm : dWrap.mac = mac64 [] (le 1 dWrap.ring ++ descMacBytes dWrap 0xA0 ++ dWrap.buf)) :
    stWrap.Admits 0xA0 roleX dWrap ∧ ∃ x, ((stWrap.opened 0xA0 dWrap).ring 1).run = some x ∧
      Config.gcmOpen x.key dWrap.ring dWrap.seq dWrap.buf = some key ∧ keySlotOk 4 63 = true ∧ key.length = 32 := by
  refine ⟨⟨by decide +kernel, by decide, Or.inr (by decide +kernel), ?_, by decide +kernel⟩, ⟨0xA0, dWrap, [], false, 0⟩, by decide +kernel, h, by decide, hl⟩
  have e : atD (stWrap.start 0xA0 dWrap).host.sessions 0 none =
      some { roles := 15, gen := 0, mask := 2, notAfter := 0, key := [], seqs := List.replicate 16 0 } := by decide +kernel
  show (stWrap.start 0xA0 dWrap).sessionOk 0xA0 roleX dWrap = true
  unfold State.sessionOk
  rw [show dWrap.session - 1 = 0 from rfl, e]
  simp only [← hm, beq_self_eq_true, Bool.and_true]
  decide +kernel
theorem wit_KeyRows : (atHead stKey 0xA1 (dOf 4 63)).Admits 0xA1 roleX (dOf 4 63) ∧ keySlotOk 4 63 = true ∧
    stKey.keyAt 4 63 0 = some { cls := 4, slot := 63, pos := 0, id := 0, key := [] } ∧ stKey.keyBusy { cls := 4, slot := 63, pos := 0, id := 0, key := [] } = false ∧
    (atHead stKey 0xA2 (dOf 0 15)).Admits 0xA2 roleX (dOf 0 15) ∧
    (atHead stKey 0xA3 (dOf 0 63)).Admits 0xA3 roleX (dOf 0 63) ∧ stKey.keyById 4 63 0 = some { cls := 4, slot := 63, pos := 0, id := 0, key := [] } ∧
    (atHead State.reset 0xA4 (dOf 0 0)).Admits 0xA4 roleX (dOf 0 0) ∧ State.reset.sec.keys = [] ∧
    (atHead stKey 0xA5 (dOf 0 1)).Admits 0xA5 roleX (dOf 0 1) ∧ stKey.svnOf 0 = (Reg.SEC.SVN0.STEWARD, 1) ∧ stKey.rd Reg.SEC.SVN0.STEWARD < 1 ∧
    (atHead stKey 0xA6 (dOf 1 0)).Admits 0xA6 roleX (dOf 1 0) ∧ stKey.rd Reg.SEC.TOKGEN.GEN < 1 := by
  refine ⟨⟨by decide +kernel, by decide +kernel, by decide +kernel, by decide +kernel, by decide +kernel⟩, ?_, ?_, ?_, ⟨by decide +kernel, by decide +kernel, by decide +kernel, by decide +kernel, by decide +kernel⟩, ⟨by decide +kernel, by decide +kernel, by decide +kernel, by decide +kernel, by decide +kernel⟩, ?_, ⟨by decide +kernel, by decide +kernel, by decide +kernel, by decide +kernel, by decide +kernel⟩, ?_, ⟨by decide +kernel, by decide +kernel, by decide +kernel, by decide +kernel, by decide +kernel⟩, ?_, ?_, ⟨by decide +kernel, by decide +kernel, by decide +kernel, by decide +kernel, by decide +kernel⟩, ?_⟩ <;> decide +kernel

/-- A file of one record without items, signed by nobody; it is accepted where UNSIGNED is set. -/
def sceneBytes (r : List Byte) : List Byte :=
  le 4 0x464E4353 ++ le 4 1 ++ le 1 1 ++ le 1 0 ++ le 2 1 ++ le 8 0 ++ le 8 0 ++ le 4 r.length ++ le 32 0 ++ r
def recBytes0 : List Byte := recBytes recOf ++ le 4 (crc32c (recBytes recOf)).toNat
def stImport : State := { (slotOf osOpen []) with
  regs := ((({ slotOf osOpen [] with store := {} } : State).put Reg.SEC.CFG.UNSIGNED true).put Reg.STORE.STAT.JRN false).regs
  store := { files := [{ name := bName, data := sceneBytes recBytes0 }] } }
def dImport : Desc := { dOf 7 0 with buf := bName }
theorem wit_SceneImport : (atHead stImport 0x8D dImport).Admits 0x8D roleE dImport ∧ stImport.on Reg.STORE.STAT.JRN = false ∧ dImport.buf.length = 32 ∧
    stImport.cryptoDown = false ∧ sceneHeadOk (sceneBytes recBytes0) = true ∧ stImport.sceneSigOk (sceneBytes recBytes0) = true ∧
    stImport.names dImport = 1 ∧ (splitRecs 256 (((sceneBytes recBytes0).drop 64).take (rdLe (sceneBytes recBytes0) 28 4)))[0]? = some recBytes0 ∧
    rdLe recBytes0 4 4 = stImport.planCrc ∧ rdLe recBytes0 64 4 = (crc32c (recBytes0.take 64)).toNat ∧ recItems recBytes0 = some [] ∧
    stImport.on Reg.TXN.STATUS.FULL = false ∧ itemCount ([] : Tbl Nat) ≤ itemLimit := by
  refine ⟨⟨by decide +kernel, by decide +kernel, by decide +kernel, by decide +kernel, by decide +kernel⟩, ?_, ?_, ?_, ?_, ?_, ?_, ?_, ?_, ?_, ?_, ?_, ?_⟩ <;> decide +kernel
/-- A stored scene, and room for its file: its length does not depend on the signature's bytes. -/
def stExport : State := { stMed with txn := { scenes := [(255, recOf)] } }
def dExport : Desc := { dOf 0 255 with buf := bName }
theorem wit_SceneExport : (atHead stExport 0x8E dExport).Admits 0x8E roleE dExport ∧ stExport.on Reg.STORE.STAT.JRN = false ∧
    stExport.cryptoDown = false ∧ mapGet stExport.txn.scenes 255 = some recOf ∧ stExport.fileBar bName (sceneFile recOf).length = none := by
  refine ⟨⟨by decide +kernel, by decide +kernel, by decide +kernel, by decide +kernel, by decide +kernel⟩, ?_, ?_, ?_, ?_⟩
  · decide +kernel
  · decide +kernel
  · decide +kernel
  · have h : (sceneFile recOf).length = 228 := by simp [sceneFile, recBytes, recOf, padTo, le]; omega
    rw [h]; decide +kernel
def stTamp (act : Nat) : State := (State.reset.put (tampFld 3 0 1) true).wr (tampFld 3 2 1) act
theorem wit_Tamper : (stTamp 1).on (tampFld 3 0 1) = true ∧ (stTamp 1).on Reg.BKUP.STATUS.ONVBAT = false ∧ (stTamp 1).rd (tampFld 3 2 1) = 1 ∧
    (stTamp 0).rd (tampFld 3 2 1) = 0 ∧ ((stTamp 0).put Reg.BKUP.STATUS.ONVBAT true).on Reg.BKUP.STATUS.ONVBAT = true ∧ ((stTamp 0).put Reg.BKUP.STATUS.ONVBAT true).on (tampFld 3 0 1) = true ∧ (atHead State.reset 0xA8 (dOf 0 0)).Admits 0xA8 roleX (dOf 0 0) ∧
    (∀ i, i < 4 → State.reset.on (tampFld i 0 1) = true → (if (15 : Nat).testBit i then 1 else 0) ≠ State.reset.rd (tampFld i 1 1)) := by
  refine ⟨?_, ?_, ?_, ?_, ?_, ?_, ⟨by decide +kernel, by decide +kernel, by decide +kernel, by decide +kernel, by decide +kernel⟩, ?_⟩ <;> decide +kernel
theorem wit_DebugCommands : (atHead State.reset 0xA7 (dRsp 1024)).Admits 0xA7 roleX (dRsp 1024) ∧ (Config.deviceCert.take 1024).length ≤ 1024 ∧
    (atHead State.reset 0xA9 (dOf 0 0)).Admits 0xA9 roleX (dOf 0 0) ∧ (atHead State.reset 0xAA (dRsp 48)).Admits 0xAA roleX (dRsp 48) ∧
    State.reset.cryptoDown = false :=
  ⟨⟨by decide +kernel, by decide +kernel, by decide +kernel, by decide +kernel, by decide +kernel⟩, List.length_take_le _ _, ⟨by decide +kernel, by decide +kernel, by decide +kernel, by decide +kernel, by decide +kernel⟩, ⟨by decide +kernel, by decide +kernel, by decide +kernel, by decide +kernel, by decide +kernel⟩, by decide +kernel⟩
/-- An unlock, where its signature holds. -/
def dUnlock : Desc := { dOf 0 0 with buf := List.replicate 96 0 }
def stUnlock : State := atHead { State.reset with sec := { challenge := some [] } } 0xAB dUnlock
theorem wit_DebugUnlock (h : Config.ecdsaVerify Config.debugKey (Config.sha384 []) dUnlock.buf = true) :
    stUnlock.Admits 0xAB roleX dUnlock ∧ stUnlock.on Reg.TICK.CFG.PLAN = false ∧ stUnlock.cryptoDown = false ∧ stUnlock.sec.challenge = some [] ∧
    dUnlock.buf.length = 96 ∧ Config.ecdsaVerify Config.debugKey (Config.sha384 []) dUnlock.buf = true := by
  refine ⟨⟨by decide +kernel, by decide +kernel, by decide +kernel, by decide +kernel, by decide +kernel⟩, ?_, ?_, ?_, ?_, h⟩ <;> decide +kernel

/-- A write of one byte to the last byte of SRAM by the last request master that reaches it, a hole, and a granted transaction. -/
def rqOf (a : Nat) (w : Bool) : BusReq := { master := 12, id := 0, write := w, addr := a, data := [7], strobes := [true], len := 1, qos := 0 }
theorem wit_BusRequest : State.reset.unswap 12 0x107FFFFF = 0x107FFFFF ∧ State.reset.on (Reg.BUS.M.STAT.CLOSING 12) = false ∧ State.reset.outstanding 12 < 32 ∧
    State.reset.busTarget 12 0x107FFFFF 1 = some 4 ∧ State.reset.unswap 12 0x10800000 = 0x10800000 ∧ State.reset.busTarget 12 0x10800000 1 = none ∧
    (0x107FFFFF + 1 - 1) / 32 + 1 - 0x107FFFFF / 32 ≤ 16 := by decide +kernel
def txOf (w : Bool) : BusTxn := { master := 12, id := 0, write := w, addr := 0x107FFFFF, target := 4, len := 1, qos := 0, gen := 0, data := [7], strobes := [true], since := 0 }
def txE : BusTxn := { txOf false with addr := 0x800000040, target := 0 }
theorem wit_CorrectedRead : ({ State.reset with dram := { ecc := true }, bus := { granted := [txE] } } : State).answerable 0 = some txE ∧ isDram 0 = true ∧ failedBlock 0x800000040 1 [] = none ∧ failedBlock 0x800000040 1 [(0, 1), (0, 2)] = some 0x800000040 ∧
    ({ State.reset with dram := { ecc := true }, bus := { granted := [txE] } } : State).rd Reg.DRAM.STAT.STATE ≠ 3 := by decide +kernel
def stBus (w : Bool) : State := { State.reset with bus := { queue := [txOf w], granted := [txOf w] }, time := { mono := 20000 * tu } }
theorem wit_Fabric : (stBus true).portGrants 4 = true ∧ ({ State.reset with bus := { queue := [txOf true] } } : State).arbitrate 4 true = some (txOf true) ∧
    (stBus true).answerable 4 = some (txOf true) ∧ (stBus false).answerable 4 = some (txOf false) ∧ isDram 4 = false ∧
    ((stBus true).bus.granted.find? (fun x => x.target == 4 && decide (x.at_ + 20000 ≤ (stBus true).run))).isSome = true ∧
    (State.reset.put (Reg.BUS.M.STAT.CLOSING 13) true).on (Reg.BUS.M.STAT.CLOSING 13) = true ∧ State.reset.bus.granted = [] ∧
    mapGetD State.reset.bus.closing 13 (0, 0) = (0, 0) := by decide +kernel

/-- A re-read of a transaction under a passed upper deadline, whose data does not decode. -/
def txL : BusTxn := { txOf false with addr := 0x800000000, target := 0 }
theorem wit_LateRetry : ({ State.reset with dram := { ecc := true, retries := [{ txn := some txL, block := 0x800000000, at_ := 0, late := some 0 }] } } : State).dram.retries =
      [{ txn := some txL, block := 0x800000000, at_ := 0, late := some 0 }] ∧ failedBlock txL.addr txL.len [(0, 1), (0, 2)] = some 0x800000000 := by decide +kernel
/-- DRAM trained in both sets, with 1 GiB and ECC, and the edge states of its rows. -/
def stDram : State := ((({ State.reset with dram := { ecc := true } } : State).wr Reg.DRAM.STAT.STATE 2).put Reg.DRAM.STAT.BOK true).wr Reg.DRAM.SIZE.USABLE 1024
def txD : BusTxn := { txOf false with addr := 0x800000000, target := 0 }
theorem wit_Dram : (State.reset.wr Reg.DRAM.STAT.STATE 1).rd Reg.DRAM.STAT.STATE = 1 ∧ (stDram.put Reg.DRAM.TRK.EN true).on Reg.DRAM.TRK.EN = true ∧
    stDram.rd Reg.DRAM.STAT.STATE = 2 ∧ mapGet stDram.dram.lastTrk 7 = none ∧ (stDram.put (Reg.DRAM.CH.STAT.MARGINAL 7) true).on (Reg.DRAM.CH.STAT.MARGINAL 7) = true ∧
    (atHead stDram 0x61 (dOf 0 0)).Admits 0x61 roleE (dOf 0 0) ∧ stDram.quiesce = true ∧ stDram.on Reg.DRAM.STAT.RETRAIN = false ∧ stDram.on Reg.DRAM.STAT.FREQBUSY = false ∧
    (stDram.put Reg.DRAM.STAT.RETRAIN true).on Reg.DRAM.STAT.RETRAIN = true ∧
    (atHead stDram 0x61 (dOf 2 0)).Admits 0x61 roleE (dOf 2 0) ∧ stDram.setTrained 1 = true ∧ stDram.plan.image = none ∧ stDram.rd Reg.DRAM.STAT.SET ≠ 1 ∧
    stDram.slackOk = true ∧ stDram.run < 1 ∧ 0 ≤ stDram.run ∧ 7 < 8 * (stDram.rd Reg.DRAM.CFG.RANKS + 1) ∧ mapGetD [(7, 7)] 7 0 < 8 ∧ 8 ≤ mapGetD [(7, 8)] 7 0 ∧
    txD.gen = stDram.busGen txD.master ∧ txD.dead = false ∧ stDram.run ≤ 0 + 1000 ∧ (stDram.targetAt (0x83800003F / 64 * 64)).any isDram = true ∧
    (stDram.trackDue 7 = true ∧ 2000 ≤ (stDram.slackNow (7 / 2)).2 ∧ stDram.rankWaits 7 = false ∧
    ({ stDram with bus := { queue := [{ txD with qos := 12 }] } } : State).rankWaits 0 = true ∧ failedBlock (0x83800003F / 64 * 64) 64 [] = none ∧
    (failedBlock (0x83800003F / 64 * 64) 64 [(7, 70), (7, 71)]).isSome = true) := by
  refine ⟨?_, ?_, ?_, ?_, ?_, ⟨by decide +kernel, by decide +kernel, by decide +kernel, by decide +kernel, by decide +kernel⟩, ?_, ?_, ?_, ?_, ⟨by decide +kernel, by decide +kernel, by decide +kernel, by decide +kernel, by decide +kernel⟩, ?_, ?_, ?_, ?_, ?_, ?_, ?_, ?_, ?_, ?_, ?_, ?_, ?_, ?_⟩ <;> decide +kernel

/-- Channel 31 in a state, with what the engine holds of it; a descriptor that R782 takes, and one it refuses. -/
def stDma (st : Nat) (x : DmaCh) : State :=
  { ((State.reset.wr (Reg.DMA.CH.STAT.STATE 31) st).wr (Reg.DMA.CH.CFG.REQ 31) 127).wr (Reg.DMA.CH.DPTR_HI.ADDR 31) (2 ^ 31) with
    dma := { chans := (List.replicate 32 ({} : DmaCh)).set 31 x } }
def dsc (n : Nat) : DmaDesc := { src := 0x10000000, dst := 0x10000004, chka := 0, count := n, ctl := 0x10000, rsvd := 0, link := 1 }
theorem wit_DmaFetch : ((stDma 1 { fetch := true }).dmaCh 31).fetch = true ∧ (stDma 1 { fetch := true }).dmaState 31 = dmaRun ∧
    (stDma 1 {}).dmaBars 31 ((stDma 1 {}).dptr 31) 64 = false ∧ dmaHost ((stDma 1 {}).dptr 31) = true ∧
    dmaDescBad ((stDma 1 {}).dmaLine 31) (dsc 1) = false ∧ dmaDescBad ((stDma 1 {}).dmaLine 31) (dsc 0) = true := by decide +kernel
theorem wit_DmaRequest : ((stDma 1 {}).wr (Reg.DMA.CH.CFG.REQ 31) 79).lineCh 79 = some 31 ∧
    (((stDma 1 {}).wr (Reg.DMA.CH.CFG.REQ 31) 79).dmaCh 31).pend.length < 4 ∧ 4 ≤ ((stDma 1 { pend := [0, 0, 0, 0] }).dmaCh 31).pend.length := by decide +kernel
theorem wit_DmaBurst : (stDma 1 { desc := some (dsc 1) }).dmaPick 1 = some 31 ∧ ((stDma 1 { desc := some (dsc 1) }).dmaCh 31).desc = some (dsc 1) ∧
    ((stDma 1 {}).dma.flight.filter fun b => b.ch / 16 == 1).length < 8 := by decide +kernel
theorem wit_DmaComplete : (stDma 1 { desc := some (dsc 1), issued := 1 }).dmaLeft 31 = 0 ∧ (stDma 1 {}).dmaFlight 31 = 0 ∧ descChk (dsc 1) = 0 ∧ descCont (dsc 1) = false ∧
    ((stDma 1 { desc := some (dsc 1), issued := 1 }).dmaCh 31).err = none ∧ (stDma 3 {}).dmaState 31 = dmaStopping ∧
    ((stDma 1 { desc := some (dsc 1), err := some (1, 0) }).dmaCh 31).err = some (1, 0) ∧
    (stDma 2 { append := true }).dmaState 31 = dmaTail ∧ ((stDma 2 { append := true }).dmaCh 31).append = true := by decide +kernel
theorem wit_DmaControl (o : Nat) (h : o ∈ [0x170004, 0x170008, 0x17000C]) : State.reset.pwr.halted = false ∧ State.reset.writeBarred .pcie o = false ∧
    (regFields o).isSome = true ∧ State.reset.dmaState 31 = dmaIdle ∧ State.reset.dma.chans.length = 32 ∧ ¬ State.reset.rd (Reg.DMA.CH.CFG.REQ 31) ≤ 79 ∧
    (stDma 1 {}).dmaState 31 = dmaRun ∧ (stDma 1 {}).dma.chans.length = 32 := by
  simp only [List.mem_cons, List.mem_nil_iff, or_false] at h
  rcases h with rfl | rfl | rfl <;> decide +kernel

/-- Frames of the pair's types with a payload of zeros, and a follower in step. -/
def ouvOf (t n fl : Nat) : OuvFrame :=
  let f : OuvFrame := { type := t, flags := fl, seq := 0, tick := 0, payload := List.replicate n 0, crc := 0 }
  { f with crc := crc32c (ouvBytes f) }
def stFollow : State := stOuv.wr Reg.GUARD.OUVSTAT.PARTNER 3
theorem wit_PairFrames : stFollow.on Reg.GUARD.OUVCFG.EN = true ∧ stFollow.ouvUp = true ∧ frameOk ouvHeartbeat 8192 (ouvOf 1 16 0) = true ∧
    frameOk ouvConfig 8192 (ouvOf 2 8 0) = true ∧ frameOk ouvConfig 8192 (ouvOf 2 8 1) = true ∧ frameOk ouvImage 8192 (ouvOf 3 8 0) = true ∧
    frameOk ouvImage 8192 (ouvOf 3 8 1) = true ∧ frameOk ouvHandover 8192 (ouvOf 4 8 0) = true ∧ frameOk ouvAck 8192 (ouvOf 5 8 0) = true ∧
    stFollow.follower = true ∧ stFollow.holds = false ∧ stFollow.service = false ∧ stFollow.partner = 3 ∧
    (((stFollow.put Reg.TICK.STATUS.RUN true).wr Reg.GUARD.NODE.CD0 0).service = true) ∧ rdLe (List.replicate 8 (0 : Byte)) 4 4 = 0 := by decide +kernel

/-- A paired node that holds authority, past every period. -/
def stAuth : State := { stFollow.put Reg.GUARD.OUVSTAT.AUTH_OUT true with
  ouv := { heard := true }, time := { mono := 3600000000000 * tu, now := 3600000000000 * tu } }
theorem wit_Authority : stAuth.on Reg.GUARD.OUVCFG.EN = true ∧ stAuth.ouv.heard = true ∧ stAuth.ouv.hbTick + stAuth.rd Reg.GUARD.OUVCFG.HBMISS ≤ stAuth.tick ∧
    (1 : Nat) ≤ stAuth.tick + 1 ∧ stAuth.partner = 3 ∧ stAuth.paired = true ∧ stAuth.holds = true ∧ stAuth.on Reg.TICK.STATUS.RUN = false ∧ stFollow.on Reg.GUARD.OUVSTAT.AUTH_IN = false ∧ (stFollow.put Reg.GUARD.OUVSTAT.AUTH_IN true).on Reg.GUARD.OUVSTAT.AUTH_IN = true ∧
    stAuth.ouv.imgLast + stAuth.rd Reg.GUARD.OUVCFG.IMGPER * 1000000 ≤ stAuth.run ∧ (atHead stAuth 0x49 dNs).Admits 0x49 roleO dNs ∧ dNs.a2 < 1000000000 ∧
    stAuth.ouv.hand = none ∧ stFollow.holds = false ∧ 0 ≤ stFollow.tick ∧ stAuth.guard.lastFlip + stAuth.rd Reg.GUARD.AUTHWD.TICKS ≤ stAuth.tick := by
  refine ⟨?_, ?_, ?_, ?_, ?_, ?_, ?_, ?_, ?_, ?_, ?_, ⟨by decide +kernel, by decide +kernel, by decide +kernel, by decide +kernel, by decide +kernel⟩, ?_, ?_, ?_, ?_, ?_⟩ <;> decide +kernel

/-- A package without a slot; a slot that passes, where its image does; no monitor has tripped, and a software reset has fallen due. -/
theorem wit_Halt : ({} : BootEnv).romOk = true ∧ State.reset.bootOrder = [] ∧ State.reset.tryBoot [] = (none, []) :=
  ⟨rfl, by decide +kernel, rfl⟩
theorem wit_Boot (u : State) (i : Nat) (h : u.bootOrder = [i]) (k : u.imageCheck (u.bootSlot i).image = none) : u.tryBoot u.bootOrder = (some i, []) := by
  rw [h]; unfold State.tryBoot; rw [k]
theorem wit_Power : State.reset.pwr.tripped = false ∧ ({ State.reset with pwr := { softAt := some 7 } } : State).pwr.softAt = some 7 ∧
    (State.reset.dropAuth 3).pwr.tripped = false ∧ State.reset.on Reg.BKUP.STATUS.ONVBAT = false ∧
    (State.reset.put Reg.BKUP.STATUS.ONVBAT true).on Reg.BKUP.STATUS.ONVBAT = true ∧ 1 ≤ 4 ∧
    State.reset.pwr.softAt = none ∧ State.reset.pwr.halted = false ∧ State.reset.writeBarred .pcie 0x34 = false ∧ (regFields 0x34).isSome = true ∧
    getBits (0xA501 : Word) 0 1 = 1 ∧ getBits (0xA501 : Word) 8 8 = 0xA5 := by decide +kernel

/-- Descriptors without a session at the head of ring 1, with REQ at 1 and at 0; ALLSTOP at the head of CMD0. -/
def stReq : State := stMed.put Reg.HOST.CFG.REQ true
theorem wit_SessionsRequired : (atHead stReq 0x20 (dOf 0 0)).ready 0x20 (dOf 0 0) = true ∧ (dOf 0 0).ring ≠ 0 ∧ (dOf 0 0).session = 0 ∧
    (atHead stReq 0x20 (dOf 0 0)).on Reg.HOST.CFG.REQ = true ∧ (atHead stReq 0x88 (dOf 0 0)).ready 0x88 (dOf 0 0) = true ∧
    (atHead stReq 0x88 (dOf 0 0)).on Reg.STORE.STAT.JRN = false ∧ (atHead stReq 0x88 (dOf 0 0)).on Reg.DRAM.STAT.RETRAIN = false ∧
    stAll.ready 0x50 dAll = true ∧ dAll.ring = 0 ∧ (atHead stReq 2 (dOf 0 0)).ready 2 (dOf 0 0) = true ∧ descBad (dOf 0 0) 2 = none ∧
    (atHead stMed 0xAB (dOf 0 0)).ready 0xAB (dOf 0 0) = true ∧ (atHead stMed 0xAB (dOf 0 0)).on Reg.HOST.CFG.REQ = false := by decide +kernel
/-- Ring 15 enabled and the event ring, whose disabling writes act. -/
def stRun15 : State := (State.reset.put (Reg.HOST.RING.CFG.EN 15) true).put Reg.HOST.EVCFG.EN true
theorem wit_DisablingARing : stRun15.on (Reg.HOST.RING.CFG.EN 15) = true ∧ stRun15.host.rings.length = 16 ∧ stRun15.pwr.halted = false ∧
    stRun15.writeBarred .pcie (0x140110 + 32 * 15) = false ∧ (0x140110 + 32 * 15) % 4 = 0 ∧ (regFields (0x140110 + 32 * 15)).isSome = true ∧
    stRun15.writeBarred .pcie 0x140018 = false ∧ (regFields 0x140018).isSome = true ∧ getBits 0 0 1 = 0 := by decide +kernel
/-- SESSION_CLOSE of session 1 by itself, where its MAC holds. -/
def dClose : Desc := { dOf 1 0 with session := 1, seq := 1 }
def stClose : State := { atHead State.reset 0x02 dClose with host := { (atHead State.reset 0x02 dClose).host with
  sessions := (List.replicate 16 none).set 0 (some { roles := 15, gen := 0, mask := 2, notAfter := 0, key := [], seqs := List.replicate 16 0 }) } }
theorem wit_SessionClose (hm : dClose.mac = mac64 [] (le 1 dClose.ring ++ descMacBytes dClose 0x02 ++ dClose.buf)) :
    stClose.Admits 0x02 0 dClose ∧ dClose.a0 ≠ 0 ∧ dClose.a0 ≤ 16 ∧ dClose.session = dClose.a0 := by
  refine ⟨⟨by decide +kernel, by decide, Or.inr (by decide +kernel), ?_, by decide +kernel⟩, by decide, by decide, by decide⟩
  have e : atD (stClose.start 0x02 dClose).host.sessions 0 none =
      some { roles := 15, gen := 0, mask := 2, notAfter := 0, key := [], seqs := List.replicate 16 0 } := by decide +kernel
  show (stClose.start 0x02 dClose).sessionOk 0x02 0 dClose = true
  unfold State.sessionOk
  rw [show dClose.session - 1 = 0 from rfl, e]
  simp only [← hm, beq_self_eq_true, Bool.and_true]
  decide +kernel
/-- SESSION_OPEN of a request of 440 bytes, where the host's and the request's signatures hold. -/
def dOpen : Desc := { dOf 0 0 with rlen := 200, buf := 1 :: List.replicate 439 0 }
def stOpen : State := { atHead State.reset 0x01 dOpen with sec := { keys := [{ cls := 1, slot := 0, pos := 0, id := 0, key := [] }] } }
theorem wit_SessionOpen (h1 : Config.ecdsaVerify [] (Config.sha384 (dOpen.buf.take 144)) (List.replicate 96 0) = true)
    (h2 : Config.ecdsaVerify (List.replicate 97 0) (Config.sha384 (dOpen.buf.take 344 ++ le 8 0)) (List.replicate 96 0) = true) :
    stOpen.Admits 0x01 0 dOpen ∧ (stOpen.opened 0x01 dOpen).cryptoDown = false ∧ (stOpen.opened 0x01 dOpen).requestOk dOpen.buf = true ∧
    (stOpen.opened 0x01 dOpen).host.sessions.findIdx? Option.isNone = some 0 ∧ 200 ≤ dOpen.rlen := by
  refine ⟨⟨by decide +kernel, by decide +kernel, by decide +kernel, by decide +kernel, by decide +kernel⟩, by decide +kernel, ?_, by decide +kernel, by decide⟩
  have k : (stOpen.opened 0x01 dOpen).keyAt 1 0 0 = some { cls := 1, slot := 0, pos := 0, id := 0, key := [] } := by decide +kernel
  have c : (stOpen.opened 0x01 dOpen).sctr = 0 := by decide +kernel
  have p1 : (dOpen.buf.drop 144).take 96 = List.replicate 96 0 := by decide +kernel
  have p2 : (dOpen.buf.drop 32).take 97 = List.replicate 97 0 := by decide +kernel
  have p3 : (dOpen.buf.drop 344).take 96 = List.replicate 96 0 := by decide +kernel
  have p0 : (dOpen.buf.drop 0).take 144 = dOpen.buf.take 144 := by decide +kernel
  have p4 : (dOpen.buf.drop 0).take 344 = dOpen.buf.take 344 := by decide +kernel
  unfold State.requestOk
  simp only [k, c, p0, p1, p2, p3, p4, h1, h2, Bool.and_true]
  decide +kernel

theorem wit_TickNumberReads : State.reset.pwr.halted = false ∧ State.reset.hasPath .steward = true := by decide

theorem wit_Unmapped : 0x1FFFFF < 0x200000 ∧ regFields 0x1FFFFF = none ∧ regFields 0x1FFFFC = none := by decide +kernel

/-- Rank 0 with 7 and with 8 postponed refreshes while an access of QoS 12 waits for it; a state within the bound that steps. -/
def stPost (n : Nat) : State := { stDram with bus := { queue := [{ txD with qos := 12 }] }, dram := { stDram.dram with post := [(0, n)] } }
theorem wit_Postponed : 0 < 8 ∧ 0 ≤ (stPost 7).rd Reg.DRAM.CFG.RANKS ∧ 0 = 0 * ((stPost 7).rd Reg.DRAM.CFG.RANKS + 1) + 0 ∧ (stPost 7).rankWaits 0 = true ∧ mapGetD (stPost 7).dram.post 0 0 < 8 ∧
    (stPost 8).rankWaits 0 = true ∧ 8 ≤ mapGetD (stPost 8).dram.post 0 0 ∧ State.reset.rankWaits 0 = false := by decide +kernel
theorem wit_PostBound : (∃ t, step { stPost 8 with pending := [.refreshDue 0 0] } = .next t) ∧ ∀ k, mapGetD (stPost 8).dram.post k 0 ≤ 8 := by
  refine ⟨⟨_, rfl⟩, fun k => ?_⟩
  simp only [stPost, mapGetD, mapGet]
  split <;> simp

theorem wit_LossOfSupply : State.reset.on Reg.BKUP.STATUS.ONVBAT = false := by decide

/-- A channel in RUN with edges: HI of half-bridge A at step 300, LO at steps 0 and 1,000. -/
def stGate : State := { State.reset with modCh := [(127, { edges := [100, 600, 200, 500] })] }
theorem wit_Gates : (stGate.gates 127 300)[0]? = some (true, false) ∧ (stGate.gates 127 0)[0]? = some (false, true) ∧
    (stGate.gates 127 1000)[1]? = some (false, true) := by decide +kernel

theorem wit_StepKeepsRegistersCanonical : State.reset.RegsCanon ∧ ∃ t, step State.reset = .next t := ⟨by unfold State.RegsCanon; decide, _, rfl⟩

theorem wit_StepKeepsSiltBounded : State.reset.SiltBounded ∧ ∃ t, step State.reset = .next t := ⟨by unfold State.SiltBounded; decide, _, rfl⟩

theorem wit_StepKeepsMemoryCanonical : State.reset.MemCanon ∧ ∃ t, step State.reset = .next t := ⟨by unfold State.MemCanon; decide, _, rfl⟩

/-- A read that ends leaves every byte; a descriptor without a check record; an MRAM and a ROM address. -/
theorem wit_MemoryFrame : (stBus false).answerable 4 = some (txOf false) ∧ (txOf false).write = false ∧
    (stBus true).answerable 4 = some (txOf true) ∧ (0 < (txOf true).addr) ∧ descChk (dsc 1) = 0 ∧ addrKept 0x20FFFFFF = true ∧ addrKept 0 = true ∧
    (∃ t, exec (.targetResponse 4 {}) (stBus true) = .next t) ∧ (∃ t, exec (.dmaDescriptorFetch 31 (dsc 0) false) (stDma 1 { fetch := true }) = .next t) ∧
    (∃ t, exec .backupPowerOn State.reset = .next t) :=
  ⟨by decide +kernel, rfl, by decide +kernel, by decide, by decide, by decide, by decide, ⟨_, rfl⟩, ⟨_, rfl⟩, ⟨_, rfl⟩⟩

/-- A command of each kind: one that leaves the keys, and one that erases them. -/
theorem wit_KeyFrame : (∃ t, exec (.keyActivate (dOf 0 63)) stKey = .next t) ∧ (∃ t, exec .backupPowerOn stKey = .next t ∧ t.sec.keys = []) :=
  ⟨⟨_, rfl⟩, ⟨_, rfl, rfl⟩⟩

theorem wit_MemoryWrite : [true, false].length = [(1 : Byte), 2].length ∧ Memory.wf [] = true ∧ (stBus true).answerable 4 = some (txOf true) ∧
    (txOf true).write = true ∧ (txOf true).strobes.length = (txOf true).data.length := by decide +kernel

end Sys2Proof.Tests
end

section
/-! Access violations and the offsets that no register table lists (R11, R717, R718): what a read returns, and what a
write or a latching read may do to the state. -/
namespace Sys2Proof.Machine

/-- Every requester class counts in one word, `SYS.VIOL_COUNT` (R718). -/
theorem violFld_off (q : Requester) : (violFld q).off = Reg.SYS.VIOL_COUNT.PCIE.off := by
  cases q <;> rfl

theorem State.sameButRegs_refl (s : State) : s.sameButRegs s := ⟨s.regs, rfl⟩

theorem State.regsFrame_refl (s : State) (offs : List Nat) : s.regsFrame offs s := fun _ _ => rfl

theorem State.sameButRegs_setWord (s : State) (o : Nat) (w : Word) : s.sameButRegs (s.setWord o w) := ⟨_, rfl⟩

theorem State.sameButRegs_violate (s : State) (q : Requester) : s.sameButRegs (s.violate q) :=
  s.sameButRegs_setWord _ _

theorem State.word_violate_other (s : State) (q : Requester) {o : Nat} (h : o ≠ Reg.SYS.VIOL_COUNT.PCIE.off) :
    (s.violate q).word o = s.word o :=
  s.word_wr_other _ _ (by rwa [violFld_off])

theorem State.regsFrame_violate (s : State) (q : Requester) :
    s.regsFrame [Reg.SYS.VIOL_COUNT.PCIE.off] (s.violate q) := by
  intro o ho
  exact s.word_violate_other q (by simpa using ho)

/-- An access that does nothing, or only counts a violation, changes nothing but the violation counter. -/
theorem State.violationFrame {s t : State} {q : Requester} (h : t = s ∨ t = s.violate q) :
    s.sameButRegs t ∧ s.regsFrame [Reg.SYS.VIOL_COUNT.PCIE.off] t := by
  rcases h with rfl | rfl
  · exact ⟨t.sameButRegs_refl, t.regsFrame_refl _⟩
  · exact ⟨s.sameButRegs_violate q, s.regsFrame_violate q⟩

theorem regMapped_eq_false {off : Nat} (h : regFields off = none) : regMapped off = false := by
  simp [regMapped, h]

/-- A register that another one's read latches is a listed register (Table 20.3). -/
theorem regMapped_of_mem_latchGroup : ∀ f ∈ latchFirsts, ∀ o ∈ latchGroup f, regMapped o = true := by
  decide +kernel

theorem latchOf_eq_none {off : Nat} (h : regFields off = none) : latchOf off = none := by
  unfold latchOf
  rw [List.findSome?_eq_none_iff]
  intro f hf
  have hidx : (latchGroup f).findIdx? (fun o => o == off) = none := by
    rw [List.findIdx?_eq_none_iff]
    intro o ho
    have hne : o ≠ off := by
      rintro rfl
      exact absurd (regMapped_of_mem_latchGroup f hf o ho) (by simp [regMapped_eq_false h])
    simpa using hne
  rw [hidx, Option.map_none]

theorem State.latched_eq_none (s : State) (q : Requester) {off : Nat} (h : regFields off = none) :
    s.latched q off = none := by
  simp [State.latched, latchOf_eq_none h]

/-- `SEC.STATUS`, which a halted part still shows (R861), is a listed register. -/
theorem regFields_secStatus_ne_none : regFields Reg.SEC.STATUS.BOOT.off ≠ none := by decide +kernel

/-- An unlisted offset reads 0: the part halted, the access barred or misaligned, or nothing there to read. -/
theorem State.readReg_unmapped (s : State) (q : Requester) {off : Nat} (hlt : off < 0x200000)
    (h : regFields off = none) : s.readReg q off = 0 := by
  have hsec : off ≠ Reg.SEC.STATUS.BOOT.off := fun e => regFields_secStatus_ne_none (e ▸ h)
  have hwin : ¬ 0x200000 ≤ off := by omega
  unfold State.readReg
  by_cases hh : s.pwr.halted
  · rw [if_pos hh, if_neg hsec]
  · by_cases hp : (!s.hasPath q || off % 4 ≠ 0)
    · rw [if_neg hh, if_pos hp]
    · rw [if_neg hh, if_neg hp]
      simp [hwin, s.latched_eq_none q h, regMapped_eq_false h]

/-- A write of an unlisted offset does nothing or counts a violation. -/
theorem State.writeReg_unmapped (s : State) (q : Requester) {off : Nat} (w : Word) (hlt : off < 0x200000)
    (h : regFields off = none) : s.writeReg q off w = s ∨ s.writeReg q off w = s.violate q := by
  have hwin : ¬ 0x200000 ≤ off := by omega
  unfold State.writeReg
  by_cases hh : s.pwr.halted
  · exact .inl (if_pos hh)
  · by_cases hb : (s.writeBarred q off || off % 4 ≠ 0)
    · exact .inr (by rw [if_neg hh, if_pos hb])
    · rw [if_neg hh, if_neg hb]
      by_cases hq : q = .steward
      · exact .inl (by simp [h, hwin, hq])
      · exact .inr (by simp [h, hwin, hq])

/-- A latching read of an unlisted offset latches nothing: it does nothing or counts a violation. -/
theorem State.readLatch_unmapped (s : State) (q : Requester) {off : Nat} (hlt : off < 0x200000)
    (h : regFields off = none) : s.readLatch q off = s ∨ s.readLatch q off = s.violate q := by
  have hwin : ¬ 0x200000 ≤ off := by omega
  unfold State.readLatch
  by_cases hh : s.pwr.halted
  · exact .inl (if_pos hh)
  · by_cases hp : (!s.hasPath q || off % 4 ≠ 0)
    · exact .inr (by rw [if_neg hh, if_pos hp])
    · rw [if_neg hh, if_neg hp]
      by_cases hq : q = .steward
      · exact .inl (by simp [hwin, regMapped_eq_false h, hq])
      · exact .inr (by simp [hwin, regMapped_eq_false h, hq])

/-- A write command takes an access of any other size than 4 bytes as a violation (R677, R717). -/
theorem exec_registerWrite (q : Requester) (off size : Nat) (v : Word) (s : State) :
    exec (.registerWrite q off size v) s = .next (if size = 4 then s.writeReg q off v else s.violate q) := rfl

theorem exec_latchingRead (q : Requester) (off : Nat) (s : State) :
    exec (.latchingRead q off) s = .next (s.readLatch q off) := rfl

/-- Settles O48: each access at an unlisted offset leaves the state or counts a violation (R11). -/
theorem unmappedOffsetsReadZeroAndIgnoreWrites : Obligations.UnmappedOffsetsReadZeroAndIgnoreWrites := by
  intro q off size v s hlt h
  have hwrite : (if size = 4 then s.writeReg q off v else s.violate q) = s ∨
      (if size = 4 then s.writeReg q off v else s.violate q) = s.violate q := by
    by_cases h4 : size = 4
    · simpa only [if_pos h4] using s.writeReg_unmapped q v hlt h
    · exact .inr (if_neg h4)
  exact ⟨s.readReg_unmapped q hlt h,
    ⟨_, exec_registerWrite q off size v s, State.violationFrame hwrite⟩,
    ⟨_, exec_latchingRead q off s, State.violationFrame (s.readLatch_unmapped q hlt h)⟩⟩

end Sys2Proof.Machine
end

section
/-! Latching reads (Table 20.3, R928, R929): what a read of a group's first register holds for the requester's class, and
what a later read of a further register of the group then returns. -/
namespace Sys2Proof.Machine

/-- The first registers of Table 20.3 are listed, aligned and outside the route window. -/
theorem latchFirsts_readable : ∀ f ∈ latchFirsts, regMapped f = true ∧ f % 4 = 0 ∧ f < 0x200000 := by
  decide +kernel

theorem State.readReg_of_latched_eq_some {s : State} {q : Requester} {off : Nat} {w : Word}
    (hrun : s.pwr.halted = false) (hpath : s.hasPath q = true) (halign : off % 4 = 0) (hlt : off < 0x200000)
    (hw : s.latched q off = some w) : s.readReg q off = w := by
  have hwin : ¬ 0x200000 ≤ off := by omega
  simp [State.readReg, hrun, hpath, halign, hwin, hw]

/-- A listed register that no other one's read latches shows its live word. -/
theorem State.readReg_of_latchOf_eq_none {s : State} {q : Requester} {off : Nat}
    (hrun : s.pwr.halted = false) (hpath : s.hasPath q = true) (halign : off % 4 = 0) (hlt : off < 0x200000)
    (hmap : regMapped off = true) (hnone : latchOf off = none) : s.readReg q off = s.liveWord off := by
  have hwin : ¬ 0x200000 ≤ off := by omega
  simp [State.readReg, State.latched, hrun, hpath, halign, hwin, hmap, hnone]

/-- The latch that a read of `f` leaves stands for its class and register alone: an older one of both is dropped. -/
theorem State.readLatch_latches {s : State} {q : Requester} {f : Nat} (hrun : s.pwr.halted = false)
    (hpath : s.hasPath q = true) (hf : f ∈ latchFirsts) :
    (s.readLatch q f).latches = s.latches.filter (fun x => !(x.q == latchClass q && x.first == f)) ++
      [{ q := latchClass q, first := f, words := (latchGroup f).map s.liveWord }] := by
  obtain ⟨hmap, halign, hlt⟩ := latchFirsts_readable f hf
  have hwin : ¬ 0x200000 ≤ f := by omega
  simp [State.readLatch, hrun, hpath, halign, hwin, hmap, hf]

theorem State.find?_latches_readLatch {s : State} {q : Requester} {f : Nat} (hrun : s.pwr.halted = false)
    (hpath : s.hasPath q = true) (hf : f ∈ latchFirsts) :
    (s.readLatch q f).latches.find? (fun l => l.q == latchClass q && l.first == f) =
      some { q := latchClass q, first := f, words := (latchGroup f).map s.liveWord } := by
  have hold : (s.latches.filter fun x => !(x.q == latchClass q && x.first == f)).find?
      (fun l => l.q == latchClass q && l.first == f) = none := by
    rw [List.find?_eq_none]
    intro l hl
    simpa only [Bool.not_eq_true, Bool.not_eq_true'] using (List.mem_filter.mp hl).2
  rw [State.readLatch_latches hrun hpath hf, List.find?_append, hold]
  simp

/-- While the latches of a read of `f` stand, a further register of the group has the word it showed at that read. -/
theorem State.latched_of_readLatch {s u : State} {q : Requester} {f off i : Nat} (hrun : s.pwr.halted = false)
    (hpath : s.hasPath q = true) (hf : f ∈ latchFirsts) (hoff : latchOf off = some (f, i))
    (hu : u.latches = (s.readLatch q f).latches) :
    u.latched q off = ((latchGroup f).map s.liveWord)[i]? := by
  simp only [State.latched, hoff, hu, State.find?_latches_readLatch hrun hpath hf]

/-- `TICK.NOW_LO` heads its group and no other register's read latches it. -/
theorem latchOf_tickNowLo : latchOf 0x10010 = none := by decide

/-- `TICK.NOW_HI` is the one further register of `TICK.NOW_LO`'s group (R61). -/
theorem latchOf_tickNowHi : latchOf 0x10014 = some (0x10010, 0) := by decide

theorem tickNowLo_mem_latchFirsts : 0x10010 ∈ latchFirsts := by decide

/-- Settles O47: the low word is live (R14), and the high word is what the low word's read latched (R61, R928). -/
theorem tickNumberReads : Obligations.TickNumberReads := by
  intro q s hrun hpath
  obtain ⟨hmap, halign, hlt⟩ := latchFirsts_readable 0x10010 tickNowLo_mem_latchFirsts
  have hlo : s.readReg q 0x10010 = s.liveWord 0x10010 :=
    State.readReg_of_latchOf_eq_none hrun hpath halign hlt hmap latchOf_tickNowLo
  refine ⟨hlo, _, exec_latchingRead q 0x10010 s, fun u hurun hupath hu => ?_⟩
  have hhi : u.latched q 0x10014 = some (s.liveWord 0x10014) :=
    State.latched_of_readLatch hrun hpath tickNowLo_mem_latchFirsts latchOf_tickNowHi hu
  exact State.readReg_of_latched_eq_some hurun hupath (by decide) (by decide) hhi

end Sys2Proof.Machine
end

section
/-! The engine's queries METER, TAP_CAPTURE and OBJ_READ (R160, R704, R705): what each comes to on operands within its
bounds, and what the ring command then leaves. -/
namespace Sys2Proof.Machine

theorem exec_meter (d : Desc) (s : State) : exec (.meter d) s = .next (hostCmd 0x70 roleM d (meterRes d) s) := rfl

theorem exec_tapCapture (d : Desc) (s : State) :
    exec (.tapCapture d) s = .next (hostCmd 0x71 roleM d (tapRes d) s) := rfl

theorem exec_objRead (d : Desc) (s : State) :
    exec (.objRead d) s = .next (hostCmd 0x72 roleM d (objReadRes d) s) := rfl

section
variable {d : Desc} {u : State}

/-- METER of an existing strip, cell class or tap returns its record, whichever way CLEAR stands (R160). -/
theorem meterRes_of_lt (hcls : d.a0 < 3)
    (hidx : d.a1 < [u.rd Reg.GRAPH.SIZE.INS, u.rd Reg.GRAPH.SIZE.OUTS, 64].getD d.a0 0) :
    meterRes d u =
      okRes
        (if d.flags % 2 = 1 then
          { u with
            meters := mapSet u.meters (objNo d.a0 d.a1) { mapGetD u.meters (objNo d.a0 d.a1) {} with sat := 0 } }
        else u)
        [] (mapGetD u.meters (objNo d.a0 d.a1) {}).bytes := by
  unfold meterRes
  dsimp only
  rw [if_neg (Nat.not_le.mpr hcls), if_neg (Nat.not_le.mpr hidx)]

/-- TAP_CAPTURE of an existing tap with room for its samples becomes the ring's capture (R704). -/
theorem tapRes_of_room (htap : d.a0 < 64) (hpos : d.a1 ≠ 0) (hmax : d.a1 ≤ 65536) (hroom : 8 * d.a1 ≤ d.rlen) :
    tapRes d u = longRes { u with caps := mapSet u.caps d.ring { tap := d.a0, want := d.a1, start := 0 } } := by
  have hcount : ¬ (decide (d.a1 = 0) || decide (65536 < d.a1)) = true := by simp [hpos, hmax]
  unfold tapRes
  rw [if_neg (Nat.not_le.mpr htap), if_neg hcount, if_neg (Nat.not_lt.mpr hroom)]

/-- OBJ_READ of an existing object returns whole words, 0 where the object has none (R705). -/
theorem objReadRes_of_objExists (hlo : d.a0 ≠ 0) (hhi : d.a0 ≤ 4) (hobj : u.objExists d.a0 d.a1 = true)
    (hwhole : d.rlen % 8 = 0) :
    objReadRes d u = okRes u [] (((List.range (d.rlen / 8)).map fun j =>
      le 8 (if u.wordExists d.a0 d.a1 (d.a2 + j) then u.param (keyParam d.a0 d.a1 (d.a2 + j)) else 0)).flatten) := by
  have hcls : ¬ (decide (d.a0 = 0) || decide (4 < d.a0)) = true := by simp [hlo, hhi]
  have hidx : ¬ (!u.objExists d.a0 d.a1) = true := by simp [hobj]
  unfold objReadRes
  rw [if_neg hcls, if_neg hidx, if_neg (not_not_intro hwhole)]

end

/-- Settles O31: each query's operands pass its checks, so it completes with what it read or goes on as the capture. -/
theorem engineQueryRowsTakeEffect : Obligations.EngineQueryRowsTakeEffect := by
  refine ⟨?meterKeeps, ?meterClears, ?tapCapture, ?objRead⟩
  case meterKeeps =>
    rintro d s u hadm rfl hcls hidx hclear hfits
    have hres := meterRes_of_lt hcls hidx
    rw [if_neg (by omega)] at hres
    rw [exec_meter, hostCmd_ok hadm hres hfits]
  case meterClears =>
    rintro d s u m hadm rfl hcls hidx hclear rfl hfits
    have hres := meterRes_of_lt hcls hidx
    rw [if_pos hclear] at hres
    rw [exec_meter, hostCmd_ok hadm hres hfits]
  case tapCapture =>
    rintro d s u hadm rfl htap hpos hmax hroom
    rw [exec_tapCapture, hostCmd_long hadm (tapRes_of_room htap hpos hmax hroom)]
  case objRead =>
    rintro d s u b hadm rfl hlo hhi hobj hwhole rfl hfits
    rw [exec_objRead, hostCmd_ok hadm (objReadRes_of_objExists hlo hhi hobj hwhole) hfits]

end Sys2Proof.Machine
end

section
/-! Plan loads and unloads, the engine's stop and the power states (R235 to R237, R914 to R921): what each effect comes to
on a state that passes its checks, and what the row then leaves. -/
namespace Sys2Proof.Machine

/-- A load waits while a full retrain runs (R758). -/
theorem exec_planLoad (d : Desc) (p : PlanImage) (s : State) :
    exec (.planLoad d p) s =
      .next (if s.on Reg.DRAM.STAT.RETRAIN then s else hostCmd 0x18 roleE d (planLoadRes p) s) := rfl

theorem exec_planLoadComplete (e : LoadEnv) (s : State) : exec (.planLoadComplete e) s = .next (doPlanComplete e s) := rfl

theorem exec_planUnload (d : Desc) (s : State) :
    exec (.planUnload d) s = .next (hostCmd 0x62 roleE d (powerStateRes d) s) := rfl

theorem exec_standby (d : Desc) (s : State) :
    exec (.standby d) s = .next (hostCmd 0x62 roleE d (powerStateRes d) s) := rfl

theorem exec_wake (d : Desc) (s : State) :
    exec (.wake d) s = .next (hostCmd 0x62 roleE d (powerStateRes d) s) := rfl

theorem exec_engineStop (s : State) : exec .engineStop s = .next (doEngineStop s) := rfl

/-! ### Loads -/

/-- A plan whose minimum rate the controller's set reaches changes no set (R762). -/
theorem State.forRate_of_le {s : State} {n : Nat} (h : n ≤ s.dramRate) : s.forRate n = s := if_pos h

/-- PLAN_LOAD of an image that passes steps 1 and 2 of R235 shows LOADING and stops the running plan (R914, R921). -/
theorem planLoadRes_of_imageOk {p : PlanImage} {u : State} (hpw : u.pw = 1 ∨ u.pw = 3)
    (hdram : u.rd Reg.DRAM.STAT.STATE ≠ 3) (hload : u.plan.loading = none) (hstop : u.eng.stopAt = none)
    (hcrypto : (u.cryptoDown && !p.custom.isEmpty) = false) (hcustom : u.customOk p = true) (himage : u.imageOk p = true)
    (hrate : p.minRate ≤ u.dramRate) :
    planLoadRes p u = longRes
      ((({ u with plan := { u.plan with loading := some p } } : State).setPw pwLoading).stopPlan) := by
  have hoff : u.pw ≠ 0 := by omega
  have hawake : u.pw ≠ pwStandby := by unfold pwStandby; omega
  unfold planLoadRes
  rw [if_neg (by simp [hoff, hawake, hdram, hcrypto]), if_neg (by simp [hload, hstop]),
    if_neg (by simp [hcustom]), if_neg (by simp [himage])]
  dsimp only
  rw [State.forRate_of_le hrate]

section
variable {e : LoadEnv} {p : PlanImage} {s t : State}

/-- Where every CRC agrees the filled image is installed and runs (R235 steps 5 to 7). -/
theorem doPlanComplete_of_codeGood (hload : s.plan.loading = some p) (hrun : s.on Reg.TICK.STATUS.RUN = false)
    (hstop : s.eng.stopAt = none) (ht : t = s.loadCode p (fun _ => true) e.upsets)
    (hgood : t.codeGood p (fun _ => true) = true) :
    doPlanComplete e s =
      (((t.install p [e.rail0, e.rail1]).setPw pwRun).finishOp 0x18 stOk (le 4 p.crc.toNat)).planStart := by
  subst ht
  unfold doPlanComplete
  simp only [hload]
  rw [if_neg (by simp [hrun, hstop]), if_pos hgood]

/-- Where one CRC differs no plan is loaded (R237). -/
theorem doPlanComplete_of_not_codeGood (hload : s.plan.loading = some p) (hrun : s.on Reg.TICK.STATUS.RUN = false)
    (hstop : s.eng.stopAt = none) (ht : t = s.loadCode p (fun _ => true) e.upsets)
    (hbad : t.codeGood p (fun _ => true) = false) :
    doPlanComplete e s =
      ((({ t with plan := { image := none, loading := none } } : State).noPlan).setPw pwIdle).finishOp 0x18 stRefused := by
  subst ht
  unfold doPlanComplete
  simp only [hload]
  rw [if_neg (by simp [hrun, hstop]), if_neg (Bool.eq_false_iff.mp hbad)]

end

/-! ### Unloads and the engine's stop -/

/-- A running plan stops at the first boundary at least 2 ticks on (R914). -/
theorem State.stopPlan_of_running {s : State} (h : s.on Reg.TICK.STATUS.RUN = true) :
    s.stopPlan = { s with eng := { s.eng with stopAt := some (s.tickFor 0 2) } } := if_pos h

section
variable {d : Desc} {u : State}

theorem powerStateRes_of_a0_eq_zero (h : d.a0 = 0) : powerStateRes d u = planUnloadRes u := if_pos h

theorem powerStateRes_of_a0_eq_one (h : d.a0 = 1) : powerStateRes d u = standbyRes u := by
  simp [powerStateRes, h]

theorem powerStateRes_of_a0_eq_two (h : d.a0 = 2) : powerStateRes d u = wakeRes u := by
  simp [powerStateRes, h]

/-- PLAN_UNLOAD of a plan that does not run drops it at once (R918). -/
theorem planUnloadRes_of_not_running (hload : u.plan.loading = none) (hstop : u.eng.stopAt = none)
    (hrun : u.on Reg.TICK.STATUS.RUN = false) (hplan : u.on Reg.TICK.CFG.PLAN = true) :
    planUnloadRes u = okRes (u.stopPlan.setPw pwIdle) := by
  unfold planUnloadRes
  rw [if_neg (by simp [hload, hstop]), if_neg (Bool.eq_false_iff.mp hrun), if_pos hplan]

/-- PLAN_UNLOAD of a running plan goes on until the plan's stop (R918). -/
theorem planUnloadRes_of_running (hload : u.plan.loading = none) (hstop : u.eng.stopAt = none)
    (hrun : u.on Reg.TICK.STATUS.RUN = true) :
    planUnloadRes u = longRes { u with eng := { u.eng with stopAt := some (u.tickFor 0 2) } } := by
  unfold planUnloadRes
  rw [if_neg (by simp [hload, hstop]), if_pos hrun, State.stopPlan_of_running hrun]

/-- STANDBY from IDLE with memory quiet and no stream takes every port's link down (R919). -/
theorem standbyRes_of_quiet (hpw : u.pw = pwIdle) (hquiet : u.quiesce = true) (hstream : u.anyStream = false) :
    standbyRes u =
      okRes (((List.range 4).foldl (fun (a : State) p => doLinkState p false false a) u).setPw pwStandby) := by
  unfold standbyRes
  rw [if_neg (by simp [hpw, hquiet, hstream])]

/-- WAKE from STANDBY: each channel owes a tracking burst (R920). -/
theorem wakeRes_of_standby (hpw : u.pw = pwStandby) :
    wakeRes u = okRes (({ u with dram := { u.dram with owed := List.range 8 } } : State).setPw pwIdle) := by
  unfold wakeRes
  rw [if_neg (not_not_intro hpw)]

end

/-- At its boundary the engine stops, and with no load in progress the unload completes (R914, R918). -/
theorem doEngineStop_of_due {s u : State} {k : Nat} (hstop : s.eng.stopAt = some k) (hdue : s.tAt k ≤ s.ns)
    (hu : u = (((({ s with eng := s.eng.keep } : State).put Reg.TICK.STATUS.RUN false).dropShow).noPlan).showHealth)
    (hload : u.plan.loading = none) :
    doEngineStop s = (u.setPw pwIdle).finishOp 0x62 stOk [] [] (fun d => d.a0 == 0) := by
  unfold doEngineStop
  simp only [hstop]
  rw [if_neg (Nat.not_lt.mpr hdue), ← hu, if_neg (by simp [hload])]

/-- Settles O30: each row's checks pass, so the load, the unload and the power states complete or go on with their
effect, and a load or a stop that is due ends. -/
theorem planAndPowerStateRowsTakeEffect : Obligations.PlanAndPowerStateRowsTakeEffect := by
  refine ⟨?load, ?loadEnds, ?loadFails, ?unloadAtOnce, ?unloadRunning, ?engineStop, ?standby, ?wake⟩
  case load =>
    rintro d p s u v hretrain hadm rfl hpw hdram hload hstop hcrypto hcustom himage hrate rfl
    rw [exec_planLoad, if_neg (Bool.eq_false_iff.mp hretrain),
      hostCmd_long hadm (planLoadRes_of_imageOk hpw hdram hload hstop hcrypto hcustom himage hrate)]
    rfl
  case loadEnds =>
    intro e p s t hload hrun hstop ht hgood
    rw [exec_planLoadComplete, doPlanComplete_of_codeGood hload hrun hstop ht hgood]
    rfl
  case loadFails =>
    intro e p s t hload hrun hstop ht hbad
    rw [exec_planLoadComplete, doPlanComplete_of_not_codeGood hload hrun hstop ht hbad]
    rfl
  case unloadAtOnce =>
    rintro d s u hadm rfl ha0 hload hstop hrun hplan
    have hres := (powerStateRes_of_a0_eq_zero ha0).trans (planUnloadRes_of_not_running hload hstop hrun hplan)
    rw [exec_planUnload, hostCmd_ok hadm hres (Nat.zero_le _)]
    rfl
  case unloadRunning =>
    rintro d s u hadm rfl ha0 hload hstop hrun
    have hres := (powerStateRes_of_a0_eq_zero ha0).trans (planUnloadRes_of_running hload hstop hrun)
    rw [exec_planUnload, hostCmd_long hadm hres]
  case engineStop =>
    intro k s u hstop hdue hu hload
    rw [exec_engineStop, doEngineStop_of_due hstop hdue hu hload]
    rfl
  case standby =>
    rintro d s u hadm rfl ha0 hpw hquiet hstream
    have hres := (powerStateRes_of_a0_eq_one ha0).trans (standbyRes_of_quiet hpw hquiet hstream)
    rw [exec_standby, hostCmd_ok hadm hres (Nat.zero_le _)]
    rfl
  case wake =>
    rintro d s u hadm rfl ha0 hpw
    have hres := (powerStateRes_of_a0_eq_two ha0).trans (wakeRes_of_standby hpw)
    rw [exec_wake, hostCmd_ok hadm hres (Nat.zero_le _)]
    rfl

end Sys2Proof.Machine
end

section
/-! Frames of the Ouvfel link (R342 to R349, R358, R402, R403, R472): what each does on an enabled link that is up, where it
passes R342, and what the link's state shows. -/
namespace Sys2Proof.Machine

theorem exec_heartbeat (f : OuvFrame) (s : State) : exec (.heartbeat f) s = .next (doHeartbeat f s) := rfl

theorem exec_config (f : OuvFrame) (s : State) : exec (.config f) s = .next (doConfig f s) := rfl

theorem exec_image (f : OuvFrame) (s : State) : exec (.image f) s = .next (doImage f s) := rfl

theorem exec_handover (f : OuvFrame) (s : State) : exec (.handover f) s = .next (doHandover f s) := rfl

theorem exec_ack (f : OuvFrame) (s : State) : exec (.ack f) s = .next (doAck f s) := rfl

theorem exec_ouvfelLinkStateChange (n : Nat) (s : State) :
    exec (.ouvfelLinkStateChange n) s = .next (doOuvLink n s) := rfl

theorem frameOk_iff {type maxLen : Nat} {f : OuvFrame} :
    frameOk type maxLen f = true ↔ f.type = type ∧ f.payload.length ≤ maxLen ∧ f.crc = crc32c (ouvBytes f) := by
  simp [frameOk, and_assoc]

section
variable {f : OuvFrame} {s : State} (hen : s.on Reg.GUARD.OUVCFG.EN = true) (hup : s.ouvUp = true)
include hen hup

/-- A frame of a type of Table 6.3 that passes R342 acts on an enabled link that is up. -/
theorem State.onFrame_of_frameOk {type : Nat} (act : State → State) (hok : frameOk type 8192 f = true)
    (hlo : type ≠ 0) (hhi : type ≤ 6) : s.onFrame type f act = act s := by
  obtain ⟨htype, hlen, hcrc⟩ := frameOk_iff.mp hok
  subst htype
  unfold State.onFrame
  rw [if_neg (by simp [hen, hup]), if_neg (by simp [hcrc, hlo, hhi, hlen]), if_neg (by simp)]

/-- A HEARTBEAT notes what it says of the partner, and the pair is judged by it (R344, Table 6.5). -/
theorem doHeartbeat_of_frameOk (hok : frameOk ouvHeartbeat 8192 f = true) (hlen : 16 ≤ f.payload.length) :
    doHeartbeat f s = State.judgePartner { s with ouv := { s.ouv with
      hbTick := s.tick, hbSent := f.tick, hbSecond := f.secondary, heard := true
      hbNode := rdLe f.payload 0 2, hbAuth := rdLe f.payload 2 1, hbState := rdLe f.payload 3 1
      hbPlan := rdLe f.payload 4 4, hbGen := rdLe f.payload 8 4 } } := by
  unfold doHeartbeat
  rw [State.onFrame_of_frameOk hen hup _ hok (by decide) (by decide), if_neg (Nat.not_lt.mpr hlen)]

/-! ### CONFIG and IMAGE at a follower -/

/-- The items that a CONFIG frame carries. -/
def configCarried (f : OuvFrame) : List (Nat × Nat) :=
  configItems (f.payload.drop 8) (f.payload.length / 16 + 1)

/-- The set that has come with a CONFIG frame: its items over those collected for its launch tick, none of which an empty
last frame keeps (R402, R403). -/
def State.configSoFar (s : State) (f : OuvFrame) : Tbl Nat :=
  (configCarried f).foldl (fun t e => mapSet t e.1 e.2)
    (if f.flags % 2 = 1 ∧ (configCarried f).isEmpty then []
      else ((s.ouv.cfgIn.filter fun x => x.1 == rdLe f.payload 0 8).map Prod.snd).getD [])

/-- A follower collects a CONFIG set under its launch tick, and takes it with its LAST frame (R402, R403). -/
theorem doConfig_of_frameOk (hok : frameOk ouvConfig 8192 f = true) (hfol : s.follower = true)
    (hlen : 8 ≤ f.payload.length) :
    doConfig f s =
      if f.flags % 2 = 1 then
        ({ s with ouv := { s.ouv with cfgIn := none } } : State).takeConfig f.seq (rdLe f.payload 0 8) (s.configSoFar f)
      else { s with ouv := { s.ouv with cfgIn := some (rdLe f.payload 0 8, s.configSoFar f) } } := by
  unfold doConfig
  rw [State.onFrame_of_frameOk hen hup _ hok (by decide) (by decide), if_neg (by simp [hfol, hlen])]
  unfold State.configSoFar configCarried
  cases hin : s.ouv.cfgIn with
  | none => simp
  | some x =>
    by_cases htick : x.1 = rdLe f.payload 0 8
    · by_cases hlast : f.flags % 2 = 1
      · simp [htick, hlast, Option.filter_some]
      · simp [htick, hlast, Option.filter_some]
    · simp [htick, Option.filter_some]

/-- The words that have come with an IMAGE frame: those collected under its number, then its own (R349). -/
def State.imageSoFar (s : State) (f : OuvFrame) : List (Nat × Nat) :=
  (if s.ouv.imgSeq = rdLe f.payload 0 4 then s.ouv.imgIn else []) ++
    (List.range ((f.payload.length - 8) / 8)).map fun j => (rdLe f.payload 4 4 + j, rdLe f.payload (8 + 8 * j) 8)

/-- A follower collects an image's words, and with its LAST frame makes an image without a gap ready (R349). -/
theorem doImage_of_frameOk (hok : frameOk ouvImage 8192 f = true) (hfol : s.follower = true)
    (hlen : 8 ≤ f.payload.length) :
    doImage f s =
      if f.flags % 2 = 1 then
        { s with ouv := { s.ouv with
          imgIn := [], imgSeq := rdLe f.payload 0 4
          imgReady := if ((s.imageSoFar f).zipIdx.all fun e => e.1.1 == e.2) = true then
            some (rdLe f.payload 0 4, s.imageSoFar f) else s.ouv.imgReady } }
      else { s with ouv := { s.ouv with imgIn := s.imageSoFar f, imgSeq := rdLe f.payload 0 4 } } := by
  unfold doImage
  rw [State.onFrame_of_frameOk hen hup _ hok (by decide) (by decide), if_neg (by simp [hfol, hlen])]
  rfl

/-! ### HANDOVER and ACK -/

/-- A node in service, in step and without authority accepts a HANDOVER and notes its tick (R358). -/
theorem doHandover_of_ready (hok : frameOk ouvHandover 8192 f = true) (hlen : 8 ≤ f.payload.length)
    (hservice : s.service = true) (hholds : s.holds = false) (hstep : s.partner = 3) :
    doHandover f s = { s.sendAck f.seq 0 with
      ouv := { (s.sendAck f.seq 0).ouv with hand := some (rdLe f.payload 0 8, false, f.seq, true) } } := by
  unfold doHandover
  rw [State.onFrame_of_frameOk hen hup _ hok (by decide) (by decide), if_neg (Nat.not_lt.mpr hlen),
    if_pos (by simp [hservice, hholds, hstep])]

/-- Any other node refuses a HANDOVER (R358). -/
theorem doHandover_of_not_ready (hok : frameOk ouvHandover 8192 f = true) (hlen : 8 ≤ f.payload.length)
    (hnot : s.service = false ∨ s.holds = true ∨ s.partner ≠ 3) : doHandover f s = s.sendAck f.seq 1 := by
  have hguard : ¬ (s.service && !s.holds && decide (s.partner = 3)) = true := by
    rcases hnot with h | h | h <;> simp [h]
  unfold doHandover
  rw [State.onFrame_of_frameOk hen hup _ hok (by decide) (by decide), if_neg (Nat.not_lt.mpr hlen), if_neg hguard]

/-- An accepting ACK of the awaited CONFIG ends its wait (R345, R402). -/
theorem doAck_of_cfgWait {l q : Nat} (hok : frameOk ouvAck 8192 f = true) (hlen : 8 ≤ f.payload.length)
    (hst : rdLe f.payload 4 4 = 0) (hwait : s.ouv.cfgWait = some (l, q)) (hseq : rdLe f.payload 0 4 = q)
    (hhand : s.ouv.hand = none) : doAck f s = { s with ouv := { s.ouv with cfgWait := none } } := by
  unfold doAck
  rw [State.onFrame_of_frameOk hen hup _ hok (by decide) (by decide), if_neg (by simp [hlen, hst])]
  simp [hwait, hseq, hhand]

/-- An accepting ACK of the awaited HANDOVER completes AUTH_HANDOVER with m (R358). -/
theorem doAck_of_hand {m q : Nat} (hok : frameOk ouvAck 8192 f = true) (hlen : 8 ≤ f.payload.length)
    (hst : rdLe f.payload 4 4 = 0) (hwait : s.ouv.cfgWait = none) (hhand : s.ouv.hand = some (m, true, q, false))
    (hseq : rdLe f.payload 0 4 = q) :
    doAck f s =
      ({ s with ouv := { s.ouv with hand := some (m, true, q, true) } } : State).finishOp 0x49 stOk (le 8 m) := by
  unfold doAck
  rw [State.onFrame_of_frameOk hen hup _ hok (by decide) (by decide), if_neg (by simp [hlen, hst])]
  simp [hwait, hhand, hseq]

end

theorem doOuvLink_of_lt {n : Nat} (h : n < 3) (s : State) : doOuvLink n s = s.wr Reg.GUARD.OUVSTAT.LINK n :=
  if_neg (Nat.not_le.mpr h)

/-- Settles O43: each frame passes R342, so it has its type's effect, which its LAST flag and the node's state choose. -/
theorem pairFrameRowsTakeEffect : Obligations.PairFrameRowsTakeEffect := by
  refine ⟨?heartbeat, ?config, ?image, ?handoverAccepted, ?handoverRefused, ?ackConfig, ?ackHandover, ?link⟩
  case heartbeat =>
    intro f s hen hup hok hlen
    rw [exec_heartbeat, doHeartbeat_of_frameOk hen hup hok hlen]
  case config =>
    rintro f l all s hen hup hok hfol hlen rfl rfl
    rw [exec_config, doConfig_of_frameOk hen hup hok hfol hlen]
    exact ⟨fun hmore => by rw [if_neg (by omega)]; rfl, fun hlast => by rw [if_pos hlast]; rfl⟩
  case image =>
    rintro f q all s hen hup hok hfol hlen rfl rfl
    rw [exec_image, doImage_of_frameOk hen hup hok hfol hlen]
    exact ⟨fun hmore => by rw [if_neg (by omega)]; rfl, fun hlast => by rw [if_pos hlast]; rfl⟩
  case handoverAccepted =>
    rintro f s u hen hup hok hlen rfl hservice hholds hstep
    rw [exec_handover, doHandover_of_ready hen hup hok hlen hservice hholds hstep]
  case handoverRefused =>
    intro f s hen hup hok hlen hnot
    rw [exec_handover, doHandover_of_not_ready hen hup hok hlen hnot]
  case ackConfig =>
    intro f l q s hen hup hok hlen hst hwait hseq hhand
    rw [exec_ack, doAck_of_cfgWait hen hup hok hlen hst hwait hseq hhand]
  case ackHandover =>
    intro f m q s hen hup hok hlen hst hwait hhand hseq
    rw [exec_ack, doAck_of_hand hen hup hok hlen hst hwait hhand hseq]
  case link =>
    intro n s hn
    rw [exec_ouvfelLinkStateChange, doOuvLink_of_lt hn]

end Sys2Proof.Machine
end

section
/-! The loss of the partner, state images and authority (R344, R346, R348, R351 to R359): what each row does once its
instant has come. -/
namespace Sys2Proof.Machine

theorem exec_partnerLost (s : State) : exec .partnerLost s = .next (doPartnerLost s) := rfl

theorem exec_configAckTimeout (s : State) : exec .configAckTimeout s = .next (doConfigTimeout s) := rfl

theorem exec_stateImageSend (s : State) : exec .stateImageSend s = .next (doImageSend s) := rfl

theorem exec_authHandover (d : Desc) (s : State) :
    exec (.authHandover d) s = .next (hostCmd 0x49 roleO d (authHandoverRes d) s) := rfl

theorem exec_handoverAckTimeout (s : State) : exec .handoverAckTimeout s = .next (doHandTimeout s) := rfl

theorem exec_handoverBoundary (s : State) : exec .handoverBoundary s = .next (doHandBoundary s) := rfl

theorem exec_authInSample (b : Bool) (s : State) : exec (.authInSample b) s = .next (doAuthIn b s) := rfl

theorem exec_authorityWatchdog (s : State) : exec .authorityWatchdog s = .next (doAuthWatchdog s) := rfl

/-! ### State images -/

theorem State.sameTopcoat_refl (s : State) : s.sameTopcoat s := ⟨rfl, rfl, rfl⟩

/-- Sending a frame changes nothing but the link's own state, so it leaves the topcoat. -/
theorem State.sameTopcoat_ouvSend {s t : State} (h : s.sameTopcoat t) (type flags : Nat) (payload : List Byte) :
    s.sameTopcoat (t.ouvSend type flags payload) := by
  unfold State.ouvSend
  split
  · exact h
  · exact h

/-- Past IMGPER an image of the node with authority is sent, numbered and timed; the topcoat stays (R348). -/
theorem doImageSend_of_due {s : State} (hpair : s.paired = true) (hholds : s.holds = true)
    (hrun : s.on Reg.TICK.STATUS.RUN = false ∨ s.eng.finished = false)
    (hdue : s.ouv.imgLast + s.rd Reg.GUARD.OUVCFG.IMGPER * 1000000 ≤ s.run) :
    (doImageSend s).ouv.imgSent = (s.ouv.imgSent + 1) % 2 ^ 32 ∧ (doImageSend s).ouv.imgLast = s.run ∧
      s.sameTopcoat (doImageSend s) := by
  have hopen : (s.on Reg.TICK.STATUS.RUN && s.eng.finished) = false := by
    rcases hrun with h | h <;> simp [h]
  unfold doImageSend
  rw [if_pos (by simp [hpair, hholds, hopen, hdue])]
  refine ⟨rfl, rfl, ?_⟩
  exact List.foldlRecOn _ _ s.sameTopcoat_refl fun t ht e _ => State.sameTopcoat_ouvSend ht _ _ _

/-! ### The partner's loss and timeouts -/

section
variable {s : State}

/-- After HBMISS ticks without a HEARTBEAT the partner reads as lost (R344). -/
theorem doPartnerLost_of_due (hen : s.on Reg.GUARD.OUVCFG.EN = true) (hheard : s.ouv.heard = true)
    (hdue : s.ouv.hbTick + s.rd Reg.GUARD.OUVCFG.HBMISS ≤ s.tick) :
    doPartnerLost s =
      ((({ s with ouv := { s.ouv with heard := false, imgIn := [], imgReady := none, cfgIn := none } } : State).wr
        Reg.GUARD.OUVSTAT.PARTNER 0).count Reg.GUARD.OUVCNT.LOST).log 0x0131 (le 8 s.ouv.hbSent) := by
  unfold doPartnerLost
  rw [if_pos (by simp [hen, hheard, hdue])]

/-- A CONFIG set not acknowledged by its launch's eve makes a partner in step read as joining (R346). -/
theorem doConfigTimeout_of_due {l q : Nat} (hwait : s.ouv.cfgWait = some (l, q)) (hdue : l ≤ s.tick + 1)
    (hstep : s.partner = 3) :
    doConfigTimeout s =
      ({ s with ouv := { s.ouv with cfgWait := none } } : State).wr Reg.GUARD.OUVSTAT.PARTNER 2 := by
  have hstill : ({ s with ouv := { s.ouv with cfgWait := none } } : State).partner = 3 := hstep
  unfold doConfigTimeout
  simp only [hwait]
  rw [if_neg (Nat.not_lt.mpr hdue), if_pos hstill]

/-- A HANDOVER not accepted two ticks before its own is refused (R358). -/
theorem doHandTimeout_of_due {m q : Nat} (hhand : s.ouv.hand = some (m, true, q, false)) (hdue : m ≤ s.tick + 2) :
    doHandTimeout s = ({ s with ouv := { s.ouv with hand := none } } : State).finishOp 0x49 stRefused := by
  unfold doHandTimeout
  simp only [hhand]
  rw [if_neg (Nat.not_lt.mpr hdue)]

/-! ### Hand-over and the release of authority -/

/-- AUTH_HANDOVER of a node with authority and a partner in step sends HANDOVER and waits for its ACK (R358). -/
theorem authHandoverRes_of_holds {d : Desc} (hns : d.a2 < 1000000000) (hholds : s.holds = true)
    (hen : s.on Reg.GUARD.OUVCFG.EN = true) (hstep : s.partner = 3) (hhand : s.ouv.hand = none) {m : Nat} {t : State}
    (hm : m = s.tickFrom (s.readNs d) (d.rbuf * 1000000000 + d.a2) 4) (ht : t = s.ouvSend ouvHandover 0 (le 8 m)) :
    authHandoverRes d s = longRes { t with ouv := { t.ouv with hand := some (m, true, s.ouv.txSeq, false) } } := by
  subst hm ht
  unfold authHandoverRes
  rw [if_neg (Nat.not_le.mpr hns), if_neg (by simp [hholds, hen, hstep]), if_neg (by simp [hhand])]

/-- From its tick on the releasing node drops its authority (R358, R359). -/
theorem doHandBoundary_of_releasing {m q : Nat} (hhand : s.ouv.hand = some (m, true, q, true)) (hdue : m ≤ s.tick) :
    doHandBoundary s = ({ s with ouv := { s.ouv with hand := none } } : State).dropAuth 0 := by
  unfold doHandBoundary
  simp only [hhand]
  rw [if_neg (Nat.not_lt.mpr hdue), if_pos trivial]

/-- From its tick on the taking node raises its authority once AUTH_IN is low, and waits until then (R351, R359). -/
theorem doHandBoundary_of_taking {m q : Nat} (hhand : s.ouv.hand = some (m, false, q, true)) (hdue : m ≤ s.tick)
    (hholds : s.holds = false) :
    doHandBoundary s =
      if s.on Reg.GUARD.OUVSTAT.AUTH_IN then s
      else (({ s with ouv := { s.ouv with hand := none } } : State).raiseAuth).tookAuth 3 := by
  have hout : ¬ ({ s with ouv := { s.ouv with hand := none } } : State).holds = true := Bool.eq_false_iff.mp hholds
  unfold doHandBoundary
  simp only [hhand]
  rw [if_neg (Nat.not_lt.mpr hdue), if_neg Bool.false_ne_true, if_neg hout]
  rfl

theorem doHandBoundary_of_hand_eq_none (hhand : s.ouv.hand = none) : doHandBoundary s = s := by
  simp only [doHandBoundary, hhand]

/-- A node that has just taken authority drops it where AUTH_IN is high, and keeps it where it is low (R354). -/
theorem doAuthIn_of_justTaken {r : Nat} (htaken : s.ouv.justTaken = some r) (b : Bool) :
    doAuthIn b s = if b then (s.put Reg.GUARD.OUVSTAT.AUTH_IN b).dropPin
      else (s.put Reg.GUARD.OUVSTAT.AUTH_IN b).tookAuth r := by
  simp only [doAuthIn, State.put_ouv, htaken]

/-- Otherwise the sample only shows AUTH_IN, where no hand-over waits for it to be low (R354, R359). -/
theorem doAuthIn_of_justTaken_eq_none {b : Bool} (htaken : s.ouv.justTaken = none) (hwait : b = true ∨ s.ouv.hand = none) :
    doAuthIn b s = s.put Reg.GUARD.OUVSTAT.AUTH_IN b := by
  simp only [doAuthIn, State.put_ouv, htaken]
  rcases hwait with rfl | hhand
  · rfl
  · have hput : (s.put Reg.GUARD.OUVSTAT.AUTH_IN b).ouv.hand = none := hhand
    rw [doHandBoundary_of_hand_eq_none hput, ite_self]

/-- What the release of held authority does: the pin, the open transaction, the count and the entry (R355, R357, R401). -/
theorem State.dropAuth_of_holds (hholds : s.holds = true) (reason : Nat) :
    s.dropAuth reason =
      ((s.dropPin.discardOpen 1).count Reg.GUARD.OUVCNT.HANDOVER).log 0x0134 (le 1 reason) := if_pos hholds

/-- After TICKS ticks without a flip the watchdog releases authority (R357). -/
theorem doAuthWatchdog_of_due (hholds : s.holds = true)
    (hdue : s.guard.lastFlip + s.rd Reg.GUARD.AUTHWD.TICKS ≤ s.tick) : doAuthWatchdog s = s.dropAuth 3 :=
  if_pos (by simp [hholds, hdue])

end

/-- Settles O44: each row's instant has come and its checks pass, so it has its effect. -/
theorem authorityRowsTakeEffect : Obligations.AuthorityRowsTakeEffect := by
  refine ⟨?partnerLost, ?configAckTimeout, ?stateImageSend, ?authHandover, ?handoverAckTimeout, ?releasing, ?taking,
    ?justTaken, ?notTaken, ?watchdog⟩
  case partnerLost =>
    intro s hen hheard hdue
    rw [exec_partnerLost, doPartnerLost_of_due hen hheard hdue]
  case configAckTimeout =>
    intro l q s hwait hdue hstep
    rw [exec_configAckTimeout, doConfigTimeout_of_due hwait hdue hstep]
  case stateImageSend =>
    intro s hpair hholds hrun hdue
    exact ⟨_, exec_stateImageSend s, doImageSend_of_due hpair hholds hrun hdue⟩
  case authHandover =>
    rintro d m s u v hadm rfl hns hholds hen hstep hhand hm hv
    rw [exec_authHandover, hostCmd_long hadm (authHandoverRes_of_holds hns hholds hen hstep hhand hm hv)]
  case handoverAckTimeout =>
    intro m q s hhand hdue
    rw [exec_handoverAckTimeout, doHandTimeout_of_due hhand hdue]
  case releasing =>
    intro m q s hhand hdue
    rw [exec_handoverBoundary, doHandBoundary_of_releasing hhand hdue]
  case taking =>
    intro m q s hhand hdue hholds
    rw [exec_handoverBoundary, doHandBoundary_of_taking hhand hdue hholds]
    exact ⟨fun hlow => by rw [if_neg (Bool.eq_false_iff.mp hlow)], fun hhigh => by rw [if_pos hhigh]⟩
  case justTaken =>
    intro r s htaken
    exact ⟨by rw [exec_authInSample, doAuthIn_of_justTaken htaken, if_pos rfl],
      by rw [exec_authInSample, doAuthIn_of_justTaken htaken, if_neg Bool.false_ne_true]⟩
  case notTaken =>
    intro b s htaken hwait
    rw [exec_authInSample, doAuthIn_of_justTaken_eq_none htaken hwait]
  case watchdog =>
    intro s hholds hdue
    rw [exec_authorityWatchdog, doAuthWatchdog_of_due hholds hdue, State.dropAuth_of_holds hholds]

end Sys2Proof.Machine
end

section
/-! The step on an empty queue: one clock cycle of the time base (R415). -/
namespace Sys2Proof.Machine

/-- A step with nothing queued is one clock cycle (the model's choice, log 1). -/
theorem step_of_pending_eq_nil {s : State} (h : s.pending = []) : step s = .next (clockCycle s) := by
  simp only [step, h]

/-- Settles O2: whole units and remainder of the increment make up the increment, so none of it is lost (R415). -/
theorem idleStepCountsOneClockCycle : Obligations.IdleStepCountsOneClockCycle := by
  intro s hidle
  refine ⟨(clockCycle s).time, step_of_pending_eq_nil hidle, ?_, ?_, rfl⟩
  · simp only [clockCycle]
    omega
  · simp only [clockCycle]
    rw [Nat.add_sub_cancel_left, Nat.div_add_mod']

end Sys2Proof.Machine
end

section
/-! What a write of block TIME leaves: the effects outside the block (violations, silt log, event ring, reference slots)
change none of its registers, and the write itself is one word and the block's own hook. -/
namespace Sys2Proof.Machine

/-- Two states hold the same registers of block TIME, the same ports and the same launch outputs. -/
structure State.KeepsTime (s t : State) : Prop where
  word : ∀ o, o / 0x10000 = 8 → t.word o = s.word o
  ports : t.ports = s.ports
  starts : t.starts = s.starts

theorem State.KeepsTime.refl (s : State) : s.KeepsTime s := ⟨fun _ _ => rfl, rfl, rfl⟩

theorem State.KeepsTime.trans {s t u : State} (h : s.KeepsTime t) (h' : t.KeepsTime u) : s.KeepsTime u :=
  ⟨fun o ho => (h'.word o ho).trans (h.word o ho), h'.ports.trans h.ports, h'.starts.trans h.starts⟩

theorem State.KeepsTime.of_fields {s t : State} (hregs : t.regs = s.regs) (hports : t.ports = s.ports)
    (hstarts : t.starts = s.starts) : s.KeepsTime t :=
  ⟨fun _ _ => by simp only [State.word, hregs], hports, hstarts⟩

theorem State.KeepsTime.ite {s t u : State} {p : Prop} [Decidable p] (ht : s.KeepsTime t) (hu : s.KeepsTime u) :
    s.KeepsTime (if p then t else u) := by
  split
  · exact ht
  · exact hu

section
variable {s t : State}

theorem State.KeepsTime.rd (h : s.KeepsTime t) {f : Fld} (hf : f.off / 0x10000 = 8) : t.rd f = s.rd f := by
  unfold State.rd
  rw [h.word _ hf]

theorem State.KeepsTime.on (h : s.KeepsTime t) {f : Fld} (hf : f.off / 0x10000 = 8) : t.on f = s.on f := by
  unfold State.on
  rw [h.rd hf]

theorem State.KeepsTime.port (h : s.KeepsTime t) (p : Nat) : t.port p = s.port p := by
  unfold State.port
  rw [h.ports]

theorem State.KeepsTime.lout (h : s.KeepsTime t) (j : Nat) : t.lout j = s.lout j := by
  unfold State.lout
  rw [h.starts]

theorem State.KeepsTime.wr (h : s.KeepsTime t) {f : Fld} (hf : f.off / 0x10000 ≠ 8) (v : Nat) :
    s.KeepsTime (t.wr f v) :=
  h.trans ⟨fun _ ho => t.word_wr_other f v fun e => hf (e ▸ ho), rfl, rfl⟩

theorem State.KeepsTime.put (h : s.KeepsTime t) {f : Fld} (hf : f.off / 0x10000 ≠ 8) (b : Bool) :
    s.KeepsTime (t.put f b) := h.wr hf _

theorem State.KeepsTime.count (h : s.KeepsTime t) {f : Fld} (hf : f.off / 0x10000 ≠ 8) (n : Nat) :
    s.KeepsTime (t.count f n) := h.wr hf _

theorem State.KeepsTime.siltWrite (h : s.KeepsTime t) (code : Nat) (data : List Byte) (cite : Option Nat) :
    s.KeepsTime (t.siltWrite code data cite) := by
  refine State.KeepsTime.wr (f := Reg.STORE.SILT.HEAD) ?_ (by decide) _
  exact h.trans (.of_fields rfl rfl rfl)

theorem State.KeepsTime.post (h : s.KeepsTime t) (typ : Nat) (payload : List Byte) :
    s.KeepsTime (t.post typ payload) := by
  refine .ite (h.trans (.of_fields rfl rfl rfl)) (.ite (h.trans (.of_fields rfl rfl rfl)) ?_)
  refine State.KeepsTime.count (f := Reg.HOST.CNT.EVTLOST) ?_ (by decide) _
  exact h.trans (.of_fields rfl rfl rfl)

theorem State.KeepsTime.log (h : s.KeepsTime t) (code : Nat) (data : List Byte) (cite : Option Nat) :
    s.KeepsTime (t.log code data cite) := (h.siltWrite code data cite).post _ _

/-- Showing EVAL writes `SEC.STATUS` and the silt log alone (R891). -/
theorem State.keepsTime_showEval (s old : State) : s.KeepsTime (s.showEval old) := by
  unfold State.showEval
  exact .ite (.refl s) (.siltWrite (.put (.refl s) (by decide) _) _ _ _)

end

/-! ### The reference slots (R475 to R478) -/

theorem slotStat_off (i : Nat) : (589892 + 16 * i) / 0x10000 ≠ 8 := by omega

theorem slotFreq_off (i : Nat) : (589896 + 16 * i) / 0x10000 ≠ 8 := by omega

theorem slotCnt_off (i : Nat) : (589900 + 16 * i) / 0x10000 ≠ 8 := by omega

section
variable {s t : State}

theorem State.KeepsTime.setSlot (h : s.KeepsTime t) (i : Nat) (x : RefSlot) : s.KeepsTime (t.setSlot i x) :=
  h.trans (.of_fields rfl rfl rfl)

theorem State.KeepsTime.putReason (h : s.KeepsTime t) (i bit : Nat) (b : Bool) : s.KeepsTime (t.putReason i bit b) :=
  h.wr (slotStat_off i) _

theorem State.KeepsTime.discardMeasures (h : s.KeepsTime t) (i : Nat) : s.KeepsTime (t.discardMeasures i) := by
  unfold State.discardMeasures
  have hfreq (x : RefSlot) (v : Int) : s.KeepsTime ((t.setSlot i x).wrInt (Reg.REFSEL.SLOT.FREQ i) v) :=
    (h.setSlot i x).wr (slotFreq_off i) _
  exact .ite ((hfreq _ _).trans (.of_fields rfl rfl rfl)) (hfreq _ _)

theorem State.KeepsTime.disqualify (h : s.KeepsTime t) (i bit : Nat) : s.KeepsTime (t.disqualify i bit) := by
  unfold State.disqualify
  have hmarked : s.KeepsTime (t.putReason i bit true) := h.putReason i bit true
  have hstat {a : State} (ha : s.KeepsTime a) : s.KeepsTime (((a.put (Reg.REFSEL.SLOT.STAT.QUALIFIED i) false).put
      (Reg.REFSEL.SLOT.STAT.SELECTABLE i) false).put (Reg.REFSEL.SLOT.STAT.OUTVOTED i) false) :=
    ((ha.put (slotStat_off i) _).put (slotStat_off i) _).put (slotStat_off i) _
  exact .ite h (.ite hmarked (.log ((hstat ((hmarked.count (slotCnt_off i) 1).discardMeasures i)).setSlot i _ |>.wr
    (slotStat_off i) 0) _ _ _))

theorem State.KeepsTime.judge (h : s.KeepsTime t) (i : Nat) : s.KeepsTime (t.judge i) := by
  unfold State.judge
  have heffq := h.wr (f := Reg.REFSEL.SLOT.STAT.EFFQ i) (slotStat_off i) (t.quality i)
  exact .ite ((heffq.put (slotStat_off i) _).put (slotStat_off i) _)
    (.put (.wr (.put (heffq.setSlot i _) (slotStat_off i) _) (slotStat_off i) _) (slotStat_off i) _)

/-- The Source monitor of a slot changes registers of REFSEL, the silt log and the event ring alone (Table 9.4). -/
theorem State.KeepsTime.sourceTest (h : s.KeepsTime t) (i : Nat) : s.KeepsTime (t.sourceTest i) := by
  unfold State.sourceTest
  exact State.KeepsTime.judge (.ite (h.disqualify i _) (h.putReason i _ _)) i

end

/-! ### The write itself -/

/-- A write that acts is the write of the listed register (R8). -/
theorem State.writeReg_of_writes {s : State} {q : Requester} {off : Nat} {fs : List RField} (h : s.Writes q off fs)
    (v : Word) : s.writeReg q off v = s.writeMapped q off fs v := by
  unfold State.writeReg
  simp only [h.live, h.open_, h.aligned, h.mapped, Bool.false_eq_true, Bool.or_false, ne_eq, not_true_eq_false,
    decide_false, if_false]

/-- No field of block TIME is shadowed or locked (chapter 8). -/
theorem regsTime_types : ∀ d ∈ regsTime, ∀ f ∈ d.fields, f.ty ≠ .sh ∧ f.ty ≠ .lk := by decide

theorem blockRegs_time {off : Nat} (h : off / 0x10000 = 8) : blockRegs off = regsTime := by
  unfold blockRegs
  rw [if_neg (by omega), if_neg (by omega), if_neg (by omega), if_neg (by omega), if_neg (by omega), if_neg (by omega),
    if_pos (by omega)]

theorem regFields_time_types {off : Nat} {fs : List RField} (h : off / 0x10000 = 8) (hfs : regFields off = some fs) :
    ∀ f ∈ fs, f.ty ≠ .sh ∧ f.ty ≠ .lk := by
  unfold regFields at hfs
  rw [blockRegs_time h] at hfs
  obtain ⟨d, hd, rfl⟩ := Option.map_eq_some_iff.mp hfs
  exact regsTime_types d (List.mem_of_find?_eq_some hd)

/-- Only a locked field makes a write a violation (R935). -/
theorem State.writeField_snd (s : State) (off : Nat) (w : Word) (acc : Word × Bool) {f : RField} (h : f.ty ≠ .lk) :
    (s.writeField off w acc f).2 = acc.2 := by
  unfold State.writeField
  cases hty : f.ty with
  | lk => exact absurd hty h
  | ro | wo | sh | w1c => rfl
  | rw | w1s => dsimp only; split <;> rfl

theorem State.foldl_writeField_snd (s : State) (off : Nat) (w : Word) (fs : List RField) (acc : Word × Bool)
    (h : ∀ f ∈ fs, f.ty ≠ .lk) : (fs.foldl (s.writeField off w) acc).2 = acc.2 := by
  induction fs generalizing acc with
  | nil => rfl
  | cons f fs ih =>
    rw [List.foldl_cons, ih _ fun g hg => h g (List.mem_cons_of_mem f hg),
      s.writeField_snd off w acc (h f List.mem_cons_self)]

/-- `TIME.CTRL` is the one clearing register of the block. -/
theorem clearOffs_time : ∀ o ∈ clearOffs, o / 0x10000 = 8 → o = 0x80000 := by decide

/-- A write of block TIME stores one word, runs the block's hook and shows EVAL. -/
theorem State.writeMapped_time {s : State} {q : Requester} {off : Nat} {fs : List RField} (hblock : off / 0x10000 = 8)
    (hctrl : off ≠ 0x80000) (hfs : regFields off = some fs) (v : Word) :
    ∃ w, s.writeMapped q off fs v = ((s.setWord off w).hookTime s off v).showEval s := by
  have htypes := regFields_time_types hblock hfs
  have hclear : clearOffs.contains off = false := by
    rw [List.contains_eq_mem, decide_eq_false_iff_not]
    exact fun hmem => hctrl (clearOffs_time off hmem hblock)
  have hshadow : fs.any (fun f => f.ty == .sh) = false := by
    rw [List.any_eq_false]
    exact fun f hf => by simpa using (htypes f hf).1
  refine ⟨(fs.foldl (s.writeField off v) (s.word off, false)).1, ?_⟩
  unfold State.writeMapped State.hook
  simp only [hshadow, hclear, hblock, s.foldl_writeField_snd off v fs _ fun f hf => (htypes f hf).2,
    Bool.false_eq_true, Bool.false_and, if_false]

/-- A write of another register leaves a field. -/
theorem State.rd_setWord_other (s : State) {f : Fld} {o : Nat} (w : Word) (h : f.off ≠ o) :
    (s.setWord o w).rd f = s.rd f := by
  unfold State.rd
  rw [s.word_setWord_other w h]

theorem State.on_setWord_other (s : State) {f : Fld} {o : Nat} (w : Word) (h : f.off ≠ o) :
    (s.setWord o w).on f = s.on f := by
  unfold State.on
  rw [s.rd_setWord_other w h]

theorem arrIdx_elem {base stride count j : Nat} (hs : 0 < stride) (hj : j < count) :
    arrIdx base stride count (base + stride * j) = some j := by
  unfold arrIdx
  rw [Nat.add_sub_cancel_left, Nat.mul_mod_right, Nat.mul_div_cancel_left j hs, if_pos (by simp [hj])]

end Sys2Proof.Machine
end

section
/-! Launch outputs (R462 to R467): how a programmed start is judged, what ARM and DISARM come to once their register is
written, and what a pulse's start and end do. -/
namespace Sys2Proof.Machine

/-! ### The outputs' states -/

@[simp] theorem State.lout_setLout_same {s : State} {j : Nat} (x : LaunchOut) (h : j < s.starts.length) :
    (s.setLout j x).lout j = x := by
  simp [State.lout, State.setLout, atD, h]

@[simp] theorem State.setLout_setLout (s : State) (j : Nat) (x y : LaunchOut) :
    (s.setLout j x).setLout j y = s.setLout j y := by
  simp [State.setLout]

@[simp] theorem State.lout_wr (s : State) (f : Fld) (v j : Nat) : (s.wr f v).lout j = s.lout j := rfl

/-- An output in a pulse is one of the list. -/
theorem State.lt_of_pulseEnd {s : State} {j t : Nat} (h : (s.lout j).pulseEnd = some t) : j < s.starts.length := by
  by_contra hlt
  have hnone : s.starts[j]? = none := List.getElem?_eq_none (Nat.not_lt.mp hlt)
  simp [State.lout, atD, hnone] at h

theorem launchStat_block {j : Nat} (hj : j < 8) : (Reg.TIME.ST.CTRL.STAT j).off / 0x10000 = 8 := by
  simp only [Reg.TIME.ST.CTRL.STAT]
  omega

/-- STAT of an output reads what the part sets it to. -/
theorem State.rd_wr_launchStat (s : State) (j : Nat) {n : Nat} (h : n < 8) :
    (s.wr (Reg.TIME.ST.CTRL.STAT j) n).rd (Reg.TIME.ST.CTRL.STAT j) = n :=
  (s.rd_wr_same _ n rfl).trans (Nat.mod_eq_of_lt h)

/-- The output without a pending start, and a value in its STAT. -/
def State.unarmed (s : State) (j n : Nat) : State :=
  (s.setLout j { s.lout j with armed := none, rearm := none }).wr (Reg.TIME.ST.CTRL.STAT j) n

theorem State.lout_unarmed {s : State} {j : Nat} (hj : j < s.starts.length) (n : Nat) :
    (s.unarmed j n).lout j = { s.lout j with armed := none, rearm := none } :=
  (State.lout_wr _ _ _ _).trans (State.lout_setLout_same _ hj)

theorem State.rd_unarmed (s : State) (j : Nat) {n : Nat} (h : n < 8) :
    (s.unarmed j n).rd (Reg.TIME.ST.CTRL.STAT j) = n := State.rd_wr_launchStat _ j h

/-! ### Judging a start (R463) -/

/-- The WIDTH and PERIOD that an output takes: 10 ns to 1 s, and single or longer than both WIDTH and 999 ns. -/
def Rearm.Fits (r : Rearm) : Prop :=
  10 ≤ r.width ∧ r.width ≤ 999999999 ∧ (r.period = 0 ∨ r.width < r.period ∧ 1000 ≤ r.period)

section
variable {s : State} {j : Nat} {r : Rearm}

theorem State.judgeArm_of_not_stepped (hstep : s.on Reg.TIME.STATUS.STEPPED = false) :
    s.judgeArm j r = s.unarmed j 4 := by
  unfold State.judgeArm
  simp only [hstep, Bool.not_false, if_true]
  rfl

theorem Rearm.fits_iff_test : r.Fits ↔ ¬ ((r.width < 10 || 999999999 < r.width ||
    (r.period ≠ 0 && (r.period ≤ r.width || r.period < 1000))) = true) := by
  simp only [Rearm.Fits, ne_eq, Bool.or_eq_true, Bool.and_eq_true, decide_eq_true_eq]
  omega

theorem State.judgeArm_of_not_fits (hstep : s.on Reg.TIME.STATUS.STEPPED = true) (hfits : ¬ r.Fits) :
    s.judgeArm j r = s.unarmed j 3 := by
  unfold State.judgeArm
  dsimp only
  rw [if_neg (by simp [hstep]), if_pos (not_not.mp (mt Rearm.fits_iff_test.mpr hfits))]
  rfl

theorem State.judgeArm_of_near (hstep : s.on Reg.TIME.STATUS.STEPPED = true) (hfits : r.Fits)
    (hnear : r.start < s.ns + 1000) : s.judgeArm j r = (s.unarmed j 2).post 0x0017 (le 1 j) := by
  unfold State.judgeArm
  dsimp only
  rw [if_neg (by simp [hstep]), if_neg (Rearm.fits_iff_test.mp hfits), if_pos hnear]
  rfl

theorem State.judgeArm_of_far (hstep : s.on Reg.TIME.STATUS.STEPPED = true) (hfits : r.Fits)
    (hfar : s.ns + 1000 ≤ r.start) :
    s.judgeArm j r = (s.setLout j { s.lout j with
      armed := some r.start, width := r.width, period := r.period, rearm := none, stopAfter := false }).wr
        (Reg.TIME.ST.CTRL.STAT j) 1 := by
  unfold State.judgeArm
  dsimp only
  rw [if_neg (by simp [hstep]), if_neg (Rearm.fits_iff_test.mp hfits), if_neg (Nat.not_lt.mpr hfar)]

/-- With no pending start less than 1 us ahead, ARM judges the programmed start at once (R463). -/
theorem State.arm_of_far (h : ∀ t, (s.lout j).armed = some t → s.ns + 1000 ≤ t) :
    s.arm j = s.judgeArm j (s.program j) := by
  unfold State.arm
  cases harmed : (s.lout j).armed with
  | none => simp only [harmed]
  | some t => simp only [harmed, if_neg (Nat.not_lt.mpr (h t harmed))]

/-- With one less than 1 us ahead, ARM waits for that pulse's end (R464). -/
theorem State.arm_of_near {n : Nat} (harmed : (s.lout j).armed = some n) (hnear : n < s.ns + 1000) :
    s.arm j = s.setLout j { s.lout j with rearm := some { s.program j with after := n } } := by
  unfold State.arm
  simp only [harmed, if_pos hnear]

theorem State.disarm_of_pulse {t : Nat} (h : (s.lout j).pulseEnd = some t) :
    s.disarm j = s.setLout j { s.lout j with armed := none, stopAfter := true, rearm := none } := by
  unfold State.disarm
  exact if_pos (by simp [h])

theorem State.disarm_of_no_pulse (h : (s.lout j).pulseEnd = none) : s.disarm j = s.unarmed j 0 := by
  unfold State.disarm
  exact if_neg (by simp [h])

/-! ### Writes of `TIME.ST[j].CTRL` -/

/-- What ARM takes with it stands in other registers than the one it is written to. -/
@[simp] theorem State.program_setWord_ctrl (s : State) (j : Nat) (w : Word) :
    (s.setWord (0x80214 + 32 * j) w).program j = s.program j := by
  have hrd {f : Fld} (h : f.off ≠ 0x80214 + 32 * j) : (s.setWord (0x80214 + 32 * j) w).rd f = s.rd f :=
    s.rd_setWord_other w h
  simp only [State.program, State.startOf]
  rw [hrd (f := Reg.TIME.ST.TS_HI j), hrd (f := Reg.TIME.ST.TS_LO j), hrd (f := Reg.TIME.ST.TNS j),
    hrd (f := Reg.TIME.ST.WIDTH j), hrd (f := Reg.TIME.ST.PERIOD j)]
  all_goals simp only [Reg.TIME.ST.TS_HI, Reg.TIME.ST.TS_LO, Reg.TIME.ST.TNS, Reg.TIME.ST.WIDTH, Reg.TIME.ST.PERIOD]
  all_goals omega

@[simp] theorem State.stepped_setWord_ctrl (s : State) (j : Nat) (w : Word) :
    (s.setWord (0x80214 + 32 * j) w).on Reg.TIME.STATUS.STEPPED = s.on Reg.TIME.STATUS.STEPPED :=
  s.on_setWord_other w (by simp only [Reg.TIME.STATUS.STEPPED]; omega)

/-- After its write ARM judges what stood programmed before it. -/
theorem State.arm_setWord_ctrl_of_far (h : ∀ t, (s.lout j).armed = some t → s.ns + 1000 ≤ t) (w : Word) :
    (s.setWord (0x80214 + 32 * j) w).arm j = (s.setWord (0x80214 + 32 * j) w).judgeArm j (s.program j) := by
  have harm := State.arm_of_far (s := s.setWord (0x80214 + 32 * j) w) h
  rwa [State.program_setWord_ctrl] at harm

end

theorem exec_launchOutputArm (q : Requester) (j : Nat) (v : Word) (s : State) :
    exec (.launchOutputArm q j v) s =
      .next (if j < 8 && getBits v 0 1 = 1 then s.writeReg q (0x80214 + 32 * j) v else s) := rfl

theorem exec_launchOutputDisarm (q : Requester) (j : Nat) (v : Word) (s : State) :
    exec (.launchOutputDisarm q j v) s =
      .next (if j < 8 && getBits v 1 1 = 1 then s.writeReg q (0x80214 + 32 * j) v else s) := rfl

section
variable {s : State} {q : Requester} {v : Word} {j : Nat} {fs : List RField}

/-- The hook of `CTRL`: DISARM first, then ARM (R463 to R465). -/
theorem State.hookTime_ctrl (t s : State) (v : Word) (hj : j < 8) :
    t.hookTime s (0x80214 + 32 * j) v =
      if getBits v 0 1 = 1 then (if getBits v 1 1 = 1 then t.disarm j else t).arm j
      else if getBits v 1 1 = 1 then t.disarm j else t := by
  unfold State.hookTime
  rw [arrIdx_elem (by decide) hj]

/-- A write of `CTRL` stores the word, runs the hook and shows EVAL. -/
theorem State.writeReg_ctrl (hw : s.Writes q (0x80214 + 32 * j) fs) (hj : j < 8) (v : Word) :
    ∃ w, s.writeReg q (0x80214 + 32 * j) v =
      ((s.setWord (0x80214 + 32 * j) w).hookTime s (0x80214 + 32 * j) v).showEval s := by
  obtain ⟨w, hwrite⟩ := State.writeMapped_time (s := s) (q := q) (by omega) (by omega) hw.mapped v
  exact ⟨w, (State.writeReg_of_writes hw v).trans hwrite⟩

/-- A written ARM without DISARM stores the word and arms. -/
theorem exec_launchOutputArm_of_writes (hw : s.Writes q (0x80214 + 32 * j) fs) (hj : j < 8)
    (harm : getBits v 0 1 = 1) (hdis : getBits v 1 1 = 0) :
    ∃ w, exec (.launchOutputArm q j v) s = .next (((s.setWord (0x80214 + 32 * j) w).arm j).showEval s) := by
  obtain ⟨w, hwrite⟩ := State.writeReg_ctrl hw hj v
  refine ⟨w, ?_⟩
  rw [State.hookTime_ctrl _ s v hj, if_pos harm, if_neg (by omega)] at hwrite
  rw [← hwrite, exec_launchOutputArm, if_pos (by simp [hj, harm])]

/-- A written DISARM without ARM stores the word and disarms. -/
theorem exec_launchOutputDisarm_of_writes (hw : s.Writes q (0x80214 + 32 * j) fs) (hj : j < 8)
    (harm : getBits v 0 1 = 0) (hdis : getBits v 1 1 = 1) :
    ∃ w, exec (.launchOutputDisarm q j v) s = .next (((s.setWord (0x80214 + 32 * j) w).disarm j).showEval s) := by
  obtain ⟨w, hwrite⟩ := State.writeReg_ctrl hw hj v
  refine ⟨w, ?_⟩
  rw [State.hookTime_ctrl _ s v hj, if_neg (by omega), if_pos hdis] at hwrite
  rw [← hwrite, exec_launchOutputDisarm, if_pos (by simp [hj, hdis])]

end

/-! ### Pulses (R462, R464, R465) -/

theorem exec_launchOutputPulse (j : Nat) (s : State) : exec (.launchOutputPulse j) s = .next (doPulse j s) := rfl

theorem exec_launchOutputPulseEnd (j : Nat) (s : State) :
    exec (.launchOutputPulseEnd j) s = .next (doPulseEnd j s) := rfl

section
variable {s : State} {j t : Nat}

theorem doPulse_of_due (harmed : (s.lout j).armed = some t) (hdue : t ≤ s.ns) (hidle : (s.lout j).pulseEnd = none) :
    doPulse j s = s.setLout j { s.lout j with
      began := t
      pulseEnd := some (t + (s.lout j).width)
      armed := if (s.lout j).period = 0 then none else some (t + (s.lout j).period) } := by
  have hwait : ¬ (decide (s.ns < t) || (s.lout j).pulseEnd.isSome) = true := by simp [hidle, hdue]
  unfold doPulse
  simp only [harmed]
  rw [if_neg hwait]

/-- The output behind an ended pulse. -/
def State.pulseOver (s : State) (j : Nat) : State := s.setLout j { s.lout j with pulseEnd := none, stopAfter := false }

section
variable (hpulse : (s.lout j).pulseEnd = some t) (hdue : t ≤ s.ns)
include hpulse hdue

theorem doPulseEnd_of_stop (hstop : (s.lout j).stopAfter = true) :
    doPulseEnd j s = (s.pulseOver j).wr (Reg.TIME.ST.CTRL.STAT j) 0 := by
  simp only [doPulseEnd, State.pulseOver, hpulse, if_neg (Nat.not_lt.mpr hdue), hstop, if_true]

/-- A start that waited for this pulse is judged; one that waits for a later pulse waits on (R464). -/
theorem doPulseEnd_of_rearm {r : Rearm} (hstop : (s.lout j).stopAfter = false) (hrearm : (s.lout j).rearm = some r) :
    doPulseEnd j s = if r.after ≤ (s.lout j).began then (s.pulseOver j).judgeArm j r else s.pulseOver j := by
  simp only [doPulseEnd, State.pulseOver, hpulse, if_neg (Nat.not_lt.mpr hdue), hstop, hrearm, Bool.false_eq_true,
    if_false]

/-- Without one, the last pulse of an armed output leaves STAT 0 and a periodic output goes on (R462). -/
theorem doPulseEnd_of_no_rearm (hstop : (s.lout j).stopAfter = false) (hrearm : (s.lout j).rearm = none) :
    doPulseEnd j s = if ((s.lout j).armed.isNone && s.rd (Reg.TIME.ST.CTRL.STAT j) = 1) = true then
      (s.pulseOver j).wr (Reg.TIME.ST.CTRL.STAT j) 0 else s.pulseOver j := by
  simp only [doPulseEnd, State.pulseOver, hpulse, if_neg (Nat.not_lt.mpr hdue), hstop, hrearm, Bool.false_eq_true,
    if_false]

end

/-- A start that fits and lies far enough ahead is armed behind the pulse that it waited for. -/
theorem State.judgeArm_pulseOver_of_far {r : Rearm} (hj : j < s.starts.length)
    (hstep : s.on Reg.TIME.STATUS.STEPPED = true) (hfits : r.Fits) (hfar : s.ns + 1000 ≤ r.start) :
    (s.pulseOver j).judgeArm j r = (s.setLout j { s.lout j with
      armed := some r.start, width := r.width, period := r.period, rearm := none, pulseEnd := none
      stopAfter := false }).wr (Reg.TIME.ST.CTRL.STAT j) 1 := by
  have hover : (s.pulseOver j).judgeArm j r = _ := State.judgeArm_of_far (s := s.pulseOver j) hstep hfits hfar
  rw [hover, State.pulseOver, State.lout_setLout_same _ hj, State.setLout_setLout]

end

/-- Settles O18: a written ARM is judged, or waits; a pulse begins and ends as armed. -/
theorem launchOutputRowsTakeEffect : Obligations.LaunchOutputRowsTakeEffect := by
  refine ⟨?armGood, ?armBad, ?armWaits, ?disarm, ?pulse, ?endIdle, ?endArmed, ?endStop, ?endRearm⟩
  case armGood =>
    intro q v j s fs hw hj harm hdis hlen hpend hstep hmin hmax hper hfar
    obtain ⟨w, hexec⟩ := exec_launchOutputArm_of_writes hw hj harm hdis
    have hlt : j < (s.setWord (0x80214 + 32 * j) w).starts.length := hlen ▸ hj
    have hkeeps := State.keepsTime_showEval ((s.setWord (0x80214 + 32 * j) w).arm j) s
    have hjudge : (s.setWord (0x80214 + 32 * j) w).judgeArm j (s.program j) = _ :=
      State.judgeArm_of_far (by rwa [State.stepped_setWord_ctrl]) ⟨hmin, hmax, hper⟩ hfar
    refine ⟨_, hexec, ?_⟩
    rw [hkeeps.lout, hkeeps.rd (launchStat_block hj), State.arm_setWord_ctrl_of_far hpend, hjudge, State.lout_wr,
      State.lout_setLout_same _ hlt, State.rd_wr_launchStat _ _ (by decide)]
    exact ⟨rfl, rfl, rfl, rfl, rfl⟩
  case armBad =>
    intro q v j n s fs hw hj harm hdis hlen hpend hbad
    obtain ⟨w, hexec⟩ := exec_launchOutputArm_of_writes hw hj harm hdis
    have hlt : j < (s.setWord (0x80214 + 32 * j) w).starts.length := hlen ▸ hj
    have hkeeps := State.keepsTime_showEval ((s.setWord (0x80214 + 32 * j) w).arm j) s
    refine ⟨_, hexec, ?_⟩
    rw [hkeeps.lout, hkeeps.rd (launchStat_block hj), State.arm_setWord_ctrl_of_far hpend]
    rw [← s.stepped_setWord_ctrl j w] at hbad
    obtain ⟨hstep, rfl⟩ | ⟨hstep, rfl, hrange⟩ | ⟨hstep, rfl, hmin, hmax, hper, hnear⟩ := hbad
    · rw [State.judgeArm_of_not_stepped hstep, State.lout_unarmed hlt, State.rd_unarmed _ _ (by decide)]
      exact ⟨rfl, rfl⟩
    · have hfits : ¬ (s.program j).Fits := by
        simp only [Rearm.Fits, State.program]
        omega
      rw [State.judgeArm_of_not_fits hstep hfits, State.lout_unarmed hlt, State.rd_unarmed _ _ (by decide)]
      exact ⟨rfl, rfl⟩
    · rw [State.judgeArm_of_near hstep ⟨hmin, hmax, .inl hper⟩ hnear]
      have hposted := State.KeepsTime.post (.refl ((s.setWord (0x80214 + 32 * j) w).unarmed j 2)) 0x0017 (le 1 j)
      rw [hposted.lout, hposted.rd (launchStat_block hj), State.lout_unarmed hlt, State.rd_unarmed _ _ (by decide)]
      exact ⟨rfl, rfl⟩
  case armWaits =>
    intro q v j n s fs hw hj harm hdis hlen hpend hnear
    obtain ⟨w, hexec⟩ := exec_launchOutputArm_of_writes hw hj harm hdis
    have hlt : j < (s.setWord (0x80214 + 32 * j) w).starts.length := hlen ▸ hj
    have hkeeps := State.keepsTime_showEval ((s.setWord (0x80214 + 32 * j) w).arm j) s
    refine ⟨_, hexec, ?_⟩
    rw [hkeeps.lout, State.arm_of_near (s := s.setWord _ w) hpend hnear, State.lout_setLout_same _ hlt,
      State.program_setWord_ctrl]
    exact ⟨hpend, rfl⟩
  case disarm =>
    intro q v j s fs hw hj harm hdis hlen
    obtain ⟨w, hexec⟩ := exec_launchOutputDisarm_of_writes hw hj harm hdis
    have hlt : j < (s.setWord (0x80214 + 32 * j) w).starts.length := hlen ▸ hj
    have hkeeps := State.keepsTime_showEval ((s.setWord (0x80214 + 32 * j) w).disarm j) s
    refine ⟨_, hexec, ?_⟩
    rw [hkeeps.lout, hkeeps.rd (launchStat_block hj)]
    cases hpulse : (s.lout j).pulseEnd with
    | some t =>
      rw [State.disarm_of_pulse (s := s.setWord _ w) hpulse, State.lout_setLout_same _ hlt]
      exact ⟨rfl, rfl, fun _ => ⟨rfl, hpulse⟩, nofun⟩
    | none =>
      rw [State.disarm_of_no_pulse (s := s.setWord _ w) hpulse, State.lout_unarmed hlt,
        State.rd_unarmed _ _ (by decide)]
      exact ⟨rfl, rfl, fun h => absurd h (by decide), fun _ => rfl⟩
  case pulse =>
    intro j t s harmed hdue hidle
    rw [exec_launchOutputPulse, doPulse_of_due harmed hdue hidle]
  case endIdle =>
    intro j t s hpulse hdue hstop hrearm harmed hstat
    rw [exec_launchOutputPulseEnd, doPulseEnd_of_no_rearm hpulse hdue hstop hrearm, if_pos (by simp [harmed, hstat]),
      State.pulseOver]
  case endArmed =>
    intro j t n s hpulse hdue hstop hlater harmed
    have hover : doPulseEnd j s = s.pulseOver j := by
      cases hrearm : (s.lout j).rearm with
      | none => rw [doPulseEnd_of_no_rearm hpulse hdue hstop hrearm, if_neg (by simp [harmed])]
      | some r => rw [doPulseEnd_of_rearm hpulse hdue hstop hrearm, if_neg (Nat.not_le.mpr (hlater r hrearm))]
    rw [exec_launchOutputPulseEnd, hover, State.pulseOver]
  case endStop =>
    intro j t s hpulse hdue hstop
    rw [exec_launchOutputPulseEnd, doPulseEnd_of_stop hpulse hdue hstop, State.pulseOver]
  case endRearm =>
    intro j t r s hpulse hdue hstop hrearm hafter hstep hmin hmax hper hfar
    rw [exec_launchOutputPulseEnd, doPulseEnd_of_rearm hpulse hdue hstop hrearm, if_pos hafter,
      State.judgeArm_pulseOver_of_far (State.lt_of_pulseEnd hpulse) hstep ⟨hmin, hmax, hper⟩ hfar]

end Sys2Proof.Machine
end

section
/-! PTP messages (R435 to R455): what a port's state is after a write of it, which messages a port takes, and what each
row of PTP then does. -/
namespace Sys2Proof.Machine

/-! ### The ports' states -/

@[simp] theorem State.port_setPort_same {s : State} {p : Nat} (x : PtpPort) (h : p < s.ports.length) :
    (s.setPort p x).port p = x := by
  simp [State.port, State.setPort, atD, h]

@[simp] theorem State.setPort_setPort (s : State) (p : Nat) (x y : PtpPort) :
    (s.setPort p x).setPort p y = s.setPort p y := by
  simp [State.setPort]

/-- A port that the node has not takes nothing. -/
theorem State.setPort_of_le {s : State} {p : Nat} (x : PtpPort) (h : s.ports.length ≤ p) : s.setPort p x = s := by
  simp [State.setPort, List.set_eq_of_length_le h]

@[simp] theorem State.on_setPort (s : State) (p : Nat) (x : PtpPort) (f : Fld) : (s.setPort p x).on f = s.on f := rfl

@[simp] theorem State.twoStep_setPort (s : State) (p q : Nat) (x : PtpPort) :
    (s.setPort p x).twoStep q = s.twoStep q := rfl

/-! ### Messages that a port receives (R441 to R447, R455) -/

theorem exec_ptpMessageReceive (m : PtpMsg) (s : State) : exec (.ptpMessageReceive m) s = .next (doPtp m s) := rfl

theorem exec_delayReq (m : PtpMsg) (s : State) : exec (.delayReq m) s = .next (doDelayReq m s) := rfl

theorem exec_managementMessage (m : PtpMsg) (s : State) :
    exec (.managementMessage m) s = .next (doManagement m s) := rfl

theorem exec_ptpEventForward (m : PtpMsg) (e : Nat) (s : State) :
    exec (.ptpEventForward m e) s = .next (doForward m e s) := rfl

/-- Requests answered in the current second (R442). -/
def State.answered (s : State) (p : Nat) : Nat := if (s.port p).reqSec = s.secs then (s.port p).reqs else 0

section
variable {s : State} {m : PtpMsg}

theorem State.takeSync_of_oneStep (h : m.twoStep = false) :
    s.takeSync m = (s.setPort m.port { s.port m.port with
      syncT1 := m.origin + quot m.correction 65536
      syncT2 := m.ingress + s.rdInt (Reg.TIME.PORT.PASYM.INLAT m.port)
      syncSeq := m.seq }).ptpOffset m.port
        (s.masterOffset m.port m.origin m.correction (m.ingress + s.rdInt (Reg.TIME.PORT.PASYM.INLAT m.port))) := by
  unfold State.takeSync
  simp only [h, Bool.false_eq_true, if_false]

/-- A two-step Sync waits for its Follow_Up; a disabled slot hears nothing of it. -/
theorem State.takeSync_of_twoStep (h : m.twoStep = true) (hslot : s.on (Reg.REFSEL.SLOT.CFG.EN m.port) = false) :
    s.takeSync m = s.setPort m.port { s.port m.port with
      syncT2 := m.ingress + s.rdInt (Reg.TIME.PORT.PASYM.INLAT m.port) - quot m.correction 65536
      syncSeq := m.seq } := by
  unfold State.takeSync
  simp only [h, if_true, State.on_setPort, hslot, Bool.false_eq_true, if_false]

section
variable (haccept : s.ptpAccept m = (true, s))
include haccept

theorem doPtp_of_masterSync (hdom : m.domain = s.ptpDomain) (hkind : m.kind = .sync) (hmaster : s.fromMaster m = true) :
    doPtp m s = s.takeSync m := by
  unfold doPtp
  simp only [haccept, hdom, hkind, hmaster, bne_self_eq_false, Bool.not_true, Bool.or_self, Bool.false_eq_true,
    if_false, if_true]

theorem doPtp_of_announce (hdom : m.domain = s.ptpDomain) (hkind : m.kind = .announce) :
    doPtp m s = s.hearAnnounce m.port (announcedBy m) := by
  unfold doPtp
  simp only [haccept, hdom, hkind, bne_self_eq_false, Bool.not_true, Bool.or_self, Bool.false_eq_true, if_false]

theorem doDelayReq_of_room (hdom : m.domain = s.ptpDomain) (hmaster : s.portState m.port = 6)
    (hkind : m.kind = .delayReq) (hroom : s.answered m.port < 2048) :
    doDelayReq m s = (s.setPort m.port { s.port m.port with
      reqSec := s.secs, reqs := s.answered m.port + 1 }).ptpSend m.port
        { kind := .delayResp, seq := m.seq, requester := m.sender
          origin := m.ingress + s.rdInt (Reg.TIME.PORT.PASYM.INLAT m.port), correction := m.correction } := by
  unfold State.answered at hroom ⊢
  unfold doDelayReq
  simp only [haccept, hdom, hmaster, hkind, bne_self_eq_false, Bool.not_true, Bool.or_self, Bool.false_eq_true,
    if_false, ne_eq, not_true_eq_false, decide_false, if_neg (Nat.not_le.mpr hroom)]

theorem doDelayReq_of_full (hdom : m.domain = s.ptpDomain) (hmaster : s.portState m.port = 6)
    (hfull : 2048 ≤ s.answered m.port) : doDelayReq m s = s.ptpDiscard m.port := by
  unfold State.answered at hfull
  unfold doDelayReq
  simp only [haccept, hdom, hmaster, bne_self_eq_false, Bool.not_true, Bool.or_self, Bool.false_eq_true, if_false,
    ne_eq, not_true_eq_false, decide_false, if_pos hfull]

theorem doManagement_of_accept :
    doManagement m s = if s.transparent = true then
      (s.peers m.port).foldl (fun (a : State) e => a.passOn m e m.correction) s else s.ptpDiscard m.port := by
  unfold doManagement
  simp only [haccept, Bool.not_true, Bool.false_eq_true, if_false]

end

section
variable {e : Nat} (htc : s.transparent = true) (hport : m.port < 4) (hpeer : e ∈ s.peers m.port)
include htc hport hpeer

theorem doForward_of_not_auth (hauth : s.ptpAuth m = false) : doForward m e s = s.ptpFail m := by
  unfold doForward
  rw [if_neg (by simp [htc, hport, hpeer]), if_pos (by simp [hauth])]

/-- An unauthenticated Sync leaves with its residence time added (R446). -/
theorem doForward_of_plainSync (hauth : s.ptpAuth m = true) (hkind : m.kind = .sync) (htlv : m.tlv = none)
    (hdelay : s.peerDelay m.port = false) :
    doForward m e s = s.passOn m e (m.correction + ((m.egress + s.rdInt (Reg.TIME.PORT.PASYM.EGLAT e)) -
      (m.ingress + s.rdInt (Reg.TIME.PORT.PASYM.INLAT m.port))) * 65536) := by
  unfold doForward
  rw [if_neg (by simp [htc, hport, hpeer]), if_neg (by simp [hauth])]
  simp only [hkind, htlv, hdelay, Option.isSome_none, Bool.and_false, Bool.false_eq_true, if_false, Int.add_zero]

end

end

/-! ### Messages that a port sends (R435, R440, R443 to R451) -/

theorem exec_syncTransmit (p : Nat) (egress : Int) (s : State) :
    exec (.syncTransmit p egress) s = .next (doSync p egress s) := rfl

theorem exec_followUp (p : Nat) (s : State) : exec (.followUp p) s = .next (doFollowUp p s) := rfl

theorem exec_announceTransmit (p : Nat) (s : State) : exec (.announceTransmit p) s = .next (doAnnounce p s) := rfl

theorem exec_delayReqTransmit (p egress : Nat) (s : State) :
    exec (.delayReqTransmit p egress) s = .next (doReqTransmit p egress s) := rfl

section
variable {s : State} {p : Nat} (hp : p < 4) (hen : s.on (Reg.TIME.PORT.PCFG.EN p) = true)
include hp hen

theorem doSync_of_oneStep {egress : Int} (hmaster : s.portState p = 6) (hone : s.twoStep p = false) :
    doSync p egress s = (s.setPort p { s.port p with txSeq := ((s.port p).txSeq + 1) % 65536 }).ptpSend p
      { kind := .sync, seq := (s.port p).txSeq
        origin := (egress + s.rdInt (Reg.TIME.PORT.PASYM.EGLAT p) * 65536) / 65536
        correction := (egress + s.rdInt (Reg.TIME.PORT.PASYM.EGLAT p) * 65536) % 65536 } := by
  unfold doSync State.takeSeq
  rw [if_neg (by simp [hp, hen, hmaster])]
  simp only [State.twoStep_setPort, hone, Bool.false_eq_true, if_false]

/-- A two-step Sync leaves without its time and owes a Follow_Up. -/
theorem doSync_of_twoStep {egress : Int} (hmaster : s.portState p = 6) (htwo : s.twoStep p = true)
    (hports : p < s.ports.length) :
    doSync p egress s = (s.setPort p { s.port p with
      txSeq := ((s.port p).txSeq + 1) % 65536
      followUps := (s.port p).followUps ++
        [(.sync, (s.port p).txSeq, 0, egress + s.rdInt (Reg.TIME.PORT.PASYM.EGLAT p) * 65536)] }).ptpSend p
          { kind := .sync, seq := (s.port p).txSeq } := by
  unfold doSync State.takeSeq
  rw [if_neg (by simp [hp, hen, hmaster])]
  simp only [State.twoStep_setPort, htwo, if_true, State.port_setPort_same _ hports, State.setPort_setPort]

/-- A clock that is no boundary clock announces its own data set. -/
theorem doAnnounce_of_not_boundary (hmaster : s.portState p = 6) (hclock : s.boundary = false) :
    doAnnounce p s = (s.setPort p { s.port p with txSeq := ((s.port p).txSeq + 1) % 65536 }).ptpSend p {
      kind := .announce, seq := (s.port p).txSeq, clockClass := (s.ownSet p).cls, clockAcc := (s.ownSet p).acc
      variance := (s.ownSet p).var, prio1 := (s.ownSet p).prio1, prio2 := (s.ownSet p).prio2, gm := (s.ownSet p).gm
      steps := (s.ownSet p).steps, utc := (s.ownSet p).utc } := by
  have hslave : (List.range 4).find? (fun q => s.boundary && s.portState q == 9) = none := by
    simp only [hclock, Bool.false_and, List.find?_eq_none, Bool.false_eq_true, not_false_eq_true, implies_true]
  unfold doAnnounce State.takeSeq
  rw [if_neg (by simp [hp, hen, hmaster])]
  simp only [hslave, Option.bind_none]

theorem doReqTransmit_of_slave {egress : Nat} (hslave : s.portState p = 9) (hdelay : s.peerDelay p = false) :
    doReqTransmit p egress s = (s.setPort p { s.port p with
      reqAt := (egress : Int) + s.rdInt (Reg.TIME.PORT.PASYM.EGLAT p)
      reqSeq := ((s.port p).reqSeq + 1) % 65536 }).ptpSend p
        { kind := .delayReq, seq := ((s.port p).reqSeq + 1) % 65536 } := by
  unfold doReqTransmit
  rw [if_neg (by simp [hp, hen, hslave])]
  simp only [hdelay, Bool.false_eq_true, if_false]

end

theorem doFollowUp_of_owed {s : State} {p n who : Nat} {k : PtpKind} {t : Int} {r : List (PtpKind × Nat × Nat × Int)}
    (h : (s.port p).followUps = (k, n, who, t) :: r) :
    doFollowUp p s = (s.setPort p { s.port p with followUps := r }).ptpSend p
      { kind := generalOf k, seq := n, requester := who, origin := t / 65536, correction := t % 65536 } := by
  unfold doFollowUp
  simp only [h]

/-! ### The states of the ports (R435, R437) -/

theorem exec_announceReceiptTimeout (p : Nat) (s : State) :
    exec (.announceReceiptTimeout p) s = .next (doAnnTimeout p s) := rfl

section
variable {s : State} {p : Nat}

theorem portStat_block (hp : p < 4) : (Reg.TIME.PORT.PSTAT.STATE p).off / 0x10000 = 8 := by
  simp only [Reg.TIME.PORT.PSTAT.STATE]
  omega

@[simp] theorem State.setPortState_ports (s : State) (p v : Nat) : (s.setPortState p v).ports = s.ports :=
  (State.KeepsTime.sourceTest (.refl (s.wr (Reg.TIME.PORT.PSTAT.STATE p) v)) p).ports

/-- A port's new state is seen by its slot's Source monitor and changes no other register of block TIME. -/
theorem State.rd_setPortState_other (s : State) (p v : Nat) {f : Fld} (hblock : f.off / 0x10000 = 8)
    (hoff : f.off ≠ 524356 + 16 * p) : (s.setPortState p v).rd f = s.rd f := by
  have hkeeps := State.KeepsTime.sourceTest (.refl (s.wr (Reg.TIME.PORT.PSTAT.STATE p) v)) p
  have hword : (s.wr (Reg.TIME.PORT.PSTAT.STATE p) v).word f.off = s.word f.off := s.word_wr_other _ v hoff
  calc (s.setPortState p v).rd f = (s.wr (Reg.TIME.PORT.PSTAT.STATE p) v).rd f := hkeeps.rd hblock
    _ = s.rd f := by rw [State.rd, hword, State.rd]

theorem State.portState_setPortState (s : State) {v : Nat} (hp : p < 4) (hv : v < 16) :
    (s.setPortState p v).portState p = v := by
  have hkeeps := State.KeepsTime.sourceTest (.refl (s.wr (Reg.TIME.PORT.PSTAT.STATE p) v)) p
  exact (hkeeps.rd (portStat_block hp)).trans ((s.rd_wr_same _ v rfl).trans (Nat.mod_eq_of_lt hv))

@[simp] theorem State.slaveOnly_setPortState (s : State) (v : Nat) (hp : p < 4) :
    (s.setPortState p v).slaveOnly p = s.slaveOnly p := by
  have hcap := s.rd_setPortState_other p v (f := Reg.TIME.PTPCLK.GMCAP) (by decide)
    (by simp only [Reg.TIME.PTPCLK.GMCAP]; omega)
  have hmode := s.rd_setPortState_other p v (f := Reg.TIME.PORT.PCFG.MODE p)
    (by simp only [Reg.TIME.PORT.PCFG.MODE]; omega) (by simp only [Reg.TIME.PORT.PCFG.MODE]; omega)
  simp only [State.slaveOnly, State.on, hcap, hmode]

@[simp] theorem State.transparent_setPortState (s : State) (p v : Nat) :
    (s.setPortState p v).transparent = s.transparent := by
  have htype := s.rd_setPortState_other p v (f := Reg.TIME.PTPCLK.TYPE) (by decide)
    (by simp only [Reg.TIME.PTPCLK.TYPE]; omega)
  have hprofile := s.rd_setPortState_other p v (f := Reg.TIME.PTPCLK.PROFILE) (by decide)
    (by simp only [Reg.TIME.PTPCLK.PROFILE]; omega)
  simp only [State.transparent, htype, hprofile]

/-- A port without a master has the quality of none. -/
theorem State.useAnnounce_none_setPort (s : State) (p : Nat) (x : PtpPort) :
    (s.setPort p x).useAnnounce p none = s.setPort p { x with parent := none, clockClass := 255, clockAcc := 254 } := by
  unfold State.useAnnounce
  by_cases h : p < s.ports.length
  · rw [State.setPort_setPort, State.port_setPort_same x h]
    rfl
  · simp only [State.setPort_of_le _ (Nat.not_lt.mp h)]

/-- A port that hears no foreign master has no best one. -/
theorem State.erBest_eq_none (h : (s.port p).foreign = []) : s.erBest p = none := by
  simp only [State.erBest, h, List.filter_nil, List.map_nil, bestAnnounced]

/-- The state behind a receipt timeout: the master forgotten, the port LISTENING (R435). -/
def State.masterLost (s : State) (p : Nat) : State :=
  (s.setPort p { s.port p with
    agree := 0, recent := [], lastAnnounce := some s.run, parent := none, clockClass := 255
    clockAcc := 254 }).setPortState p 4

theorem State.foreign_masterLost (h : (s.port p).foreign = []) : ((s.masterLost p).port p).foreign = [] := by
  unfold State.masterLost
  rw [State.port, State.setPortState_ports, ← State.port]
  by_cases hp : p < s.ports.length
  · rw [State.port_setPort_same _ hp]
    exact h
  · rw [State.setPort_of_le _ (Nat.not_lt.mp hp)]
    exact h

theorem doAnnTimeout_of_alone (hp : p < 4) (hen : s.on (Reg.TIME.PORT.PCFG.EN p) = true) (hslave : s.portState p = 9)
    (hlast : (s.port p).lastAnnounce = none) (hforeign : (s.port p).foreign = []) (htc : s.transparent = false) :
    doAnnTimeout p s = if s.slaveOnly p = true then s.masterLost p else (s.masterLost p).setPortState p 6 := by
  have hlost : ((s.setPort p { s.port p with
      agree := 0, recent := [], foreign := [], lastAnnounce := some s.run }).useAnnounce p none).setPortState p 4 =
        s.masterLost p := by
    rw [State.useAnnounce_none_setPort, ← hforeign]
    rfl
  have honly : (s.masterLost p).slaveOnly p = s.slaveOnly p := State.slaveOnly_setPortState _ 4 hp
  have hclock : (s.masterLost p).transparent = false := (State.transparent_setPortState _ p 4).trans htc
  unfold doAnnTimeout
  simp only [hlast, hslave, hforeign, List.filter_nil, hlost, State.erBest_eq_none (State.foreign_masterLost hforeign),
    honly, hclock]
  rw [if_neg (by simp [hp, hen])]
  simp

/-! ### A write of `TIME.PTPCLK` (R437) -/

/-- What a restart does to one port. -/
def State.restartPort (s : State) (p : Nat) : State :=
  if s.on (Reg.TIME.PORT.PCFG.EN p) then s.portEnable p true else s

theorem State.ptpRestart_eq (s : State) : s.ptpRestart = (List.range 4).foldl State.restartPort s := rfl

/-- A restart writes the states of ports alone in block TIME. -/
theorem State.rd_restartPort_other (s : State) (p : Nat) {f : Fld} (hblock : f.off / 0x10000 = 8)
    (hoff : f.off ≠ 524356 + 16 * p) : (s.restartPort p).rd f = s.rd f := by
  unfold State.restartPort
  split
  · exact State.rd_setPortState_other _ p 1 hblock hoff
  · rfl

theorem State.on_en_restartPort (s : State) (p : Nat) {q : Nat} (hq : q < 4) :
    (s.restartPort p).on (Reg.TIME.PORT.PCFG.EN q) = s.on (Reg.TIME.PORT.PCFG.EN q) := by
  have hrd := s.rd_restartPort_other p (f := Reg.TIME.PORT.PCFG.EN q) (by simp only [Reg.TIME.PORT.PCFG.EN]; omega)
    (by simp only [Reg.TIME.PORT.PCFG.EN]; omega)
  simp only [State.on, hrd]

theorem State.portState_restartPort_same (hp : p < 4) (hen : s.on (Reg.TIME.PORT.PCFG.EN p) = true) :
    (s.restartPort p).portState p = 1 := by
  unfold State.restartPort
  rw [if_pos hen]
  exact State.portState_setPortState _ hp (by decide)

theorem State.portState_restartPort_other (s : State) {q : Nat} (hp : p < 4) (hne : p ≠ q) :
    (s.restartPort q).portState p = s.portState p :=
  s.rd_restartPort_other q (portStat_block hp) (by simp only [Reg.TIME.PORT.PSTAT.STATE]; omega)

/-- An enabled port is INITIALIZING once it was so or the restart has come by it. -/
theorem State.portState_foldl_restartPort (l : List Nat) (hp : p < 4) (hen : s.on (Reg.TIME.PORT.PCFG.EN p) = true)
    (h : s.portState p = 1 ∨ p ∈ l) : (l.foldl State.restartPort s).portState p = 1 := by
  induction l generalizing s with
  | nil => exact h.resolve_right (List.not_mem_nil)
  | cons q l ih =>
    refine ih ((s.on_en_restartPort q hp).trans hen) ?_
    by_cases hq : p = q
    · exact .inl (hq ▸ State.portState_restartPort_same hp hen)
    · rw [s.portState_restartPort_other hp hq]
      exact h.imp_right fun hmem => (List.mem_cons.mp hmem).resolve_left hq

theorem State.portState_ptpRestart (hp : p < 4) (hen : s.on (Reg.TIME.PORT.PCFG.EN p) = true) :
    s.ptpRestart.portState p = 1 := by
  rw [State.ptpRestart_eq]
  exact State.portState_foldl_restartPort _ hp hen (.inr (List.mem_range.mpr hp))

/-- The hook of `PTPCLK` sets the profile's intervals and restarts the ports (R435, R437). -/
theorem State.hookTime_ptpclk (t s : State) (v : Word) :
    ∃ u : State, t.hookTime s 0x80030 v = u.ptpRestart ∧
      ∀ q, u.on (Reg.TIME.PORT.PCFG.EN q) = t.on (Reg.TIME.PORT.PCFG.EN q) := by
  have hctrl : arrIdx 0x80214 32 8 0x80030 = none := by decide
  have hevent : arrIdx 0x80100 4 16 0x80030 = none := by decide
  have hport : arrIdx 0x80040 16 4 0x80030 = none := by decide
  have hen {a : State} (f : Fld) (n q : Nat) (hf : f.off = 524344) :
      (a.wr f n).on (Reg.TIME.PORT.PCFG.EN q) = a.on (Reg.TIME.PORT.PCFG.EN q) :=
    a.on_setWord_other _ (by simp only [Reg.TIME.PORT.PCFG.EN, hf]; omega)
  unfold State.hookTime
  rw [hctrl, hevent, hport]
  refine ⟨_, rfl, fun q => ?_⟩
  rw [hen _ _ q rfl, hen _ _ q rfl, hen _ _ q rfl, hen _ _ q rfl]

theorem exec_ptpclkWrite (q : Requester) (v : Word) (s : State) :
    exec (.ptpclkWrite q v) s = .next (s.writeReg q 0x80030 v) := rfl

theorem State.portState_writeMapped_ptpclk {q : Requester} {fs : List RField} (hw : s.Writes q 0x80030 fs) (v : Word)
    (hp : p < 4) (hen : s.on (Reg.TIME.PORT.PCFG.EN p) = true) : (s.writeMapped q 0x80030 fs v).portState p = 1 := by
  obtain ⟨w, hwrite⟩ := State.writeMapped_time (s := s) (q := q) (by decide) (by decide) hw.mapped v
  obtain ⟨u, hhook, hu⟩ := (s.setWord 0x80030 w).hookTime_ptpclk s v
  have hen' : u.on (Reg.TIME.PORT.PCFG.EN p) = true := by
    rw [hu p, s.on_setWord_other w (by simp only [Reg.TIME.PORT.PCFG.EN]; omega), hen]
  rw [hwrite, hhook]
  exact ((State.keepsTime_showEval _ s).rd (portStat_block hp)).trans (State.portState_ptpRestart hp hen')

end

/-- Settles O19: each row's guard passes, and its message, measurement or port state is as the statement has it. -/
theorem ptpRowsTakeEffect : Obligations.PtpRowsTakeEffect := by
  refine ⟨?sync, ?announce, ?delayReq, ?management, ?forward, ?syncSent, ?followUp, ?announceSent, ?timeout, ?reqSent,
    ?ptpclk⟩
  case sync =>
    rintro m x inn s haccept hdom hkind hmaster rfl rfl
    rw [exec_ptpMessageReceive, doPtp_of_masterSync haccept hdom hkind hmaster]
    refine ⟨fun hone => ?_, fun htwo hslot => ?_⟩
    · rw [State.takeSync_of_oneStep hone, State.masterOffset]
    · rw [State.takeSync_of_twoStep htwo hslot]
  case announce =>
    intro m s haccept hdom hkind
    rw [exec_ptpMessageReceive, doPtp_of_announce haccept hdom hkind]
    rfl
  case delayReq =>
    rintro m n s u haccept hdom hmaster hkind hn rfl
    obtain rfl : n = s.answered m.port := hn
    rw [exec_delayReq]
    refine ⟨fun hroom => ?_, fun hfull => ?_⟩
    · rw [doDelayReq_of_room haccept hdom hmaster hkind hroom]
    · rw [doDelayReq_of_full haccept hdom hmaster hfull, State.ptpDiscard]
  case management =>
    intro m s haccept
    rw [exec_managementMessage, doManagement_of_accept haccept]
    refine ⟨fun hclock => ?_, fun hclock => ?_⟩
    · rw [if_neg (by simp [hclock]), State.ptpDiscard]
    · rw [if_pos hclock]
      rfl
  case forward =>
    intro m e s htc hport hpeer
    rw [exec_ptpEventForward]
    refine ⟨fun hauth => ?_, fun hauth hkind htlv hdelay => ?_⟩
    · rw [doForward_of_not_auth htc hport hpeer hauth]
    · rw [doForward_of_plainSync htc hport hpeer hauth hkind htlv hdelay, State.passOn]
  case syncSent =>
    rintro p n t egress s hp hports hen hmaster rfl rfl
    rw [exec_syncTransmit]
    refine ⟨fun hone => ?_, fun htwo => ?_⟩
    · rw [doSync_of_oneStep hp hen hmaster hone]
    · rw [doSync_of_twoStep hp hen hmaster htwo (by omega)]
  case followUp =>
    intro p n who k t r s howed
    rw [exec_followUp, doFollowUp_of_owed howed]
  case announceSent =>
    rintro p n s hp hen hmaster hclock rfl
    rw [exec_announceTransmit, doAnnounce_of_not_boundary hp hen hmaster hclock]
    rfl
  case timeout =>
    rintro p s u hp hen hslave hlast hforeign htc rfl
    rw [exec_announceReceiptTimeout, doAnnTimeout_of_alone hp hen hslave hlast hforeign htc]
    refine ⟨fun honly => ?_, fun hmay => ?_⟩
    · rw [if_pos honly, State.masterLost]
    · rw [if_neg (by simp [hmay]), State.masterLost]
  case reqSent =>
    rintro p t n s hp hen hslave hdelay rfl
    rw [exec_delayReqTransmit, doReqTransmit_of_slave hp hen hslave hdelay]
  case ptpclk =>
    intro q v p s fs hw hp hen
    exact ⟨_, (exec_ptpclkWrite q v s).trans (by rw [State.writeReg_of_writes hw v]), rfl,
      State.portState_writeMapped_ptpclk hw v hp hen⟩

end Sys2Proof.Machine
end

section
/-! Stream contexts (R529 to R537, R565): what opening, closing and querying one comes to on operands that pass the checks,
and what the effects at T(k) leave. -/
namespace Sys2Proof.Machine

theorem exec_streamOpen (d : Desc) (s : State) :
    exec (.streamOpen d) s = .next (hostCmd 0x30 roleO d (streamOpenRes d) s) := rfl

theorem exec_streamOpenEffect (tx : Bool) (i : Nat) (s : State) :
    exec (.streamOpenEffect tx i) s = .next (doStreamOpened tx i s) := rfl

theorem exec_streamClose (d : Desc) (s : State) :
    exec (.streamClose d) s = .next (hostCmd 0x31 roleO d (streamCloseRes d) s) := rfl

theorem exec_streamCloseEffect (tx : Bool) (i : Nat) (s : State) :
    exec (.streamCloseEffect tx i) s = .next (doStreamClosed tx i s) := rfl

theorem exec_streamStat (d : Desc) (s : State) :
    exec (.streamStat d) s = .next (hostCmd 0x32 roleM d (streamStatRes d) s) := rfl

/-! ### Opening (R529 to R535) -/

/-- The membership reports of a receive context, one for each of its paths (R534). -/
def State.joinGroups (s : State) (x : RxCtx) : State :=
  if x.dual then (s.report x.porta 2 x.dsta x.srca).report (x.porta + 2) 2 x.dstb x.srcb
  else s.report x.porta 2 x.dsta x.srca

section
variable {d : Desc} {u : State}

/-- STREAM_OPEN of a receive context whose last frame has ended, or that never opened (R530, R534). -/
theorem streamOpenRes_of_rxFree {x : RxCtx} (hrx : d.a0 = 0) (hlen : d.buf.length = 192)
    (hawake : u.rd Reg.SYS.PWR.STATE ≠ 4) (hgood : u.rxBad d.buf = none) (hplan : u.on Reg.TICK.CFG.PLAN = true)
    (hx : x = rxOf d.buf (u.tickFrom (u.readNs d) 0 2))
    (hfree : (u.rxc (rdLe d.buf 0 2)).state = 0 ∨ (u.rxc (rdLe d.buf 0 2)).state = 4)
    (hapart : u.rxConflict x = false) :
    streamOpenRes d u = okRes (((u.leaveGroups (rdLe d.buf 0 2)).setRx (rdLe d.buf 0 2) x).joinGroups x)
      (le 8 (u.tickFrom (u.readNs d) 0 2)) := by
  subst hx
  have hbusy : ¬ (decide ((u.rxc (rdLe d.buf 0 2)).state ≠ 0) && decide ((u.rxc (rdLe d.buf 0 2)).state ≠ 4)) = true := by
    simpa [imp_iff_not_or] using hfree
  unfold streamOpenRes
  dsimp only
  rw [if_neg (by omega), if_neg (not_not_intro hlen), if_neg hawake, if_pos hrx, hgood]
  dsimp only
  rw [hplan, if_neg (by decide), if_pos hrx, if_neg hbusy, if_neg (by simp [hapart])]
  rfl

/-- STREAM_OPEN of a free transmit context whose packets fit its ports (R532, R534). -/
theorem streamOpenRes_of_txFree {x : TxCtx} (htx : d.a0 = 1) (hlen : d.buf.length = 192)
    (hawake : u.rd Reg.SYS.PWR.STATE ≠ 4) (hgood : u.txBad d.buf = none) (hplan : u.on Reg.TICK.CFG.PLAN = true)
    (hx : x = txOf d.buf (u.tickFrom (u.readNs d) 0 2) u.fresh.1) (hfree : (u.txc (rdLe d.buf 0 2)).state = 0)
    (hfits : ((pathPorts x.porta x.dual).any fun p =>
      decide (u.lineRate p * 8 < u.portLoad p (u.txUsed ++ [x]) * 10)) = false) :
    streamOpenRes d u = okRes ((u.fresh.2.setTx (rdLe d.buf 0 2) x).showStrm.showEval u)
      (le 8 (u.tickFrom (u.readNs d) 0 2)) := by
  subst hx
  unfold streamOpenRes
  dsimp only
  rw [if_neg (by omega), if_neg (not_not_intro hlen), if_neg hawake, if_neg (by omega), hgood]
  dsimp only
  rw [hplan, if_neg (by decide), if_neg (by omega), if_neg (not_not_intro hfree), if_neg (by simp [hfits])]

end

section
variable {i : Nat} {s : State}

/-- At T(k) a receive context opens: its channels are no longer concealed, and its windows begin (R535). -/
theorem doStreamOpened_of_rxOpening (hopening : (s.rxc i).state = 1) :
    doStreamOpened false i s =
      (((({ s.reach (s.tAt (s.rxc i).at_) with
          eng := { (s.reach (s.tAt (s.rxc i).at_)).eng with
            conceal := (s.reach (s.tAt (s.rxc i).at_)).eng.conceal.filter fun c => !(s.rxc i).map.contains c.1 } } :
        State).setRx i { s.rxc i with
          state := if (s.rxc i).closeAt.isSome then 3 else 2
          at_ := (s.rxc i).closeAt.getD (s.rxc i).at_
          openedAt := (s.reach (s.tAt (s.rxc i).at_)).run
          winFrom := (s.reach (s.tAt (s.rxc i).at_)).run }).showStrm).showEval s) :=
  (if_neg Bool.false_ne_true).trans (if_neg (not_not_intro hopening))

theorem doStreamOpened_of_txOpening (hopening : (s.txc i).state = 1) :
    doStreamOpened true i s = ((s.reach (s.tAt (s.txc i).at_)).setTx i { s.txc i with
      state := if (s.txc i).closeAt.isSome then 3 else 2
      at_ := (s.txc i).closeAt.getD (s.txc i).at_ }).showStrm :=
  (if_pos rfl).trans (if_neg (not_not_intro hopening))

end

/-! ### Closing (R536) -/

section
variable {d : Desc} {u : State} (hi : d.a1 < 512)
include hi

section
variable (hrx : d.a0 = 0)
include hrx

theorem streamCloseRes_of_rxOpen (hopen : (u.rxc d.a1).state = 2) :
    streamCloseRes d u = okRes (u.setRx d.a1 { u.rxc d.a1 with state := 3, at_ := u.tickFrom (u.readNs d) 0 2 })
      (le 8 (u.tickFrom (u.readNs d) 0 2)) := by
  unfold streamCloseRes
  dsimp only
  rw [if_neg (by omega), if_neg (by omega), if_pos hrx, if_neg (by simp [hopen]), if_neg (by omega), if_neg (by omega)]

/-- A receive context that has not opened notes when it is to close, the first time only. -/
theorem streamCloseRes_of_rxOpening (hopening : (u.rxc d.a1).state = 1) :
    streamCloseRes d u =
      okRes (u.setRx d.a1 { u.rxc d.a1 with
          closeAt := some ((u.rxc d.a1).closeAt.getD (u.tickFrom (u.readNs d) 0 2)) })
        (le 8 ((u.rxc d.a1).closeAt.getD (u.tickFrom (u.readNs d) 0 2))) := by
  unfold streamCloseRes
  dsimp only
  rw [if_neg (by omega), if_neg (by omega), if_pos hrx, if_neg (by simp [hopening]), if_neg (by omega), if_pos hopening]

theorem streamCloseRes_of_rxClosing (hclosing : (u.rxc d.a1).state = 3) :
    streamCloseRes d u = okRes u (le 8 (u.rxc d.a1).at_) := by
  unfold streamCloseRes
  dsimp only
  rw [if_neg (by omega), if_neg (by omega), if_pos hrx, if_neg (by simp [hclosing]), if_pos hclosing]

end

section
variable (htx : d.a0 = 1)
include htx

theorem streamCloseRes_of_txOpen (hopen : (u.txc d.a1).state = 2) :
    streamCloseRes d u = okRes (u.setTx d.a1 { u.txc d.a1 with state := 3, at_ := u.tickFrom (u.readNs d) 0 2 })
      (le 8 (u.tickFrom (u.readNs d) 0 2)) := by
  unfold streamCloseRes
  dsimp only
  rw [if_neg (by omega), if_neg (by omega), if_neg (by omega), if_neg (by omega), if_neg (by omega), if_neg (by omega)]

/-- A transmit context that has not opened notes when it is to close, the first time only. -/
theorem streamCloseRes_of_txOpening (hopening : (u.txc d.a1).state = 1) :
    streamCloseRes d u =
      okRes (u.setTx d.a1 { u.txc d.a1 with
          closeAt := some ((u.txc d.a1).closeAt.getD (u.tickFrom (u.readNs d) 0 2)) })
        (le 8 ((u.txc d.a1).closeAt.getD (u.tickFrom (u.readNs d) 0 2))) := by
  unfold streamCloseRes
  dsimp only
  rw [if_neg (by omega), if_neg (by omega), if_neg (by omega), if_neg (by omega), if_neg (by omega), if_pos hopening]

theorem streamCloseRes_of_txClosing (hclosing : (u.txc d.a1).state = 3) :
    streamCloseRes d u = okRes u (le 8 (u.txc d.a1).at_) := by
  unfold streamCloseRes
  dsimp only
  rw [if_neg (by omega), if_neg (by omega), if_neg (by omega), if_neg (by omega), if_pos hclosing]

end
end

section
variable {i : Nat} {s : State}

/-- At T(k) a receive context has closed, and its channels begin their fade. -/
theorem doStreamClosed_of_rxClosing {u : State} (hclosing : (s.rxc i).state = 3)
    (hu : u = (s.reach (s.tAt (s.rxc i).at_)).setRx i
      { s.rxc i with state := 4, closeAt := none, upA := false, upB := false }) :
    doStreamClosed false i s =
      (State.showStrm { u with strm := { u.strm with
        closing := u.strm.closing ++ [((s.rxc i).at_, (s.rxc i).map.filter fun c => c != 0xFFFF)] } }).showEval s := by
  subst hu
  exact (if_neg Bool.false_ne_true).trans (if_neg (not_not_intro hclosing))

theorem doStreamClosed_of_txClosing (hclosing : (s.txc i).state = 3) :
    doStreamClosed true i s = (((s.reach (s.tAt (s.txc i).at_)).setTx i
      { s.txc i with state := 0, closeAt := none, part := [] }).showStrm).showEval s :=
  (if_pos rfl).trans (if_neg (not_not_intro hclosing))

end

/-! ### Records (R565) -/

section
variable {d : Desc} {u : State} (hi : d.a1 < 512)
include hi

theorem streamStatRes_of_rx {x : RxCtx} (hrx : d.a0 = 0) (hused : mapGet u.strm.rx d.a1 = some x) :
    streamStatRes d u = okRes (if d.flags % 2 = 1 then u.setRx d.a1 x.cleared else u) [] x.pub := by
  unfold streamStatRes
  dsimp only
  rw [if_neg (by omega), if_neg (by omega), if_pos hrx, hused]

theorem streamStatRes_of_tx {x : TxCtx} (htx : d.a0 = 1) (hused : mapGet u.strm.tx d.a1 = some x) :
    streamStatRes d u = okRes (if d.flags % 2 = 1 then u.setTx d.a1 x.cleared else u) [] x.pub := by
  unfold streamStatRes
  dsimp only
  rw [if_neg (by omega), if_neg (by omega), if_neg (by omega), hused]

theorem streamStatRes_of_rxUnused (hrx : d.a0 = 0) (hunused : mapGet u.strm.rx d.a1 = none) :
    streamStatRes d u = okRes u [] (List.replicate 60 0 ++ le 4 u.eng.relFrame) := by
  unfold streamStatRes
  dsimp only
  rw [if_neg (by omega), if_neg (by omega), if_pos hrx, hunused]

theorem streamStatRes_of_txUnused (htx : d.a0 = 1) (hunused : mapGet u.strm.tx d.a1 = none) :
    streamStatRes d u = okRes u [] (List.replicate 28 0 ++ le 4 u.eng.relFrame) := by
  unfold streamStatRes
  dsimp only
  rw [if_neg (by omega), if_neg (by omega), if_neg (by omega), hunused]

end

theorem length_leBytes (n v : Nat) : (le n v).length = n := by
  induction n generalizing v with
  | zero => rfl
  | succ n ih => rw [le, List.length_cons, ih]

/-- Settles O22: each command's context passes its checks, so it completes with the boundary or the record; each effect
finds its context waiting for T(k). -/
theorem streamRowsTakeEffect : Obligations.StreamRowsTakeEffect := by
  refine ⟨?openRx, ?openRxDual, ?openTx, ?openedRx, ?openedTx, ?closeRx, ?closeTx, ?closedRx, ?closedTx, ?statRx, ?statTx,
    ?statUnused⟩
  case openRx =>
    rintro d s u k i x hadm rfl hrx hlen hawake hgood hplan rfl hx rfl hfree hapart hsingle
    rw [exec_streamOpen, hostCmd_ok hadm (streamOpenRes_of_rxFree hrx hlen hawake hgood hplan hx hfree hapart)
      (Nat.zero_le _), State.joinGroups, if_neg (by simp [hsingle])]
  case openRxDual =>
    rintro d s u k i x hadm rfl hrx hlen hawake hgood hplan rfl hx rfl hfree hapart hdual
    rw [exec_streamOpen, hostCmd_ok hadm (streamOpenRes_of_rxFree hrx hlen hawake hgood hplan hx hfree hapart)
      (Nat.zero_le _), State.joinGroups, if_pos hdual]
  case openTx =>
    rintro d s u v k i n x hadm rfl htx hlen hawake hgood hplan rfl hfresh hx rfl hfree hfits
    obtain ⟨rfl, rfl⟩ := Prod.ext_iff.mp hfresh
    rw [exec_streamOpen, hostCmd_ok hadm (streamOpenRes_of_txFree htx hlen hawake hgood hplan hx hfree hfits)
      (Nat.zero_le _)]
  case openedRx =>
    rintro i x s u rfl hopening rfl
    rw [exec_streamOpenEffect, doStreamOpened_of_rxOpening hopening]
  case openedTx =>
    rintro i x s rfl hopening
    rw [exec_streamOpenEffect, doStreamOpened_of_txOpening hopening]
  case closeRx =>
    rintro d k x s u hadm rfl hrx hi rfl rfl
    rw [exec_streamClose]
    refine ⟨fun hopen => ?_, fun hopening => ?_, fun hclosing => ?_⟩
    · rw [hostCmd_ok hadm (streamCloseRes_of_rxOpen hi hrx hopen) (Nat.zero_le _)]
    · rw [hostCmd_ok hadm (streamCloseRes_of_rxOpening hi hrx hopening) (Nat.zero_le _)]
    · rw [hostCmd_ok hadm (streamCloseRes_of_rxClosing hi hrx hclosing) (Nat.zero_le _)]
  case closeTx =>
    rintro d k x s u hadm rfl htx hi rfl rfl
    rw [exec_streamClose]
    refine ⟨fun hopen => ?_, fun hopening => ?_, fun hclosing => ?_⟩
    · rw [hostCmd_ok hadm (streamCloseRes_of_txOpen hi htx hopen) (Nat.zero_le _)]
    · rw [hostCmd_ok hadm (streamCloseRes_of_txOpening hi htx hopening) (Nat.zero_le _)]
    · rw [hostCmd_ok hadm (streamCloseRes_of_txClosing hi htx hclosing) (Nat.zero_le _)]
  case closedRx =>
    rintro i x s u rfl hclosing hu
    rw [exec_streamCloseEffect, doStreamClosed_of_rxClosing hclosing hu]
  case closedTx =>
    rintro i x s rfl hclosing
    rw [exec_streamCloseEffect, doStreamClosed_of_txClosing hclosing]
  case statRx =>
    rintro d s u x hadm rfl hrx hi hused hroom
    rw [exec_streamStat, hostCmd_ok hadm (streamStatRes_of_rx hi hrx hused) hroom]
  case statTx =>
    rintro d s u x hadm rfl htx hi hused hroom
    rw [exec_streamStat, hostCmd_ok hadm (streamStatRes_of_tx hi htx hused) hroom]
  case statUnused =>
    rintro d s u hadm rfl hi
    rw [exec_streamStat]
    refine ⟨fun hrx hunused hroom => ?_, fun htx hunused hroom => ?_⟩
    · rw [hostCmd_ok hadm (streamStatRes_of_rxUnused hi hrx hunused) (by simpa [length_leBytes] using hroom)]
    · rw [hostCmd_ok hadm (streamStatRes_of_txUnused hi htx hunused) (by simpa [length_leBytes] using hroom)]

end Sys2Proof.Machine
end

section
/-! Stream packets (R541 to R557, R562 to R564): what a received packet comes to, what the ends of a path, a slip window and
a window of late drops do, and how a transmit context's packets leave or miss their deadline. -/
namespace Sys2Proof.Machine

theorem exec_packetReceive (p : Packet) (s : State) : exec (.packetReceive p) s = .next (doPacket p s) := rfl

theorem exec_streamPathDown (i : Nat) (pathB : Bool) (s : State) :
    exec (.streamPathDown i pathB) s = .next (doPathDown i pathB s) := rfl

theorem exec_slipWindowEnd (i : Nat) (s : State) : exec (.slipWindowEnd i) s = .next (doSlipWindow i s) := rfl

theorem exec_lateDropWindowEnd (s : State) : exec .lateDropWindowEnd s = .next (doLateDrops s) := rfl

theorem exec_streamPacketLaunch (i : Nat) (s : State) :
    exec (.streamPacketLaunch i) s = .next (doPacketLaunch i s) := rfl

theorem exec_packetTxDeadline (i : Nat) (s : State) : exec (.packetTxDeadline i) s = .next (doTxDeadline i s) := rfl

/-! ### Receiving (R513, R516, R541 to R548, R562 to R564) -/

/-- What a packet does to the context that it matches, on path B or A. -/
def State.receiveAt (s : State) (i : Nat) (pathB : Bool) (p : Packet) : State :=
  if s.fmtBad (s.rxc i) pathB p then s.setRx i { s.rxc i with fmtErr := (s.rxc i).fmtErr + 1 }
  else match s.authCheck (s.rxc i) p with
    | .fail => s.authFailed i
    | .dup => (s.setRx i { (s.rxc i).noteMargin s.run (s.marginOf (s.rxc i) p) with
        dup := (s.rxc i).dup + 1 }).pathSeen i pathB p.seq
    | .accept =>
      if (s.portions i (s.rxc i) p).any fun e => decide (s.openFrame + 64 < e.1) then
        s.setRx i { s.rxc i with early := (s.rxc i).early + 1 }
      else ((s.setRx i ((s.rxc i).noteCtr p)).pathSeen i pathB p.seq).takePacket i pathB p

section
variable {s : State} {i : Nat} {b : Bool} {p : Packet}

theorem State.receiveAt_of_fmtBad (hfmt : s.fmtBad (s.rxc i) b p = true) :
    s.receiveAt i b p = s.setRx i { s.rxc i with fmtErr := (s.rxc i).fmtErr + 1 } := if_pos hfmt

section
variable (hfmt : s.fmtBad (s.rxc i) b p = false)
include hfmt

theorem State.receiveAt_of_fail (hauth : s.authCheck (s.rxc i) p = .fail) : s.receiveAt i b p = s.authFailed i := by
  rw [State.receiveAt, if_neg (by simp [hfmt]), hauth]

theorem State.receiveAt_of_dup (hauth : s.authCheck (s.rxc i) p = .dup) :
    s.receiveAt i b p = (s.setRx i { (s.rxc i).noteMargin s.run (s.marginOf (s.rxc i) p) with
      dup := (s.rxc i).dup + 1 }).pathSeen i b p.seq := by
  rw [State.receiveAt, if_neg (by simp [hfmt]), hauth]

/-- An authenticated packet with a sample more than 64 ticks ahead of the open intake is EARLY. -/
theorem State.receiveAt_of_early (hauth : s.authCheck (s.rxc i) p = .accept)
    (hahead : ∃ e ∈ s.portions i (s.rxc i) p, s.openFrame + 64 < e.1) :
    s.receiveAt i b p = s.setRx i { s.rxc i with early := (s.rxc i).early + 1 } := by
  have hany : ((s.portions i (s.rxc i) p).any fun e => decide (s.openFrame + 64 < e.1)) = true := by
    simpa only [List.any_eq_true, decide_eq_true_eq] using hahead
  rw [State.receiveAt, if_neg (by simp [hfmt]), hauth]
  exact if_pos hany

theorem State.receiveAt_of_taken (hauth : s.authCheck (s.rxc i) p = .accept)
    (hnear : ∀ e ∈ s.portions i (s.rxc i) p, e.1 ≤ s.openFrame + 64) :
    s.receiveAt i b p = ((s.setRx i ((s.rxc i).noteCtr p)).pathSeen i b p.seq).takePacket i b p := by
  have hany : ¬ ((s.portions i (s.rxc i) p).any fun e => decide (s.openFrame + 64 < e.1)) = true := by
    simpa only [List.any_eq_true, decide_eq_true_eq, not_exists, not_and, Nat.not_lt] using hnear
  rw [State.receiveAt, if_neg (by simp [hfmt]), hauth]
  exact if_neg hany

end

section
variable (hon : s.portOn p.port = true)
include hon

/-- A packet that the port takes goes to the context that it matches. -/
theorem doPacket_of_matchRx (hlen : p.ipLen ≤ s.rd (Reg.NET.PORT.CFG.MTU p.port)) (hvid : s.vidOk p.port p.vid = true)
    (hmatch : (s.count (Reg.NET.PORT.RXFRM p.port)).matchRx p = some (i, b)) :
    doPacket p s = (s.count (Reg.NET.PORT.RXFRM p.port)).receiveAt i b p := by
  unfold doPacket
  dsimp only
  rw [if_neg (by simp [hon]), if_neg (Nat.not_lt.mpr hlen), if_neg (by simp [hvid]), hmatch]
  rfl

/-- One that the port does not take, or that matches no context, is counted and dropped (R513, R516, R541). -/
theorem doPacket_of_unwanted (hdrop : s.rd (Reg.NET.PORT.CFG.MTU p.port) < p.ipLen ∨ s.vidOk p.port p.vid = false ∨
      (s.count (Reg.NET.PORT.RXFRM p.port)).matchRx p = none) :
    doPacket p s = (s.count (Reg.NET.PORT.RXFRM p.port)).dropFrame p.port := by
  unfold doPacket
  dsimp only
  rw [if_neg (by simp [hon])]
  by_cases hlen : s.rd (Reg.NET.PORT.CFG.MTU p.port) < p.ipLen
  · rw [if_pos hlen]
  · rw [if_neg hlen]
    cases hvid : s.vidOk p.port p.vid with
    | false => exact if_pos rfl
    | true =>
      have hnone := (hdrop.resolve_left hlen).resolve_left (by simp [hvid])
      rw [hnone]
      exact if_neg (by decide)

end
end

/-! ### Paths, slips and late drops (R291, R547 to R551) -/

section
variable {s : State} {i : Nat}

/-- A path B without an accepted packet for 10 ms is down (R547). -/
theorem doPathDown_of_pathB (hopen : ctxOpen (s.rxc i).state = true) (hup : (s.rxc i).upB = true)
    (hquiet : ∀ e ∈ (s.rxc i).lastB, e.1 + 10000000 ≤ s.run) :
    doPathDown i true s =
      ((s.setRx i { s.rxc i with upB := false }).streamEvent false i (rxState { s.rxc i with upB := false })).showStrm := by
  unfold doPathDown
  cases hlast : (s.rxc i).lastB with
  | none => simp [hopen, hup, hlast]
  | some e => simp [hopen, hup, hlast, hquiet e hlast]

/-- An average margin above the first second's by more than a sample drops a sample of the open frame (R549, R550). -/
theorem doSlipWindow_of_above (hopen : ctxOpen (s.rxc i).state = true) (hslip : (s.rxc i).slipen = true)
    (hfirst : (s.rxc i).m0Cnt ≠ 0) (hwin : (s.rxc i).winCnt ≠ 0)
    (habove : ((s.rxc i).m0Sum : Rat) / (s.rxc i).m0Cnt + (s.ts3 : Rat) / 3 < ((s.rxc i).winSum : Rat) / (s.rxc i).winCnt)
    (hended : (s.rxc i).winFrom + 50000000 ≤ s.run) :
    doSlipWindow i s = (s.setRx i { s.rxc i with
      winSum := 0, winCnt := 0, winFrom := s.run, slipOld := (s.rxc i).slipK, slipK := (s.rxc i).slipK - 1
      slipAt := s.openFrame, slipDrop := (s.rxc i).slipDrop + 1 }).shiftWater
        ((s.rxc i).map.filter fun c => c != 0xFFFF) s.openFrame false := by
  unfold doSlipWindow
  dsimp only
  rw [if_neg (by simpa [hopen] using hended), if_neg (by simp [hslip, hfirst, hwin]), if_pos habove]

theorem doLateDrops_of_single {x : RxCtx} (hrx : s.strm.rx = [(i, x)]) (hdrops : x.dropWin ≠ 0) :
    doLateDrops s = (s.setRx i { x with dropWin := 0 }).post 0x0013 (le 2 i ++ le 4 x.dropWin) := by
  rw [doLateDrops, hrx, List.filter_cons_of_pos (by simpa using hdrops)]
  rfl

end

/-! ### Transmit contexts -/

@[simp] theorem State.txc_setTx_same (s : State) (i : Nat) (x : TxCtx) : (s.setTx i x).txc i = x :=
  mapGetD_mapSet_same _ _ _ _

@[simp] theorem State.txc_count (s : State) (f : Fld) (n i : Nat) : (s.count f n).txc i = s.txc i := rfl

@[simp] theorem State.txc_reach (s : State) (n i : Nat) : (s.reach n).txc i = s.txc i := by
  rw [State.txc, State.reach_strm, State.txc]

@[simp] theorem State.on_reach (s : State) (n : Nat) (f : Fld) : (s.reach n).on f = s.on f := by
  simp only [State.on, State.rd, State.word, State.reach_regs]

@[simp] theorem State.portReady_reach (s : State) (n p : Nat) : (s.reach n).portReady p = s.portReady p := by
  simp only [State.portReady, State.portOn, State.on_reach, State.reach_net]

@[simp] theorem State.firstLaunch_reach (s : State) (n p : Nat) : (s.reach n).firstLaunch p = s.firstLaunch p := by
  simp only [State.firstLaunch, State.reach_strm]

/-- The local time has come to an instant that it was brought to. -/
theorem State.le_ns_reach (s : State) (n : Nat) : n ≤ (s.reach n).ns := by
  have htu : 0 < tu := Nat.two_pow_pos 40
  rw [State.ns, Nat.le_div_iff_mul_le htu, State.reach]
  split
  · exact Nat.le_refl _
  · exact Nat.not_lt.mp ‹_›

/-! ### Launches (R555 to R557) -/

section
variable {x : TxCtx} {q : TxPkt} {r : List TxPkt}

theorem TxCtx.headOn_pathA_of_cons (hqueue : x.queue = q :: r) (hpaths : q.paths = [false]) : x.headOn false = some q := by
  rw [TxCtx.headOn, hqueue, List.find?_cons_of_pos (by simp [hpaths])]

/-- Where every waiting packet goes by path A alone, none waits for path B. -/
theorem TxCtx.headOn_pathB_of_pathA (hpaths : ∀ y ∈ x.queue, y.paths = [false]) : x.headOn true = none := by
  rw [TxCtx.headOn, List.find?_eq_none]
  intro y hy
  simp [hpaths y hy]

/-- A packet that has left by its one path leaves the queue; packets of another number or launch stay. -/
theorem filterMap_launched (hpaths : q.paths = [false]) (hapart : ∀ y ∈ r, y.seq ≠ q.seq ∨ y.launch ≠ q.launch) :
    ((q :: r).filterMap fun y =>
      if y.seq = q.seq && y.launch = q.launch then
        (if y.paths == [false] then none else some { y with paths := y.paths.filter fun c => c != false })
      else some y) = r := by
  rw [List.filterMap_cons_none (by simp [hpaths])]
  refine (List.filterMap_congr fun y hy => ?_).trans List.filterMap_some
  have hstays : ¬ (decide (y.seq = q.seq) && decide (y.launch = q.launch)) = true := by
    simpa [imp_iff_not_or] using hapart y hy
  exact if_neg hstays

end

/-- A context's first packet `q` has left by path A, its only one; the packets `r` wait behind it. -/
def State.sentOnA (s : State) (i : Nat) (q : TxPkt) (r : List TxPkt) : State :=
  (s.setTx i { s.txc i with
    queue := r
    sent := some { q with heads := [s.headOf (s.txc i) false] }
    pktA := (s.txc i).pktA + 1
    latest := ((s.txc i).latest.filter fun e => decide (s.run < e.1 + 1000000000)) ++
      [(s.run, (s.ns - q.launch) / 10)] }).count (Reg.NET.PORT.TXFRM (s.txc i).porta)

theorem State.queue_sentOnA (s : State) (i : Nat) (q : TxPkt) (r : List TxPkt) : ((s.sentOnA i q r).txc i).queue = r := by
  rw [State.sentOnA, State.txc_count, State.txc_setTx_same]

section
variable {s : State} {i : Nat}

theorem State.launchOn_of_headOn_none {b : Bool} (h : (s.txc i).headOn b = none) : s.launchOn i b = s := by
  simp only [State.launchOn, h]

/-- A context on path A alone sends its first packet once it may launch. -/
theorem State.launchOn_pathA {q : TxPkt} {r : List TxPkt} (hqueue : (s.txc i).queue = q :: r)
    (hpaths : q.paths = [false]) (hapart : ∀ y ∈ r, y.seq ≠ q.seq ∨ y.launch ≠ q.launch)
    (hsent : (s.txc i).sent = none) (hmay : s.mayLaunch (s.txc i) false q = true) :
    s.launchOn i false = s.sentOnA i q r := by
  have hleft := filterMap_launched hpaths hapart
  have hcopy (heads : List TxHead) :
      ({ q with heads := heads } : TxPkt) = { q with paths := [false], heads := heads } := by rw [← hpaths]
  rw [← hqueue] at hleft
  unfold State.launchOn State.sentOnA
  simp only [TxCtx.headOn_pathA_of_cons hqueue hpaths, hmay, hsent, hleft, hcopy]
  rfl

theorem doPacketLaunch_of_not_ready (hA : s.portReady (s.txc i).porta = false)
    (hB : s.portReady ((s.txc i).porta + 2) = false) : doPacketLaunch i s = s := by
  simp [doPacketLaunch, TxCtx.portOf, hA, hB, leastOf]

/-- Where path A alone has a packet and its port is ready, the local time comes to that packet's launch. -/
theorem doPacketLaunch_of_pathA {q : TxPkt} (hheadA : (s.txc i).headOn false = some q)
    (hheadB : (s.txc i).headOn true = none) (hready : s.portReady (s.txc i).porta = true) :
    doPacketLaunch i s = ((s.reach q.launch).launchOn i false).launchOn i true := by
  simp [doPacketLaunch, TxCtx.portOf, hheadA, hheadB, hready, leastOf]

/-- The first packet in line at the port of path A, its context's only path, leaves at its launch before its deadline. -/
theorem doPacketLaunch_of_first {q : TxPkt} {r : List TxPkt} (hqueue : (s.txc i).queue = q :: r)
    (hpaths : ∀ y ∈ (s.txc i).queue, y.paths = [false]) (hapart : ∀ y ∈ r, y.seq ≠ q.seq ∨ y.launch ≠ q.launch)
    (hsent : (s.txc i).sent = none) (hready : s.portReady (s.txc i).porta = true)
    (hfirst : s.firstLaunch (s.txc i).porta = some q.launch)
    (hbefore : (s.reach q.launch).ns < q.flip + (s.reach q.launch).tickNs) :
    doPacketLaunch i s = (s.reach q.launch).sentOnA i q r := by
  have hq : q.paths = [false] := hpaths q (hqueue ▸ List.mem_cons_self)
  have hmay : (s.reach q.launch).mayLaunch ((s.reach q.launch).txc i) false q = true := by
    simp [State.mayLaunch, TxCtx.portOf, hready, hfirst, hbefore, s.le_ns_reach q.launch]
  have hnoB : (((s.reach q.launch).sentOnA i q r).txc i).headOn true = none := by
    refine TxCtx.headOn_pathB_of_pathA fun y hy => hpaths y ?_
    rw [State.queue_sentOnA] at hy
    exact hqueue ▸ List.mem_cons_of_mem q hy
  rw [doPacketLaunch_of_pathA (TxCtx.headOn_pathA_of_cons hqueue hq) (TxCtx.headOn_pathB_of_pathA hpaths) hready,
    State.launchOn_pathA (by rwa [State.txc_reach]) hq hapart (by rwa [State.txc_reach]) hmay,
    State.launchOn_of_headOn_none hnoB]

/-- A packet that has not left by path A until its deadline is dropped, and NETTX's tag advances (R556, R775). -/
theorem doTxDeadline_of_pathA {q : TxPkt} {r : List TxPkt} (hqueue : (s.txc i).queue = q :: r)
    (hpaths : q.paths = [false]) :
    doTxDeadline i s = (((s.reach (q.flip + s.tickNs)).advanceGen 5 3).setTx i
      { s.txc i with queue := r, txMiss := (s.txc i).txMiss + 1 }).count
        (Reg.NET.PORT.TXDROP.SCHED (s.txc i).porta) := by
  simp only [doTxDeadline, hqueue, hpaths]
  rfl

end

/-- Settles O23: a packet goes to its context or is dropped; each window and path is due; the first packet in line launches
or misses its deadline. -/
theorem packetRowsTakeEffect : Obligations.PacketRowsTakeEffect := by
  refine ⟨?matched, ?unwanted, ?pathDown, ?slip, ?lateDrops, ?launch, ?notReady, ?deadline⟩
  case matched =>
    rintro p s u i b x hon hlen hvid rfl hmatch rfl
    rw [exec_packetReceive, doPacket_of_matchRx hon hlen hvid hmatch]
    refine ⟨fun hfmt => ?_, fun hfmt hauth => ?_, fun hfmt hauth => ?_, fun hfmt hauth hahead => ?_,
      fun hfmt hauth hnear => ?_⟩
    · rw [State.receiveAt_of_fmtBad hfmt]
    · rw [State.receiveAt_of_fail hfmt hauth]
    · rw [State.receiveAt_of_dup hfmt hauth]
    · rw [State.receiveAt_of_early hfmt hauth hahead]
    · rw [State.receiveAt_of_taken hfmt hauth hnear]
  case unwanted =>
    rintro p s u hon rfl hdrop
    rw [exec_packetReceive, doPacket_of_unwanted hon hdrop, State.dropFrame]
  case pathDown =>
    rintro i s y hopen hup hquiet rfl
    rw [exec_streamPathDown, doPathDown_of_pathB hopen hup hquiet]
    rfl
  case slip =>
    rintro i f s x rfl hopen hslip hfirst hwin habove rfl hended
    rw [exec_slipWindowEnd, doSlipWindow_of_above hopen hslip hfirst hwin habove hended]
  case lateDrops =>
    intro i x s hrx hdrops
    rw [exec_lateDropWindowEnd, doLateDrops_of_single hrx hdrops]
  case launch =>
    rintro i q r s u x rfl hqueue hpaths hapart hsent hready hfirst rfl hbefore
    rw [exec_streamPacketLaunch, doPacketLaunch_of_first hqueue hpaths hapart hsent hready hfirst hbefore,
      State.sentOnA, State.txc_reach]
  case notReady =>
    intro i s hA hB
    rw [exec_streamPacketLaunch, doPacketLaunch_of_not_ready hA hB]
  case deadline =>
    intro i q r s hqueue hpaths
    rw [exec_packetTxDeadline, doTxDeadline_of_pathA hqueue hpaths]

end Sys2Proof.Machine
end

section
/-! A register write field by field (R8, R9): what it leaves in a field that its rule admits, in one that it refuses and in
the fields beside it; and what showing EVAL behind it leaves alone (R891). -/
namespace Sys2Proof.Machine

/-- Two fields of one register that share no bit. -/
def RField.Apart (f g : RField) : Prop := f.lo + f.w ≤ g.lo ∨ g.lo + g.w ≤ f.lo

section
variable {s : State} {off : Nat} {v : Word}

theorem State.getBits_writeField_rw {f : RField} (hty : f.ty = .rw) (hfits : f.lo + f.w ≤ 32)
    (hok : s.fieldOk off f.lo (getBits v f.lo f.w) v = true) (acc : Word × Bool) :
    getBits (s.writeField off v acc f).1 f.lo f.w = getBits v f.lo f.w := by
  have hlt : getBits v f.lo f.w < 2 ^ f.w := Nat.mod_lt _ (Nat.two_pow_pos _)
  simp only [State.writeField, hty, hok, if_true]
  rw [getBits_putBits_same _ _ _ _ hfits, Nat.mod_eq_of_lt hlt]

/-- A field that its rule refuses keeps what the register held. -/
theorem State.writeField_of_not_ok {f : RField} (hty : f.ty = .rw)
    (hok : s.fieldOk off f.lo (getBits v f.lo f.w) v = false) (acc : Word × Bool) : s.writeField off v acc f = acc := by
  simp only [State.writeField, hty, hok, Bool.false_eq_true, if_false]

/-- Writing one field leaves the bits of another. -/
theorem State.getBits_writeField_apart {f g : RField} (hf : f.lo + f.w ≤ 32) (hg : g.lo + g.w ≤ 32) (h : f.Apart g)
    (acc : Word × Bool) : getBits (s.writeField off v acc g).1 f.lo f.w = getBits acc.1 f.lo f.w := by
  have hput (n : Nat) : getBits (putBits acc.1 g.lo g.w n) f.lo f.w = getBits acc.1 f.lo f.w :=
    getBits_putBits_apart _ _ _ _ _ _ hg hf (Or.symm h)
  unfold State.writeField
  cases g.ty with
  | ro | wo | sh => rfl
  | w1c => exact hput _
  | rw | w1s =>
    dsimp only
    split
    · exact hput _
    · rfl
  | lk =>
    dsimp only
    split
    · rfl
    · split
      · rfl
      · exact hput _

theorem State.getBits_foldl_writeField_apart {f : RField} {fs : List RField} (hf : f.lo + f.w ≤ 32)
    (hfits : ∀ g ∈ fs, g.lo + g.w ≤ 32) (hapart : ∀ g ∈ fs, f.Apart g) (acc : Word × Bool) :
    getBits (fs.foldl (s.writeField off v) acc).1 f.lo f.w = getBits acc.1 f.lo f.w := by
  induction fs generalizing acc with
  | nil => rfl
  | cons g fs ih =>
    obtain ⟨hg, hfits⟩ := List.forall_mem_cons.mp hfits
    obtain ⟨hfg, hapart⟩ := List.forall_mem_cons.mp hapart
    rw [List.foldl_cons, ih hfits hapart, State.getBits_writeField_apart hf hg hfg]

/-- In a register whose fields share no bit, each RW field that its rule admits takes its value. -/
theorem State.getBits_foldl_writeField_rw {f : RField} {fs : List RField} (hmem : f ∈ fs) (hty : f.ty = .rw)
    (hok : s.fieldOk off f.lo (getBits v f.lo f.w) v = true) (hfits : ∀ g ∈ fs, g.lo + g.w ≤ 32)
    (hapart : fs.Pairwise RField.Apart) (acc : Word × Bool) :
    getBits (fs.foldl (s.writeField off v) acc).1 f.lo f.w = getBits v f.lo f.w := by
  have hf : f.lo + f.w ≤ 32 := hfits f hmem
  induction fs generalizing acc with
  | nil => exact absurd hmem List.not_mem_nil
  | cons g fs ih =>
    obtain ⟨-, hrest⟩ := List.forall_mem_cons.mp hfits
    obtain ⟨hhead, htail⟩ := List.pairwise_cons.mp hapart
    rw [List.foldl_cons]
    obtain rfl | hlater := List.mem_cons.mp hmem
    · rw [State.getBits_foldl_writeField_apart hf hrest hhead, State.getBits_writeField_rw hty hf hok]
    · exact ih hlater hrest htail _

theorem State.foldl_writeField_of_not_ok {fs : List RField} (hty : ∀ f ∈ fs, f.ty = .rw)
    (hok : ∀ f ∈ fs, s.fieldOk off f.lo (getBits v f.lo f.w) v = false) (acc : Word × Bool) :
    fs.foldl (s.writeField off v) acc = acc := by
  induction fs with
  | nil => rfl
  | cons f fs ih =>
    obtain ⟨hf, hty⟩ := List.forall_mem_cons.mp hty
    obtain ⟨hfok, hok⟩ := List.forall_mem_cons.mp hok
    rw [List.foldl_cons, State.writeField_of_not_ok hf hfok, ih hty hok]

end

theorem State.word_siltWrite_other (s : State) (code : Nat) (data : List Byte) (cite : Option Nat) {off : Nat}
    (h : off ≠ Reg.STORE.SILT.HEAD.off) : (s.siltWrite code data cite).word off = s.word off := by
  unfold State.siltWrite
  dsimp only
  rw [State.word_wr_other _ _ _ h]
  simp only [State.word]

/-- Showing EVAL changes `SEC.STATUS` and the silt log's head alone among the registers. -/
theorem State.word_showEval (s old : State) {off : Nat} (hstatus : off ≠ Reg.SEC.STATUS.EVAL.off)
    (hhead : off ≠ Reg.STORE.SILT.HEAD.off) : (s.showEval old).word off = s.word off := by
  unfold State.showEval
  dsimp only
  split
  · rfl
  · rw [State.word_siltWrite_other _ _ _ _ hhead, State.put, State.word_wr_other _ _ _ hstatus]

@[simp] theorem State.net_showEval (s old : State) : (s.showEval old).net = s.net := by
  unfold State.showEval
  dsimp only
  split
  · rfl
  · rw [State.siltWrite_net, State.put_net]

end Sys2Proof.Machine
end

section
/-! The network ports and the switch (R511 to R524, R534): what the rows of frames, requests, reports, ageing and links
leave, and which fields a write of `NET.SW` sets. -/
namespace Sys2Proof.Machine

theorem exec_frameForward (f : NetFrame) (s : State) : exec (.frameForward f) s = .next (doFrameForward f s) := rfl

theorem exec_arpRequest (p a : Nat) (h : NetHost) (s : State) :
    exec (.arpRequest p a h) s = .next (doArp p a h s) := rfl

theorem exec_icmpEchoRequest (p a : Nat) (h : NetHost) (b : List Byte) (s : State) :
    exec (.icmpEchoRequest p a h b) s = .next (doEcho p a h b s) := rfl

theorem exec_igmpReport (p g : Nat) (s : State) : exec (.igmpReport p g) s = .next (doIgmp p g s) := rfl

theorem exec_egressFrameStart (p : Nat) (s : State) : exec (.egressFrameStart p) s = .next (doEgress p s) := rfl

theorem exec_fdbAgeing (g m : Nat) (s : State) : exec (.fdbAgeing g m) s = .next (doAgeing g m s) := rfl

theorem exec_linkStateChange (p : Nat) (up fec : Bool) (s : State) :
    exec (.linkStateChange p up fec) s = .next (doLinkState p up fec s) := rfl

theorem exec_switchConfigWrite (q : Requester) (v : Word) (s : State) :
    exec (.switchConfigWrite q v) s = .next (s.writeReg q 0xA0004 v) := rfl

/-! ### Frames (R513, R518 to R524) -/

theorem State.ne_innerPort_of_mem_peers {s : State} {p q : Nat} (h : q ∈ s.peers p) : q ≠ innerPort :=
  Nat.ne_of_lt (List.mem_range.mp (List.mem_filter.mp h).1)

/-- Frames handed to external ports alone are queued there. -/
theorem foldl_handTo_of_ne_innerPort {f : NetFrame} {l : List Nat} (h : ∀ q ∈ l, q ≠ innerPort) (s : State) :
    l.foldl (fun (a : State) q => a.handTo f q) s =
      l.foldl (fun (a : State) q => a.enqueueFrame q (a.queueOf q f) (f.ipLen + 18)) s :=
  List.foldl_ext _ _ s fun _ q hq => if_neg (h q hq)

section
variable {f : NetFrame} {s : State} (hon : s.portOn f.port = true)
include hon

/-- A broadcast frame goes to the other ports of its bridge group and to the internal port (Table 10.1). -/
theorem doFrameForward_of_broadcast {u : State} (hkind : f.kind = .broadcast) (hquery : f.query = false)
    (hlen : f.ipLen ≤ s.rd (Reg.NET.PORT.CFG.MTU f.port))
    (hu : u = (s.count (Reg.NET.PORT.RXFRM f.port)).learn f.port f.src) :
    doFrameForward f s =
      ((u.peers f.port).foldl (fun (a : State) q => a.enqueueFrame q (a.queueOf q f) (f.ipLen + 18)) u).handTo f
        innerPort := by
  have hrouter : u.noteRouter f = u := if_neg (by simp [hquery])
  have hports : u.forwardTo f = u.peers f.port ++ [innerPort] := by simp only [State.forwardTo, hkind]
  unfold doFrameForward
  dsimp only
  rw [← hu, if_neg (by simp [hon]), if_neg (by simp [hkind]), if_neg (Nat.not_lt.mpr hlen), if_neg (by simp [hkind]),
    hrouter, hports, List.foldl_append, foldl_handTo_of_ne_innerPort fun _ => State.ne_innerPort_of_mem_peers]
  rfl

theorem doFrameForward_of_badFcs (hkind : f.kind = .badFcs) :
    doFrameForward f s =
      (s.count (Reg.NET.PORT.RXFRM f.port)).count (Reg.NET.PORT.RXERR.FCS f.port) := by
  unfold doFrameForward
  rw [if_neg (by simp [hon])]
  exact if_pos hkind

end

/-! ### Requests and reports (R513 to R516, R521) -/

/-- Every port takes an untagged frame (R516). -/
theorem State.vidOk_zero (s : State) (p : Nat) : s.vidOk p 0 = true := rfl

section
variable {p a n : Nat} {s : State} (hon : s.portOn p = true)
include hon

theorem doArp_of_own (haddr : s.rd (Reg.NET.PORT.IP.ADDR p) = a) (hset : a ≠ 0) :
    doArp p a ⟨n, 0⟩ s = (s.count (Reg.NET.PORT.RXFRM p)).reply { port := p, kind := 0, addr := n } 46 := by
  unfold doArp
  dsimp only
  rw [if_neg (by simp [hon]), if_pos (by simp [haddr, hset, State.vidOk_zero])]

theorem doEcho_of_own {b : List Byte} (haddr : s.rd (Reg.NET.PORT.IP.ADDR p) = a) (hset : a ≠ 0)
    (hlen : b.length + 28 ≤ s.rd (Reg.NET.PORT.CFG.MTU p)) :
    doEcho p a ⟨n, 0⟩ b s =
      (s.count (Reg.NET.PORT.RXFRM p)).reply { port := p, kind := 1, addr := n, data := b } (b.length + 46) := by
  unfold doEcho
  dsimp only
  rw [if_neg (by simp [hon]), if_neg (Nat.not_lt.mpr hlen), if_pos (by simp [haddr, hset, State.vidOk_zero])]

/-- An echo request for another address is dropped, whether or not its packet fits the MTU. -/
theorem doEcho_of_foreign {h : NetHost} {b : List Byte} (haddr : s.rd (Reg.NET.PORT.IP.ADDR p) ≠ a) :
    doEcho p a h b s = (s.count (Reg.NET.PORT.RXFRM p)).dropFrame p := by
  unfold doEcho
  dsimp only
  rw [if_neg (by simp [hon]), if_neg (c := _ = true) (by simp [Ne.symm haddr]), ite_self]

/-- A group that is registered already takes no further entry of the 2,048, so the port is noted (R521). -/
theorem doIgmp_of_known {g : Nat} {u : State} (hknown : (s.net.mcg.any fun e => e.1 == g) = true)
    (hu : u = s.count (Reg.NET.PORT.RXFRM p)) :
    doIgmp p g s = ({ u with net := { u.net with
      mcg := (s.net.mcg.filter fun e => !(e.1 == g && e.2.1 == p)) ++ [(g, p, s.run)] } } : State).showSwitch := by
  subst hu
  unfold doIgmp
  dsimp only
  rw [if_neg (by simp [hon]), hknown, if_neg (by simp)]

end

/-! ### Egress (R522, R523, R555) -/

section
variable {p : Nat} {s : State}

theorem doEgress_of_firstQueue {n : Nat} {r : List Egress} (hon : s.portOn p = true)
    (hlink : s.on (Reg.NET.PORT.STAT.LINK p) = true) (hqueue : atD s.net.queues p [] = ⟨0, n⟩ :: r) :
    doEgress p s = ({ s with net := { s.net with queues := modAt s.net.queues p fun l => l.eraseIdx 0 } } : State).count
      (Reg.NET.PORT.TXFRM p) := by
  have hpick : (atD s.net.queues p []).findIdx? (fun e => e.queue == 0) = some 0 := by rw [hqueue]; rfl
  have hhead : atD (atD s.net.queues p []) 0 { queue := 2, bytes := 0 } = ⟨0, n⟩ := by rw [hqueue]; rfl
  unfold doEgress
  dsimp only
  rw [if_neg (by simp [hon, hlink]), hpick]
  dsimp only
  rw [hhead]
  exact if_neg (by simp)

/-- The third queue waits while a stream packet's launch time has come (R555). -/
theorem doEgress_of_thirdQueue_due {t : Nat} (hthird : ∀ e ∈ atD s.net.queues p [], e.queue = 2)
    (hfirst : s.firstLaunch p = some t) (hdue : t ≤ s.ns) : doEgress p s = s := by
  have hpick (q : Nat) (hq : q ≠ 2) : (atD s.net.queues p []).findIdx? (fun e => e.queue == q) = none := by
    rw [List.findIdx?_eq_none_iff]
    intro e he
    simpa [hthird e he] using hq.symm
  unfold doEgress
  dsimp only
  rw [hpick 0 (by decide), hpick 1 (by decide), hfirst]
  simp [hdue]

end

/-! ### Ageing and links (R511, R520) -/

/-- An address whose entries are all due leaves the table. -/
theorem doAgeing_of_due {g m : Nat} {s : State}
    (hdue : ∀ e ∈ s.net.fdb, e.1 = g → e.2.1 = m → e.2.2.2 + s.rd Reg.NET.SW.AGE * 1000000000 ≤ s.run) :
    doAgeing g m s = ({ s with net := { s.net with
      fdb := s.net.fdb.filter fun e => !(e.1 == g && e.2.1 == m) } } : State).showSwitch := by
  have hfdb : s.net.fdb.filter (fun e => !(e.1 == g && e.2.1 == m &&
      decide (e.2.2.2 + s.rd Reg.NET.SW.AGE * 1000000000 ≤ s.run))) =
      s.net.fdb.filter fun e => !(e.1 == g && e.2.1 == m) := by
    refine List.filter_congr fun e he => ?_
    by_cases hmine : e.1 = g ∧ e.2.1 = m
    · simp [hmine, hdue e he hmine.1 hmine.2]
    · rw [show (e.1 == g && e.2.1 == m) = false by simpa using hmine, Bool.false_and]
  unfold doAgeing
  dsimp only
  rw [hfdb]

theorem doLinkState_of_awake {p : Nat} {s : State} (hp : p < 4) (hawake : s.rd Reg.SYS.PWR.STATE ≠ 4) (up fec : Bool) :
    doLinkState p up fec s = (s.put (Reg.NET.PORT.STAT.LINK p) up).put (Reg.NET.PORT.STAT.FECLOCK p)
      (fec || s.rd (Reg.NET.PORT.CFG.FEC p) == 0) := if_neg (by simp [hawake, hp])

/-! ### Writes of `NET.SW` (R519) -/

/-- The fields of `NET.SW`: the four ports' bridge groups, UNREG and AGE. -/
def netSwFields : List RField :=
  [⟨0, 2, .rw, 0⟩, ⟨2, 2, .rw, 1⟩, ⟨4, 2, .rw, 2⟩, ⟨6, 2, .rw, 3⟩, ⟨8, 1, .rw, 0⟩, ⟨16, 16, .rw, 300⟩]

theorem regFields_netSw : regFields 0xA0004 = some netSwFields := by decide +kernel

theorem netSwFields_fits : ∀ f ∈ netSwFields, f.lo + f.w ≤ 32 := by decide

theorem netSwFields_rw : ∀ f ∈ netSwFields, f.ty = .rw := by decide

theorem netSwFields_apart : netSwFields.Pairwise RField.Apart := by
  unfold RField.Apart
  decide

/-- Two ports of a pair in one bridge group refuse every field of the write. -/
theorem State.fieldOk_netSw_of_shared (s : State) {v : Word} (lo n : Nat)
    (hshared : getBits v 0 2 = getBits v 4 2 ∨ getBits v 2 2 = getBits v 6 2) : s.fieldOk 0xA0004 lo n v = false := by
  have hrule : (getBits v 0 2 != getBits v 4 2 && getBits v 2 2 != getBits v 6 2) = false := by
    simpa [imp_iff_not_or] using hshared
  simp [State.fieldOk, State.fieldOk1, hrule]

theorem ranges_netSw : ∀ r ∈ ranges1 ++ ranges2 ++ ranges3,
    r.lo = 16 ∨ (arrIdx r.base r.stride r.count 0xA0004).isSome = false := by decide

/-- Otherwise a bridge group has no bound but its width: AGE alone of the register has a range. -/
theorem State.fieldOk_netSw_of_apart (s : State) {v : Word} {lo : Nat} (n : Nat) (hlo : lo ≠ 16)
    (hA : getBits v 0 2 ≠ getBits v 4 2) (hB : getBits v 2 2 ≠ getBits v 6 2) : s.fieldOk 0xA0004 lo n v = true := by
  have hrange : inRange 0xA0004 lo n = true := by
    rw [inRange, List.all_eq_true]
    intro r hr
    obtain h | h := ranges_netSw r hr
    · simp [h, Ne.symm hlo]
    · simp [h]
  simp [State.fieldOk, hrange, State.fieldOk1, State.fieldOk2, onArr, arrIdx, hA, hB]

/-- A write of `NET.SW` stores its fields and shows EVAL. -/
theorem State.writeReg_netSw {s : State} {q : Requester} {fs : List RField} (hw : s.Writes q 0xA0004 fs) (v : Word) :
    s.writeReg q 0xA0004 v = (s.setWord 0xA0004
      (netSwFields.foldl (s.writeField 0xA0004 v) (s.word 0xA0004, false)).1).showEval s := by
  obtain rfl : netSwFields = fs := Option.some.inj (regFields_netSw.symm.trans hw.mapped)
  have hclear : clearOffs.contains 0xA0004 = false := by decide
  have hshadow : netSwFields.any (fun f => f.ty == .sh) = false := by decide
  have hhook (t : State) : t.hook s q 0xA0004 v = t := by
    unfold State.hook
    rw [hclear]
    rfl
  have hlock := s.foldl_writeField_snd 0xA0004 v netSwFields (s.word 0xA0004, false) fun f hf => by
    rw [netSwFields_rw f hf]
    decide
  rw [State.writeReg_of_writes hw]
  unfold State.writeMapped
  simp only [hshadow, hhook, hlock, Bool.false_eq_true, if_false]

/-- A field that its rule admits reads back as written. -/
theorem State.rd_writeReg_netSw {s : State} {q : Requester} {v : Word} {fs : List RField} {f : Fld} {rst : Nat}
    (hw : s.Writes q 0xA0004 fs) (hmem : ⟨f.lo, f.w, .rw, rst⟩ ∈ netSwFields) (hoff : f.off = 0xA0004)
    (hok : s.fieldOk 0xA0004 f.lo (getBits v f.lo f.w) v = true) :
    (s.writeReg q 0xA0004 v).rd f = getBits v f.lo f.w := by
  rw [State.writeReg_netSw hw, State.rd, hoff, State.word_showEval _ s (by decide) (by decide),
    State.word_setWord_same]
  exact State.getBits_foldl_writeField_rw hmem rfl hok netSwFields_fits netSwFields_apart _

/-- Settles O24: each frame, request and report passes its port's checks, each address is due, and a write of `NET.SW`
sets all four bridge groups or none. -/
theorem switchRowsTakeEffect : Obligations.SwitchRowsTakeEffect := by
  refine ⟨?broadcast, ?badFcs, ?arp, ?echo, ?echoForeign, ?igmp, ?firstQueue, ?thirdQueue, ?ageing, ?link, ?shared,
    ?groups⟩
  case broadcast =>
    rintro f s u v hon hkind hquery hlen hu rfl
    rw [exec_frameForward, doFrameForward_of_broadcast hon hkind hquery hlen hu]
    rfl
  case badFcs =>
    intro f s hon hkind
    rw [exec_frameForward, doFrameForward_of_badFcs hon hkind]
  case arp =>
    intro p a n s hon haddr hset
    rw [exec_arpRequest, doArp_of_own hon haddr hset]
  case echo =>
    intro p a n b s hon haddr hset hlen
    rw [exec_icmpEchoRequest, doEcho_of_own hon haddr hset hlen]
  case echoForeign =>
    intro p a n v b s hon haddr
    rw [exec_icmpEchoRequest, doEcho_of_foreign hon haddr, State.dropFrame]
  case igmp =>
    intro p g s u hon hknown hu
    rw [exec_igmpReport, doIgmp_of_known hon hknown hu]
  case firstQueue =>
    intro p n r s hon hlink hqueue
    rw [exec_egressFrameStart, doEgress_of_firstQueue hon hlink hqueue]
  case thirdQueue =>
    intro p t s hthird hfirst hdue
    rw [exec_egressFrameStart, doEgress_of_thirdQueue_due hthird hfirst hdue]
  case ageing =>
    intro g m s hdue
    rw [exec_fdbAgeing, doAgeing_of_due hdue]
  case link =>
    intro p up fec s hp hawake
    rw [exec_linkStateChange, doLinkState_of_awake hp hawake]
  case shared =>
    intro q v fs s hw hshared
    have hkept := State.foldl_writeField_of_not_ok netSwFields_rw
      (fun f _ => s.fieldOk_netSw_of_shared f.lo _ hshared) (s.word 0xA0004, false)
    refine ⟨_, exec_switchConfigWrite q v s, ?_⟩
    rw [State.writeReg_netSw hw, hkept]
    exact ⟨(State.word_showEval _ s (by decide) (by decide)).trans (s.word_setWord_same _ _), State.net_showEval _ s⟩
  case groups =>
    intro q v fs s hw hA hB
    have hgroup {f : Fld} (hoff : f.off = 0xA0004) (hlo : f.lo ≠ 16) (rst : Nat)
        (hmem : ⟨f.lo, f.w, .rw, rst⟩ ∈ netSwFields) : (s.writeReg q 0xA0004 v).rd f = getBits v f.lo f.w :=
      State.rd_writeReg_netSw hw hmem hoff (s.fieldOk_netSw_of_apart _ hlo hA hB)
    refine ⟨_, exec_switchConfigWrite q v s, hgroup (f := Reg.NET.SW.BRG0) rfl (by decide) 0 (by decide),
      hgroup (f := Reg.NET.SW.BRG1) rfl (by decide) 1 (by decide),
      hgroup (f := Reg.NET.SW.BRG2) rfl (by decide) 2 (by decide),
      hgroup (f := Reg.NET.SW.BRG3) rfl (by decide) 3 (by decide), ?_⟩
    rw [State.writeReg_netSw hw, State.net_showEval, State.setWord_net]

end Sys2Proof.Machine
end

section
/-! Modulator channels after a short circuit and under sense calibration (R621 to R627, R636, R637, R665, R666): what each
row comes to once its instant has come and its channel stands in the row's state. -/
namespace Sys2Proof.Machine

theorem exec_scNFall (n : Nat) (s : State) : exec (.scNFall n) s = .next (doScFall n s) := rfl

theorem exec_probeStart (n : Nat) (s : State) : exec (.probeStart n) s = .next (doProbeStart n s) := rfl

theorem exec_scWaitExpiry (n : Nat) (s : State) : exec (.scWaitExpiry n) s = .next (doWaitExpiry n s) := rfl

theorem exec_probeResult (w : PilotWindow) (s : State) : exec (.probeResult w) s = .next (doProbeResult w s) := rfl

theorem exec_rearmRampEnd (n : Nat) (s : State) : exec (.rearmRampEnd n) s = .next (doRearmEnd n s) := rfl

theorem exec_scClear (d : Desc) (s : State) :
    exec (.scClear d) s = .next (hostCmd 0x52 roleO d (scClearRes d) s) := rfl

theorem exec_senseCal (d : Desc) (s : State) :
    exec (.senseCal d) s = .next (hostCmd 0x53 roleE d (senseCalRes d) s) := rfl

theorem exec_senseCalibration (n : Nat) (i v : Int) (s : State) :
    exec (.senseCalibration n i v) s = .next (doCalibration n i v s) := rfl

theorem exec_senseCalTimeout (n : Nat) (s : State) : exec (.senseCalTimeout n) s = .next (doCalTimeout n s) := rfl

/-! ### What has lasted -/

theorem State.lasted_some_iff {s : State} {t ns : Nat} : s.lasted (some t) ns = true ↔ t + ns ≤ s.run := decide_eq_true_iff

theorem State.ranFor_iff {s : State} {r ns : Nat} {x : Running} (hrun : (s.ring r).run = some x) :
    s.ranFor r ns = true ↔ x.since + ns ≤ s.run := by
  rw [State.ranFor, hrun, Option.map_some, State.lasted_some_iff]

/-! ### Short circuits and probes (R621 to R627, R665, R666) -/

section
variable {s : State} {n : Nat} (hn : n < 128)
include hn

/-- A short circuit latches a running channel whose group has SCEN: SC_WAIT once the retries are spent, else SC_OFF. -/
theorem doScFall_of_run {u : State} (hshown : s.rd (Reg.MOD.CH.STAT.STATE n) = chRun)
    (hscen : s.on (Reg.MOD.G.CFG.SCEN (n / 8)) = true) (hu : u = (s.scnAt n false).count (Reg.MOD.CH.CNT.SC n)) :
    doScFall n s = (u.onCh2 n fun _ => { (u.mc n).off with
      base := if 3 ≤ (s.retries n).length then chScWait else chScOff
      rearm := none, offAt := s.run, retries := s.retries n }).log
        0x0308 (le 1 n ++ le 1 chRun ++ le 4 (s.retries n).length) := by
  subst hu
  unfold doScFall
  rw [if_neg (Nat.not_le.mpr hn), hshown]
  dsimp only
  rw [if_pos (by simp [hscen])]

theorem doProbeStart_of_due (hbase : (s.mc n).base = chScOff) (hdue : (s.mc n).offAt + 500000000 ≤ s.run) :
    doProbeStart n s = (s.scnAt n true).probe n := by
  unfold doProbeStart
  rw [if_neg (by simp [hn, hbase, State.lasted_some_iff.mpr hdue])]

theorem doWaitExpiry_of_due (hbase : (s.mc n).base = chScWait)
    (hdue : (s.mc n).retries.headD 0 + 60000000000 ≤ s.run) :
    doWaitExpiry n s =
      ((s.scnAt n true).onCh2 n fun x => { x with base := chScOff, retries := x.retries.drop 1 }).probe n := by
  unfold doWaitExpiry
  rw [if_neg (by simpa [hn, hbase] using State.lasted_some_iff.mpr hdue)]

theorem doRearmEnd_of_due {t : Nat} (hrearm : (s.mc n).rearm = some t) (hdue : t + 2000000000 ≤ s.run) :
    doRearmEnd n s = s.onCh2 n fun x => { x with rearm := none } := by
  unfold doRearmEnd
  rw [if_neg (by simp [hn, hrearm, State.lasted_some_iff.mpr hdue])]

end

/-- The silt log entry of a probe's outcome (R666). -/
def probeEntry (w : PilotWindow) (outcome : Nat) : List Byte :=
  le 1 w.ch ++ le 4 (zOf w) ++ le 1 (Config.probeOutcome outcome)

section
variable {w : PilotWindow} {s : State} (hn : w.ch < 128) (hbase : (s.mc w.ch).base = chProbe)
  (hdue : (s.mc w.ch).offAt + 1000000000 ≤ s.run)
include hn hbase hdue

/-- A probe's window decides a second after the probe's start: too little voltage, a short, or a sound load. -/
theorem doProbeResult_of_due : doProbeResult w s =
    if !s.vMeets w then
      (s.onCh2 w.ch fun x => { x.off with base := chScOff, offAt := s.run }).log 0x0309 (probeEntry w 2)
    else if s.iMeets w && decide (w.vAmp < w.iAmp) then
      ((s.onCh2 w.ch fun x => { x.off with base := chShort }).log 0x0309 (probeEntry w 1)).modEvent w.ch 3
        (Reg.MOD.CH.STAT.STATE w.ch)
    else
      (s.onCh2 w.ch fun x => { x with
        base := chRun, rearm := some s.run, retries := s.retries w.ch ++ [s.run]
        fade := s.fadeAt (w.ch / 8) }).log 0x0309 (probeEntry w 0) :=
  if_neg (by simp [hn, hbase, State.lasted_some_iff.mpr hdue])

theorem doProbeResult_of_not_vMeets (hv : s.vMeets w = false) : doProbeResult w s =
    (s.onCh2 w.ch fun x => { x.off with base := chScOff, offAt := s.run }).log 0x0309 (probeEntry w 2) := by
  rw [doProbeResult_of_due hn hbase hdue, if_pos (by simp [hv])]

/-- |Z| below 1.0 Ω: the channel is shorted (R624). -/
theorem doProbeResult_of_short (hv : s.vMeets w = true) (hi : s.iMeets w = true) (hz : w.vAmp < w.iAmp) :
    doProbeResult w s = ((s.onCh2 w.ch fun x => { x.off with base := chShort }).log 0x0309 (probeEntry w 1)).modEvent
      w.ch 3 (Reg.MOD.CH.STAT.STATE w.ch) := by
  rw [doProbeResult_of_due hn hbase hdue, if_neg (by simp [hv]), if_pos (by simp [hi, hz])]

/-- |Z| of 1.0 Ω or more: the channel re-arms (R625). -/
theorem doProbeResult_of_sound (hv : s.vMeets w = true) (hz : w.iAmp ≤ w.vAmp) :
    doProbeResult w s = (s.onCh2 w.ch fun x => { x with
      base := chRun, rearm := some s.run, retries := s.retries w.ch ++ [s.run]
      fade := s.fadeAt (w.ch / 8) }).log 0x0309 (probeEntry w 0) := by
  rw [doProbeResult_of_due hn hbase hdue, if_neg (by simp [hv]), if_neg (by simp [Nat.not_lt.mpr hz])]

end

theorem scClearRes_of_latched {d : Desc} {u : State} (hn : d.a0 < 128)
    (hbase : (u.mc d.a0).base ∈ [chScOff, chShort, chScWait]) :
    scClearRes d u = okRes ((u.onCh2 d.a0 fun x => { x with base := chScOff, retries := [] }).probe d.a0) := by
  unfold scClearRes
  rw [if_neg (Nat.not_le.mpr hn)]
  dsimp only
  rw [if_pos (by simpa [or_assoc] using hbase)]

/-! ### Sense calibration (R636, R637) -/

/-- SENSE_CAL of a running channel goes on; with FORCE the channel fades to zero modulation. -/
theorem senseCalRes_of_run {d : Desc} {u : State} (hn : d.a0 < 128) (hwait : d.a1 ≤ 60)
    (hshown : u.rd (Reg.MOD.CH.STAT.STATE d.a0) = chRun) :
    senseCalRes d u =
      if d.a2 % 2 = 1 then longRes (u.onCh2 d.a0 fun x => { x with fade := u.rampTo x.fade 0 32 }) else longRes u := by
  unfold senseCalRes
  rw [if_neg (Nat.not_le.mpr hn), if_neg (Nat.not_lt.mpr hwait), if_neg (not_not_intro hshown)]

section
variable {s : State} {n r : Nat} {x : Running} (hrun : (s.ring r).run = some x)
include hrun

/-- Without FORCE the offsets are measured after 2 s of quiet. -/
theorem doCalibration_of_quiet (i v : Int) (hring : s.ringOf 0x53 (fun d => d.a0 == n) = some r)
    (hforce : x.d.a2 % 2 = 0) (hquiet : (s.mc n).loudAt + 2000000000 ≤ s.run) :
    doCalibration n i v s = (s.onCh2 n fun y => { y with iOfs := i, vOfs := v }).finish r stOk [] [] := by
  have hlasted := State.lasted_some_iff.mpr hquiet
  unfold doCalibration
  simp [hring, hrun, hforce, hlasted]

/-- With FORCE they are measured once the fade and 20 ms are over, and the channel ramps back. -/
theorem doCalibration_of_force (i v : Int) (hring : s.ringOf 0x53 (fun d => d.a0 == n) = some r)
    (hforce : x.d.a2 % 2 = 1) (hripe : x.since + ((32 * s.ts3 + 2) / 3 + 20000000) ≤ s.run) :
    doCalibration n i v s = (s.onCh2 n fun y => { y with
      iOfs := i, vOfs := v, fade := s.rampTo { g0 := 0, g1 := 0 } (s.fadeGoal (n / 8)) 256 }).finish r stOk [] [] := by
  have hran := (State.ranFor_iff hrun).mpr hripe
  unfold doCalibration
  simp [hring, hrun, hforce, hran]

theorem doCalTimeout_of_due (hring : s.ringOf 0x53 (fun d => d.a0 == n && d.a2 % 2 == 0) = some r)
    (hdue : x.since + x.d.a1 * 1000000000 ≤ s.run) : doCalTimeout n s = s.finish r stDeferred [] [] := by
  have hran := (State.ranFor_iff hrun).mpr hdue
  unfold doCalTimeout
  simp only [hring, hrun]
  rw [if_pos hran]

end

/-- Settles O27: each row's instant has come and its channel stands in the row's state, so the row has its effect; a
probe's window and FORCE choose between effects. -/
theorem modulatorChannelRowsTakeEffect : Obligations.ModulatorChannelRowsTakeEffect := by
  refine ⟨?scFall, ?probeStart, ?waitExpiry, ?noVoltage, ?short, ?sound, ?rearmEnd, ?scClear, ?cal, ?calForced, ?quiet,
    ?forced, ?timeout⟩
  case scFall =>
    intro n s u hn hshown hscen hu
    rw [exec_scNFall, doScFall_of_run hn hshown hscen hu]
    rfl
  case probeStart =>
    intro n s hn hbase hdue
    rw [exec_probeStart, doProbeStart_of_due hn hbase hdue]
  case waitExpiry =>
    intro n s hn hbase hdue
    rw [exec_scWaitExpiry, doWaitExpiry_of_due hn hbase hdue]
    rfl
  case noVoltage =>
    intro w s hn hbase hdue hv
    rw [exec_probeResult, doProbeResult_of_not_vMeets hn hbase hdue hv]
    rfl
  case short =>
    intro w s hn hbase hdue hv hi hz
    rw [exec_probeResult, doProbeResult_of_short hn hbase hdue hv hi hz]
    rfl
  case sound =>
    intro w s hn hbase hdue hv hz
    rw [exec_probeResult, doProbeResult_of_sound hn hbase hdue hv hz]
    rfl
  case rearmEnd =>
    intro n t s hn hrearm hdue
    rw [exec_rearmRampEnd, doRearmEnd_of_due hn hrearm hdue]
  case scClear =>
    rintro d s u hadm rfl hn hbase
    rw [exec_scClear, hostCmd_ok hadm (scClearRes_of_latched hn hbase) (Nat.zero_le _)]
    rfl
  case cal =>
    rintro d s u hadm rfl hn hwait hshown hforce
    have hres := (senseCalRes_of_run hn hwait hshown).trans (if_neg (by omega))
    rw [exec_senseCal, hostCmd_long hadm hres]
  case calForced =>
    rintro d s u hadm rfl hn hwait hshown hforce
    have hres := (senseCalRes_of_run hn hwait hshown).trans (if_pos hforce)
    rw [exec_senseCal, hostCmd_long hadm hres]
  case quiet =>
    intro n r i v x s hring hrun hforce hquiet
    rw [exec_senseCalibration, doCalibration_of_quiet hrun i v hring hforce hquiet]
  case forced =>
    intro n r i v x s hring hrun hforce hripe
    rw [exec_senseCalibration, doCalibration_of_force hrun i v hring hforce hripe]
  case timeout =>
    intro n r x s hring hrun hdue
    rw [exec_senseCalTimeout, doCalTimeout_of_due hrun hring hdue]

end Sys2Proof.Machine
end

section
/-! The ring's and the pin's all-stop (R628 to R635, R709): what starts each, what it does to its groups, and what ends
it. -/
namespace Sys2Proof.Machine

theorem exec_allstop (d : Desc) (s : State) : exec (.allstop d) s = .next (doAllstop d s) := rfl

theorem exec_muteNFall (held : Nat) (s : State) : exec (.muteNFall held) s = .next (doMuteFall held s) := rfl

theorem exec_muteNRise (s : State) : exec .muteNRise s = .next (doMuteRise s) := rfl

theorem exec_allstopRelease (d : Desc) (s : State) :
    exec (.allstopRelease d) s = .next (hostCmd 0x51 roleO d (releaseRes d) s) := rfl

theorem exec_pinAllstopEnd (s : State) : exec .pinAllstopEnd s = .next (doPinEnd s) := rfl

/-! ### The ring's all-stop (R631, R632, R709) -/

/-- The samples of an all-stop's fade: none with HARD, else the feather that the length code names. -/
def allstopFade (d : Desc) : Nat :=
  if d.a1 % 2 = 1 ∨ 14 ≤ d.a1 / 16 % 16 then 0 else featherLen (d.a1 / 16 % 16)

/-- The instant by which the all-stop has applied to every group that it names. -/
def State.allstopAt (u : State) (d : Desc) : Nat :=
  (groupsIn d.a0).foldl (fun a g => max a (u.nextPeriod g)) u.time.now

/-- A named group stops: from its next carrier period on its gain falls to 0 over `n` samples, and its probes are cut. -/
def State.stopGroup (u : State) (n : Nat) (a : State) (g : Nat) : State :=
  let t := u.run + (u.nextPeriod g - u.time.now) / tu
  (a.setMg g { a.mg g with
    stop := true, rel := false
    s := { g0 := (a.mg g).s.val t, g1 := 0, from_ := t, len := (n * u.ts3 : Nat) / 3 } }).cutProbes g

theorem allstopRes_of_named {d : Desc} (u : State) (hnamed : groupsIn d.a0 ≠ []) :
    allstopRes d u = okRes
      ((groupsIn d.a0).foldl (u.stopGroup (allstopFade d)) ((u.put Reg.MOD.STOP.RING true).count Reg.MOD.CNT.RINGSTOP))
      (le 6 (u.allstopAt d / tu / 1000000000) ++ le 4 (u.allstopAt d / tu % 1000000000) ++
        le 1 (if 14 ≤ d.a1 / 16 % 16 then 1 else 0)) := by
  unfold allstopRes
  dsimp only
  rw [if_neg (by simpa using hnamed)]
  simp only [Bool.or_eq_true, decide_eq_true_eq]
  rfl

/-- At the head of CMD0 the decoder applies it, whatever SESSION, SEQ and MAC hold. -/
theorem doAllstop_of_ring_zero {d : Desc} {s : State} (hready : s.ready 0x50 d = true) (hring : d.ring = 0) :
    doAllstop d s = pumpUnknown 4 0 ((s.start 0x50 d).settle d (allstopRes d (s.start 0x50 d))) := by
  unfold doAllstop
  rw [if_pos hready]
  dsimp only
  rw [if_pos hring, hring]

/-! ### The pin's all-stop and the releases (R628 to R630, R633) -/

theorem doMuteFall_of_filtered {held : Nat} {s : State} (hheld : s.rd Reg.MOD.STOP.FILT ≤ held) :
    doMuteFall held s = (List.range 16).foldl (fun (a : State) g => (a.cutProbes g).eachCh g fun _ x => x.off)
      (((s.put Reg.MOD.STOP.PIN true).put Reg.MOD.STOP.LATCHED true).count Reg.MOD.CNT.PINSTOP) :=
  if_neg (Nat.not_lt.mpr hheld)

theorem doMuteRise_of_low {s : State} (hpin : s.on Reg.MOD.STOP.PIN = true) :
    doMuteRise s = { s.put Reg.MOD.STOP.PIN false with muteRise := s.run } := if_pos hpin

theorem releaseRes_of_high {d : Desc} {u : State} (hpin : u.on Reg.MOD.STOP.PIN = false) :
    releaseRes d u = okRes u.endStops := if_neg (Bool.eq_false_iff.mp hpin)

theorem doPinEnd_of_due {s : State} (hlatch : s.on Reg.MOD.STOP.LATCH = false) (hpin : s.on Reg.MOD.STOP.PIN = false)
    (hlatched : s.on Reg.MOD.STOP.LATCHED = true) (hdue : s.muteRise + 10000000 ≤ s.run) :
    doPinEnd s =
      ((List.range 16).filter fun g => !(s.mg g).stop).foldl State.leaveStop (s.put Reg.MOD.STOP.LATCHED false) :=
  if_neg (by simp [hlatch, hpin, hlatched, State.lasted_some_iff.mpr hdue])

/-- Settles O28: an all-stop that names a group is applied to each group in turn and completes; the pin's acts once its
time has passed, and a release with the pin high ends both. -/
theorem allStopRowsTakeEffect : Obligations.AllStopRowsTakeEffect := by
  refine ⟨?allstop, ?muteFall, ?muteRise, ?release, ?pinEnd⟩
  case allstop =>
    rintro d n at_ s u hready hring rfl hnamed rfl rfl
    rw [exec_allstop, doAllstop_of_ring_zero hready hring, allstopRes_of_named _ hnamed,
      settle_ok _ _ _ _ _ (Nat.zero_le _), hring]
    rfl
  case muteFall =>
    intro held s hheld
    rw [exec_muteNFall, doMuteFall_of_filtered hheld]
  case muteRise =>
    intro s hpin
    rw [exec_muteNRise, doMuteRise_of_low hpin]
  case release =>
    rintro d s u hadm rfl hpin
    rw [exec_allstopRelease, hostCmd_ok hadm (releaseRes_of_high hpin) (Nat.zero_le _)]
  case pinEnd =>
    intro s hlatch hpin hlatched hdue
    rw [exec_pinAllstopEnd, doPinEnd_of_due hlatch hpin hlatched hdue]

end Sys2Proof.Machine
end

section
/-! Sessions (R716): what a ring's descriptor without one comes to while `HOST.CFG.REQ` is 1 and while it is 0. -/
namespace Sys2Proof.Machine

/-- Taking a descriptor into execution changes no register. -/
theorem State.on_start (s : State) (op : Nat) (d : Desc) (f : Fld) : (s.start op d).on f = s.on f := rfl

section
variable {s : State} {op : Nat} {d : Desc}

theorem State.allowed_of_no_session (role : Nat) (hnone : d.session = 0) :
    s.allowed op role d = (!s.on Reg.HOST.CFG.REQ || op == 0x01 || op == 0x02) := if_pos hnone

/-- While REQ is 1 only the two session commands pass without a session. -/
theorem Res.permit_of_no_session (hring : d.ring ≠ 0) (hnone : d.session = 0) (hreq : s.on Reg.HOST.CFG.REQ = true)
    (hopen : op ≠ 0x01) (hclose : op ≠ 0x02) (role : Nat) (eff : State → Res) :
    Res.permit s op role d eff = failRes s stDenied := by
  have hallowed : s.allowed op role d = false := by simp [State.allowed_of_no_session role hnone, hreq, hopen, hclose]
  unfold Res.permit
  rw [if_neg hring, if_neg (by simp [hnone]), if_pos (by simp [hallowed])]

/-- A started command that is denied completes so and does nothing else. -/
theorem State.settle_denied (t : State) (d : Desc) :
    pumpUnknown 4 d.ring (t.settle d (failRes t stDenied)) = t.completes d stDenied [] [] := by
  rw [settle_fail _ _ _ _ _ (by decide)]
  rfl

section
variable (hready : s.ready op d = true) (hring : d.ring ≠ 0) (hnone : d.session = 0)
include hready hring hnone

theorem hostCmd_of_no_session (hreq : s.on Reg.HOST.CFG.REQ = true) (hopen : op ≠ 0x01) (hclose : op ≠ 0x02)
    (role : Nat) (eff : State → Res) : hostCmd op role d eff s = (s.start op d).completes d stDenied [] [] := by
  unfold hostCmd
  rw [if_pos hready, ← State.settle_denied]
  unfold hostAct
  dsimp only
  rw [Res.permit_of_no_session (s := s.start op d) hring hnone hreq hopen hclose]

/-- A clean descriptor without a session is admitted where its opcode or REQ lets it pass. -/
theorem State.admits_of_no_session (role : Nat) (hclean : descBad d op = none)
    (hpass : s.on Reg.HOST.CFG.REQ = false ∨ op = 1 ∨ op = 2) : s.Admits op role d where
  ready := hready
  ring := hring
  crypto := .inl hnone
  allowed := by
    rw [State.allowed_of_no_session role hnone, State.on_start]
    obtain h | rfl | rfl := hpass <;> simp [*]
  clean := hclean

end

end

/-- Behind ring 0 an ALLSTOP is a command like any other to admission: it is denied before its opcode is refused. -/
theorem doAllstop_of_no_session {s : State} {d : Desc} (hready : s.ready 0x50 d = true) (hring : d.ring ≠ 0)
    (hnone : d.session = 0) (hreq : s.on Reg.HOST.CFG.REQ = true) :
    doAllstop d s = (s.start 0x50 d).completes d stDenied [] [] := by
  unfold doAllstop
  dsimp only
  rw [if_pos hready, if_neg hring, Res.permit_of_no_session (s := s.start 0x50 d) hring hnone hreq (by decide) (by decide),
    State.settle_denied]

/-- With no full retrain running a load is a ring command (R758). -/
theorem exec_planLoad_of_idle (p : PlanImage) (d : Desc) (s : State) (hidle : s.on Reg.DRAM.STAT.RETRAIN = false) :
    exec (.planLoad d p) s = .next (hostCmd 0x18 roleE d (planLoadRes p) s) := by
  rw [exec_planLoad, if_neg (Bool.eq_false_iff.mp hidle)]

/-- Where `p` holds, a row completes with DENIED while REQ is 1 and its descriptor names no session. -/
def DeniedWithoutSession (p : State → Prop) (e : (Desc → Instr) × Nat) : Prop :=
  ∀ (d : Desc) (s : State), p s → s.ready e.2 d = true → d.ring ≠ 0 → d.session = 0 → s.on Reg.HOST.CFG.REQ = true →
    exec (e.1 d) s = .next ((s.start e.2 d).completes d stDenied [] [])

section
variable {p : State → Prop} {row : Desc → Instr} {op role : Nat} {eff : Desc → State → Res}

theorem DeniedWithoutSession.of_hostCmd
    (hrow : ∀ d s, p s → exec (row d) s = .next (hostCmd op role d (eff d) s)) (hopen : op ≠ 0x01 := by decide)
    (hclose : op ≠ 0x02 := by decide) : DeniedWithoutSession p (row, op) := by
  intro d s hp hready hring hnone hreq
  rw [hrow d s hp, hostCmd_of_no_session hready hring hnone hreq hopen hclose]

theorem DeniedWithoutSession.of_storeCmd (hp : ∀ s, p s → s.on Reg.STORE.STAT.JRN = false)
    (hrow : ∀ d s, exec (row d) s = .next (storeCmd op role d (eff d) s)) (hopen : op ≠ 0x01 := by decide)
    (hclose : op ≠ 0x02 := by decide) : DeniedWithoutSession p (row, op) :=
  .of_hostCmd (fun d s h => by rw [hrow d s, storeCmd_eq (hp s h)]) hopen hclose

theorem DeniedWithoutSession.of_bufferCmd
    (hp : ∀ s, p s → s.on Reg.DRAM.STAT.RETRAIN = false ∧ s.on Reg.STORE.STAT.JRN = false)
    (hrow : ∀ d s, exec (row d) s = .next (bufferCmd op role d (eff d) s)) (hopen : op ≠ 0x01 := by decide)
    (hclose : op ≠ 0x02 := by decide) : DeniedWithoutSession p (row, op) :=
  .of_hostCmd (fun d s h => by rw [hrow d s, bufferCmd_eq (hp s h).1 (hp s h).2]) hopen hclose

end

/-- Settles O46: admission denies what has no session before any row's effect, and lets SESSION_OPEN, SESSION_CLOSE and,
while REQ is 0, every clean descriptor pass. -/
theorem sessionsAreRequiredWhileReqIsOne : Obligations.SessionsAreRequiredWhileReqIsOne := by
  refine ⟨?ringRows, ?storageRows, ?allstop, ?sessionRows, ?everyRole⟩
  case ringRows =>
    intro img levels d s e he hretrain
    refine (?_ : DeniedWithoutSession (fun s => s.on Reg.DRAM.STAT.RETRAIN = false) e) d s hretrain
    revert e
    -- Up to ALLSTOP each row is its opcode's ring command.
    iterate 48 refine List.forall_mem_cons.mpr ⟨.of_hostCmd fun _ _ _ => rfl, ?_⟩
    refine List.forall_mem_cons.mpr ⟨fun d s _ hready hring hnone hreq => ?_, ?_⟩
    · rw [exec_allstop, doAllstop_of_no_session hready hring hnone hreq]
    refine List.forall_mem_cons.mpr ⟨.of_hostCmd (exec_planLoad_of_idle img), ?_⟩
    exact List.forall_mem_singleton.mpr (.of_hostCmd fun _ _ _ => rfl)
  case storageRows =>
    intro good mib bad d s e he hretrain hreplay
    refine (?_ : DeniedWithoutSession
      (fun s => s.on Reg.DRAM.STAT.RETRAIN = false ∧ s.on Reg.STORE.STAT.JRN = false) e) d s ⟨hretrain, hreplay⟩
    revert e
    have hstore : ∀ s : State, s.on Reg.DRAM.STAT.RETRAIN = false ∧ s.on Reg.STORE.STAT.JRN = false →
        s.on Reg.STORE.STAT.JRN = false := fun _ h => h.2
    refine List.forall_mem_cons.mpr ⟨.of_bufferCmd (fun _ h => h) fun _ _ => rfl, ?_⟩
    iterate 2 refine List.forall_mem_cons.mpr ⟨.of_storeCmd hstore fun _ _ => rfl, ?_⟩
    refine List.forall_mem_cons.mpr ⟨.of_bufferCmd (fun _ h => h) fun _ _ => rfl, ?_⟩
    iterate 13 refine List.forall_mem_cons.mpr ⟨.of_storeCmd hstore fun _ _ => rfl, ?_⟩
    exact List.forall_mem_singleton.mpr (.of_storeCmd hstore fun _ _ => rfl)
  case allstop =>
    intro d s hready hring
    rw [exec_allstop, doAllstop_of_ring_zero hready hring]
  case sessionRows =>
    intro op d s hop hready hring hnone hclean
    exact State.admits_of_no_session hready hring hnone 0 hclean (.inr hop)
  case everyRole =>
    intro op role d s hready hring hnone hclean hreq
    exact State.admits_of_no_session hready hring hnone role hclean (.inl hreq)

end Sys2Proof.Machine
end

section
/-! Writes of block HOST (R687, R715, R964): one word, the block's own hook and effects that stand outside the block; what
a field that its rule refuses keeps; and what the hook of a ring's and of the event ring's configuration does. -/
namespace Sys2Proof.Machine

/-! ### Fields that a rule refuses (R8, R687) -/

section
variable {s : State} {off : Nat} {v : Word}

/-- An RW or LK field whose new value is refused keeps what the register held. -/
theorem State.writeField_of_refused {f : RField} (hty : f.ty = .rw ∨ f.ty = .lk)
    (hno : s.fieldOk off f.lo (getBits v f.lo f.w) v = false) (acc : Word × Bool) : s.writeField off v acc f = acc := by
  unfold State.writeField
  obtain hty | hty := hty <;> simp [hty, hno]

/-- A field keeps its value over a write whose every field leaves it: one beside it, or one that is refused. -/
theorem State.getBits_foldl_writeField_kept {f : RField} {fs : List RField} (hf : f.lo + f.w ≤ 32)
    (hfits : ∀ g ∈ fs, g.lo + g.w ≤ 32)
    (hkeep : ∀ g ∈ fs, f.Apart g ∨ ∀ acc, s.writeField off v acc g = acc) (acc : Word × Bool) :
    getBits (fs.foldl (s.writeField off v) acc).1 f.lo f.w = getBits acc.1 f.lo f.w := by
  induction fs generalizing acc with
  | nil => rfl
  | cons g fs ih =>
    obtain ⟨hg, hfits⟩ := List.forall_mem_cons.mp hfits
    obtain ⟨hgkeep, hkeep⟩ := List.forall_mem_cons.mp hkeep
    rw [List.foldl_cons, ih hfits hkeep]
    obtain hapart | hrefused := hgkeep
    · exact State.getBits_writeField_apart hf hg hapart acc
    · rw [hrefused]

end

/-! ### The write itself -/

/-- Two states hold the same registers of block HOST and the same rings, events and sessions. -/
structure State.KeepsHost (s t : State) : Prop where
  word : ∀ o, o / 0x10000 = 20 → t.word o = s.word o
  host : t.host = s.host

section
variable {s t : State}

theorem State.KeepsHost.refl (s : State) : s.KeepsHost s := ⟨fun _ _ => rfl, rfl⟩

theorem State.KeepsHost.rd (h : s.KeepsHost t) {f : Fld} (hf : f.off / 0x10000 = 20) : t.rd f = s.rd f := by
  unfold State.rd
  rw [h.word _ hf]

theorem State.KeepsHost.on (h : s.KeepsHost t) {f : Fld} (hf : f.off / 0x10000 = 20) : t.on f = s.on f := by
  unfold State.on
  rw [h.rd hf]

theorem State.KeepsHost.ring (h : s.KeepsHost t) (r : Nat) : t.ring r = s.ring r := by
  unfold State.ring
  rw [h.host]

theorem State.KeepsHost.violate (h : s.KeepsHost t) (q : Requester) : s.KeepsHost (t.violate q) where
  word o ho := by
    rw [t.word_violate_other q (by rintro rfl; exact absurd ho (by decide)), h.word o ho]
  host := h.host

theorem State.KeepsHost.siltWrite (h : s.KeepsHost t) (code : Nat) (data : List Byte) (cite : Option Nat) :
    s.KeepsHost (t.siltWrite code data cite) where
  word o ho := by
    rw [t.word_siltWrite_other _ _ _ (by rintro rfl; exact absurd ho (by decide)), h.word o ho]
  host := h.host

theorem State.KeepsHost.showEval (h : s.KeepsHost t) (old : State) : s.KeepsHost (t.showEval old) where
  word o ho := by
    rw [t.word_showEval old (by rintro rfl; exact absurd ho (by decide)) (by rintro rfl; exact absurd ho (by decide)),
      h.word o ho]
  host := by
    unfold State.showEval
    dsimp only
    split
    · exact h.host
    · exact h.host

end

/-- No field of block HOST is shadowed (chapter 14). -/
theorem regsHost_types : ∀ d ∈ regsHost, ∀ f ∈ d.fields, f.ty ≠ .sh := by decide

theorem blockRegs_host {off : Nat} (h : off / 0x10000 = 20) : blockRegs off = regsHost := by
  unfold blockRegs
  iterate 13 rw [if_neg (by omega)]
  exact if_pos (by omega)

theorem regFields_host_types {off : Nat} {fs : List RField} (h : off / 0x10000 = 20) (hfs : regFields off = some fs) :
    ∀ f ∈ fs, f.ty ≠ .sh := by
  unfold regFields at hfs
  rw [blockRegs_host h] at hfs
  obtain ⟨d, hd, rfl⟩ := Option.map_eq_some_iff.mp hfs
  exact regsHost_types d (List.mem_of_find?_eq_some hd)

/-- `HOST.CTRL` is the one clearing register of the block. -/
theorem clearOffs_host : ∀ o ∈ clearOffs, o / 0x10000 = 20 → o = 0x140000 := by decide

section
variable {s : State} {q : Requester} {off : Nat} {fs : List RField} (hblock : off / 0x10000 = 20) (hctrl : off ≠ 0x140000)
  (hfs : regFields off = some fs)
include hblock hctrl hfs

/-- A write of block HOST stores its word and runs the block's hook; what else it does stands outside the block. -/
theorem State.keepsHost_writeMapped (v : Word) :
    ((s.setWord off (fs.foldl (s.writeField off v) (s.word off, false)).1).hookHost s off).KeepsHost
      (s.writeMapped q off fs v) := by
  have hclear : clearOffs.contains off = false := by
    rw [List.contains_eq_mem, decide_eq_false_iff_not]
    exact fun hmem => hctrl (clearOffs_host off hmem hblock)
  have hshadow : fs.any (fun f => f.ty == .sh) = false := by
    rw [List.any_eq_false]
    exact fun f hf => by simpa using regFields_host_types hblock hfs f hf
  unfold State.writeMapped State.hook
  simp only [hshadow, hclear, hblock, Bool.false_eq_true, Bool.false_and, if_false]
  refine State.KeepsHost.showEval ?_ s
  split
  · exact (State.KeepsHost.refl _).violate q
  · exact .refl _

/-- A write of block HOST is turned away, or is the write of its register. -/
theorem State.keepsHost_writeReg (v : Word) :
    s.KeepsHost (s.writeReg q off v) ∨
      ((s.setWord off (fs.foldl (s.writeField off v) (s.word off, false)).1).hookHost s off).KeepsHost
        (s.writeReg q off v) := by
  unfold State.writeReg
  split
  · exact .inl (.refl s)
  · split
    · exact .inl ((State.KeepsHost.refl s).violate q)
    · rw [hfs]
      exact .inr (State.keepsHost_writeMapped hblock hctrl hfs v)

/-- A field that refuses the write keeps its value, whatever becomes of those beside it. -/
theorem State.getBits_writeReg_of_refused {v : Word} {f : RField} (hmem : f ∈ fs) (htype : f.ty = .rw ∨ f.ty = .lk)
    (hno : s.fieldOk off f.lo (getBits v f.lo f.w) v = false) (hfits : ∀ g ∈ fs, g.lo + g.w ≤ 32)
    (hapart : ∀ g ∈ fs, f.Apart g ∨ g = f) (hhook : ∀ t : State, (t.hookHost s off).word off = t.word off) :
    getBits ((s.writeReg q off v).word off) f.lo f.w = getBits (s.word off) f.lo f.w := by
  obtain hkeeps | hkeeps := State.keepsHost_writeReg (q := q) hblock hctrl hfs v
  · rw [hkeeps.word off hblock]
  · rw [hkeeps.word off hblock, hhook, State.word_setWord_same]
    refine State.getBits_foldl_writeField_kept (hfits f hmem) hfits (fun g hg => ?_) _
    obtain h | rfl := hapart g hg
    · exact .inl h
    · exact .inr (State.writeField_of_refused htype hno)

end

/-- A register whose one field refuses the write keeps its word. -/
theorem State.word_writeReg_of_refused {s : State} {off : Nat} {f : RField} (hblock : off / 0x10000 = 20)
    (hctrl : off ≠ 0x140000) (hfs : regFields off = some [f]) (q : Requester) {v : Word} (htype : f.ty = .rw ∨ f.ty = .lk)
    (hno : s.fieldOk off f.lo (getBits v f.lo f.w) v = false)
    (hhook : ∀ t : State, (t.hookHost s off).word off = t.word off) : (s.writeReg q off v).word off = s.word off := by
  obtain hkeeps | hkeeps := State.keepsHost_writeReg (q := q) hblock hctrl hfs v
  · exact hkeeps.word off hblock
  · rw [hkeeps.word off hblock, hhook, State.word_setWord_same, List.foldl_cons, List.foldl_nil,
      State.writeField_of_refused htype hno]

/-! ### The configuration of a ring and of the event ring -/

/-- The fields of `HOST.RING[r].CFG` (R680, R687). -/
def ringCfgFields : List RField := [⟨0, 1, .rw, 0⟩, ⟨1, 4, .lk, 4⟩, ⟨5, 4, .lk, 0⟩, ⟨9, 1, .rw, 0⟩]

theorem regFields_ringCfg : ∀ r < 16, regFields (0x140110 + 32 * r) = some ringCfgFields := by decide +kernel

/-- The fields of `HOST.EVCFG` (R687). -/
def evtCfgFields : List RField := [⟨0, 1, .rw, 0⟩, ⟨1, 4, .lk, 4⟩, ⟨5, 1, .rw, 0⟩]

theorem regFields_evtCfg : regFields 0x140018 = some evtCfgFields := by decide +kernel

/-- The one field of a base register: its low word begins at a page (R680). -/
def baseField (o : Nat) : RField := if o % 8 = 0 then ⟨12, 20, .lk, 0⟩ else ⟨0, 32, .lk, 0⟩

theorem baseField_ty (o : Nat) : (baseField o).ty = .lk := by
  unfold baseField
  split <;> rfl

theorem regFields_ringBase : ∀ r < 16, ∀ o ∈ [0x140100, 0x140104, 0x140108, 0x14010C],
    regFields (o + 32 * r) = some [baseField o] := by decide +kernel

theorem regFields_evtBase : ∀ o ∈ [0x140010, 0x140014], regFields o = some [baseField o] := by decide +kernel

section
variable {s : State} {r : Nat}

/-- While a ring is enabled its bases and SIZE refuse every value (R687). -/
theorem State.fieldOk_ringBase {o : Nat} (ho : o ∈ [0x140100, 0x140104, 0x140108, 0x14010C]) (hr : r < 16)
    (hen : s.on (Reg.HOST.RING.CFG.EN r) = true) (lo n : Nat) (v : Word) : s.fieldOk (o + 32 * r) lo n v = false := by
  have hbase : onArr o 32 16 (o + 32 * r) (fun r => !s.on (Reg.HOST.RING.CFG.EN r)) = false := by
    simp [onArr, arrIdx_elem (base := o) (stride := 32) (by decide) hr, hen]
  simp only [List.mem_cons, List.not_mem_nil, or_false] at ho
  unfold State.fieldOk State.fieldOk2
  obtain rfl | rfl | rfl | rfl := ho <;> simp only [hbase, Bool.and_false, Bool.false_and]

theorem State.fieldOk_ringSize (hr : r < 16) (hen : s.on (Reg.HOST.RING.CFG.EN r) = true) (n : Nat) (v : Word) :
    s.fieldOk (0x140110 + 32 * r) 1 n v = false := by
  have hsize : onArr 0x140110 32 16 (0x140110 + 32 * r)
      (fun r' => (1 != 1 || !s.on (Reg.HOST.RING.CFG.EN r')) && (1 != 5 || r' != 0)) = false := by
    simp [onArr, arrIdx_elem (base := 0x140110) (stride := 32) (by decide) hr, hen]
  unfold State.fieldOk State.fieldOk2
  simp only [hsize, Bool.and_false, Bool.false_and]

/-- While the event ring is enabled so do its bases and SIZE (R687). -/
theorem State.fieldOk_evtBase {o : Nat} (ho : o ∈ [0x140010, 0x140014]) (hen : s.on Reg.HOST.EVCFG.EN = true)
    (lo n : Nat) (v : Word) : s.fieldOk o lo n v = false := by
  simp only [List.mem_cons, List.not_mem_nil, or_false] at ho
  obtain rfl | rfl := ho <;> simp [State.fieldOk, State.fieldOk2, hen]

theorem State.fieldOk_evtSize (hen : s.on Reg.HOST.EVCFG.EN = true) (n : Nat) (v : Word) :
    s.fieldOk 0x140018 1 n v = false := by
  simp [State.fieldOk, State.fieldOk2, hen]

end

/-- No range keeps a field that none of them names from a value. -/
theorem inRange_of_unbounded {off lo : Nat}
    (h : ∀ x ∈ ranges1 ++ ranges2 ++ ranges3, x.lo = lo → (arrIdx x.base x.stride x.count off).isSome = false) (n : Nat) :
    inRange off lo n = true := by
  rw [inRange, List.all_eq_true]
  intro x hx
  by_cases hlo : x.lo = lo
  · simp [h x hx hlo]
  · simp [hlo]

theorem ranges_ringEn : ∀ r < 16, ∀ x ∈ ranges1 ++ ranges2 ++ ranges3, x.lo = 0 →
    (arrIdx x.base x.stride x.count (0x140110 + 32 * r)).isSome = false := by decide +kernel

theorem ranges_evtEn : ∀ x ∈ ranges1 ++ ranges2 ++ ranges3, x.lo = 0 →
    (arrIdx x.base x.stride x.count 0x140018).isSome = false := by decide +kernel

/-- The arrays whose settings have rules beside their ranges hold no ring's CFG but their own. -/
theorem arrIdx_ringCfg_eq_none : ∀ r < 16, ∀ x ∈ [(0x90040, 16, 10), (0x90100, 16, 15), (0x90104, 16, 15), (0xA0100, 64, 4),
      (0xA0104, 64, 4), (0xA0108, 64, 4), (0xD0000, 64, 32), (0xD0004, 64, 32), (0xD0008, 64, 32), (0xD0010, 64, 32),
      (0x100100, 32, 16), (0x140100, 32, 16), (0x140104, 32, 16), (0x140108, 32, 16), (0x14010C, 32, 16),
      (0x170100, 16, 32), (0x170108, 16, 32), (0x17010C, 16, 32)],
    arrIdx x.1 x.2.1 x.2.2 (0x140110 + 32 * r) = none := by decide +kernel

/-- EN of a ring takes either value (R687). -/
theorem State.fieldOk_ringEn (s : State) {r : Nat} (hr : r < 16) (n : Nat) (v : Word) :
    s.fieldOk (0x140110 + 32 * r) 0 n v = true := by
  have hnone := arrIdx_ringCfg_eq_none r hr
  have hpast (k : Nat) (hk : k < 0x140110) : 0x140110 + 32 * r ≠ k := by omega
  simp only [List.forall_mem_cons] at hnone
  simp [State.fieldOk, inRange_of_unbounded (ranges_ringEn r hr) n, State.fieldOk1, State.fieldOk2, onArr, hnone, hpast,
    arrIdx_elem (base := 0x140110) (stride := 32) (by decide) hr]

theorem State.fieldOk_evtEn (s : State) (n : Nat) (v : Word) : s.fieldOk 0x140018 0 n v = true := by
  simp [State.fieldOk, inRange_of_unbounded ranges_evtEn n, State.fieldOk1, State.fieldOk2, onArr, arrIdx]

/-! ### What the hook of a configuration does (R687, R964) -/

@[simp] theorem State.ring_setRing_same {s : State} {r : Nat} (x : RingS) (h : r < s.host.rings.length) :
    (s.setRing r x).ring r = x := by
  simp [State.ring, State.setRing, atD, h]

/-- Showing CPLFULL writes the ring's status alone. -/
theorem State.word_showFull (s : State) {r o : Nat} (h : o ≠ 0x140114 + 32 * r) : (s.showFull r).word o = s.word o := by
  unfold State.showFull
  split
  · rfl
  · exact s.word_wr_other _ _ h

theorem State.word_ringOn (s : State) {r o : Nat} (h : o ≠ 0x140114 + 32 * r) : (s.ringOn r).word o = s.word o := by
  unfold State.ringOn
  rw [State.word_showFull _ h, State.word_wr_other _ _ _ h, State.put, State.word_wr_other _ _ _ h]
  rfl

theorem State.word_ringOff (s : State) {r o : Nat} (h : o ≠ 0x140114 + 32 * r) : (s.ringOff r).word o = s.word o := by
  unfold State.ringOff
  rw [State.word_showFull _ h]
  split <;> rfl

/-- A ring that is enabled has its indices 0 and what executes on it. -/
theorem State.ring_ringOn {s : State} {r : Nat} (h : r < s.host.rings.length) :
    (s.ringOn r).ring r = { run := (s.ring r).run } := by
  unfold State.ringOn State.ring
  rw [State.showFull_host]
  exact State.ring_setRing_same _ h

/-- A ring that is disabled has no fetched descriptor, and what executes on it loses its completion. -/
theorem State.ring_ringOff {s : State} {r : Nat} (h : r < s.host.rings.length) :
    (s.ringOff r).ring r =
      { s.ring r with fetched := [], run := (s.ring r).run.map fun x => { x with drop := true } } := by
  unfold State.ringOff State.ring
  rw [State.showFull_host]
  split <;> exact State.ring_setRing_same _ h

section
variable {s t : State} {r : Nat} (hr : r < 16)
include hr

theorem State.hookHost_ringCfg_rise (hold : s.on (Reg.HOST.RING.CFG.EN r) = false)
    (hnew : t.on (Reg.HOST.RING.CFG.EN r) = true) :
    t.hookHost s (0x140110 + 32 * r) = (t.ringOn r).put (Reg.HOST.RING.STAT.BADIDX r) false := by
  unfold State.hookHost State.edgeOf
  simp [arrIdx_elem (base := 0x140110) (stride := 32) (by decide) hr, hold, hnew]

theorem State.hookHost_ringCfg_fall (hold : s.on (Reg.HOST.RING.CFG.EN r) = true)
    (hnew : t.on (Reg.HOST.RING.CFG.EN r) = false) : t.hookHost s (0x140110 + 32 * r) = t.ringOff r := by
  unfold State.hookHost State.edgeOf
  simp [arrIdx_elem (base := 0x140110) (stride := 32) (by decide) hr, hold, hnew]

/-- Behind its write the hook of a ring's CFG writes the ring's status alone. -/
theorem State.word_hookHost_ringCfg {o : Nat} (h : o ≠ 0x140114 + 32 * r) :
    (t.hookHost s (0x140110 + 32 * r)).word o = t.word o := by
  unfold State.hookHost
  rw [arrIdx_elem (base := 0x140110) (stride := 32) (by decide) hr]
  dsimp only
  have hshow (u : State) : (if t.on (Reg.HOST.RING.CFG.EN r) then u.put (Reg.HOST.RING.STAT.BADIDX r) false
      else u).word o = u.word o := by
    split
    · exact u.word_wr_other _ _ h
    · rfl
  cases t.edgeOf s (Reg.HOST.RING.CFG.EN r) with
  | none => exact hshow t
  | some on =>
    cases on with
    | true => exact (hshow _).trans (t.word_ringOn h)
    | false => exact (hshow _).trans (t.word_ringOff h)

end

/-- A base register sets nothing off. -/
theorem State.hookHost_ringBase {o r : Nat} (ho : o ∈ [0x140100, 0x140104, 0x140108, 0x14010C]) (hr : r < 16)
    (t s : State) : t.hookHost s (o + 32 * r) = t := by
  have hcfg : ∀ r < 16, ∀ o ∈ [0x140100, 0x140104, 0x140108, 0x14010C], arrIdx 0x140110 32 16 (o + 32 * r) = none := by
    decide +kernel
  have hlo : 0x140100 ≤ o := by
    revert o
    decide
  have hne (k : Nat) (hk : k < 0x140100) : o + 32 * r ≠ k := by omega
  simp [State.hookHost, hcfg r hr o ho, hne]

theorem State.hookHost_evtBase {o : Nat} (ho : o ∈ [0x140010, 0x140014]) (t s : State) : t.hookHost s o = t := by
  simp only [List.mem_cons, List.not_mem_nil, or_false] at ho
  obtain rfl | rfl := ho <;> rfl

/-- Without a rise of EN the hook of `HOST.EVCFG` does nothing. -/
theorem State.hookHost_evtCfg_of_no_rise {s t : State}
    (h : s.on Reg.HOST.EVCFG.EN = true ∨ t.on Reg.HOST.EVCFG.EN = false) : t.hookHost s 0x140018 = t := by
  have hedge : t.edgeOf s Reg.HOST.EVCFG.EN ≠ some true := by
    unfold State.edgeOf
    obtain h | h := h <;> simp [h]
  exact if_neg hedge

theorem State.hookHost_evtCfg_rise {s t : State} (hold : s.on Reg.HOST.EVCFG.EN = false)
    (hnew : t.on Reg.HOST.EVCFG.EN = true) : t.hookHost s 0x140018 = t.evtOn.drainEvents :=
  if_pos (by simp [State.edgeOf, hold, hnew])

/-- With no edge waiting at any input nothing is posted. -/
theorem State.postInputs_of_empty {s : State} (h : ∀ i < 16, (s.evins.getD i {}).queue = []) : s.postInputs = s := by
  have hnone (n i : Nat) (hi : i < 16) : postEdges n i s = s := by
    cases n with
    | zero => rfl
    | succ n => simp only [postEdges, h i hi]
  unfold State.postInputs
  refine List.foldlRecOn (List.range 16) _ (motive := fun t => t = s) rfl ?_
  rintro t rfl i hi
  exact hnone 64 i (List.mem_range.mp hi)

/-- With nothing waiting a drain leaves the state as it is. -/
theorem State.drainEvents_of_empty {s : State} (hqueue : s.host.evQueue = []) (hlost : s.host.evLost = 0)
    (hedges : ∀ i < 16, (s.evins.getD i {}).queue = []) : s.drainEvents = s := by
  unfold State.drainEvents
  dsimp only
  rw [if_pos hlost, hqueue, drainFrom, ← hqueue]
  split
  · rfl
  · exact State.postInputs_of_empty hedges

/-! ### The rows (R687, R964) -/

theorem exec_ringEnable (q : Requester) (r : Nat) (v : Word) (s : State) :
    exec (.ringEnable q r v) s =
      .next (if r < 16 && getBits v 0 1 = 1 then s.writeReg q (0x140110 + 32 * r) v else s) := rfl

theorem exec_ringDisable (q : Requester) (r : Nat) (v : Word) (s : State) :
    exec (.ringDisable q r v) s =
      .next (if r < 16 && getBits v 0 1 = 0 then s.writeReg q (0x140110 + 32 * r) v else s) := rfl

theorem exec_eventRingEnable (q : Requester) (v : Word) (s : State) :
    exec (.eventRingEnable q v) s = .next (if getBits v 0 1 = 1 then s.writeReg q 0x140018 v else s) := rfl

theorem exec_eventRingDisable (q : Requester) (v : Word) (s : State) :
    exec (.eventRingDisable q v) s = .next (if getBits v 0 1 = 0 then s.writeReg q 0x140018 v else s) := rfl

theorem cfgFields_fit : (∀ f ∈ ringCfgFields, f.lo + f.w ≤ 32) ∧ ∀ f ∈ evtCfgFields, f.lo + f.w ≤ 32 := by decide

theorem cfgFields_apart : ringCfgFields.Pairwise RField.Apart ∧ evtCfgFields.Pairwise RField.Apart := by
  unfold RField.Apart
  decide

section
variable {s : State} {q : Requester} {fs : List RField}

/-- A write of a ring's CFG that acts sets EN as written, and runs the ring's hook on that state. -/
theorem State.writeReg_ringCfg {r : Nat} (hr : r < 16) (hw : s.Writes q (0x140110 + 32 * r) fs) (v : Word) :
    ∃ t : State, t.host = s.host ∧ t.on (Reg.HOST.RING.CFG.EN r) = (getBits v 0 1 != 0) ∧
      (t.hookHost s (0x140110 + 32 * r)).KeepsHost (s.writeReg q (0x140110 + 32 * r) v) := by
  obtain rfl : ringCfgFields = fs := Option.some.inj ((regFields_ringCfg r hr).symm.trans hw.mapped)
  have hkeeps := State.keepsHost_writeMapped (s := s) (q := q) (by omega) (by omega) hw.mapped v
  rw [← State.writeReg_of_writes hw] at hkeeps
  refine ⟨_, State.setWord_host _ _ _, ?_, hkeeps⟩
  have hen := State.getBits_foldl_writeField_rw (f := ⟨0, 1, .rw, 0⟩) (by decide) rfl (s.fieldOk_ringEn hr _ v)
    cfgFields_fit.1 cfgFields_apart.1 (s.word (0x140110 + 32 * r), false)
  rw [State.on, State.rd, ← hen]
  exact congrArg (fun w => getBits w 0 1 != 0) (s.word_setWord_same _ _)

/-- So does a write of the event ring's. -/
theorem State.writeReg_evtCfg (hw : s.Writes q 0x140018 fs) (v : Word) :
    ∃ t : State, t.host = s.host ∧ t.evins = s.evins ∧ t.on Reg.HOST.EVCFG.EN = (getBits v 0 1 != 0) ∧
      (t.hookHost s 0x140018).KeepsHost (s.writeReg q 0x140018 v) := by
  obtain rfl : evtCfgFields = fs := Option.some.inj (regFields_evtCfg.symm.trans hw.mapped)
  have hkeeps := State.keepsHost_writeMapped (s := s) (q := q) (by decide) (by decide) hw.mapped v
  rw [← State.writeReg_of_writes hw] at hkeeps
  refine ⟨_, State.setWord_host _ _ _, State.setWord_evins _ _ _, ?_, hkeeps⟩
  have hen := State.getBits_foldl_writeField_rw (f := ⟨0, 1, .rw, 0⟩) (by decide) rfl (s.fieldOk_evtEn _ v)
    cfgFields_fit.2 cfgFields_apart.2 (s.word 0x140018, false)
  rw [State.on, State.rd, ← hen]
  exact congrArg (fun w => getBits w 0 1 != 0) (s.word_setWord_same _ _)

end

/-- EN of a ring lies in block HOST and beside the ring's status. -/
theorem ringEn_block {r : Nat} (hr : r < 16) : (Reg.HOST.RING.CFG.EN r).off / 0x10000 = 20 := by
  simp only [Reg.HOST.RING.CFG.EN]
  omega

theorem State.on_hookHost_ringCfg {s t : State} {r : Nat} (hr : r < 16) :
    (t.hookHost s (0x140110 + 32 * r)).on (Reg.HOST.RING.CFG.EN r) = t.on (Reg.HOST.RING.CFG.EN r) := by
  unfold State.on State.rd
  rw [State.word_hookHost_ringCfg hr (by simp only [Reg.HOST.RING.CFG.EN]; omega)]

/-- Settles O13: while EN is 1 each base and SIZE refuses its write; a rise of EN takes the indices to 0 (R687). -/
theorem setsTheRingIndices : Obligations.SetsTheRingIndices := by
  refine ⟨?ringBase, ?ringSize, ?evtBase, ?evtSize, ?ringEnable, ?evtEnable⟩
  case ringBase =>
    rintro q v r o s t hr ho hen ⟨⟩
    have hlo : 0x140100 ≤ o ∧ o ≤ 0x14010C := by
      revert o
      decide
    exact State.word_writeReg_of_refused (by omega) (by omega) (regFields_ringBase r hr o ho) q (.inr (baseField_ty o))
      (State.fieldOk_ringBase ho hr hen _ _ v) fun t => by rw [State.hookHost_ringBase ho hr]
  case ringSize =>
    rintro q v r s t hr hen ⟨⟩
    exact State.getBits_writeReg_of_refused (f := ⟨1, 4, .lk, 4⟩) (by omega) (by omega) (regFields_ringCfg r hr) (by decide)
      (.inr rfl) (State.fieldOk_ringSize hr hen _ v) cfgFields_fit.1 (by unfold RField.Apart; decide)
      fun t => State.word_hookHost_ringCfg hr (by omega)
  case evtBase =>
    rintro q v o s t ho hen ⟨⟩
    have hlo : 0x140010 ≤ o ∧ o ≤ 0x140014 := by
      revert o
      decide
    exact State.word_writeReg_of_refused (by omega) (by omega) (regFields_evtBase o ho) q (.inr (baseField_ty o))
      (State.fieldOk_evtBase ho hen _ _ v) fun t => by rw [State.hookHost_evtBase ho]
  case evtSize =>
    rintro q v s t hen ⟨⟩
    exact State.getBits_writeReg_of_refused (f := ⟨1, 4, .lk, 4⟩) (by decide) (by decide) regFields_evtCfg (by decide)
      (.inr rfl) (State.fieldOk_evtSize hen _ v) cfgFields_fit.2 (by unfold RField.Apart; decide)
      fun t => by rw [State.hookHost_evtCfg_of_no_rise (.inl hen)]
  case ringEnable =>
    intro q v r fs s hr hw hen hv hlen
    obtain ⟨t, hhost, hnew, hkeeps⟩ := State.writeReg_ringCfg hr hw v
    rw [hv] at hnew
    have hring : (s.writeReg q (0x140110 + 32 * r) v).ring r = { run := (t.ring r).run } := by
      rw [hkeeps.ring, State.hookHost_ringCfg_rise hr hen hnew]
      exact State.ring_ringOn (by rw [hhost]; omega)
    refine ⟨_, (exec_ringEnable q r v s).trans (by rw [if_pos (by simp [hr, hv])]), ?_⟩
    rw [hkeeps.on (ringEn_block hr), State.on_hookHost_ringCfg hr, hnew, hring]
    exact ⟨rfl, rfl, rfl, rfl, rfl⟩
  case evtEnable =>
    intro q v fs s hw hen hv hqueue hlost hedges
    obtain ⟨t, hhost, hevins, hnew, hkeeps⟩ := State.writeReg_evtCfg hw v
    rw [hv] at hnew
    rw [State.hookHost_evtCfg_rise hen hnew, State.drainEvents_of_empty (s := t.evtOn) (by rw [State.evtOn, hhost, hqueue])
      (by rw [State.evtOn, hhost, hlost]) (by rw [State.evtOn, hevins]; exact hedges)] at hkeeps
    refine ⟨_, (exec_eventRingEnable q v s).trans (by rw [if_pos hv]), ?_⟩
    rw [hkeeps.on (by decide), hkeeps.host]
    exact ⟨hnew, rfl, rfl⟩

/-- Settles O14: a fall of EN runs the ring's stop; a disabled event ring has no free entry (R964). -/
theorem disablingARingStopsItAtOnce : Obligations.DisablingARingStopsItAtOnce := by
  refine ⟨?ring, ?evt⟩
  case ring =>
    intro q v r fs s hr hw hen hv hlen
    obtain ⟨t, hhost, hnew, hkeeps⟩ := State.writeReg_ringCfg hr hw v
    rw [hv] at hnew
    have hsame : t.ring r = s.ring r := by rw [State.ring, State.ring, hhost]
    have hring : (s.writeReg q (0x140110 + 32 * r) v).ring r =
        { s.ring r with fetched := [], run := (s.ring r).run.map fun x => { x with drop := true } } := by
      rw [hkeeps.ring, State.hookHost_ringCfg_fall hr hen hnew, State.ring_ringOff (by rw [hhost]; omega), hsame]
    refine ⟨_, (exec_ringDisable q r v s).trans (by rw [if_pos (by simp [hr, hv])]), ?_⟩
    rw [hkeeps.on (ringEn_block hr), State.on_hookHost_ringCfg hr, hnew, hring]
    exact ⟨rfl, rfl, rfl⟩
  case evt =>
    intro q v fs s hw hv
    obtain ⟨t, hhost, -, hnew, hkeeps⟩ := State.writeReg_evtCfg hw v
    rw [hv] at hnew
    rw [State.hookHost_evtCfg_of_no_rise (.inr hnew)] at hkeeps
    have hoff : (s.writeReg q 0x140018 v).on Reg.HOST.EVCFG.EN = false := (hkeeps.on (by decide)).trans hnew
    refine ⟨_, (exec_eventRingDisable q v s).trans (by rw [if_pos hv]), hoff, if_neg (by simp [hoff]), ?_⟩
    rw [hkeeps.host, hhost]

end Sys2Proof.Machine
end

section
/-! Items and scenes (R366, R392, R405 to R412, R708): what WRITE_ITEMS and the scene commands come to on operands that
pass their checks. -/
namespace Sys2Proof.Machine

theorem exec_writeItems (d : Desc) (s : State) :
    exec (.writeItems d) s = .next (hostCmd 0x10 roleO d (writeItemsRes d) s) := rfl

theorem exec_sceneStore (d : Desc) (s : State) :
    exec (.sceneStore d) s = .next (hostCmd 0x24 roleO d (sceneStoreRes d) s) := rfl

theorem exec_sceneRecall (d : Desc) (s : State) :
    exec (.sceneRecall d) s = .next (hostCmd 0x25 roleO d (sceneRecallRes d) s) := rfl

theorem exec_sceneErase (d : Desc) (s : State) :
    exec (.sceneErase d) s = .next (hostCmd 0x26 roleE d (sceneEraseRes d) s) := rfl

section
variable {d : Desc} {u t : State} {n : Nat}

section
variable (hlen : d.buf.length ≠ 0) (hwhole : d.buf.length % 16 = 0) (hmax : d.buf.length / 16 ≤ 4096)
include hlen hwhole hmax

/-- Every item of the buffer is taken into the open slot that the command names (R366, R708). -/
theorem writeItemsRes_of_open (ha0 : d.a0 ≠ 0) (hnames : u.names d = 1) (hfull : u.on Reg.TXN.STATUS.FULL = false)
    (hadd : addItems State.addOpen (pieces 16 (d.buf.length / 16) d.buf) 0 u = (n, 0, t)) :
    writeItemsRes d u = okRes t (le 4 n) := by
  unfold writeItemsRes
  dsimp only
  rw [if_neg (by simp [hlen, hwhole, hmax]), if_neg ha0, if_pos hnames, if_neg (Bool.eq_false_iff.mp hfull), hadd]
  rfl

/-- With number 0 every item joins the collection, which an IDLE slot starts (R392). -/
theorem writeItemsRes_of_collection (ha0 : d.a0 = 0) (hslot : u.os = osIdle ∨ u.os = osCollecting)
    (hcollect : u.noCollect = false)
    (hadd : addItems State.addCollect (pieces 16 (d.buf.length / 16) d.buf) 0 u = (n, 0, t)) :
    writeItemsRes d u = okRes t (le 4 n) := by
  have hfree : ¬ (u.os = osOpen || u.os = osPrepared) = true := by
    obtain h | h := hslot <;> simp [h, osIdle, osOpen, osPrepared, osCollecting]
  unfold writeItemsRes
  dsimp only
  rw [if_neg (by simp [hlen, hwhole, hmax]), if_pos ha0, if_neg hfree, if_neg (Bool.eq_false_iff.mp hcollect), hadd]
  rfl

end

/-- The record that SCENE_STORE writes, from block `b` on (R405). -/
def State.sceneRec (u : State) (d : Desc) (b : Nat) : SceneRec :=
  { planCrc := u.planCrc, txnId := d.a0, name := d.buf, secs := u.secs, nsecs := u.ns % 1000000000
    items := u.txn.items, crc := 0, first := b, blocks := recBlocks u.txn.items.length }

/-- The prepared slot's transaction is stored in a run of blocks that is free (R408). -/
theorem sceneStoreRes_of_room {b : Nat} (ha1 : d.a1 < 256) (hname : d.buf.length = 16) (ha0 : d.a0 ≠ 0)
    (hid : d.a0 = u.rd Reg.TXN.OID.ID) (hprep : u.os = osPrepared) (hfull : u.on Reg.TXN.STATUS.FULL = false)
    (hroom : u.freeRun (recBlocks u.txn.items.length) = some b) :
    sceneStoreRes d u = okRes (u.setScenes (mapSet u.txn.scenes d.a1
      { u.sceneRec d b with crc := crc32c (recBytes (u.sceneRec d b)) })) (le 4 ((u.txn.dirSeq + 1) % 2 ^ 32)) := by
  unfold sceneStoreRes
  simp only [hroom, State.sceneRec]
  rw [if_neg (Nat.not_le.mpr ha1), if_neg (not_not_intro hname), if_neg (by simp [hprep, hfull]),
    if_neg (by simp [ha0, ← hid])]

/-- Items that name entries of partitions alone, and fit, all go into the undercoat (R412). -/
theorem recallItems_of_fit {items : Tbl Nat}
    (hparts : (items.all fun e => keyKind e.1 != 2 || (u.partOf (keyIdx e.1)).isSome) = true)
    (hfull : u.on Reg.TXN.STATUS.FULL = false)
    (hfit : itemCount (items.foldl (fun t e => putItem t e.1 e.2) u.txn.items) ≤ itemLimit) :
    recallItems u items = okRes ((u.setItems (items.foldl (fun t e => putItem t e.1 e.2) u.txn.items)).wr
      Reg.TXN.STATUS.OSTATE osOpen) (le 4 items.length) := by
  have hnone : items.find? (fun e => keyKind e.1 == 2 && (u.partOf (keyIdx e.1)).isNone) = none := by
    rw [List.find?_eq_none]
    intro e he
    have hpart := List.all_eq_true.mp hparts e he
    cases hp : u.partOf (keyIdx e.1) <;> simp_all
  unfold recallItems
  simp only [hnone]
  rw [if_neg (by simp [hfull, hfit])]

/-- A stored record of the loaded plan whose CRC holds is recalled (R412). -/
theorem sceneRecallRes_of_stored {r : SceneRec} (ha1 : d.a1 < 256) (hnames : u.names d = 1)
    (hstored : mapGet u.txn.scenes d.a1 = some r) (hplan : r.planCrc = u.planCrc) (hcrc : crc32c (recBytes r) = r.crc) :
    sceneRecallRes d u = recallItems u r.items := by
  unfold sceneRecallRes
  simp only [hstored]
  rw [if_neg (Nat.not_le.mpr ha1), if_neg (by omega), if_neg (by omega), if_neg (not_not_intro hplan),
    if_neg (not_not_intro hcrc)]

theorem sceneEraseRes_of_lt (ha1 : d.a1 < 256) :
    sceneEraseRes d u = okRes (u.setScenes (mapErase u.txn.scenes d.a1)) (le 4 ((u.txn.dirSeq + 1) % 2 ^ 32)) :=
  if_neg (Nat.not_le.mpr ha1)

end

/-- Settles O10: each command's operands pass its checks, so it completes with the items taken or the new directory. -/
theorem sceneAndItemCommandsTakeEffect : Obligations.SceneAndItemCommandsTakeEffect := by
  refine ⟨?openItems, ?collected, ?store, ?recalled, ?erase⟩
  case openItems =>
    rintro d s u t n hadm rfl hlen hwhole hmax ha0 hnames hfull hadd
    rw [exec_writeItems, hostCmd_ok hadm (writeItemsRes_of_open hlen hwhole hmax ha0 hnames hfull hadd) (Nat.zero_le _)]
  case collected =>
    rintro d s u t n hadm rfl hlen hwhole hmax ha0 hslot hcollect hadd
    rw [exec_writeItems,
      hostCmd_ok hadm (writeItemsRes_of_collection hlen hwhole hmax ha0 hslot hcollect hadd) (Nat.zero_le _)]
  case store =>
    rintro d s u b r hadm rfl ha1 hname ha0 hid hprep hfull hroom rfl
    rw [exec_sceneStore, hostCmd_ok hadm (sceneStoreRes_of_room ha1 hname ha0 hid hprep hfull hroom) (Nat.zero_le _)]
    rfl
  case recalled =>
    rintro d s u r all hadm rfl ha1 hnames hstored hplan hcrc hparts rfl hfull hfit
    have hres := (sceneRecallRes_of_stored ha1 hnames hstored hplan hcrc).trans (recallItems_of_fit hparts hfull hfit)
    rw [exec_sceneRecall, hostCmd_ok hadm hres (Nat.zero_le _)]
  case erase =>
    rintro d s u hadm rfl ha1
    rw [exec_sceneErase, hostCmd_ok hadm (sceneEraseRes_of_lt ha1) (Nat.zero_le _)]

end Sys2Proof.Machine
end

section
/-! The register path (R707) and the route window (R80 to R82, R372, R392, R396): what a low and a high word come to, and
where a write of an entry goes. -/
namespace Sys2Proof.Machine

theorem exec_regWrite (d : Desc) (s : State) :
    exec (.regWrite d) s = .next (hostCmd 0x11 roleE d (regWriteRes d) s) := rfl

theorem exec_routeWindowLowWrite (q : Requester) (i : Nat) (v : Word) (s : State) :
    exec (.routeWindowLowWrite q i v) s =
      .next (if q = .pcie && s.host.lockHard || 8192 ≤ i then s.violate q else s.routeLow i v) := rfl

theorem exec_routeWindowHighWrite (q : Requester) (i : Nat) (wide : Bool) (low v : Word) (s : State) :
    exec (.routeWindowHighWrite q i wide low v) s =
      .next (if q = .pcie && s.host.lockHard || 8192 ≤ i then s.violate q
        else if wide then s.routeWide i low v else s.routeHigh i v) := rfl

/-! ### Where an item goes -/

/-- A route item never meets the item limit (R366). -/
theorem overLimit_keyRoute (items : Tbl Nat) {i : Nat} (hi : i < 8192) : overLimit items (keyRoute i) = false := by
  have hkind : keyKind (keyRoute i) = 2 := by
    unfold keyKind keyRoute
    rw [if_neg (by omega), if_pos (by omega)]
  simp [overLimit, hkind]

section
variable {s : State}

theorem State.barIgnored_eq_true (hopen : s.os ≠ osOpen) (hprep : s.os ≠ osPrepared) (hno : s.noCollect = true) :
    s.barIgnored = true := by simp [State.barIgnored, hopen, hprep, hno]

theorem State.barIgnored_eq_false (h : s.os = osOpen ∨ s.os = osPrepared ∨ s.noCollect = false) :
    s.barIgnored = false := by
  obtain h | h | h := h <;> simp [State.barIgnored, h]

section
variable {i : Nat} (hi : i < 8192) (n : Nat)
include hi

theorem State.barItem_route_of_open (h : s.os = osOpen ∨ s.os = osPrepared) :
    s.barItem (keyRoute i) n =
      (s.setItems (putItem s.txn.items (keyRoute i) n)).wr Reg.TXN.STATUS.OSTATE osOpen := by
  unfold State.barItem State.addOpen
  rw [if_pos (by simpa using h), overLimit_keyRoute _ hi]
  rfl

theorem State.barItem_route_of_collection (hopen : s.os ≠ osOpen) (hprep : s.os ≠ osPrepared)
    (hcollect : s.noCollect = false) :
    s.barItem (keyRoute i) n =
      (s.setItems (putItem s.txn.items (keyRoute i) n)).wr Reg.TXN.STATUS.OSTATE osCollecting := by
  unfold State.barItem State.addCollect
  rw [if_neg (by simp [hopen, hprep]), if_neg (Bool.eq_false_iff.mp hcollect), overLimit_keyRoute _ hi]
  rfl

end

theorem State.barItem_of_ignored (k n : Nat) (h : s.barIgnored = true) : s.barItem k n = s.count Reg.TXN.IMPL.IGN := by
  simp only [State.barIgnored, Bool.and_eq_true, bne_iff_ne] at h
  obtain ⟨⟨hopen, hprep⟩, hno⟩ := h
  unfold State.barItem
  rw [if_neg (by simp [hopen, hprep]), if_pos hno]

/-! ### The words of an entry (R81, R82) -/

/-- The state without a pending low word. -/
def State.unpended (s : State) : State := { s with txn := { s.txn with low := none } }

/-- The low word that a high word of entry `i` meets: the pending one of that entry, or the topcoat's. -/
def State.lowWord (s : State) (i : Nat) : Nat :=
  if s.txn.low.map (fun x => x.1) = some i then (s.txn.low.map (fun x => x.2)).getD 0 else s.route i % 2 ^ 32

theorem State.routeHigh_eq (s : State) (i : Nat) (v : Word) :
    s.routeHigh i v =
      if (s.partOf i).isSome || s.barIgnored then s.unpended.barItem (keyRoute i) (s.lowWord i + v.toNat * 2 ^ 32)
      else s.unpended := by
  unfold State.routeHigh State.lowWord
  cases s.txn.low with
  | none => rfl
  | some x => simp only [Option.map_some, Option.getD_some, Option.some.injEq]; rfl

/-- A 64-bit write is a high word that finds its own low word pending. -/
theorem State.routeWide_of_taken (i : Nat) (low v : Word) (h : s.barIgnored = false) :
    s.routeWide i low v =
      if (s.partOf i).isSome then s.unpended.barItem (keyRoute i) (low.toNat + v.toNat * 2 ^ 32) else s.unpended := by
  have hpend : s.routeLow i low = { s with txn := { s.txn with low := some (i, low.toNat) } } :=
    if_neg (Bool.eq_false_iff.mp h)
  have hword : State.lowWord { s with txn := { s.txn with low := some (i, low.toNat) } } i = low.toNat := if_pos rfl
  have htaken : State.barIgnored { s with txn := { s.txn with low := some (i, low.toNat) } } = false := h
  unfold State.routeWide
  rw [if_neg (Bool.eq_false_iff.mp h), hpend, State.routeHigh_eq, hword, htaken, Bool.or_false]
  rfl

/-! ### The rows -/

/-- No lock turns the write away, and the entry exists (R80, R715). -/
theorem routeWindow_open {q : Requester} {i : Nat} (hi : i < 8192) (hq : q ≠ .pcie ∨ s.host.lockHard = false) :
    ¬ (q = .pcie && s.host.lockHard || 8192 ≤ i) = true := by
  obtain h | h := hq <;> simp [h, hi]

section
variable {q : Requester} {i : Nat} (hi : i < 8192) (hq : q ≠ .pcie ∨ s.host.lockHard = false) (wide : Bool) (low v : Word)
include hi hq

/-- A high word that is taken consumes the pending low word, and makes an item of an entry of a partition. -/
theorem exec_routeWindowHighWrite_of_taken (h : s.barIgnored = false) :
    exec (.routeWindowHighWrite q i wide low v) s = .next (if (s.partOf i).isSome then
      s.unpended.barItem (keyRoute i) ((if wide = true then low.toNat else s.lowWord i) + v.toNat * 2 ^ 32)
      else s.unpended) := by
  rw [exec_routeWindowHighWrite, if_neg (routeWindow_open hi hq)]
  cases wide with
  | true => rw [if_pos rfl, if_pos rfl, State.routeWide_of_taken _ _ _ h]
  | false =>
    rw [if_neg Bool.false_ne_true, if_neg Bool.false_ne_true, State.routeHigh_eq, h, Bool.or_false]

/-- One that no slot and no collection can take is counted, and a pending low word goes with its high word (R396). -/
theorem exec_routeWindowHighWrite_of_ignored (h : s.barIgnored = true) :
    exec (.routeWindowHighWrite q i wide low v) s =
      .next ((if wide = true then s else s.unpended).count Reg.TXN.IMPL.IGN) := by
  rw [exec_routeWindowHighWrite, if_neg (routeWindow_open hi hq)]
  cases wide with
  | true => exact congrArg Host.Outcome.next (if_pos h)
  | false =>
    rw [if_neg Bool.false_ne_true, if_neg Bool.false_ne_true, State.routeHigh_eq, h, Bool.or_true, if_pos rfl,
      State.barItem_of_ignored _ _ (s := s.unpended) h]

end

end

/-- Settles O37: REG_WRITE is the register write of its masked word; a word of the route window pends, joins the
undercoat or the collection, is counted as ignored, or is a violation. -/
theorem registerPathRowsTakeEffect : Obligations.RegisterPathRowsTakeEffect := by
  refine ⟨?regWrite, ?low, ?high, ?violation⟩
  case regWrite =>
    rintro d fs s u hadm rfl hw
    have hres : regWriteRes d (s.opened 0x11 d) = _ := congrArg (okRes · [] []) (State.writeReg_of_writes hw _)
    rw [exec_regWrite, hostCmd_ok hadm hres (Nat.zero_le _)]
  case low =>
    intro q i v s hi hq
    rw [exec_routeWindowLowWrite, if_neg (routeWindow_open hi hq)]
    unfold State.routeLow
    refine ⟨fun h => ?_, fun hopen hprep hno => ?_⟩
    · rw [if_neg (Bool.eq_false_iff.mp (State.barIgnored_eq_false h))]
    · rw [if_pos (State.barIgnored_eq_true hopen hprep hno)]
  case high =>
    rintro q i n wide low v s u hi hq rfl rfl
    have htaken := exec_routeWindowHighWrite_of_taken hi hq wide low v
    refine ⟨fun h hpart => ?_, fun hopen hprep hcollect hpart => ?_, fun h hpart => ?_, fun hopen hprep hno => ?_⟩
    · rw [htaken (State.barIgnored_eq_false (h.imp_right .inl)), if_pos hpart,
        State.barItem_route_of_open (s := s.unpended) hi _ h]
      rfl
    · rw [htaken (State.barIgnored_eq_false (.inr (.inr hcollect))), if_pos hpart,
        State.barItem_route_of_collection (s := s.unpended) hi _ hopen hprep hcollect]
      rfl
    · rw [htaken (State.barIgnored_eq_false h), if_neg (by simp [hpart])]
      rfl
    · exact exec_routeWindowHighWrite_of_ignored hi hq wide low v (State.barIgnored_eq_true hopen hprep hno)
  case violation =>
    intro q i wide low v s h
    have hbarred : (q = .pcie && s.host.lockHard || 8192 ≤ i) = true := by simpa using h
    exact ⟨congrArg Host.Outcome.next (if_pos hbarred), congrArg Host.Outcome.next (if_pos hbarred)⟩

end Sys2Proof.Machine
end

section
/-! The partner's TIME frames, the realignment of clock outputs and the holdover history (R471 to R474, R506 to R509,
R706). -/
namespace Sys2Proof.Machine

theorem exec_timeFrame (f : OuvFrame) (a2 : Nat) (s : State) :
    exec (.timeFrame f a2) s = .next (doTimeFrame f a2 s) := rfl

theorem exec_realign (d : Desc) (s : State) :
    exec (.realign d) s = .next (hostCmd 0x42 roleE d (realignRes d) s) := rfl

theorem exec_realignApply (s : State) : exec .realignApply s = .next (doRealign s) := rfl

theorem exec_refHistory (d : Desc) (s : State) :
    exec (.refHistory d) s = .next (hostCmd 0x43 roleM d (refHistoryRes d) s) := rfl

/-! ### TIME frames -/

/-- The partner's time state as a TIME frame brings it (R472). -/
def State.notePartnerTime (s : State) (f : OuvFrame) (a2 : Nat) : State :=
  { s with ref := { s.ref with
      ptSeq := f.seq, ptRx := a2, ptSlot := rdLe f.payload 28 1, ptQual := rdLe f.payload 29 1
      ptStepped := rdLe f.payload 30 1 % 2 == 1 } }

/-- The timestamp of 12 bytes at an offset of a TIME frame's payload, in 2^-16 ns (R471). -/
def stampAt (f : OuvFrame) (o : Nat) : Int :=
  (((rdLe f.payload o 6 * 1000000000 + rdLe f.payload (o + 6) 4) * 65536 + rdLe f.payload (o + 10) 2 : Nat) : Int)

section
variable {f : OuvFrame} {a2 : Nat} {s : State} (hen : s.on Reg.GUARD.OUVCFG.EN = true) (hup : s.ouvUp = true)
  (hok : frameOk ouvTime 8192 f = true) (hlen : f.payload.length = 32)
include hen hup hok hlen

/-- A frame that echoes none of this node's frames tells that its source lives (R474). -/
theorem doTimeFrame_of_no_echo (hecho : s.ref.sentTime.find? (fun e => e.1 == rdLe f.payload 12 4) = none) :
    doTimeFrame f a2 s = if s.on (Reg.REFSEL.SLOT.CFG.EN 9) then
      ((s.notePartnerTime f a2).heard 9).sourceTest 9 else (s.notePartnerTime f a2).sourceTest 9 := by
  unfold doTimeFrame
  simp only [hecho]
  rw [if_neg (by simp [hen, hup]), if_neg (by simp [hok]), if_neg (not_not_intro hlen)]
  rfl

/-- One that echoes a sent frame gives the four timestamps of a measurement (R473). -/
theorem doTimeFrame_of_echo {n a1 : Nat}
    (hecho : s.ref.sentTime.find? (fun e => e.1 == rdLe f.payload 12 4) = some (n, a1))
    (hslot : s.on (Reg.REFSEL.SLOT.CFG.EN 9) = true) :
    doTimeFrame f a2 s = (s.notePartnerTime f a2).measure 9
      (quot (2 * (stampAt f 0 - (a2 : Int)) + (((a2 : Int) - a1) - (stampAt f 0 - stampAt f 16))) 131072) := by
  unfold doTimeFrame
  simp only [hecho]
  rw [if_neg (by simp [hen, hup]), if_neg (by simp [hok]), if_neg (not_not_intro hlen)]
  exact if_pos hslot

end

/-! ### Realignment -/

/-- REALIGN of a stepped node notes its boundary with the mask of outputs (R507). -/
theorem realignRes_of_stepped {d : Desc} {u : State} (hmask : d.a0 < 2 ^ 15) (hnanos : d.a2 < 1000000000)
    (hstep : u.on Reg.TIME.STATUS.STEPPED = true) :
    realignRes d u = okRes { u with ref := { u.ref with
      realign := u.ref.realign ++ [(u.tickFrom (u.readNs d) (d.rbuf * 1000000000 + d.a2) 2, d.a0)] } }
      (le 8 (u.tickFrom (u.readNs d) (d.rbuf * 1000000000 + d.a2) 2)) := by
  unfold realignRes
  rw [if_neg (Nat.not_le.mpr hmask), if_neg (Nat.not_le.mpr hnanos), if_neg (by simp [hstep])]

/-- The outputs of a mask that run. -/
def State.runningOf (s : State) (mask : Nat) : List Nat :=
  (List.range 15).filter fun j => mask.testBit j && (s.out j).running

/-- At its boundary a noted realignment aligns the running outputs of its mask and logs their misalignments (R508,
R509). -/
theorem doRealign_of_due {s : State} {k mask : Nat}
    (hdue : s.ref.realign.find? (fun e => decide (e.1 ≤ s.tick)) = some (k, mask)) :
    doRealign s = State.log
      ((s.runningOf mask).foldl (fun (a : State) j => a.alignOut j)
        { s with ref := { s.ref with realign := s.ref.realign.erase (k, mask) } })
      0x0208 (le 4 mask ++ ((s.runningOf mask).map fun j => leInt 4 (s.misOf j)).flatten) := by
  unfold doRealign
  simp only [hdue]
  rfl

/-! ### The holdover history -/

theorem length_histBytes (h : HistEntry) : (histBytes h).length = 16 := by
  simp [histBytes, leInt, length_leBytes]

/-- The response has 16 bytes for each place, written or not (R706). -/
theorem length_histResponse (l : List HistEntry) :
    (List.replicate ((1024 - l.length) * 16) (0 : Byte) ++ (l.map histBytes).flatten).length =
      (1024 - l.length) * 16 + l.length * 16 := by
  have hbytes : (l.map histBytes).flatten.length = l.length * 16 := by
    rw [List.length_flatten, List.map_map, List.sum_eq_card_nsmul _ 16 fun n hn => ?_]
    · simp
    · obtain ⟨h, -, rfl⟩ := List.mem_map.mp hn
      exact length_histBytes h
  rw [List.length_append, List.length_replicate, hbytes]

/-- Settles O21: a TIME frame passes R342, a realignment is noted and falls due, and the history fits its buffer. -/
theorem referenceCommandRowsTakeEffect : Obligations.ReferenceCommandRowsTakeEffect := by
  refine ⟨?noEcho, ?echo, ?realign, ?apply, ?history⟩
  case noEcho =>
    rintro f a2 s u hen hup hok hlen rfl hecho
    rw [exec_timeFrame, doTimeFrame_of_no_echo hen hup hok hlen hecho, State.notePartnerTime]
  case echo =>
    rintro f a2 n a1 s u b1 b2 hen hup hok hlen rfl hecho hslot rfl rfl
    rw [exec_timeFrame, doTimeFrame_of_echo hen hup hok hlen hecho hslot]
    rfl
  case realign =>
    rintro d s u k hadm rfl hmask hnanos hstep rfl
    rw [exec_realign, hostCmd_ok hadm (realignRes_of_stepped hmask hnanos hstep) (Nat.zero_le _)]
  case apply =>
    rintro k mask js s u hdue rfl rfl
    rw [exec_realignApply, doRealign_of_due hdue]
    rfl
  case history =>
    rintro d s u hadm rfl hfits
    rw [exec_refHistory, hostCmd_ok hadm rfl (by rw [length_histResponse]; omega)]

end Sys2Proof.Machine
end

section
/-! The host link and its sessions (R679, R712 to R714, R929): what a host-link reset takes from the host interface and
what it leaves, and what the session rows and a latching read do. -/
namespace Sys2Proof.Machine

/-! ### What stands while events and entries are written -/

/-- From `s` to `t` at most `n` events went into the queue; beside them only the silt log, the event ring and registers
outside the blocks HOST and TXN changed.  EVTLOST counts nothing while the queue takes every event. -/
structure State.KeepsLink (n : Nat) (s t : State) : Prop where
  word : ∀ o, o / 0x10000 = 20 ∨ o / 0x10000 = 7 →
    (o = Reg.HOST.CNT.EVTLOST.off → s.host.evQueue.length + n ≤ 256) → t.word o = s.word o
  queue : t.host.evQueue.length ≤ s.host.evQueue.length + n
  rings : t.host.rings = s.host.rings
  held : t.host.cpl0Held = s.host.cpl0Held
  sessions : t.host.sessions = s.host.sessions
  lockHard : t.host.lockHard = s.host.lockHard
  txn : t.txn = s.txn
  eng : t.eng = s.eng
  strm : t.strm = s.strm

section
variable {m n : Nat} {s t u : State}

theorem State.KeepsLink.refl (s : State) : State.KeepsLink 0 s s :=
  ⟨fun _ _ _ => rfl, Nat.le_refl _, rfl, rfl, rfl, rfl, rfl, rfl, rfl⟩

theorem State.KeepsLink.trans (h : State.KeepsLink m s t) (h' : State.KeepsLink n t u) : State.KeepsLink (m + n) s u where
  word o ho hlost := by
    have hqueue := h.queue
    rw [h'.word o ho (fun e => by have := hlost e; omega), h.word o ho (fun e => by have := hlost e; omega)]
  queue := by
    have := h.queue
    have := h'.queue
    omega
  rings := h'.rings.trans h.rings
  held := h'.held.trans h.held
  sessions := h'.sessions.trans h.sessions
  lockHard := h'.lockHard.trans h.lockHard
  txn := h'.txn.trans h.txn
  eng := h'.eng.trans h.eng
  strm := h'.strm.trans h.strm

theorem State.KeepsLink.mono (h : State.KeepsLink m s t) (hle : m ≤ n) : State.KeepsLink n s t :=
  { h with
    word := fun o ho hlost => h.word o ho (fun e => by have := hlost e; omega)
    queue := by have := h.queue; omega }

/-- A field of the two blocks keeps its value, but EVTLOST. -/
theorem State.KeepsLink.rd (h : State.KeepsLink n s t) {f : Fld} (hf : f.off / 0x10000 = 20 ∨ f.off / 0x10000 = 7)
    (hlost : f.off ≠ Reg.HOST.CNT.EVTLOST.off) : t.rd f = s.rd f := by
  unfold State.rd
  rw [h.word _ hf (fun e => absurd e hlost)]

theorem State.KeepsLink.on (h : State.KeepsLink n s t) {f : Fld} (hf : f.off / 0x10000 = 20 ∨ f.off / 0x10000 = 7)
    (hlost : f.off ≠ Reg.HOST.CNT.EVTLOST.off) : t.on f = s.on f := by
  unfold State.on
  rw [h.rd hf hlost]

end

section
variable (s : State)

theorem State.keepsLink_wr (f : Fld) (v : Nat) (h : f.off / 0x10000 ≠ 20) (h' : f.off / 0x10000 ≠ 7) :
    State.KeepsLink 0 s (s.wr f v) :=
  { State.KeepsLink.refl s with
    word := fun o ho _ => s.word_wr_other f v (by rintro rfl; exact ho.elim h h') }

theorem State.keepsLink_siltWrite (code : Nat) (data : List Byte) (cite : Option Nat) :
    State.KeepsLink 0 s (s.siltWrite code data cite) :=
  { State.KeepsLink.refl s with
    word := fun o ho _ => s.word_siltWrite_other code data cite (by rintro rfl; revert ho; decide) }

/-- The matrix is not the host interface's. -/
theorem State.keepsLink_bus (b : BusS) : State.KeepsLink 0 s { s with bus := b } :=
  ⟨fun _ _ _ => rfl, Nat.le_refl _, rfl, rfl, rfl, rfl, rfl, rfl, rfl⟩

/-- Writing an event touches the event ring and the interrupts owed. -/
theorem State.keepsLink_writeEvt (e : Evt) : State.KeepsLink 0 s (s.writeEvt e) := by
  unfold State.writeEvt HostS.owe
  dsimp only
  split
  · split <;> exact ⟨fun _ _ _ => rfl, Nat.le_refl _, rfl, rfl, rfl, rfl, rfl, rfl, rfl⟩
  · exact ⟨fun _ _ _ => rfl, Nat.le_refl _, rfl, rfl, rfl, rfl, rfl, rfl, rfl⟩

/-- An event is written, or queued, or lost where the queue is full (R725). -/
theorem State.keepsLink_post (typ : Nat) (payload : List Byte) : State.KeepsLink 1 s (s.post typ payload) := by
  unfold State.post
  dsimp only
  split
  · exact (s.keepsLink_writeEvt _).mono (Nat.zero_le 1)
  · split
    · exact ⟨fun _ _ _ => rfl, by simp, rfl, rfl, rfl, rfl, rfl, rfl, rfl⟩
    · rename_i hfull
      exact ⟨fun o _ hlost => State.word_wr_other _ _ _ (fun e => by have := hlost e; omega), Nat.le_succ _,
        rfl, rfl, rfl, rfl, rfl, rfl, rfl⟩

theorem State.keepsLink_log (code : Nat) (data : List Byte) (cite : Option Nat) :
    State.KeepsLink 1 s (s.log code data cite) :=
  (s.keepsLink_siltWrite code data cite).trans (State.keepsLink_post _ _ _)

theorem State.keepsLink_showEval (old : State) : State.KeepsLink 0 s (s.showEval old) := by
  unfold State.showEval
  dsimp only
  split
  · exact .refl s
  · exact (s.keepsLink_wr Reg.SEC.STATUS.EVAL _ (by decide) (by decide)).trans (State.keepsLink_siltWrite _ _ _ _)

/-- Closing the port of a reset master clears its parking and writes one entry (R744). -/
theorem State.keepsLink_portClosed (m wr rds : Nat) : State.KeepsLink 1 s (s.portClosed m wr rds) := by
  unfold State.portClosed
  refine State.KeepsLink.trans (m := 0) ?_ (State.keepsLink_log _ _ _ _)
  refine List.foldlRecOn (List.range 9) _ (motive := State.KeepsLink 0 s) (.refl s) fun a ha t ht => ?_
  have hlt := List.mem_range.mp ht
  split
  · exact ha.trans (a.keepsLink_wr (Reg.BUS.T.STAT.PARKED t) _ (by simp only [Reg.BUS.T.STAT.PARKED]; omega)
      (by simp only [Reg.BUS.T.STAT.PARKED]; omega))
  · exact ha

/-- The reset of the host's matrix master changes the matrix and writes at most one entry (R742 to R745). -/
theorem State.keepsLink_doMasterReset : State.KeepsLink 1 s (doMasterReset 0 s) := by
  have hshown (b : BusS) (c : Bool) : State.KeepsLink 0 s
      (((({ s with bus := b } : State).count (Reg.BUS.M.STAT.RESETS 0)).put (Reg.BUS.M.STAT.CLOSING 0) c).showOutst 0) :=
    (((s.keepsLink_bus b).trans
      (State.keepsLink_wr _ (Reg.BUS.M.STAT.RESETS 0) _ (by decide) (by decide))).trans
      (State.keepsLink_wr _ (Reg.BUS.M.STAT.CLOSING 0) _ (by decide) (by decide))).trans
      (State.keepsLink_wr _ (Reg.BUS.M.STAT.OUTST 0) _ (by decide) (by decide))
  unfold doMasterReset
  dsimp only
  rw [if_neg (by decide)]
  split
  · exact ((hshown _ _).trans (State.keepsLink_bus _ _)).trans
      (State.keepsLink_portClosed _ _ _ _)
  · split
    · exact (hshown _ _).trans (State.keepsLink_portClosed _ _ _ _)
    · exact (hshown _ _).mono (Nat.zero_le 1)

end

/-! ### The rings stop (R679, R964) -/

theorem State.host_ringOff (s : State) (r : Nat) : (s.ringOff r).host =
    { s.host with
      rings := s.host.rings.set r
        { s.ring r with fetched := [], run := (s.ring r).run.map fun x => { x with drop := true } }
      cpl0Held := if r = 0 then [] else s.host.cpl0Held } := by
  unfold State.ringOff
  rw [State.showFull_host]
  split <;> rfl

theorem State.ring_ringOff_other {s : State} {r p : Nat} (h : p ≠ r) : (s.ringOff r).ring p = s.ring p := by
  unfold State.ring atD
  rw [State.host_ringOff, List.getElem?_set_ne h.symm]

theorem State.ringOff_rest (s : State) (r : Nat) :
    (s.ringOff r).txn = s.txn ∧ (s.ringOff r).eng = s.eng ∧ (s.ringOff r).strm = s.strm := by
  unfold State.ringOff
  simp only [State.showFull_txn, State.showFull_eng, State.showFull_strm]
  split <;> exact ⟨rfl, rfl, rfl⟩

/-- `t` is `s` with its first `n` rings stopped; of the registers only the rings' status may differ. -/
structure State.RingsStopped (n : Nat) (s t : State) : Prop where
  word : ∀ o, (∀ r, o ≠ 0x140114 + 32 * r) → t.word o = s.word o
  length : t.host.rings.length = s.host.rings.length
  stopped : ∀ r < n, t.ring r =
    { s.ring r with fetched := [], run := (s.ring r).run.map fun x => { x with drop := true } }
  others : ∀ r, n ≤ r → t.ring r = s.ring r
  held : 0 < n → t.host.cpl0Held = []
  queue : t.host.evQueue = s.host.evQueue
  lockHard : t.host.lockHard = s.host.lockHard
  txn : t.txn = s.txn
  eng : t.eng = s.eng
  strm : t.strm = s.strm

theorem State.RingsStopped.succ {n : Nat} {s t : State} (h : State.RingsStopped n s t) (hn : n < s.host.rings.length) :
    State.RingsStopped (n + 1) s (t.ringOff n) := by
  obtain ⟨htxn, heng, hstrm⟩ := t.ringOff_rest n
  refine ⟨fun o ho => (t.word_ringOff (ho n)).trans (h.word o ho), ?length, ?stopped, ?others, ?held, ?queue, ?lockHard,
    htxn.trans h.txn, heng.trans h.eng, hstrm.trans h.strm⟩
  case length => rw [State.host_ringOff, List.length_set, h.length]
  case stopped =>
    intro r hr
    obtain rfl | hne := eq_or_ne r n
    · rw [State.ring_ringOff (by rw [h.length]; exact hn), h.others r (Nat.le_refl r)]
    · rw [State.ring_ringOff_other hne, h.stopped r (by omega)]
  case others =>
    intro r hr
    rw [State.ring_ringOff_other (by omega), h.others r (by omega)]
  case held =>
    intro _
    rw [State.host_ringOff]
    dsimp only
    split
    · rfl
    · exact h.held (by omega)
  case queue => rw [State.host_ringOff, h.queue]
  case lockHard => rw [State.host_ringOff, h.lockHard]

theorem State.ringsStopped_foldl (s : State) {n : Nat} (hn : n ≤ s.host.rings.length) :
    State.RingsStopped n s ((List.range n).foldl (fun (a : State) r => a.ringOff r) s) := by
  induction n with
  | zero =>
    exact ⟨fun _ _ => rfl, rfl, fun _ h => absurd h (Nat.not_lt_zero _), fun _ _ => rfl, fun h => absurd h (Nat.lt_irrefl 0),
      rfl, rfl, rfl, rfl, rfl⟩
  | succ n ih =>
    rw [List.range_succ, List.foldl_append]
    exact (ih (by omega)).succ hn

/-! ### The open slot goes (R401, R679) -/

theorem State.os_clearOpen (s : State) : s.clearOpen.os = osIdle := by
  unfold State.clearOpen State.os
  dsimp only
  rw [State.rd_wr_apart _ _ _ _ (by decide) (by decide) (by decide),
    State.rd_wr_apart _ _ _ _ (by decide) (by decide) (by decide),
    State.rd_wr_apart _ _ _ _ (by decide) (by decide) (by decide), State.rd_wr_same _ _ _ (by decide)]
  rfl

theorem State.word_clearOpen (s : State) {o : Nat} (h : o / 0x10000 = 20) : s.clearOpen.word o = s.word o := by
  have hne (p : Nat) (hp : p / 0x10000 ≠ 20) : o ≠ p := by rintro rfl; exact hp h
  unfold State.clearOpen
  dsimp only
  iterate 5 rw [State.word_wr_other _ _ _ (hne _ (by decide))]
  rfl

/-- Emptying the open slot leaves the host interface, the launching slot, the engine and the streams. -/
theorem State.clearOpen_rest (s : State) : s.clearOpen.host = s.host ∧ s.clearOpen.txn.items = [] ∧
    s.clearOpen.txn.lItems = s.txn.lItems ∧ s.clearOpen.eng = s.eng ∧ s.clearOpen.strm = s.strm := by
  unfold State.clearOpen
  simp only [State.wr_host, State.wr_txn, State.wr_eng, State.wr_strm, and_self]

/-- Every ring stopped and the open slot's transaction discarded: the first two steps of the reset. -/
def State.linkStopped (s : State) : State :=
  let u := (List.range 16).foldl (fun (a : State) r => a.ringOff r) s
  if u.os = osOpen || u.os = osPrepared then u.discardOpen 2 else u

/-- What of `s` stands in `t` once the rings have stopped and the open slot's transaction is discarded. -/
structure State.LinkStopped (s t : State) : Prop where
  word : ∀ o, o / 0x10000 = 20 → (∀ r, o ≠ 0x140114 + 32 * r) → o ≠ Reg.HOST.CNT.EVTLOST.off → t.word o = s.word o
  stopped : ∀ r < 16, (t.ring r).fetched = [] ∧ (t.ring r).run = (s.ring r).run.map fun x => { x with drop := true }
  held : t.host.cpl0Held = []
  queue : t.host.evQueue.length ≤ s.host.evQueue.length + 1
  lockHard : t.host.lockHard = s.host.lockHard
  lItems : t.txn.lItems = s.txn.lItems
  eng : t.eng = s.eng
  strm : t.strm = s.strm
  discarded : s.os = osOpen ∨ s.os = osPrepared → t.os = osIdle ∧ t.txn.items = []

theorem State.linkStopped_spec {s : State} (hlen : s.host.rings.length = 16) : s.LinkStopped s.linkStopped := by
  have hrings := s.ringsStopped_foldl (n := 16) (by omega)
  unfold State.linkStopped
  generalize (List.range 16).foldl (fun (a : State) r => a.ringOff r) s = u at hrings ⊢
  have hos : u.os = s.os := by
    unfold State.os State.rd
    rw [hrings.word _ (fun r => by simp only [Reg.TXN.STATUS.OSTATE]; omega)]
  have hstopped : ∀ r < 16, (u.ring r).fetched = [] ∧ (u.ring r).run = (s.ring r).run.map fun x => { x with drop := true } :=
    fun r hr => by
      rw [hrings.stopped r hr]
      exact ⟨rfl, rfl⟩
  dsimp only
  split
  · rename_i hopen
    have hidle : u.os ≠ osIdle := by
      intro h
      rw [h] at hopen
      exact absurd hopen (by decide)
    unfold State.discardOpen
    rw [if_neg hidle]
    have hpost := u.clearOpen.keepsLink_post 0x0011 (le 4 (u.rd Reg.TXN.OID.ID) ++ le 1 2)
    generalize u.clearOpen.post 0x0011 (le 4 (u.rd Reg.TXN.OID.ID) ++ le 1 2) = t at hpost ⊢
    obtain ⟨hhost, hitems, hlItems, heng, hstrm⟩ := u.clearOpen_rest
    have hring (r : Nat) : t.ring r = u.ring r := by rw [State.ring, hpost.rings, hhost, State.ring]
    exact {
      word := fun o ho hr hlost => by
        rw [hpost.word o (.inl ho) (fun e => absurd e hlost), State.word_clearOpen _ ho, hrings.word o hr]
      stopped := fun r hr => by
        rw [hring]
        exact hstopped r hr
      held := by rw [hpost.held, hhost, hrings.held (by decide)]
      queue := by
        have hqueue := hpost.queue
        rwa [hhost, hrings.queue] at hqueue
      lockHard := by rw [hpost.lockHard, hhost, hrings.lockHard]
      lItems := by rw [hpost.txn, hlItems, hrings.txn]
      eng := by rw [hpost.eng, heng, hrings.eng]
      strm := by rw [hpost.strm, hstrm, hrings.strm]
      discarded := fun _ =>
        ⟨(hpost.rd (.inr (by decide)) (by decide)).trans u.os_clearOpen, by rw [hpost.txn, hitems]⟩ }
  · rename_i hclosed
    rw [hos] at hclosed
    exact {
      word := fun o _ hr _ => hrings.word o hr
      stopped := hstopped
      held := hrings.held (by decide)
      queue := by
        rw [hrings.queue]
        exact Nat.le_succ _
      lockHard := hrings.lockHard
      lItems := by rw [hrings.txn]
      eng := hrings.eng
      strm := hrings.strm
      discarded := fun h => absurd (by simpa using h) hclosed }

/-! ### The block's registers (R679, R715) -/

/-- A word outside the range stands. -/
theorem State.word_resetRange_other (s : State) {lo hi o : Nat} (h : o < lo ∨ hi ≤ o) :
    (s.resetRange lo hi).word o = s.word o := by
  unfold State.word State.resetRange
  dsimp only
  induction s.regs with
  | nil => rfl
  | cons e regs ih =>
    rw [List.filter_cons]
    obtain ⟨a, w⟩ := e
    split
    · simp only [tblGet, ih]
    · rename_i hin
      have hne : a ≠ o := by
        rintro rfl
        simp at hin
        omega
      rw [tblGet, if_neg hne, ih]

/-- On a state `c` whose block HOST is at its reset values, what R679 and R715 keep of `s`. -/
def State.linkRegs (k : LinkReset) (s c : State) : State :=
  ((((c.wr Reg.HOST.CFG.REQ (s.rd Reg.HOST.CFG.REQ)).wr Reg.HOST.SCTR_LO.CTR (s.rd Reg.HOST.SCTR_LO.CTR)).wr
    Reg.HOST.SCTR_HI.CTR (s.rd Reg.HOST.SCTR_HI.CTR)).put Reg.HOST.STAT.LOCKED c.host.lockHard).put
    Reg.HOST.STAT.LINKUP (k != .linkLoss)

/-- No session open and the block at its reset values. -/
def State.hostCleared (s : State) : State := (s.endSessions (fun _ => true)).resetRange 0x140000 0x150000

/-- The block after the reset, with no interrupt owed. -/
def State.linkCleared (k : LinkReset) (s : State) : State :=
  let u := s.linkRegs k s.hostCleared
  { u with host := { u.host with irqDue := [], irqSent := [], retried := [] } }

theorem doLinkReset_eq (k : LinkReset) (s : State) :
    doLinkReset k s = ((doMasterReset 0 (s.linkStopped.linkCleared k)).log 0x0402 []).showEval s := rfl

section
variable (k : LinkReset) (s c : State)

theorem State.word_linkRegs {o : Nat} (hcfg : o ≠ Reg.HOST.CFG.REQ.off) (hstat : o ≠ Reg.HOST.STAT.LOCKED.off)
    (hlo : o ≠ Reg.HOST.SCTR_LO.CTR.off) (hhi : o ≠ Reg.HOST.SCTR_HI.CTR.off) :
    (s.linkRegs k c).word o = c.word o := by
  unfold State.linkRegs State.put
  rw [State.word_wr_other _ Reg.HOST.STAT.LINKUP _ hstat, State.word_wr_other _ _ _ hstat, State.word_wr_other _ _ _ hhi,
    State.word_wr_other _ _ _ hlo, State.word_wr_other _ _ _ hcfg]

/-- A field that shares no bit with the five kept ones reads what it read. -/
theorem State.rd_linkRegs {f : Fld} (hfits : f.fits = true)
    (hapart : ∀ g ∈ [Reg.HOST.CFG.REQ, Reg.HOST.SCTR_LO.CTR, Reg.HOST.SCTR_HI.CTR, Reg.HOST.STAT.LOCKED,
      Reg.HOST.STAT.LINKUP], g.apart f = true) : (s.linkRegs k c).rd f = c.rd f := by
  simp only [List.forall_mem_cons] at hapart
  obtain ⟨hreq, hlo, hhi, hlocked, hlinkup, -⟩ := hapart
  unfold State.linkRegs
  rw [State.rd_put_apart _ _ _ _ (by decide) hfits hlinkup, State.rd_put_apart _ _ _ _ (by decide) hfits hlocked,
    State.rd_wr_apart _ _ _ _ (by decide) hfits hhi, State.rd_wr_apart _ _ _ _ (by decide) hfits hlo,
    State.rd_wr_apart _ _ _ _ (by decide) hfits hreq]

theorem State.req_linkRegs : (s.linkRegs k c).rd Reg.HOST.CFG.REQ = s.rd Reg.HOST.CFG.REQ := by
  unfold State.linkRegs
  rw [State.rd_put_apart _ _ _ _ (by decide) (by decide) (by decide),
    State.rd_put_apart _ _ _ _ (by decide) (by decide) (by decide),
    State.rd_wr_apart _ _ _ _ (by decide) (by decide) (by decide),
    State.rd_wr_apart _ _ _ _ (by decide) (by decide) (by decide), State.rd_wr_same _ _ _ (by decide)]
  exact Nat.mod_eq_of_lt (s.rd_lt _)

theorem State.sctrLo_linkRegs : (s.linkRegs k c).rd Reg.HOST.SCTR_LO.CTR = s.rd Reg.HOST.SCTR_LO.CTR := by
  unfold State.linkRegs
  rw [State.rd_put_apart _ _ _ _ (by decide) (by decide) (by decide),
    State.rd_put_apart _ _ _ _ (by decide) (by decide) (by decide),
    State.rd_wr_apart _ _ _ _ (by decide) (by decide) (by decide), State.rd_wr_same _ _ _ (by decide)]
  exact Nat.mod_eq_of_lt (s.rd_lt _)

theorem State.sctrHi_linkRegs : (s.linkRegs k c).rd Reg.HOST.SCTR_HI.CTR = s.rd Reg.HOST.SCTR_HI.CTR := by
  unfold State.linkRegs
  rw [State.rd_put_apart _ _ _ _ (by decide) (by decide) (by decide),
    State.rd_put_apart _ _ _ _ (by decide) (by decide) (by decide), State.rd_wr_same _ _ _ (by decide)]
  exact Nat.mod_eq_of_lt (s.rd_lt _)

/-- LOCKED shows the hard lock (R715), and LINKUP whether the link is still up. -/
theorem State.stat_linkRegs : (s.linkRegs k c).on Reg.HOST.STAT.LOCKED = c.host.lockHard ∧
    (s.linkRegs k c).on Reg.HOST.STAT.LINKUP = (k != .linkLoss) := by
  unfold State.linkRegs
  rw [State.on_put_apart _ _ _ _ (by decide) (by decide) (by decide), State.rd_put_same _ _ _ (by decide) rfl,
    State.rd_put_same _ _ _ (by decide) rfl]
  exact ⟨rfl, rfl⟩

/-- Outside the block every register stands. -/
theorem State.word_hostCleared {o : Nat} (hblock : o / 0x10000 ≠ 20) : s.hostCleared.word o = s.word o := by
  unfold State.hostCleared State.endSessions State.showSessions State.wrSat
  rw [State.word_resetRange_other _ (by omega), State.word_wr_other _ _ _ (by rintro rfl; exact hblock rfl)]
  rfl

theorem State.sessions_hostCleared : ∀ x ∈ s.hostCleared.host.sessions, x = none := by
  intro x hx
  obtain ⟨y, -, rfl⟩ := List.mem_map.mp hx
  cases y <;> rfl

end
section
variable (k : LinkReset) (s : State)

/-- The registers after the reset are those of the rewritten block. -/
theorem State.word_linkCleared (o : Nat) : (s.linkCleared k).word o = (s.linkRegs k s.hostCleared).word o := by
  simp only [State.word, State.linkCleared]

theorem State.rd_linkCleared (f : Fld) : (s.linkCleared k).rd f = (s.linkRegs k s.hostCleared).rd f := by
  rw [State.rd, State.word_linkCleared, State.rd]

/-- The interface's own state after the reset: its rings, its queue and its lock stand, and no session is open. -/
theorem State.host_linkCleared : (s.linkCleared k).host =
    { s.host with
      sessions := s.hostCleared.host.sessions
      irqDue := []
      irqSent := []
      retried := [] } := by
  simp only [State.linkCleared, State.linkRegs, State.put_host, State.wr_host, State.hostCleared, State.resetRange_host,
    State.endSessions, State.showSessions, State.wrSat]

/-- The other units stand. -/
theorem State.linkCleared_rest : (s.linkCleared k).txn = s.txn ∧ (s.linkCleared k).eng = s.eng ∧
    (s.linkCleared k).strm = s.strm := by
  simp only [State.linkCleared, State.linkRegs, State.hostCleared, State.endSessions, State.showSessions, State.wrSat,
    State.put_txn, State.wr_txn, State.resetRange_txn, State.put_eng, State.wr_eng, State.resetRange_eng, State.put_strm,
    State.wr_strm, State.resetRange_strm, and_self]

end

/-! ### The silt log's entry (R850) -/

/-- A short entry is the log's last. -/
theorem State.exists_silt_siltWrite (s : State) (code : Nat) {data : List Byte} (hdata : data.length ≤ 10) :
    ∃ e : SiltEntry, e.code = code ∧ e.cont = false ∧
      (s.siltWrite code data).silt = s.silt.drop (s.silt.length + 1 - siltSize) ++ [e] := by
  have hone : chunks10 8 data = [padTo 10 data] := by simp [chunks10, hdata]
  unfold State.siltWrite
  dsimp only
  rw [hone, State.wr_silt]
  refine ⟨{ seq := (s.rd Reg.STORE.SILT.HEAD + 0) % 2 ^ 32, code := code, cite := none
            unstepped := !s.on Reg.TIME.STATUS.STEPPED, cont := false, ncont := 0, tick := s.siltTick
            data := padTo 10 data }, rfl, rfl, ?_⟩
  have hes (first tick : Nat) (un : Bool) (cite : Option Nat) (p : List Byte) : siltEntries first code tick un cite [p] =
      [{ seq := (first + 0) % 2 ^ 32, code := code, cite := cite, unstepped := un, cont := false, ncont := 0, tick := tick
         data := p }] := rfl
  rw [hes, List.length_append, List.length_singleton, List.drop_append_of_le_length (by unfold siltSize; omega)]

/-- Showing EVAL leaves the last entry in the log. -/
theorem State.mem_silt_showEval {s : State} {l : List SiltEntry} {e : SiltEntry} (h : s.silt = l ++ [e]) (old : State) :
    e ∈ (s.showEval old).silt := by
  unfold State.showEval
  dsimp only
  split
  · simp [h]
  · obtain ⟨e', -, -, hsilt⟩ := (s.put Reg.SEC.STATUS.EVAL (s.evalRows.all id)).exists_silt_siltWrite 0x0808
      (data := le 1 (Config.settingCode (((s.evalRows.zip old.evalRows).findIdx? (fun x => x.1 != x.2)).getD 0)))
      (by rw [length_leBytes]; decide)
    rw [hsilt, State.put_silt, h, List.length_append, List.length_singleton,
      List.drop_append_of_le_length (by unfold siltSize; omega)]
    simp

/-! ### The host-link reset (R679, R742, R964) -/

/-- EN of every ring resets to 0 (R687). -/
theorem resetWord_ringEn : ∀ r < 16, getBits (resetWord (Reg.HOST.RING.CFG.EN r).off) 0 1 = 0 := by decide +kernel

/-- Behind the cleared block the reset writes at most two events and two entries. -/
theorem State.keepsLink_doLinkReset (k : LinkReset) (s : State) :
    State.KeepsLink 2 (s.linkStopped.linkCleared k) (doLinkReset k s) := by
  rw [doLinkReset_eq]
  exact ((State.keepsLink_doMasterReset _).trans (State.keepsLink_log _ _ _ _)).trans (State.keepsLink_showEval _ _)

theorem State.exists_silt_doLinkReset (k : LinkReset) (s : State) :
    ∃ e ∈ (doLinkReset k s).silt, e.code = 0x0402 ∧ e.cont = false := by
  obtain ⟨e, hcode, hcont, hsilt⟩ := (doMasterReset 0 (s.linkStopped.linkCleared k)).exists_silt_siltWrite 0x0402
    (data := []) (Nat.zero_le _)
  rw [doLinkReset_eq]
  exact ⟨e, State.mem_silt_showEval (by rw [State.log, State.post_silt, hsilt]) s, hcode, hcont⟩

section
variable {k : LinkReset} {s : State}

/-- The block's words are their reset values, EVTLOST while the queue takes the reset's own events. -/
theorem State.word_doLinkReset (hlen : s.host.rings.length = 16) {o : Nat} (hblock : o / 0x10000 = 20)
    (hcfg : o ≠ Reg.HOST.CFG.REQ.off) (hstat : o ≠ Reg.HOST.STAT.LOCKED.off) (hlo : o ≠ Reg.HOST.SCTR_LO.CTR.off)
    (hhi : o ≠ Reg.HOST.SCTR_HI.CTR.off) (hlost : o = Reg.HOST.CNT.EVTLOST.off → s.host.evQueue.length < 254) :
    (doLinkReset k s).word o = resetWord o := by
  have hqueue := (State.linkStopped_spec hlen).queue
  rw [(s.keepsLink_doLinkReset k).word o (.inl hblock)
      (fun e => by rw [State.host_linkCleared]; have := hlost e; dsimp only; omega),
    State.word_linkCleared, State.word_linkRegs k _ _ hcfg hstat hlo hhi, State.hostCleared,
    State.word_resetRange _ _ _ _ (by omega) (by omega)]

/-- A field that shares no bit with a kept one reads as at reset. -/
theorem State.rd_doLinkReset {f : Fld} (hblock : f.off / 0x10000 = 20) (hfits : f.fits = true)
    (hlost : f.off ≠ Reg.HOST.CNT.EVTLOST.off)
    (hapart : ∀ g ∈ [Reg.HOST.CFG.REQ, Reg.HOST.SCTR_LO.CTR, Reg.HOST.SCTR_HI.CTR, Reg.HOST.STAT.LOCKED,
      Reg.HOST.STAT.LINKUP], g.apart f = true) : (doLinkReset k s).rd f = State.reset.rd f := by
  rw [(s.keepsLink_doLinkReset k).rd (.inl hblock) hlost, State.rd_linkCleared, State.rd_linkRegs k _ _ hfits hapart,
    State.rd, State.hostCleared, State.word_resetRange _ _ _ _ (by omega) (by omega)]
  rfl

/-- REQ and the session counter stand (R679). -/
theorem State.kept_doLinkReset (hlen : s.host.rings.length = 16) :
    (doLinkReset k s).rd Reg.HOST.CFG.REQ = s.rd Reg.HOST.CFG.REQ ∧ (doLinkReset k s).sctr = s.sctr := by
  have hkeeps := s.keepsLink_doLinkReset k
  have hstop (f : Fld) (hblock : f.off / 0x10000 = 20) (hlow : f.off < 0x140100)
      (hlost : f.off ≠ Reg.HOST.CNT.EVTLOST.off) : s.linkStopped.rd f = s.rd f := by
    rw [State.rd, (State.linkStopped_spec hlen).word _ hblock (fun r => by omega) hlost, State.rd]
  unfold State.sctr
  rw [hkeeps.rd (.inl (by decide)) (by decide), State.rd_linkCleared, State.req_linkRegs,
    hkeeps.rd (.inl (by decide)) (by decide), State.rd_linkCleared, State.sctrLo_linkRegs,
    hkeeps.rd (.inl (by decide)) (by decide), State.rd_linkCleared, State.sctrHi_linkRegs,
    hstop _ (by decide) (by decide) (by decide), hstop _ (by decide) (by decide) (by decide),
    hstop _ (by decide) (by decide) (by decide)]
  exact ⟨rfl, rfl⟩

theorem State.stat_doLinkReset (hlen : s.host.rings.length = 16) :
    (doLinkReset k s).on Reg.HOST.STAT.LOCKED = s.host.lockHard ∧
      (doLinkReset k s).on Reg.HOST.STAT.LINKUP = (k != .linkLoss) := by
  have hkeeps := s.keepsLink_doLinkReset k
  have hon (f : Fld) : (s.linkStopped.linkCleared k).on f = (s.linkStopped.linkRegs k s.linkStopped.hostCleared).on f := by
    rw [State.on, State.rd_linkCleared, State.on]
  obtain ⟨hlocked, hlinkup⟩ := State.stat_linkRegs k s.linkStopped s.linkStopped.hostCleared
  rw [hkeeps.on (.inl (by decide)) (by decide), hkeeps.on (.inl (by decide)) (by decide), hon, hon, hlocked, hlinkup,
    ← (State.linkStopped_spec hlen).lockHard]
  exact ⟨rfl, rfl⟩

/-- Every ring is disabled, has nothing fetched, and what executes on it loses its completion (R679, R964). -/
theorem State.ring_doLinkReset (hlen : s.host.rings.length = 16) {r : Nat} (hr : r < 16) :
    ((doLinkReset k s).ring r).fetched = [] ∧ (doLinkReset k s).on (Reg.HOST.RING.CFG.EN r) = false ∧
      ((doLinkReset k s).ring r).run = (s.ring r).run.map fun x => { x with drop := true } := by
  have hring : (doLinkReset k s).ring r = s.linkStopped.ring r := by
    rw [State.ring, (s.keepsLink_doLinkReset k).rings, State.host_linkCleared, State.ring]
  obtain ⟨hfetched, hrun⟩ := (State.linkStopped_spec hlen).stopped r hr
  have hen : (doLinkReset k s).rd (Reg.HOST.RING.CFG.EN r) = 0 := by
    have hlo : 0x140110 ≤ (Reg.HOST.RING.CFG.EN r).off := Nat.le_add_right _ _
    have hne (o : Nat) (h : o < 0x140110) : (Reg.HOST.RING.CFG.EN r).off ≠ o := by omega
    rw [State.rd, State.word_doLinkReset hlen (ringEn_block hr) (hne _ (by decide)) (hne _ (by decide))
      (hne _ (by decide)) (hne _ (by decide)) (fun e => absurd e (hne _ (by decide)))]
    exact resetWord_ringEn r hr
  refine ⟨by rw [hring, hfetched], by rw [State.on, hen]; rfl, by rw [hring, hrun]⟩

end

/-! ### Sessions and latches (R712 to R714, R929) -/

theorem exec_hostLinkReset (k : LinkReset) (s : State) : exec (.hostLinkReset k) s = .next (doLinkReset k s) := rfl

theorem exec_sessionOpen (d : Desc) (s : State) :
    exec (.sessionOpen d) s = .next (hostCmd 0x01 0 d (sessionOpenRes d) s) := rfl

theorem exec_sessionClose (d : Desc) (s : State) :
    exec (.sessionClose d) s = .next (hostCmd 0x02 0 d (sessionCloseRes d) s) := rfl

theorem exec_sessionExpiry (n : Nat) (s : State) : exec (.sessionExpiry n) s = .next (doExpiry n s) := rfl

theorem length_padTo (n : Nat) (l : List Byte) : (padTo n l).length = n := by
  unfold padTo
  simp
  omega

/-- The session that place `i` takes: what the request names, and the key of both public keys. -/
def State.grantedSession (s : State) (d : Desc) (i : Nat) (own : List Byte) : Session where
  roles := rdLe d.buf 1 1
  gen := rdLe d.buf 4 4
  mask := rdLe d.buf 2 2
  notAfter := rdLe d.buf 24 8
  key := Config.sessionKey ((d.buf.drop 240).take 97 ++ own) (i + 1) ((s.sctr + 1) % 2 ^ 64)
  seqs := List.replicate 16 0

/-- The state with that session at place `i`, the counter one higher and the number of sessions shown. -/
def State.granted (s v : State) (d : Desc) (i : Nat) (own : List Byte) : State :=
  let c := (v.wr Reg.HOST.SCTR_LO.CTR ((s.sctr + 1) % 2 ^ 64 % 2 ^ 32)).wr Reg.HOST.SCTR_HI.CTR
    ((s.sctr + 1) % 2 ^ 64 / 2 ^ 32)
  ({ c with host := { v.host with sessions := v.host.sessions.set i (some (s.grantedSession d i own)) } } :
    State).showSessions

/-- A request that R712 accepts takes the first place that is free (R713). -/
theorem sessionOpenRes_of_accepted {d : Desc} {s v : State} {i n : Nat} (hup : s.cryptoDown = false)
    (hok : s.requestOk d.buf = true) (hplace : s.host.sessions.findIdx? Option.isNone = some i) (hfresh : s.fresh = (n, v)) :
    sessionOpenRes d s = okRes (s.granted v d i (padTo 97 (Config.ephemeralKey n)))
      (le 2 (i + 1) ++ le 6 0 ++ le 6 (rdLe d.buf 24 8))
      (padTo 97 (Config.ephemeralKey n) ++ le 7 0 ++ padTo 96 (Config.deviceSign
        (Config.sha384 ((d.buf.drop 240).take 97 ++ padTo 97 (Config.ephemeralKey n))))) := by
  unfold sessionOpenRes State.granted State.grantedSession
  simp only [hup, hok, hplace, hfresh, State.wr_host, Bool.false_eq_true, if_false, Bool.not_true]

theorem sessionCloseRes_of_own {d : Desc} {s : State} (ha0 : d.a0 ≠ 0) (hmax : d.a0 ≤ 16) (hown : d.session = d.a0) :
    sessionCloseRes d s = okRes (s.endSession d.a0) := by
  unfold sessionCloseRes
  rw [if_neg (by simp [ha0, hmax]), if_neg (not_not_intro hown)]

/-- At most 16 sessions are open, which SESS shows. -/
theorem State.sess_endSession (s : State) {n : Nat} (hlen : s.host.sessions.length = 16) :
    (s.endSession n).rd Reg.HOST.STAT.SESS = ((s.endSession n).host.sessions.filter Option.isSome).length := by
  have hle : ((s.host.sessions.set (n - 1) none).filter Option.isSome).length ≤ 16 :=
    (List.length_filter_le _ _).trans (by rw [List.length_set, hlen])
  unfold State.endSession State.showSessions State.wrSat
  rw [State.rd_wr_same _ _ _ (by decide), State.wr_host]
  simp only [Reg.HOST.STAT.SESS]
  omega

theorem State.word_endSession (s : State) (n : Nat) {o : Nat} (h : o ≠ Reg.HOST.STAT.SESS.off) :
    (s.endSession n).word o = s.word o := by
  unfold State.endSession State.showSessions State.wrSat
  rw [State.word_wr_other _ _ _ h]
  rfl

theorem doExpiry_of_due {n : Nat} {x : Session} {s : State} (hn : n ≠ 0) (hx : atD s.host.sessions (n - 1) none = some x)
    (hafter : x.notAfter ≠ 0) (hdue : x.notAfter ≤ s.secs) : doExpiry n s = s.endSession n := by
  unfold doExpiry
  rw [hx]
  exact if_pos (by simp [hn, hafter, hdue])

/-- A read of a first register replaces its class's latch of the group, and nothing else. -/
theorem State.readLatch_of_first {s : State} {q : Requester} {f : Nat} (hrun : s.pwr.halted = false)
    (hpath : s.hasPath q = true) (hf : f ∈ latchFirsts) :
    s.readLatch q f = { s with latches := s.latches.filter (fun x => !(x.q == latchClass q && x.first == f)) ++
      [{ q := latchClass q, first := f, words := (latchGroup f).map s.liveWord }] } := by
  obtain ⟨hmap, halign, hlt⟩ := latchFirsts_readable f hf
  have hwin : ¬ 0x200000 ≤ f := by omega
  simp [State.readLatch, hrun, hpath, halign, hwin, hmap, hf]

/-- Settles O16: the reset's stop, clear and closing events each keep what the next relies on; a session row's operands
pass its checks. -/
theorem hostLinkAndSessionRowsTakeEffect : Obligations.HostLinkAndSessionRowsTakeEffect := by
  refine ⟨?linkReset, ?opened, ?closed, ?expired, ?latched⟩
  case linkReset =>
    intro k s hlen
    have hkeeps := s.keepsLink_doLinkReset k
    have hstop := State.linkStopped_spec hlen
    obtain ⟨hreq, hsctr⟩ := State.kept_doLinkReset (k := k) hlen
    obtain ⟨hlocked, hlinkup⟩ := State.stat_doLinkReset (k := k) hlen
    obtain ⟨htxn, heng, hstrm⟩ := s.linkStopped.linkCleared_rest k
    refine ⟨_, exec_hostLinkReset k s, ?sessions, fun r hr => State.ring_doLinkReset hlen hr, ?held, ?slot, ?words, hreq,
      State.rd_doLinkReset (by decide) (by decide) (by decide) (by decide),
      State.rd_doLinkReset (by decide) (by decide) (by decide) (by decide), hsctr, ?lockHard, hlocked, hlinkup, ?lost, ?sess,
      State.exists_silt_doLinkReset k s, by rw [hkeeps.eng, heng, hstop.eng], by rw [hkeeps.txn, htxn, hstop.lItems],
      by rw [hkeeps.strm, hstrm, hstop.strm]⟩
    case sessions =>
      rw [hkeeps.sessions, State.host_linkCleared]
      exact s.linkStopped.sessions_hostCleared
    case held => rw [hkeeps.held, State.host_linkCleared, hstop.held]
    case slot =>
      intro hopen
      obtain ⟨hidle, hitems⟩ := hstop.discarded hopen
      have hos : (s.linkStopped.linkCleared k).os = s.linkStopped.os := by
        rw [State.os, State.rd_linkCleared, State.rd_linkRegs _ _ _ (by decide) (by decide), State.rd,
          State.word_hostCleared _ (by decide)]
        rfl
      exact ⟨(hkeeps.rd (.inr (by decide)) (by decide)).trans (hos.trans hidle), by rw [hkeeps.txn, htxn, hitems]⟩
    case words =>
      intro o hlow hhigh hcfg hstat hlo hhi hlost
      exact State.word_doLinkReset hlen (by omega) hcfg hstat hlo hhi hlost
    case lockHard => rw [hkeeps.lockHard, State.host_linkCleared, hstop.lockHard]
    case lost =>
      rw [State.on, State.rd_doLinkReset (by decide) (by decide) (by decide) (by decide)]
      decide +kernel
    case sess =>
      rw [State.rd_doLinkReset (by decide) (by decide) (by decide) (by decide)]
      decide +kernel
  case opened =>
    rintro d s u v i n own hadm rfl hup hok hplace hfresh rfl hroom
    rw [exec_sessionOpen, hostCmd_ok hadm (sessionOpenRes_of_accepted hup hok hplace hfresh.symm)
      (by simpa only [List.length_append, length_padTo, length_leBytes] using hroom)]
    rfl
  case closed =>
    intro d s hadm ha0 hmax hown
    rw [exec_sessionClose, hostCmd_ok hadm (sessionCloseRes_of_own ha0 hmax hown) (Nat.zero_le _)]
  case expired =>
    intro n x s hn hx hafter hdue hlen
    rw [exec_sessionExpiry, doExpiry_of_due hn hx hafter hdue]
    exact ⟨_, rfl, rfl, s.sess_endSession hlen, fun o ho => s.word_endSession n ho⟩
  case latched =>
    intro q off s hrun hpath hf
    rw [exec_latchingRead, State.readLatch_of_first hrun hpath hf]

end Sys2Proof.Machine
end

section
/-! The bus matrix (R728 to R745): what a request, a grant, a response, a timeout and the reset of a master do, each by
the case in which it acts. -/
namespace Sys2Proof.Machine

theorem exec_busRequest (r : BusReq) (s : State) : exec (.busRequest r) s = .next (doBusRequest r s) := rfl

theorem exec_targetGrant (t : Nat) (w : Bool) (s : State) : exec (.targetGrant t w) s = .next (doGrant t w s) := rfl

theorem exec_targetResponse (t : Nat) (e : RespEnd) (s : State) :
    exec (.targetResponse t e) s = .next (doResponse t e s) := rfl

theorem exec_targetResponseTimeout (t : Nat) (s : State) :
    exec (.targetResponseTimeout t) s = .next (doRespTimeout t s) := rfl

theorem exec_masterReset (m : Nat) (s : State) : exec (.masterReset m) s = .next (doMasterReset m s) := rfl

theorem exec_masterPortClosed (m : Nat) (s : State) : exec (.masterPortClosed m) s = .next (doPortClosed m s) := rfl

/-! ### Requests and grants (R728 to R737) -/

section
variable {s : State} {r : BusReq} {n a : Nat}

section
variable (hmaster : r.master < 14) (hpos : 0 < n) (hbeats : (a + n - 1) / 32 + 1 - a / 32 ≤ 16)
  (haddr : r.addr < 2 ^ 40) (hopen : s.on (Reg.BUS.M.STAT.CLOSING r.master) = false) (hout : s.outstanding r.master < 32)
include hmaster hpos hbeats haddr hopen hout

/-- A legal request of a master whose port is open passes every check of its form (R717, R728, R731). -/
theorem BusReq.not_ignored : ¬ (14 ≤ r.master || n = 0 || 16 < (a + n - 1) / 32 + 1 - a / 32 || 2 ^ 40 ≤ r.addr ||
    s.on (Reg.BUS.M.STAT.CLOSING r.master) || 32 ≤ s.outstanding r.master) = true := by
  simp only [hopen, Bool.or_eq_true, decide_eq_true_eq, Bool.false_eq_true, or_false]
  omega

variable (hn : n = if r.write then r.data.length else r.len) (ha : a = s.unswap r.master r.addr)
include hn ha

theorem doBusRequest_of_path {t : Nat} (htarget : s.busTarget r.master a n = some t) :
    doBusRequest r s = s.enqueue {
      master := r.master, id := r.id, write := r.write, addr := a, target := t, len := n
      qos := s.busQos r.master r.write r.qos, gen := s.busGen r.master
      data := if r.write then r.data else []
      strobes := if r.write then (r.strobes ++ List.replicate (n - r.strobes.length) false).take n else []
      since := s.run } := by
  have hlegal := BusReq.not_ignored hmaster hpos hbeats haddr hopen hout
  subst hn ha
  unfold doBusRequest
  rw [if_neg hlegal, htarget]

theorem doBusRequest_of_no_path (htarget : s.busTarget r.master a n = none) :
    doBusRequest r s = (s.violate (busClass r.master)).respond r.master
      ⟨r.id, if r.write then [] else List.replicate n 0, false⟩ := by
  have hlegal := BusReq.not_ignored hmaster hpos hbeats haddr hopen hout
  subst hn ha
  unfold doBusRequest
  rw [if_neg hlegal, htarget]

end
end

theorem doGrant_of_arbitrate {s : State} {t : Nat} {w : Bool} {x : BusTxn} (ht : t < 9) (hgrants : s.portGrants t = true)
    (hx : s.arbitrate t w = some x) :
    doGrant t w s = (((({ s with bus := { s.bus with
      queue := s.bus.queue.erase x
      granted := s.bus.granted ++ [{ x with at_ := s.run }]
      lastQ := mapSet s.bus.lastQ (arbKey t w x.qos) x.master
      waits := s.bus.waits ++ [(t, s.run, s.run - x.since)]
      busyFrom := if (mapGet s.bus.busyFrom t).isSome then s.bus.busyFrom else mapSet s.bus.busyFrom t s.run } } : State).wr
      (Reg.BUS.T.STAT.PARK t) x.master).put (Reg.BUS.T.STAT.PARKED t)
      ((s.bus.queue.erase x).all fun y => y.target != t)).showPort t) := by
  unfold doGrant
  rw [if_neg (by simp [hgrants]; omega), hx]

/-! ### Responses (R732, R733, R768 to R772) -/

section
variable {s : State} {t : Nat} {x : BusTxn} {fl : List (Nat × Nat)}

theorem doResponse_of_error (hx : s.answerable t = some x) :
    doResponse t ⟨true, fl⟩ s = s.sendBack x (List.replicate (if x.write then 0 else x.len) 0) true none := by
  unfold doResponse
  rw [hx]
  rfl

/-- What a port that is no DRAM port, or DRAM whose training did not fail, does not fail of itself (R732, R753). -/
theorem State.not_untrained (hup : isDram t = false ∨ s.rd Reg.DRAM.STAT.STATE ≠ 3) :
    (isDram t && s.rd Reg.DRAM.STAT.STATE == 3) = false := by
  rcases hup with h | h <;> simp [h]

theorem doResponse_of_write (hx : s.answerable t = some x) (hup : isDram t = false ∨ s.rd Reg.DRAM.STAT.STATE ≠ 3)
    (hw : x.write = true) :
    doResponse t ⟨false, fl⟩ s = (s.performWrite x.master t x.addr x.data x.strobes).sendBack x [] false none := by
  simp [doResponse, hx, State.not_untrained hup, hw]

theorem doResponse_of_read (hx : s.answerable t = some x) (hdram : isDram t = false) (hw : x.write = false) :
    doResponse t ⟨false, fl⟩ s =
      (s.performRead x.master t x.addr x.len).sendBack x (s.readBytes x.master t x.addr x.len) false none := by
  simp [doResponse, hx, hdram, hw]

section
variable (hx : s.answerable t = some x) (hdram : isDram t = true) (hup : s.rd Reg.DRAM.STAT.STATE ≠ 3)
  (hw : x.write = false)
include hx hdram hup hw

theorem doResponse_of_read_without_ecc (hecc : s.dram.ecc = false) :
    doResponse t ⟨false, fl⟩ s = (s.performRead x.master t x.addr x.len).sendBack x
      (upsetBytes x.addr fl (s.readBytes x.master t x.addr x.len)) false none := by
  simp [doResponse, hx, hdram, hup, hw, hecc]

theorem doResponse_of_read_corrected (hecc : s.dram.ecc = true) (hfail : failedBlock x.addr x.len fl = none) :
    doResponse t ⟨false, fl⟩ s = (((s.performRead x.master t x.addr x.len).countIf
      (!(correctedBlocks x.addr x.len fl).isEmpty) Reg.DRAM.ECCCNT.CE).writeBacks (correctedBlocks x.addr x.len fl)).sendBack x
      (s.readBytes x.master t x.addr x.len) false none := by
  simp [doResponse, hx, hdram, hup, hw, hecc, hfail]

theorem doResponse_of_read_failed {b : Nat} (hecc : s.dram.ecc = true) (hfail : failedBlock x.addr x.len fl = some b) :
    doResponse t ⟨false, fl⟩ s =
      { s with dram := { s.dram with retries := s.dram.retries ++ [{ txn := some x, block := b, at_ := s.run }] } } := by
  simp [doResponse, hx, hdram, hup, hw, hecc, hfail]

end

theorem doRespTimeout_of_overdue (hrun : isDram t = false ∨ s.on Reg.DRAM.STAT.RETRAIN = false)
    (hx : s.bus.granted.find? (fun x => x.target == t && decide (x.at_ + 20000 ≤ s.run)) = some x) :
    doRespTimeout t s = ((({ s with dram := { s.dram with
      retries := s.dram.retries.filter fun r => r.txn != some x } } : State).count
      (Reg.BUS.T.CNT.TO t)).log 0x0506 (le 1 t ++ le 1 x.master ++ le 1 x.id)).sendBack x
      (List.replicate (if x.write then 0 else x.len) 0) true none := by
  unfold doRespTimeout
  rw [if_neg (by rcases hrun with h | h <;> simp [h]), hx]

end

/-! ### Resets of masters (R742 to R745) -/

theorem State.word_post_other (s : State) (typ : Nat) (p : List Byte) {o : Nat} (h : o ≠ Reg.HOST.CNT.EVTLOST.off) :
    (s.post typ p).word o = s.word o := by
  unfold State.post
  dsimp only
  split
  · rfl
  · split
    · rfl
    · exact State.word_wr_other _ _ _ h

theorem State.word_log_other (s : State) (code : Nat) (data : List Byte) (cite : Option Nat) {o : Nat}
    (hlost : o ≠ Reg.HOST.CNT.EVTLOST.off) (hhead : o ≠ Reg.STORE.SILT.HEAD.off) :
    (s.log code data cite).word o = s.word o := by
  unfold State.log
  rw [State.word_post_other _ _ _ hlost, State.word_siltWrite_other _ _ _ _ hhead]

section
variable (s : State) (m wr rds : Nat)

/-- The ports that a closed master's reset parks on no master (R744). -/
def State.unparked (m : Nat) (s : State) : State :=
  (List.range 9).foldl (fun (a : State) t =>
    if a.rd (Reg.BUS.T.STAT.PARK t) = m then a.put (Reg.BUS.T.STAT.PARKED t) false else a) s

theorem State.portClosed_eq : s.portClosed m wr rds = (s.unparked m).log 0x0507 (le 1 m ++ le 1 wr ++ le 1 rds) := rfl

theorem State.unparked_induct {P : State → Prop}
    (hput : ∀ (a : State) t, P a → P (a.put (Reg.BUS.T.STAT.PARKED t) false)) (hs : P s) : P (s.unparked m) := by
  unfold State.unparked
  induction List.range 9 generalizing s with
  | nil => exact hs
  | cons t l ih =>
    rw [List.foldl_cons]
    split
    · exact ih _ (hput s t hs)
    · exact ih _ hs

theorem State.portClosed_bus : (s.portClosed m wr rds).bus = s.bus := by
  rw [State.portClosed_eq, State.log_bus]
  exact s.unparked_induct m (P := fun a => a.bus = s.bus) (fun a t ha => ha) rfl

/-- Closing a port leaves the registers of the masters. -/
theorem State.word_portClosed {o : Nat} (hlo : 0x150000 ≤ o) (hhi : o < 0x150200) :
    (s.portClosed m wr rds).word o = s.word o := by
  rw [State.portClosed_eq, State.word_log_other _ _ _ _ (ne_of_gt (Nat.lt_of_lt_of_le (by decide) hlo))
    (ne_of_lt (Nat.lt_of_lt_of_le hhi (by decide)))]
  refine s.unparked_induct m (P := fun a => a.word o = s.word o) (fun a t ha => ?_) rfl
  have hoff : o ≠ (Reg.BUS.T.STAT.PARKED t).off := by simp only [Reg.BUS.T.STAT.PARKED]; omega
  exact (State.word_wr_other _ _ _ hoff).trans ha

end

section
variable {s : State} {m : Nat} (hm : m < 14)

/-- A transaction of a reset master: its response is discarded, and a write writes nothing more (R742, R743). -/
def BusTxn.cutFor (m : Nat) (x : BusTxn) : BusTxn :=
  if x.master = m then { x with dead := true, strobes := x.strobes.map fun _ => false } else x

theorem BusTxn.cutFor_of_other {x : BusTxn} (h : x.master ≠ m) : x.cutFor m = x := if_neg h

@[simp] theorem BusTxn.master_cutFor (x : BusTxn) : (x.cutFor m).master = x.master := by
  unfold BusTxn.cutFor
  split <;> rfl

theorem BusTxn.cutFor_of_own {x : BusTxn} (h : x.master = m) :
    (x.cutFor m).dead = true ∧ true ∉ (x.cutFor m).strobes := by
  simp [BusTxn.cutFor, h]

/-- The matrix as a reset of a master leaves it (R742, R743), but for the counts of its closing port. -/
def State.busCut (m : Nat) (s : State) (closing : Tbl (Nat × Nat)) : BusS :=
  { s.bus with
    queue := s.bus.queue.filter fun x => x.master != m
    granted := s.bus.granted.map (BusTxn.cutFor m)
    gens := mapSet s.bus.gens m (s.busGen m + 1)
    closing := closing }

/-- The state in which a reset master's transactions are cut and its port is closing while responses are out. -/
def State.masterCut (m : Nat) (s : State) (closing : Tbl (Nat × Nat)) : State :=
  (((({ s with bus := s.busCut m closing } : State).count (Reg.BUS.M.STAT.RESETS m)).put (Reg.BUS.M.STAT.CLOSING m)
    (!(s.bus.granted.filter fun x => x.master == m).isEmpty)).showOutst m)

theorem State.on_setBus (s : State) (b : BusS) (f : Fld) : ({ s with bus := b } : State).on f = s.on f := rfl

theorem State.masterCut_bus (closing : Tbl (Nat × Nat)) : (s.masterCut m closing).bus = s.busCut m closing := rfl

theorem State.on_closing_masterCut (closing : Tbl (Nat × Nat)) : (s.masterCut m closing).on (Reg.BUS.M.STAT.CLOSING m) =
    s.bus.granted.any fun x => x.master == m := by
  have hany : (!(s.bus.granted.filter fun x => x.master == m).isEmpty) = s.bus.granted.any fun x => x.master == m := by
    induction s.bus.granted with
    | nil => rfl
    | cons x l ih =>
      cases h : x.master == m
      · simpa [h] using ih
      · simp [h]
  unfold State.masterCut State.showOutst State.wrSat
  rw [State.on_wr_apart _ _ _ _ rfl rfl (by simp [Fld.apart, Reg.BUS.M.STAT.OUTST, Reg.BUS.M.STAT.CLOSING]),
    State.rd_put_same _ _ _ rfl rfl, hany]

include hm in
/-- A master's reset cuts its transactions; a port that waits for no response is then closed (R744). -/
theorem doMasterReset_cases : ∃ c u, u.bus = s.busCut m c ∧
    u.on (Reg.BUS.M.STAT.CLOSING m) = (s.bus.granted.any fun x => x.master == m) ∧
    (doMasterReset m s = u ∨ ∃ wr rds, doMasterReset m s = u.portClosed m wr rds) := by
  obtain ⟨out, hout⟩ : ∃ out, doMasterReset m s = out := ⟨_, rfl⟩
  rw [hout]
  unfold doMasterReset at hout
  rw [if_neg (by omega)] at hout
  extract_lets b held asked mine cut wr rds s1 s2 at hout
  have hs2 : s2 = s.masterCut m s1.bus.closing := rfl
  have hbus : s2.bus = s.busCut m s1.bus.closing := by rw [hs2, State.masterCut_bus]
  have hon := State.on_closing_masterCut (s := s) (m := m) s1.bus.closing
  rw [← hs2] at hon
  clear_value s2
  split at hout
  · have hcut : { s2.bus with closing := mapErase b.closing m } = s.busCut m (mapErase b.closing m) := by rw [hbus]; rfl
    exact ⟨_, { s2 with bus := { s2.bus with closing := mapErase b.closing m } }, hcut,
      (State.on_setBus s2 _ _).trans hon, .inr ⟨_, _, hout.symm⟩⟩
  · split at hout
    · exact ⟨_, s2, hbus, hon, .inr ⟨_, _, hout.symm⟩⟩
    · exact ⟨_, s2, hbus, hon, .inl hout.symm⟩

include hm in
theorem doMasterReset_bus : ∃ closing, (doMasterReset m s).bus = s.busCut m closing := by
  obtain ⟨c, u, hbus, -, h | ⟨wr, rds, h⟩⟩ := doMasterReset_cases (s := s) hm <;> rw [h]
  · exact ⟨c, hbus⟩
  · exact ⟨c, (u.portClosed_bus m wr rds).trans hbus⟩

include hm in
theorem on_closing_doMasterReset :
    (doMasterReset m s).on (Reg.BUS.M.STAT.CLOSING m) = s.bus.granted.any fun x => x.master == m := by
  have hlo : 0x150000 ≤ (Reg.BUS.M.STAT.CLOSING m).off := by simp only [Reg.BUS.M.STAT.CLOSING]; omega
  have hhi : (Reg.BUS.M.STAT.CLOSING m).off < 0x150200 := by simp only [Reg.BUS.M.STAT.CLOSING]; omega
  obtain ⟨c, u, -, hon, h | ⟨wr, rds, h⟩⟩ := doMasterReset_cases (s := s) hm <;> rw [h]
  · exact hon
  · rw [State.on, State.rd, State.word_portClosed _ _ _ _ hlo hhi]
    exact hon

end

theorem doPortClosed_of_answered {s : State} {m wr rds : Nat} (hm : m < 14)
    (hclosing : s.on (Reg.BUS.M.STAT.CLOSING m) = true)
    (hgranted : s.bus.granted.any (fun x => x.master == m) = false)
    (hcounts : mapGetD s.bus.closing m (0, 0) = (wr, rds)) :
    doPortClosed m s = (({ s with bus := { s.bus with closing := mapErase s.bus.closing m } } : State).put
      (Reg.BUS.M.STAT.CLOSING m) false).portClosed m wr rds := by
  unfold doPortClosed
  rw [if_neg (by simp [hclosing, hgranted]; omega), hcounts]

/-- Settles O40: each command of the bus matrix, by the case that the statement names. -/
theorem fabricRowsTakeEffect : Obligations.FabricRowsTakeEffect := by
  unfold Obligations.FabricRowsTakeEffect
  refine ⟨?path, ?noPath, ?grant, ?write, ?read, ?error, ?noEcc, ?ecc, ?timeout, ?reset, ?closed⟩
  case path =>
    intro r n a t s hn ha hmaster hpos hbeats haddr hopen hout htarget
    rw [exec_busRequest, doBusRequest_of_path hmaster hpos hbeats haddr hopen hout hn ha htarget]
  case noPath =>
    intro r n a s hn ha hmaster hpos hbeats haddr hopen hout htarget
    rw [exec_busRequest, doBusRequest_of_no_path hmaster hpos hbeats haddr hopen hout hn ha htarget]
  case grant =>
    intro t w x s ht hgrants hx
    rw [exec_targetGrant, doGrant_of_arbitrate ht hgrants hx]
  case write =>
    intro t fl x s hx hup hw
    rw [exec_targetResponse, doResponse_of_write hx hup hw]
  case read =>
    intro t fl x s hx hdram hw
    rw [exec_targetResponse, doResponse_of_read hx hdram hw]
  case error =>
    intro t fl x s hx
    rw [exec_targetResponse, doResponse_of_error hx]
  case noEcc =>
    intro t fl x s hx hdram hup hw hecc
    rw [exec_targetResponse, doResponse_of_read_without_ecc hx hdram hup hw hecc]
  case ecc =>
    intro t fl x s hx hdram hup hw hecc
    refine ⟨fun hfail => ?_, fun b hfail => ?_⟩
    · rw [exec_targetResponse, doResponse_of_read_corrected hx hdram hup hw hecc hfail]
    · rw [exec_targetResponse, doResponse_of_read_failed hx hdram hup hw hecc hfail]
  case timeout =>
    intro t x s hrun hx
    rw [exec_targetResponseTimeout, doRespTimeout_of_overdue hrun hx]
  case reset =>
    intro m s hm
    obtain ⟨closing, hbus⟩ := doMasterReset_bus (s := s) hm
    refine ⟨_, exec_masterReset m s, ?_, ?_, ?_, on_closing_doMasterReset hm, ?_, ?_⟩
    · rw [hbus]; rfl
    · rw [hbus]; rfl
    · rw [State.busGen, hbus]
      exact mapGetD_mapSet_same ..
    · intro x hx hown
      rw [hbus] at hx
      obtain ⟨y, -, rfl⟩ := List.mem_map.1 hx
      exact BusTxn.cutFor_of_own (by simpa using hown)
    · intro x hother
      rw [hbus]
      refine List.mem_map.trans ⟨?_, fun hx => ⟨x, hx, BusTxn.cutFor_of_other hother⟩⟩
      rintro ⟨y, hy, rfl⟩
      rwa [BusTxn.cutFor_of_other (by simpa using hother)]
  case closed =>
    rintro m wr rds s u hm hclosing hgranted hcounts rfl
    rw [exec_masterPortClosed, doPortClosed_of_answered hm hclosing hgranted hcounts]
    rfl

end Sys2Proof.Machine
end

section
/-! The memory controller (R746 to R776): training, drift tracking, retraining and frequency changes, refresh, retries
and scrubbing, each by the case in which it acts. -/
namespace Sys2Proof.Machine

theorem exec_dramTrainingEnd (lanes : List TrainLane) (s : State) :
    exec (.dramTrainingEnd lanes) s = .next (doTrainingEnd lanes s) := rfl

theorem exec_trackingBurst (c : Nat) (l0 l1 : TrackLane) (s : State) :
    exec (.trackingBurst c l0 l1) s = .next (doTracking c l0 l1 s) := rfl

theorem exec_dramFullRetrain (d : Desc) (s : State) :
    exec (.dramFullRetrain d) s = .next (hostCmd 0x61 roleE d (dramRetrainRes d) s) := rfl

theorem exec_dramRetrainComplete (lanes : List TrainLane) (s : State) :
    exec (.dramRetrainComplete lanes) s = .next (doRetrainComplete lanes s) := rfl

theorem exec_dramFrequencyChange (d : Desc) (s : State) :
    exec (.dramFrequencyChange d) s = .next (hostCmd 0x61 roleE d (dramRetrainRes d) s) := rfl

theorem exec_frequencyChange (s : State) : exec .frequencyChange s = .next (doFreqChange s) := rfl

theorem exec_frequencyChangeTimeout (s : State) : exec .frequencyChangeTimeout s = .next (doFreqTimeout s) := rfl

theorem exec_refreshDue (c r : Nat) (s : State) : exec (.refreshDue c r) s = .next (doRefreshDue c r s) := rfl

theorem exec_refreshPayback (k : Nat) (s : State) : exec (.refreshPayback k) s = .next (doPayback k s) := rfl

theorem exec_retryDataArrival (fl : List (Nat × Nat)) (s : State) :
    exec (.retryDataArrival fl) s = .next (doRetry fl s) := rfl

theorem exec_eccWriteback (b : Nat) (s : State) : exec (.eccWriteback b) s = .next (doWriteback b s) := rfl

theorem exec_patrolScrub (b : Nat) (fl : List (Nat × Nat)) (s : State) :
    exec (.patrolScrub b fl) s = .next (doScrub b fl s) := rfl

/-! ### Training and drift tracking (R751 to R757) -/

theorem doTrainingEnd_of_training {lanes : List TrainLane} {s u : State} (hstate : s.rd Reg.DRAM.STAT.STATE = 1)
    (hu : u = { s with dram := { s.dram with ecc := s.on Reg.DRAM.CFG.ECC } }) :
    doTrainingEnd lanes s = (u.wr Reg.DRAM.SIZE.USABLE u.dramMib).trained lanes := by
  subst hu
  unfold doTrainingEnd
  rw [if_neg (by simp [hstate])]

section
variable {s : State} {c : Nat} {l0 l1 : TrackLane}

/-- The smaller margin of a channel's two byte lanes in a burst (R757). -/
def State.trackLow (s : State) (c : Nat) (l0 l1 : TrackLane) : Nat := min (s.trackMargin c 0 l0) (s.trackMargin c 1 l1)

/-- The state after a burst has moved both byte lanes and is counted, before its margin is judged (R755, R756). -/
def State.tracked (s : State) (c : Nat) (l0 l1 : TrackLane) : State :=
  let v := (s.trackLane c 0 l0).trackLane c 1 l1
  ((({ v with dram := { v.dram with
      lastTrk := mapSet v.dram.lastTrk c s.run, owed := v.dram.owed.filter fun x => x != c } } : State).showLanes c).wrSat
    (Reg.DRAM.CH.TRK.MARGIN c)
    (min (if s.rd (Reg.DRAM.CH.TRK.BURSTS c) = 0 then 255 else s.rd (Reg.DRAM.CH.TRK.MARGIN c)) (s.trackLow c l0 l1))).count
    (Reg.DRAM.CH.TRK.BURSTS c)

/-- A tracking burst judges the margin: 4 or less marks the channel, 8 or more clears the mark (R757). -/
theorem doTracking_of_due (hc : c < 8) (hen : s.on Reg.DRAM.TRK.EN = true) (hstate : s.rd Reg.DRAM.STAT.STATE = 2)
    (hretrain : s.on Reg.DRAM.STAT.RETRAIN = false) (hstandby : s.inStandby = false) (hdue : s.trackDue c = true)
    (hslack : 2000 ≤ (s.slackNow (c / 2)).2) :
    doTracking c l0 l1 s =
      let entry := le 1 c ++ le 1 (if s.trackMargin c 0 l0 ≤ s.trackMargin c 1 l1 then 0 else 1) ++
        le 1 (s.trackLow c l0 l1)
      if s.trackLow c l0 l1 ≤ 4 then
        if s.on (Reg.DRAM.CH.STAT.MARGINAL c) then s.tracked c l0 l1
        else ((s.tracked c l0 l1).put (Reg.DRAM.CH.STAT.MARGINAL c) true).log 0x0502 entry
      else if 8 ≤ s.trackLow c l0 l1 && s.on (Reg.DRAM.CH.STAT.MARGINAL c) then
        ((s.tracked c l0 l1).put (Reg.DRAM.CH.STAT.MARGINAL c) false).log 0x0502 entry
      else s.tracked c l0 l1 := by
  have hready : ¬ (8 ≤ c || !s.on Reg.DRAM.TRK.EN || s.rd Reg.DRAM.STAT.STATE ≠ 2 || s.on Reg.DRAM.STAT.RETRAIN ||
      s.inStandby || !s.trackDue c || decide ((s.slackNow (c / 2)).2 < 2000)) = true := by
    simp [hen, hstate, hretrain, hstandby, hdue]
    omega
  unfold doTracking
  rw [if_neg hready]
  rfl

end

/-! ### Retraining and frequency changes (R758 to R761) -/

section
variable {s : State} {d : Desc}

theorem dramRetrainRes_of_quiesce (h0 : d.a0 = 0) (hstandby : s.inStandby = false) (hquiet : s.quiesce = true)
    (hretrain : s.on Reg.DRAM.STAT.RETRAIN = false) (hbusy : s.on Reg.DRAM.STAT.FREQBUSY = false) :
    dramRetrainRes d s =
      longRes (({ s with dram := { s.dram with retrainAt := s.run } } : State).put Reg.DRAM.STAT.RETRAIN true) := by
  simp [dramRetrainRes, h0, hstandby, hquiet, hretrain, hbusy]

theorem dramRetrainRes_of_other_set {n : Nat} (h0 : d.a0 = n + 1) (hn : n < 2) (hstandby : s.inStandby = false)
    (htrained : s.setTrained n = true) (hrate : ∀ p, s.plan.image = some p → p.minRate ≤ s.setRate n)
    (hset : s.rd Reg.DRAM.STAT.SET ≠ n) (hbusy : s.on Reg.DRAM.STAT.FREQBUSY = false)
    (hretrain : s.on Reg.DRAM.STAT.RETRAIN = false) :
    dramRetrainRes d s =
      longRes (({ s with dram := { s.dram with freq := some (n, d.readAt + 100000000) } } : State).put
        Reg.DRAM.STAT.FREQBUSY true) := by
  have hform : ¬ 2 < d.a0 := by omega
  have hset' : d.a0 ≠ 0 := by omega
  have hpred : d.a0 - 1 = n := by omega
  have hlow : (match s.plan.image with | some p => decide (s.setRate n < p.minRate) | none => false) = false := by
    cases himage : s.plan.image with
    | none => rfl
    | some p => simpa using hrate p himage
  unfold dramRetrainRes
  rw [if_neg hform, if_neg (by simp [hstandby]), if_neg hset', hpred]
  dsimp only
  rw [if_neg (by simp [htrained]; exact hlow), if_neg hset, if_neg (by simp [hbusy, hretrain])]

theorem doRetrainComplete_of_retrain {lanes : List TrainLane} {u : State} (hretrain : s.on Reg.DRAM.STAT.RETRAIN = true)
    (hu : u = (s.resumePorts.put Reg.DRAM.STAT.RETRAIN false).trained lanes) :
    doRetrainComplete lanes s = (u.log 0x0508
      (le 1 ((List.range 8).map fun c => if u.chPass 0 c then 2 ^ c else 0).sum ++
        le 1 ((List.range 8).map fun c => if u.chPass 1 c then 2 ^ c else 0).sum)).finishOp 0x61 stOk := by
  unfold doRetrainComplete
  rw [if_neg (by simp [hretrain]), ← hu]

variable {n dl : Nat}

theorem doFreqChange_of_slack (hfreq : s.dram.freq = some (n, dl)) (hslack : s.slackOk = true) (hrun : s.run < dl) :
    doFreqChange s = (s.switchSet n).finishOp 0x61 stOk := by
  simp [doFreqChange, hfreq, hslack, hrun]

theorem doFreqTimeout_of_late (hfreq : s.dram.freq = some (n, dl)) (hrun : dl ≤ s.run) :
    doFreqTimeout s =
      (({ s with dram := { s.dram with freq := none } } : State).put Reg.DRAM.STAT.FREQBUSY false).finishOp
        0x61 stDeferred := by
  simp [doFreqTimeout, hfreq, Nat.not_lt.2 hrun]

end

/-! ### Refresh (R764, R765) -/

section
variable {s : State} {c r k n : Nat}

theorem doRefreshDue_of_no_wait (h : s.rankWaits (c * (s.rd Reg.DRAM.CFG.RANKS + 1) + r) = false) :
    doRefreshDue c r s = s := by
  simp [doRefreshDue, h]

theorem doPayback_of_no_wait (hwaits : s.rankWaits k = false) (hpost : mapGet s.dram.post k = some n) :
    doPayback k s = ({ s with dram := { s.dram with
      post := mapErase s.dram.post k, postLog := s.dram.postLog ++ [(s.run, n)] } } : State).showPost := by
  simp [doPayback, hwaits, hpost]

variable (hc : c < 8) (hr : r ≤ s.rd Reg.DRAM.CFG.RANKS) (hk : k = c * (s.rd Reg.DRAM.CFG.RANKS + 1) + r)
  (hwaits : s.rankWaits k = true)
include hc hr hk hwaits

theorem doRefreshDue_of_room (hn : n = mapGetD s.dram.post k 0) (hroom : n < 8) :
    doRefreshDue c r s = ({ s with dram := { s.dram with
      post := mapSet s.dram.post k (n + 1), postLog := s.dram.postLog ++ [(s.run, n + 1)] } } : State).showPost := by
  subst hk hn
  have hpresent : ¬ (8 ≤ c || decide (s.rd Reg.DRAM.CFG.RANKS < r) ||
      !s.rankWaits (c * (s.rd Reg.DRAM.CFG.RANKS + 1) + r)) = true := by simp [hwaits]; omega
  unfold doRefreshDue
  rw [if_neg hpresent, if_neg (by omega)]

theorem doRefreshDue_of_full (hfull : 8 ≤ mapGetD s.dram.post k 0) :
    doRefreshDue c r s = s.count Reg.DRAM.REF.FORCED := by
  subst hk
  have hpresent : ¬ (8 ≤ c || decide (s.rd Reg.DRAM.CFG.RANKS < r) ||
      !s.rankWaits (c * (s.rd Reg.DRAM.CFG.RANKS + 1) + r)) = true := by simp [hwaits]; omega
  unfold doRefreshDue
  rw [if_neg hpresent, if_pos hfull]

end

/-! ### Retries and scrubbing (R771 to R776) -/

section
variable {s u : State} {r : RetryS} {x : BusTxn} {rest : List RetryS} {fl : List (Nat × Nat)} {b k : Nat}

theorem State.rd_setDram (s : State) (d : DramS) (f : Fld) : ({ s with dram := d } : State).rd f = s.rd f := rfl

section
variable (hr : s.dram.retries = r :: rest) (hx : r.txn = some x)
include hr hx

theorem doRetry_of_good (htime : s.run ≤ r.at_ + 1000) (hlate : r.late = none)
    (hgood : failedBlock x.addr x.len fl = none)
    (hu : u = (({ s with dram := { s.dram with retries := rest } } : State).writeBacks
      (correctedBlocks x.addr x.len fl)).count Reg.DRAM.ECCCNT.RETRYOK) :
    doRetry fl s = (u.performRead x.master x.target x.addr x.len).sendBack x
      (s.readBytes x.master x.target x.addr x.len) false none := by
  subst hu
  simp [doRetry, hr, hx, hlate, hgood, htime]

theorem doRetry_of_failed (hlate : r.late = none) (hfail : failedBlock x.addr x.len fl = some b)
    (hu : u = { s with dram := { s.dram with retries := rest } }) :
    doRetry fl s = (u.uncorrectable r.block x.master).sendBack x (List.replicate x.len 0) true
      (some (s.rd Reg.STORE.SILT.HEAD)) := by
  subst hu
  simp [doRetry, hr, hx, hlate, hfail, State.rd_setDram]

theorem doRetry_of_late_failed (hlate : r.late = some k) (htold : r.told = false)
    (hfail : failedBlock x.addr x.len fl = some b)
    (hu : u = (({ s with dram := { s.dram with retries := rest } } : State).noteUe r.block).count Reg.DRAM.ECCLATE.LATE) :
    doRetry fl s = (u.hold 0x0505 (lateEntry x.master k 0)).retireTxn x := by
  subst hu
  simp [doRetry, hr, hx, hlate, hfail, htold]

end

section
variable (hdram : (s.targetAt (b / 64 * 64)).any isDram = true) (hecc : s.dram.ecc = true)
  (hstate : s.rd Reg.DRAM.STAT.STATE = 2) (hretrain : s.on Reg.DRAM.STAT.RETRAIN = false)
include hdram hecc hstate hretrain

theorem doScrub_of_good (hgood : failedBlock (b / 64 * 64) 64 fl = none) :
    doScrub b fl s = (s.countIf (!(correctedBlocks (b / 64 * 64) 64 fl).isEmpty) Reg.DRAM.ECCCNT.CE).writeBacks
      (correctedBlocks (b / 64 * 64) 64 fl) := by
  simp [doScrub, hdram, hecc, hstate, hretrain, hgood]

theorem doScrub_of_failed (hfail : (failedBlock (b / 64 * 64) 64 fl).isSome = true) :
    doScrub b fl s = { s with dram := { s.dram with
      retries := s.dram.retries ++ [{ txn := none, block := b / 64 * 64, at_ := s.run }] } } := by
  obtain ⟨e, he⟩ := Option.isSome_iff_exists.1 hfail
  simp [doScrub, hdram, hecc, hstate, hretrain, he]

end
end

/-- Settles O41: each command of the memory controller, by the case that the statement names. -/
theorem dramRowsTakeEffect : Obligations.DramRowsTakeEffect := by
  unfold Obligations.DramRowsTakeEffect
  refine ⟨?trained, ?tracked, ?retrain, ?retrained, ?freq, ?switched, ?deferred, ?postponed, ?forced, ?noWait, ?paid,
    ?retryOk, ?retryBad, ?retryLate, ?writeback, ?scrub⟩
  case trained =>
    intro lanes s u hstate hu
    rw [exec_dramTrainingEnd, doTrainingEnd_of_training hstate hu]
  case tracked =>
    rintro c low m0 m1 l0 l1 s v u hc hen hstate hretrain hstandby hdue hslack rfl rfl rfl hlow hu
    obtain rfl : low = s.trackLow c l0 l1 := hlow
    obtain rfl : u = s.tracked c l0 l1 := hu
    rw [exec_trackingBurst, doTracking_of_due hc hen hstate hretrain hstandby hdue hslack]
    dsimp only
    refine ⟨?_, ?_⟩
    · rintro (⟨hlow, hmarked⟩ | ⟨hlo, hhi⟩ | ⟨hhigh, hclear⟩)
      · rw [if_pos hlow, if_pos hmarked]
      · rw [if_neg (by omega), if_neg (by simp; omega)]
      · rw [if_neg (by omega), if_neg (by simp [hclear])]
    · rintro (⟨hlow, hclear⟩ | ⟨hhigh, hmarked⟩)
      · rw [if_pos hlow, if_neg (by simp [hclear]), decide_eq_true hlow]
      · rw [if_neg (by omega), if_pos (by simp [hhigh, hmarked]), decide_eq_false (by omega)]
  case retrain =>
    rintro d s u hadm rfl h0 hstandby hquiet hretrain hbusy
    rw [exec_dramFullRetrain, hostCmd_long hadm (dramRetrainRes_of_quiesce h0 hstandby hquiet hretrain hbusy)]
  case retrained =>
    intro lanes s u hretrain hu
    rw [exec_dramRetrainComplete, doRetrainComplete_of_retrain hretrain hu]
  case freq =>
    rintro d n s u hadm rfl h0 hn hstandby htrained hrate hset hbusy hretrain
    rw [exec_dramFrequencyChange,
      hostCmd_long hadm (dramRetrainRes_of_other_set h0 hn hstandby htrained hrate hset hbusy hretrain)]
  case switched =>
    intro n dl s hfreq hslack hrun
    rw [exec_frequencyChange, doFreqChange_of_slack hfreq hslack hrun]
  case deferred =>
    intro n dl s hfreq hrun
    rw [exec_frequencyChangeTimeout, doFreqTimeout_of_late hfreq hrun]
  case postponed =>
    intro c r k n s hc hr hk hwaits hn hroom
    rw [exec_refreshDue, doRefreshDue_of_room hc hr hk hwaits hn hroom]
  case forced =>
    intro c r k s hc hr hk hwaits hfull
    rw [exec_refreshDue, doRefreshDue_of_full hc hr hk hwaits hfull]
  case noWait =>
    intro c r s hwaits
    rw [exec_refreshDue, doRefreshDue_of_no_wait hwaits]
  case paid =>
    intro k n s hwaits hpost
    rw [exec_refreshPayback, doPayback_of_no_wait hwaits hpost]
  case retryOk =>
    intro r x rest fl s u hr hx htime hlate hdead hgen hgood hu
    rw [exec_retryDataArrival, doRetry_of_good hr hx htime hlate hgood hu]
  case retryBad =>
    intro r x b rest fl s u hr hx hlate hdead hgen hfail hu
    rw [exec_retryDataArrival, doRetry_of_failed hr hx hlate hfail hu]
  case retryLate =>
    intro r x b k rest fl s u hr hx hlate htold hfail hu
    rw [exec_retryDataArrival, doRetry_of_late_failed hr hx hlate htold hfail hu]
  case writeback =>
    intro b s
    rw [exec_eccWriteback]
    rfl
  case scrub =>
    intro b fl s hdram hecc hstate hretrain
    refine ⟨fun hgood => ?_, fun hfail => ?_⟩
    · rw [exec_patrolScrub, doScrub_of_good hdram hecc hstate hretrain hgood]
    · rw [exec_patrolScrub, doScrub_of_failed hdram hecc hstate hretrain hfail]

end Sys2Proof.Machine
end

section
/-! The frame of the fabric: what the fabric memories hold and which refreshes are postponed is left alone by every
function of the model but the writes at a target, the refresh commands, a change of the timing set and the package
resets. One rule per function says so, in the order of the model; each rests on the rules of the functions that it calls.
Where `simp` is told not to leave steps to definitional unfolding, the kernel would else compare whole states. -/
namespace Sys2Proof.Machine

/-- What the fabric memories hold, and the refreshes that each rank has postponed. -/
def State.fabric (s : State) : List Host.Cell × Tbl Nat := (s.bus.mem, s.dram.post)

section
variable (s t : State)

@[simp] theorem State.fabric_mk (pending free regs latches silt time epoch ports evins starts ref host routes params
    gains txn plan eng guard ouv strm net store sec pwr bus dram dma dsp0 dsp1 old past meters caps sap skimIn modCh modG
    muteRise modFade tilCh tilG lanes dramLines : _) :
    State.fabric ⟨pending, free, regs, latches, silt, time, epoch, ports, evins, starts, ref, host, routes, params,
      gains, txn, plan, eng, guard, ouv, strm, net, store, sec, pwr, bus, dram, dma, dsp0, dsp1, old, past, meters, caps,
      sap, skimIn, modCh, modG, muteRise, modFade, tilCh, tilG, lanes, dramLines⟩ = (bus.mem, dram.post) := (rfl)

@[simp] theorem State.mk_mem_post : (s.bus.mem, s.dram.post) = s.fabric := (rfl)

@[simp] theorem State.fabric_ite (c : Prop) [Decidable c] :
    (if c then s else t).fabric = if c then s.fabric else t.fabric :=
  apply_ite State.fabric c s t

@[simp] theorem Res.st_ite (c : Prop) [Decidable c] (x y : Res) : (if c then x else y).st = if c then x.st else y.st :=
  apply_ite Res.st c x y

end

/-- The fabric in the state of a result. -/
def Res.fabric (x : Res) : List Host.Cell × Tbl Nat := x.st.fabric

theorem Res.fabric_ite {c : Prop} [Decidable c] {x y : Res} {s : State} (hx : x.fabric = s.fabric)
    (hy : y.fabric = s.fabric) : (if c then x else y).fabric = s.fabric := by
  split <;> assumption

section
variable {α β : Type} (l : List α)

@[simp] theorem State.fabric_foldl {f : State → α → State} (s : State) (h : ∀ a x, (f a x).fabric = a.fabric) :
    (l.foldl f s).fabric = s.fabric := by
  induction l generalizing s with
  | nil => rfl
  | cons x l ih => rw [List.foldl_cons, ih, h]

@[simp] theorem State.fabric_foldl_fst {f : State × β → α → State × β} (p : State × β)
    (h : ∀ a x, (f a x).1.fabric = a.1.fabric) : (l.foldl f p).1.fabric = p.1.fabric := by
  induction l generalizing p with
  | nil => rfl
  | cons x l ih => rw [List.foldl_cons, ih, h]

@[simp] theorem State.fabric_foldl_snd {f : β × State → α → β × State} (p : β × State)
    (h : ∀ a x, (f a x).2.fabric = a.2.fabric) : (l.foldl f p).2.fabric = p.2.fabric := by
  induction l generalizing p with
  | nil => rfl
  | cons x l ih => rw [List.foldl_cons, ih, h]

end

/-! ### Registers, events, the log and time -/

section
variable (s : State)

@[simp] theorem State.fabric_setWord (off : Nat) (w : Word) : (s.setWord off w).fabric = s.fabric := by
  simp [State.setWord]

@[simp] theorem State.fabric_wr (f : Fld) (v : Nat) : (s.wr f v).fabric = s.fabric := by simp [State.wr]
@[simp] theorem State.fabric_put (f : Fld) (b : Bool) : (s.put f b).fabric = s.fabric := by simp [State.put]
@[simp] theorem State.fabric_wrInt (f : Fld) (v : Int) : (s.wrInt f v).fabric = s.fabric := by simp [State.wrInt]
@[simp] theorem State.fabric_wrSat (f : Fld) (v : Nat) : (s.wrSat f v).fabric = s.fabric := by simp [State.wrSat]
@[simp] theorem State.fabric_count (f : Fld) (n : Nat) : (s.count f n).fabric = s.fabric := by simp [State.count]

@[simp] theorem State.fabric_countIf (b : Bool) (f : Fld) : (s.countIf b f).fabric = s.fabric := by
  simp [State.countIf]

@[simp] theorem State.fabric_violate (q : Requester) : (s.violate q).fabric = s.fabric := by simp [State.violate]
@[simp] theorem State.fabric_fresh : s.fresh.2.fabric = s.fabric := by simp [State.fresh]
@[simp] theorem State.fabric_reach (ns : Nat) : (s.reach ns).fabric = s.fabric := by simp [State.reach]
@[simp] theorem State.fabric_planStart : s.planStart.fabric = s.fabric := by simp [State.planStart]
@[simp] theorem State.fabric_writeEvt (e : Evt) : (s.writeEvt e).fabric = s.fabric := by simp [State.writeEvt]

@[simp] theorem State.fabric_post (typ : Nat) (payload : List Byte) : (s.post typ payload).fabric = s.fabric := by
  simp [State.post]

@[simp] theorem fabric_drainFrom (l : List Evt) : (drainFrom l s).fabric = s.fabric := by
  induction l generalizing s with
  | nil => simp [drainFrom]
  | cons e l ih => simp [drainFrom, ih]

@[simp] theorem fabric_postEdges (n i : Nat) : (postEdges n i s).fabric = s.fabric := by
  induction n generalizing s with
  | zero => rfl
  | succ n ih =>
    unfold postEdges
    dsimp only
    split <;> simp [ih]

@[simp] theorem State.fabric_postInputs : s.postInputs.fabric = s.fabric := by simp [State.postInputs]
@[simp] theorem State.fabric_drainEvents : s.drainEvents.fabric = s.fabric := by simp [State.drainEvents]

@[simp] theorem State.fabric_siltWrite (code : Nat) (data : List Byte) (cite : Option Nat) :
    (s.siltWrite code data cite).fabric = s.fabric := by
  simp [State.siltWrite]

@[simp] theorem State.fabric_log (code : Nat) (data : List Byte) (cite : Option Nat) :
    (s.log code data cite).fabric = s.fabric := by
  simp [State.log]

end

/-! ### The bus matrix -/

section
variable (s : State)

@[simp] theorem State.fabric_showOutst (m : Nat) : (s.showOutst m).fabric = s.fabric := by simp [State.showOutst]
@[simp] theorem State.fabric_enqueue (t : BusTxn) : (s.enqueue t).fabric = s.fabric := by simp [State.enqueue]

@[simp] theorem State.fabric_respond (m : Nat) (r : BusResp) : (s.respond m r).fabric = s.fabric := by
  simp [State.respond]

@[simp] theorem fabric_doBusRequest (r : BusReq) : (doBusRequest r s).fabric = s.fabric := by
  unfold doBusRequest
  dsimp only
  (repeat' split) <;> simp

@[simp] theorem State.fabric_showPort (t : Nat) : (s.showPort t).fabric = s.fabric := by simp [State.showPort]

@[simp] theorem fabric_doGrant (t : Nat) (write : Bool) : (doGrant t write s).fabric = s.fabric := by
  unfold doGrant
  (repeat' split) <;> simp

@[simp] theorem State.fabric_retireTxn (x : BusTxn) : (s.retireTxn x).fabric = s.fabric := by simp [State.retireTxn]

@[simp] theorem State.fabric_advanceGen (m deadline : Nat) : (s.advanceGen m deadline).fabric = s.fabric := by
  simp [State.advanceGen]

@[simp] theorem State.fabric_tellLate : s.tellLate.fabric = s.fabric := by simp [State.tellLate]

@[simp] theorem State.fabric_portClosed (m wr rds : Nat) : (s.portClosed m wr rds).fabric = s.fabric := by
  simp [State.portClosed]

@[simp] theorem fabric_doMasterReset (m : Nat) : (doMasterReset m s).fabric = s.fabric := by simp [doMasterReset]
@[simp] theorem fabric_doPortClosed (m : Nat) : (doPortClosed m s).fabric = s.fabric := by simp [doPortClosed]

end

/-! ### The command protocol of the host rings -/

section
variable (s : State)

@[simp] theorem fabric_okRes (result resp : List Byte) : (okRes s result resp).st.fabric = s.fabric := by simp [okRes]

@[simp] theorem fabric_failRes (status : Nat) (result : List Byte) :
    (failRes s status result).st.fabric = s.fabric := by
  simp [failRes]

@[simp] theorem fabric_badDesc (off : Nat) : (badDesc s off).st.fabric = s.fabric := by simp [badDesc]
@[simp] theorem fabric_badBuf (off : Nat) : (badBuf s off).st.fabric = s.fabric := by simp [badBuf]
@[simp] theorem fabric_longRes : (longRes s).st.fabric = s.fabric := by simp [longRes]

@[simp] theorem State.fabric_setRing (r : Nat) (x : RingS) : (s.setRing r x).fabric = s.fabric := by
  simp [State.setRing]

@[simp] theorem State.fabric_showFull (r : Nat) : (s.showFull r).fabric = s.fabric := by simp [State.showFull]
@[simp] theorem State.fabric_start (op : Nat) (d : Desc) : (s.start op d).fabric = s.fabric := by simp [State.start]

@[simp] theorem State.fabric_writeCpl (r : Nat) (c : Cpl) (key resp : List Byte) (session : Nat) :
    (s.writeCpl r c key resp session).fabric = s.fabric := by
  simp [State.writeCpl]

@[simp] theorem State.fabric_emitCpl (r : Nat) (c : Cpl) (key resp : List Byte) (session : Nat) :
    (s.emitCpl r c key resp session).fabric = s.fabric := by
  simp [State.emitCpl]

@[simp] theorem State.fabric_finish (r status : Nat) (result resp : List Byte) :
    (s.finish r status result resp).fabric = s.fabric := by
  unfold State.finish
  split <;> simp

@[simp] theorem State.fabric_finishOp (op status : Nat) (result resp : List Byte) (p : Desc → Bool) :
    (s.finishOp op status result resp p).fabric = s.fabric := by
  unfold State.finishOp
  split <;> simp

@[simp] theorem State.fabric_noteSeq (d : Desc) : (s.noteSeq d).fabric = s.fabric := by
  unfold State.noteSeq
  (repeat' split) <;> simp

theorem fabric_permit_cases (op role : Nat) (d : Desc) (eff : State → Res) :
    (Res.permit s op role d eff).st.fabric = s.fabric ∨
      ∃ u : State, u.fabric = s.fabric ∧ Res.permit s op role d eff = eff u := by
  unfold Res.permit
  split
  · exact .inl (by simp)
  · split
    · exact .inl (by simp)
    · split
      · exact .inl (by simp)
      · dsimp only
        split
        · exact .inl (by simp)
        · exact .inr ⟨_, by simp, rfl⟩

@[simp] theorem fabric_permit (op role : Nat) (d : Desc) {eff : State → Res} (h : ∀ u, (eff u).st.fabric = u.fabric) :
    (Res.permit s op role d eff).st.fabric = s.fabric := by
  obtain hc | ⟨u, hu, hc⟩ := fabric_permit_cases s op role d eff
  · exact hc
  · exact (congrArg Res.fabric hc).trans ((h u).trans hu)

theorem State.fabric_settle_cases (d : Desc) (x : Res) :
    (s.settle d x).fabric = s.fabric ∨ (s.settle d x).fabric = x.st.fabric := by
  unfold State.settle
  split
  · exact .inr rfl
  · split
    · exact .inl (by simp)
    · exact .inr (by simp)

@[simp] theorem State.fabric_settle (d : Desc) {x : Res} (h : x.st.fabric = s.fabric) :
    (s.settle d x).fabric = s.fabric := by
  obtain hc | hc := s.fabric_settle_cases d x
  · exact hc
  · exact hc.trans h

@[simp] theorem fabric_pumpUnknown (n r : Nat) : (pumpUnknown n r s).fabric = s.fabric := by
  induction n generalizing s with
  | zero => rfl
  | succ n ih =>
    unfold pumpUnknown
    split <;> simp [ih]

theorem fabric_hostAct_cases (op role : Nat) (d : Desc) (eff : State → Res) :
    (hostAct op role d eff s).fabric = s.fabric ∨
      ∃ u : State, u.fabric = s.fabric ∧ (hostAct op role d eff s).fabric = (eff u).st.fabric := by
  unfold hostAct
  rw [fabric_pumpUnknown]
  have hstart : (s.start op d).fabric = s.fabric := by simp
  obtain h | h := (s.start op d).fabric_settle_cases d (Res.permit (s.start op d) op role d eff)
  · exact .inl (h.trans hstart)
  · obtain hp | ⟨u, hu, hp⟩ := fabric_permit_cases (s.start op d) op role d eff
    · exact .inl (h.trans (hp.trans hstart))
    · exact .inr ⟨u, hu.trans hstart, h.trans (by rw [hp])⟩

/-- A ring command leaves the fabric, or leaves it as its effect does on a state with the same fabric. -/
theorem fabric_hostCmd_cases (op role : Nat) (d : Desc) (eff : State → Res) :
    (hostCmd op role d eff s).fabric = s.fabric ∨
      ∃ u : State, u.fabric = s.fabric ∧ (hostCmd op role d eff s).fabric = (eff u).st.fabric := by
  unfold hostCmd
  split
  · exact fabric_hostAct_cases ..
  · dsimp only
    have hpump : (pumpUnknown 4 d.ring s).fabric = s.fabric := by simp
    split
    · simpa only [hpump] using fabric_hostAct_cases (pumpUnknown 4 d.ring s) op role d eff
    · exact .inl (by simp)

@[simp] theorem fabric_hostCmd (op role : Nat) (d : Desc) {eff : State → Res} (h : ∀ u, (eff u).st.fabric = u.fabric) :
    (hostCmd op role d eff s).fabric = s.fabric := by
  obtain hc | ⟨u, hu, hc⟩ := fabric_hostCmd_cases s op role d eff
  · exact hc
  · exact hc.trans ((h u).trans hu)

end

/-! ### The signal-flow graph -/

section
variable (s : State)

@[simp] theorem State.fabric_placeWords (pick : LaneSched → List (Nat × Nat)) (word : Nat → Option Word36) :
    (s.placeWords pick word).fabric = s.fabric := by
  simp [State.placeWords]

end

/-! ### The Ouvfel link -/

section
variable (s : State)

@[simp] theorem State.fabric_ouvSend (type flags : Nat) (payload : List Byte) :
    (s.ouvSend type flags payload).fabric = s.fabric := by
  simp [State.ouvSend]

@[simp] theorem State.fabric_sendConfig (l : Nat) (items : Tbl Nat) : (s.sendConfig l items).fabric = s.fabric := by
  simp [State.sendConfig]

end

/-! ### Reference slots and holdover -/

section
variable (s : State)

@[simp] theorem State.fabric_setSlot (i : Nat) (x : RefSlot) : (s.setSlot i x).fabric = s.fabric := by
  simp [State.setSlot]

@[simp] theorem State.fabric_setPort (p : Nat) (x : PtpPort) : (s.setPort p x).fabric = s.fabric := by
  simp [State.setPort]

@[simp] theorem State.fabric_putReason (i bit : Nat) (b : Bool) : (s.putReason i bit b).fabric = s.fabric := by
  simp [State.putReason]

@[simp] theorem State.fabric_setFreq (f : Int) : (s.setFreq f).fabric = s.fabric := by simp [State.setFreq]

@[simp] theorem State.fabric_discardMeasures (i : Nat) : (s.discardMeasures i).fabric = s.fabric := by
  simp [State.discardMeasures]

@[simp] theorem State.fabric_disqualify (i bit : Nat) : (s.disqualify i bit).fabric = s.fabric := by
  simp [State.disqualify]

@[simp] theorem State.fabric_judge (i : Nat) : (s.judge i).fabric = s.fabric := by simp [State.judge]
@[simp] theorem State.fabric_sourceTest (i : Nat) : (s.sourceTest i).fabric = s.fabric := by simp [State.sourceTest]

@[simp] theorem State.fabric_slotEnable (i : Nat) (on : Bool) : (s.slotEnable i on).fabric = s.fabric := by
  simp [State.slotEnable]

@[simp] theorem State.fabric_setTheta (th : Int) : (s.setTheta th).fabric = s.fabric := by simp [State.setTheta]
@[simp] theorem State.fabric_heard (i : Nat) : (s.heard i).fabric = s.fabric := by simp [State.heard]

@[simp] theorem State.fabric_measure (i : Nat) (th : Int) : (s.measure i th).fabric = s.fabric := by
  simp [State.measure]

@[simp] theorem fabric_doRefEdge (i e : Nat) : (doRefEdge i e s).fabric = s.fabric := by
  unfold doRefEdge
  dsimp only
  (repeat' split) <;> simp

@[simp] theorem fabric_doActivityLoss (i : Nat) : (doActivityLoss i s).fabric = s.fabric := by simp [doActivityLoss]

@[simp] theorem fabric_doGateEnd (i : Nat) (freq : Int) : (doGateEnd i freq s).fabric = s.fabric := by
  simp [doGateEnd]

@[simp] theorem fabric_doWtrEnd (i : Nat) : (doWtrEnd i s).fabric = s.fabric := by simp [doWtrEnd]

@[simp] theorem State.fabric_showHoldover (v : Int × Bool) : (s.showHoldover v).fabric = s.fabric := by
  simp [State.showHoldover]

@[simp] theorem fabric_doHistory : (doHistory s).fabric = s.fabric := by simp [doHistory]

@[simp] theorem State.fabric_clearEqualm (w : Nat) : (s.clearEqualm w).fabric = s.fabric := by
  simp [State.clearEqualm]

@[simp] theorem State.fabric_vote (set : List Nat) : (s.vote set).2.fabric = s.fabric := by
  unfold State.vote
  dsimp only
  (repeat' split) <;> simp

@[simp] theorem State.fabric_enterHoldover : s.enterHoldover.fabric = s.fabric := by simp [State.enterHoldover]
@[simp] theorem State.fabric_switchTo (w : Nat) : (s.switchTo w).fabric = s.fabric := by simp [State.switchTo]
@[simp] theorem State.fabric_unvote : s.unvote.fabric = s.fabric := by simp [State.unvote]

@[simp] theorem State.fabric_selectTick : s.selectTick.fabric = s.fabric := by
  unfold State.selectTick
  dsimp only
  split <;> simp

@[simp] theorem State.fabric_servoTick (theta : Option Int) : (s.servoTick theta).fabric = s.fabric := by
  unfold State.servoTick
  split <;> simp

@[simp] theorem State.fabric_sendTime : s.sendTime.fabric = s.fabric := by simp [State.sendTime]
@[simp] theorem State.fabric_discardFrame : s.discardFrame.fabric = s.fabric := by simp [State.discardFrame]

@[simp] theorem fabric_doTimeFrame (f : OuvFrame) (a2 : Nat) : (doTimeFrame f a2 s).fabric = s.fabric := by
  unfold doTimeFrame
  dsimp only
  (repeat' split) <;> simp

@[simp] theorem State.fabric_shiftLocal (d : Int) : (s.shiftLocal d).fabric = s.fabric := by simp [State.shiftLocal]

@[simp] theorem State.fabric_setOut (j : Nat) (x : ClkOut) : (s.setOut j x).fabric = s.fabric := by
  simp [State.setOut]

@[simp] theorem State.fabric_showOut (j : Nat) : (s.showOut j).fabric = s.fabric := by simp [State.showOut]
@[simp] theorem State.fabric_alignOut (j : Nat) : (s.alignOut j).fabric = s.fabric := by simp [State.alignOut]

@[simp] theorem State.fabric_outEnable (j : Nat) (on : Bool) : (s.outEnable j on).fabric = s.fabric := by
  simp [State.outEnable]

@[simp] theorem fabric_realignRes (d : Desc) : (realignRes d s).st.fabric = s.fabric := by simp [realignRes]

@[simp] theorem fabric_doRealign : (doRealign s).fabric = s.fabric := by
  unfold doRealign
  split <;> simp

@[simp] theorem fabric_refHistoryRes (d : Desc) : (refHistoryRes d s).st.fabric = s.fabric := by
  simp [refHistoryRes]

end

/-! ### Carriers of the modulators -/

section
variable (s : State)

@[simp] theorem State.fabric_setMg (g : Nat) (x : ModG) : (s.setMg g x).fabric = s.fabric := by simp [State.setMg]

@[simp] theorem State.fabric_chooseCarrier (g tick : Nat) : (s.chooseCarrier g tick).fabric = s.fabric := by
  unfold State.chooseCarrier
  dsimp only
  split <;> simp

@[simp] theorem State.fabric_launchCarriers (offs : List Nat) (l : Nat) :
    (s.launchCarriers offs l).fabric = s.fabric := by
  simp [State.launchCarriers]

end

/-! ### Transactions, collections and scenes -/

section
variable (s : State)

@[simp] theorem State.fabric_setLaunch (l : Nat) : (s.setLaunch l).fabric = s.fabric := by simp [State.setLaunch]

@[simp] theorem State.fabric_setItems (items : Tbl Nat) : (s.setItems items).fabric = s.fabric := by
  simp [State.setItems]

@[simp] theorem State.fabric_clearOpen : s.clearOpen.fabric = s.fabric := by simp [State.clearOpen]
@[simp] theorem State.fabric_clearLaunch : s.clearLaunch.fabric = s.fabric := by simp [State.clearLaunch]
@[simp] theorem State.fabric_takeNumber : s.takeNumber.2.fabric = s.fabric := by simp [State.takeNumber]

@[simp] theorem State.fabric_addOpen (k v : Nat) : (s.addOpen k v).2.fabric = s.fabric := by
  unfold State.addOpen
  split <;> simp

@[simp] theorem State.fabric_addCollect (k v : Nat) : (s.addCollect k v).2.fabric = s.fabric := by
  unfold State.addCollect
  split <;> simp

@[simp] theorem State.fabric_barItem (k v : Nat) : (s.barItem k v).fabric = s.fabric := by simp [State.barItem]

@[simp] theorem State.fabric_shItem (off : Nat) (value : Word) : (s.shItem off value).fabric = s.fabric := by
  simp [State.shItem]

@[simp] theorem State.fabric_routeLow (i : Nat) (value : Word) : (s.routeLow i value).fabric = s.fabric := by
  simp [State.routeLow]

@[simp] theorem State.fabric_routeHigh (i : Nat) (value : Word) : (s.routeHigh i value).fabric = s.fabric := by
  simp [State.routeHigh]

@[simp] theorem State.fabric_routeWide (i : Nat) (low value : Word) :
    (s.routeWide i low value).fabric = s.fabric := by
  simp [State.routeWide]

@[simp] theorem fabric_addItems {add : State → Nat → Nat → Bool × State} (l : List (List Byte)) (n : Nat)
    (h : ∀ (u : State) (k x : Nat), (add u k x).2.fabric = u.fabric) :
    (addItems add l n s).2.2.fabric = s.fabric := by
  induction l generalizing n s with
  | nil => rfl
  | cons b l ih =>
    unfold addItems
    dsimp only
    split
    · rfl
    · next k _ =>
      have hadd := h s k (itemOf b).value
      split
      · next s1 heq => rw [ih, ← hadd, heq]
      · next s1 heq => rw [← hadd, heq]

@[simp] theorem fabric_writeItemsRes (d : Desc) : (writeItemsRes d s).st.fabric = s.fabric := by simp [writeItemsRes]
@[simp] theorem fabric_txnBeginRes (d : Desc) : (txnBeginRes d s).st.fabric = s.fabric := by simp [txnBeginRes]

@[simp] theorem fabric_txnPrepareRes (d : Desc) : (txnPrepareRes d s).st.fabric = s.fabric := by
  unfold txnPrepareRes
  dsimp only
  (repeat' split) <;> simp

@[simp] theorem State.fabric_commitTo (id l x : Nat) (items : Tbl Nat) (fin : Tbl (Nat × Nat))
    (ring : Option Nat) (bare : List Nat) :
    (s.commitTo id l x items fin ring bare).fabric = s.fabric := by
  unfold State.commitTo
  extract_lets cross _ s1 s1' s2 s3 s4
  have h3 : s3.fabric = s.fabric := by simp [s3, s2, s1', s1]
  have h4 : s4.fabric = s.fabric := by simp [s4, h3]
  split
  · simp [↓State.fabric_mk, h4]
  · exact h3

@[simp] theorem fabric_txnCommitRes (d : Desc) : (txnCommitRes d s).st.fabric = s.fabric := by
  change Res.fabric _ = _
  unfold txnCommitRes
  refine Res.fabric_ite (fabric_failRes ..) <| Res.fabric_ite (fabric_failRes ..) <| Res.fabric_ite (fabric_failRes ..) <|
    Res.fabric_ite (fabric_badDesc ..) <| Res.fabric_ite (fabric_badDesc ..) ?_
  extract_lets
  refine Res.fabric_ite (fabric_badDesc ..) <| Res.fabric_ite (fabric_failRes ..) <| Res.fabric_ite
    ((fabric_okRes ..).trans (by simp)) <| Res.fabric_ite (fabric_failRes ..) ?_
  extract_lets
  refine Res.fabric_ite ((fabric_failRes ..).trans (State.fabric_count ..)) ?_
  split
  · exact (fabric_failRes ..).trans (State.fabric_wr ..)
  · exact (fabric_okRes ..).trans ((State.fabric_clearOpen ..).trans (State.fabric_commitTo ..))

@[simp] theorem fabric_txnRollbackRes (d : Desc) : (txnRollbackRes d s).st.fabric = s.fabric := by
  simp [txnRollbackRes]

@[simp] theorem State.fabric_discardOpen (cause : Nat) : (s.discardOpen cause).fabric = s.fabric := by
  simp [State.discardOpen]

@[simp] theorem State.fabric_discardLaunch : s.discardLaunch.fabric = s.fabric := by simp [State.discardLaunch]

@[simp] theorem State.fabric_setMute (i : Nat) (m : MuteS) : (s.setMute i m).fabric = s.fabric := by
  simp [State.setMute]

@[simp] theorem State.fabric_setSkim (i : Nat) (r : Ramp) : (s.setSkim i r).fabric = s.fabric := by
  simp [State.setSkim]

@[simp] theorem State.fabric_launchGains (v : View) (l : Nat) : (s.launchGains v l).fabric = s.fabric := by
  simp [State.launchGains]

@[simp] theorem State.fabric_launchMute (i l old new : Nat) : (s.launchMute i l old new).fabric = s.fabric := by
  simp [State.launchMute]

@[simp] theorem State.fabric_launchSkim (i l old new : Nat) : (s.launchSkim i l old new).fabric = s.fabric := by
  simp [State.launchSkim]

@[simp] theorem State.fabric_setRoute (i v : Nat) : (s.setRoute i v).fabric = s.fabric := by simp [State.setRoute]

@[simp] theorem State.fabric_launchRoute (v : View) (l i : Nat) : (s.launchRoute v l i).fabric = s.fabric := by
  simp [State.launchRoute]

@[simp] theorem State.fabric_launchWords (items : Tbl Nat) : (s.launchWords items).fabric = s.fabric := by
  unfold State.launchWords
  refine State.fabric_foldl _ _ fun a x => ?_
  dsimp only
  split <;> simp

@[simp] theorem State.fabric_launchGens (old : State) (items : Tbl Nat) (l : Nat) :
    (s.launchGens old items l).fabric = s.fabric := by
  simp [State.launchGens]

@[simp] theorem State.fabric_showRoutes : s.showRoutes.fabric = s.fabric := by simp [State.showRoutes]

@[simp] theorem State.fabric_launchKgains (old : State) (l : Nat) (offs : List Nat) :
    (s.launchKgains old l offs).fabric = s.fabric := by
  simp [State.launchKgains]

@[simp] theorem State.fabric_makeTopcoat (items : Tbl Nat) (l : Nat) : (s.makeTopcoat items l).fabric = s.fabric := by
  simp [State.makeTopcoat]

@[simp] theorem State.fabric_keepOld : s.keepOld.fabric = s.fabric := by simp [State.keepOld]
@[simp] theorem fabric_doLaunch (s0 : State) : (doLaunch s0).fabric = s0.fabric := by simp [doLaunch]
@[simp] theorem fabric_doPriming : (doPriming s).fabric = s.fabric := by simp [doPriming]
@[simp] theorem fabric_doCrossfadeEnd : (doCrossfadeEnd s).fabric = s.fabric := by simp [doCrossfadeEnd]
@[simp] theorem State.fabric_txnTick : s.txnTick.fabric = s.fabric := by simp [State.txnTick]
@[simp] theorem State.fabric_countN (f : Fld) (n : Nat) : (s.countN f n).fabric = s.fabric := by simp [State.countN]

@[simp] theorem fabric_doCollect : (doCollect s).fabric = s.fabric := by
  unfold doCollect
  dsimp only
  (repeat' split) <;> simp

@[simp] theorem State.fabric_endWait (h : ZcHit) : (s.endWait h).fabric = s.fabric := by simp [State.endWait]

@[simp] theorem fabric_doZeroCross (i k : Nat) : (doZeroCross i k s).fabric = s.fabric := by
  unfold doZeroCross
  split <;> simp

@[simp] theorem fabric_doZcTimeout (i : Nat) : (doZcTimeout i s).fabric = s.fabric := by
  unfold doZcTimeout
  split <;> simp

@[simp] theorem State.fabric_showScenes : s.showScenes.fabric = s.fabric := by simp [State.showScenes]

@[simp] theorem State.fabric_setScenes (t : Tbl SceneRec) : (s.setScenes t).fabric = s.fabric := by
  simp [State.setScenes]

@[simp] theorem State.fabric_mountScenes (ok0 ok1 : Bool) : (s.mountScenes ok0 ok1).fabric = s.fabric := by
  simp [State.mountScenes]

@[simp] theorem fabric_sceneStoreRes (d : Desc) : (sceneStoreRes d s).st.fabric = s.fabric := by
  change Res.fabric _ = _
  unfold sceneStoreRes
  refine Res.fabric_ite (fabric_badDesc ..) <| Res.fabric_ite (fabric_badDesc ..) <| Res.fabric_ite (fabric_failRes ..) <|
    Res.fabric_ite (fabric_failRes ..) ?_
  extract_lets n
  split
  · exact fabric_failRes ..
  · exact (fabric_okRes ..).trans (State.fabric_setScenes ..)

@[simp] theorem fabric_recallItems (items : Tbl Nat) : (recallItems s items).st.fabric = s.fabric := by
  unfold recallItems
  split <;> simp

@[simp] theorem fabric_sceneRecallRes (d : Desc) : (sceneRecallRes d s).st.fabric = s.fabric := by
  unfold sceneRecallRes
  (repeat' split) <;> simp

@[simp] theorem fabric_sceneEraseRes (d : Desc) : (sceneEraseRes d s).st.fabric = s.fabric := by simp [sceneEraseRes]

end

/-! ### Local time, PTP, event inputs and launch outputs -/

section
variable (s : State)

@[simp] theorem State.fabric_setLocal (ns : Nat) : (s.setLocal ns).fabric = s.fabric := by simp [State.setLocal]

@[simp] theorem State.fabric_stepTime (ns slot : Nat) : (s.stepTime ns slot).fabric = s.fabric := by
  simp [State.stepTime]

@[simp] theorem fabric_doFirstLock : (doFirstLock s).fabric = s.fabric := by
  unfold doFirstLock
  (repeat' split) <;> simp

@[simp] theorem fabric_timeSetRes (d : Desc) : (timeSetRes d s).st.fabric = s.fabric := by simp [timeSetRes]
@[simp] theorem fabric_reEpochRes (d : Desc) : (reEpochRes d s).st.fabric = s.fabric := by simp [reEpochRes]

@[simp] theorem State.fabric_setLout (j : Nat) (x : LaunchOut) : (s.setLout j x).fabric = s.fabric := by
  simp [State.setLout]

@[simp] theorem State.fabric_judgeArm (j : Nat) (r : Rearm) : (s.judgeArm j r).fabric = s.fabric := by
  simp [State.judgeArm]

@[simp] theorem State.fabric_arm (j : Nat) : (s.arm j).fabric = s.fabric := by
  unfold State.arm
  dsimp only
  split <;> simp

@[simp] theorem State.fabric_disarm (j : Nat) : (s.disarm j).fabric = s.fabric := by simp [State.disarm]

@[simp] theorem fabric_doPulse (j : Nat) : (doPulse j s).fabric = s.fabric := by
  unfold doPulse
  dsimp only
  split <;> simp

@[simp] theorem fabric_doPulseEnd (j : Nat) : (doPulseEnd j s).fabric = s.fabric := by
  unfold doPulseEnd
  dsimp only
  (repeat' split) <;> simp

@[simp] theorem State.fabric_disarmAll : s.disarmAll.fabric = s.fabric := by simp [State.disarmAll]
@[simp] theorem State.fabric_postInput (i : Nat) : (s.postInput i).fabric = s.fabric := by simp [State.postInput]

@[simp] theorem State.fabric_qualify (i : Nat) (falling : Bool) (t : Nat) :
    (s.qualify i falling t).fabric = s.fabric := by
  simp [State.qualify]

@[simp] theorem fabric_doEdge (i : Nat) (falling : Bool) (held t : Nat) :
    (doEdge i falling held t s).fabric = s.fabric := by
  simp [doEdge]

@[simp] theorem State.fabric_edgeEnable (i : Nat) : (s.edgeEnable i).fabric = s.fabric := by simp [State.edgeEnable]

@[simp] theorem State.fabric_enqueueFrame (p queue bytes : Nat) :
    (s.enqueueFrame p queue bytes).fabric = s.fabric := by
  simp [State.enqueueFrame]

@[simp] theorem State.fabric_ptpFail (m : PtpMsg) : (s.ptpFail m).fabric = s.fabric := by simp [State.ptpFail]

@[simp] theorem State.fabric_ptpAccept (m : PtpMsg) : (s.ptpAccept m).2.fabric = s.fabric := by
  unfold State.ptpAccept
  (repeat' split) <;> simp

@[simp] theorem State.fabric_setPortState (p v : Nat) : (s.setPortState p v).fabric = s.fabric := by
  simp [State.setPortState]

@[simp] theorem State.fabric_useAnnounce (p : Nat) (a : Option Announced) :
    (s.useAnnounce p a).fabric = s.fabric := by
  simp [State.useAnnounce]

@[simp] theorem State.fabric_decidePort (p : Nat) (r : Nat × Option Announced) :
    (s.decidePort p r).fabric = s.fabric := by
  unfold State.decidePort
  split <;> simp

@[simp] theorem State.fabric_decideClock (p : Nat) : (s.decideClock p).fabric = s.fabric := by
  simp [State.decideClock]

@[simp] theorem State.fabric_hearAnnounce (p : Nat) (a : Announced) : (s.hearAnnounce p a).fabric = s.fabric := by
  simp [State.hearAnnounce]

@[simp] theorem State.fabric_portEnable (p : Nat) (on : Bool) : (s.portEnable p on).fabric = s.fabric := by
  simp [State.portEnable]

@[simp] theorem State.fabric_ptpTick : s.ptpTick.fabric = s.fabric := by simp [State.ptpTick]

@[simp] theorem State.fabric_ptpOffset (p : Nat) (th : Int) : (s.ptpOffset p th).fabric = s.fabric := by
  simp -implicitDefEqProofs [State.ptpOffset]

@[simp] theorem State.fabric_setMld (p : Nat) (v : Int) : (s.setMld p v).fabric = s.fabric := by simp [State.setMld]

@[simp] theorem State.fabric_takeSync (m : PtpMsg) : (s.takeSync m).fabric = s.fabric := by
  simp -implicitDefEqProofs [State.takeSync]

@[simp] theorem fabric_doPtp (m : PtpMsg) : (doPtp m s).fabric = s.fabric := by
  unfold doPtp
  dsimp only
  (repeat' split) <;> simp

@[simp] theorem State.fabric_ptpSend (p : Nat) (m : PtpSent) : (s.ptpSend p m).fabric = s.fabric := by
  simp [State.ptpSend]

@[simp] theorem State.fabric_ptpDiscard (p : Nat) : (s.ptpDiscard p).fabric = s.fabric := by simp [State.ptpDiscard]

@[simp] theorem fabric_doDelayReq (m : PtpMsg) : (doDelayReq m s).fabric = s.fabric := by
  unfold doDelayReq
  dsimp only
  (repeat' split) <;> simp

@[simp] theorem State.fabric_passOn (m : PtpMsg) (e : Nat) (c : Int) : (s.passOn m e c).fabric = s.fabric := by
  simp [State.passOn]

@[simp] theorem fabric_doManagement (m : PtpMsg) : (doManagement m s).fabric = s.fabric := by simp [doManagement]

@[simp] theorem fabric_doForward (m : PtpMsg) (e : Nat) : (doForward m e s).fabric = s.fabric := by
  unfold doForward
  (repeat' split) <;> simp

@[simp] theorem State.fabric_takeSeq (p : Nat) : (s.takeSeq p).2.fabric = s.fabric := by simp [State.takeSeq]
@[simp] theorem fabric_doSync (p : Nat) (egress : Int) : (doSync p egress s).fabric = s.fabric := by simp [doSync]

@[simp] theorem fabric_doFollowUp (p : Nat) : (doFollowUp p s).fabric = s.fabric := by
  unfold doFollowUp
  split <;> simp

@[simp] theorem fabric_doAnnounce (p : Nat) : (doAnnounce p s).fabric = s.fabric := by simp [doAnnounce]
@[simp] theorem fabric_doAnnTimeout (p : Nat) : (doAnnTimeout p s).fabric = s.fabric := by simp [doAnnTimeout]

@[simp] theorem fabric_doReqTransmit (p egress : Nat) : (doReqTransmit p egress s).fabric = s.fabric := by
  simp [doReqTransmit]

@[simp] theorem State.fabric_ptpRestart : s.ptpRestart.fabric = s.fabric := by simp [State.ptpRestart]

end

/-! ### The flash store -/

section
variable (s : State)

@[simp] theorem fabric_storeCmd (op role : Nat) (d : Desc) {eff : State → Res} (h : ∀ u : State,
    (eff u).st.fabric = u.fabric) :
    (storeCmd op role d eff s).fabric = s.fabric := by
  simp [storeCmd, h]

@[simp] theorem fabric_bufferCmd (op role : Nat) (d : Desc) {eff : State → Res} (h : ∀ u : State,
    (eff u).st.fabric = u.fabric) :
    (bufferCmd op role d eff s).fabric = s.fabric := by
  simp [bufferCmd, h]

@[simp] theorem State.fabric_showStore : s.showStore.fabric = s.fabric := by simp [State.showStore]
@[simp] theorem State.fabric_journal : s.journal.fabric = s.fabric := by simp [State.journal]

@[simp] theorem State.fabric_setBlk (b : Nat) (x : NandBlk) : (s.setBlk b x).fabric = s.fabric := by
  simp [State.setBlk]

@[simp] theorem State.fabric_showWear : s.showWear.fabric = s.fabric := by simp [State.showWear]
@[simp] theorem State.fabric_useBlk (b : Nat) : (s.useBlk b).fabric = s.fabric := by simp [State.useBlk]
@[simp] theorem State.fabric_eraseBlk (b : Nat) : (s.eraseBlk b).fabric = s.fabric := by simp [State.eraseBlk]

@[simp] theorem fabric_growBlocks (n : Nat) (l : List Nat) : (growBlocks n l s).2.fabric = s.fabric := by
  induction n generalizing l s with
  | zero => rfl
  | succ n ih =>
    unfold growBlocks
    split <;> simp [ih]

@[simp] theorem State.fabric_holdBytes (l : List Nat) (n : Nat) : (s.holdBytes l n).2.fabric = s.fabric := by
  unfold State.holdBytes
  split <;> simp

@[simp] theorem State.fabric_eraseAll (l : List Nat) : (s.eraseAll l).fabric = s.fabric := by simp [State.eraseAll]

@[simp] theorem State.fabric_readPages (l : List Nat) (o n : Nat) : (s.readPages l o n).fabric = s.fabric := by
  simp [State.readPages]

@[simp] theorem State.fabric_rehome (b f : Nat) : (s.rehome b f).fabric = s.fabric := by simp [State.rehome]

@[simp] theorem State.fabric_moveBlk (b : Nat) (high : Bool) : (s.moveBlk b high).fabric = s.fabric := by
  unfold State.moveBlk
  split <;> simp

@[simp] theorem State.fabric_setFiles (l : List FileRec) : (s.setFiles l).fabric = s.fabric := by
  simp [State.setFiles]

@[simp] theorem State.fabric_setPend (l : List PendFile) : (s.setPend l).fabric = s.fabric := by simp [State.setPend]
@[simp] theorem State.fabric_setTakes (l : List Take) : (s.setTakes l).fabric = s.fabric := by simp [State.setTakes]

@[simp] theorem State.fabric_putFile (n data : List Byte) (held : List Nat) :
    (s.putFile n data held).fabric = s.fabric := by
  simp [State.putFile]

@[simp] theorem fabric_pieceRes (d : Desc) : (pieceRes d s).st.fabric = s.fabric := by
  unfold pieceRes
  dsimp only
  (repeat' split) <;> simp

@[simp] theorem fabric_fileReadRes (d : Desc) : (fileReadRes d s).st.fabric = s.fabric := by
  unfold fileReadRes
  (repeat' split) <;> simp

@[simp] theorem fabric_fileDeleteRes (d : Desc) : (fileDeleteRes d s).st.fabric = s.fabric := by
  unfold fileDeleteRes
  (repeat' split) <;> simp

@[simp] theorem fabric_fileListRes (d : Desc) : (fileListRes d s).st.fabric = s.fabric := by simp [fileListRes]

@[simp] theorem fabric_doPendTimeout (n : List Byte) : (doPendTimeout n s).fabric = s.fabric := by
  simp [doPendTimeout]

@[simp] theorem State.fabric_modTake (n : Nat) (f : Take → Take) : (s.modTake n f).fabric = s.fabric := by
  simp [State.modTake]

@[simp] theorem fabric_recArmRes (d : Desc) : (recArmRes d s).st.fabric = s.fabric := by
  unfold recArmRes
  dsimp only
  (repeat' split) <;> simp

@[simp] theorem fabric_recStartRes (d : Desc) : (recStartRes d s).st.fabric = s.fabric := by
  unfold recStartRes
  (repeat' split) <;> simp

@[simp] theorem fabric_doRecStart : (doRecStart s).fabric = s.fabric := by
  unfold doRecStart
  (repeat' split) <;> simp

@[simp] theorem fabric_recStopRes (d : Desc) : (recStopRes d s).st.fabric = s.fabric := by
  unfold recStopRes
  (repeat' split) <;> simp

@[simp] theorem fabric_doRecStop : (doRecStop s).fabric = s.fabric := by
  unfold doRecStop
  (repeat' split) <;> simp

@[simp] theorem State.fabric_record (n : Nat) (x : Nat → List Int) : (s.record n x).fabric = s.fabric := by
  unfold State.record
  split <;> simp

@[simp] theorem fabric_doRecGap : (doRecGap s).fabric = s.fabric := by
  unfold doRecGap
  split <;> simp

@[simp] theorem State.fabric_serveRec : s.serveRec.fabric = s.fabric := by
  unfold State.serveRec
  (repeat' split) <;> simp

@[simp] theorem fabric_doStoreFull : (doStoreFull s).fabric = s.fabric := by
  unfold doStoreFull
  split <;> simp

@[simp] theorem fabric_playOpenRes (d : Desc) : (playOpenRes d s).st.fabric = s.fabric := by
  unfold playOpenRes
  dsimp only
  (repeat' split) <;> simp

@[simp] theorem fabric_playStartRes (d : Desc) : (playStartRes d s).st.fabric = s.fabric := by
  unfold playStartRes
  (repeat' split) <;> simp

@[simp] theorem fabric_doPlayStart (n : Nat) : (doPlayStart n s).fabric = s.fabric := by
  unfold doPlayStart
  (repeat' split) <;> simp

@[simp] theorem fabric_playStopRes (d : Desc) : (playStopRes d s).st.fabric = s.fabric := by
  unfold playStopRes
  (repeat' split) <;> simp

@[simp] theorem State.fabric_stopTick : s.stopTick.fabric = s.fabric := by simp [State.stopTick]

@[simp] theorem State.fabric_playTick : s.playTick.fabric = s.fabric := by
  unfold State.playTick
  refine (State.fabric_foldl _ _ fun a x => ?_).trans s.fabric_stopTick
  dsimp only
  split <;> simp

@[simp] theorem fabric_doLeadOut (n count : Nat) (cite : Option Nat) :
    (doLeadOut n count cite s).fabric = s.fabric := by
  unfold doLeadOut
  (repeat' split) <;> simp

@[simp] theorem fabric_takeListRes (d : Desc) : (takeListRes d s).st.fabric = s.fabric := by simp [takeListRes]

@[simp] theorem fabric_takeDeleteRes (d : Desc) : (takeDeleteRes d s).st.fabric = s.fabric := by
  unfold takeDeleteRes
  split <;> simp

@[simp] theorem State.fabric_showSpare : s.showSpare.fabric = s.fabric := by simp [State.showSpare]

@[simp] theorem fabric_storeFormatRes (good : Nat) (bad : List Nat) (mib : Nat) (x3 : Desc) :
    (storeFormatRes good bad mib x3 s).st.fabric = s.fabric := by
  simp [storeFormatRes]

@[simp] theorem fabric_doCodeword (chan ce block page : Nat) (use : CwUse) :
    (doCodeword chan ce block page use s).fabric = s.fabric := by
  unfold doCodeword
  split <;> simp

@[simp] theorem fabric_doProgramFail (chan ce block : Nat) : (doProgramFail chan ce block s).fabric = s.fabric := by
  unfold doProgramFail
  dsimp only
  split <;> simp

@[simp] theorem fabric_doRefresh (b : Nat) : (doRefresh b s).fabric = s.fabric := by simp [doRefresh]

@[simp] theorem fabric_doWearMove : (doWearMove s).fabric = s.fabric := by
  unfold doWearMove
  split <;> simp

@[simp] theorem fabric_doNandScrub (b corrected stage : Nat) :
    (doNandScrub b corrected stage s).fabric = s.fabric := by
  simp [doNandScrub]

@[simp] theorem fabric_doCheckpoint : (doCheckpoint s).fabric = s.fabric := by simp [doCheckpoint]

@[simp] theorem fabric_doMount (targets wr rd result : Nat) : (doMount targets wr rd result s).fabric = s.fabric := by
  unfold doMount
  dsimp only
  (repeat' split) <;> simp

@[simp] theorem State.fabric_setBootSlot (i : Nat) (x : BootSlot) : (s.setBootSlot i x).fabric = s.fabric := by
  simp [State.setBootSlot]

@[simp] theorem fabric_fwInstallRes (d : Desc) : (fwInstallRes d s).st.fabric = s.fabric := by
  unfold fwInstallRes
  (repeat' split) <;> simp

@[simp] theorem fabric_doFwDone (verified : Bool) : (doFwDone verified s).fabric = s.fabric := by
  unfold doFwDone
  split <;> simp

@[simp] theorem fabric_fwStatusRes (d : Desc) : (fwStatusRes d s).st.fabric = s.fabric := by simp [fwStatusRes]
@[simp] theorem fabric_logReadRes (d : Desc) : (logReadRes d s).st.fabric = s.fabric := by simp [logReadRes]

@[simp] theorem fabric_logExportRes (d : Desc) : (logExportRes d s).st.fabric = s.fabric := by
  unfold logExportRes
  dsimp only
  (repeat' split) <;> simp

end

/-! ### Security functions -/

section
variable (s : State)

@[simp] theorem State.fabric_showSessions : s.showSessions.fabric = s.fabric := by simp [State.showSessions]
@[simp] theorem State.fabric_endSession (n : Nat) : (s.endSession n).fabric = s.fabric := by simp [State.endSession]

@[simp] theorem State.fabric_endSessions (p : Session → Bool) : (s.endSessions p).fabric = s.fabric := by
  simp [State.endSessions]

@[simp] theorem State.fabric_showEval (old : State) : (s.showEval old).fabric = s.fabric := by simp [State.showEval]

@[simp] theorem State.fabric_needKek : s.needKek.fabric = s.fabric := by
  unfold State.needKek
  split <;> simp

@[simp] theorem State.fabric_putKey (s0 : State) (k : KeyRec) : (s0.putKey k).fabric = s0.fabric := by
  simp [State.putKey]

@[simp] theorem State.fabric_eraseKeys (cause : Nat) : (s.eraseKeys cause).fabric = s.fabric := by
  simp [State.eraseKeys]

@[simp] theorem fabric_keyImportRes (d : Desc) : (keyImportRes d s).st.fabric = s.fabric := by
  unfold keyImportRes
  dsimp only
  (repeat' split) <;> simp

@[simp] theorem fabric_keyDeleteRes (d : Desc) : (keyDeleteRes d s).st.fabric = s.fabric := by
  unfold keyDeleteRes
  (repeat' split) <;> simp

@[simp] theorem fabric_keyGenRes (d : Desc) : (keyGenRes d s).st.fabric = s.fabric := by simp [keyGenRes]

@[simp] theorem fabric_keyActivateRes (d : Desc) : (keyActivateRes d s).st.fabric = s.fabric := by
  unfold keyActivateRes
  (repeat' split) <;> simp

@[simp] theorem fabric_keyListRes (d : Desc) : (keyListRes d s).st.fabric = s.fabric := by simp [keyListRes]
@[simp] theorem fabric_svnCommitRes (d : Desc) : (svnCommitRes d s).st.fabric = s.fabric := by simp [svnCommitRes]
@[simp] theorem fabric_tokenGenRes (d : Desc) : (tokenGenRes d s).st.fabric = s.fabric := by simp [tokenGenRes]
@[simp] theorem fabric_devidCertRes (d : Desc) : (devidCertRes d s).st.fabric = s.fabric := by simp [devidCertRes]

@[simp] theorem fabric_sceneImportRes (d : Desc) : (sceneImportRes d s).st.fabric = s.fabric := by
  unfold sceneImportRes
  dsimp only
  (repeat' split) <;> simp

@[simp] theorem fabric_sceneExportRes (d : Desc) : (sceneExportRes d s).st.fabric = s.fabric := by
  unfold sceneExportRes
  dsimp only
  (repeat' split) <;> simp

@[simp] theorem fabric_doTamper (i : Nat) : (doTamper i s).fabric = s.fabric := by simp [doTamper]

@[simp] theorem fabric_tamperClearRes (levels : Nat) (x1 : Desc) :
    (tamperClearRes levels x1 s).st.fabric = s.fabric := by
  simp [tamperClearRes]

@[simp] theorem fabric_zeroiseRes (d : Desc) : (zeroiseRes d s).st.fabric = s.fabric := by simp [zeroiseRes]

@[simp] theorem fabric_debugChallengeRes (d : Desc) : (debugChallengeRes d s).st.fabric = s.fabric := by
  simp [debugChallengeRes]

@[simp] theorem State.fabric_eraseScenes : s.eraseScenes.fabric = s.fabric := by simp [State.eraseScenes]

@[simp] theorem fabric_debugUnlockRes (d : Desc) : (debugUnlockRes d s).st.fabric = s.fabric := by
  unfold debugUnlockRes
  (repeat' split) <;> simp -implicitDefEqProofs

end

/-! ### The host interface -/

section
variable (s : State)

@[simp] theorem State.fabric_learnCmd (r new : Nat) : (s.learnCmd r new).fabric = s.fabric := by simp [State.learnCmd]
@[simp] theorem State.fabric_learnCpl (r new : Nat) : (s.learnCpl r new).fabric = s.fabric := by simp [State.learnCpl]
@[simp] theorem State.fabric_learnEvt (new : Nat) : (s.learnEvt new).fabric = s.fabric := by simp [State.learnEvt]
@[simp] theorem State.fabric_linkSeen : s.linkSeen.fabric = s.fabric := by simp [State.linkSeen]

@[simp] theorem fabric_doPoll (page : Doorbells) : (doPoll page s).fabric = s.fabric := by
  unfold doPoll
  dsimp only
  split
  · rfl
  · rw [State.fabric_learnEvt, State.fabric_foldl, State.fabric_foldl, State.fabric_linkSeen]
    · exact fun a r => by split <;> simp
    · exact fun a r => by split <;> simp

@[simp] theorem fabric_doNudge (value : Word) : (doNudge value s).fabric = s.fabric := by simp [doNudge]

@[simp] theorem fabric_doFetch (r : Nat) (descs : List RawDesc) : (doFetch r descs s).fabric = s.fabric := by
  unfold doFetch
  dsimp only
  split
  · rfl
  · rw [fabric_pumpUnknown, State.fabric_mk, State.mk_mem_post, State.fabric_wr, State.fabric_setRing, State.fabric_linkSeen]

@[simp] theorem fabric_doDeadline (r : Nat) (kind : FetchKind) (error : Bool) :
    (doDeadline r kind error s).fabric = s.fabric := by
  unfold doDeadline
  dsimp only
  (repeat' split) <;> simp

@[simp] theorem fabric_doCplTimeout (r : Nat) : (doCplTimeout r s).fabric = s.fabric := by simp [doCplTimeout]

@[simp] theorem fabric_drainCpl0 (n : Nat) : (drainCpl0 n s).fabric = s.fabric := by
  induction n generalizing s with
  | zero => rfl
  | succ n ih =>
    unfold drainCpl0
    split <;> simp [ih]

@[simp] theorem State.fabric_signalTick : s.signalTick.fabric = s.fabric := by simp [State.signalTick]
@[simp] theorem State.fabric_ringOn (r : Nat) : (s.ringOn r).fabric = s.fabric := by simp [State.ringOn]
@[simp] theorem State.fabric_ringOff (r : Nat) : (s.ringOff r).fabric = s.fabric := by simp [State.ringOff]
@[simp] theorem State.fabric_evtOn : s.evtOn.fabric = s.fabric := by simp [State.evtOn]

@[simp] theorem fabric_doLinkReset (kind : LinkReset) : (doLinkReset kind s).fabric = s.fabric := by
  simp [doLinkReset]

@[simp] theorem fabric_sessionOpenRes (d : Desc) : (sessionOpenRes d s).st.fabric = s.fabric := by
  unfold sessionOpenRes
  dsimp only
  (repeat' split) <;> simp

@[simp] theorem fabric_sessionCloseRes (d : Desc) : (sessionCloseRes d s).st.fabric = s.fabric := by
  simp [sessionCloseRes]

@[simp] theorem fabric_doExpiry (n : Nat) : (doExpiry n s).fabric = s.fabric := by
  unfold doExpiry
  split <;> simp

end

/-! ### The memory controller -/

section
variable (s : State)

@[simp] theorem State.fabric_showLanes (c : Nat) : (s.showLanes c).fabric = s.fabric := by simp [State.showLanes]

@[simp] theorem State.fabric_showTrained (c : Nat) : (s.showTrained c).fabric = s.fabric := by
  simp [State.showTrained]

@[simp] theorem State.fabric_logFailures : s.logFailures.fabric = s.fabric := by simp [State.logFailures]

@[simp] theorem State.fabric_trained (lanes : List TrainLane) : (s.trained lanes).fabric = s.fabric := by
  simp [State.trained]

@[simp] theorem fabric_doTrainingEnd (lanes : List TrainLane) : (doTrainingEnd lanes s).fabric = s.fabric := by
  simp [doTrainingEnd]

@[simp] theorem State.fabric_trackLane (c l : Nat) (x : TrackLane) : (s.trackLane c l x).fabric = s.fabric := by
  simp [State.trackLane]

@[simp] theorem fabric_doTracking (c : Nat) (l0 l1 : TrackLane) : (doTracking c l0 l1 s).fabric = s.fabric := by
  simp [doTracking]

@[simp] theorem fabric_dramRetrainRes (d : Desc) : (dramRetrainRes d s).st.fabric = s.fabric := by
  simp [dramRetrainRes]

@[simp] theorem State.fabric_resumePorts : s.resumePorts.fabric = s.fabric := by simp [State.resumePorts]

@[simp] theorem fabric_doRetrainComplete (lanes : List TrainLane) :
    (doRetrainComplete lanes s).fabric = s.fabric := by
  simp [doRetrainComplete]

@[simp] theorem State.fabric_showPost : s.showPost.fabric = s.fabric := by simp [State.showPost]

@[simp] theorem fabric_doFreqTimeout : (doFreqTimeout s).fabric = s.fabric := by
  unfold doFreqTimeout
  split <;> simp

end

/-! ### Fault containment -/

section
variable (s : State)

@[simp] theorem State.fabric_setPosS (p : Nat) (x : PosS) : (s.setPosS p x).fabric = s.fabric := by
  simp [State.setPosS]

@[simp] theorem State.fabric_setClS (c : Nat) (x : ClusS) : (s.setClS c x).fabric = s.fabric := by simp [State.setClS]

@[simp] theorem State.fabric_hold (code : Nat) (data : List Byte) (scope : Nat) (cites : List Nat) :
    (s.hold code data scope cites).fabric = s.fabric := by
  simp [State.hold]

@[simp] theorem State.fabric_flushLogs : s.flushLogs.fabric = s.fabric := by simp [State.flushLogs]

@[simp] theorem State.fabric_setDieS (d : Nat) (x : DieS) : (s.setDieS d x).fabric = s.fabric := by
  simp [State.setDieS]

@[simp] theorem State.fabric_showHealth : s.showHealth.fabric = s.fabric := by simp [State.showHealth]
@[simp] theorem State.fabric_enterTest (c l : Nat) : (s.enterTest c l).fabric = s.fabric := by simp [State.enterTest]

@[simp] theorem State.fabric_abandonTest (c l : Nat) : (s.abandonTest c l).fabric = s.fabric := by
  simp [State.abandonTest]

@[simp] theorem State.fabric_giveRole (c k l : Nat) : (s.giveRole c k l).fabric = s.fabric := by simp [State.giveRole]

@[simp] theorem State.fabric_retire (c l reason : Nat) : (s.retire c l reason).fabric = s.fabric := by
  simp [State.retire]

@[simp] theorem State.fabric_dropTests (d : Nat) : (s.dropTests d).fabric = s.fabric := by simp [State.dropTests]
@[simp] theorem State.fabric_stopDie (d : Nat) : (s.stopDie d).fabric = s.fabric := by simp [State.stopDie]

@[simp] theorem State.fabric_dropMemTests (c : Nat) : (s.dropMemTests c).fabric = s.fabric := by
  simp [State.dropMemTests]

@[simp] theorem State.fabric_resetClusters (d : Nat) : (s.resetClusters d).fabric = s.fabric := by
  simp [State.resetClusters]

@[simp] theorem State.fabric_dieReset (s0 : State) (d : Nat) (asked : Bool) :
    (s0.dieReset d asked).fabric = s0.fabric := by
  simp [State.dieReset]

@[simp] theorem State.fabric_oneDieOut (d cause : Nat) (service : Bool) :
    (s.oneDieOut d cause service).fabric = s.fabric := by
  simp [State.oneDieOut]

@[simp] theorem State.fabric_dieOut (d cause : Nat) : (s.dieOut d cause).fabric = s.fabric := by simp [State.dieOut]
@[simp] theorem State.fabric_rebuild (d : Nat) : (s.rebuild d).fabric = s.fabric := by simp [State.rebuild]
@[simp] theorem State.fabric_needAlt (c : Nat) : (s.needAlt c).fabric = s.fabric := by simp [State.needAlt]

@[simp] theorem State.fabric_replace (c : Nat) : (s.replace c).fabric = s.fabric := by
  unfold State.replace
  dsimp only
  refine (State.fabric_foldl _ _ fun a k => ?_).trans (State.fabric_foldl _ _ fun a k => ?_)
  · split <;> simp
  · simp

@[simp] theorem State.fabric_altTick (c : Nat) : (s.altTick c).fabric = s.fabric := by simp [State.altTick]
@[simp] theorem State.fabric_noteFault (p : Nat) : (s.noteFault p).fabric = s.fabric := by simp [State.noteFault]

@[simp] theorem State.fabric_placeFault (bad : List Nat) (q : FaultReq) (by_ : Option Nat) :
    (s.placeFault bad q by_).fabric = s.fabric := by
  unfold State.placeFault
  dsimp only
  (repeat' split) <;> simp

@[simp] theorem State.fabric_rotate (c : Nat) : (s.rotate c).fabric = s.fabric := by
  unfold State.rotate
  dsimp only
  (repeat' split) <;> simp

@[simp] theorem State.fabric_newSpares : s.newSpares.fabric = s.fabric := by simp [State.newSpares]

@[simp] theorem State.fabric_memTestTick (c : Nat) : (s.memTestTick c).fabric = s.fabric := by
  simp [State.memTestTick]

@[simp] theorem State.fabric_containTick : s.containTick.fabric = s.fabric := by simp [State.containTick]

@[simp] theorem fabric_doSelftestEnd (p : Nat) (pass : Bool) : (doSelftestEnd p pass s).fabric = s.fabric := by
  simp [doSelftestEnd]

@[simp] theorem fabric_doRotation (c : Nat) : (doRotation c s).fabric = s.fabric := by simp [doRotation]

@[simp] theorem fabric_selftestLanesRes (d : Desc) : (selftestLanesRes d s).st.fabric = s.fabric := by
  simp [selftestLanesRes]

@[simp] theorem fabric_selftestMemRes (d : Desc) : (selftestMemRes d s).st.fabric = s.fabric := by
  simp [selftestMemRes]

@[simp] theorem fabric_doRebuildComplete : (doRebuildComplete s).fabric = s.fabric := by simp [doRebuildComplete]
@[simp] theorem State.fabric_rebuildTick : s.rebuildTick.fabric = s.fabric := by simp [State.rebuildTick]

@[simp] theorem fabric_doRebuildTimeout (linkUe : Bool) : (doRebuildTimeout linkUe s).fabric = s.fabric := by
  simp [doRebuildTimeout]

@[simp] theorem fabric_dieResetRes (d : Desc) : (dieResetRes d s).st.fabric = s.fabric := by simp [dieResetRes]
@[simp] theorem fabric_doDieSupply (d : Nat) : (doDieSupply d s).fabric = s.fabric := by simp [doDieSupply]

@[simp] theorem State.fabric_restartTick : s.restartTick.fabric = s.fabric := by
  unfold State.restartTick
  refine State.fabric_foldl _ _ fun a d => ?_
  dsimp only
  split
  · simp
  · split <;> simp

end

/-! ### The fixed graph -/

section
variable (s : State)

@[simp] theorem State.fabric_setDsp (d : Nat) (x : DspS) : (s.setDsp d x).fabric = s.fabric := by simp [State.setDsp]

@[simp] theorem State.fabric_publishMeters (dies : List Nat) : (s.publishMeters dies).fabric = s.fabric := by
  simp [State.publishMeters]

@[simp] theorem fabric_meterRes (d : Desc) : (meterRes d s).st.fabric = s.fabric := by simp [meterRes]
@[simp] theorem fabric_tapRes (d : Desc) : (tapRes d s).st.fabric = s.fabric := by simp [tapRes]
@[simp] theorem State.fabric_feedCaps (f : Nat) : (s.feedCaps f).fabric = s.fabric := by simp [State.feedCaps]
@[simp] theorem fabric_objReadRes (d : Desc) : (objReadRes d s).st.fabric = s.fabric := by simp [objReadRes]

end

/-! ### The Dranko lanes -/

section
variable (s : State)

@[simp] theorem State.fabric_setLaneP (p : Nat) (x : LaneP) : (s.setLaneP p x).fabric = s.fabric := by
  simp [State.setLaneP]

@[simp] theorem State.fabric_setLogl (k : Nat) (x : LogL) : (s.setLogl k x).fabric = s.fabric := by
  simp [State.setLogl]

@[simp] theorem State.fabric_setRegion (l : List (Nat × Word36)) : (s.setRegion l).fabric = s.fabric := by
  simp [State.setRegion]

@[simp] theorem State.fabric_fillExports (kid : Nat) (lines : List Nat) :
    (s.fillExports kid lines).fabric = s.fabric := by
  simp [State.fillExports]

@[simp] theorem State.fabric_laneFault (p cls : Nat) (x : LaneP) : (s.laneFault p cls x).fabric = s.fabric := by
  simp [State.laneFault]

@[simp] theorem State.fabric_setCluMem (c : Nat) (m : CluMem) : (s.setCluMem c m).fabric = s.fabric := by
  simp [State.setCluMem]

@[simp] theorem State.fabric_markBad (c pc : Nat) : (s.markBad c pc).fabric = s.fabric := by simp [State.markBad]
@[simp] theorem State.fabric_repairCode (c : Nat) : (s.repairCode c).fabric = s.fabric := by simp [State.repairCode]

@[simp] theorem State.fabric_fillCode (c : Nat) (upsets : List (Nat × BitVec 64)) :
    (s.fillCode c upsets).fabric = s.fabric := by
  simp [State.fillCode]

@[simp] theorem State.fabric_issue (p : Nat) (hw : LaneHw) (d : LaneP) : (s.issue p hw d).fabric = s.fabric := by
  simp [State.issue]

@[simp] theorem State.fabric_nextRun (p : Nat) (x : LaneP) (x3 : List (Nat × Nat)) :
    (s.nextRun p x x3).fabric = s.fabric := by
  unfold State.nextRun
  split <;> simp

@[simp] theorem fabric_doBundle (p : Nat) (hw : LaneHw) : (doBundle p hw s).fabric = s.fabric := by
  unfold doBundle
  dsimp only
  (repeat' split) <;> simp

@[simp] theorem fabric_doWaitEnd (w : WaitEnd) : (doWaitEnd w s).fabric = s.fabric := by simp [doWaitEnd]

@[simp] theorem fabric_doOverdue (p : Nat) : (doOverdue p s).fabric = s.fabric := by
  unfold doOverdue
  dsimp only
  split <;> simp

@[simp] theorem State.fabric_flagDie (d : Nat) : (s.flagDie d).fabric = s.fabric := by simp [State.flagDie]
@[simp] theorem State.fabric_noteRmce (n : Nat) : (s.noteRmce n).fabric = s.fabric := by simp [State.noteRmce]

@[simp] theorem State.fabric_lineIn (c : Nat) (t : Transfer) (read : Ecc) :
    (s.lineIn c t read).fabric = s.fabric := by
  simp [State.lineIn]

@[simp] theorem State.fabric_lineOut (c l : Nat) (t : Transfer) : (s.lineOut c l t).fabric = s.fabric := by
  simp [State.lineOut]

@[simp] theorem fabric_doTransfer (c : Nat) (t : Transfer) : (doTransfer c t s).fabric = s.fabric := by
  unfold doTransfer
  (repeat' split) <;> simp

@[simp] theorem State.fabric_startPass (s0 : State) (p kid start descs cyc : Nat) (xfers : List Xfer) :
    (s0.startPass p kid start descs cyc xfers).fabric = s0.fabric := by
  simp [State.startPass]

@[simp] theorem State.fabric_loadImage (p kid : Nat) : (s.loadImage p kid).fabric = s.fabric := by
  simp [State.loadImage]

@[simp] theorem State.fabric_startSched (p kid cyc : Nat) (primed : List Nat) :
    (s.startSched p kid cyc primed).fabric = s.fabric := by
  unfold State.startSched
  split <;> simp

@[simp] theorem State.fabric_startMain (primed : List Nat) : (s.startMain primed).fabric = s.fabric := by
  simp [State.startMain]

@[simp] theorem State.fabric_moveIn (p kid : Nat) : (s.moveIn p kid).fabric = s.fabric := by simp [State.moveIn]

@[simp] theorem State.fabric_startReplay (p kid f : Nat) (primed : List Nat) :
    (s.startReplay p kid f primed).fabric = s.fabric := by
  simp [State.startReplay]

@[simp] theorem State.fabric_startPart (kid : Nat) (insts : List (Nat × Bool)) (xfers : List Xfer) (descs cyc : Nat) :
    (s.startPart kid insts xfers descs cyc).fabric = s.fabric := by
  unfold State.startPart
  split <;> simp

@[simp] theorem State.fabric_deliverPorts (out : Nat → Bool) : (s.deliverPorts out).fabric = s.fabric := by
  unfold State.deliverPorts
  refine State.fabric_foldl _ _ fun a e => ?_
  extract_lets b
  have hb : b.fabric = a.fabric := State.fabric_foldl _ _ fun b q => by split <;> simp
  split <;> simp [hb]

@[simp] theorem State.fabric_haltLanes : s.haltLanes.fabric = s.fabric := by simp [State.haltLanes]

@[simp] theorem State.fabric_promoteLanes : s.promoteLanes.fabric = s.fabric := by
  unfold State.promoteLanes
  refine State.fabric_foldl _ _ fun a e => ?_
  dsimp only
  split <;> simp

@[simp] theorem State.fabric_reseatLanes : s.reseatLanes.fabric = s.fabric := by simp [State.reseatLanes]

@[simp] theorem State.fabric_entryMoves : s.entryMoves.fabric = s.fabric := by
  unfold State.entryMoves
  refine State.fabric_foldl _ _ fun a k => ?_
  split
  · rfl
  · split <;> simp

@[simp] theorem State.fabric_exitMoves (c : Nat) : (s.exitMoves c).fabric = s.fabric := by simp [State.exitMoves]
@[simp] theorem State.fabric_placeMoves (c : Nat) : (s.placeMoves c).fabric = s.fabric := by simp [State.placeMoves]

@[simp] theorem State.fabric_copyDie (src dst : Nat) : (s.copyDie src dst).fabric = s.fabric := by
  simp [State.copyDie]

@[simp] theorem State.fabric_containAll : s.containAll.fabric = s.fabric := by simp [State.containAll]

@[simp] theorem fabric_doMemTestEnd (c : Nat) (pass : Bool) (fills : MemFills) :
    (doMemTestEnd c pass fills s).fabric = s.fabric := by
  unfold doMemTestEnd
  dsimp only
  split <;> simp

end

/-! ### Intake and the eddy arbiter -/

section
variable (s : State)

@[simp] theorem State.fabric_sendInput (src : Nat) (ys : List Int) : (s.sendInput src ys).fabric = s.fabric := by
  unfold State.sendInput
  split <;> simp

@[simp] theorem State.fabric_deliver (f src : Nat) (st : Conceal) : (s.deliver f src st).fabric = s.fabric := by
  simp [State.deliver]

@[simp] theorem State.fabric_buildBlock (f : Nat) : (s.buildBlock f).fabric = s.fabric := by simp [State.buildBlock]

@[simp] theorem State.fabric_soak (f : Nat) (data : List (Nat × Heard)) : (s.soak f data).fabric = s.fabric := by
  simp [State.soak]

@[simp] theorem State.fabric_applyLate (f : Nat) (data : List (Nat × Heard)) :
    (s.applyLate f data).fabric = s.fabric := by
  simp [State.applyLate]

@[simp] theorem State.fabric_refusePass (stream : Option Nat) (res : Bool) :
    (s.refusePass stream res).fabric = s.fabric := by
  simp [State.refusePass]

@[simp] theorem State.fabric_servePass (q : EddyReq) (joined : Bool) : (s.servePass q joined).fabric = s.fabric := by
  simp [State.servePass]

@[simp] theorem State.fabric_dupPass (q : EddyReq) : (s.dupPass q).fabric = s.fabric := by simp [State.dupPass]
@[simp] theorem State.fabric_applyBare (q : EddyReq) : (s.applyBare q).fabric = s.fabric := by simp [State.applyBare]

@[simp] theorem State.fabric_presentHeld (f : Nat) : (s.presentHeld f).fabric = s.fabric := by
  simp [State.presentHeld]

@[simp] theorem State.fabric_arrive (stream : Option Nat) (f : Nat) (data : List (Nat × Heard))
    (pathB counted dupDone : Bool) :
    (s.arrive stream f data pathB counted dupDone).fabric = s.fabric := by
  unfold State.arrive
  split <;> simp

@[simp] theorem State.fabric_charge (start : Nat) (parts : List (Nat × Nat × Nat)) :
    (s.charge start parts).fabric = s.fabric := by
  simp [State.charge]

@[simp] theorem State.fabric_decidePass (p : PlanImage) (q : EddyReq) : (s.decidePass p q).fabric = s.fabric := by
  simp [State.decidePass]

@[simp] theorem fabric_doPassAdmission : (doPassAdmission s).fabric = s.fabric := by
  unfold doPassAdmission
  split <;> simp

@[simp] theorem State.fabric_refuseReplay (q : FaultReq) : (s.refuseReplay q).fabric = s.fabric := by
  simp [State.refuseReplay]

@[simp] theorem State.fabric_admitReplay (p : PlanImage) (q : FaultReq) (by_ : Nat) :
    (s.admitReplay p q by_).fabric = s.fabric := by
  simp [State.admitReplay]

@[simp] theorem State.fabric_decideReplay (p : PlanImage) (q : FaultReq) :
    (s.decideReplay p q).fabric = s.fabric := by
  unfold State.decideReplay
  split <;> simp

@[simp] theorem fabric_doReplayAdmission : (doReplayAdmission s).fabric = s.fabric := by
  unfold doReplayAdmission
  split <;> simp

@[simp] theorem State.fabric_decideAll (n : Nat) : (s.decideAll n).fabric = s.fabric := by
  induction n generalizing s with
  | zero => rfl
  | succ n ih => simp [State.decideAll, ih]

@[simp] theorem State.fabric_refuseLeft : s.refuseLeft.fabric = s.fabric := by simp [State.refuseLeft]

@[simp] theorem State.fabric_runPart (i : Nat) (q : PassPart) : (s.runPart i q).fabric = s.fabric := by
  unfold State.runPart
  split <;> simp

@[simp] theorem fabric_doPassRun : (doPassRun s).fabric = s.fabric := by
  unfold doPassRun
  split <;> simp

end

/-! ### Samples played -/

section
variable (s : State)

@[simp] theorem State.fabric_skimWaits (src cap : Nat) : (s.skimWaits src cap).fabric = s.fabric := by
  unfold State.skimWaits
  refine State.fabric_foldl _ _ fun a x => ?_
  dsimp only
  split
  · split <;> simp
  · rfl

@[simp] theorem State.fabric_skimGenWaits : s.skimGenWaits.fabric = s.fabric := by
  unfold State.skimGenWaits
  refine State.fabric_foldl _ _ fun a x => ?_
  dsimp only
  split
  · split <;> simp
  · rfl

end

/-! ### Network ports, the switch and the streams -/

section
variable (s : State)

@[simp] theorem State.fabric_dropFrame (p : Nat) : (s.dropFrame p).fabric = s.fabric := by simp [State.dropFrame]
@[simp] theorem State.fabric_showSwitch : s.showSwitch.fabric = s.fabric := by simp [State.showSwitch]
@[simp] theorem State.fabric_learn (p mac : Nat) : (s.learn p mac).fabric = s.fabric := by simp [State.learn]

@[simp] theorem State.fabric_noteRouter (f : NetFrame) : (s.noteRouter f).fabric = s.fabric := by
  simp [State.noteRouter]

@[simp] theorem State.fabric_handTo (f : NetFrame) (q : Nat) : (s.handTo f q).fabric = s.fabric := by
  simp [State.handTo]

@[simp] theorem fabric_doFrameForward (f : NetFrame) : (doFrameForward f s).fabric = s.fabric := by
  simp [doFrameForward]

@[simp] theorem State.fabric_reply (x : NetReply) (bytes : Nat) : (s.reply x bytes).fabric = s.fabric := by
  simp [State.reply]

@[simp] theorem State.fabric_report (p kind addr src : Nat) : (s.report p kind addr src).fabric = s.fabric := by
  simp [State.report]

@[simp] theorem fabric_doArp (p target : Nat) (from_ : NetHost) : (doArp p target from_ s).fabric = s.fabric := by
  simp [doArp]

@[simp] theorem fabric_doEcho (p target : Nat) (from_ : NetHost) (payload : List Byte) :
    (doEcho p target from_ payload s).fabric = s.fabric := by
  simp [doEcho]

@[simp] theorem fabric_doIgmp (p group : Nat) : (doIgmp p group s).fabric = s.fabric := by simp [doIgmp]
@[simp] theorem fabric_doAgeing (group mac : Nat) : (doAgeing group mac s).fabric = s.fabric := by simp [doAgeing]

@[simp] theorem fabric_doLinkState (p : Nat) (up fecLock : Bool) :
    (doLinkState p up fecLock s).fabric = s.fabric := by
  simp [doLinkState]

@[simp] theorem State.fabric_setRx (i : Nat) (x : RxCtx) : (s.setRx i x).fabric = s.fabric := by simp [State.setRx]
@[simp] theorem State.fabric_setTx (i : Nat) (x : TxCtx) : (s.setTx i x).fabric = s.fabric := by simp [State.setTx]
@[simp] theorem State.fabric_showStrm : s.showStrm.fabric = s.fabric := by simp [State.showStrm]

@[simp] theorem fabric_streamStatRes (d : Desc) : (streamStatRes d s).st.fabric = s.fabric := by
  unfold streamStatRes
  dsimp only
  (repeat' split) <;> simp

@[simp] theorem State.fabric_clearStreams : s.clearStreams.fabric = s.fabric := by simp [State.clearStreams]

@[simp] theorem State.fabric_leaveGroups (i : Nat) : (s.leaveGroups i).fabric = s.fabric := by
  simp [State.leaveGroups]

@[simp] theorem fabric_streamOpenRes (d : Desc) : (streamOpenRes d s).st.fabric = s.fabric := by
  unfold streamOpenRes
  dsimp only
  (repeat' split) <;> simp

@[simp] theorem fabric_doStreamOpened (tx : Bool) (i : Nat) : (doStreamOpened tx i s).fabric = s.fabric := by
  simp [doStreamOpened]

@[simp] theorem fabric_streamCloseRes (d : Desc) : (streamCloseRes d s).st.fabric = s.fabric := by
  simp [streamCloseRes]

@[simp] theorem fabric_doStreamClosed (tx : Bool) (i : Nat) : (doStreamClosed tx i s).fabric = s.fabric := by
  unfold doStreamClosed
  dsimp only
  (repeat' split) <;> simp

@[simp] theorem State.fabric_streamEvent (tx : Bool) (i st : Nat) : (s.streamEvent tx i st).fabric = s.fabric := by
  simp [State.streamEvent]

@[simp] theorem State.fabric_closeStreams : s.closeStreams.fabric = s.fabric := by simp [State.closeStreams]
@[simp] theorem State.fabric_authFailed (i : Nat) : (s.authFailed i).fabric = s.fabric := by simp [State.authFailed]

@[simp] theorem State.fabric_pathSeen (i : Nat) (pathB : Bool) (seq : Nat) :
    (s.pathSeen i pathB seq).fabric = s.fabric := by
  simp [State.pathSeen]

@[simp] theorem State.fabric_takePacket (i : Nat) (pathB : Bool) (p : Packet) :
    (s.takePacket i pathB p).fabric = s.fabric := by
  unfold State.takePacket
  exact (State.fabric_foldl _ _ fun a x => a.fabric_arrive ..).trans (s.fabric_setRx ..)

@[simp] theorem fabric_doPacket (p : Packet) : (doPacket p s).fabric = s.fabric := by
  unfold doPacket
  dsimp only
  (repeat' split) <;> simp

@[simp] theorem fabric_doPathDown (i : Nat) (pathB : Bool) : (doPathDown i pathB s).fabric = s.fabric := by
  simp [doPathDown]

@[simp] theorem State.fabric_shiftWater (chans : List Nat) (f : Nat) (rep : Bool) :
    (s.shiftWater chans f rep).fabric = s.fabric := by
  simp [State.shiftWater]

@[simp] theorem fabric_doSlipWindow (i : Nat) : (doSlipWindow i s).fabric = s.fabric := by simp [doSlipWindow]
@[simp] theorem fabric_doLateDrops : (doLateDrops s).fabric = s.fabric := by simp [doLateDrops]

@[simp] theorem State.fabric_releasePacket (i launch : Nat) (smps : List (Nat × List Int)) :
    (s.releasePacket i launch smps).fabric = s.fabric := by
  simp [State.releasePacket]

@[simp] theorem State.fabric_txRelease (i : Nat) : (s.txRelease i).fabric = s.fabric := by
  unfold State.txRelease
  dsimp only
  split <;> simp

@[simp] theorem State.fabric_txReleases : s.txReleases.fabric = s.fabric := by simp [State.txReleases]

@[simp] theorem State.fabric_launchOn (i : Nat) (b : Bool) : (s.launchOn i b).fabric = s.fabric := by
  unfold State.launchOn
  dsimp only
  split <;> simp

@[simp] theorem fabric_doPacketLaunch (i : Nat) : (doPacketLaunch i s).fabric = s.fabric := by
  unfold doPacketLaunch
  dsimp only
  split <;> simp

@[simp] theorem fabric_doTxDeadline (i : Nat) : (doTxDeadline i s).fabric = s.fabric := by
  unfold doTxDeadline
  dsimp only
  split <;> simp

@[simp] theorem fabric_doEgress (p : Nat) : (doEgress p s).fabric = s.fabric := by
  unfold doEgress
  dsimp only
  (repeat' split) <;> simp

@[simp] theorem State.fabric_countStreams (f : Nat) : (s.countStreams f).fabric = s.fabric := by
  simp [State.countStreams]

@[simp] theorem State.fabric_publishStreams : s.publishStreams.fabric = s.fabric := by simp [State.publishStreams]
@[simp] theorem State.fabric_endClosing : s.endClosing.fabric = s.fabric := by simp [State.endClosing]

end

/-! ### The partner node -/

section
variable (s : State)

@[simp] theorem State.fabric_onFrame (type : Nat) (f : OuvFrame) {act : State → State} (h : ∀ u : State,
    (act u).fabric = u.fabric) :
    (s.onFrame type f act).fabric = s.fabric := by
  simp [State.onFrame, h]

@[simp] theorem State.fabric_sendHeartbeat : s.sendHeartbeat.fabric = s.fabric := by simp [State.sendHeartbeat]
@[simp] theorem State.fabric_inStep : s.inStep.fabric = s.fabric := by simp [State.inStep]
@[simp] theorem State.fabric_judgePartner : s.judgePartner.fabric = s.fabric := by simp [State.judgePartner]
@[simp] theorem fabric_doHeartbeat (f : OuvFrame) : (doHeartbeat f s).fabric = s.fabric := by simp [doHeartbeat]
@[simp] theorem fabric_doPartnerLost : (doPartnerLost s).fabric = s.fabric := by simp [doPartnerLost]

@[simp] theorem State.fabric_sendAck (seq status : Nat) : (s.sendAck seq status).fabric = s.fabric := by
  simp [State.sendAck]

@[simp] theorem State.fabric_takeConfig (seq l : Nat) (items : Tbl Nat) :
    (s.takeConfig seq l items).fabric = s.fabric := by
  simp [State.takeConfig]

@[simp] theorem fabric_doConfig (f : OuvFrame) : (doConfig f s).fabric = s.fabric := by simp [doConfig]

@[simp] theorem fabric_doConfigTimeout : (doConfigTimeout s).fabric = s.fabric := by
  unfold doConfigTimeout
  split <;> simp

@[simp] theorem fabric_doImage (f : OuvFrame) : (doImage f s).fabric = s.fabric := by simp [doImage]

@[simp] theorem State.fabric_imageSentinels (w : List (Nat × Nat)) : (s.imageSentinels w).fabric = s.fabric := by
  simp [State.imageSentinels]

@[simp] theorem State.fabric_applyWords (w : List (Nat × Nat)) : (s.applyWords w).fabric = s.fabric := by
  simp [State.applyWords]

@[simp] theorem State.fabric_imageTick : s.imageTick.fabric = s.fabric := by
  unfold State.imageTick
  split <;> simp

@[simp] theorem fabric_doImageSend : (doImageSend s).fabric = s.fabric := by simp [doImageSend]
@[simp] theorem State.fabric_raiseAuth : s.raiseAuth.fabric = s.fabric := by simp [State.raiseAuth]

@[simp] theorem State.fabric_tookAuth (reason : Nat) : (s.tookAuth reason).fabric = s.fabric := by
  simp [State.tookAuth]

@[simp] theorem State.fabric_dropPin : s.dropPin.fabric = s.fabric := by simp [State.dropPin]

@[simp] theorem State.fabric_dropAuth (reason : Nat) : (s.dropAuth reason).fabric = s.fabric := by
  simp [State.dropAuth]

@[simp] theorem State.fabric_authTick (inLow : Bool) : (s.authTick inLow).fabric = s.fabric := by
  unfold State.authTick
  extract_lets _ s0 s1 s2
  have h1 : s1.fabric = s.fabric := by
    unfold s1
    split <;> simp [s0]
  have h2 : s2.fabric = s.fabric := by simp [s2, h1]
  clear_value s2
  simp +zetaDelta [h2]

@[simp] theorem fabric_doAuthWatchdog : (doAuthWatchdog s).fabric = s.fabric := by simp [doAuthWatchdog]

@[simp] theorem fabric_authHandoverRes (d : Desc) : (authHandoverRes d s).st.fabric = s.fabric := by
  simp [authHandoverRes]

@[simp] theorem fabric_doHandover (f : OuvFrame) : (doHandover f s).fabric = s.fabric := by simp [doHandover]

@[simp] theorem fabric_doAck (f : OuvFrame) : (doAck f s).fabric = s.fabric := by
  refine s.fabric_onFrame _ _ fun u => ?_
  split
  · rfl
  · extract_lets seq _ s1
    have h1 : u.fabric = s1.fabric := by
      unfold s1
      split <;> simp
    clear_value s1
    split <;> simp [h1]

@[simp] theorem fabric_doHandTimeout : (doHandTimeout s).fabric = s.fabric := by
  unfold doHandTimeout
  split <;> simp

@[simp] theorem fabric_doHandBoundary : (doHandBoundary s).fabric = s.fabric := by
  unfold doHandBoundary
  split <;> simp

@[simp] theorem fabric_doAuthIn (level : Bool) : (doAuthIn level s).fabric = s.fabric := by
  unfold doAuthIn
  dsimp only
  split <;> simp

@[simp] theorem fabric_doOuvLink (st : Nat) : (doOuvLink st s).fabric = s.fabric := by simp [doOuvLink]

end

/-! ### Plan images -/

section
variable (s : State)

@[simp] theorem State.fabric_setPw (new : Nat) : (s.setPw new).fabric = s.fabric := by simp [State.setPw]
@[simp] theorem State.fabric_resetSh : s.resetSh.fabric = s.fabric := by simp [State.resetSh]
@[simp] theorem State.fabric_planBase (p : PlanImage) : (s.planBase p).fabric = s.fabric := by simp [State.planBase]

@[simp] theorem State.fabric_placeLanes (c : Nat) : (s.placeLanes c).fabric = s.fabric := by
  unfold State.placeLanes
  refine State.fabric_foldl _ _ fun a k => ?_
  dsimp only
  split
  · rfl
  · split <;> simp

@[simp] theorem State.fabric_loadCode (p : PlanImage) (on : Nat → Bool) (upsets : List (Nat × Nat × BitVec 64)) :
    (s.loadCode p on upsets).fabric = s.fabric := by
  simp [State.loadCode]

@[simp] theorem State.fabric_loadLanes (p : PlanImage) (on : Nat → Bool) : (s.loadLanes p on).fabric = s.fabric := by
  simp [State.loadLanes]

@[simp] theorem State.fabric_startTests (d : Nat) (all : Bool) : (s.startTests d all).fabric = s.fabric := by
  simp [State.startTests]

@[simp] theorem State.fabric_diesIn (rails : List Bool) : (s.diesIn rails).fabric = s.fabric := by simp [State.diesIn]

@[simp] theorem State.fabric_install (p : PlanImage) (rails : List Bool) : (s.install p rails).fabric = s.fabric := by
  simp [State.install]

@[simp] theorem State.fabric_dropShow : s.dropShow.fabric = s.fabric := by simp [State.dropShow]
@[simp] theorem State.fabric_noPlan : s.noPlan.fabric = s.fabric := by simp [State.noPlan]

@[simp] theorem fabric_doEngineStop : (doEngineStop s).fabric = s.fabric := by
  unfold doEngineStop
  split <;> simp

@[simp] theorem State.fabric_stopPlan : s.stopPlan.fabric = s.fabric := by simp [State.stopPlan]

@[simp] theorem fabric_doPlanComplete (e : LoadEnv) : (doPlanComplete e s).fabric = s.fabric := by
  unfold doPlanComplete
  split <;> simp

@[simp] theorem State.fabric_loadDie (p : PlanImage) (d : Nat) : (s.loadDie p d).fabric = s.fabric := by
  simp [State.loadDie]

@[simp] theorem State.fabric_reloadAlts (d : Nat) : (s.reloadAlts d).fabric = s.fabric := by simp [State.reloadAlts]

@[simp] theorem fabric_doReload (d : Nat) (good : Bool) : (doReload d good s).fabric = s.fabric := by
  unfold doReload
  dsimp only
  (repeat' split) <;> simp

@[simp] theorem fabric_planUnloadRes : (planUnloadRes s).st.fabric = s.fabric := by simp [planUnloadRes]
@[simp] theorem fabric_standbyRes : (standbyRes s).st.fabric = s.fabric := by simp [standbyRes]
@[simp] theorem fabric_wakeRes : (wakeRes s).st.fabric = s.fabric := by simp [wakeRes]
@[simp] theorem fabric_powerStateRes (d : Desc) : (powerStateRes d s).st.fabric = s.fabric := by simp [powerStateRes]

end

/-! ### Control of the DMA channels -/

section
variable (s : State)

@[simp] theorem State.fabric_setBit (f : Fld) (i : Nat) (b : Bool) : (s.setBit f i b).fabric = s.fabric := by
  simp [State.setBit]

@[simp] theorem State.fabric_setDmaState (c st : Nat) : (s.setDmaState c st).fabric = s.fabric := by
  simp [State.setDmaState]

@[simp] theorem State.fabric_onCh (c : Nat) (f : DmaCh → DmaCh) : (s.onCh c f).fabric = s.fabric := by
  simp [State.onCh]

@[simp] theorem State.fabric_raise (line beats : Nat) : (s.raise line beats).fabric = s.fabric := by
  unfold State.raise
  split <;> simp

@[simp] theorem State.fabric_followLink (c link : Nat) : (s.followLink c link).fabric = s.fabric := by
  simp [State.followLink]

@[simp] theorem State.fabric_dmaStart (c : Nat) : (s.dmaStart c).fabric = s.fabric := by simp [State.dmaStart]
@[simp] theorem State.fabric_dmaStop (c : Nat) : (s.dmaStop c).fabric = s.fabric := by simp [State.dmaStop]
@[simp] theorem State.fabric_dmaAppend (c : Nat) : (s.dmaAppend c).fabric = s.fabric := by simp [State.dmaAppend]

@[simp] theorem State.fabric_eachBit (w : Nat) {f : State → Nat → State}
    (h : ∀ (u : State) (n : Nat), (f u n).fabric = u.fabric) :
    (s.eachBit w f).fabric = s.fabric :=
  State.fabric_foldl _ _ h

end

/-! ### The serial audio ports -/

section
variable (s : State)

@[simp] theorem State.fabric_setSp (p : Nat) (x : SapS) : (s.setSp p x).fabric = s.fabric := by simp [State.setSp]

@[simp] theorem State.fabric_onSlot (p k : Nat) (f : SapSlot → SapSlot) : (s.onSlot p k f).fabric = s.fabric := by
  simp [State.onSlot]

@[simp] theorem State.fabric_beginMask (p fs : Nat) : (s.beginMask p fs).fabric = s.fabric := by
  unfold State.beginMask
  dsimp only
  split <;> simp

@[simp] theorem State.fabric_takeMask (p : Nat) : (s.takeMask p).fabric = s.fabric := by
  unfold State.takeMask
  dsimp only
  split <;> simp

@[simp] theorem State.fabric_stepMask (p fs : Nat) : (s.stepMask p fs).fabric = s.fabric := by simp [State.stepMask]
@[simp] theorem fabric_sapStart (p : Nat) : (sapStart p s).fabric = s.fabric := by simp [sapStart]
@[simp] theorem State.fabric_sapHalt (p : Nat) : (s.sapHalt p).fabric = s.fabric := by simp [State.sapHalt]
@[simp] theorem fabric_sapStop (p : Nat) : (sapStop p s).fabric = s.fabric := by simp [sapStop]
@[simp] theorem fabric_sapArm (p : Nat) : (sapArm p s).fabric = s.fabric := by simp [sapArm]
@[simp] theorem State.fabric_sapEnter (p : Nat) : (s.sapEnter p).fabric = s.fabric := by simp [State.sapEnter]
@[simp] theorem State.fabric_stepStop (p : Nat) : (s.stepStop p).fabric = s.fabric := by simp [State.stepStop]
@[simp] theorem State.fabric_endStop (p : Nat) : (s.endStop p).fabric = s.fabric := by simp [State.endStop]
@[simp] theorem State.fabric_sapTake (p : Nat) : (s.sapTake p).2.fabric = s.fabric := by simp [State.sapTake]

@[simp] theorem State.fabric_sapPut (p : Nat) (block : List Word) : (s.sapPut p block).fabric = s.fabric := by
  simp [State.sapPut]

@[simp] theorem State.fabric_rxSamples (p : Nat) (rx : List Word) : (s.rxSamples p rx).1.fabric = s.fabric := by
  unfold State.rxSamples
  refine State.fabric_foldl_fst _ (s, _) fun a k => ?_
  dsimp only
  split <;> simp

@[simp] theorem State.fabric_noteSlip (p m : Nat) (rep : Bool) : (s.noteSlip p m rep).fabric = s.fabric := by
  simp [State.noteSlip]

@[simp] theorem State.fabric_place (p fs : Nat) : (s.place p fs).1.fabric = s.fabric := by
  unfold State.place
  dsimp only
  (repeat' split) <;> simp

@[simp] theorem State.fabric_deliverRx (p n : Nat) (xs : List (Nat × Int)) :
    (s.deliverRx p n xs).fabric = s.fabric := by
  simp [State.deliverRx]

@[simp] theorem State.fabric_noteLate (p : Nat) (nums : List Nat) : (s.noteLate p nums).fabric = s.fabric := by
  simp [State.noteLate]

@[simp] theorem State.fabric_portRx (p : Nat) (nums : List Nat) (rx : List Word) :
    (s.portRx p nums rx).fabric = s.fabric := by
  unfold State.portRx
  dsimp only
  (repeat' split) <;> simp

@[simp] theorem State.fabric_txSlot (p k : Nat) (v : Option Int) : (s.txSlot p k v).1.fabric = s.fabric := by
  simp [State.txSlot]

@[simp] theorem State.fabric_drive (p : Nat) (vs : List (Nat × Option Int)) : (s.drive p vs).fabric = s.fabric := by
  simp [State.drive]

@[simp] theorem State.fabric_portTx (p m : Nat) : (s.portTx p m).fabric = s.fabric := by
  unfold State.portTx
  dsimp only
  (repeat' split) <;> simp

@[simp] theorem State.fabric_moveFrame (p : Nat) (rx : List Word) (fs : Nat) :
    (s.moveFrame p rx fs).fabric = s.fabric := by
  simp [State.moveFrame]

@[simp] theorem State.fabric_clockBack (p : Nat) : (s.clockBack p).fabric = s.fabric := by simp [State.clockBack]

@[simp] theorem fabric_doPortFrame (p : Nat) (rx : List Word) (fs : Nat) :
    (doPortFrame p rx fs s).fabric = s.fabric := by
  unfold doPortFrame
  dsimp only
  (repeat' split) <;> simp

@[simp] theorem fabric_doUnderrun (p : Nat) : (doUnderrun p s).fabric = s.fabric := by simp [doUnderrun]
@[simp] theorem fabric_doLossOfClock (p : Nat) : (doLossOfClock p s).fabric = s.fabric := by simp [doLossOfClock]

@[simp] theorem fabric_doRateMeasure (p : Nat) (ppb : Int) : (doRateMeasure p ppb s).fabric = s.fabric := by
  simp [doRateMeasure]

@[simp] theorem fabric_doSlipLog (p : Nat) : (doSlipLog p s).fabric = s.fabric := by
  unfold doSlipLog
  dsimp only
  split <;> simp

end

/-! ### The modulators -/

section
variable (s : State)

@[simp] theorem State.fabric_setMc (n : Nat) (x : ModCh) : (s.setMc n x).fabric = s.fabric := by simp [State.setMc]
@[simp] theorem State.fabric_showCh (n : Nat) : (s.showCh n).fabric = s.fabric := by simp [State.showCh]

@[simp] theorem State.fabric_onCh2 (n : Nat) (f : ModCh → ModCh) : (s.onCh2 n f).fabric = s.fabric := by
  simp [State.onCh2]

@[simp] theorem State.fabric_scnAt (n : Nat) (high : Bool) : (s.scnAt n high).fabric = s.fabric := by
  simp [State.scnAt]

@[simp] theorem State.fabric_eachCh (g : Nat) (f : Nat → ModCh → ModCh) : (s.eachCh g f).fabric = s.fabric := by
  simp [State.eachCh]

@[simp] theorem State.fabric_modEvent (i code : Nat) (status : Fld) :
    (s.modEvent i code status).fabric = s.fabric := by
  simp [State.modEvent]

@[simp] theorem State.fabric_chPeriod (g q : Nat) (vrail : Rat) : (s.chPeriod g q vrail).fabric = s.fabric := by
  simp [State.chPeriod]

@[simp] theorem State.fabric_measureRail (g : Nat) (v : Rat) : (s.measureRail g v).fabric = s.fabric := by
  simp [State.measureRail]

@[simp] theorem State.fabric_noteClear (g : Nat) : (s.noteClear g).fabric = s.fabric := by simp [State.noteClear]

@[simp] theorem fabric_doCarrier (g bits : Nat) : (doCarrier g bits s).fabric = s.fabric := by
  unfold doCarrier
  split
  · rfl
  · extract_lets
    split
    · rfl
    · exact (State.fabric_foldl _ _ fun a q => a.fabric_chPeriod ..).trans
        ((State.fabric_noteClear ..).trans ((State.fabric_measureRail ..).trans (State.fabric_setMg ..)))

@[simp] theorem State.fabric_groupBoot (g : Nat) : (s.groupBoot g).fabric = s.fabric := by simp [State.groupBoot]
@[simp] theorem fabric_groupOn (g : Nat) : (groupOn g s).fabric = s.fabric := by simp [groupOn]
@[simp] theorem fabric_groupOff (g : Nat) : (groupOff g s).fabric = s.fabric := by simp [groupOff]

@[simp] theorem fabric_chanEnable (n : Nat) (on : Bool) : (chanEnable n on s).fabric = s.fabric := by
  simp [chanEnable]

@[simp] theorem fabric_doRailQualified (g : Nat) : (doRailQualified g s).fabric = s.fabric := by
  simp [doRailQualified]

@[simp] theorem fabric_doBootEnd (g : Nat) : (doBootEnd g s).fabric = s.fabric := by simp [doBootEnd]

@[simp] theorem State.fabric_fadeGroup (g : Nat) (goal : Rat) (smp : Nat) :
    (s.fadeGroup g goal smp).fabric = s.fabric := by
  simp [State.fadeGroup]

@[simp] theorem State.fabric_holdGroup (g : Nat) : (s.holdGroup g).fabric = s.fabric := by simp [State.holdGroup]
@[simp] theorem State.fabric_stageOff (g : Nat) : (s.stageOff g).fabric = s.fabric := by simp [State.stageOff]
@[simp] theorem State.fabric_underOff (g : Nat) : (s.underOff g).fabric = s.fabric := by simp [State.underOff]
@[simp] theorem fabric_doUndervoltage (g : Nat) : (doUndervoltage g s).fabric = s.fabric := by simp [doUndervoltage]
@[simp] theorem fabric_doOvervoltage (g : Nat) : (doOvervoltage g s).fabric = s.fabric := by simp [doOvervoltage]

@[simp] theorem fabric_doStageFrame (g : Nat) (bits : Word) : (doStageFrame g bits s).fabric = s.fabric := by
  simp [doStageFrame]

@[simp] theorem fabric_doStatusTimeout (g : Nat) : (doStatusTimeout g s).fabric = s.fabric := by
  simp [doStatusTimeout]

@[simp] theorem State.fabric_cutProbes (g : Nat) : (s.cutProbes g).fabric = s.fabric := by simp [State.cutProbes]
@[simp] theorem fabric_doFaultRestart (g : Nat) : (doFaultRestart g s).fabric = s.fabric := by simp [doFaultRestart]

@[simp] theorem State.fabric_railBefore (g : Nat) : (s.railBefore g).fabric = s.fabric := by
  unfold State.railBefore
  dsimp only
  split <;> simp

@[simp] theorem fabric_doSenseStuck (n stream : Nat) : (doSenseStuck n stream s).fabric = s.fabric := by
  unfold doSenseStuck
  split <;> simp

@[simp] theorem fabric_doSenseClear (n stream : Nat) : (doSenseClear n stream s).fabric = s.fabric := by
  unfold doSenseClear
  split <;> simp

@[simp] theorem fabric_doScFall (n : Nat) : (doScFall n s).fabric = s.fabric := by simp [doScFall]
@[simp] theorem State.fabric_probe (n : Nat) : (s.probe n).fabric = s.fabric := by simp [State.probe]
@[simp] theorem fabric_doProbeStart (n : Nat) : (doProbeStart n s).fabric = s.fabric := by simp [doProbeStart]
@[simp] theorem fabric_doWaitExpiry (n : Nat) : (doWaitExpiry n s).fabric = s.fabric := by simp [doWaitExpiry]

@[simp] theorem fabric_doProbeResult (w : PilotWindow) : (doProbeResult w s).fabric = s.fabric := by
  simp [doProbeResult]

@[simp] theorem fabric_doRearmEnd (n : Nat) : (doRearmEnd n s).fabric = s.fabric := by simp [doRearmEnd]
@[simp] theorem fabric_scClearRes (d : Desc) : (scClearRes d s).st.fabric = s.fabric := by simp [scClearRes]
@[simp] theorem fabric_allstopRes (d : Desc) : (allstopRes d s).st.fabric = s.fabric := by simp [allstopRes]
@[simp] theorem fabric_doAllstop (d : Desc) : (doAllstop d s).fabric = s.fabric := by simp [doAllstop]
@[simp] theorem State.fabric_leaveStop (g : Nat) : (s.leaveStop g).fabric = s.fabric := by simp [State.leaveStop]
@[simp] theorem State.fabric_endStops : s.endStops.fabric = s.fabric := by simp [State.endStops]
@[simp] theorem fabric_releaseRes (d : Desc) : (releaseRes d s).st.fabric = s.fabric := by simp [releaseRes]
@[simp] theorem fabric_doMuteFall (held : Nat) : (doMuteFall held s).fabric = s.fabric := by simp [doMuteFall]
@[simp] theorem fabric_doMuteRise : (doMuteRise s).fabric = s.fabric := by simp [doMuteRise]
@[simp] theorem fabric_doPinEnd : (doPinEnd s).fabric = s.fabric := by simp [doPinEnd]
@[simp] theorem fabric_senseCalRes (d : Desc) : (senseCalRes d s).st.fabric = s.fabric := by simp [senseCalRes]

@[simp] theorem fabric_doCalibration (n : Nat) (i v : Int) : (doCalibration n i v s).fabric = s.fabric := by
  unfold doCalibration
  split <;> simp

@[simp] theorem fabric_doCalTimeout (n : Nat) : (doCalTimeout n s).fabric = s.fabric := by
  unfold doCalTimeout
  split <;> simp

@[simp] theorem State.fabric_fadeMods (all : List DestBlock) (miss : List Nat) :
    (s.fadeMods all miss).1.fabric = s.fabric := by
  unfold State.fadeMods
  refine State.fabric_foldl_fst _ (s, _) fun a i => ?_
  dsimp only
  split
  · split <;> simp
  · simp

@[simp] theorem State.fabric_modTick : s.modTick.fabric = s.fabric := by simp [State.modTick]

end

/-! ### The Tilca sentinels -/

section
variable (s : State)

@[simp] theorem State.fabric_setTc (n : Nat) (x : TilCh) : (s.setTc n x).fabric = s.fabric := by simp [State.setTc]
@[simp] theorem State.fabric_setTg (g : Nat) (x : TilG) : (s.setTg g x).fabric = s.fabric := by simp [State.setTg]

@[simp] theorem fabric_sentSetRes (d : Desc) : (sentSetRes d s).st.fabric = s.fabric := by
  unfold sentSetRes
  (repeat' split) <;> simp

@[simp] theorem fabric_doSentEffect (n : Nat) : (doSentEffect n s).fabric = s.fabric := by
  unfold doSentEffect
  dsimp only
  split <;> simp

@[simp] theorem State.fabric_excursion (n f : Nat) : (s.excursion n f).fabric = s.fabric := by simp [State.excursion]

@[simp] theorem State.fabric_chanStep (n : Nat) : (s.chanStep n).fabric = s.fabric := by
  unfold State.chanStep
  dsimp only
  split <;> simp

@[simp] theorem State.fabric_groupStep (g : Nat) : (s.groupStep g).fabric = s.fabric := by
  unfold State.groupStep
  dsimp only
  split <;> simp

@[simp] theorem State.fabric_showTil (g : Nat) : (s.showTil g).fabric = s.fabric := by simp [State.showTil]
@[simp] theorem State.fabric_showSum : s.showSum.fabric = s.fabric := by simp [State.showSum]

@[simp] theorem State.fabric_sentinel (g f : Nat) (feeds : List ChanFeed) (step : Bool) :
    (s.sentinel g f feeds step).fabric = s.fabric := by
  simp [State.sentinel]

@[simp] theorem State.fabric_dueRecords : s.dueRecords.fabric = s.fabric := by
  unfold State.dueRecords
  exact State.fabric_foldl _ _ fun a n => by split <;> simp

@[simp] theorem State.fabric_sentinels (s0 : State) (f : Nat) (feeds : List ChanFeed) (ce : List Nat) :
    (s0.sentinels f feeds ce).fabric = s0.fabric := by
  simp [State.sentinels]

@[simp] theorem fabric_doFeedMiss (g : Nat) : (doFeedMiss g s).fabric = s.fabric := by simp [doFeedMiss]

@[simp] theorem State.fabric_logAlarm (n i : Nat) (w : PilotWindow) : (s.logAlarm n i w).fabric = s.fabric := by
  unfold State.logAlarm
  split <;> simp

@[simp] theorem State.fabric_capture (n : Nat) (w : PilotWindow) : (s.capture n w).fabric = s.fabric := by
  unfold State.capture
  dsimp only
  split <;> simp

@[simp] theorem fabric_doPilotWindow (w : PilotWindow) : (doPilotWindow w s).fabric = s.fabric := by
  simp [doPilotWindow]

@[simp] theorem fabric_zCaptureRes (d : Desc) : (zCaptureRes d s).st.fabric = s.fabric := by simp [zCaptureRes]

@[simp] theorem fabric_doCaptureTimeout (n : Nat) : (doCaptureTimeout n s).fabric = s.fabric := by
  unfold doCaptureTimeout
  split <;> simp

@[simp] theorem State.fabric_logSent (g cause : Nat) : (s.logSent g cause).fabric = s.fabric := by
  simp [State.logSent]

@[simp] theorem State.fabric_sentDown (g : Nat) : (s.sentDown g).fabric = s.fabric := by simp [State.sentDown]

@[simp] theorem fabric_doSentFault (g cause : Nat) : (doSentFault g cause s).fabric = s.fabric := by
  simp [doSentFault]

@[simp] theorem fabric_doSentRestarted (g : Nat) : (doSentRestarted g s).fabric = s.fabric := by
  unfold doSentRestarted
  dsimp only
  (repeat' split) <;> simp

@[simp] theorem fabric_doSentTimeout (g : Nat) : (doSentTimeout g s).fabric = s.fabric := by simp [doSentTimeout]

@[simp] theorem fabric_sentRestartRes (d : Desc) : (sentRestartRes d s).st.fabric = s.fabric := by
  simp [sentRestartRes]

@[simp] theorem fabric_sentStatRes (d : Desc) : (sentStatRes d s).st.fabric = s.fabric := by simp [sentStatRes]

end

/-! ### The tick -/

section
variable (s : State)

@[simp] theorem State.fabric_loseInputs (f : Nat) (lost : List Nat) : (s.loseInputs f lost).fabric = s.fabric := by
  simp [State.loseInputs]

@[simp] theorem State.fabric_closeWindow : s.closeWindow.fabric = s.fabric := by simp [State.closeWindow]
@[simp] theorem fabric_doEddyClose : (doEddyClose s).fabric = s.fabric := by simp [doEddyClose]
@[simp] theorem fabric_doCutoff (s0 : State) : (doCutoff s0).fabric = s0.fabric := by simp [doCutoff]

@[simp] theorem State.fabric_noteFinish (s0 : State) (e : FinishEnv) : (s0.noteFinish e).fabric = s0.fabric := by
  simp [State.noteFinish]

@[simp] theorem State.fabric_noteLoad : s.noteLoad.fabric = s.fabric := by simp [State.noteLoad]
@[simp] theorem fabric_doFinish (e : FinishEnv) : (doFinish e s).fabric = s.fabric := by simp [doFinish]

@[simp] theorem fabric_doPrefetchMiss (die n : Nat) : (doPrefetchMiss die n s).fabric = s.fabric := by
  simp [doPrefetchMiss]

@[simp] theorem fabric_doWriteMiss : (doWriteMiss s).fabric = s.fabric := by simp [doWriteMiss]
@[simp] theorem State.fabric_outvote (d : Nat) : (s.outvote d).fabric = s.fabric := by simp [State.outvote]
@[simp] theorem State.fabric_diverged : s.diverged.fabric = s.fabric := by simp [State.diverged]

@[simp] theorem State.fabric_compare (f : Nat) : (s.compare f).1.fabric = s.fabric := by
  unfold State.compare
  dsimp only
  (repeat' split) <;> simp

@[simp] theorem State.fabric_blocksFor (f : Nat) : (s.blocksFor f).1.fabric = s.fabric := by
  unfold State.blocksFor
  dsimp only
  (repeat' split) <;> simp

@[simp] theorem State.fabric_publishCounts : s.publishCounts.fabric = s.fabric := by simp [State.publishCounts]

@[simp] theorem State.fabric_publishLate (f : Nat) : (s.publishLate f).fabric = s.fabric := by
  simp [State.publishLate]

@[simp] theorem State.fabric_showLoad : s.showLoad.fabric = s.fabric := by
  unfold State.showLoad
  dsimp only
  split <;> simp

@[simp] theorem State.fabric_showOverruns : s.showOverruns.fabric = s.fabric := by simp [State.showOverruns]
@[simp] theorem State.fabric_dropLeft (f : Nat) : (s.dropLeft f).fabric = s.fabric := by simp [State.dropLeft]

@[simp] theorem State.fabric_delayWrites (dies : List Nat) : (s.delayWrites dies).fabric = s.fabric := by
  simp [State.delayWrites]

@[simp] theorem State.fabric_flip (s0 : State) (f : Nat) (e : FlipEnv) : (s0.flip f e).fabric = s0.fabric := by
  simp [State.flip]

@[simp] theorem State.fabric_joinDies (f : Nat) : (s.joinDies f).fabric = s.fabric := by
  unfold State.joinDies
  refine State.fabric_foldl _ _ fun a d => ?_
  dsimp only
  split
  · split
    · simp
    · split <;> simp
  · simp

@[simp] theorem State.fabric_beginFrame (f : Nat) : (s.beginFrame f).fabric = s.fabric := by simp [State.beginFrame]

@[simp] theorem State.fabric_boundaryWork (e : FlipEnv) (f : Nat) : (s.boundaryWork e f).fabric = s.fabric := by
  simp [State.boundaryWork]

@[simp] theorem fabric_doTick (e : FlipEnv) : (doTick e s).fabric = s.fabric := by simp [doTick]

@[simp] theorem fabric_doEngineStart : (doEngineStart s).fabric = s.fabric := by
  unfold doEngineStart
  split <;> simp

@[simp] theorem fabric_doReEpoch (_refTime : Nat) : (doReEpoch _refTime s).fabric = s.fabric := by
  unfold doReEpoch
  split <;> simp -implicitDefEqProofs

end

/-! ### Power and start-up -/

section
variable (s : State)

@[simp] theorem State.fabric_mramBack : s.mramBack.fabric = s.fabric := by
  unfold State.mramBack
  split <;> simp

@[simp] theorem State.fabric_roleMap (c : Nat) : (s.roleMap c).fabric = s.fabric := by simp [State.roleMap]
@[simp] theorem State.fabric_logInstall (i : Nat) : (s.logInstall i).fabric = s.fabric := by simp [State.logInstall]

@[simp] theorem State.fabric_bootKeys (kek had : Bool) : (s.bootKeys kek had).fabric = s.fabric := by
  simp [State.bootKeys]

@[simp] theorem State.fabric_bootTrips : s.bootTrips.fabric = s.fabric := by simp [State.bootTrips]
@[simp] theorem State.fabric_showVbat (mv10 : Nat) : (s.showVbat mv10).fabric = s.fabric := by simp [State.showVbat]
@[simp] theorem State.fabric_halt (why : Nat) : (s.halt why).fabric = s.fabric := by simp [State.halt]

@[simp] theorem State.fabric_stewardUp (i : Nat) (rejected : List (Nat × Nat × Nat)) (had : Bool) (b : BootEnv) :
    (s.stewardUp i rejected had b).fabric = s.fabric := by
  simp [State.stewardUp]

@[simp] theorem State.fabric_boot (had : Bool) (b : BootEnv) : (s.boot had b).fabric = s.fabric := by
  unfold State.boot
  dsimp only
  (repeat' split) <;> simp

@[simp] theorem State.fabric_resumeMirrors (old : State) : (s.resumeMirrors old).fabric = s.fabric := by
  unfold State.resumeMirrors
  refine State.fabric_foldl _ _ fun a x => ?_
  dsimp only
  split <;> simp

@[simp] theorem fabric_doSupplyTrip (rail : Nat) : (doSupplyTrip rail s).fabric = s.fabric := by simp [doSupplyTrip]
@[simp] theorem fabric_doBackupPowerOn : (doBackupPowerOn s).fabric = s.fabric := by simp [doBackupPowerOn]
@[simp] theorem fabric_doVbat : (doVbat s).fabric = s.fabric := by simp [doVbat]

end

/-! ### Accesses to register space -/

section
variable (s : State)

@[simp] theorem State.fabric_clr (fs : List Fld) : (s.clr fs).fabric = s.fabric := by simp [State.clr]
@[simp] theorem State.fabric_clrWords (os : List Nat) : (s.clrWords os).fabric = s.fabric := by simp [State.clrWords]

@[simp] theorem State.fabric_clearAt (off : Nat) : (s.clearAt off).fabric = s.fabric := by
  unfold State.clearAt
  (repeat' split) <;> simp

@[simp] theorem State.fabric_hookTime (old : State) (off : Nat) (w : Word) :
    (s.hookTime old off w).fabric = s.fabric := by
  unfold State.hookTime
  (repeat' split) <;> simp

@[simp] theorem State.fabric_hookRef (old : State) (off : Nat) : (s.hookRef old off).fabric = s.fabric := by
  unfold State.hookRef
  (repeat' split) <;> simp

@[simp] theorem State.fabric_hookSap (off : Nat) (w : Word) : (s.hookSap off w).fabric = s.fabric := by
  unfold State.hookSap
  (repeat' split) <;> simp

@[simp] theorem State.fabric_hookMod (old : State) (off : Nat) (w : Word) :
    (s.hookMod old off w).fabric = s.fabric := by
  unfold State.hookMod
  (repeat' split) <;> simp

@[simp] theorem State.fabric_hookHost (old : State) (off : Nat) : (s.hookHost old off).fabric = s.fabric := by
  unfold State.hookHost
  (repeat' split) <;> simp

@[simp] theorem State.fabric_hookDma (off : Nat) (w : Word) : (s.hookDma off w).fabric = s.fabric := by
  unfold State.hookDma
  split <;> simp

@[simp] theorem State.fabric_hookSys (q : Requester) (off : Nat) (w : Word) :
    (s.hookSys q off w).fabric = s.fabric := by
  simp [State.hookSys]

@[simp] theorem State.fabric_hook (old : State) (q : Requester) (off : Nat) (w : Word) :
    (s.hook old q off w).fabric = s.fabric := by
  unfold State.hook
  dsimp only
  split <;> simp

@[simp] theorem State.fabric_writeMapped (q : Requester) (off : Nat) (fs : List RField) (w : Word) :
    (s.writeMapped q off fs w).fabric = s.fabric := by
  simp [State.writeMapped]

@[simp] theorem State.fabric_writeReg (q : Requester) (off : Nat) (w : Word) :
    (s.writeReg q off w).fabric = s.fabric := by
  unfold State.writeReg
  (repeat' split) <;> simp

@[simp] theorem State.fabric_readLatch (q : Requester) (off : Nat) : (s.readLatch q off).fabric = s.fabric := by
  simp [State.readLatch]

@[simp] theorem fabric_regWriteRes (d : Desc) : (regWriteRes d s).st.fabric = s.fabric := by simp [regWriteRes]

end

/-! ### Responses, retries and the DMA engines -/

section
variable (s : State)

@[simp] theorem State.fabric_performRead (m t a n : Nat) : (s.performRead m t a n).fabric = s.fabric := by
  simp [State.performRead]

@[simp] theorem State.fabric_setBurst (b : Burst) : (s.setBurst b).fabric = s.fabric := by simp [State.setBurst]

@[simp] theorem State.fabric_hostPart (a : Nat) (l : List HeldByte) : (s.hostPart a l).fabric = s.fabric := by
  simp [State.hostPart]

@[simp] theorem State.fabric_fabricPart (c uid a : Nat) (l : List HeldByte) :
    (s.fabricPart c uid a l).2.fabric = s.fabric := by
  unfold State.fabricPart
  split <;> simp

@[simp] theorem State.fabric_burstOut (b : Burst) : (s.burstOut b).fabric = s.fabric := by
  unfold State.burstOut
  dsimp only
  split <;> simp

@[simp] theorem State.fabric_dmaResponse (x : BusTxn) (data : List Byte) (err : Bool) (cite : Option Nat) :
    (s.dmaResponse x data err cite).fabric = s.fabric := by
  unfold State.dmaResponse
  split <;> simp

@[simp] theorem State.fabric_sendBack (x : BusTxn) (data : List Byte) (err : Bool) (cite : Option Nat) :
    (s.sendBack x data err cite).fabric = s.fabric := by
  simp [State.sendBack]

@[simp] theorem State.fabric_writeBacks (blocks : List Nat) : (s.writeBacks blocks).fabric = s.fabric := by
  simp [State.writeBacks]

@[simp] theorem fabric_doRespTimeout (t : Nat) : (doRespTimeout t s).fabric = s.fabric := by
  unfold doRespTimeout
  (repeat' split) <;> simp

@[simp] theorem State.fabric_noteUe (block : Nat) : (s.noteUe block).fabric = s.fabric := by simp [State.noteUe]

@[simp] theorem State.fabric_uncorrectable (block master : Nat) :
    (s.uncorrectable block master).fabric = s.fabric := by
  simp [State.uncorrectable]

@[simp] theorem fabric_doRetry (flips : List (Nat × Nat)) : (doRetry flips s).fabric = s.fabric := by
  unfold doRetry
  (repeat' split) <;> simp

@[simp] theorem fabric_doWriteback (block : Nat) : (doWriteback block s).fabric = s.fabric := by simp [doWriteback]

@[simp] theorem fabric_doScrub (block : Nat) (flips : List (Nat × Nat)) :
    (doScrub block flips s).fabric = s.fabric := by
  unfold doScrub
  dsimp only
  (repeat' split) <;> simp

@[simp] theorem State.fabric_readPart (c uid a n beat : Nat) : (s.readPart c uid a n beat).2.fabric = s.fabric := by
  unfold State.readPart
  split <;> simp

@[simp] theorem fabric_doBurst (e : Nat) (data : List Byte) (rdErr wrErr : Option Nat) :
    (doBurst e data rdErr wrErr s).fabric = s.fabric := by
  unfold doBurst
  dsimp only
  (repeat' split) <;> simp

@[simp] theorem State.fabric_barLink (c : Nat) : (s.barLink c).fabric = s.fabric := by simp [State.barLink]
@[simp] theorem fabric_doTailPoll (c link : Nat) : (doTailPoll c link s).fabric = s.fabric := by simp [doTailPoll]

end

end Sys2Proof.Machine
end

section
/-! Writes to the fabric memories (R729, R743): what a write of bytes does to a memory, which bytes the responses of
targets, the DMA descriptors and the package resets may change, and that no command breaks the memories' form or the
bound on postponed refreshes. -/
namespace Sys2Proof.Machine

/-! ### The fabric memories (R729, R743) -/

theorem Memory.read_write (m : List Host.Cell) (a b : Nat) (v : Byte) :
    Memory.read (Memory.write m a v) b = if b = a then v else Memory.read m b :=
  tblGet_tblSet _ _ _ _ _

theorem Memory.wf_write {m : List Host.Cell} (h : Memory.wf m = true) (a : Nat) (v : Byte) :
    Memory.wf (Memory.write m a v) = true :=
  tblWf_tblSet _ _ _ _ h

theorem Memory.read_writeN (m : List Host.Cell) (a b : Nat) (data : List Byte) (ks : List Bool)
    (hlen : ks.length = data.length) :
    Memory.read (Memory.writeN m a data ks) b =
      if a ≤ b ∧ ks.getD (b - a) false = true then data.getD (b - a) 0 else Memory.read m b := by
  induction data generalizing m a ks with
  | nil => simp [List.length_eq_zero_iff.1 hlen, Memory.writeN]
  | cons v data ih =>
    obtain _ | ⟨k, ks⟩ := ks
    · simp at hlen
    rw [Memory.writeN, ih _ _ _ (by simpa using hlen)]
    obtain hlt | rfl | hgt := Nat.lt_trichotomy b a
    · have hread : Memory.read (if k then Memory.write m a v else m) b = Memory.read m b := by
        cases k <;> simp [Memory.read_write, Nat.ne_of_lt hlt]
      rw [hread, if_neg (by omega : ¬ (a + 1 ≤ b ∧ _)), if_neg (by omega : ¬ (a ≤ b ∧ _))]
    · cases k <;> simp [Memory.read_write]
    · obtain ⟨d, rfl⟩ : ∃ d, b = a + 1 + d := ⟨b - (a + 1), by omega⟩
      have hsucc : a + 1 + d - a = d + 1 := by omega
      have hread : Memory.read (if k then Memory.write m a v else m) (a + 1 + d) = Memory.read m (a + 1 + d) := by
        cases k <;> simp [Memory.read_write, Nat.ne_of_gt hgt]
      rw [hread, hsucc, Nat.add_sub_cancel_left, List.getD_cons_succ, List.getD_cons_succ]
      simp [Nat.add_assoc]

theorem Memory.wf_writeN {m : List Host.Cell} (h : Memory.wf m = true) (a : Nat) (data : List Byte) (ks : List Bool) :
    Memory.wf (Memory.writeN m a data ks) = true := by
  induction data generalizing m a ks with
  | nil => exact h
  | cons v data ih =>
    obtain _ | ⟨k, ks⟩ := ks
    · exact h
    cases k
    · exact ih h _ _
    · exact ih (Memory.wf_write h a v) _ _

/-- Whatever the strobes, a write of bytes reaches none outside its range. -/
theorem Memory.read_writeN_outside (m : List Host.Cell) {a b : Nat} {data : List Byte} (ks : List Bool)
    (h : b < a ∨ a + data.length ≤ b) : Memory.read (Memory.writeN m a data ks) b = Memory.read m b := by
  induction data generalizing m a ks with
  | nil => rfl
  | cons v data ih =>
    obtain _ | ⟨k, ks⟩ := ks
    · rfl
    rw [List.length_cons] at h
    rw [Memory.writeN, ih _ _ (by omega)]
    cases k <;> simp [Memory.read_write, show b ≠ a by omega]

theorem Memory.read_filter {p : Host.Cell → Bool} {a : Nat} (h : ∀ v, p (a, v) = true) (m : List Host.Cell) :
    Memory.read (m.filter p) a = Memory.read m a := by
  unfold Memory.read
  induction m with
  | nil => rfl
  | cons e m ih =>
    obtain ⟨b, v⟩ := e
    by_cases hb : b = a
    · subst hb; simp [tblGet, h]
    · by_cases hp : p (b, v) = true <;> simp [tblGet, hp, hb, ih]

/-! ### Which bytes change -/

theorem State.mem_of_fabric {s t : State} (h : t.fabric = s.fabric) : t.bus.mem = s.bus.mem := congrArg Prod.fst h

theorem State.post_of_fabric {s t : State} (h : t.fabric = s.fabric) : t.dram.post = s.dram.post := congrArg Prod.snd h

/-- No rank holds more than 8 postponed refreshes (R764). -/
def State.PostBounded (s : State) : Prop := ∀ k, mapGetD s.dram.post k 0 ≤ 8

/-- From `s` to `t` no byte of the fabric memories outside `A` changes, and both invariants of the fabric are kept. -/
structure State.StoresIn (A : Nat → Prop) (s t : State) : Prop where
  post : s.PostBounded → t.PostBounded
  canon : s.MemCanon → t.MemCanon
  read : ∀ a, ¬ A a → Memory.read t.bus.mem a = Memory.read s.bus.mem a

namespace State.StoresIn
variable {A B : Nat → Prop} {s t u : State}

theorem of_fabric (h : t.fabric = s.fabric) : State.StoresIn A s t where
  post hs := by rw [State.PostBounded, State.post_of_fabric h]; exact hs
  canon hs := by rw [State.MemCanon, State.mem_of_fabric h]; exact hs
  read a _ := by rw [State.mem_of_fabric h]

theorem of_mem (h : t.bus.mem = s.bus.mem) (hpost : s.PostBounded → t.PostBounded) : State.StoresIn A s t where
  post := hpost
  canon hs := by rw [State.MemCanon, h]; exact hs
  read a _ := by rw [h]

theorem trans (h : State.StoresIn A s t) (h' : State.StoresIn A t u) : State.StoresIn A s u where
  post hs := h'.post (h.post hs)
  canon hs := h'.canon (h.canon hs)
  read a ha := (h'.read a ha).trans (h.read a ha)

theorem mono (h : State.StoresIn A s t) (hAB : ∀ a, A a → B a) : State.StoresIn B s t where
  post := h.post
  canon := h.canon
  read a ha := h.read a (mt (hAB a) ha)

/-- What leaves the fabric after a write writes no more. -/
theorem then_fabric (h : State.StoresIn A s t) (hu : u.fabric = t.fabric) : State.StoresIn A s u := h.trans (of_fabric hu)

end State.StoresIn

/-! ### Writes at a target (R729, R743, R779, R798) -/

/-- Whether an address lies in the `n` bytes from `a`. -/
def within (a n b : Nat) : Prop := a ≤ b ∧ b < a + n

theorem not_within {a n b : Nat} : ¬ within a n b ↔ b < a ∨ a + n ≤ b := by
  unfold within
  omega

section
variable (s : State) (m t a : Nat) (data : List Byte) (ks : List Bool)

theorem State.fabric_performWrite_regs : (s.performWrite m 7 a data ks).fabric = s.fabric := by
  unfold State.performWrite
  rw [if_pos rfl]
  refine State.fabric_foldl _ _ fun u wa => ?_
  dsimp only
  split
  · simp
  · split <;> simp

theorem State.storesIn_performWrite : State.StoresIn (within a data.length) s (s.performWrite m t a data ks) := by
  by_cases ht : t = 7
  · subst ht
    exact .of_fabric (s.fabric_performWrite_regs m a data ks)
  unfold State.performWrite
  rw [if_neg ht]
  split
  · exact ⟨id, fun h => Memory.wf_writeN h _ _ _, fun b hb => Memory.read_writeN_outside _ _ (not_within.1 hb)⟩
  · exact .of_fabric rfl

theorem State.storesIn_dmaStore (c : Nat) : State.StoresIn (within a data.length) s (s.dmaStore c a data) := by
  unfold State.dmaStore
  split
  · exact .of_fabric rfl
  · split
    · exact State.storesIn_performWrite ..
    · exact .of_fabric (State.fabric_violate ..)

theorem State.storesIn_dmaStatus (c code cause index : Nat) (bad : Bool) :
    State.StoresIn (within (s.dptr c + 32) 8) s (s.dmaStatus c code cause index bad).2 := by
  unfold State.dmaStatus
  split
  · exact .of_fabric (by simp)
  · have hstore := s.storesIn_dmaStore (s.dptr c + 32) (le 1 code ++ le 1 cause ++ le 2 0 ++ le 4 index) c
    simp only [List.length_append, length_leBytes] at hstore
    refine hstore.then_fabric ?_
    dsimp only
    split
    · simp
    · split <;> simp

end

/-! ### Responses and descriptors -/

section
variable (s : State) (c : Nat)

/-- What a response of target `p` may write: the bytes of the write that it ends (R732). -/
def State.answeredBytes (s : State) (p a : Nat) : Prop :=
  ∃ x, s.answerable p = some x ∧ x.write = true ∧ within x.addr x.data.length a

theorem storesIn_doResponse (p : Nat) (e : RespEnd) : State.StoresIn (s.answeredBytes p) s (doResponse p e s) := by
  unfold doResponse
  split
  · exact .of_fabric rfl
  · next x hx =>
    dsimp only
    split
    · exact .of_fabric (State.fabric_sendBack ..)
    · split
      · next hw =>
        exact ((s.storesIn_performWrite ..).mono fun a ha => ⟨x, hx, hw, ha⟩).then_fabric (State.fabric_sendBack ..)
      · split
        · exact .of_fabric (by simp)
        · split
          · exact .of_fabric (by simp)
          · split <;> exact .of_fabric (by simp)

theorem State.dptr_violate (q : Requester) : (s.violate q).dptr c = s.dptr c := by
  unfold State.dptr State.rd
  rw [State.word_violate_other, State.word_violate_other]
  · simp [Reg.DMA.CH.DPTR_HI.ADDR, Reg.SYS.VIOL_COUNT.PCIE]; omega
  · simp [Reg.DMA.CH.DPTR_LO.ADDR, Reg.SYS.VIOL_COUNT.PCIE]; omega

theorem State.dptr_onCh (f : DmaCh → DmaCh) (n : Nat) : (s.onCh n f).dptr c = s.dptr c := rfl

theorem storesIn_doDmaFetch (d : DmaDesc) (e : Bool) :
    State.StoresIn (within (s.dptr c + 32) 8) s (doDmaFetch c d e s) := by
  unfold doDmaFetch
  extract_lets x a s0 y s1
  have hfab : s0.fabric = s.fabric := by unfold s0; split <;> simp
  have hptr : s0.dptr c = s.dptr c := by unfold s0; split <;> simp [State.dptr_violate]
  have hon : s1.fabric = s.fabric := by simp [s1, hfab]
  have hon' : s1.dptr c = s.dptr c := (State.dptr_onCh ..).trans hptr
  clear_value s1
  split
  · exact .of_fabric rfl
  split
  · refine .then_fabric (.trans (.of_fabric hon) (hon' ▸ State.storesIn_dmaStatus s1 c 3 0 0 e)) ?_
    simp
  · exact .of_fabric hon

theorem State.targetAt_eq_seven {a : Nat} (h : s.targetAt a = some 7) : 0x40000000 ≤ a ∧ a < 0x44000000 := by
  unfold State.targetAt at h
  split at h
  · have hch : (dramPlace s.dram.ecc (a - dramBase)).1 < 8 := by
      unfold dramPlace
      split <;> exact Nat.mod_lt _ (by decide)
    split at h
    · simp only [Option.some.injEq] at h; omega
    · simp at h
  · grind

theorem State.busTarget_eq_seven {m a n : Nat} (h : s.busTarget m a n = some 7) :
    0x40000000 < a + n ∧ a < 0x44000000 := by
  unfold State.busTarget at h
  split at h
  · simp at h
  · next hn =>
    split at h
    · next t u ht hu =>
      have hpos : 0 < n := by simp at hn; omega
      obtain ⟨h1, h2⟩ := s.targetAt_eq_seven (a := a) (by split at h <;> simp_all)
      omega
    · simp at h

/-- A store outside register space leaves the descriptor pointer. -/
theorem State.dptr_dmaStore {a : Nat} {data : List Byte} (h : ¬ (0x40000000 < a + data.length ∧ a < 0x44000000)) :
    (s.dmaStore c a data).dptr c = s.dptr c := by
  unfold State.dmaStore
  split
  · rfl
  · split
    · next t ht =>
      have ht7 : t ≠ 7 := fun h7 => h (s.busTarget_eq_seven (h7 ▸ ht))
      unfold State.performWrite
      rw [if_neg ht7]
      split <;> rfl
    · exact State.dptr_violate ..

/-- Where a channel's check record goes, when its descriptor asks for one (R794). -/
def State.recordBytes (s : State) (c a : Nat) : Prop :=
  ∃ d, (s.dmaCh c).desc = some d ∧ descChk d ≠ 0 ∧ within d.chka 8 a

/-- Whether a channel's check record may reach register space, where it may move the descriptor pointer. -/
def State.recordsRegs (s : State) (c : Nat) : Prop :=
  ∃ d, (s.dmaCh c).desc = some d ∧ descChk d ≠ 0 ∧ 0x40000000 < d.chka + 8 ∧ d.chka < 0x44000000

theorem length_checkRecord (chk : Nat) (l : List Byte) (bad : Bool) : (checkRecord chk l bad).length = 8 := by
  simp [checkRecord, length_leBytes]

/-- What a completed descriptor may write: its status word and its check record; anything, where the record may move the
descriptor pointer (R794, R798). -/
def State.completedBytes (s : State) (c a : Nat) : Prop :=
  within (s.dptr c + 32) 8 a ∨ s.recordBytes c a ∨ s.recordsRegs c

theorem storesIn_doDescDone (recordErr statusErr : Bool) (link : Nat) :
    State.StoresIn (s.completedBytes c) s (doDescDone c recordErr statusErr link s) := by
  unfold doDescDone
  extract_lets x st ended chk cont bad0 s1 lost
  split
  · exact .of_fabric rfl
  have hs1 : State.StoresIn (s.completedBytes c) s s1 ∧ (s.recordsRegs c ∨ s1.dptr c = s.dptr c) := by
    unfold s1
    split
    · exact ⟨.of_fabric rfl, .inr rfl⟩
    · next hchk =>
      cases hdesc : x.desc with
      | none => simp [chk, hdesc] at hchk
      | some d =>
        have hasks : descChk d ≠ 0 := by simp [chk, hdesc] at hchk; exact hchk.1
        have hlen := length_checkRecord chk x.wrote bad0
        refine ⟨(State.storesIn_dmaStore ..).mono fun a ha => .inr (.inl ⟨d, hdesc, hasks, hlen ▸ ha⟩), ?_⟩
        by_cases hregs : 0x40000000 < d.chka + 8 ∧ d.chka < 0x44000000
        · exact .inl ⟨d, hdesc, hasks, hregs⟩
        · exact .inr (s.dptr_dmaStore c (by rw [hlen]; exact hregs))
  clear_value s1
  obtain ⟨hs1, hptr⟩ := hs1
  have hstatus (code cause index : Nat) :
      State.StoresIn (s.completedBytes c) s (s1.dmaStatus c code cause index statusErr).2 := by
    refine hs1.trans ((s1.storesIn_dmaStatus c code cause index statusErr).mono fun a ha => ?_)
    rcases hptr with hregs | hptr
    · exact .inr (.inr hregs)
    · exact .inl (hptr ▸ ha)
  split
  next code cause index _ =>
  split
  next written s2 hs2 =>
  have h2 := hstatus code cause index
  rw [hs2] at h2
  refine h2.then_fabric ?_
  extract_lets s3
  have h3 : s3.fabric = s2.fabric := by unfold s3; split <;> simp
  clear_value s3
  (repeat' split) <;> simp [h3]

end

/-! ### Refresh and the plan's data rate (R761, R764, R765) -/

section
variable (s : State)

theorem State.fabric_switchSet (n : Nat) : (s.switchSet n).fabric = (s.bus.mem, []) := by
  unfold State.switchSet
  simp

/-- A plan's load may switch the set in use, which pays back every postponed refresh. -/
theorem State.fabric_forRate (n : Nat) : (s.forRate n).fabric = s.fabric ∨ (s.forRate n).fabric = (s.bus.mem, []) := by
  unfold State.forRate
  split
  · exact .inl rfl
  · split <;> simp [State.fabric_switchSet]

theorem fabric_planLoadRes (p : PlanImage) :
    (planLoadRes p s).st.fabric = s.fabric ∨ (planLoadRes p s).st.fabric = (s.bus.mem, []) := by
  unfold planLoadRes
  split
  · simp
  · split
    · simp
    · split
      · simp
      · split
        · simp
        · simpa using s.fabric_forRate p.minRate

theorem State.StoresIn.of_paid {A : Nat → Prop} {t : State} (h : t.fabric = (s.bus.mem, [])) : State.StoresIn A s t :=
  .of_mem (congrArg Prod.fst h) fun _ k => by
    rw [show t.dram.post = [] from congrArg Prod.snd h]
    exact Nat.zero_le 8

variable {A : Nat → Prop}

theorem storesIn_planLoad (d : Desc) (p : PlanImage) : State.StoresIn A s (hostCmd 0x18 roleE d (planLoadRes p) s) := by
  obtain h | ⟨u, hu, h⟩ := fabric_hostCmd_cases s 0x18 roleE d (planLoadRes p)
  · exact .of_fabric h
  · obtain hp | hp := fabric_planLoadRes u p
    · exact .of_fabric (h.trans (hp.trans hu))
    · exact .of_paid s (h.trans (hp.trans (by rw [State.mem_of_fabric hu])))

theorem storesIn_doFreqChange : State.StoresIn A s (doFreqChange s) := by
  unfold doFreqChange
  split
  · exact .of_fabric rfl
  · split
    · exact .of_paid s (by simp [State.fabric_switchSet])
    · exact .of_fabric rfl

theorem storesIn_doRefreshDue (c r : Nat) : State.StoresIn A s (doRefreshDue c r s) := by
  unfold doRefreshDue
  extract_lets k n
  split
  · exact .of_fabric rfl
  · split
    · exact .of_fabric (by simp)
    · next hn =>
      refine .of_mem rfl fun hs j => ?_
      rw [State.post_of_fabric (State.fabric_showPost _)]
      change mapGetD (mapSet s.dram.post k (n + 1)) j 0 ≤ 8
      by_cases hj : j = k
      · rw [hj, mapGetD_mapSet_same]
        omega
      · rw [mapGetD_mapSet_other _ _ _ hj]
        exact hs j

theorem storesIn_doPayback (k : Nat) : State.StoresIn A s (doPayback k s) := by
  unfold doPayback
  split
  · exact .of_fabric rfl
  · refine .of_mem rfl fun hs j => ?_
    rw [State.post_of_fabric (State.fabric_showPost _)]
    change mapGetD (mapErase s.dram.post k) j 0 ≤ 8
    unfold mapGetD
    by_cases hj : j = k
    · rw [hj, mapGet_mapErase_same]
      decide
    · rw [mapErase, mapGet_tblErase_other _ hj]
      exact hs j

/-! ### Package resets (R903) -/

/-- A package reset clears what the fabric holds outside MRAM and ROM, and the postponed refreshes. -/
theorem State.storesIn_packageReset : State.StoresIn (fun a => addrKept a = false) s s.packageReset where
  post _ k := Nat.zero_le 8
  canon h := tblWf_filter _ _ _ h
  read a ha := Memory.read_filter (fun _ => by simpa using ha) _

theorem storesIn_doPowerOn (b : BootEnv) : State.StoresIn (fun a => addrKept a = false) s (doPowerOn b s) := by
  unfold doPowerOn
  refine .then_fabric (.trans (.of_fabric s.fabric_mramBack) s.mramBack.storesIn_packageReset) ?_
  simp

theorem storesIn_doIodReset (c : ResetCause) (b : BootEnv) :
    State.StoresIn (fun a => addrKept a = false) s (doIodReset c b s) := by
  unfold doIodReset
  exact s.storesIn_packageReset.then_fabric (by simp)

theorem storesIn_doIodRow (c : ResetCause) (b : BootEnv) :
    State.StoresIn (fun a => addrKept a = false) s (doIodRow c b s) := by
  unfold doIodRow
  split
  · exact .of_fabric rfl
  · split
    · split
      · exact .of_fabric rfl
      · exact .trans (.of_fabric (s.fabric_reach _)) (storesIn_doIodReset ..)
    · exact storesIn_doIodReset ..
    · exact storesIn_doIodReset ..
    · exact storesIn_doIodReset ..

theorem storesIn_doLockstep (b : BootEnv) : State.StoresIn (fun a => addrKept a = false) s (doLockstep b s) :=
  .trans (.of_fabric (s.fabric_dropAuth 3)) (storesIn_doIodRow ..)

end

/-! ### Every command -/

/-- The bytes of the fabric memories that a command may change. -/
def State.storedBy (s : State) : Instr → Nat → Prop
  | .targetResponse p _ => s.answeredBytes p
  | .dmaDescriptorFetch n _ _ => within (s.dptr n + 32) 8
  | .dmaDescriptorComplete n _ _ _ => s.completedBytes n
  | .powerOnReset _ | .iodReset _ _ | .stewardWatchdog _ | .stewardLockstepMismatch _ => fun a => addrKept a = false
  | _ => fun _ => False

/-- Every command changes no other bytes than its own, and keeps both invariants. -/
theorem exec_storesIn {c : Instr} {s t : State} (h : exec c s = .next t) : State.StoresIn (s.storedBy c) s t := by
  cases c
  case targetResponse p e => cases h; exact storesIn_doResponse s p e
  case dmaDescriptorFetch n d e => cases h; exact storesIn_doDmaFetch s n d e
  case dmaDescriptorComplete n e f l => cases h; exact storesIn_doDescDone s n e f l
  case powerOnReset b => cases h; exact storesIn_doPowerOn s b
  case iodReset k b => cases h; exact storesIn_doIodRow s k b
  case stewardWatchdog b => cases h; exact storesIn_doIodRow s .watchdog b
  case stewardLockstepMismatch b => cases h; exact storesIn_doLockstep s b
  case planLoad d p =>
    rw [exec_planLoad] at h
    cases h
    split
    · exact .of_fabric rfl
    · exact storesIn_planLoad s d p
  case frequencyChange => cases h; exact storesIn_doFreqChange s
  case refreshDue c r => cases h; exact storesIn_doRefreshDue s c r
  case refreshPayback k => cases h; exact storesIn_doPayback s k
  -- Every other command leaves the fabric, by the rule of its function.
  all_goals
    cases h
    refine .of_fabric ?_
    simp

end Sys2Proof.Machine
end

section
/-! The statements about the fabric memories and the refreshes. -/
namespace Sys2Proof.Machine

theorem step_keeps_fabric {s t : State} (h : step s = .next t) :
    (s.MemCanon → t.MemCanon) ∧ (s.PostBounded → t.PostBounded) := by
  unfold step at h
  split at h
  · cases h
    exact ⟨id, id⟩
  · next c rest _ =>
    have hexec := exec_storesIn h
    exact ⟨hexec.canon, hexec.post⟩

/-- Settles O56: every command keeps the form, whatever bytes it writes. -/
theorem stepKeepsMemoryCanonical : Obligations.StepKeepsMemoryCanonical := by
  unfold Obligations.StepKeepsMemoryCanonical
  exact fun s t hs h => (step_keeps_fabric h).1 hs

/-- Settles O49: the three cases of a due refresh, and the bound by the frame of every command. -/
theorem aRefreshIsPostponedAtMostEightTimes : Obligations.ARefreshIsPostponedAtMostEightTimes := by
  unfold Obligations.ARefreshIsPostponedAtMostEightTimes
  refine ⟨?room, ?full, ?noWait, ?bound⟩
  case room =>
    intro c r k s hc hr hk hwaits hroom
    rw [exec_refreshDue, doRefreshDue_of_room hc hr hk hwaits rfl hroom]
    refine ⟨_, rfl, ?_, ?_⟩
    · rw [State.post_of_fabric (State.fabric_showPost _)]
      exact mapGetD_mapSet_same ..
    · unfold State.showPost
      rw [State.rd_wr_apart _ _ _ _ rfl rfl rfl]
      rfl
  case full =>
    intro c r k s hc hr hk hwaits hfull
    rw [exec_refreshDue, doRefreshDue_of_full hc hr hk hwaits hfull]
    exact ⟨_, rfl, State.count_dram .., State.rd_count_same _ _ _ rfl⟩
  case noWait =>
    intro c r s hwaits
    rw [exec_refreshDue, doRefreshDue_of_no_wait hwaits]
  case bound =>
    exact fun s t hs h => (step_keeps_fabric h).2 hs

/-- Settles O58: each clause names the bytes that its command may change. -/
theorem onlyResponsesDescriptorsAndResetsWriteMemory : Obligations.OnlyResponsesDescriptorsAndResetsWriteMemory := by
  unfold Obligations.OnlyResponsesDescriptorsAndResetsWriteMemory
  refine ⟨?others, ?response, ?fetch, ?complete, ?reset⟩
  case others =>
    intro c s t h hresp hfetch hdone hpower hiod hdog hlock a
    refine (exec_storesIn h).read a ?_
    have hnone : s.storedBy c = fun _ => False := by
      unfold State.storedBy
      split
      · exact absurd rfl (hresp _ _)
      · exact absurd rfl (hfetch _ _ _)
      · exact absurd rfl (hdone _ _ _ _)
      · exact absurd rfl (hpower _)
      · exact absurd rfl (hiod _ _)
      · exact absurd rfl (hdog _)
      · exact absurd rfl (hlock _)
      · rfl
    simp [hnone]
  case response =>
    intro p e s t h a ha
    refine (exec_storesIn h).read a ?_
    rintro ⟨x, hx, hw, hin⟩
    exact not_within.2 (ha x hx hw) hin
  case fetch =>
    intro n d e s t h a ha
    exact (exec_storesIn h).read a (not_within.2 (by omega))
  case complete =>
    intro n l e f s t h hregs a ha hrecord
    refine (exec_storesIn h).read a ?_
    rintro (hstatus | ⟨d, hd, hchk, hin⟩ | ⟨d, hd, hchk, hlo, hhi⟩)
    · exact not_within.2 (by omega) hstatus
    · rcases hrecord d hd with h0 | hout
      · exact hchk h0
      · exact not_within.2 hout hin
    · rcases hregs d hd with h0 | hout
      · exact hchk h0
      · omega
  case reset =>
    intro k b c s t hc h a ha
    refine (exec_storesIn h).read a ?_
    have hnot : ¬ addrKept a = false := by simp [ha]
    simp only [List.mem_cons, List.not_mem_nil, or_false] at hc
    rcases hc with rfl | rfl | rfl | rfl <;> exact hnot

theorem mayWrite_sram (m a : Nat) : mayWrite m 4 a = true := rfl

theorem State.mem_performWrite_sram (s : State) (m a : Nat) (data : List Byte) (ks : List Bool) :
    (s.performWrite m 4 a data ks).bus.mem = Memory.writeN s.bus.mem a data ks := by
  have hwritable : s.writable 4 = true := rfl
  simp [State.performWrite, hwritable, mayWrite_sram]

/-- Settles O60: the law of the memory, and SRAM as one such memory. -/
theorem memoryReadsWhatWasWritten : Obligations.MemoryReadsWhatWasWritten := by
  unfold Obligations.MemoryReadsWhatWasWritten
  refine ⟨Memory.read_writeN, fun m a data ks h => Memory.wf_writeN h a data ks, ?_⟩
  intro x l s hx hw hlen
  refine ⟨_, exec_targetResponse 4 _ s, fun b => ?_⟩
  rw [doResponse_of_write hx (.inl rfl) hw, State.mem_of_fabric (State.fabric_sendBack ..), State.mem_performWrite_sram]
  exact Memory.read_writeN _ _ _ _ _ hlen

end Sys2Proof.Machine
end

section
/-! The DMA engines (R779 to R810): descriptor fetches, requests, bursts, completions and tail polls, each by the case in
which it acts, and what a write of START, STOP or APPEND makes of the one channel that it names. -/
namespace Sys2Proof.Machine

theorem exec_dmaDescriptorFetch (c : Nat) (d : DmaDesc) (e : Bool) (s : State) :
    exec (.dmaDescriptorFetch c d e) s = .next (doDmaFetch c d e s) := rfl

theorem exec_dmaRequest (line beats : Nat) (s : State) :
    exec (.dmaRequest line beats) s =
      .next (if 80 ≤ line then s else s.raise line (if 72 ≤ line then 0 else beats)) := rfl

theorem exec_dmaBurstIssue (e : Nat) (data : List Byte) (rdErr wrErr : Option Nat) (s : State) :
    exec (.dmaBurstIssue e data rdErr wrErr) s = .next (doBurst e data rdErr wrErr s) := rfl

theorem exec_dmaDescriptorComplete (c : Nat) (recordErr statusErr : Bool) (link : Nat) (s : State) :
    exec (.dmaDescriptorComplete c recordErr statusErr link) s = .next (doDescDone c recordErr statusErr link s) := rfl

theorem exec_tailwaitPoll (c link : Nat) (s : State) : exec (.tailwaitPoll c link) s = .next (doTailPoll c link s) := rfl

theorem exec_dmaStart (q : Requester) (v : Word) (s : State) :
    exec (.dmaStart q v) s = .next (s.writeReg q 0x170004 v) := rfl

theorem exec_dmaStop (q : Requester) (v : Word) (s : State) :
    exec (.dmaStop q v) s = .next (s.writeReg q 0x170008 v) := rfl

theorem exec_dmaAppend (q : Requester) (v : Word) (s : State) :
    exec (.dmaAppend q v) s = .next (s.writeReg q 0x17000C v) := rfl

/-! ### The channels and their registers -/

section
variable {s : State} {c : Nat}

theorem State.dmaCh_onCh_same (hc : c < s.dma.chans.length) (f : DmaCh → DmaCh) :
    (s.onCh c f).dmaCh c = f (s.dmaCh c) := by
  simp [State.onCh, State.dmaCh, atD, modAt, hc]

theorem State.dmaCh_of_dma {t : State} (h : t.dma = s.dma) : t.dmaCh c = s.dmaCh c := by
  unfold State.dmaCh
  rw [h]

/-- A channel with a descriptor in hand is one of the list. -/
theorem State.lt_of_dmaCh_desc {d : DmaDesc} (h : (s.dmaCh c).desc = some d) : c < s.dma.chans.length := by
  by_contra hlt
  have hnone : s.dma.chans[c]? = none := List.getElem?_eq_none (Nat.not_lt.mp hlt)
  simp [State.dmaCh, atD, hnone] at h

theorem State.rd_onCh (f : DmaCh → DmaCh) (g : Fld) : (s.onCh c f).rd g = s.rd g := rfl

@[simp] theorem State.setBit_dma (f : Fld) (i : Nat) (b : Bool) : (s.setBit f i b).dma = s.dma := by
  unfold State.setBit
  split <;> rfl

@[simp] theorem State.setDmaState_dma (st : Nat) : (s.setDmaState c st).dma = s.dma := State.setBit_dma ..

theorem State.rd_setBit_apart {f g : Fld} (i : Nat) (b : Bool) (hf : f.fits = true) (hg : g.fits = true)
    (h : f.apart g = true) : (s.setBit f i b).rd g = s.rd g := by
  unfold State.setBit
  split
  · rfl
  · exact s.rd_wr_apart f g _ hf hg h

/-- Fields of different registers share no bit. -/
theorem Fld.apart_of_off {f g : Fld} (h : f.off ≠ g.off) : f.apart g = true := by simp [Fld.apart, h]

/-- `DMA.BUSY` is none of the channels' registers. -/
theorem busy_apart {f : Fld} (h : 1507584 ≤ f.off) : Reg.DMA.BUSY.CH.apart f = true :=
  Fld.apart_of_off (Nat.ne_of_lt (Nat.lt_of_lt_of_le (by decide) h))

theorem State.rd_setDmaState_apart (st : Nat) {f : Fld} (hfits : f.fits = true) (hoff : 1507584 ≤ f.off)
    (h : (Reg.DMA.CH.STAT.STATE c).apart f = true) : (s.setDmaState c st).rd f = s.rd f := by
  unfold State.setDmaState
  rw [State.rd_setBit_apart _ _ rfl hfits (busy_apart hoff), State.rd_wr_apart _ _ _ _ rfl hfits h]

/-- A channel's status and its configuration are different registers. -/
theorem stat_apart_cfg (c lo w lo' w' : Nat) :
    Fld.apart ⟨1507588 + 16 * c, lo, w⟩ ⟨1507584 + 16 * c, lo', w'⟩ = true :=
  Fld.apart_of_off (by simp)

theorem State.rd_cfgErr_setDmaState (st : Nat) :
    (s.setDmaState c st).rd (Reg.DMA.CH.CFG.ERR c) = s.rd (Reg.DMA.CH.CFG.ERR c) :=
  State.rd_setDmaState_apart st rfl (Nat.le_add_right ..) (stat_apart_cfg ..)

theorem State.rd_wberr_setDmaState (st : Nat) :
    (s.setDmaState c st).rd (Reg.DMA.CH.STAT.WBERR c) = s.rd (Reg.DMA.CH.STAT.WBERR c) :=
  State.rd_setDmaState_apart st rfl (Nat.le_add_right_of_le (by decide))
    (by simp [Fld.apart, Reg.DMA.CH.STAT.STATE, Reg.DMA.CH.STAT.WBERR])

theorem State.dmaState_setDmaState {st : Nat} (h : st < 8) : (s.setDmaState c st).dmaState c = st := by
  unfold State.setDmaState State.dmaState
  rw [State.rd_setBit_apart _ _ rfl rfl (busy_apart (Nat.le_add_right_of_le (by decide))), State.rd_wr_same _ _ _ rfl]
  exact Nat.mod_eq_of_lt h

end

/-! ### Start, stop and append of one channel (R785, R805 to R810) -/

section
variable {s : State} {c : Nat}

/-- An idle channel starts unless its request line is held by another (R785). -/
theorem State.dmaStart_of_free (hidle : s.dmaState c = dmaIdle)
    (hfree : s.rd (Reg.DMA.CH.CFG.REQ c) ≤ 79 →
      ∀ k < 32, k ≠ c → s.rd (Reg.DMA.CH.CFG.REQ k) = s.rd (Reg.DMA.CH.CFG.REQ c) → s.dmaState k = dmaIdle) :
    s.dmaStart c = (((s.wr (Reg.DMA.CH.CFG.ERR c) 0).wr (Reg.DMA.CH.STAT.WBERR c) 0).setDmaState c dmaRun).onCh c
      fun x => { fetch := true, append := x.append } := by
  have hheld : ¬ (decide (s.rd (Reg.DMA.CH.CFG.REQ c) ≤ 79) && (List.range 32).any fun k =>
      k != c && s.rd (Reg.DMA.CH.CFG.REQ k) == s.rd (Reg.DMA.CH.CFG.REQ c) && s.dmaState k != dmaIdle) = true := by
    simp only [Bool.and_eq_true, decide_eq_true_eq, List.any_eq_true, List.mem_range, bne_iff_ne, beq_iff_eq]
    rintro ⟨hline, k, hk, ⟨hne, hsame⟩, hbusy⟩
    exact hbusy (hfree hline k hk hne hsame)
  unfold State.dmaStart
  rw [if_neg (by simp [hidle])]
  exact if_neg hheld

theorem State.dmaStop_of_run (hrun : s.dmaState c = dmaRun) :
    s.dmaStop c = (s.onCh c fun x => { x with pend := [], fetch := false }).setDmaState c dmaStopping := if_pos hrun

theorem State.dmaAppend_of_not_tail (h : s.dmaState c ≠ dmaTail) :
    s.dmaAppend c = (s.onCh c fun x => { x with append := true }).count (Reg.DMA.CH.STAT.APPIGN c) := if_neg h

/-- A start leaves the channel running with its fetch due and its errors cleared (R785, R808). -/
theorem State.dmaStart_effect (hidle : s.dmaState c = dmaIdle) (hc : c < s.dma.chans.length)
    (hfree : s.rd (Reg.DMA.CH.CFG.REQ c) ≤ 79 →
      ∀ k < 32, k ≠ c → s.rd (Reg.DMA.CH.CFG.REQ k) = s.rd (Reg.DMA.CH.CFG.REQ c) → s.dmaState k = dmaIdle) :
    (s.dmaStart c).dmaState c = dmaRun ∧
      (s.dmaStart c).dmaCh c = { fetch := true, append := (s.dmaCh c).append } ∧
      (s.dmaStart c).rd (Reg.DMA.CH.CFG.ERR c) = 0 ∧ (s.dmaStart c).rd (Reg.DMA.CH.STAT.WBERR c) = 0 := by
  rw [State.dmaStart_of_free hidle hfree]
  refine ⟨?state, ?chan, ?err, ?wberr⟩
  case state => exact State.dmaState_setDmaState (by decide)
  case chan =>
    rw [State.dmaCh_onCh_same (by simpa using hc), State.dmaCh_of_dma (State.setDmaState_dma _)]
    rfl
  case err =>
    rw [State.rd_onCh, State.rd_cfgErr_setDmaState,
      State.rd_wr_apart _ (Reg.DMA.CH.STAT.WBERR c) (Reg.DMA.CH.CFG.ERR c) _ rfl rfl (stat_apart_cfg ..),
      State.rd_wr_same _ _ _ rfl]
    rfl
  case wberr =>
    rw [State.rd_onCh, State.rd_wberr_setDmaState, State.rd_wr_same _ _ _ rfl]
    rfl

/-- A stop leaves a running channel stopping, without requests and without a fetch (R810). -/
theorem State.dmaStop_effect (hrun : s.dmaState c = dmaRun) (hc : c < s.dma.chans.length) :
    (s.dmaStop c).dmaState c = dmaStopping ∧
      (s.dmaStop c).dmaCh c = { s.dmaCh c with pend := [], fetch := false } := by
  rw [State.dmaStop_of_run hrun]
  exact ⟨State.dmaState_setDmaState (by decide),
    (State.dmaCh_of_dma (State.setDmaState_dma _)).trans (State.dmaCh_onCh_same hc _)⟩

/-- An append outside TAILWAIT sets the flag and is counted (R805, R807). -/
theorem State.dmaAppend_effect (h : s.dmaState c ≠ dmaTail) (hc : c < s.dma.chans.length) :
    (s.dmaAppend c).dmaCh c = { s.dmaCh c with append := true } ∧ (s.dmaAppend c).dmaState c = s.dmaState c ∧
      (s.dmaAppend c).rd (Reg.DMA.CH.STAT.APPIGN c) =
        satAdd (s.rd (Reg.DMA.CH.STAT.APPIGN c)) 1 (2 ^ (Reg.DMA.CH.STAT.APPIGN c).w - 1) := by
  rw [State.dmaAppend_of_not_tail h]
  refine ⟨?chan, ?state, State.rd_count_same _ _ _ rfl⟩
  case chan => exact (State.dmaCh_of_dma (State.count_dma ..)).trans (State.dmaCh_onCh_same hc _)
  case state =>
    exact State.rd_count_apart _ _ _ _ rfl rfl (by simp [Fld.apart, Reg.DMA.CH.STAT.STATE, Reg.DMA.CH.STAT.APPIGN])

end

/-! ### A write of START, STOP or APPEND -/

/-- Two states hold the same registers of block DMA and the same engines. -/
structure State.KeepsDma (s t : State) : Prop where
  word : ∀ o, o / 0x10000 = 23 → t.word o = s.word o
  dma : t.dma = s.dma

section
variable {s t : State}

theorem State.KeepsDma.rd (h : s.KeepsDma t) {f : Fld} (hf : f.off / 0x10000 = 23) : t.rd f = s.rd f := by
  unfold State.rd
  rw [h.word _ hf]

/-- The registers of the channels lie in block DMA. -/
theorem chFld_block {c n : Nat} (hc : c < 32) (hn : 1507584 ≤ n) (hn' : n ≤ 1507596) :
    (n + 16 * c) / 0x10000 = 23 := by
  omega

theorem State.KeepsDma.dmaState (h : s.KeepsDma t) {c : Nat} (hc : c < 32) : t.dmaState c = s.dmaState c :=
  h.rd (chFld_block hc (by decide) (by decide))

theorem State.KeepsDma.dmaCh (h : s.KeepsDma t) (c : Nat) : t.dmaCh c = s.dmaCh c := State.dmaCh_of_dma h.dma

theorem State.keepsDma_showEval (s old : State) : s.KeepsDma (s.showEval old) where
  word o ho :=
    s.word_showEval old (by rintro rfl; exact absurd ho (by decide)) (by rintro rfl; exact absurd ho (by decide))
  dma := by
    unfold State.showEval
    dsimp only
    split <;> simp

/-- Storing a word that a register holds keeps all registers. -/
theorem State.keepsDma_setWord_word (s : State) (o : Nat) : s.KeepsDma (s.setWord o (s.word o)) where
  word p _ := by
    rw [State.word_setWord]
    split
    · next h => rw [h]
    · rfl
  dma := State.setWord_dma ..

end

theorem eachBit_two_pow {c : Nat} (hc : c < 32) (s : State) (f : State → Nat → State) :
    s.eachBit (BitVec.ofNat 32 (2 ^ c)).toNat f = f s c := by
  have hword : (BitVec.ofNat 32 (2 ^ c)).toNat = 2 ^ c :=
    (BitVec.toNat_ofNat ..).trans (Nat.mod_eq_of_lt (Nat.pow_lt_pow_right (by decide) hc))
  have hbits : ((List.range 32).filter fun k => (2 ^ c).testBit k) = [c] := by
    revert c
    decide
  rw [State.eachBit, hword, hbits]
  rfl

/-- The control registers of block DMA have one field, which a write acts on and does not store. -/
theorem regFields_dmaControl : ∀ o ∈ [0x170004, 0x170008, 0x17000C], regFields o = some [⟨0, 32, .wo, 0⟩] := by
  decide +kernel

theorem clearOffs_dmaControl :
    ∀ o ∈ [0x170004, 0x170008, 0x17000C], clearOffs.contains o = false ∧ o / 0x10000 = 23 := by decide

/-- A write of a control register of block DMA runs the block's hook, and keeps the block else. -/
theorem State.writeReg_dmaControl {s : State} {q : Requester} {o : Nat} {fs : List RField} (hw : s.Writes q o fs)
    (ho : o ∈ [0x170004, 0x170008, 0x17000C]) (v : Word) :
    ∃ u, s.KeepsDma u ∧ (u.hookDma o v).KeepsDma (s.writeReg q o v) := by
  obtain ⟨hclear, hblock⟩ := clearOffs_dmaControl o ho
  refine ⟨s.setWord o (s.word o), s.keepsDma_setWord_word o, ?_⟩
  obtain rfl : [⟨0, 32, .wo, 0⟩] = fs := Option.some.inj ((regFields_dmaControl o ho).symm.trans hw.mapped)
  rw [State.writeReg_of_writes hw]
  unfold State.writeMapped State.hook
  simp only [hclear, hblock, Bool.false_and]
  exact State.keepsDma_showEval ..

/-- With the one bit of a channel written, the hook is the register's act on that channel. -/
theorem State.writeReg_oneChannel {s : State} {q : Requester} {o c : Nat} {fs : List RField}
    {act : State → Nat → State} (hc : c < 32) (hw : s.Writes q o fs) (ho : o ∈ [0x170004, 0x170008, 0x17000C])
    (hact : ∀ (u : State) (v : Word), u.hookDma o v = u.eachBit v.toNat act) :
    ∃ u, s.KeepsDma u ∧ (act u c).KeepsDma (s.writeReg q o (BitVec.ofNat 32 (2 ^ c))) := by
  obtain ⟨u, hu, hkeeps⟩ := State.writeReg_dmaControl hw ho (BitVec.ofNat 32 (2 ^ c))
  rw [hact, eachBit_two_pow hc] at hkeeps
  exact ⟨u, hu, hkeeps⟩

/-! ### Descriptor fetches and requests (R782, R786) -/

section
variable {s : State} {c : Nat} {d y : DmaDesc}

section
variable (hc : c < 32) (hfetch : (s.dmaCh c).fetch = true) (hrun : s.dmaState c = dmaRun)
  (hbars : s.dmaBars c (s.dptr c) 64 = false)
  (hy : y = if dmaHost (s.dptr c) then d else dmaDescOf (s.dmaLoad c (s.dptr c) 64))
include hc hfetch hrun hbars hy

/-- A due fetch outside a violation takes the descriptor, and halts the channel on one that it refuses (R782). -/
theorem doDmaFetch_of_due (e : Bool) :
    doDmaFetch c d e s =
      let s1 := s.onCh c fun x => { desc := some y, pend := x.pend, append := x.append, polled := x.polled }
      if dmaDescBad (s.dmaLine c) y then
        let s2 := (s1.dmaStatus c 3 0 0 e).2
        (s2.log 0x0602 (s2.dmaEntry c 0)).setDmaState c dmaHalted
      else s1 := by
  have hdue : ¬ (32 ≤ c || !(s.dmaCh c).fetch || s.dmaState c ≠ dmaRun) = true := by
    simp [hc, hfetch, hrun]
  unfold doDmaFetch
  dsimp only
  rw [if_neg hdue, if_neg (by simp [hbars] : ¬ s.dmaBars c (s.dptr c) 64 = true), ← hy]

end

section
variable {line : Nat} (hline : s.lineCh line = some c) (beats : Nat)
include hline

theorem State.raise_of_room (hlive : s.dmaState c = dmaRun ∨ s.dmaState c = dmaTail)
    (hroom : (s.dmaCh c).pend.length < 4) :
    s.raise line beats = s.onCh c fun x => { x with pend := x.pend ++ [beats] } := by
  unfold State.raise
  rw [hline]
  exact if_pos (by simpa [hroom] using hlive)

theorem State.raise_of_full (hfull : 4 ≤ (s.dmaCh c).pend.length) :
    s.raise line beats = (s.count (Reg.DMA.CH.STAT.REQLOST c)).siltWrite 0x0604 [] := by
  unfold State.raise
  rw [hline]
  exact if_neg (by simp [hfull])

end
end

/-! ### Bursts (R787 to R791) -/

/-- The side of a channel that issues: what it has issued, and the requests that wait. -/
def DmaCh.issueSide (x : DmaCh) : Nat × Nat × Nat × List Nat := (x.issued, x.src, x.reqs, x.pend)

/-- A channel that has issued a burst of `n` beats of `w` bytes, for `r` of its requests. -/
def DmaCh.issue (x : DmaCh) (n w r : Nat) : DmaCh :=
  { x with issued := x.issued + n, src := x.src + n * w, reqs := x.reqs + r, pend := x.pend.drop 1 }

/-- The engines after channel `c` has issued a burst of `n` beats of `w` bytes, for `r` of its requests. -/
def State.issueBurst (s : State) (c n w r : Nat) : State :=
  ({ s with dma := { s.dma with uid := s.dma.uid + 1 } } : State).onCh c fun x => x.issue n w r

theorem State.dmaCh_issueBurst {s : State} {c : Nat} (hc : c < s.dma.chans.length) (n w r : Nat) :
    (s.issueBurst c n w r).dmaCh c = (s.dmaCh c).issue n w r := State.dmaCh_onCh_same hc _

/-- The issuing side of the engines: the next burst's number, and the issuing side of every channel.  The write stage
leaves it alone. -/
def State.issueSide (s : State) : Nat × List (Nat × Nat × Nat × List Nat) :=
  (s.dma.uid, s.dma.chans.map DmaCh.issueSide)

theorem State.dmaCh_issueSide_of {s t : State} (h : t.issueSide = s.issueSide) (c : Nat) :
    (t.dmaCh c).issueSide = (s.dmaCh c).issueSide := by
  have hside (u : State) : (u.dmaCh c).issueSide = (u.issueSide.2[c]?).getD (0, 0, 0, []) := by
    simp only [State.dmaCh, atD, State.issueSide, List.getElem?_map]
    cases u.dma.chans[c]? <;> rfl
  rw [hside, hside, h]

/-- A change of one element that a map does not see leaves the mapped list. -/
theorem map_modAt_of_keeps {α β : Type} {g : α → β} {f : α → α} (h : ∀ x, g (f x) = g x) (l : List α) (i : Nat) :
    (modAt l i f).map g = l.map g := by
  unfold modAt
  cases hx : l[i]? with
  | none => rfl
  | some x =>
    obtain ⟨hi, rfl⟩ := List.getElem?_eq_some_iff.mp hx
    rw [List.map_set, h, ← List.getElem_map g (h := by simpa using hi), List.set_getElem_self]

theorem DmaCh.issueSide_note (x : DmaCh) (cause beat : Nat) (cite : Option Nat) :
    (x.note cause beat cite).issueSide = x.issueSide := by
  unfold DmaCh.note
  split
  · split <;> rfl
  · rfl

section
variable (s : State)

theorem State.issueSide_onCh (c : Nat) {f : DmaCh → DmaCh} (h : ∀ x, (f x).issueSide = x.issueSide) :
    (s.onCh c f).issueSide = s.issueSide := by
  unfold State.issueSide State.onCh
  rw [map_modAt_of_keeps h]

theorem State.issueSide_setBurst (b : Burst) : (s.setBurst b).issueSide = s.issueSide := rfl

theorem State.issueSide_hostPart (a : Nat) (l : List HeldByte) : (s.hostPart a l).issueSide = s.issueSide := rfl

theorem State.issueSide_enqueue (x : BusTxn) : (s.enqueue x).issueSide = s.issueSide := rfl

theorem State.issueSide_violate (q : Requester) : (s.violate q).issueSide = s.issueSide := rfl

theorem State.issueSide_sapTake (p : Nat) : (s.sapTake p).2.issueSide = s.issueSide := rfl

theorem State.issueSide_sapPut (p : Nat) (block : List Word) : (s.sapPut p block).issueSide = s.issueSide := by
  unfold State.sapPut
  dsimp only
  split <;> rfl

theorem State.issueSide_fabricPart (c uid a : Nat) (l : List HeldByte) :
    (s.fabricPart c uid a l).2.issueSide = s.issueSide := by
  unfold State.fabricPart
  split
  · exact s.issueSide_violate _
  · exact s.issueSide_enqueue _

theorem State.issueSide_readPart (c uid a n beat : Nat) : (s.readPart c uid a n beat).2.issueSide = s.issueSide := by
  unfold State.readPart
  split
  · exact s.issueSide_violate _
  · exact s.issueSide_enqueue _

theorem State.issueSide_foldl {α : Type} {f : State → α → State} (h : ∀ a x, (f a x).issueSide = a.issueSide)
    (l : List α) : (l.foldl f s).issueSide = s.issueSide :=
  List.foldlRecOn l f (motive := fun t => t.issueSide = s.issueSide) rfl fun a ha x _ => (h a x).trans ha

theorem State.issueSide_foldl_snd {α : Type} {f : Nat × State → α → Nat × State}
    (h : ∀ a x, (f a x).2.issueSide = a.2.issueSide) (l : List α) (n : Nat) :
    (l.foldl f (n, s)).2.issueSide = s.issueSide :=
  List.foldlRecOn l f (motive := fun t => t.2.issueSide = s.issueSide) rfl fun a ha x _ => (h a x).trans ha

/-- The write stage of a burst moves the holding register, the destination and the errors alone (R783, R791). -/
theorem State.issueSide_burstOut (b : Burst) : (s.burstOut b).issueSide = s.issueSide := by
  unfold State.burstOut
  dsimp only
  split
  · exact s.issueSide_setBurst _
  · split
    · rw [State.issueSide_setBurst, State.issueSide_sapPut, State.issueSide_onCh]
      exact fun _ => rfl
    split
    · rw [State.issueSide_setBurst, State.issueSide_onCh]
      exact fun _ => rfl
    split
    · -- host memory: each part is stored, or its failed write is noted
      rw [State.issueSide_setBurst, State.issueSide_foldl, State.issueSide_onCh]
      · exact fun _ => rfl
      · rintro a ⟨o, k⟩
        dsimp only
        split
        · exact a.issueSide_onCh _ fun x => x.issueSide_note ..
        · exact a.issueSide_hostPart ..
    · -- the fabric: each part is a transaction, or a violation
      rw [State.issueSide_setBurst, State.issueSide_foldl_snd, State.issueSide_onCh]
      · exact fun _ => rfl
      · exact fun a x => a.2.issueSide_fabricPart ..

end

section
variable {s : State} {e c : Nat} {d : DmaDesc} {data : List Byte} {rdErr wrErr : Option Nat}

/-- The granted channel issues its burst, which neither reading nor writing the data takes back (R788 to R790). -/
theorem issueSide_doBurst (he : e < 2) (hroom : (s.dma.flight.filter fun b => b.ch / 16 == e).length < 8)
    (hpick : s.dmaPick e = some c) (hdesc : (s.dmaCh c).desc = some d) :
    (doBurst e data rdErr wrErr s).issueSide = (s.issueBurst c
      (if lineCounted (s.dmaLine c) then (s.dmaCh c).pend.headD 0 else min (descBlen d) (d.count - (s.dmaCh c).issued))
      (descSrcW d) (if s.dmaLine c < 80 then 1 else 0)).issueSide := by
  unfold doBurst
  extract_lets inEngine uid dma
  rw [if_pos (by simp [inEngine, he, hroom]), hpick]
  dsimp -zeta only
  extract_lets x line asked q
  split
  · next hnone => exact absurd (hnone.symm.trans hdesc) (by simp)
  next d' hd =>
  obtain rfl : d' = d := Option.some.inj (hd.symm.trans hdesc)
  extract_lets n w got b s1 s2 base ps full
  have hs2 : s2.issueSide = (s.issueBurst c n w (if line < 80 then 1 else 0)).issueSide := rfl
  clear_value s2
  rw [← hs2]
  split
  · -- a receive line: the data is the port's next block
    rw [State.issueSide_burstOut, State.issueSide_sapTake]
  split
  · -- host memory or the NAND engine: the data comes with the command
    split
    · exact State.issueSide_burstOut ..
    · extract_lets s3
      rw [State.issueSide_burstOut, State.issueSide_onCh]
      exact fun x => x.issueSide_note ..
  · -- the fabric: each part is a transaction, or reads zeros in a violation
    rw [apply_ite State.issueSide, State.issueSide_burstOut, State.issueSide_setBurst, ite_self,
      State.issueSide_foldl_snd]
    exact fun a x => a.2.issueSide_readPart ..

end

/-! ### Completion and tail polls (R794 to R806) -/

section
variable {s u : State} {c link : Nat} {d : DmaDesc}

theorem State.dmaStatus_written (c code cause index : Nat) : (s.dmaStatus c code cause index false).1 = true := rfl

/-- A descriptor whose transfers have all ended completes without error (R798, R803). -/
theorem doDescDone_of_ok (hc : c < 32) (hrun : s.dmaState c = dmaRun) (hfetch : (s.dmaCh c).fetch = false)
    (herr : (s.dmaCh c).err = none) (hleft : s.dmaLeft c = 0) (hflight : s.dmaFlight c = 0)
    (hdesc : (s.dmaCh c).desc = some d) (hchk : descChk d = 0)
    (hu : u = (s.dmaStatus c 1 0 (s.dmaCh c).issued false).2) :
    doDescDone c false false link s = (u.barLink c).followLink c (u.readLink c link) := by
  subst hu
  simp [doDescDone, hc, hrun, hfetch, herr, hleft, hflight, hdesc, hchk, State.dmaStatus_written, dmaRun, dmaStopping]

/-- A stopping channel without a descriptor ends once its bursts have (R810). -/
theorem doDescDone_of_stopping (hc : c < 32) (hstop : s.dmaState c = dmaStopping) (hflight : s.dmaFlight c = 0)
    (hdesc : (s.dmaCh c).desc = none) (hu : u = (s.dmaStatus c 4 0 (s.dmaCh c).issued false).2) :
    doDescDone c false false link s =
      (u.onCh c fun y => { polled := y.polled, append := y.append }).setDmaState c dmaIdle := by
  subst hu
  simp [doDescDone, hc, hstop, hflight, hdesc, State.dmaStatus_written]

/-- An error without CONT is logged and halts the channel (R799, R802). -/
theorem doDescDone_of_error {k i : Nat} (hc : c < 32) (hrun : s.dmaState c = dmaRun)
    (hfetch : (s.dmaCh c).fetch = false) (herr : (s.dmaCh c).err = some (k, i)) (hflight : s.dmaFlight c = 0)
    (hdesc : (s.dmaCh c).desc = some d) (hchk : descChk d = 0) (hcont : descCont d = false)
    (hu : u = (s.dmaStatus c 2 k i false).2) :
    doDescDone c false false link s = (u.log 0x0601 (u.dmaEntry c i) (s.dmaCh c).cite).setDmaState c dmaHalted := by
  subst hu
  simp [doDescDone, hc, hrun, hfetch, herr, hflight, hdesc, hchk, hcont, State.dmaStatus_written, dmaRun, dmaStopping]

theorem doTailPoll_of_due (hc : c < 32) (htail : s.dmaState c = dmaTail)
    (hdue : (s.dmaCh c).append = true ∨ (s.rd (Reg.DMA.CH.CFG.POLL c) ≠ 0 ∧
      (s.dmaCh c).polled + s.rd (Reg.DMA.CH.CFG.POLL c) * 1000 ≤ s.run)) :
    doTailPoll c link s = (s.barLink c).followLink c (s.readLink c link) := by
  unfold doTailPoll
  exact if_neg (by simpa [hc, htail, or_iff_not_imp_left] using hdue)

end

/-- Settles O42: each row of the channels, by the case that the statement names. -/
theorem dmaRowsTakeEffect : Obligations.DmaRowsTakeEffect := by
  unfold Obligations.DmaRowsTakeEffect
  refine ⟨?fetched, ?refused, ?request, ?burst, ?done, ?stopped, ?failed, ?polled, ?start, ?stop, ?append⟩
  case fetched =>
    intro c d y e s hc hfetch hrun hbars hy hgood
    rw [exec_dmaDescriptorFetch, doDmaFetch_of_due hc hfetch hrun hbars hy]
    dsimp only
    rw [if_neg (by simp [hgood])]
  case refused =>
    rintro c d y s u hc hfetch hrun hbars hy hbad rfl
    rw [exec_dmaDescriptorFetch, doDmaFetch_of_due hc hfetch hrun hbars hy]
    dsimp only
    rw [if_pos hbad]
  case request =>
    intro line beats c s hrange hline hlive
    rw [exec_dmaRequest, if_neg (by omega)]
    refine ⟨fun hroom => ?_, fun hfull => ?_⟩
    · rw [State.raise_of_room hline _ hlive hroom]
    · rw [State.raise_of_full hline _ hfull]
  case burst =>
    rintro e c n data re we d s he hroom hpick hdesc rfl
    have hside := issueSide_doBurst (data := data) (rdErr := re) (wrErr := we) he hroom hpick hdesc
    have hch := State.dmaCh_issueSide_of hside c
    rw [State.dmaCh_issueBurst (State.lt_of_dmaCh_desc hdesc), DmaCh.issueSide, DmaCh.issueSide, Prod.mk.injEq,
      Prod.mk.injEq, Prod.mk.injEq] at hch
    obtain ⟨hissued, hsrc, hreqs, hpend⟩ := hch
    exact ⟨_, exec_dmaBurstIssue e data re we s, hissued, hsrc, hreqs, hpend, congrArg Prod.fst hside⟩
  case done =>
    intro c link d s u hc hrun hfetch herr hleft hflight hdesc hchk hu
    rw [exec_dmaDescriptorComplete, doDescDone_of_ok hc hrun hfetch herr hleft hflight hdesc hchk hu]
  case stopped =>
    intro c link s u hc hstop hflight hdesc hu
    rw [exec_dmaDescriptorComplete, doDescDone_of_stopping hc hstop hflight hdesc hu]
  case failed =>
    intro c link k i d s u hc hrun hfetch herr hflight hdesc hchk hcont hu
    rw [exec_dmaDescriptorComplete, doDescDone_of_error hc hrun hfetch herr hflight hdesc hchk hcont hu]
  case polled =>
    intro c link s hc htail hdue
    rw [exec_tailwaitPoll, doTailPoll_of_due hc htail hdue]
  case start =>
    intro q c fs s hw hc hidle hlen hfree
    obtain ⟨u, hu, ht⟩ := State.writeReg_oneChannel (act := State.dmaStart) hc hw (by decide) fun _ _ => rfl
    have hreq (k : Nat) (hk : k < 32) : u.rd (Reg.DMA.CH.CFG.REQ k) = s.rd (Reg.DMA.CH.CFG.REQ k) :=
      hu.rd (chFld_block hk (by decide) (by decide))
    obtain ⟨hstate, hch, herr, hwberr⟩ := State.dmaStart_effect (s := u) (c := c)
      (hu.dmaState hc ▸ hidle) (hu.dma ▸ hlen ▸ hc) (by
        intro hline k hk hne hsame
        rw [hreq c hc] at hline
        rw [hreq k hk, hreq c hc] at hsame
        exact (hu.dmaState hk).trans (hfree hline k hk hne hsame))
    refine ⟨_, exec_dmaStart q _ s, (ht.dmaState hc).trans hstate, ?_,
      (ht.rd (chFld_block hc (by decide) (by decide))).trans herr,
      (ht.rd (chFld_block hc (by decide) (by decide))).trans hwberr⟩
    rw [ht.dmaCh, hch, hu.dmaCh]
  case stop =>
    intro q c fs s hw hc hrun hlen
    obtain ⟨u, hu, ht⟩ := State.writeReg_oneChannel (act := State.dmaStop) hc hw (by decide) fun _ _ => rfl
    obtain ⟨hstate, hch⟩ := State.dmaStop_effect (s := u) (hu.dmaState hc ▸ hrun) (hu.dma ▸ hlen ▸ hc)
    refine ⟨_, exec_dmaStop q _ s, (ht.dmaState hc).trans hstate, ?_⟩
    rw [ht.dmaCh, hch, hu.dmaCh]
  case append =>
    intro q c fs s hw hc htail hlen
    obtain ⟨u, hu, ht⟩ := State.writeReg_oneChannel (act := State.dmaAppend) hc hw (by decide) fun _ _ => rfl
    obtain ⟨hch, hstate, hcount⟩ := State.dmaAppend_effect (s := u) (hu.dmaState hc ▸ htail) (hu.dma ▸ hlen ▸ hc)
    have happign : u.rd (Reg.DMA.CH.STAT.APPIGN c) = s.rd (Reg.DMA.CH.STAT.APPIGN c) :=
      hu.rd (chFld_block hc (by decide) (by decide))
    refine ⟨_, exec_dmaAppend q _ s, ?_, ?_, fun hroom => ?_⟩
    · rw [ht.dmaCh, hch, hu.dmaCh]
    · rw [ht.dmaState hc, hstate, hu.dmaState hc]
    · rw [ht.rd (chFld_block hc (by decide) (by decide)), hcount, happign, satAdd]
      omega

end Sys2Proof.Machine
end

section
/-! What every command keeps: the queue of waiting commands, the canonical form of the registers, the bound of the silt
log and, but for the commands of the key store, the keys. One rule per function of the model, in the model's order. -/
namespace Sys2Proof.Machine

/-- What every command keeps: the queue of waiting commands, and with it the canonical form of the registers and the
bound of the silt log, where the state before has them. -/
structure State.Sound (s t : State) : Prop where
  queue : t.pending = s.pending
  regs : s.RegsCanon → t.RegsCanon
  silt : s.SiltBounded → t.SiltBounded

/-- The same, and the stored keys. -/
structure State.Keeps (s t : State) : Prop extends State.Sound s t where
  keys : t.sec.keys = s.sec.keys

section
variable {s t u σ : State}

theorem State.Sound.refl (s : State) : s.Sound s := ⟨rfl, id, id⟩

theorem State.Sound.trans (h : s.Sound t) (h' : t.Sound u) : s.Sound u :=
  ⟨h'.queue.trans h.queue, fun hs => h'.regs (h.regs hs), fun hs => h'.silt (h.silt hs)⟩

theorem State.Keeps.refl (s : State) : s.Keeps s := ⟨.refl s, rfl⟩

theorem State.Keeps.trans (h : s.Keeps t) (h' : t.Keeps u) : s.Keeps u :=
  ⟨h.toSound.trans h'.toSound, h'.keys.trans h.keys⟩

/-- An update of any part but the queue, the registers, the silt log, the security state and the power state. -/
theorem State.Keeps.upd (h : σ.Keeps s) {free latches time epoch ports evins starts ref host routes params gains txn plan eng
    guard ouv strm net store bus dram dma dsp0 dsp1 old past meters caps sap skimIn modCh modG muteRise modFade tilCh tilG
    lanes dramLines} :
    σ.Keeps ⟨s.pending, free, s.regs, latches, s.silt, time, epoch, ports, evins, starts, ref, host, routes, params, gains,
      txn, plan, eng, guard, ouv, strm, net, store, s.sec, s.pwr, bus, dram, dma, dsp0, dsp1, old, past, meters, caps, sap,
      skimIn, modCh, modG, muteRise, modFade, tilCh, tilG, lanes, dramLines⟩ :=
  ⟨⟨h.queue, h.regs, h.silt⟩, h.keys⟩

/-- An update of the security state that leaves the keys. -/
theorem State.Keeps.updSec (h : σ.Keeps s) {x : SecS} (hx : x.keys = s.sec.keys) : σ.Keeps { s with sec := x } :=
  ⟨⟨h.queue, h.regs, h.silt⟩, hx.trans h.keys⟩

/-- An update of the power state that leaves what MRAM held. -/
theorem State.Keeps.updPwr (h : σ.Keeps s) {x : PwrS} (hx : x.mram = s.pwr.mram) : σ.Keeps { s with pwr := x } :=
  ⟨⟨h.queue, h.regs, fun hs => ⟨(h.silt hs).1, hx ▸ (h.silt hs).2⟩⟩, h.keys⟩

theorem State.Keeps.ite {c : Prop} [Decidable c] (hs : σ.Keeps s) (ht : σ.Keeps t) : σ.Keeps (if c then s else t) := by
  split
  · exact hs
  · exact ht

theorem State.Keeps.iteRes {c : Prop} [Decidable c] {x y : Res} (hx : σ.Keeps x.st) (hy : σ.Keeps y.st) :
    σ.Keeps (if c then x else y).st := by
  split
  · exact hx
  · exact hy

/-- The same of a command's result, by the state it leaves. -/
def Res.Keeps (σ : State) (x : Res) : Prop := σ.Keeps x.st

theorem Res.Keeps.ite {c : Prop} [Decidable c] {x y : Res} (hx : σ.Keeps x.st) (hy : y.Keeps σ) :
    (if c then x else y).Keeps σ := State.Keeps.iteRes hx hy

theorem State.Keeps.iteFst {α : Type} {c : Prop} [Decidable c] {x y : State × α} (hx : σ.Keeps x.1) (hy : σ.Keeps y.1) :
    σ.Keeps (if c then x else y).1 := by
  split
  · exact hx
  · exact hy

theorem State.Keeps.iteSnd {α : Type} {c : Prop} [Decidable c] {x y : α × State} (hx : σ.Keeps x.2) (hy : σ.Keeps y.2) :
    σ.Keeps (if c then x else y).2 := by
  split
  · exact hx
  · exact hy

end

section
variable {s σ : State} {α β : Type} {l : List α}

theorem State.Keeps.foldl {f : State → α → State} (h : σ.Keeps s) (hf : ∀ a x, σ.Keeps a → σ.Keeps (f a x)) :
    σ.Keeps (l.foldl f s) := by
  induction l generalizing s with
  | nil => exact h
  | cons x l ih => exact ih (hf s x h)

theorem State.Keeps.foldl_fst {f : State × β → α → State × β} {p : State × β} (h : σ.Keeps p.1)
    (hf : ∀ a x, σ.Keeps a.1 → σ.Keeps (f a x).1) : σ.Keeps (l.foldl f p).1 := by
  induction l generalizing p with
  | nil => exact h
  | cons x l ih => exact ih (hf p x h)

theorem State.Keeps.foldl_snd {f : β × State → α → β × State} {p : β × State} (h : σ.Keeps p.2)
    (hf : ∀ a x, σ.Keeps a.2 → σ.Keeps (f a x).2) : σ.Keeps (l.foldl f p).2 := by
  induction l generalizing p with
  | nil => exact h
  | cons x l ih => exact ih (hf p x h)

end

/-! ### Registers, events, the log and time -/

section
variable {s σ : State}

theorem State.Keeps.setWord {o : Nat} {w : Word} (h : σ.Keeps s) : σ.Keeps (s.setWord o w) :=
  ⟨⟨h.queue, fun hs => s.setWord_canon o w (h.regs hs), h.silt⟩, h.keys⟩

theorem State.Keeps.resetRange {lo hi : Nat} (h : σ.Keeps s) : σ.Keeps (s.resetRange lo hi) :=
  ⟨⟨h.queue, fun hs => s.resetRange_canon lo hi (h.regs hs), h.silt⟩, h.keys⟩

theorem length_drop_le_siltSize (l : List SiltEntry) : (l.drop (l.length - siltSize)).length ≤ siltSize := by
  rw [List.length_drop]
  omega

/-- The silt log's ring overwrites its oldest entries (R850). -/
theorem State.Keeps.updSilt {l : List SiltEntry} (h : σ.Keeps s) (hl : l.length ≤ siltSize) :
    σ.Keeps { s with silt := l } :=
  ⟨⟨h.queue, h.regs, fun hs => ⟨hl, (h.silt hs).2⟩⟩, h.keys⟩

theorem State.Keeps.siltWrite {code : Nat} {data : List Byte} {cite : Option Nat} (h : σ.Keeps s) :
    σ.Keeps (s.siltWrite code data cite) := by
  unfold State.siltWrite State.wr
  exact (h.updSilt (length_drop_le_siltSize _)).setWord

theorem State.Keeps.wr {f : Fld} {v : Nat} (h : σ.Keeps s) : σ.Keeps (s.wr f v) := h.setWord

theorem State.Keeps.put {f : Fld} {b : Bool} (h : σ.Keeps s) : σ.Keeps (s.put f b) := h.wr

theorem State.Keeps.wrInt {f : Fld} {v : Int} (h : σ.Keeps s) : σ.Keeps (s.wrInt f v) := h.wr

theorem State.Keeps.wrSat {f : Fld} {v : Nat} (h : σ.Keeps s) : σ.Keeps (s.wrSat f v) := h.wr

theorem State.Keeps.count {f : Fld} {n : Nat} (h : σ.Keeps s) : σ.Keeps (s.count f n) := h.wr

theorem State.Keeps.countIf {b : Bool} {f : Fld} (h : σ.Keeps s) : σ.Keeps (s.countIf b f) := .ite h.count h

theorem State.Keeps.violate {q : Requester} (h : σ.Keeps s) : σ.Keeps (s.violate q) := h.count

theorem State.Keeps.fresh (h : σ.Keeps s) : σ.Keeps s.fresh.2 := h.upd

theorem State.Keeps.reach {ns : Nat} (h : σ.Keeps s) : σ.Keeps (s.reach ns) := .ite h.upd h

theorem State.Keeps.planStart (h : σ.Keeps s) : σ.Keeps s.planStart := .ite h.upd h

theorem State.Keeps.writeEvt {e : Evt} (h : σ.Keeps s) : σ.Keeps (s.writeEvt e) := h.upd

theorem State.Keeps.post {typ : Nat} {payload : List Byte} (h : σ.Keeps s) : σ.Keeps (s.post typ payload) :=
  .ite h.writeEvt (.ite h.upd h.upd.count)

theorem State.Keeps.drainFrom {l : List Evt} (h : σ.Keeps s) : σ.Keeps (drainFrom l s) := by
  induction l generalizing s with
  | nil =>
    unfold Machine.drainFrom
    exact h.upd
  | cons e l ih =>
    unfold Machine.drainFrom
    exact .ite (ih h.writeEvt) h.upd

theorem State.Keeps.postEdges {n i : Nat} (h : σ.Keeps s) : σ.Keeps (postEdges n i s) := by
  induction n generalizing s with
  | zero => exact h
  | succ n ih =>
    unfold Machine.postEdges
    extract_lets
    split
    · exact h
    · exact .ite h (ih (.writeEvt h.upd))

theorem State.Keeps.postInputs (h : σ.Keeps s) : σ.Keeps s.postInputs := h.foldl fun _ _ h1 => h1.postEdges

theorem State.Keeps.drainEvents (h : σ.Keeps s) : σ.Keeps s.drainEvents :=
  .ite h (.postInputs (.drainFrom (.ite h h.upd.writeEvt)))

theorem State.Keeps.log {code : Nat} {data : List Byte} {cite : Option Nat} (h : σ.Keeps s) : σ.Keeps (s.log code
    data cite) :=
  h.siltWrite.post

end

/-! ### The bus matrix -/

section
variable {s σ : State}

theorem State.Keeps.showOutst {m : Nat} (h : σ.Keeps s) : σ.Keeps (s.showOutst m) := h.wrSat

theorem State.Keeps.enqueue {t : BusTxn} (h : σ.Keeps s) : σ.Keeps (s.enqueue t) := h.upd.showOutst.put

theorem State.Keeps.respond {m : Nat} {r : BusResp} (h : σ.Keeps s) : σ.Keeps (s.respond m r) := h.upd.countIf

theorem State.Keeps.doBusRequest {r : BusReq} (h : σ.Keeps s) : σ.Keeps (doBusRequest r s) := by
  unfold Machine.doBusRequest
  refine .ite h ?_
  split
  · exact h.violate.respond
  · exact h.enqueue

theorem State.Keeps.showPort {t : Nat} (h : σ.Keeps s) : σ.Keeps (s.showPort t) := h.upd.wrSat.wrSat

theorem State.Keeps.doGrant {t : Nat} {write : Bool} (h : σ.Keeps s) : σ.Keeps (doGrant t write s) := by
  unfold Machine.doGrant
  refine .ite h ?_
  split
  · exact h
  · exact h.upd.wr.put.showPort

theorem State.Keeps.retireTxn {x : BusTxn} (h : σ.Keeps s) : σ.Keeps (s.retireTxn x) := h.upd.showOutst.showPort

theorem State.Keeps.advanceGen {m deadline : Nat} (h : σ.Keeps s) : σ.Keeps (s.advanceGen m deadline) := h.upd

theorem State.Keeps.tellLate (h : σ.Keeps s) : σ.Keeps s.tellLate := h.upd.foldl fun _ _ h1 => h1.log

theorem State.Keeps.portClosed {m wr rds : Nat} (h : σ.Keeps s) : σ.Keeps (s.portClosed m wr rds) :=
  .log (h.foldl fun _ _ h1 => .ite h1.put h1)

theorem State.Keeps.doMasterReset {m : Nat} (h : σ.Keeps s) : σ.Keeps (doMasterReset m s) :=
  .ite h (.ite h.upd.count.put.showOutst.upd.portClosed (.ite h.upd.count.put.showOutst.portClosed
    h.upd.count.put.showOutst))

theorem State.Keeps.doPortClosed {m : Nat} (h : σ.Keeps s) : σ.Keeps (doPortClosed m s) := .ite h h.upd.put.portClosed

end

/-! ### The command protocol of the host rings -/

section
variable {s σ : State}

theorem State.Keeps.okRes {result resp : List Byte} (h : σ.Keeps s) : σ.Keeps (okRes s result resp).st := h

theorem State.Keeps.failRes {status : Nat} {result : List Byte} (h : σ.Keeps s) : σ.Keeps (failRes s status
    result).st :=
  h

theorem State.Keeps.badDesc {off : Nat} (h : σ.Keeps s) : σ.Keeps (badDesc s off).st := h

theorem State.Keeps.badBuf {off : Nat} (h : σ.Keeps s) : σ.Keeps (badBuf s off).st := h

theorem State.Keeps.longRes (h : σ.Keeps s) : σ.Keeps (longRes s).st := h

theorem State.Keeps.setRing {r : Nat} {x : RingS} (h : σ.Keeps s) : σ.Keeps (s.setRing r x) := h.upd

theorem State.Keeps.showFull {r : Nat} (h : σ.Keeps s) : σ.Keeps (s.showFull r) := .ite h h.put

theorem State.Keeps.start {op : Nat} {d : Desc} (h : σ.Keeps s) : σ.Keeps (s.start op d) := h.setRing

theorem State.Keeps.writeCpl {r : Nat} {c : Cpl} {key resp : List Byte} {session : Nat} (h : σ.Keeps s) : σ.Keeps
    (s.writeCpl r c key resp session) :=
  h.setRing.upd.showFull

theorem State.Keeps.emitCpl {r : Nat} {c : Cpl} {key resp : List Byte} {session : Nat} (h : σ.Keeps s) : σ.Keeps
    (s.emitCpl r c key resp session) :=
  .ite (.ite h.upd h.put) h.writeCpl

theorem State.Keeps.finish {r status : Nat} {result resp : List Byte} (h : σ.Keeps s) : σ.Keeps (s.finish r status
    result resp) := by
  unfold State.finish
  split
  · exact h
  · exact .ite (.ite h.setRing.count.count.count h.setRing.count) (.emitCpl (.ite (.upd (.ite
    h.setRing.count.count.count h.setRing.count)) (.ite h.setRing.count.count.count h.setRing.count)))

theorem State.Keeps.finishOp {op status : Nat} {result resp : List Byte} {p : Desc → Bool} (h : σ.Keeps s) : σ.Keeps
    (s.finishOp op status result resp p) := by
  unfold State.finishOp
  split
  · exact h
  · exact h.finish

theorem State.Keeps.noteSeq {d : Desc} (h : σ.Keeps s) : σ.Keeps (s.noteSeq d) := by
  unfold State.noteSeq
  refine .ite h ?_
  split
  · exact h
  · exact .ite h.upd.wr h.upd

theorem State.Keeps.permit {op role : Nat} {d : Desc} {eff : State → Res} (h : σ.Keeps s)
    (he : ∀ u, σ.Keeps u → σ.Keeps (eff u).st) : σ.Keeps (Res.permit s op role d eff).st := by
  unfold Res.permit
  refine .iteRes h (.iteRes h (.iteRes h ?_))
  extract_lets
  split
  · exact h.noteSeq
  · exact he _ h.noteSeq

theorem State.Keeps.settle {d : Desc} {x : Res} (h : σ.Keeps s) (hx : σ.Keeps x.st) : σ.Keeps (s.settle d x) :=
  .ite hx (.ite h.noteSeq.finish hx.finish)

theorem State.Keeps.pumpUnknown {n r : Nat} (h : σ.Keeps s) : σ.Keeps (pumpUnknown n r s) := by
  induction n generalizing s with
  | zero => exact h
  | succ n ih =>
    unfold Machine.pumpUnknown
    split
    · exact h
    · exact .ite (ih (h.start.settle (.iteRes h.start (h.start.permit fun _ hu => hu)))) h

theorem State.settle_induct {P : State → Prop} {d : Desc} {x : Res} (hP : ∀ a b : State, a.Keeps b → P a → P b) (h : P s)
    (hx : P x.st) : P (s.settle d x) := by
  unfold State.settle
  split
  · exact hx
  · split
    · exact hP _ _ (State.Keeps.refl s).noteSeq.finish h
    · exact hP _ _ (State.Keeps.refl x.st).finish hx

theorem Res.permit_induct {P : State → Prop} {op role : Nat} {d : Desc} {eff : State → Res}
    (hP : ∀ a b : State, a.Keeps b → P a → P b) (h : P s) (he : ∀ u, P u → P (eff u).st) :
    P (Res.permit s op role d eff).st := by
  unfold Res.permit
  split
  · exact h
  · split
    · exact h
    · split
      · exact h
      · have hseq : P (s.noteSeq d) := hP _ _ (State.Keeps.refl s).noteSeq h
        extract_lets
        split
        · exact hseq
        · exact he _ hseq

theorem hostAct_induct {P : State → Prop} {op role : Nat} {d : Desc} {eff : State → Res}
    (hP : ∀ a b : State, a.Keeps b → P a → P b) (h : P s) (he : ∀ u, P u → P (eff u).st) : P (hostAct op role d eff s) := by
  have hstart : P (s.start op d) := hP _ _ (State.Keeps.refl s).start h
  exact hP _ _ (State.Keeps.refl _).pumpUnknown (State.settle_induct hP hstart (Res.permit_induct hP hstart he))

/-- A command of a ring does what its effect does and, beside it, only what keeps everything. -/
theorem hostCmd_induct {P : State → Prop} {op role : Nat} {d : Desc} {eff : State → Res}
    (hP : ∀ a b : State, a.Keeps b → P a → P b) (h : P s) (he : ∀ u, P u → P (eff u).st) : P (hostCmd op role d eff s) := by
  unfold Machine.hostCmd
  split
  · exact hostAct_induct hP h he
  · have hpump : P (Machine.pumpUnknown 4 d.ring s) := hP _ _ (State.Keeps.refl s).pumpUnknown h
    extract_lets
    split
    · exact hostAct_induct hP hpump he
    · exact hP _ _ (State.Keeps.refl _).showFull hpump

theorem State.Keeps.hostCmd {op role : Nat} {d : Desc} {eff : State → Res} (h : σ.Keeps s)
    (he : ∀ u, σ.Keeps u → σ.Keeps (eff u).st) : σ.Keeps (hostCmd op role d eff s) :=
  hostCmd_induct (fun _ _ hk ha => ha.trans hk) h he

end

/-! ### The signal-flow graph -/

section
variable {s σ : State}

theorem State.Keeps.placeWords {pick : LaneSched → List (Nat × Nat)} {word : Nat → Option Word36} (h : σ.Keeps s) :
    σ.Keeps (s.placeWords pick word) :=
  h.upd

end

/-! ### The Ouvfel link -/

section
variable {s σ : State}

theorem State.Keeps.ouvSend {type flags : Nat} {payload : List Byte} (h : σ.Keeps s) : σ.Keeps (s.ouvSend type flags
    payload) :=
  .ite h.upd h

theorem State.Keeps.sendConfig {l : Nat} {items : Tbl Nat} (h : σ.Keeps s) : σ.Keeps (s.sendConfig l items) :=
  h.foldl fun _ _ h1 => h1.ouvSend

end

/-! ### Reference slots and holdover -/

section
variable {s σ : State}

theorem State.Keeps.setSlot {i : Nat} {x : RefSlot} (h : σ.Keeps s) : σ.Keeps (s.setSlot i x) := h.upd

theorem State.Keeps.setPort {p : Nat} {x : PtpPort} (h : σ.Keeps s) : σ.Keeps (s.setPort p x) := h.upd

theorem State.Keeps.putReason {i bit : Nat} {b : Bool} (h : σ.Keeps s) : σ.Keeps (s.putReason i bit b) := h.wr

theorem State.Keeps.setFreq {f : Int} (h : σ.Keeps s) : σ.Keeps (s.setFreq f) := h.upd

theorem State.Keeps.discardMeasures {i : Nat} (h : σ.Keeps s) : σ.Keeps (s.discardMeasures i) :=
  .ite h.setSlot.wrInt.upd h.setSlot.wrInt

theorem State.Keeps.disqualify {i bit : Nat} (h : σ.Keeps s) : σ.Keeps (s.disqualify i bit) :=
  .ite h (.ite h.putReason h.putReason.count.discardMeasures.put.put.put.setSlot.wr.log)

theorem State.Keeps.judge {i : Nat} (h : σ.Keeps s) : σ.Keeps (s.judge i) := .ite h.wr.put.put h.wr.setSlot.put.wr.put

theorem State.Keeps.sourceTest {i : Nat} (h : σ.Keeps s) : σ.Keeps (s.sourceTest i) :=
  .judge (.ite h.disqualify h.putReason)

theorem State.Keeps.slotEnable {i : Nat} {on : Bool} (h : σ.Keeps s) : σ.Keeps (s.slotEnable i on) :=
  .sourceTest (.ite (.put (.wr (.ite h.setSlot h))) (.ite h.setSlot h))

theorem State.Keeps.setTheta {th : Int} (h : σ.Keeps s) : σ.Keeps (s.setTheta th) :=
  .ite (.ite h.upd.wrInt h.upd.wrInt.put.post) (.ite h.upd.wrInt.put h.upd.wrInt)

theorem State.Keeps.heard {i : Nat} (h : σ.Keeps s) : σ.Keeps (s.heard i) := h.setSlot.putReason

theorem State.Keeps.measure {i : Nat} {th : Int} (h : σ.Keeps s) : σ.Keeps (s.measure i th) :=
  .ite (.setTheta (.sourceTest (.ite h.heard.setSlot.count.disqualify h.heard.setSlot.putReason))) (.sourceTest (.ite
    h.heard.setSlot.count.disqualify h.heard.setSlot.putReason))

theorem State.Keeps.doRefEdge {i e : Nat} (h : σ.Keeps s) : σ.Keeps (doRefEdge i e s) := by
  unfold Machine.doRefEdge
  refine .ite h ?_
  dsimp only
  split
  · exact h.measure
  · exact .ite h.measure.upd.finishOp h.measure

theorem State.Keeps.doActivityLoss {i : Nat} (h : σ.Keeps s) : σ.Keeps (doActivityLoss i s) :=
  .ite h h.disqualify.setSlot.judge

theorem State.Keeps.doGateEnd {i : Nat} {freq : Int} (h : σ.Keeps s) : σ.Keeps (doGateEnd i freq s) :=
  .ite h (.ite (.setFreq (.judge (.ite h.setSlot.wrInt.disqualify h.setSlot.wrInt.putReason))) (.judge (.ite
    h.setSlot.wrInt.disqualify h.setSlot.wrInt.putReason)))

theorem State.Keeps.doWtrEnd {i : Nat} (h : σ.Keeps s) : σ.Keeps (doWtrEnd i s) := .ite h.judge h

theorem State.Keeps.showHoldover {v : Int × Bool} (h : σ.Keeps s) : σ.Keeps (s.showHoldover v) := h.wrInt.put

theorem State.Keeps.doHistory (h : σ.Keeps s) : σ.Keeps (doHistory s) := .ite (.ite h h.showHoldover) h.upd.showHoldover

theorem State.Keeps.clearEqualm {w : Nat} (h : σ.Keeps s) : σ.Keeps (s.clearEqualm w) := .ite h.put.log h

theorem State.Keeps.vote {set : List Nat} (h : σ.Keeps s) : σ.Keeps (s.vote set).2 := by
  unfold State.vote
  refine .iteSnd h.clearEqualm ?_
  dsimp only
  split
  · exact .clearEqualm (h.foldl fun _ _ h1 => h1.put.put.log)
  · exact .ite h h.put.log

theorem State.Keeps.enterHoldover (h : σ.Keeps s) : σ.Keeps s.enterHoldover :=
  h.wr.wr.showHoldover.upd.setTheta.wr.count.log

theorem State.Keeps.switchTo {w : Nat} (h : σ.Keeps s) : σ.Keeps (s.switchTo w) :=
  .ite h (.setTheta (.log (.count (.wr (.wr (.upd (.setFreq (.ite h.wrSat.log h))))))))

theorem State.Keeps.unvote (h : σ.Keeps s) : σ.Keeps s.unvote := h.foldl fun _ _ h1 => .ite h1.put.judge h1

theorem State.Keeps.selectTick (h : σ.Keeps s) : σ.Keeps s.selectTick := by
  unfold State.selectTick
  dsimp only
  split
  · exact .wrSat (.ite (.ite (.enterHoldover (.clearEqualm (.unvote (h.foldl fun _ _ h1 => h1.judge)))) (.clearEqualm
    (.unvote (h.foldl fun _ _ h1 => h1.judge)))) (.switchTo (.vote (.unvote (h.foldl fun _ _ h1 => h1.judge)))))
  · exact .ite (.ite (.enterHoldover (.clearEqualm (.unvote (h.foldl fun _ _ h1 => h1.judge)))) (.clearEqualm (.unvote
    (h.foldl fun _ _ h1 => h1.judge)))) (.switchTo (.vote (.unvote (h.foldl fun _ _ h1 => h1.judge))))

theorem State.Keeps.servoTick {theta : Option Int} (h : σ.Keeps s) : σ.Keeps (s.servoTick theta) := by
  unfold State.servoTick
  refine .ite (.wrInt (.upd ?_)) (.ite ?_ (.wr (.wrInt (.upd ?_))))
  · split
    · exact .ite h h.setTheta
    · exact h
  · split
    · exact .ite h h.setTheta
    · exact h
  · split
    · exact .ite h h.setTheta
    · exact h

theorem State.Keeps.sendTime (h : σ.Keeps s) : σ.Keeps s.sendTime := .ite h.upd.ouvSend h

theorem State.Keeps.discardFrame (h : σ.Keeps s) : σ.Keeps s.discardFrame := h.count

theorem State.Keeps.doTimeFrame {f : OuvFrame} {a2 : Nat} (h : σ.Keeps s) : σ.Keeps (doTimeFrame f a2 s) := by
  unfold Machine.doTimeFrame
  refine .ite h (.ite h.discardFrame (.ite h ?_))
  dsimp only
  split
  · exact .ite h.upd.heard.sourceTest h.upd.sourceTest
  · exact .ite h.upd.measure h.upd

theorem State.Keeps.shiftLocal {d : Int} (h : σ.Keeps s) : σ.Keeps (s.shiftLocal d) := h.upd

theorem State.Keeps.setOut {j : Nat} {x : ClkOut} (h : σ.Keeps s) : σ.Keeps (s.setOut j x) := h.upd

theorem State.Keeps.showOut {j : Nat} (h : σ.Keeps s) : σ.Keeps (s.showOut j) := .ite h h.setOut.wrInt.put

theorem State.Keeps.alignOut {j : Nat} (h : σ.Keeps s) : σ.Keeps (s.alignOut j) := h.setOut.showOut

theorem State.Keeps.outEnable {j : Nat} {on : Bool} (h : σ.Keeps s) : σ.Keeps (s.outEnable j on) :=
  .ite (.ite h h.alignOut) h.setOut

theorem State.Keeps.realignRes {d : Desc} (h : σ.Keeps s) : σ.Keeps (realignRes d s).st :=
  .iteRes h (.iteRes h (.iteRes h h.upd))

theorem State.Keeps.doRealign (h : σ.Keeps s) : σ.Keeps (doRealign s) := by
  unfold Machine.doRealign
  split
  · exact h
  · exact .log (h.upd.foldl fun _ _ h1 => h1.alignOut)

theorem State.Keeps.refHistoryRes {d : Desc} (h : σ.Keeps s) : σ.Keeps (refHistoryRes d s).st := h

end

/-! ### Carriers of the modulators -/

section
variable {s σ : State}

theorem State.Keeps.setMg {g : Nat} {x : ModG} (h : σ.Keeps s) : σ.Keeps (s.setMg g x) := h.upd

theorem State.Keeps.chooseCarrier {g tick : Nat} (h : σ.Keeps s) : σ.Keeps (s.chooseCarrier g tick) := by
  unfold State.chooseCarrier
  dsimp only
  split
  · exact h
  · exact .ite h.wr.put.wrSat.setMg h.wr.put.wrSat.setMg.post

theorem State.Keeps.launchCarriers {offs : List Nat} {l : Nat} (h : σ.Keeps s) : σ.Keeps (s.launchCarriers offs l)
    :=
  h.foldl fun _ _ h1 => h1.chooseCarrier

end

/-! ### Transactions, collections and scenes -/

section
variable {s σ : State}

theorem State.Keeps.setLaunch {l : Nat} (h : σ.Keeps s) : σ.Keeps (s.setLaunch l) := h.wr.wr

theorem State.Keeps.setItems {items : Tbl Nat} (h : σ.Keeps s) : σ.Keeps (s.setItems items) := h.upd.wr

theorem State.Keeps.clearOpen (h : σ.Keeps s) : σ.Keeps s.clearOpen := h.upd.wr.wr.wr.wr.wr

theorem State.Keeps.clearLaunch (h : σ.Keeps s) : σ.Keeps s.clearLaunch := h.upd.wr.wr.setLaunch.wr

theorem State.Keeps.takeNumber (h : σ.Keeps s) : σ.Keeps s.takeNumber.2 := h.upd

theorem State.Keeps.addOpen {k v : Nat} (h : σ.Keeps s) : σ.Keeps (s.addOpen k v).2 := .iteSnd h.put h.setItems.wr

theorem State.Keeps.addCollect {k v : Nat} (h : σ.Keeps s) : σ.Keeps (s.addCollect k v).2 :=
  .iteSnd h.upd.count h.setItems.wr

theorem State.Keeps.barItem {k v : Nat} (h : σ.Keeps s) : σ.Keeps (s.barItem k v) :=
  .ite h.addOpen (.ite h.count h.addCollect)

theorem State.Keeps.shItem {off : Nat} {value : Word} (h : σ.Keeps s) : σ.Keeps (s.shItem off value) := h.barItem

theorem State.Keeps.routeLow {i : Nat} {value : Word} (h : σ.Keeps s) : σ.Keeps (s.routeLow i value) :=
  .ite h.count h.upd

theorem State.Keeps.routeHigh {i : Nat} {value : Word} (h : σ.Keeps s) : σ.Keeps (s.routeHigh i value) :=
  .ite h.upd.barItem h.upd

theorem State.Keeps.routeWide {i : Nat} {low value : Word} (h : σ.Keeps s) : σ.Keeps (s.routeWide i low value) :=
  .ite h.count h.routeLow.routeHigh

theorem State.Keeps.addItems {add : State → Nat → Nat → Bool × State} {l : List (List Byte)} {n : Nat} (h : σ.Keeps s)
    (ha : ∀ u k x, σ.Keeps u → σ.Keeps (add u k x).2) : σ.Keeps (addItems add l n s).2.2 := by
  induction l generalizing n s with
  | nil => exact h
  | cons b l ih =>
    unfold Machine.addItems
    extract_lets
    split
    · exact h
    · next k _ =>
      have hadd := ha s k (itemOf b).value h
      split
      · next s1 heq => exact ih (by rwa [heq] at hadd)
      · next s1 heq => rwa [heq] at hadd

theorem State.Keeps.writeItemsRes {d : Desc} (h : σ.Keeps s) : σ.Keeps (writeItemsRes d s).st :=
  .iteRes h (.iteRes (.iteRes h (.iteRes h (.iteRes (h.addItems fun _ _ _ h1 => h1.addCollect) (h.addItems fun _ _ _ h1
    => h1.addCollect)))) (.iteRes (.iteRes h (.iteRes (h.addItems fun _ _ _ h1 => h1.addOpen) (h.addItems fun _ _ _ h1
    => h1.addOpen))) (.iteRes h h)))

theorem State.Keeps.txnBeginRes {d : Desc} (h : σ.Keeps s) : σ.Keeps (txnBeginRes d s).st :=
  .iteRes h (.iteRes h h.clearOpen.takeNumber.wr.wr.wr)

theorem State.Keeps.txnPrepareRes {d : Desc} (h : σ.Keeps s) : σ.Keeps (txnPrepareRes d s).st := by
  unfold Machine.txnPrepareRes
  refine .iteRes h (.iteRes h (.iteRes h ?_))
  dsimp only
  split
  · exact h
  · split
    · exact h
    · exact h.upd.wr

theorem State.Keeps.commitTo {id l x : Nat} {items : Tbl Nat} {fin : Tbl (Nat × Nat)} {ring : Option Nat} {bare :
    List Nat} (h : σ.Keeps s) : σ.Keeps (s.commitTo id l x items fin ring bare) :=
  .ite h.upd.placeWords.wr.wr.setLaunch.wr.count.sendConfig.upd h.upd.placeWords.wr.wr.setLaunch.wr.count

theorem State.Keeps.txnCommitRes {d : Desc} (h : σ.Keeps s) : σ.Keeps (txnCommitRes d s).st := by
  change Res.Keeps σ _
  unfold Machine.txnCommitRes
  refine .ite h.failRes (.ite h.failRes (.ite h.failRes (.ite h.badDesc (.ite h.badDesc ?_))))
  extract_lets
  refine .ite h.badDesc (.ite h.failRes (.ite h.clearOpen.count.okRes (.ite h.failRes ?_)))
  extract_lets
  refine .ite h.count.failRes ?_
  split
  · exact h.wr.failRes
  · exact h.commitTo.clearOpen.okRes

theorem State.Keeps.txnRollbackRes {d : Desc} (h : σ.Keeps s) : σ.Keeps (txnRollbackRes d s).st :=
  .iteRes h.clearOpen.count (.iteRes (.iteRes h.count (.iteRes (.ite (.upd (.sendConfig (.ite h.upd.count.wr
    h.upd.count))) (.ite h.upd.count.wr h.upd.count)) h)) h)

theorem State.Keeps.discardOpen {cause : Nat} (h : σ.Keeps s) : σ.Keeps (s.discardOpen cause) := .ite h h.clearOpen.post

theorem State.Keeps.discardLaunch (h : σ.Keeps s) : σ.Keeps s.discardLaunch := .ite h h.clearLaunch.post

theorem State.Keeps.setMute {i : Nat} {m : MuteS} (h : σ.Keeps s) : σ.Keeps (s.setMute i m) := h.upd

theorem State.Keeps.setSkim {i : Nat} {r : Ramp} (h : σ.Keeps s) : σ.Keeps (s.setSkim i r) := h.upd

theorem State.Keeps.launchGains {v : View} {l : Nat} (h : σ.Keeps s) : σ.Keeps (s.launchGains v l) :=
  .foldl (h.foldl fun _ _ h1 => .ite h1 h1.upd) fun _ _ h1 => .ite (.ite h1 h1.upd) h1

theorem State.Keeps.launchMute {i l old new : Nat} (h : σ.Keeps s) : σ.Keeps (s.launchMute i l old new) :=
  .ite h h.setMute

theorem State.Keeps.launchSkim {i l old new : Nat} (h : σ.Keeps s) : σ.Keeps (s.launchSkim i l old new) :=
  .ite h.setSkim (.ite h.setSkim h)

theorem State.Keeps.setRoute {i v : Nat} (h : σ.Keeps s) : σ.Keeps (s.setRoute i v) := h.upd

theorem State.Keeps.launchRoute {v : View} {l i : Nat} (h : σ.Keeps s) : σ.Keeps (s.launchRoute v l i) :=
  .ite h h.launchMute.launchSkim.setRoute

theorem State.Keeps.launchWords {items : Tbl Nat} (h : σ.Keeps s) : σ.Keeps (s.launchWords items) := by
  unfold State.launchWords
  refine h.foldl fun _ _ h1 => ?_
  split
  · split
    · exact h1.setWord
    · exact h1
    · exact h1.upd

theorem State.Keeps.launchGens {old : State} {items : Tbl Nat} {l : Nat} (h : σ.Keeps s) : σ.Keeps (s.launchGens old
    items l) :=
  h.foldl fun _ _ h1 => .ite h1.upd h1

theorem State.Keeps.showRoutes (h : σ.Keeps s) : σ.Keeps s.showRoutes := .wr (h.foldl fun _ _ h1 => h1.wr)

theorem State.Keeps.launchKgains {old : State} {l : Nat} {offs : List Nat} (h : σ.Keeps s) : σ.Keeps (s.launchKgains
    old l offs) :=
  h.foldl fun _ _ h1 => .ite h1 h1.upd

theorem State.Keeps.makeTopcoat {items : Tbl Nat} {l : Nat} (h : σ.Keeps s) : σ.Keeps (s.makeTopcoat items l) :=
  .launchCarriers (.launchKgains (.placeWords (.showRoutes (.launchGens (.launchWords (h.launchGains.foldl fun _ _ h1 =>
    h1.launchRoute))))))

theorem State.Keeps.keepOld (h : σ.Keeps s) : σ.Keeps s.keepOld := h.upd

theorem State.Keeps.doLaunch (h : σ.Keeps s) : σ.Keeps (doLaunch s) := .ite h.keepOld.makeTopcoat.wr.upd.count.post h

theorem State.Keeps.doPriming (h : σ.Keeps s) : σ.Keeps (doPriming s) := .ite h.upd h

theorem State.Keeps.doCrossfadeEnd (h : σ.Keeps s) : σ.Keeps (doCrossfadeEnd s) := .ite h.clearLaunch h

theorem State.Keeps.txnTick (h : σ.Keeps s) : σ.Keeps s.txnTick := .ite h.clearLaunch h

theorem State.Keeps.countN {f : Fld} {n : Nat} (h : σ.Keeps s) : σ.Keeps (s.countN f n) := .ite h h.count

theorem State.Keeps.doCollect (h : σ.Keeps s) : σ.Keeps (doCollect s) := by
  unfold Machine.doCollect
  refine .ite (.ite (.clearOpen ?_) ?_) h
  · split
    · exact h.countN
    · exact h.countN.post
  · split
    · refine .clearOpen (.post (.countN ?_))
      split
      · exact h.countN
      · exact h.countN.post
    · refine .commitTo (.clearOpen (.takeNumber ?_))
      split
      · exact h.countN
      · exact h.countN.post

theorem State.Keeps.endWait {z : ZcHit} (h : σ.Keeps s) : σ.Keeps (s.endWait z) := h.upd

theorem State.Keeps.doZeroCross {i k : Nat} (h : σ.Keeps s) : σ.Keeps (doZeroCross i k s) := by
  unfold Machine.doZeroCross
  split
  · exact h
  · exact h.endWait

theorem State.Keeps.doZcTimeout {i : Nat} (h : σ.Keeps s) : σ.Keeps (doZcTimeout i s) := by
  unfold Machine.doZcTimeout
  split
  · exact h
  · exact h.endWait

theorem State.Keeps.showScenes (h : σ.Keeps s) : σ.Keeps s.showScenes := h.wr.wr.wr

theorem State.Keeps.setScenes {t : Tbl SceneRec} (h : σ.Keeps s) : σ.Keeps (s.setScenes t) := h.upd.showScenes

theorem State.Keeps.mountScenes {ok0 ok1 : Bool} (h : σ.Keeps s) : σ.Keeps (s.mountScenes ok0 ok1) :=
  .ite h.showScenes (.ite h.upd.showScenes h.upd.showScenes.log)

theorem State.Keeps.sceneStoreRes {d : Desc} (h : σ.Keeps s) : σ.Keeps (sceneStoreRes d s).st := by
  change Res.Keeps σ _
  unfold Machine.sceneStoreRes
  refine .ite h.badDesc (.ite h.badDesc (.ite h.failRes (.ite h.failRes ?_)))
  extract_lets n
  split
  · exact h.failRes
  · exact h.setScenes.okRes

theorem State.Keeps.recallItems {items : Tbl Nat} (h : σ.Keeps s) : σ.Keeps (recallItems s items).st := by
  unfold Machine.recallItems
  split
  · exact h
  · exact .iteRes h h.setItems.wr

theorem State.Keeps.sceneRecallRes {d : Desc} (h : σ.Keeps s) : σ.Keeps (sceneRecallRes d s).st := by
  unfold Machine.sceneRecallRes
  refine .iteRes h (.iteRes h (.iteRes h ?_))
  split
  · exact h
  · exact .iteRes h (.iteRes h h.recallItems)

theorem State.Keeps.sceneEraseRes {d : Desc} (h : σ.Keeps s) : σ.Keeps (sceneEraseRes d s).st := .iteRes h h.setScenes

end

/-! ### Local time, PTP, event inputs and launch outputs -/

section
variable {s σ : State}

theorem State.Keeps.setLocal {ns : Nat} (h : σ.Keeps s) : σ.Keeps (s.setLocal ns) :=
  .ite (h.shiftLocal.upd.foldl fun _ _ h1 => h1.showOut) (.setTheta (h.shiftLocal.upd.foldl fun _ _ h1 => h1.showOut))

theorem State.Keeps.stepTime {ns slot : Nat} (h : σ.Keeps s) : σ.Keeps (s.stepTime ns slot) :=
  h.upd.setLocal.put.wr.put.log.planStart

theorem State.Keeps.doFirstLock (h : σ.Keeps s) : σ.Keeps (doFirstLock s) := by
  unfold Machine.doFirstLock
  refine .ite h (.ite (.ite h.stepTime.setTheta h) (.ite (.ite h.stepTime.setTheta h) (.ite ?_ h)))
  split
  · exact .ite h.stepTime h
  · exact h

theorem State.Keeps.timeSetRes {d : Desc} (h : σ.Keeps s) : σ.Keeps (timeSetRes d s).st :=
  .iteRes h (.iteRes h (.iteRes h (.iteRes h.upd h.stepTime)))

theorem State.Keeps.reEpochRes {d : Desc} (h : σ.Keeps s) : σ.Keeps (reEpochRes d s).st :=
  .iteRes h (.iteRes h (.iteRes (.iteRes h h.upd) h.upd))

theorem State.Keeps.setLout {j : Nat} {x : LaunchOut} (h : σ.Keeps s) : σ.Keeps (s.setLout j x) := h.upd

theorem State.Keeps.judgeArm {j : Nat} {r : Rearm} (h : σ.Keeps s) : σ.Keeps (s.judgeArm j r) :=
  .ite h.setLout.wr (.ite h.setLout.wr (.ite h.setLout.wr.post h.setLout.wr))

theorem State.Keeps.arm {j : Nat} (h : σ.Keeps s) : σ.Keeps (s.arm j) := by
  unfold State.arm
  dsimp only
  split
  · exact .ite h.setLout h.judgeArm
  · exact h.judgeArm

theorem State.Keeps.disarm {j : Nat} (h : σ.Keeps s) : σ.Keeps (s.disarm j) := .ite h.setLout h.setLout.wr

theorem State.Keeps.doPulse {j : Nat} (h : σ.Keeps s) : σ.Keeps (doPulse j s) := by
  unfold Machine.doPulse
  dsimp only
  split
  · exact h
  · exact .ite h h.setLout

theorem State.Keeps.doPulseEnd {j : Nat} (h : σ.Keeps s) : σ.Keeps (doPulseEnd j s) := by
  unfold Machine.doPulseEnd
  dsimp only
  split
  · exact h
  · refine .ite h (.ite h.setLout.wr ?_)
    split
    · exact .ite h.setLout.judgeArm h.setLout
    · exact .ite h.setLout.wr h.setLout

theorem State.Keeps.disarmAll (h : σ.Keeps s) : σ.Keeps s.disarmAll := h.foldl fun _ _ h1 => h1.setLout.wr

theorem State.Keeps.postInput {i : Nat} (h : σ.Keeps s) : σ.Keeps (s.postInput i) := .ite h.postEdges h

theorem State.Keeps.qualify {i : Nat} {falling : Bool} {t : Nat} (h : σ.Keeps s) : σ.Keeps (s.qualify i falling t)
    :=
  .ite h.upd.count (.ite h.upd (.ite h.upd.count h.upd.postInput))

theorem State.Keeps.doEdge {i : Nat} {falling : Bool} {held t : Nat} (h : σ.Keeps s) : σ.Keeps (doEdge i falling
    held t s) :=
  .ite h (.ite h.upd h.upd.qualify)

theorem State.Keeps.edgeEnable {i : Nat} (h : σ.Keeps s) : σ.Keeps (s.edgeEnable i) := h.upd

theorem State.Keeps.enqueueFrame {p queue bytes : Nat} (h : σ.Keeps s) : σ.Keeps (s.enqueueFrame p queue bytes) := h.upd

theorem State.Keeps.ptpFail {m : PtpMsg} (h : σ.Keeps s) : σ.Keeps (s.ptpFail m) := .ite h h.setPort.count

theorem State.Keeps.ptpAccept {m : PtpMsg} (h : σ.Keeps s) : σ.Keeps (s.ptpAccept m).2 :=
  .iteSnd h (.iteSnd h.count (.iteSnd h.ptpFail h))

theorem State.Keeps.setPortState {p v : Nat} (h : σ.Keeps s) : σ.Keeps (s.setPortState p v) := h.wr.sourceTest

theorem State.Keeps.useAnnounce {p : Nat} {a : Option Announced} (h : σ.Keeps s) : σ.Keeps (s.useAnnounce p a) :=
  h.setPort

theorem State.Keeps.decidePort {p : Nat} {r : Nat × Option Announced} (h : σ.Keeps s) : σ.Keeps (s.decidePort p r) :=
    by
  unfold State.decidePort
  refine .ite h ?_
  split
  · exact .ite h.useAnnounce.sourceTest h.useAnnounce.setPort.setPortState
  · exact .ite h (.ite h.useAnnounce.setPortState h.useAnnounce.setPort.setPortState)
  · exact .ite h h.useAnnounce.setPortState

theorem State.Keeps.decideClock {p : Nat} (h : σ.Keeps s) : σ.Keeps (s.decideClock p) :=
  h.foldl fun _ _ h1 => h1.decidePort

theorem State.Keeps.hearAnnounce {p : Nat} {a : Announced} (h : σ.Keeps s) : σ.Keeps (s.hearAnnounce p a) :=
  .ite h h.setPort.decideClock

theorem State.Keeps.portEnable {p : Nat} {on : Bool} (h : σ.Keeps s) : σ.Keeps (s.portEnable p on) :=
  h.useAnnounce.setPort.setPortState

theorem State.Keeps.ptpTick (h : σ.Keeps s) : σ.Keeps s.ptpTick :=
  h.foldl fun _ _ h1 => .ite h1 (.ite h1.setPort.setPortState (.ite h1.setPortState h1))

theorem State.Keeps.ptpOffset {p : Nat} {th : Int} (h : σ.Keeps s) : σ.Keeps (s.ptpOffset p th) :=
  .ite (.measure (.ite h.setPort.setPortState h.setPort)) (.ite h.setPort.setPortState h.setPort)

theorem State.Keeps.setMld {p : Nat} {v : Int} (h : σ.Keeps s) : σ.Keeps (s.setMld p v) := h.setPort.wrSat

theorem State.Keeps.takeSync {m : PtpMsg} (h : σ.Keeps s) : σ.Keeps (s.takeSync m) :=
  .ite (.ite h.setPort.heard h.setPort) h.setPort.ptpOffset

theorem State.Keeps.doPtp {m : PtpMsg} (h : σ.Keeps s) : σ.Keeps (doPtp m s) := by
  unfold Machine.doPtp
  split
  next go s1 heq =>
    have hs : σ.Keeps s1 := by simpa only [heq] using h.ptpAccept (m := m)
    refine .ite hs ?_
    extract_lets
    split
    · exact .ite hs.takeSync hs
    · exact .ite hs.setPort.ptpOffset hs
    · exact hs.hearAnnounce
    · exact .ite hs.setMld hs
    · exact .ite hs (.ite hs.setPort hs.setMld)
    · exact .ite hs.setMld hs
    all_goals exact hs

theorem State.Keeps.ptpSend {p : Nat} {m : PtpSent} (h : σ.Keeps s) : σ.Keeps (s.ptpSend p m) := h.setPort.enqueueFrame

theorem State.Keeps.ptpDiscard {p : Nat} (h : σ.Keeps s) : σ.Keeps (s.ptpDiscard p) := h.count

theorem State.Keeps.doDelayReq {m : PtpMsg} (h : σ.Keeps s) : σ.Keeps (doDelayReq m s) := by
  unfold Machine.doDelayReq
  split
  next go s1 heq =>
    have hs : σ.Keeps s1 := by simpa only [heq] using h.ptpAccept (m := m)
    extract_lets
    refine .ite hs ?_
    extract_lets
    refine .ite hs.ptpDiscard ?_
    extract_lets
    split
    · exact .ite hs.setPort.setPort.ptpSend hs.setPort.ptpSend
    · exact hs.setPort.ptpSend

theorem State.Keeps.passOn {m : PtpMsg} {e : Nat} {c : Int} (h : σ.Keeps s) : σ.Keeps (s.passOn m e c) := h.setPort

theorem State.Keeps.doManagement {m : PtpMsg} (h : σ.Keeps s) : σ.Keeps (doManagement m s) :=
  .ite h.ptpAccept (.ite (h.ptpAccept.foldl fun _ _ h1 => h1.passOn) h.ptpAccept.ptpDiscard)

theorem State.Keeps.doForward {m : PtpMsg} {e : Nat} (h : σ.Keeps s) : σ.Keeps (doForward m e s) := by
  unfold Machine.doForward
  refine .ite h (.ite h.ptpFail ?_)
  split
  · exact .ite h.passOn.setPort h.passOn
  · exact .ite h.passOn.setPort h.passOn
  · exact .ite h.passOn.setPort h.passOn
  · exact .ite h.passOn.setPort h.passOn
  · exact h.setPort.passOn

theorem State.Keeps.takeSeq {p : Nat} (h : σ.Keeps s) : σ.Keeps (s.takeSeq p).2 := h.setPort

theorem State.Keeps.doSync {p : Nat} {egress : Int} (h : σ.Keeps s) : σ.Keeps (doSync p egress s) :=
  .ite h (.ite h.takeSeq.setPort.ptpSend h.takeSeq.ptpSend)

theorem State.Keeps.doFollowUp {p : Nat} (h : σ.Keeps s) : σ.Keeps (doFollowUp p s) := by
  unfold Machine.doFollowUp
  split
  · exact h
  · exact h.setPort.ptpSend

theorem State.Keeps.doAnnounce {p : Nat} (h : σ.Keeps s) : σ.Keeps (doAnnounce p s) := .ite h h.takeSeq.ptpSend

theorem State.Keeps.doAnnTimeout {p : Nat} (h : σ.Keeps s) : σ.Keeps (doAnnTimeout p s) :=
  .ite h (.ite h.setPort.useAnnounce.setPortState.decideClock (.ite h.setPort.useAnnounce.setPortState
    h.setPort.useAnnounce.setPortState.setPortState))

theorem State.Keeps.doReqTransmit {p egress : Nat} (h : σ.Keeps s) : σ.Keeps (doReqTransmit p egress s) :=
  .ite h h.setPort.ptpSend

theorem State.Keeps.ptpRestart (h : σ.Keeps s) : σ.Keeps s.ptpRestart := h.foldl fun _ _ h1 => .ite h1.portEnable h1

end

/-! ### The flash store -/

section
variable {s σ : State}

theorem State.Keeps.storeCmd {op role : Nat} {d : Desc} {eff : State → Res} (h : σ.Keeps s)
    (he : ∀ u, σ.Keeps u → σ.Keeps (eff u).st) : σ.Keeps (storeCmd op role d eff s) :=
  .ite h (h.hostCmd he)

theorem State.Keeps.bufferCmd {op role : Nat} {d : Desc} {eff : State → Res} (h : σ.Keeps s)
    (he : ∀ u, σ.Keeps u → σ.Keeps (eff u).st) : σ.Keeps (bufferCmd op role d eff s) :=
  .ite h (h.storeCmd he)

theorem State.Keeps.showStore (h : σ.Keeps s) : σ.Keeps s.showStore := h.wrSat.wrSat.put

theorem State.Keeps.journal (h : σ.Keeps s) : σ.Keeps s.journal := h.upd

theorem State.Keeps.setBlk {b : Nat} {x : NandBlk} (h : σ.Keeps s) : σ.Keeps (s.setBlk b x) := h.upd

theorem State.Keeps.showWear (h : σ.Keeps s) : σ.Keeps s.showWear := h.wrSat.wrSat

theorem State.Keeps.useBlk {b : Nat} (h : σ.Keeps s) : σ.Keeps (s.useBlk b) := h.setBlk

theorem State.Keeps.eraseBlk {b : Nat} (h : σ.Keeps s) : σ.Keeps (s.eraseBlk b) := h.setBlk

theorem State.Keeps.growBlocks {n : Nat} {l : List Nat} (h : σ.Keeps s) : σ.Keeps (growBlocks n l s).2 := by
  induction n generalizing l s with
  | zero => exact h
  | succ n ih =>
    unfold Machine.growBlocks
    split
    · exact ih h.useBlk
    · exact h

theorem State.Keeps.holdBytes {l : List Nat} {n : Nat} (h : σ.Keeps s) : σ.Keeps (s.holdBytes l n).2 :=
  .iteSnd h h.growBlocks

theorem State.Keeps.eraseAll {l : List Nat} (h : σ.Keeps s) : σ.Keeps (s.eraseAll l) :=
  .showWear (h.foldl fun _ _ h1 => h1.eraseBlk)

theorem State.Keeps.readPages {l : List Nat} {o n : Nat} (h : σ.Keeps s) : σ.Keeps (s.readPages l o n) :=
  h.foldl fun _ _ h1 => .ite h1.setBlk h1

theorem State.Keeps.rehome {b f : Nat} (h : σ.Keeps s) : σ.Keeps (s.rehome b f) := h.upd

theorem State.Keeps.moveBlk {b : Nat} {high : Bool} (h : σ.Keeps s) : σ.Keeps (s.moveBlk b high) := by
  unfold State.moveBlk
  refine .showWear (.journal (.eraseBlk ?_))
  split
  · exact h.useBlk.rehome
  · exact h

theorem State.Keeps.setFiles {l : List FileRec} (h : σ.Keeps s) : σ.Keeps (s.setFiles l) := h.upd

theorem State.Keeps.setPend {l : List PendFile} (h : σ.Keeps s) : σ.Keeps (s.setPend l) := h.upd

theorem State.Keeps.setTakes {l : List Take} (h : σ.Keeps s) : σ.Keeps (s.setTakes l) := h.upd

theorem State.Keeps.putFile {n data : List Byte} {held : List Nat} (h : σ.Keeps s) : σ.Keeps (s.putFile n data held)
    :=
  h.holdBytes.setFiles.eraseAll.journal.showStore

theorem State.Keeps.pieceRes {d : Desc} (h : σ.Keeps s) : σ.Keeps (pieceRes d s).st := by
  unfold Machine.pieceRes
  refine .iteRes h (.iteRes h (.iteRes (.iteRes h ?_) ?_))
  · dsimp only
    split
    · exact h
    · exact .iteRes (.putFile (.ite h.setPend.eraseAll h.setPend)) (.showStore (.setPend (.holdBytes (.ite
      h.setPend.eraseAll h.setPend))))
  · split
    · exact h
    · refine .iteRes ?_ h
      dsimp only
      split
      · exact h
      · exact .iteRes (.putFile (.ite h.setPend.eraseAll h.setPend)) (.showStore (.setPend (.holdBytes (.ite
        h.setPend.eraseAll h.setPend))))

theorem State.Keeps.fileReadRes {d : Desc} (h : σ.Keeps s) : σ.Keeps (fileReadRes d s).st := by
  unfold Machine.fileReadRes
  refine .iteRes h ?_
  split
  · exact h
  · exact .iteRes h.readPages h.readPages

theorem State.Keeps.fileDeleteRes {d : Desc} (h : σ.Keeps s) : σ.Keeps (fileDeleteRes d s).st := by
  unfold Machine.fileDeleteRes
  refine .iteRes h (.iteRes h ?_)
  split
  · exact h
  · exact h.setFiles.eraseAll.journal.showStore

theorem State.Keeps.fileListRes {d : Desc} (h : σ.Keeps s) : σ.Keeps (fileListRes d s).st := h

theorem State.Keeps.doPendTimeout {n : List Byte} (h : σ.Keeps s) : σ.Keeps (doPendTimeout n s) :=
  h.setPend.eraseAll.showStore

theorem State.Keeps.modTake {n : Nat} {f : Take → Take} (h : σ.Keeps s) : σ.Keeps (s.modTake n f) := h.setTakes

theorem State.Keeps.recArmRes {d : Desc} (h : σ.Keeps s) : σ.Keeps (recArmRes d s).st := by
  unfold Machine.recArmRes
  refine .iteRes h (.iteRes h (.iteRes h ?_))
  split
  · exact h
  · exact .iteRes h (.iteRes h (.iteRes h (.iteRes h (.iteRes h h.upd.journal))))

theorem State.Keeps.recStartRes {d : Desc} (h : σ.Keeps s) : σ.Keeps (recStartRes d s).st := by
  unfold Machine.recStartRes
  refine .iteRes h ?_
  split
  · exact h
  · exact .iteRes h h.upd

theorem State.Keeps.doRecStart (h : σ.Keeps s) : σ.Keeps (doRecStart s) := by
  unfold Machine.doRecStart
  split
  · exact h
  · split
    · exact h
    · exact .ite h h.upd.showStore

theorem State.Keeps.recStopRes {d : Desc} (h : σ.Keeps s) : σ.Keeps (recStopRes d s).st := by
  unfold Machine.recStopRes
  refine .iteRes h ?_
  split
  · exact h
  · exact h.upd

theorem State.Keeps.doRecStop (h : σ.Keeps s) : σ.Keeps (doRecStop s) := by
  unfold Machine.doRecStop
  split
  · exact h
  · split
    · exact h
    · exact .ite h h.upd.journal.showStore

theorem State.Keeps.record {n : Nat} {x : Nat → List Int} (h : σ.Keeps s) : σ.Keeps (s.record n x) := by
  unfold State.record
  split
  · exact h
  · exact .ite h h.holdBytes.modTake.showStore

theorem State.Keeps.doRecGap (h : σ.Keeps s) : σ.Keeps (doRecGap s) := by
  unfold Machine.doRecGap
  split
  · exact h
  · exact h.modTake

theorem State.Keeps.serveRec (h : σ.Keeps s) : σ.Keeps s.serveRec := by
  unfold State.serveRec
  refine .ite ?_ h
  split
  · exact h
  · exact h.upd.journal

theorem State.Keeps.doStoreFull (h : σ.Keeps s) : σ.Keeps (doStoreFull s) := by
  unfold Machine.doStoreFull
  split
  · exact h
  · exact .ite h h.upd.journal.showStore.log

theorem State.Keeps.playOpenRes {d : Desc} (h : σ.Keeps s) : σ.Keeps (playOpenRes d s).st := by
  unfold Machine.playOpenRes
  split
  · exact h
  · refine .iteRes h (.iteRes h ?_)
    split
    · exact h
    · refine .iteRes h (.iteRes h ?_)
      split
      · exact h
      · exact .iteRes h (.iteRes h (.iteRes h h.upd.showStore))

theorem State.Keeps.playStartRes {d : Desc} (h : σ.Keeps s) : σ.Keeps (playStartRes d s).st := by
  unfold Machine.playStartRes
  refine .iteRes h (.iteRes h ?_)
  split
  · exact h
  · exact h.upd

theorem State.Keeps.doPlayStart {n : Nat} (h : σ.Keeps s) : σ.Keeps (doPlayStart n s) := by
  unfold Machine.doPlayStart
  split
  · exact h
  · split
    · exact h
    · exact .ite h h.upd

theorem State.Keeps.playStopRes {d : Desc} (h : σ.Keeps s) : σ.Keeps (playStopRes d s).st := by
  unfold Machine.playStopRes
  refine .iteRes h (.iteRes h ?_)
  split
  · exact h
  · exact h.upd

theorem State.Keeps.stopTick (h : σ.Keeps s) : σ.Keeps s.stopTick := .ite h h.upd.showStore

theorem State.Keeps.playTick (h : σ.Keeps s) : σ.Keeps s.playTick := by
  unfold State.playTick
  refine h.stopTick.foldl fun _ _ h1 => ?_
  split
  · split
    · exact .ite h1.readPages h1
    · exact h1

theorem State.Keeps.doLeadOut {n count : Nat} {cite : Option Nat} (h : σ.Keeps s) : σ.Keeps (doLeadOut n count cite s)
    := by
  unfold Machine.doLeadOut
  split
  · exact h
  · split
    · exact h
    · exact h.upd.siltWrite

theorem State.Keeps.takeListRes {d : Desc} (h : σ.Keeps s) : σ.Keeps (takeListRes d s).st := h

theorem State.Keeps.takeDeleteRes {d : Desc} (h : σ.Keeps s) : σ.Keeps (takeDeleteRes d s).st := by
  unfold Machine.takeDeleteRes
  split
  · exact h
  · exact .iteRes h (.iteRes h h.setTakes.eraseAll.journal.showStore)

theorem State.Keeps.showSpare (h : σ.Keeps s) : σ.Keeps s.showSpare := .ite h.wr.wr.siltWrite h.wr

theorem State.Keeps.storeFormatRes {good : Nat} {bad : List Nat} {mib : Nat} {x3 : Desc} (h : σ.Keeps s) : σ.Keeps
    (storeFormatRes good bad mib x3 s).st :=
  .iteRes h h.upd.wr.wrSat.wr.showSpare.showWear.showStore

theorem State.Keeps.doCodeword {chan ce block page : Nat} {use : CwUse} (h : σ.Keeps s) : σ.Keeps (doCodeword chan ce
    block page use s) := by
  unfold Machine.doCodeword
  split
  · exact h.count.siltWrite
  · exact h.count.siltWrite.setFiles
  · exact h.count.siltWrite.modTake

theorem State.Keeps.doProgramFail {chan ce block : Nat} (h : σ.Keeps s) : σ.Keeps (doProgramFail chan ce block s) :=
    by
  unfold Machine.doProgramFail
  refine .showWear (.showSpare (.journal (.siltWrite (.wrSat ?_))))
  split
  · exact .ite h.upd.useBlk.rehome h.upd
  · exact h.upd

theorem State.Keeps.doRefresh {b : Nat} (h : σ.Keeps s) : σ.Keeps (doRefresh b s) := .ite h.moveBlk h

theorem State.Keeps.doWearMove (h : σ.Keeps s) : σ.Keeps (doWearMove s) := by
  unfold Machine.doWearMove
  split
  · exact .ite h.moveBlk h
  · exact h

theorem State.Keeps.doNandScrub {b corrected stage : Nat} (h : σ.Keeps s) : σ.Keeps (doNandScrub b corrected stage
    s) :=
  .ite h (.ite h.setBlk.count (.ite h.setBlk.count h.setBlk))

theorem State.Keeps.doCheckpoint (h : σ.Keeps s) : σ.Keeps (doCheckpoint s) := h.upd

theorem State.Keeps.doMount {targets wr rd result : Nat} (h : σ.Keeps s) : σ.Keeps (doMount targets wr rd result s) :=
    by
  unfold Machine.doMount
  refine .ite h (.showStore (.showWear (.showSpare (.wrSat (.wrSat ?_)))))
  split
  · exact h.put.wr.wrSat.wrSat.wrSat.siltWrite
  · exact h.put.wr.wrSat.wrSat.wrSat.siltWrite.upd.siltWrite

theorem State.Keeps.setBootSlot {i : Nat} {x : BootSlot} (h : σ.Keeps s) : σ.Keeps (s.setBootSlot i x) :=
  .ite h.upd.put h.upd.put

theorem State.Keeps.fwInstallRes {d : Desc} (h : σ.Keeps s) : σ.Keeps (fwInstallRes d s).st := by
  unfold Machine.fwInstallRes
  refine .iteRes h (.iteRes h ?_)
  split
  · exact h
  · refine .iteRes h (.iteRes h (.iteRes h ?_))
    split
    · exact h.count
    · exact h.setBootSlot.fresh.upd.put.wr

theorem State.Keeps.doFwDone {verified : Bool} (h : σ.Keeps s) : σ.Keeps (doFwDone verified s) := by
  unfold Machine.doFwDone
  split
  · exact h
  · exact .ite h.upd.put.wr.setBootSlot.siltWrite.finishOp h.upd.put.wr.setBootSlot.finishOp

theorem State.Keeps.fwStatusRes {d : Desc} (h : σ.Keeps s) : σ.Keeps (fwStatusRes d s).st := h

theorem State.Keeps.logReadRes {d : Desc} (h : σ.Keeps s) : σ.Keeps (logReadRes d s).st := h

theorem State.Keeps.logExportRes {d : Desc} (h : σ.Keeps s) : σ.Keeps (logExportRes d s).st := by
  unfold Machine.logExportRes
  refine .iteRes h (.iteRes h (.iteRes h (.iteRes ?_ h.siltWrite)))
  split
  · exact h
  · exact h.putFile.siltWrite

end

/-! ### Security functions -/

section
variable {s σ : State}

theorem State.Keeps.showSessions (h : σ.Keeps s) : σ.Keeps s.showSessions := h.wrSat

theorem State.Keeps.endSession {n : Nat} (h : σ.Keeps s) : σ.Keeps (s.endSession n) := h.upd.showSessions

theorem State.Keeps.endSessions {p : Session → Bool} (h : σ.Keeps s) : σ.Keeps (s.endSessions p) := h.upd.showSessions

theorem State.Keeps.showEval {old : State} (h : σ.Keeps s) : σ.Keeps (s.showEval old) := .ite h h.put.siltWrite

theorem State.Keeps.needKek (h : σ.Keeps s) : σ.Keeps s.needKek := by
  unfold State.needKek
  split
  · exact h
  · exact h.fresh.updSec rfl

theorem State.Keeps.keyActivateRes {d : Desc} (h : σ.Keeps s) : σ.Keeps (keyActivateRes d s).st := by
  unfold Machine.keyActivateRes
  refine .iteRes h ?_
  split
  · exact h
  · exact h.updSec rfl

theorem State.Keeps.keyListRes {d : Desc} (h : σ.Keeps s) : σ.Keeps (keyListRes d s).st := h

theorem State.Keeps.svnCommitRes {d : Desc} (h : σ.Keeps s) : σ.Keeps (svnCommitRes d s).st :=
  .iteRes h (.iteRes h (.iteRes h h.wr.siltWrite.showEval))

theorem State.Keeps.tokenGenRes {d : Desc} (h : σ.Keeps s) : σ.Keeps (tokenGenRes d s).st := .iteRes h h.wr.endSessions

theorem State.Keeps.devidCertRes {d : Desc} (h : σ.Keeps s) : σ.Keeps (devidCertRes d s).st := h

theorem State.Keeps.sceneImportRes {d : Desc} (h : σ.Keeps s) : σ.Keeps (sceneImportRes d s).st := by
  unfold Machine.sceneImportRes
  refine .iteRes h (.iteRes h ?_)
  split
  · exact h
  · refine .iteRes h (.iteRes h (.iteRes h.count (.iteRes h (.iteRes h (.iteRes h ?_)))))
    split
    · exact h
    · refine .iteRes h (.iteRes h ?_)
      split
      · exact h
      · exact h.recallItems

theorem State.Keeps.sceneExportRes {d : Desc} (h : σ.Keeps s) : σ.Keeps (sceneExportRes d s).st := by
  unfold Machine.sceneExportRes
  refine .iteRes h (.iteRes h (.iteRes ?_ (.iteRes h (.iteRes h ?_))))
  · split
    · exact h
    · dsimp only
      split
      · exact h
      · exact h.putFile
  · dsimp only
    split
    · exact h
    · exact h.putFile

theorem State.Keeps.tamperClearRes {levels : Nat} {x1 : Desc} (h : σ.Keeps s) : σ.Keeps (tamperClearRes levels x1
    s).st :=
  .iteRes h.wr h.wr.wr

theorem State.Keeps.debugChallengeRes {d : Desc} (h : σ.Keeps s) : σ.Keeps (debugChallengeRes d s).st :=
  .iteRes h (h.fresh.updSec rfl)

theorem State.Keeps.eraseScenes (h : σ.Keeps s) : σ.Keeps s.eraseScenes := h.upd.wr.wr.wr

end

/-! ### The host interface -/

section
variable {s σ : State}

theorem State.Keeps.learnCmd {r new : Nat} (h : σ.Keeps s) : σ.Keeps (s.learnCmd r new) := .ite h (.ite h.setRing h.put)

theorem State.Keeps.learnCpl {r new : Nat} (h : σ.Keeps s) : σ.Keeps (s.learnCpl r new) :=
  .ite h (.ite h.setRing.showFull.pumpUnknown h.put)

theorem State.Keeps.learnEvt {new : Nat} (h : σ.Keeps s) : σ.Keeps (s.learnEvt new) := .ite h (.ite h.upd h)

theorem State.Keeps.linkSeen (h : σ.Keeps s) : σ.Keeps s.linkSeen := h.put

theorem State.Keeps.doPoll {page : Doorbells} (h : σ.Keeps s) : σ.Keeps (doPoll page s) := by
  unfold Machine.doPoll
  refine .ite h (.learnEvt (.foldl (h.linkSeen.foldl fun _ _ h1 => ?_) fun _ _ h1 => ?_))
  · split
    · exact h1.learnCmd
    · exact h1
  · split
    · exact h1.learnCpl
    · exact h1

theorem State.Keeps.doNudge {value : Word} (h : σ.Keeps s) : σ.Keeps (doNudge value s) :=
  .ite h.linkSeen.learnCmd (.ite h.linkSeen.learnCpl (.ite h.linkSeen.learnEvt h.linkSeen.violate))

theorem State.Keeps.doFetch {r : Nat} {descs : List RawDesc} (h : σ.Keeps s) : σ.Keeps (doFetch r descs s) :=
  .ite h h.linkSeen.setRing.wr.upd.pumpUnknown

theorem State.Keeps.doDeadline {r : Nat} {kind : FetchKind} {error : Bool} (h : σ.Keeps s) : σ.Keeps (doDeadline r
    kind error s) := by
  unfold Machine.doDeadline
  refine .ite h ?_
  split
  · exact h.upd.count.advanceGen.siltWrite.put.siltWrite
  · refine .ite h.upd.count.advanceGen.siltWrite.finish ?_
    split
    · exact .ite h.upd.count.advanceGen.siltWrite.start.finish h.upd.count.advanceGen.siltWrite
    · exact h.upd.count.advanceGen.siltWrite
  · refine .ite h.upd.count.advanceGen.siltWrite.finish ?_
    split
    · exact .ite h.upd.count.advanceGen.siltWrite.start.finish h.upd.count.advanceGen.siltWrite
    · exact h.upd.count.advanceGen.siltWrite
  · exact h.upd.count.advanceGen.siltWrite
  · exact h.upd.count.advanceGen.siltWrite

theorem State.Keeps.doCplTimeout {r : Nat} (h : σ.Keeps s) : σ.Keeps (doCplTimeout r s) := .ite h h.upd

theorem State.Keeps.drainCpl0 {n : Nat} (h : σ.Keeps s) : σ.Keeps (drainCpl0 n s) := by
  induction n generalizing s with
  | zero => exact h
  | succ n ih =>
    unfold Machine.drainCpl0
    split
    · exact h
    · exact .ite h (ih (.writeCpl h.upd))

theorem State.Keeps.signalTick (h : σ.Keeps s) : σ.Keeps s.signalTick := h.upd

theorem State.Keeps.ringOn {r : Nat} (h : σ.Keeps s) : σ.Keeps (s.ringOn r) := h.setRing.put.wr.showFull

theorem State.Keeps.ringOff {r : Nat} (h : σ.Keeps s) : σ.Keeps (s.ringOff r) :=
  .showFull (.ite h.setRing.upd h.setRing)

theorem State.Keeps.evtOn (h : σ.Keeps s) : σ.Keeps s.evtOn := h.upd

theorem State.Keeps.doLinkReset {kind : LinkReset} (h : σ.Keeps s) : σ.Keeps (doLinkReset kind s) :=
  .showEval (.log (.doMasterReset (.upd (.put (.put (.wr (.wr (.wr (.resetRange (.endSessions (.ite (.discardOpen
    (h.foldl fun _ _ h1 => h1.ringOff)) (h.foldl fun _ _ h1 => h1.ringOff))))))))))))

theorem State.Keeps.sessionOpenRes {d : Desc} (h : σ.Keeps s) : σ.Keeps (sessionOpenRes d s).st := by
  unfold Machine.sessionOpenRes
  refine .iteRes h (.iteRes h ?_)
  split
  · exact h
  · exact h.fresh.wr.wr.upd.showSessions

theorem State.Keeps.sessionCloseRes {d : Desc} (h : σ.Keeps s) : σ.Keeps (sessionCloseRes d s).st :=
  .iteRes h (.iteRes h h.endSession)

theorem State.Keeps.doExpiry {n : Nat} (h : σ.Keeps s) : σ.Keeps (doExpiry n s) := by
  unfold Machine.doExpiry
  split
  · exact h
  · exact .ite h.endSession h

end

/-! ### The memory controller -/

section
variable {s σ : State}

theorem State.Keeps.showLanes {c : Nat} (h : σ.Keeps s) : σ.Keeps (s.showLanes c) := h.wr.wr.wr.wr.wr.wr.wr.wr

theorem State.Keeps.showTrained {c : Nat} (h : σ.Keeps s) : σ.Keeps (s.showTrained c) := h.put.put.wr.showLanes

theorem State.Keeps.logFailures (h : σ.Keeps s) : σ.Keeps s.logFailures := h.foldl fun _ _ h1 => .ite h1 h1.log

theorem State.Keeps.trained {lanes : List TrainLane} (h : σ.Keeps s) : σ.Keeps (s.trained lanes) :=
  .logFailures (.put (.wr (h.upd.foldl fun _ _ h1 => h1.showTrained)))

theorem State.Keeps.doTrainingEnd {lanes : List TrainLane} (h : σ.Keeps s) : σ.Keeps (doTrainingEnd lanes s) :=
  .ite h h.upd.wr.trained

theorem State.Keeps.trackLane {c l : Nat} {x : TrackLane} (h : σ.Keeps s) : σ.Keeps (s.trackLane c l x) := h.upd

theorem State.Keeps.doTracking {c : Nat} {l0 l1 : TrackLane} (h : σ.Keeps s) : σ.Keeps (doTracking c l0 l1 s) :=
  .ite h (.ite (.ite h.trackLane.trackLane.upd.showLanes.wrSat.count
    h.trackLane.trackLane.upd.showLanes.wrSat.count.put.log) (.ite
    h.trackLane.trackLane.upd.showLanes.wrSat.count.put.log h.trackLane.trackLane.upd.showLanes.wrSat.count))

theorem State.Keeps.dramRetrainRes {d : Desc} (h : σ.Keeps s) : σ.Keeps (dramRetrainRes d s).st :=
  .iteRes h (.iteRes h (.iteRes (.iteRes h h.upd.put) (.iteRes h (.iteRes h (.iteRes h h.upd.put)))))

theorem State.Keeps.resumePorts (h : σ.Keeps s) : σ.Keeps s.resumePorts := h.upd

theorem State.Keeps.doRetrainComplete {lanes : List TrainLane} (h : σ.Keeps s) : σ.Keeps (doRetrainComplete lanes s)
    :=
  .ite h h.resumePorts.put.trained.log.finishOp

theorem State.Keeps.showPost (h : σ.Keeps s) : σ.Keeps s.showPost := h.upd.wr

theorem State.Keeps.doFreqTimeout (h : σ.Keeps s) : σ.Keeps (doFreqTimeout s) := by
  unfold Machine.doFreqTimeout
  split
  · exact h
  · exact .ite h h.upd.put.finishOp

end

/-! ### Fault containment -/

section
variable {s σ : State}

theorem State.Keeps.setPosS {p : Nat} {x : PosS} (h : σ.Keeps s) : σ.Keeps (s.setPosS p x) := h.upd

theorem State.Keeps.setClS {c : Nat} {x : ClusS} (h : σ.Keeps s) : σ.Keeps (s.setClS c x) := h.upd

theorem State.Keeps.hold {code : Nat} {data : List Byte} {scope : Nat} {cites : List Nat} (h : σ.Keeps s) : σ.Keeps
    (s.hold code data scope cites) :=
  h.upd

theorem State.Keeps.flushLogs (h : σ.Keeps s) : σ.Keeps s.flushLogs := .upd (h.foldl_fst fun _ _ h1 => h1.log)

theorem State.Keeps.setDieS {d : Nat} {x : DieS} (h : σ.Keeps s) : σ.Keeps (s.setDieS d x) := .ite h.upd h.upd

theorem State.Keeps.showHealth (h : σ.Keeps s) : σ.Keeps s.showHealth := h.wr.wr.wr.put.put.put

theorem State.Keeps.enterTest {c l : Nat} (h : σ.Keeps s) : σ.Keeps (s.enterTest c l) := h.wr.setPosS

theorem State.Keeps.abandonTest {c l : Nat} (h : σ.Keeps s) : σ.Keeps (s.abandonTest c l) :=
  .ite h.setPosS.setClS.finishOp h.setPosS

theorem State.Keeps.giveRole {c k l : Nat} (h : σ.Keeps s) : σ.Keeps (s.giveRole c k l) := h.wr.wr.abandonTest

theorem State.Keeps.retire {c l reason : Nat} (h : σ.Keeps s) : σ.Keeps (s.retire c l reason) := h.wr.setPosS.upd.hold

theorem State.Keeps.dropTests {d : Nat} (h : σ.Keeps s) : σ.Keeps (s.dropTests d) :=
  h.foldl fun _ _ h1 => h1.abandonTest

theorem State.Keeps.stopDie {d : Nat} (h : σ.Keeps s) : σ.Keeps (s.stopDie d) := h.upd

theorem State.Keeps.dropMemTests {c : Nat} (h : σ.Keeps s) : σ.Keeps (s.dropMemTests c) := .ite h h.setClS.finishOp

theorem State.Keeps.resetClusters {d : Nat} (h : σ.Keeps s) : σ.Keeps (s.resetClusters d) :=
  .foldl (h.foldl fun _ _ h1 => h1.put) fun _ _ h1 => h1.dropMemTests.setClS

theorem State.Keeps.dieReset {d : Nat} {asked : Bool} (h : σ.Keeps s) : σ.Keeps (s.dieReset d asked) :=
  h.resetClusters.dropTests.stopDie.setDieS.doMasterReset.wr.wr.count

theorem State.Keeps.oneDieOut {d cause : Nat} {service : Bool} (h : σ.Keeps s) : σ.Keeps (s.oneDieOut d cause
    service) :=
  .ite h.upd (.ite h.hold.setDieS.resetClusters.dropTests.stopDie.wr.setDieS h.hold.setDieS.dieReset)

theorem State.Keeps.dieOut {d cause : Nat} (h : σ.Keeps s) : σ.Keeps (s.dieOut d cause) :=
  .showHealth (.ite h.oneDieOut.oneDieOut h.oneDieOut)

theorem State.Keeps.rebuild {d : Nat} (h : σ.Keeps s) : σ.Keeps (s.rebuild d) := h.wr.wr.wr.setDieS

theorem State.Keeps.needAlt {c : Nat} (h : σ.Keeps s) : σ.Keeps (s.needAlt c) :=
  .ite h (.ite h.wr.put.count.setClS.hold (.dieOut (.ite h.hold.upd h.hold.upd)))

theorem State.Keeps.replace {c : Nat} (h : σ.Keeps s) : σ.Keeps (s.replace c) := by
  unfold State.replace
  refine .foldl (h.foldl fun _ _ h1 => h1.giveRole) fun _ _ h1 => ?_
  split
  · exact h1.giveRole
  · exact h1.wr

theorem State.Keeps.altTick {c : Nat} (h : σ.Keeps s) : σ.Keeps (s.altTick c) :=
  .ite h (.ite (.ite h.replace.put.setClS.hold h.setClS) (.ite h.setClS h.setClS))

theorem State.Keeps.noteFault {p : Nat} (h : σ.Keeps s) : σ.Keeps (s.noteFault p) := h.setPosS

theorem State.Keeps.placeFault {bad : List Nat} {q : FaultReq} {by_ : Option Nat} (h : σ.Keeps s) :
    σ.Keeps (s.placeFault bad q by_) := by
  unfold State.placeFault
  dsimp only
  split
  · exact .ite h.hold.giveRole.retire h.hold.giveRole.enterTest
  · split
    · exact .ite h.hold.giveRole.retire h.hold.giveRole.enterTest
    · exact .needAlt (.ite h.hold.retire h.hold.enterTest)

theorem State.Keeps.rotate {c : Nat} (h : σ.Keeps s) : σ.Keeps (s.rotate c) := by
  unfold State.rotate
  split
  · dsimp only
    split
    · exact h
    · exact .ite h.setClS h.setClS
  · dsimp only
    split
    · exact h
    · exact .ite h.setClS h.giveRole.enterTest.setClS.hold

theorem State.Keeps.newSpares (h : σ.Keeps s) : σ.Keeps s.newSpares := h.foldl fun _ _ h1 => .ite h1.wr.setPosS h1

theorem State.Keeps.memTestTick {c : Nat} (h : σ.Keeps s) : σ.Keeps (s.memTestTick c) :=
  h.foldl fun _ _ h1 => .ite h1.setClS.finishOp h1.setClS.needAlt.setClS

theorem State.Keeps.containTick (h : σ.Keeps s) : σ.Keeps s.containTick :=
  .showHealth (.foldl (.newSpares (.foldl (.foldl (h.foldl fun _ _ h1 => h1.placeFault) fun _ _ h1 => .needAlt (h1.foldl
    fun _ _ h2 => .ite h2 h2.enterTest)) fun _ _ h1 => .ite h1.rotate.memTestTick.setClS h1.rotate.memTestTick)) fun _ _
    h1 => .ite h1 h1.altTick)

theorem State.Keeps.doSelftestEnd {p : Nat} {pass : Bool} (h : σ.Keeps s) : σ.Keeps (doSelftestEnd p pass s) :=
  .ite h (.ite (.finishOp (.setClS (.ite h.setPosS.hold (.ite h.setPosS.hold.retire h.setPosS.hold)))) (.ite
    h.setPosS.hold (.ite h.setPosS.hold.retire h.setPosS.hold)))

theorem State.Keeps.doRotation {c : Nat} (h : σ.Keeps s) : σ.Keeps (doRotation c s) := .ite h.setClS h

theorem State.Keeps.selftestLanesRes {d : Desc} (h : σ.Keeps s) : σ.Keeps (selftestLanesRes d s).st :=
  .iteRes h (.iteRes h (.iteRes h (.iteRes h h.setClS)))

theorem State.Keeps.selftestMemRes {d : Desc} (h : σ.Keeps s) : σ.Keeps (selftestMemRes d s).st :=
  .iteRes h (.iteRes h (.iteRes h h.setClS))

theorem State.Keeps.doRebuildComplete (h : σ.Keeps s) : σ.Keeps (doRebuildComplete s) :=
  .ite (.ite h.setDieS h) (.ite (.ite h.setDieS h) h)

theorem State.Keeps.rebuildTick (h : σ.Keeps s) : σ.Keeps s.rebuildTick :=
  h.foldl fun _ _ h1 => .ite h1 (.ite h1.wr.wr.setDieS.count.hold.showHealth (.ite h1.dieOut h1.wrSat))

theorem State.Keeps.doRebuildTimeout {linkUe : Bool} (h : σ.Keeps s) : σ.Keeps (doRebuildTimeout linkUe s) :=
  .ite (.ite h.dieOut (.ite h.dieOut h)) (.ite (.ite h.dieOut (.ite h.dieOut h)) h)

theorem State.Keeps.dieResetRes {d : Desc} (h : σ.Keeps s) : σ.Keeps (dieResetRes d s).st :=
  .iteRes h (.iteRes h h.dieReset.showHealth)

theorem State.Keeps.doDieSupply {d : Nat} (h : σ.Keeps s) : σ.Keeps (doDieSupply d s) := .ite h h.put.dieOut.siltWrite

theorem State.Keeps.restartTick (h : σ.Keeps s) : σ.Keeps s.restartTick := by
  unfold State.restartTick
  refine h.foldl fun _ _ h1 => .ite (.ite h1.rebuild h1.setDieS) ?_
  split
  · exact h1
  · exact .ite h1 (.ite h1.wr.setDieS (.ite h1.wr.setDieS.setDieS.rebuild h1.wr.setDieS.wr))

end

/-! ### The fixed graph -/

section
variable {s σ : State}

theorem State.Keeps.setDsp {d : Nat} {x : DspS} (h : σ.Keeps s) : σ.Keeps (s.setDsp d x) := .ite h.upd h.upd

theorem State.Keeps.publishMeters {dies : List Nat} (h : σ.Keeps s) : σ.Keeps (s.publishMeters dies) :=
  .upd (h.foldl fun _ _ h1 => h1.upd)

theorem State.Keeps.meterRes {d : Desc} (h : σ.Keeps s) : σ.Keeps (meterRes d s).st :=
  .iteRes h (.iteRes h (.ite h.upd h))

theorem State.Keeps.tapRes {d : Desc} (h : σ.Keeps s) : σ.Keeps (tapRes d s).st :=
  .iteRes h (.iteRes h (.iteRes h h.upd))

theorem State.Keeps.feedCaps {f : Nat} (h : σ.Keeps s) : σ.Keeps (s.feedCaps f) :=
  h.foldl fun _ _ h1 => .ite h1.upd.finish h1.upd

theorem State.Keeps.objReadRes {d : Desc} (h : σ.Keeps s) : σ.Keeps (objReadRes d s).st :=
  .iteRes h (.iteRes h (.iteRes h h))

end

/-! ### The Dranko lanes -/

section
variable {s σ : State}

theorem State.Keeps.setLaneP {p : Nat} {x : LaneP} (h : σ.Keeps s) : σ.Keeps (s.setLaneP p x) := h.upd

theorem State.Keeps.setLogl {k : Nat} {x : LogL} (h : σ.Keeps s) : σ.Keeps (s.setLogl k x) := h.upd

theorem State.Keeps.setRegion {l : List (Nat × Word36)} (h : σ.Keeps s) : σ.Keeps (s.setRegion l) := h.upd

theorem State.Keeps.fillExports {kid : Nat} {lines : List Nat} (h : σ.Keeps s) : σ.Keeps (s.fillExports kid lines)
    :=
  h.setRegion

theorem State.Keeps.laneFault {p cls : Nat} {x : LaneP} (h : σ.Keeps s) : σ.Keeps (s.laneFault p cls x) :=
  h.fillExports.setLaneP.wr.wr.wr.wr.count.wr.noteFault.setClS.upd

theorem State.Keeps.setCluMem {c : Nat} {m : CluMem} (h : σ.Keeps s) : σ.Keeps (s.setCluMem c m) := h.upd

theorem State.Keeps.markBad {c pc : Nat} (h : σ.Keeps s) : σ.Keeps (s.markBad c pc) := h.setCluMem

theorem State.Keeps.repairCode {c : Nat} (h : σ.Keeps s) : σ.Keeps (s.repairCode c) := .ite h h.setCluMem

theorem State.Keeps.fillCode {c : Nat} {upsets : List (Nat × BitVec 64)} (h : σ.Keeps s) : σ.Keeps (s.fillCode c
    upsets) :=
  h.setCluMem

theorem State.Keeps.issue {p : Nat} {hw : LaneHw} {d : LaneP} (h : σ.Keeps s) : σ.Keeps (s.issue p hw d) :=
  .ite (.laneFault (.markBad (.ite (.ite h.count h) (.count (.ite h.count h))))) (.ite (.laneFault (.ite (.ite h.count
    h) (.count (.ite h.count h)))) (.ite (.laneFault (.ite (.ite h.count h) (.count (.ite h.count h)))) (.ite
    (.laneFault (.ite (.ite h.count h) (.count (.ite h.count h)))) (.ite (.laneFault (.ite (.ite h.count h) (.count
    (.ite h.count h)))) (.ite (.laneFault (.count (.setLogl (.ite (.ite h.count h) (.count (.ite h.count h)))))) (.ite
    (.laneFault (.count (.setLogl (.ite (.ite h.count h) (.count (.ite h.count h)))))) (.setLaneP (.count (.setLogl
    (.ite (.ite h.count h) (.count (.ite h.count h))))))))))))

theorem State.Keeps.nextRun {p : Nat} {x : LaneP} {x3 : List (Nat × Nat)} (h : σ.Keeps s) : σ.Keeps (s.nextRun p x x3)
    := by
  unfold State.nextRun
  split
  · exact h.setLaneP
  · split
    · exact h.setLaneP

theorem State.Keeps.doBundle {p : Nat} {hw : LaneHw} (h : σ.Keeps s) : σ.Keeps (doBundle p hw s) := by
  unfold Machine.doBundle
  refine .ite h (.ite h.setLaneP ?_)
  split
  · exact h.nextRun
  · exact .ite (.setLaneP (.count (.ite h.count h))) h.issue

theorem State.Keeps.doWaitEnd {w : WaitEnd} (h : σ.Keeps s) : σ.Keeps (doWaitEnd w s) :=
  .ite h (.ite h (.ite h.laneFault h.issue))

theorem State.Keeps.doOverdue {p : Nat} (h : σ.Keeps s) : σ.Keeps (doOverdue p s) := by
  unfold Machine.doOverdue
  dsimp only
  split
  · exact .ite h h.laneFault
  · exact h

theorem State.Keeps.flagDie {d : Nat} (h : σ.Keeps s) : σ.Keeps (s.flagDie d) := .ite h.upd h.upd

theorem State.Keeps.noteRmce {n : Nat} (h : σ.Keeps s) : σ.Keeps (s.noteRmce n) := h.upd

theorem State.Keeps.lineIn {c : Nat} {t : Transfer} {read : Ecc} (h : σ.Keeps s) : σ.Keeps (s.lineIn c t read) :=
  .ite h (.foldl (.ite h.flagDie (.ite h.noteRmce h)) fun _ _ h1 => h1.setLaneP)

theorem State.Keeps.lineOut {c l : Nat} {t : Transfer} (h : σ.Keeps s) : σ.Keeps (s.lineOut c l t) :=
  .ite h (.ite h.laneFault (.setLaneP (.setRegion (.ite h h.count))))

theorem State.Keeps.doTransfer {c : Nat} {t : Transfer} (h : σ.Keeps s) : σ.Keeps (doTransfer c t s) := by
  unfold Machine.doTransfer
  refine .ite h (.ite h.lineIn ?_)
  split
  · exact .ite h h.lineOut
  · exact h

theorem State.Keeps.startPass {p kid start descs cyc : Nat} {xfers : List Xfer} (h : σ.Keeps s) : σ.Keeps
    (s.startPass p kid start descs cyc xfers) :=
  h.repairCode.upd.setLaneP

theorem State.Keeps.loadImage {p kid : Nat} (h : σ.Keeps s) : σ.Keeps (s.loadImage p kid) := h.setLaneP

theorem State.Keeps.startSched {p kid cyc : Nat} {primed : List Nat} (h : σ.Keeps s) : σ.Keeps (s.startSched p kid cyc
    primed) := by
  unfold State.startSched
  refine .setLaneP ?_
  split
  · exact h.startPass
  · exact h.startPass

theorem State.Keeps.startMain {primed : List Nat} (h : σ.Keeps s) : σ.Keeps (s.startMain primed) :=
  h.foldl fun _ _ h1 => .ite h1.startSched h1

theorem State.Keeps.moveIn {p kid : Nat} (h : σ.Keeps s) : σ.Keeps (s.moveIn p kid) := h.foldl fun _ _ h1 => h1.setLaneP

theorem State.Keeps.startReplay {p kid f : Nat} {primed : List Nat} (h : σ.Keeps s) : σ.Keeps (s.startReplay p kid f
    primed) :=
  h.loadImage.moveIn.startSched

theorem State.Keeps.startPart {kid : Nat} {insts : List (Nat × Bool)} {xfers : List Xfer} {descs cyc : Nat} (h :
    σ.Keeps s) : σ.Keeps (s.startPart kid insts xfers descs cyc) := by
  unfold State.startPart
  split
  · exact h
  · exact h.startPass.setLaneP

theorem State.Keeps.deliverPorts {out : Nat → Bool} (h : σ.Keeps s) : σ.Keeps (s.deliverPorts out) := by
  unfold State.deliverPorts
  refine h.foldl fun _ _ h1 => .ite (h1.foldl fun _ _ h2 => ?_) (.setLogl (h1.foldl fun _ _ h2 => ?_))
  · split
    · exact h2.upd
    · exact h2
  · split
    · exact h2.upd
    · exact h2

theorem State.Keeps.haltLanes (h : σ.Keeps s) : σ.Keeps s.haltLanes := h.upd

theorem State.Keeps.promoteLanes (h : σ.Keeps s) : σ.Keeps s.promoteLanes := by
  unfold State.promoteLanes
  refine h.foldl fun _ _ h1 => ?_
  split
  · exact h1.setLogl
  · exact .ite h1.setLogl h1.setLogl.setLaneP

theorem State.Keeps.reseatLanes (h : σ.Keeps s) : σ.Keeps s.reseatLanes :=
  h.upd.foldl fun _ _ h1 => .ite h1.loadImage h1

theorem State.Keeps.entryMoves (h : σ.Keeps s) : σ.Keeps s.entryMoves := by
  unfold State.entryMoves
  refine h.foldl fun _ _ h1 => .ite h1 ?_
  split
  · exact h1.moveIn
  · exact h1

theorem State.Keeps.exitMoves {c : Nat} (h : σ.Keeps s) : σ.Keeps (s.exitMoves c) := h.foldl fun _ _ h1 => h1.setLogl

theorem State.Keeps.placeMoves {c : Nat} (h : σ.Keeps s) : σ.Keeps (s.placeMoves c) := h.foldl fun _ _ h1 => h1.setLogl

theorem State.Keeps.copyDie {src dst : Nat} (h : σ.Keeps s) : σ.Keeps (s.copyDie src dst) :=
  .foldl (h.upd.foldl fun _ _ h1 => h1.setLogl) fun _ _ h1 => h1.placeMoves

theorem State.Keeps.containAll (h : σ.Keeps s) : σ.Keeps s.containAll := h.containTick.foldl fun _ _ h1 => h1.exitMoves

theorem State.Keeps.doMemTestEnd {c : Nat} {pass : Bool} {fills : MemFills} (h : σ.Keeps s) : σ.Keeps (doMemTestEnd c
    pass fills s) := by
  unfold Machine.doMemTestEnd
  dsimp only
  split
  · exact h
  · exact .ite h (.finishOp (.ite h.setClS.fillCode (.ite h.setClS.fillCode.wr (.ite h.setClS.fillCode.fillCode.wr
    h.setClS.fillCode.fillCode.wr.setClS))))

end

/-! ### Intake and the eddy arbiter -/

section
variable {s σ : State}

theorem State.Keeps.sendInput {src : Nat} {ys : List Int} (h : σ.Keeps s) : σ.Keeps (s.sendInput src ys) := by
  unfold State.sendInput
  split
  · exact h
  · exact h.setRegion

theorem State.Keeps.deliver {f src : Nat} {st : Conceal} (h : σ.Keeps s) : σ.Keeps (s.deliver f src st) := by
  unfold State.deliver
  split
  · exact h.upd.sendInput

theorem State.Keeps.buildBlock {f : Nat} (h : σ.Keeps s) : σ.Keeps (s.buildBlock f) :=
  h.upd.foldl fun _ _ h1 => h1.deliver

theorem State.Keeps.soak {f : Nat} {data : List (Nat × Heard)} (h : σ.Keeps s) : σ.Keeps (s.soak f data) :=
  h.foldl fun _ _ h1 => h1.upd

theorem State.Keeps.applyLate {f : Nat} {data : List (Nat × Heard)} (h : σ.Keeps s) : σ.Keeps (s.applyLate f data)
    :=
  .ite h.soak (h.soak.foldl fun _ _ h1 => h1.deliver)

theorem State.Keeps.refusePass {stream : Option Nat} {res : Bool} (h : σ.Keeps s) : σ.Keeps (s.refusePass stream
    res) :=
  h.upd

theorem State.Keeps.servePass {q : EddyReq} {joined : Bool} (h : σ.Keeps s) : σ.Keeps (s.servePass q joined) :=
  h.upd.applyLate

theorem State.Keeps.dupPass {q : EddyReq} (h : σ.Keeps s) : σ.Keeps (s.dupPass q) := h.upd

theorem State.Keeps.applyBare {q : EddyReq} (h : σ.Keeps s) : σ.Keeps (s.applyBare q) :=
  .ite h.dupPass (.ite h.refusePass h.servePass)

theorem State.Keeps.presentHeld {f : Nat} (h : σ.Keeps s) : σ.Keeps (s.presentHeld f) :=
  h.foldl fun _ _ h1 => h1.upd.applyBare

theorem State.Keeps.arrive {stream : Option Nat} {f : Nat} {data : List (Nat × Heard)} {pathB counted dupDone : Bool}
    (h : σ.Keeps s) : σ.Keeps (s.arrive stream f data pathB counted dupDone) := by
  unfold State.arrive
  split
  · exact h.soak
  · exact .ite h.applyBare h.upd
  · exact h.upd
  · exact h

theorem State.Keeps.charge {start : Nat} {parts : List (Nat × Nat × Nat)} (h : σ.Keeps s) : σ.Keeps (s.charge start
    parts) :=
  h.foldl fun _ _ h1 => h1.upd

theorem State.Keeps.decidePass {p : PlanImage} {q : EddyReq} (h : σ.Keeps s) : σ.Keeps (s.decidePass p q) :=
  .ite h.applyBare (.ite h.refusePass (.ite h.servePass (.ite h.charge.charge.upd.servePass h.refusePass)))

theorem State.Keeps.doPassAdmission (h : σ.Keeps s) : σ.Keeps (doPassAdmission s) := by
  unfold Machine.doPassAdmission
  split
  · exact .ite h h.upd.decidePass
  · exact h

theorem State.Keeps.refuseReplay {q : FaultReq} (h : σ.Keeps s) : σ.Keeps (s.refuseReplay q) := h.upd.flagDie

theorem State.Keeps.admitReplay {p : PlanImage} {q : FaultReq} {by_ : Nat} (h : σ.Keeps s) : σ.Keeps (s.admitReplay
    p q by_) :=
  .startReplay (.ite h.upd.abandonTest h.upd)

theorem State.Keeps.decideReplay {p : PlanImage} {q : FaultReq} (h : σ.Keeps s) : σ.Keeps (s.decideReplay p q) := by
  unfold State.decideReplay
  split
  · exact h.refuseReplay
  · exact .ite (.ite h.admitReplay.charge h.admitReplay.charge.upd) h.refuseReplay

theorem State.Keeps.doReplayAdmission (h : σ.Keeps s) : σ.Keeps (doReplayAdmission s) := by
  unfold Machine.doReplayAdmission
  split
  · exact .ite h h.upd.decideReplay
  · exact h

theorem State.Keeps.decideAll {n : Nat} (h : σ.Keeps s) : σ.Keeps (s.decideAll n) := by
  induction n generalizing s with
  | zero => exact h
  | succ n ih =>
    unfold State.decideAll
    exact .ite (ih h.doPassAdmission) (.ite h (ih h.doReplayAdmission))

theorem State.Keeps.refuseLeft (h : σ.Keeps s) : σ.Keeps s.refuseLeft := h.upd.foldl fun _ _ h1 => h1.refuseReplay

theorem State.Keeps.runPart {i : Nat} {q : PassPart} (h : σ.Keeps s) : σ.Keeps (s.runPart i q) := by
  unfold State.runPart
  split
  · exact .startPart (h.upd.foldl fun _ _ h1 => h1.fillExports)
  · exact h.upd

theorem State.Keeps.doPassRun (h : σ.Keeps s) : σ.Keeps (doPassRun s) := by
  unfold Machine.doPassRun
  split
  · exact h
  · exact .ite h h.reach.runPart

end

/-! ### Samples played -/

section
variable {s σ : State}

theorem State.Keeps.skimWaits {src cap : Nat} (h : σ.Keeps s) : σ.Keeps (s.skimWaits src cap) := by
  unfold State.skimWaits
  refine h.foldl fun _ _ h1 => .ite ?_ h1
  split
  · exact .ite h1.endWait.upd.count h1.endWait
  · exact h1

theorem State.Keeps.skimGenWaits (h : σ.Keeps s) : σ.Keeps s.skimGenWaits := by
  unfold State.skimGenWaits
  refine h.foldl fun _ _ h1 => .ite ?_ h1
  dsimp only
  split
  · exact .ite h1.endWait.upd.count h1.endWait
  · exact h1

end

/-! ### Network ports, the switch and the streams -/

section
variable {s σ : State}

theorem State.Keeps.dropFrame {p : Nat} (h : σ.Keeps s) : σ.Keeps (s.dropFrame p) := h.count

theorem State.Keeps.showSwitch (h : σ.Keeps s) : σ.Keeps s.showSwitch := h.wrSat.wrSat

theorem State.Keeps.learn {p mac : Nat} (h : σ.Keeps s) : σ.Keeps (s.learn p mac) := .ite h.upd.showSwitch h

theorem State.Keeps.noteRouter {f : NetFrame} (h : σ.Keeps s) : σ.Keeps (s.noteRouter f) := .ite h.upd h

theorem State.Keeps.handTo {f : NetFrame} {q : Nat} (h : σ.Keeps s) : σ.Keeps (s.handTo f q) :=
  .ite h.upd h.enqueueFrame

theorem State.Keeps.doFrameForward {f : NetFrame} (h : σ.Keeps s) : σ.Keeps (doFrameForward f s) :=
  .ite h (.ite h.count.count (.ite h.count.dropFrame (.ite h.count.learn.noteRouter.dropFrame
    (h.count.learn.noteRouter.foldl fun _ _ h1 => h1.handTo))))

theorem State.Keeps.reply {x : NetReply} {bytes : Nat} (h : σ.Keeps s) : σ.Keeps (s.reply x bytes) := h.upd.enqueueFrame

theorem State.Keeps.report {p kind addr src : Nat} (h : σ.Keeps s) : σ.Keeps (s.report p kind addr src) :=
  .ite h.reply h

theorem State.Keeps.doArp {p target : Nat} {from_ : NetHost} (h : σ.Keeps s) : σ.Keeps (doArp p target from_ s) :=
  .ite h (.ite h.count.reply h.count)

theorem State.Keeps.doEcho {p target : Nat} {from_ : NetHost} {payload : List Byte} (h : σ.Keeps s) : σ.Keeps
    (doEcho p target from_ payload s) :=
  .ite h (.ite h.count.dropFrame (.ite h.count.reply h.count.dropFrame))

theorem State.Keeps.doIgmp {p group : Nat} (h : σ.Keeps s) : σ.Keeps (doIgmp p group s) :=
  .ite h (.ite h.count h.count.upd.showSwitch)

theorem State.Keeps.doAgeing {group mac : Nat} (h : σ.Keeps s) : σ.Keeps (doAgeing group mac s) := h.upd.showSwitch

theorem State.Keeps.doLinkState {p : Nat} {up fecLock : Bool} (h : σ.Keeps s) : σ.Keeps (doLinkState p up fecLock s)
    :=
  .ite h h.put.put

theorem State.Keeps.setRx {i : Nat} {x : RxCtx} (h : σ.Keeps s) : σ.Keeps (s.setRx i x) := h.upd

theorem State.Keeps.setTx {i : Nat} {x : TxCtx} (h : σ.Keeps s) : σ.Keeps (s.setTx i x) := h.upd

theorem State.Keeps.showStrm (h : σ.Keeps s) : σ.Keeps s.showStrm :=
  .foldl (h.wr.wr.wrSat.wrSat.wr.wr.foldl fun _ _ h1 => h1.wr.wr) fun _ _ h1 => h1.wrSat

theorem State.Keeps.streamStatRes {d : Desc} (h : σ.Keeps s) : σ.Keeps (streamStatRes d s).st := by
  unfold Machine.streamStatRes
  refine .iteRes h (.iteRes h (.iteRes ?_ ?_))
  · split
    · exact h
    · exact .ite h.setRx h
  · split
    · exact h
    · exact .ite h.setTx h

theorem State.Keeps.clearStreams (h : σ.Keeps s) : σ.Keeps s.clearStreams := h.upd

theorem State.Keeps.leaveGroups {i : Nat} (h : σ.Keeps s) : σ.Keeps (s.leaveGroups i) :=
  .ite h (.ite h.setRx.report.report h.setRx.report)

theorem State.Keeps.streamOpenRes {d : Desc} (h : σ.Keeps s) : σ.Keeps (streamOpenRes d s).st := by
  unfold Machine.streamOpenRes
  refine .iteRes h (.iteRes h (.iteRes h ?_))
  split
  · exact h
  · exact .iteRes h (.iteRes (.iteRes h (.iteRes h (.ite h.leaveGroups.setRx.report.report h.leaveGroups.setRx.report)))
    (.iteRes h (.iteRes h h.fresh.setTx.showStrm.showEval)))

theorem State.Keeps.doStreamOpened {tx : Bool} {i : Nat} (h : σ.Keeps s) : σ.Keeps (doStreamOpened tx i s) :=
  .ite (.ite h h.reach.setTx.showStrm) (.ite h h.reach.upd.setRx.showStrm.showEval)

theorem State.Keeps.streamCloseRes {d : Desc} (h : σ.Keeps s) : σ.Keeps (streamCloseRes d s).st :=
  .iteRes h (.iteRes h (.iteRes (.iteRes h (.iteRes h (.iteRes h.setRx h.setRx))) (.iteRes h (.iteRes h (.iteRes h.setTx
    h.setTx)))))

theorem State.Keeps.doStreamClosed {tx : Bool} {i : Nat} (h : σ.Keeps s) : σ.Keeps (doStreamClosed tx i s) :=
  .ite (.ite h h.reach.setTx.showStrm.showEval) (.ite h h.reach.setRx.upd.showStrm.showEval)

theorem State.Keeps.streamEvent {tx : Bool} {i st : Nat} (h : σ.Keeps s) : σ.Keeps (s.streamEvent tx i st) := h.post

theorem State.Keeps.closeStreams (h : σ.Keeps s) : σ.Keeps s.closeStreams := by
  unfold State.closeStreams
  extract_lets s1 s2
  have h1 : σ.Keeps s1 := h.foldl fun _ _ ha => .ite ha.setRx ha.setRx.streamEvent
  have h2 : σ.Keeps s2 := h1.foldl fun _ _ ha => ha.setTx.streamEvent
  exact h2.upd.showStrm

theorem State.Keeps.authFailed {i : Nat} (h : σ.Keeps s) : σ.Keeps (s.authFailed i) := .ite h.setRx.post h.setRx

theorem State.Keeps.pathSeen {i : Nat} {pathB : Bool} {seq : Nat} (h : σ.Keeps s) : σ.Keeps (s.pathSeen i pathB seq)
    :=
  .ite h.setRx h.setRx.streamEvent.showStrm

theorem State.Keeps.takePacket {i : Nat} {pathB : Bool} {p : Packet} (h : σ.Keeps s) : σ.Keeps (s.takePacket i pathB
    p) :=
  h.setRx.foldl fun _ _ h1 => h1.arrive

theorem State.Keeps.doPacket {p : Packet} (h : σ.Keeps s) : σ.Keeps (doPacket p s) := by
  unfold Machine.doPacket
  refine .ite h (.ite h.count.dropFrame (.ite h.count.dropFrame ?_))
  split
  · exact h.count.dropFrame
  · refine .ite h.count.setRx ?_
    split
    · exact h.count.authFailed
    · exact h.count.setRx.pathSeen
    · exact .ite h.count.setRx h.count.setRx.pathSeen.takePacket

theorem State.Keeps.doPathDown {i : Nat} {pathB : Bool} (h : σ.Keeps s) : σ.Keeps (doPathDown i pathB s) :=
  .ite h h.setRx.streamEvent.showStrm

theorem State.Keeps.shiftWater {chans : List Nat} {f : Nat} {rep : Bool} (h : σ.Keeps s) : σ.Keeps (s.shiftWater
    chans f rep) :=
  h.upd.foldl fun _ _ h1 => h1.soak

theorem State.Keeps.doSlipWindow {i : Nat} (h : σ.Keeps s) : σ.Keeps (doSlipWindow i s) :=
  .ite h (.ite h.setRx (.ite h.setRx.shiftWater (.ite h.setRx.shiftWater h.setRx)))

theorem State.Keeps.doLateDrops (h : σ.Keeps s) : σ.Keeps (doLateDrops s) := h.foldl fun _ _ h1 => h1.setRx.post

theorem State.Keeps.releasePacket {i launch : Nat} {smps : List (Nat × List Int)} (h : σ.Keeps s) : σ.Keeps
    (s.releasePacket i launch smps) :=
  h.setTx

theorem State.Keeps.txRelease {i : Nat} (h : σ.Keeps s) : σ.Keeps (s.txRelease i) := by
  unfold State.txRelease
  dsimp only
  split
  · exact h.setTx
  · exact .ite (h.foldl fun _ _ h1 => h1.releasePacket) (.ite h.setTx h.setTx.releasePacket)

theorem State.Keeps.txReleases (h : σ.Keeps s) : σ.Keeps s.txReleases := h.foldl fun _ _ h1 => h1.txRelease

theorem State.Keeps.launchOn {i : Nat} {b : Bool} (h : σ.Keeps s) : σ.Keeps (s.launchOn i b) := by
  unfold State.launchOn
  dsimp only
  split
  · exact h
  · exact .ite h h.setTx.count

theorem State.Keeps.doPacketLaunch {i : Nat} (h : σ.Keeps s) : σ.Keeps (doPacketLaunch i s) := by
  unfold Machine.doPacketLaunch
  dsimp only
  split
  · exact h
  · exact h.reach.launchOn.launchOn

theorem State.Keeps.doTxDeadline {i : Nat} (h : σ.Keeps s) : σ.Keeps (doTxDeadline i s) := by
  unfold Machine.doTxDeadline
  dsimp only
  split
  · exact h
  · exact h.reach.advanceGen.setTx.foldl fun _ _ h1 => h1.count

theorem State.Keeps.doEgress {p : Nat} (h : σ.Keeps s) : σ.Keeps (doEgress p s) := by
  unfold Machine.doEgress
  refine .ite h ?_
  dsimp only
  split
  · exact h
  · exact .ite h h.upd.count

theorem State.Keeps.countStreams {f : Nat} (h : σ.Keeps s) : σ.Keeps (s.countStreams f) :=
  h.foldl fun _ _ h1 => h1.setRx

theorem State.Keeps.publishStreams (h : σ.Keeps s) : σ.Keeps s.publishStreams := h.upd

theorem State.Keeps.endClosing (h : σ.Keeps s) : σ.Keeps s.endClosing := .upd (h.foldl fun _ _ h1 => h1.leaveGroups)

end

/-! ### The partner node -/

section
variable {s σ : State}

theorem State.Keeps.onFrame {type : Nat} {f : OuvFrame} {act : State → State} (h : σ.Keeps s)
    (ha : ∀ u, σ.Keeps u → σ.Keeps (act u)) : σ.Keeps (s.onFrame type f act) :=
  .ite h (.ite h.discardFrame (.ite h (ha s h)))

theorem State.Keeps.sendHeartbeat (h : σ.Keeps s) : σ.Keeps s.sendHeartbeat := h.ouvSend

theorem State.Keeps.inStep (h : σ.Keeps s) : σ.Keeps s.inStep := h.wr.log

theorem State.Keeps.judgePartner (h : σ.Keeps s) : σ.Keeps s.judgePartner := .ite h.wr (.ite h.wr (.ite h.inStep h))

theorem State.Keeps.doHeartbeat {f : OuvFrame} (h : σ.Keeps s) : σ.Keeps (doHeartbeat f s) :=
  h.onFrame fun _ h1 => .ite h1 h1.upd.judgePartner

theorem State.Keeps.doPartnerLost (h : σ.Keeps s) : σ.Keeps (doPartnerLost s) := .ite h.upd.wr.count.log h

theorem State.Keeps.sendAck {seq status : Nat} (h : σ.Keeps s) : σ.Keeps (s.sendAck seq status) := h.ouvSend

theorem State.Keeps.takeConfig {seq l : Nat} {items : Tbl Nat} (h : σ.Keeps s) : σ.Keeps (s.takeConfig seq l items)
    :=
  .ite (.ite h.sendAck.upd h.sendAck) (.ite h.sendAck h.fresh.commitTo.sendAck)

theorem State.Keeps.doConfig {f : OuvFrame} (h : σ.Keeps s) : σ.Keeps (doConfig f s) :=
  h.onFrame fun _ h1 => .ite h1 (.ite h1.upd.takeConfig h1.upd)

theorem State.Keeps.doConfigTimeout (h : σ.Keeps s) : σ.Keeps (doConfigTimeout s) := by
  unfold Machine.doConfigTimeout
  split
  · exact h
  · exact .ite h (.ite h.upd.wr h.upd)

theorem State.Keeps.doImage {f : OuvFrame} (h : σ.Keeps s) : σ.Keeps (doImage f s) :=
  h.onFrame fun _ h1 => .ite h1 (.ite h1.upd h1.upd)

theorem State.Keeps.imageSentinels {w : List (Nat × Nat)} (h : σ.Keeps s) : σ.Keeps (s.imageSentinels w) := h.upd

theorem State.Keeps.applyWords {w : List (Nat × Nat)} (h : σ.Keeps s) : σ.Keeps (s.applyWords w) :=
  h.upd.foldl fun _ _ h1 => h1.placeMoves

theorem State.Keeps.imageTick (h : σ.Keeps s) : σ.Keeps s.imageTick := by
  unfold State.imageTick
  split
  · exact h
  · exact .ite h.upd (.ite h.upd.imageSentinels (.ite h.upd.imageSentinels.upd.applyWords.inStep
    h.upd.imageSentinels.upd.applyWords))

theorem State.Keeps.doImageSend (h : σ.Keeps s) : σ.Keeps (doImageSend s) :=
  .ite (.upd (h.foldl fun _ _ h1 => h1.ouvSend)) h

theorem State.Keeps.raiseAuth (h : σ.Keeps s) : σ.Keeps s.raiseAuth := .ite h h.put.put

theorem State.Keeps.tookAuth {reason : Nat} (h : σ.Keeps s) : σ.Keeps (s.tookAuth reason) := h.upd.count.log

theorem State.Keeps.dropPin (h : σ.Keeps s) : σ.Keeps s.dropPin := h.upd.put.put

theorem State.Keeps.dropAuth {reason : Nat} (h : σ.Keeps s) : σ.Keeps (s.dropAuth reason) :=
  .ite h.dropPin.discardOpen.count.log h

theorem State.Keeps.authTick {inLow : Bool} (h : σ.Keeps s) : σ.Keeps (s.authTick inLow) := by
  unfold State.authTick
  refine .ite (.ite (.upd (.dropAuth (.ite (.put ?_) ?_))) (.ite (.upd (.dropAuth (.ite (.put ?_) ?_))) (.ite (.put ?_)
    ?_))) (.ite (.ite (.put ?_) ?_) (.ite (.tookAuth (.raiseAuth (.ite (.put ?_) ?_))) (.ite (.ite (.put ?_) ?_) (.ite
    (.upd (.raiseAuth (.ite (.put ?_) ?_))) (.ite (.put ?_) ?_)))))
  · split
    · exact h.upd.tookAuth
    · exact h.upd
  · split
    · exact h.upd.tookAuth
    · exact h.upd
  · split
    · exact h.upd.tookAuth
    · exact h.upd
  · split
    · exact h.upd.tookAuth
    · exact h.upd
  · split
    · exact h.upd.tookAuth
    · exact h.upd
  · split
    · exact h.upd.tookAuth
    · exact h.upd
  · split
    · exact h.upd.tookAuth
    · exact h.upd
  · split
    · exact h.upd.tookAuth
    · exact h.upd
  · split
    · exact h.upd.tookAuth
    · exact h.upd
  · split
    · exact h.upd.tookAuth
    · exact h.upd
  · split
    · exact h.upd.tookAuth
    · exact h.upd
  · split
    · exact h.upd.tookAuth
    · exact h.upd
  · split
    · exact h.upd.tookAuth
    · exact h.upd
  · split
    · exact h.upd.tookAuth
    · exact h.upd
  · split
    · exact h.upd.tookAuth
    · exact h.upd
  · split
    · exact h.upd.tookAuth
    · exact h.upd

theorem State.Keeps.doAuthWatchdog (h : σ.Keeps s) : σ.Keeps (doAuthWatchdog s) := .ite h.dropAuth h

theorem State.Keeps.authHandoverRes {d : Desc} (h : σ.Keeps s) : σ.Keeps (authHandoverRes d s).st :=
  .iteRes h (.iteRes h (.iteRes h h.ouvSend.upd))

theorem State.Keeps.doHandover {f : OuvFrame} (h : σ.Keeps s) : σ.Keeps (doHandover f s) :=
  h.onFrame fun _ h1 => .ite h1 (.ite h1.sendAck.upd h1.sendAck)

theorem State.Keeps.doAck {f : OuvFrame} (h : σ.Keeps s) : σ.Keeps (doAck f s) := by
  unfold Machine.doAck
  refine h.onFrame fun _ h1 => .ite h1 ?_
  split
  · dsimp only
    split
    · exact .ite (.finishOp (.upd (.ite h1.upd h1))) (.ite h1.upd h1)
    · exact .ite h1.upd h1
  · dsimp only
    split
    · exact .ite h1.upd.finishOp h1
    · exact h1

theorem State.Keeps.doHandTimeout (h : σ.Keeps s) : σ.Keeps (doHandTimeout s) := by
  unfold Machine.doHandTimeout
  split
  · exact .ite h h.upd.finishOp
  · exact h

theorem State.Keeps.doHandBoundary (h : σ.Keeps s) : σ.Keeps (doHandBoundary s) := by
  unfold Machine.doHandBoundary
  split
  · exact .ite h (.ite h.upd.dropAuth (.ite h.upd (.ite h h.upd.raiseAuth.tookAuth)))
  · exact h

theorem State.Keeps.doAuthIn {level : Bool} (h : σ.Keeps s) : σ.Keeps (doAuthIn level s) := by
  unfold Machine.doAuthIn
  dsimp only
  split
  · exact .ite h.put h.put.doHandBoundary
  · exact .ite h.put.dropPin h.put.tookAuth

theorem State.Keeps.doOuvLink {st : Nat} (h : σ.Keeps s) : σ.Keeps (doOuvLink st s) := .ite h h.wr

end

/-! ### Plan images -/

section
variable {s σ : State}

theorem State.Keeps.setPw {new : Nat} (h : σ.Keeps s) : σ.Keeps (s.setPw new) := .ite h h.wr.siltWrite

theorem State.Keeps.resetSh (h : σ.Keeps s) : σ.Keeps s.resetSh := h.foldl fun _ _ h1 => h1.setWord

theorem State.Keeps.planBase {p : PlanImage} (h : σ.Keeps s) : σ.Keeps (s.planBase p) :=
  .foldl (.wr (.foldl (h.resetSh.upd.wr.wr.wr.wr.wr.foldl fun _ _ h1 => h1.wr.wr) fun _ _ h1 => h1.wr)) fun _ _ h1 =>
    h1.wr

theorem State.Keeps.placeLanes {c : Nat} (h : σ.Keeps s) : σ.Keeps (s.placeLanes c) := by
  unfold State.placeLanes
  refine h.foldl fun _ _ h1 => .ite h1 ?_
  split
  · exact h1.giveRole
  · exact h1.wr

theorem State.Keeps.loadCode {p : PlanImage} {on : Nat → Bool} {upsets : List (Nat × Nat × BitVec 64)} (h : σ.Keeps
    s) : σ.Keeps (s.loadCode p on upsets) :=
  h.foldl fun _ _ h1 => h1.upd.wr.wr.fillCode.wr

theorem State.Keeps.loadLanes {p : PlanImage} {on : Nat → Bool} (h : σ.Keeps s) : σ.Keeps (s.loadLanes p on) :=
  h.upd.foldl fun _ _ h1 => h1.foldl fun _ _ h2 => .ite h2.setLogl.loadImage h2.setLogl

theorem State.Keeps.startTests {d : Nat} {all : Bool} (h : σ.Keeps s) : σ.Keeps (s.startTests d all) := h.upd

theorem State.Keeps.diesIn {rails : List Bool} (h : σ.Keeps s) : σ.Keeps (s.diesIn rails) :=
  h.wr.foldl fun _ _ h1 => .ite h1.put.wr.setDieS.startTests h1.put.wr.setDieS

theorem State.Keeps.install {p : PlanImage} {rails : List Bool} (h : σ.Keeps s) : σ.Keeps (s.install p rails) :=
  .showHealth (.foldl (.put (.wr (.diesIn (.loadLanes (.foldl (.foldl (.showRoutes (.upd (.foldl (.launchWords
    (.planBase (h.foldl fun _ _ h1 => h1.dropMemTests))) fun _ _ h1 => .ite h1.setRoute h1))) fun _ _ h1 => h1.put) fun
    _ _ h1 => h1.placeLanes))))) fun _ _ h1 => h1.needAlt)

theorem State.Keeps.dropShow (h : σ.Keeps s) : σ.Keeps s.dropShow := h.discardOpen.discardLaunch.closeStreams.showEval

theorem State.Keeps.noPlan (h : σ.Keeps s) : σ.Keeps s.noPlan := h.upd.put.wr.wr

theorem State.Keeps.doEngineStop (h : σ.Keeps s) : σ.Keeps (doEngineStop s) := by
  unfold Machine.doEngineStop
  split
  · exact h
  · exact .ite h (.ite h.upd.put.dropShow.noPlan.showHealth h.upd.put.dropShow.noPlan.showHealth.setPw.finishOp)

theorem State.Keeps.stopPlan (h : σ.Keeps s) : σ.Keeps s.stopPlan := .ite h.upd h.upd.dropShow.noPlan.showHealth

theorem State.Keeps.doPlanComplete {e : LoadEnv} (h : σ.Keeps s) : σ.Keeps (doPlanComplete e s) := by
  unfold Machine.doPlanComplete
  split
  · exact h
  · exact .ite h (.ite h.loadCode.install.setPw.finishOp.planStart h.loadCode.upd.noPlan.setPw.finishOp)

theorem State.Keeps.loadDie {p : PlanImage} {d : Nat} (h : σ.Keeps s) : σ.Keeps (s.loadDie p d) :=
  .ite (.placeWords (.loadLanes (h.loadCode.foldl fun _ _ h1 => h1.placeLanes))) (.placeWords (.placeWords (.loadLanes
    (h.loadCode.foldl fun _ _ h1 => h1.placeLanes))))

theorem State.Keeps.reloadAlts {d : Nat} (h : σ.Keeps s) : σ.Keeps (s.reloadAlts d) :=
  .ite h (.ite (.wr (h.wr.foldl fun _ _ h1 => .ite h1.needAlt h1)) (h.wr.foldl fun _ _ h1 => .ite h1.needAlt h1))

theorem State.Keeps.doReload {d : Nat} {good : Bool} (h : σ.Keeps s) : σ.Keeps (doReload d good s) := by
  unfold Machine.doReload
  dsimp only
  split
  · exact h
  · refine .ite (.showHealth (.wr (.setDieS (.ite h.hold.finishOp h.hold)))) (.showHealth (.reloadAlts (.startTests
    (.put ?_))))
    split
    · exact .loadDie (.setDieS (.ite h.hold.finishOp h.hold))
    · exact .setDieS (.ite h.hold.finishOp h.hold)

theorem State.Keeps.planUnloadRes (h : σ.Keeps s) : σ.Keeps (planUnloadRes s).st :=
  .iteRes h (.iteRes h.stopPlan (.iteRes h.stopPlan.setPw h))

theorem State.Keeps.standbyRes (h : σ.Keeps s) : σ.Keeps (standbyRes s).st :=
  .iteRes h (.setPw (h.foldl fun _ _ h1 => h1.doLinkState))

theorem State.Keeps.wakeRes (h : σ.Keeps s) : σ.Keeps (wakeRes s).st := .iteRes h h.upd.setPw

theorem State.Keeps.powerStateRes {d : Desc} (h : σ.Keeps s) : σ.Keeps (powerStateRes d s).st :=
  .iteRes h.planUnloadRes (.iteRes h.standbyRes (.iteRes h.wakeRes h))

end

/-! ### Control of the DMA channels -/

section
variable {s σ : State}

theorem State.Keeps.setBit {f : Fld} {i : Nat} {b : Bool} (h : σ.Keeps s) : σ.Keeps (s.setBit f i b) := .ite h h.wr

theorem State.Keeps.setDmaState {c st : Nat} (h : σ.Keeps s) : σ.Keeps (s.setDmaState c st) := h.wr.setBit

theorem State.Keeps.onCh {c : Nat} {f : DmaCh → DmaCh} (h : σ.Keeps s) : σ.Keeps (s.onCh c f) := h.upd

theorem State.Keeps.raise {line beats : Nat} (h : σ.Keeps s) : σ.Keeps (s.raise line beats) := by
  unfold State.raise
  split
  · exact h
  · exact .ite h.onCh h.count.siltWrite

theorem State.Keeps.followLink {c link : Nat} (h : σ.Keeps s) : σ.Keeps (s.followLink c link) :=
  .ite h.onCh.setDmaState h.onCh.wr.wr.onCh.setDmaState

theorem State.Keeps.dmaStart {c : Nat} (h : σ.Keeps s) : σ.Keeps (s.dmaStart c) :=
  .ite h (.ite h.wr h.wr.wr.setDmaState.onCh)

theorem State.Keeps.dmaStop {c : Nat} (h : σ.Keeps s) : σ.Keeps (s.dmaStop c) :=
  .ite h.onCh.setDmaState (.ite h.setDmaState h)

theorem State.Keeps.dmaAppend {c : Nat} (h : σ.Keeps s) : σ.Keeps (s.dmaAppend c) :=
  .ite (.ite h.onCh (.ite h.onCh.followLink h.onCh.violate.followLink)) h.onCh.count

theorem State.Keeps.eachBit {w : Nat} {f : State → Nat → State} (h : σ.Keeps s)
    (hf : ∀ u n, σ.Keeps u → σ.Keeps (f u n)) : σ.Keeps (s.eachBit w f) :=
  h.foldl hf

end

/-! ### The serial audio ports -/

section
variable {s σ : State}

theorem State.Keeps.setSp {p : Nat} {x : SapS} (h : σ.Keeps s) : σ.Keeps (s.setSp p x) := h.upd

theorem State.Keeps.onSlot {p k : Nat} {f : SapSlot → SapSlot} (h : σ.Keeps s) : σ.Keeps (s.onSlot p k f) := h.setSp

theorem State.Keeps.beginMask {p fs : Nat} (h : σ.Keeps s) : σ.Keeps (s.beginMask p fs) := by
  unfold State.beginMask
  dsimp only
  split
  · exact .ite (.setSp (h.foldl fun _ _ h1 => h1.onSlot)) h
  · exact h

theorem State.Keeps.takeMask {p : Nat} (h : σ.Keeps s) : σ.Keeps (s.takeMask p) := by
  unfold State.takeMask
  dsimp only
  split
  · exact h
  · exact .ite h (.setSp (.wr (.wr (.wr (h.foldl fun _ _ h1 => h1.onSlot)))))

theorem State.Keeps.stepMask {p fs : Nat} (h : σ.Keeps s) : σ.Keeps (s.stepMask p fs) := h.beginMask.takeMask.put

theorem State.Keeps.sapStart {p : Nat} (h : σ.Keeps s) : σ.Keeps (sapStart p s) :=
  .ite h (.ite h.put.put h.put.put.wr.setSp)

theorem State.Keeps.sapHalt {p : Nat} (h : σ.Keeps s) : σ.Keeps (s.sapHalt p) := h.wr.setSp

theorem State.Keeps.sapStop {p : Nat} (h : σ.Keeps s) : σ.Keeps (sapStop p s) :=
  .ite h.put (.ite (.sapHalt (.ite h.put.wr.setSp h.put)) (.wr (.ite h.put.wr.setSp h.put)))

theorem State.Keeps.sapArm {p : Nat} (h : σ.Keeps s) : σ.Keeps (sapArm p s) := .ite h h.wr.setSp

theorem State.Keeps.sapEnter {p : Nat} (h : σ.Keeps s) : σ.Keeps (s.sapEnter p) :=
  .setSp (.wr (.upd (h.foldl fun _ _ h1 => h1.onSlot)))

theorem State.Keeps.stepStop {p : Nat} (h : σ.Keeps s) : σ.Keeps (s.stepStop p) :=
  .ite (.setSp (h.foldl fun _ _ h1 => h1.onSlot)) h

theorem State.Keeps.endStop {p : Nat} (h : σ.Keeps s) : σ.Keeps (s.endStop p) := .ite h.sapHalt h

theorem State.Keeps.sapTake {p : Nat} (h : σ.Keeps s) : σ.Keeps (s.sapTake p).2 := h.setSp

theorem State.Keeps.sapPut {p : Nat} {block : List Word} (h : σ.Keeps s) : σ.Keeps (s.sapPut p block) := .ite h.setSp h

theorem State.Keeps.rxSamples {p : Nat} {rx : List Word} (h : σ.Keeps s) : σ.Keeps (s.rxSamples p rx).1 := by
  unfold State.rxSamples
  refine h.foldl_fst (p := (s, [])) fun a k ha => ?_
  split
  · split
    · exact ha
    · dsimp only
      exact ha.onSlot

theorem State.Keeps.noteSlip {p m : Nat} {rep : Bool} (h : σ.Keeps s) : σ.Keeps (s.noteSlip p m rep) := by
  unfold State.noteSlip
  dsimp only
  exact h.setSp.upd

theorem State.Keeps.place {p fs : Nat} (h : σ.Keeps s) : σ.Keeps (s.place p fs).1 :=
  .iteFst h (.iteFst h.noteSlip.setSp.wrInt (.iteFst h.noteSlip.setSp.wrInt h.setSp.wrInt))

theorem State.Keeps.deliverRx {p n : Nat} {xs : List (Nat × Int)} (h : σ.Keeps s) : σ.Keeps (s.deliverRx p n xs) :=
  .arrive (h.upd.foldl fun _ _ h1 => h1.skimWaits)

theorem State.Keeps.noteLate {p : Nat} {nums : List Nat} (h : σ.Keeps s) : σ.Keeps (s.noteLate p nums) := h.upd

theorem State.Keeps.portRx {p : Nat} {nums : List Nat} {rx : List Word} (h : σ.Keeps s) : σ.Keeps (s.portRx p nums rx)
    := by
  unfold State.portRx
  refine .ite (.ite h.rxSamples.setSp.count h.rxSamples.setSp.setSp.raise) (.ite (.ite h.rxSamples (.ite
    h.rxSamples.noteLate h.rxSamples.count)) ?_)
  split
  · exact .ite h.rxSamples (.ite h.rxSamples.noteLate h.rxSamples.count)
  · exact .deliverRx (.ite h.rxSamples (.ite h.rxSamples.noteLate h.rxSamples.count))
  · exact .deliverRx (.deliverRx (.ite h.rxSamples (.ite h.rxSamples.noteLate h.rxSamples.count)))

theorem State.Keeps.txSlot {p k : Nat} {v : Option Int} (h : σ.Keeps s) : σ.Keeps (s.txSlot p k v).1 := by
  unfold State.txSlot
  dsimp only
  exact h.onSlot

theorem State.Keeps.drive {p : Nat} {vs : List (Nat × Option Int)} (h : σ.Keeps s) : σ.Keeps (s.drive p vs) :=
  .setSp (h.foldl_fst fun _ _ h1 => h1.txSlot)

theorem State.Keeps.portTx {p m : Nat} (h : σ.Keeps s) : σ.Keeps (s.portTx p m) := by
  unfold State.portTx
  refine .ite (h.drive.foldl fun _ _ h1 => h1.onSlot) (.ite ?_ h.setSp.drive.countIf)
  split
  · exact .ite h.setSp.raise.drive h.setSp.raise.drive.count
  · exact h.setSp.raise.drive.countIf

theorem State.Keeps.moveFrame {p : Nat} {rx : List Word} {fs : Nat} (h : σ.Keeps s) : σ.Keeps (s.moveFrame p rx fs)
    :=
  h.setSp.stepMask.stepStop.place.portRx.portTx.endStop

theorem State.Keeps.clockBack {p : Nat} (h : σ.Keeps s) : σ.Keeps (s.clockBack p) :=
  .post (.put (.setSp (h.foldl fun _ _ h1 => h1.onSlot)))

theorem State.Keeps.doPortFrame {p : Nat} {rx : List Word} {fs : Nat} (h : σ.Keeps s) : σ.Keeps (doPortFrame p rx fs
    s) :=
  .ite h (.ite (.ite (.ite h.reach.setSp h.reach.setSp.sapEnter.moveFrame) (.ite h.reach.setSp.sapEnter.moveFrame
    h.reach.setSp)) (.ite (.ite h.reach.setSp.clockBack.moveFrame h.reach.setSp) h.reach.setSp.moveFrame))

theorem State.Keeps.doUnderrun {p : Nat} (h : σ.Keeps s) : σ.Keeps (doUnderrun p s) := .ite h h.setSp

theorem State.Keeps.doLossOfClock {p : Nat} (h : σ.Keeps s) : σ.Keeps (doLossOfClock p s) :=
  .ite h (.ite h.setSp.put.count.post.sapHalt h.setSp.put.count.post)

theorem State.Keeps.doRateMeasure {p : Nat} {ppb : Int} (h : σ.Keeps s) : σ.Keeps (doRateMeasure p ppb s) :=
  .ite h (.ite h.wrInt.put (.ite h.wrInt.put h.wrInt))

theorem State.Keeps.doSlipLog {p : Nat} (h : σ.Keeps s) : σ.Keeps (doSlipLog p s) := by
  unfold Machine.doSlipLog
  dsimp only
  split
  · exact h
  · exact .ite h h.setSp.siltWrite

end

/-! ### The modulators -/

section
variable {s σ : State}

theorem State.Keeps.setMc {n : Nat} {x : ModCh} (h : σ.Keeps s) : σ.Keeps (s.setMc n x) := h.upd

theorem State.Keeps.showCh {n : Nat} (h : σ.Keeps s) : σ.Keeps (s.showCh n) := .put (.put (.wr (.wr (.ite h h.setMc))))

theorem State.Keeps.onCh2 {n : Nat} {f : ModCh → ModCh} (h : σ.Keeps s) : σ.Keeps (s.onCh2 n f) := h.setMc.showCh

theorem State.Keeps.scnAt {n : Nat} {high : Bool} (h : σ.Keeps s) : σ.Keeps (s.scnAt n high) := h.onCh2

theorem State.Keeps.eachCh {g : Nat} {f : Nat → ModCh → ModCh} (h : σ.Keeps s) : σ.Keeps (s.eachCh g f) :=
  h.foldl fun _ _ h1 => h1.onCh2

theorem State.Keeps.modEvent {i code : Nat} {status : Fld} (h : σ.Keeps s) : σ.Keeps (s.modEvent i code status) :=
  h.post

theorem State.Keeps.chPeriod {g q : Nat} {vrail : Rat} (h : σ.Keeps s) : σ.Keeps (s.chPeriod g q vrail) :=
  .ite h.onCh2 h.countIf.onCh2

theorem State.Keeps.measureRail {g : Nat} {v : Rat} (h : σ.Keeps s) : σ.Keeps (s.measureRail g v) := h.setMg.wrSat.wrSat

theorem State.Keeps.noteClear {g : Nat} (h : σ.Keeps s) : σ.Keeps (s.noteClear g) := h.setMg

theorem State.Keeps.doCarrier {g bits : Nat} (h : σ.Keeps s) : σ.Keeps (doCarrier g bits s) :=
  .ite h (.ite h (h.setMg.measureRail.noteClear.foldl fun _ _ h1 => h1.chPeriod))

theorem State.Keeps.groupBoot {g : Nat} (h : σ.Keeps s) : σ.Keeps (s.groupBoot g) := h.wr.setMg.eachCh

theorem State.Keeps.groupOn {g : Nat} (h : σ.Keeps s) : σ.Keeps (groupOn g s) :=
  .ite h.put (.ite h.put h.put.put.wr.setMg.chooseCarrier.eachCh)

theorem State.Keeps.groupOff {g : Nat} (h : σ.Keeps s) : σ.Keeps (groupOff g s) := h.put.wr.setMg.eachCh

theorem State.Keeps.chanEnable {n : Nat} {on : Bool} (h : σ.Keeps s) : σ.Keeps (chanEnable n on s) :=
  .ite h.setMc.showCh (.ite h.onCh2 h.showCh)

theorem State.Keeps.doRailQualified {g : Nat} (h : σ.Keeps s) : σ.Keeps (doRailQualified g s) := .ite h h.groupBoot

theorem State.Keeps.doBootEnd {g : Nat} (h : σ.Keeps s) : σ.Keeps (doBootEnd g s) :=
  .ite h (.eachCh (.setMg (.ite h.wr h)))

theorem State.Keeps.fadeGroup {g : Nat} {goal : Rat} {smp : Nat} (h : σ.Keeps s) : σ.Keeps (s.fadeGroup g goal smp)
    :=
  h.eachCh

theorem State.Keeps.holdGroup {g : Nat} (h : σ.Keeps s) : σ.Keeps (s.holdGroup g) := h.wr.setMg

theorem State.Keeps.stageOff {g : Nat} (h : σ.Keeps s) : σ.Keeps (s.stageOff g) := h.holdGroup.eachCh

theorem State.Keeps.underOff {g : Nat} (h : σ.Keeps s) : σ.Keeps (s.underOff g) := h.holdGroup.fadeGroup.eachCh

theorem State.Keeps.doUndervoltage {g : Nat} (h : σ.Keeps s) : σ.Keeps (doUndervoltage g s) :=
  .ite h (.modEvent (.ite h.put h.put.underOff))

theorem State.Keeps.doOvervoltage {g : Nat} (h : σ.Keeps s) : σ.Keeps (doOvervoltage g s) :=
  .ite h h.put.stageOff.modEvent

theorem State.Keeps.doStageFrame {g : Nat} {bits : Word} (h : σ.Keeps s) : σ.Keeps (doStageFrame g bits s) :=
  .ite h (.ite h.wr.put.put.put.put.put.setMg.noteClear.stageOff.modEvent (.ite (.ite
    h.wr.put.put.put.put.put.setMg.noteClear.stageOff.modEvent h.wr.put.put.put.put.put.setMg.noteClear.stageOff)
    h.wr.put.put.put.put.put.setMg.noteClear))

theorem State.Keeps.doStatusTimeout {g : Nat} (h : σ.Keeps s) : σ.Keeps (doStatusTimeout g s) := .ite h h.put.modEvent

theorem State.Keeps.cutProbes {g : Nat} (h : σ.Keeps s) : σ.Keeps (s.cutProbes g) := h.eachCh

theorem State.Keeps.doFaultRestart {g : Nat} (h : σ.Keeps s) : σ.Keeps (doFaultRestart g s) :=
  .ite h h.put.put.cutProbes.groupBoot

theorem State.Keeps.railBefore {g : Nat} (h : σ.Keeps s) : σ.Keeps (s.railBefore g) := by
  unfold State.railBefore
  dsimp only
  split
  · exact h.setMg
  · exact h

theorem State.Keeps.doSenseStuck {n stream : Nat} (h : σ.Keeps s) : σ.Keeps (doSenseStuck n stream s) := by
  unfold Machine.doSenseStuck
  split
  · exact h
  · exact .ite h (.ite h.put.modEvent.railBefore h.put.modEvent.count)

theorem State.Keeps.doSenseClear {n stream : Nat} (h : σ.Keeps s) : σ.Keeps (doSenseClear n stream s) := by
  unfold Machine.doSenseClear
  split
  · exact h
  · exact h.put

theorem State.Keeps.doScFall {n : Nat} (h : σ.Keeps s) : σ.Keeps (doScFall n s) :=
  .ite h (.ite h.scnAt.count.onCh2.log (.ite h.scnAt.count h.scnAt.count.log))

theorem State.Keeps.probe {n : Nat} (h : σ.Keeps s) : σ.Keeps (s.probe n) := .ite h.onCh2 h.onCh2

theorem State.Keeps.doProbeStart {n : Nat} (h : σ.Keeps s) : σ.Keeps (doProbeStart n s) := .ite h h.scnAt.probe

theorem State.Keeps.doWaitExpiry {n : Nat} (h : σ.Keeps s) : σ.Keeps (doWaitExpiry n s) := .ite h h.scnAt.onCh2.probe

theorem State.Keeps.doProbeResult {w : PilotWindow} (h : σ.Keeps s) : σ.Keeps (doProbeResult w s) :=
  .ite h (.ite h.onCh2.log (.ite h.onCh2.log.modEvent h.onCh2.log))

theorem State.Keeps.doRearmEnd {n : Nat} (h : σ.Keeps s) : σ.Keeps (doRearmEnd n s) := .ite h h.onCh2

theorem State.Keeps.scClearRes {d : Desc} (h : σ.Keeps s) : σ.Keeps (scClearRes d s).st :=
  .iteRes h (.iteRes h.onCh2.probe h)

theorem State.Keeps.allstopRes {d : Desc} (h : σ.Keeps s) : σ.Keeps (allstopRes d s).st :=
  .iteRes h (h.put.count.foldl fun _ _ h1 => h1.setMg.cutProbes)

theorem State.Keeps.doAllstop {d : Desc} (h : σ.Keeps s) : σ.Keeps (doAllstop d s) :=
  .ite (.pumpUnknown (h.start.settle (.iteRes h.start.allstopRes (h.start.permit fun _ h1 => h1)))) h.showFull

theorem State.Keeps.leaveStop {g : Nat} (h : σ.Keeps s) : σ.Keeps (s.leaveStop g) :=
  .ite h.setMg.eachCh.groupBoot h.setMg.eachCh

theorem State.Keeps.endStops (h : σ.Keeps s) : σ.Keeps s.endStops := h.put.put.foldl fun _ _ h1 => h1.leaveStop

theorem State.Keeps.releaseRes {d : Desc} (h : σ.Keeps s) : σ.Keeps (releaseRes d s).st := .iteRes h h.endStops

theorem State.Keeps.doMuteFall {held : Nat} (h : σ.Keeps s) : σ.Keeps (doMuteFall held s) :=
  .ite h (h.put.put.count.foldl fun _ _ h1 => h1.cutProbes.eachCh)

theorem State.Keeps.doMuteRise (h : σ.Keeps s) : σ.Keeps (doMuteRise s) := .ite h.put.upd h

theorem State.Keeps.doPinEnd (h : σ.Keeps s) : σ.Keeps (doPinEnd s) := .ite h (h.put.foldl fun _ _ h1 => h1.leaveStop)

theorem State.Keeps.senseCalRes {d : Desc} (h : σ.Keeps s) : σ.Keeps (senseCalRes d s).st := by
  unfold Machine.senseCalRes
  extract_lets
  exact .iteRes h.badDesc (.iteRes h.badDesc (.iteRes h.failRes (.iteRes h.onCh2.longRes h.longRes)))

theorem State.Keeps.doCalibration {n : Nat} {i v : Int} (h : σ.Keeps s) : σ.Keeps (doCalibration n i v s) := by
  unfold Machine.doCalibration
  split
  · exact h
  · exact .ite h h.onCh2.finish

theorem State.Keeps.doCalTimeout {n : Nat} (h : σ.Keeps s) : σ.Keeps (doCalTimeout n s) := by
  unfold Machine.doCalTimeout
  split
  · exact h
  · exact .ite h.finish h

theorem State.Keeps.fadeMods {all : List DestBlock} {miss : List Nat} (h : σ.Keeps s) : σ.Keeps (s.fadeMods all
    miss).1 := by
  unfold State.fadeMods
  refine h.foldl_fst fun _ _ h1 => ?_
  split
  · split
    · split
      · exact .iteFst h1 h1.upd
      · dsimp only
        exact h1.upd

theorem State.Keeps.modTick (h : σ.Keeps s) : σ.Keeps s.modTick := h.foldl fun _ _ h1 => h1.showCh

end

/-! ### The Tilca sentinels -/

section
variable {s σ : State}

theorem State.Keeps.setTc {n : Nat} {x : TilCh} (h : σ.Keeps s) : σ.Keeps (s.setTc n x) := h.upd

theorem State.Keeps.setTg {g : Nat} {x : TilG} (h : σ.Keeps s) : σ.Keeps (s.setTg g x) := h.upd

theorem State.Keeps.sentSetRes {d : Desc} (h : σ.Keeps s) : σ.Keeps (sentSetRes d s).st := by
  unfold Machine.sentSetRes
  refine .iteRes h (.iteRes h ?_)
  split
  · exact h
  · exact .iteRes h h.setTc

theorem State.Keeps.doSentEffect {n : Nat} (h : σ.Keeps s) : σ.Keeps (doSentEffect n s) := by
  unfold Machine.doSentEffect
  dsimp only
  split
  · exact h
  · exact h.reach.setTc

theorem State.Keeps.excursion {n f : Nat} (h : σ.Keeps s) : σ.Keeps (s.excursion n f) :=
  .ite h (.ite (.ite h.setTc.log h.setTc) h.setTc)

theorem State.Keeps.chanStep {n : Nat} (h : σ.Keeps s) : σ.Keeps (s.chanStep n) := by
  unfold State.chanStep
  dsimp only
  split
  · exact h.setTc.log
  · exact h.setTc.log
  · exact h.setTc.log
  · exact h.setTc.log
  · exact h.setTc

theorem State.Keeps.groupStep {g : Nat} (h : σ.Keeps s) : σ.Keeps (s.groupStep g) := by
  unfold State.groupStep
  dsimp only
  split
  · exact h.setTg.log
  · exact h.setTg.log
  · exact h.setTg.log
  · exact h.setTg.log
  · exact h.setTg

theorem State.Keeps.showTil {g : Nat} (h : σ.Keeps s) : σ.Keeps (s.showTil g) :=
  h.wr.put.wr.wr.wr.wr.foldl fun _ _ h1 => h1.wr.put.put

theorem State.Keeps.showSum (h : σ.Keeps s) : σ.Keeps s.showSum := h.wr.wr.wr

theorem State.Keeps.sentinel {g f : Nat} {feeds : List ChanFeed} {step : Bool} (h : σ.Keeps s) : σ.Keeps (s.sentinel g
    f feeds step) := by
  unfold State.sentinel
  exact .showTil (.wr (.setTg (.foldl (.ite (.groupStep (.foldl (.setTg (h.foldl fun _ _ h1 => .ite h1
    h1.setTc.excursion)) fun _ _ h1 => .ite h1 h1.chanStep)) (.setTg (h.foldl fun _ _ h1 => .ite h1
    h1.setTc.excursion))) fun _ _ h1 => .ite h1 h1.setTc)))

theorem State.Keeps.dueRecords (h : σ.Keeps s) : σ.Keeps s.dueRecords := by
  unfold State.dueRecords
  refine h.foldl fun _ _ h1 => ?_
  split
  · exact .ite h1.doSentEffect h1
  · exact h1

theorem State.Keeps.sentinels {f : Nat} {feeds : List ChanFeed} {ce : List Nat} (h : σ.Keeps s) : σ.Keeps
    (s.sentinels f feeds ce) :=
  .showSum (.foldl (.foldl (h.dueRecords.foldl fun _ _ h1 => h1.count) fun _ _ h1 => .ite h1.sentinel h1.showTil) fun _
    _ h1 => h1.setTc)

theorem State.Keeps.doFeedMiss {g : Nat} (h : σ.Keeps s) : σ.Keeps (doFeedMiss g s) :=
  .ite h (.count (.setTg (h.foldl fun _ _ h1 => .ite h1.setTc h1)))

theorem State.Keeps.logAlarm {n i : Nat} {w : PilotWindow} (h : σ.Keeps s) : σ.Keeps (s.logAlarm n i w) := by
  unfold State.logAlarm
  split
  · exact h.log
  · exact h.log
  · exact h.log
  · exact h

theorem State.Keeps.capture {n : Nat} {w : PilotWindow} (h : σ.Keeps s) : σ.Keeps (s.capture n w) := by
  unfold State.capture
  dsimp only
  split
  · exact h
  · exact .ite h.setTc h.setTc.log.finishOp

theorem State.Keeps.doPilotWindow {w : PilotWindow} (h : σ.Keeps s) : σ.Keeps (doPilotWindow w s) :=
  .ite h (.showTil (.ite (.capture (h.setTc.foldl fun _ _ h1 => h1.logAlarm)) (h.setTc.foldl fun _ _ h1 =>
    h1.logAlarm)))

theorem State.Keeps.zCaptureRes {d : Desc} (h : σ.Keeps s) : σ.Keeps (zCaptureRes d s).st :=
  .iteRes h (.iteRes h h.setTc)

theorem State.Keeps.doCaptureTimeout {n : Nat} (h : σ.Keeps s) : σ.Keeps (doCaptureTimeout n s) := by
  unfold Machine.doCaptureTimeout
  split
  · exact h
  · exact .ite h.setTc.finish h

theorem State.Keeps.logSent {g cause : Nat} (h : σ.Keeps s) : σ.Keeps (s.logSent g cause) := h.log

theorem State.Keeps.sentDown {g : Nat} (h : σ.Keeps s) : σ.Keeps (s.sentDown g) := h.wr.fadeGroup.logSent.showTil

theorem State.Keeps.doSentFault {g cause : Nat} (h : σ.Keeps s) : σ.Keeps (doSentFault g cause s) :=
  .ite h (.ite h.setTg.logSent.sentDown h.setTg.logSent.wr.count.showTil)

theorem State.Keeps.doSentRestarted {g : Nat} (h : σ.Keeps s) : σ.Keeps (doSentRestarted g s) := by
  unfold Machine.doSentRestarted
  refine .ite h (.showTil (.ite (.fadeGroup (.setTg (.logSent (.wr ?_)))) (.setTg (.logSent (.wr ?_)))))
  · split
    · exact h
    · exact h.setTg.foldl fun _ _ h1 => .ite h1 h1.setTc
  · split
    · exact h
    · exact h.setTg.foldl fun _ _ h1 => .ite h1 h1.setTc

theorem State.Keeps.doSentTimeout {g : Nat} (h : σ.Keeps s) : σ.Keeps (doSentTimeout g s) := .ite h h.sentDown

theorem State.Keeps.sentRestartRes {d : Desc} (h : σ.Keeps s) : σ.Keeps (sentRestartRes d s).st :=
  .iteRes h (.iteRes h h.setTg.wr.count.showTil)

theorem State.Keeps.sentStatRes {d : Desc} (h : σ.Keeps s) : σ.Keeps (sentStatRes d s).st := .iteRes h h

end

/-! ### The tick -/

section
variable {s σ : State}

theorem State.Keeps.loseInputs {f : Nat} {lost : List Nat} (h : σ.Keeps s) : σ.Keeps (s.loseInputs f lost) :=
  .ite h (.advanceGen (.advanceGen (h.upd.foldl fun _ _ h1 => h1.deliver)))

theorem State.Keeps.closeWindow (h : σ.Keeps s) : σ.Keeps s.closeWindow := h.reach.decideAll.upd

theorem State.Keeps.doEddyClose (h : σ.Keeps s) : σ.Keeps (doEddyClose s) := .ite h.closeWindow h

theorem State.Keeps.doCutoff (h : σ.Keeps s) : σ.Keeps (doCutoff s) := .ite h.doEddyClose.reach.buildBlock h.doEddyClose

theorem State.Keeps.noteFinish {e : FinishEnv} (h : σ.Keeps s) : σ.Keeps (s.noteFinish e) :=
  h.refuseLeft.upd.haltLanes.noteRmce

theorem State.Keeps.noteLoad (h : σ.Keeps s) : σ.Keeps s.noteLoad := h.upd

theorem State.Keeps.doFinish {e : FinishEnv} (h : σ.Keeps s) : σ.Keeps (doFinish e s) :=
  .ite (.ite (.promoteLanes (.upd (.ite (.setDsp (.ite h.doEddyClose.reach.noteFinish.noteLoad.setDsp
    h.doEddyClose.reach.noteFinish.noteLoad)) (.ite h.doEddyClose.reach.noteFinish.noteLoad.setDsp
    h.doEddyClose.reach.noteFinish.noteLoad)))) h.doEddyClose.reach.noteFinish.noteLoad.setDsp.upd.promoteLanes) h

theorem State.Keeps.doPrefetchMiss {die n : Nat} (h : σ.Keeps s) : σ.Keeps (doPrefetchMiss die n s) :=
  .ite h h.upd.hold.advanceGen

theorem State.Keeps.doWriteMiss (h : σ.Keeps s) : σ.Keeps (doWriteMiss s) := .ite h h.upd.log

theorem State.Keeps.outvote {d : Nat} (h : σ.Keeps s) : σ.Keeps (s.outvote d) := h.count.hold.rebuild

theorem State.Keeps.diverged (h : σ.Keeps s) : σ.Keeps s.diverged :=
  .ite h.count.hold.upd.dieOut h.count.hold.upd.rebuild

theorem State.Keeps.compare {f : Nat} (h : σ.Keeps s) : σ.Keeps (s.compare f).1 := by
  unfold State.compare
  extract_lets
  refine .iteFst ?_ (.iteFst h (.iteFst h h))
  split
  · exact h
  · exact .ite h.rebuild h.outvote
  · exact .ite h.rebuild h.outvote
  · split <;> dsimp only
    · exact h.outvote
    · exact h.outvote
    · exact .ite h h.rebuild
    · exact .ite h h.diverged

theorem State.Keeps.blocksFor {f : Nat} (h : σ.Keeps s) : σ.Keeps (s.blocksFor f).1 := by
  unfold State.blocksFor
  refine .iteFst ?_ h
  split
  next s1 bad heq =>
    have hs : σ.Keeps s1 := by simpa only [heq] using h.compare (f := f)
    split <;> exact hs

theorem State.Keeps.publishCounts (h : σ.Keeps s) : σ.Keeps s.publishCounts :=
  h.count.count.count.count.count.count.count.count.count

theorem State.Keeps.publishLate {f : Nat} (h : σ.Keeps s) : σ.Keeps (s.publishLate f) :=
  h.upd.foldl fun _ _ h1 => h1.count

theorem State.Keeps.showLoad (h : σ.Keeps s) : σ.Keeps s.showLoad := by
  unfold State.showLoad
  refine .foldl ?_ fun _ _ h1 => h1.wr
  split
  · exact h.wrSat.wr.wr
  · exact h

theorem State.Keeps.showOverruns (h : σ.Keeps s) : σ.Keeps s.showOverruns :=
  .foldl (h.foldl fun _ _ h1 => h1.put) fun _ _ h1 => h1.count.hold

theorem State.Keeps.dropLeft {f : Nat} (h : σ.Keeps s) : σ.Keeps (s.dropLeft f) := h.foldl fun _ _ h1 => h1.refusePass

theorem State.Keeps.delayWrites {dies : List Nat} (h : σ.Keeps s) : σ.Keeps (s.delayWrites dies) :=
  h.upd.foldl fun _ _ h1 => h1.upd

theorem State.Keeps.flip {f : Nat} {e : FlipEnv} (h : σ.Keeps s) : σ.Keeps (s.flip f e) := by
  unfold State.flip
  dsimp only
  exact .publishStreams (.txReleases (.ite (.doRecGap (.record (.feedCaps (.delayWrites (.deliverPorts (.publishMeters
    (.countStreams (.showLoad (.publishCounts (.upd (.fadeMods (.ite (.blocksFor (.dropLeft (h.showOverruns.foldl fun _
    _ h1 => h1.endWait))) (.count (.blocksFor (.dropLeft (h.showOverruns.foldl fun _ _ h1 => h1.endWait))))))))))))))))
    (.record (.feedCaps (.delayWrites (.deliverPorts (.publishMeters (.countStreams (.showLoad (.publishCounts (.upd
    (.fadeMods (.ite (.blocksFor (.dropLeft (h.showOverruns.foldl fun _ _ h1 => h1.endWait))) (.count (.blocksFor
    (.dropLeft (h.showOverruns.foldl fun _ _ h1 => h1.endWait)))))))))))))))))

theorem State.Keeps.joinDies {f : Nat} (h : σ.Keeps s) : σ.Keeps (s.joinDies f) := by
  unfold State.joinDies
  refine h.foldl fun _ _ h1 => .ite (.ite (.ite h1.setDieS.setDsp.copyDie h1.setDieS.setDsp) ?_) h1
  split
  · exact h1.setDieS
  · exact h1.setDieS.setDsp

theorem State.Keeps.beginFrame {f : Nat} (h : σ.Keeps s) : σ.Keeps (s.beginFrame f) :=
  .ite h.joinDies.upd.reseatLanes.entryMoves.startMain.presentHeld h.joinDies.upd

theorem State.Keeps.boundaryWork {e : FlipEnv} {f : Nat} (h : σ.Keeps s) : σ.Keeps (s.boundaryWork e f) := by
  refine .signalTick (.sendTime (.sendHeartbeat (.authTick (.foldl ?_ fun _ _ ha => ha.showOut))))
  refine .servoTick (.selectTick (.ptpTick (.endClosing (.modTick (.sentinels (.imageTick (.playTick (.txnTick ?_))))))))
  exact h.rebuildTick.containAll.restartTick.flushLogs.publishLate.doCrossfadeEnd.skimGenWaits.tellLate

theorem State.Keeps.doTick {e : FlipEnv} (h : σ.Keeps s) : σ.Keeps (doTick e s) :=
  .beginFrame (.doPriming (.boundaryWork (.ite h.doFinish.doCutoff.loseInputs.reach.upd.serveRec.flip
    h.doFinish.doCutoff.loseInputs.reach.upd.serveRec)))

theorem State.Keeps.doEngineStart (h : σ.Keeps s) : σ.Keeps (doEngineStart s) := by
  unfold Machine.doEngineStart
  split
  · exact h
  · exact .ite h h.upd.put.showHealth

theorem State.Keeps.doReEpoch {_refTime : Nat} (h : σ.Keeps s) : σ.Keeps (doReEpoch _refTime s) := by
  unfold Machine.doReEpoch
  split
  · exact h
  · exact .ite h (.ite h.upd.setLocal.upd.disarmAll.count.log.deliverPorts.upd.put.showHealth
    h.upd.setLocal.upd.disarmAll.count.log.upd.planStart)

end

/-! ### Power and start-up -/

section
variable {s σ : State}

theorem State.Keeps.roleMap {c : Nat} (h : σ.Keeps s) : σ.Keeps (s.roleMap c) :=
  .foldl (h.foldl fun _ _ h1 => h1.wr) fun _ _ h1 => h1.wr

theorem State.Keeps.logInstall {i : Nat} (h : σ.Keeps s) : σ.Keeps (s.logInstall i) := .ite h.siltWrite h

theorem State.Keeps.showVbat {mv10 : Nat} (h : σ.Keeps s) : σ.Keeps (s.showVbat mv10) := h.wrSat.put.put

theorem State.Keeps.halt {why : Nat} (h : σ.Keeps s) : σ.Keeps (s.halt why) := .wr (.wr (h.updPwr rfl))

theorem State.Keeps.resumeMirrors {old : State} (h : σ.Keeps s) : σ.Keeps (s.resumeMirrors old) := by
  unfold State.resumeMirrors
  refine h.foldl fun _ _ h1 => ?_
  split
  · split
    · exact h1
    · exact .showTil (.setTg (h1.foldl fun _ _ h1 => h1.setTc))

theorem State.Keeps.doVbat (h : σ.Keeps s) : σ.Keeps (doVbat s) := .ite h h.put.count

end

/-! ### Accesses to register space -/

section
variable {s σ : State}

theorem State.Keeps.clr {fs : List Fld} (h : σ.Keeps s) : σ.Keeps (s.clr fs) := h.foldl fun _ _ h1 => h1.wr

theorem State.Keeps.clrWords {os : List Nat} (h : σ.Keeps s) : σ.Keeps (s.clrWords os) :=
  h.foldl fun _ _ h1 => h1.setWord

theorem State.Keeps.clearAt {off : Nat} (h : σ.Keeps s) : σ.Keeps (s.clearAt off) := by
  unfold State.clearAt
  split
  · exact h.upd.clrWords.clr
  · exact h.upd.clrWords
  · exact h.clr
  · exact h.clrWords
  · exact h.clrWords.clr
  · exact h.clrWords
  · exact h.clrWords
  · exact h.clrWords
  · exact h.clrWords
  · exact h.clearStreams
  · exact h.clrWords
  · exact h.clrWords
  · exact h.clrWords.clr
  · exact h.upd.clrWords.clr
  · exact h.clrWords.clr
  · exact h.clr
  · exact h.clrWords
  · exact h.clrWords
  · split
    · exact h.clrWords
    · exact h

theorem State.Keeps.hookTime {old : State} {off : Nat} {w : Word} (h : σ.Keeps s) : σ.Keeps (s.hookTime old off w) :=
    by
  unfold State.hookTime
  split
  · exact .ite (.arm (.ite h.disarm h)) (.ite h.disarm h)
  · split
    · exact .ite h.edgeEnable h
    · split
      · split
        · exact h
        · exact h.portEnable
      · refine .ite ?_ h
        split
        · exact h.wr.wr.wr.wr.ptpRestart

theorem State.Keeps.hookRef {old : State} {off : Nat} (h : σ.Keeps s) : σ.Keeps (s.hookRef old off) := by
  unfold State.hookRef
  split
  · split
    · exact h.slotEnable
    · exact h.judge
  · split
    · split
      · exact h.outEnable
      · exact h
    · exact h

theorem State.Keeps.hookSap {off : Nat} {w : Word} (h : σ.Keeps s) : σ.Keeps (s.hookSap off w) := by
  unfold State.hookSap
  split
  · exact .ite (.ite h h.sapStart) h.sapStop
  · split
    · exact .ite h.sapArm h
    · exact h

theorem State.Keeps.hookMod {old : State} {off : Nat} {w : Word} (h : σ.Keeps s) : σ.Keeps (s.hookMod old off w) := by
  unfold State.hookMod
  split
  · exact .ite h.groupOn (.ite h.groupOff h)
  · split
    · split
      · exact h.chanEnable
      · exact h
    · exact h

theorem State.Keeps.hookHost {old : State} {off : Nat} (h : σ.Keeps s) : σ.Keeps (s.hookHost old off) := by
  unfold State.hookHost
  split
  · refine .ite (.put ?_) ?_
    · split
      · exact h.ringOn
      · exact h.ringOff
      · exact h
    · split
      · exact h.ringOn
      · exact h.ringOff
      · exact h
  · exact .ite (.ite h.evtOn.drainEvents h) (.ite h.upd.put h)

theorem State.Keeps.hookDma {off : Nat} {w : Word} (h : σ.Keeps s) : σ.Keeps (s.hookDma off w) := by
  unfold State.hookDma
  split
  · exact h.eachBit fun _ _ h1 => h1.dmaStart
  · exact h.eachBit fun _ _ h1 => h1.dmaStop
  · exact h.eachBit fun _ _ h1 => h1.dmaAppend
  · exact h

theorem State.Keeps.hookSys {q : Requester} {off : Nat} {w : Word} (h : σ.Keeps s) : σ.Keeps (s.hookSys q off w) :=
  .ite (h.updPwr rfl) (.ite h.wr h)

theorem State.Keeps.hook {old : State} {q : Requester} {off : Nat} {w : Word} (h : σ.Keeps s) :
    σ.Keeps (s.hook old q off w) := by
  unfold State.hook
  extract_lets s1
  have hs : σ.Keeps s1 := .ite h.clearAt h
  split
  · exact hs.hookSys
  · exact hs.hookTime
  · exact hs.hookRef
  · exact hs.hookSap
  · exact hs.hookSap
  · exact hs.hookSap
  · exact hs.hookMod
  · exact hs.hookMod
  · exact hs.hookHost
  · exact hs.hookDma
  · exact hs

theorem State.Keeps.writeMapped {q : Requester} {off : Nat} {fs : List RField} {w : Word} (h : σ.Keeps s) : σ.Keeps
    (s.writeMapped q off fs w) :=
  .showEval (.ite (.violate (.hook (.ite h.setWord.shItem h.setWord))) (.hook (.ite h.setWord.shItem h.setWord)))

theorem State.Keeps.writeReg {q : Requester} {off : Nat} {w : Word} (h : σ.Keeps s) : σ.Keeps (s.writeReg q off w) :=
    by
  unfold State.writeReg
  refine .ite h (.ite h.violate ?_)
  split
  · exact h.writeMapped
  · exact .ite (.ite h.routeLow h.routeHigh) (.ite h h.violate)

theorem State.Keeps.readLatch {q : Requester} {off : Nat} (h : σ.Keeps s) : σ.Keeps (s.readLatch q off) :=
  .ite h (.ite h.violate (.ite h (.ite (.ite h h.violate) (.ite h.upd h))))

theorem State.Keeps.regWriteRes {d : Desc} (h : σ.Keeps s) : σ.Keeps (regWriteRes d s).st := h.writeReg

end

/-! ### Responses, retries and the DMA engines -/

section
variable {s σ : State}

theorem State.Keeps.performRead {m t a n : Nat} (h : σ.Keeps s) : σ.Keeps (s.performRead m t a n) :=
  .ite (h.foldl fun _ _ h1 => h1.readLatch) h

theorem State.Keeps.setBurst {b : Burst} (h : σ.Keeps s) : σ.Keeps (s.setBurst b) := h.upd

theorem State.Keeps.hostPart {a : Nat} {l : List HeldByte} (h : σ.Keeps s) : σ.Keeps (s.hostPart a l) := h.upd

theorem State.Keeps.fabricPart {c uid a : Nat} {l : List HeldByte} (h : σ.Keeps s) : σ.Keeps (s.fabricPart c uid a
    l).2 := by
  unfold State.fabricPart
  split
  · exact h.violate
  · exact h.enqueue

theorem State.Keeps.burstOut {b : Burst} (h : σ.Keeps s) : σ.Keeps (s.burstOut b) := by
  unfold State.burstOut
  dsimp only
  split
  · exact h.setBurst
  · exact .ite h.onCh.sapPut.setBurst (.ite h.onCh.setBurst (.ite (.setBurst (h.onCh.foldl fun _ _ h1 => .ite h1.onCh
    h1.hostPart)) (.setBurst (h.onCh.foldl_snd fun _ _ h1 => h1.fabricPart))))

theorem State.Keeps.dmaResponse {x : BusTxn} {data : List Byte} {err : Bool} {cite : Option Nat} (h : σ.Keeps s) :
    σ.Keeps (s.dmaResponse x data err cite) := by
  unfold State.dmaResponse
  split
  · exact h
  · exact .ite (.setBurst (.ite h.onCh h)) (.ite (.burstOut (.ite h.onCh h)) (.setBurst (.ite h.onCh h)))

theorem State.Keeps.sendBack {x : BusTxn} {data : List Byte} {err : Bool} {cite : Option Nat} (h : σ.Keeps s) :
    σ.Keeps (s.sendBack x data err cite) :=
  .ite h.retireTxn (.ite (.dmaResponse (.ite h.retireTxn.respond.upd (.ite h.retireTxn.respond.upd
    h.retireTxn.respond))) (.ite h.retireTxn.respond.upd (.ite h.retireTxn.respond.upd h.retireTxn.respond)))

theorem State.Keeps.writeBacks {blocks : List Nat} (h : σ.Keeps s) : σ.Keeps (s.writeBacks blocks) := h.upd

theorem State.Keeps.doRespTimeout {t : Nat} (h : σ.Keeps s) : σ.Keeps (doRespTimeout t s) := by
  unfold Machine.doRespTimeout
  refine .ite h ?_
  split
  · exact h
  · exact h.upd.count.log.sendBack

theorem State.Keeps.noteUe {block : Nat} (h : σ.Keeps s) : σ.Keeps (s.noteUe block) := h.count.wr.wr

theorem State.Keeps.uncorrectable {block master : Nat} (h : σ.Keeps s) : σ.Keeps (s.uncorrectable block master) :=
  h.noteUe.log

theorem State.Keeps.doRetry {flips : List (Nat × Nat)} (h : σ.Keeps s) : σ.Keeps (doRetry flips s) := by
  unfold Machine.doRetry
  split
  · exact h
  · split
    · split
      · exact .ite (.count (.ite h.upd.writeBacks h.upd)) (.uncorrectable (.ite h.upd.writeBacks h.upd))
      · split
        · exact .retireTxn (.ite (.count (.ite (.ite h.upd.writeBacks h.upd) (.noteUe (.ite h.upd.writeBacks h.upd))))
          (.hold (.count (.ite (.ite h.upd.writeBacks h.upd) (.noteUe (.ite h.upd.writeBacks h.upd))))))
        · exact .ite (.sendBack (.performRead (.count (.ite h.upd.writeBacks h.upd)))) (.sendBack (.uncorrectable (.ite
          h.upd.writeBacks h.upd)))

theorem State.Keeps.doWriteback {block : Nat} (h : σ.Keeps s) : σ.Keeps (doWriteback block s) := h.upd

theorem State.Keeps.doScrub {block : Nat} {flips : List (Nat × Nat)} (h : σ.Keeps s) : σ.Keeps (doScrub block flips s)
    := by
  unfold Machine.doScrub
  refine .ite h ?_
  split
  · exact h.upd
  · exact h.countIf.writeBacks

theorem State.Keeps.readPart {c uid a n beat : Nat} (h : σ.Keeps s) : σ.Keeps (s.readPart c uid a n beat).2 := by
  unfold State.readPart
  split
  · exact h.violate
  · exact h.enqueue

theorem State.Keeps.doBurst {e : Nat} {data : List Byte} {rdErr wrErr : Option Nat} (h : σ.Keeps s) : σ.Keeps (doBurst
    e data rdErr wrErr s) := by
  unfold Machine.doBurst
  dsimp only
  split
  · exact h
  · split
    · exact h
    · refine .ite h.upd.onCh.sapTake.burstOut (.ite ?_ (.ite (.burstOut (h.upd.onCh.foldl_snd fun _ _ h1 =>
      h1.readPart)) (.setBurst (h.upd.onCh.foldl_snd fun _ _ h1 => h1.readPart))))
      split
      · exact h.upd.onCh.burstOut
      · exact h.upd.onCh.onCh.burstOut

theorem State.Keeps.barLink {c : Nat} (h : σ.Keeps s) : σ.Keeps (s.barLink c) := .ite h.violate h

theorem State.Keeps.doTailPoll {c link : Nat} (h : σ.Keeps s) : σ.Keeps (doTailPoll c link s) :=
  .ite h h.barLink.followLink

end

end Sys2Proof.Machine
end

section
/-! What the functions keep that write the fabric, and what the key store's functions, the resets and the boot keep. -/
namespace Sys2Proof.Machine

section
variable {s t u σ : State}

theorem State.Keeps.switchSet {k : Nat} (h : σ.Keeps s) : σ.Keeps (s.switchSet k) := by
  unfold State.switchSet
  extract_lets
  split
  next r s1 heq =>
    have h1 : σ.Keeps s1 := by simpa only [heq] using h.fresh
    extract_lets
    exact .log (.put (.foldl (.wr (.showPost h1.upd)) fun _ _ ha => ha.showLanes))

theorem State.Keeps.forRate {r : Nat} (h : σ.Keeps s) : σ.Keeps (s.forRate r) := by
  unfold State.forRate
  split
  · exact h
  · split
    · exact h.switchSet
    · exact h.switchSet.finishOp

theorem State.Keeps.planLoadRes {img : PlanImage} (h : σ.Keeps s) : σ.Keeps (planLoadRes img s).st := by
  unfold Machine.planLoadRes
  refine .iteRes h.failRes (.iteRes h.failRes (.iteRes h.count.failRes (.iteRes h.failRes ?_)))
  extract_lets
  exact (State.Keeps.setPw h.forRate.upd).stopPlan.longRes

theorem State.Keeps.doFreqChange (h : σ.Keeps s) : σ.Keeps (doFreqChange s) := by
  unfold Machine.doFreqChange
  split
  · exact h
  · exact .ite h.switchSet.finishOp h

theorem State.Keeps.doRefreshDue {ch rk : Nat} (h : σ.Keeps s) : σ.Keeps (doRefreshDue ch rk s) :=
  .ite h (.ite h.count (.showPost h.upd))

theorem State.Keeps.doPayback {rank : Nat} (h : σ.Keeps s) : σ.Keeps (doPayback rank s) := .ite h (.showPost h.upd)

theorem State.Keeps.performWrite {m t a : Nat} {data : List Byte} {strobes : List Bool} (h : σ.Keeps s) :
    σ.Keeps (s.performWrite m t a data strobes) :=
  .ite (h.foldl fun _ _ ha => .ite ha.writeReg (.ite ha.violate ha)) (.ite h.upd h)

theorem State.Keeps.dmaStore {c a : Nat} {data : List Byte} (h : σ.Keeps s) : σ.Keeps (s.dmaStore c a data) := by
  unfold State.dmaStore
  split
  · exact h.upd
  · split
    · exact h.performWrite
    · exact h.violate

theorem State.Keeps.dmaStatus {c code cause index : Nat} {bad : Bool} (h : σ.Keeps s) :
    σ.Keeps (s.dmaStatus c code cause index bad).2 :=
  .iteSnd h.put.setBit.setDmaState.log (.ite h.dmaStore.wr.setBit (.ite h.dmaStore.wr.setBit h.dmaStore.wr))

theorem State.Keeps.doResponse {p : Nat} {e : RespEnd} (h : σ.Keeps s) : σ.Keeps (doResponse p e s) := by
  unfold Machine.doResponse
  split
  · exact h
  · extract_lets
    refine .ite h.sendBack (.ite h.performWrite.sendBack ?_)
    extract_lets
    refine .ite h.performRead.sendBack (.ite h.performRead.sendBack ?_)
    split
    · exact h.upd
    · exact h.performRead.countIf.writeBacks.sendBack

theorem State.Keeps.doDmaFetch {c : Nat} {d : DmaDesc} {e : Bool} (h : σ.Keeps s) : σ.Keeps (doDmaFetch c d e s) := by
  unfold Machine.doDmaFetch
  extract_lets _ _ _ _ s1
  refine .ite h ?_
  have h1 : σ.Keeps s1 := .onCh (.ite h.violate h)
  refine .ite ?_ h1
  split
  next s2 heq =>
    have h2 : σ.Keeps s2 := by simpa only [heq] using h1.dmaStatus (c := c) (code := 3) (cause := 0) (index := 0) (bad := e)
    exact h2.log.setDmaState

theorem State.Keeps.doDescDone {c link : Nat} {e f : Bool} (h : σ.Keeps s) : σ.Keeps (doDescDone c e f link s) := by
  unfold Machine.doDescDone
  extract_lets _ _ _ _ _ _ s1
  refine .ite h ?_
  have h1 : σ.Keeps s1 := .ite h h.dmaStore
  split
  next code cause index _ =>
    split
    next written s2 heq =>
      have h2 : σ.Keeps s2 := by
        simpa only [heq] using h1.dmaStatus (c := c) (code := code) (cause := cause) (index := index) (bad := f)
      extract_lets s3
      have h3 : σ.Keeps s3 := .ite h2.log h2
      exact .ite h3 (.ite h3.onCh.setDmaState (.ite h3.setDmaState h3.barLink.followLink))

theorem State.Keeps.clockCycle (h : σ.Keeps s) : σ.Keeps (clockCycle s) := h.upd

/-- MRAM keeps what the log held when a monitor tripped (R897). -/
theorem State.Keeps.doSupplyTrip {rail : Nat} (h : σ.Keeps s) : σ.Keeps (doSupplyTrip rail s) := by
  refine .ite h (.dropPin ⟨⟨h.queue, h.regs, fun hs => ⟨(h.silt hs).1, ?_⟩⟩, h.keys⟩)
  have hsilt := h.silt hs
  change ((if s.pwr.tripped then s.pwr.mram else some s.mramNow).all fun m => decide (m.silt.length ≤ siltSize)) = true
  split
  · exact hsilt.2
  · exact decide_eq_true hsilt.1

end

/-! ### What changes the keys -/

/-- The keys stay, or all are erased. -/
def State.KeepsOrErases (s t : State) : Prop := t.sec.keys = s.sec.keys ∨ t.sec.keys = []

section
variable {s t u : State}

theorem State.Keeps.keysOr (h : s.Keeps t) : s.KeepsOrErases t := .inl h.keys

theorem State.KeepsOrErases.trans_keeps (h : s.KeepsOrErases t) (h' : t.Keeps u) : s.KeepsOrErases u :=
  h.imp h'.keys.trans h'.keys.trans

theorem State.Keeps.trans_keysOr (h : s.Keeps t) (h' : t.KeepsOrErases u) : s.KeepsOrErases u :=
  h'.imp (·.trans h.keys) id

end

section
variable {s t u σ : State}

/-- An update of the security state keeps all but the keys. -/
theorem State.Sound.updSec (h : σ.Sound s) {x : SecS} : σ.Sound { s with sec := x } := ⟨h.queue, h.regs, h.silt⟩

theorem State.Sound.keeps (h : σ.Sound s) (h' : s.Keeps t) : σ.Sound t := h.trans h'.toSound

theorem State.Sound.putKey {k : KeyRec} (h : σ.Sound s) : σ.Sound (s.putKey k) :=
  ((h.keeps (State.Keeps.refl s).needKek).updSec).keeps (State.Keeps.refl _).put.siltWrite

theorem State.Sound.eraseKeys {k : Nat} (h : σ.Sound s) : σ.Sound (s.eraseKeys k) :=
  (State.Sound.updSec h).keeps (State.Keeps.refl _).put.count

theorem State.keysOr_eraseKeys (s : State) (k : Nat) : s.KeepsOrErases (s.eraseKeys k) := .inr rfl

theorem State.Sound.iteRes {c : Prop} [Decidable c] {x y : Res} (hx : σ.Sound x.st) (hy : σ.Sound y.st) :
    σ.Sound (if c then x else y).st := by
  split
  · exact hx
  · exact hy

theorem State.Sound.ite {c : Prop} [Decidable c] (hs : σ.Sound s) (ht : σ.Sound t) : σ.Sound (if c then s else t) := by
  split
  · exact hs
  · exact ht

theorem State.Sound.keyImportRes {d : Desc} (h : σ.Sound s) : σ.Sound (keyImportRes d s).st := by
  have hbad (n : Nat) : σ.Sound (badDesc s n).st := h.keeps (State.Keeps.refl s).badDesc
  have hfail (n : Nat) : σ.Sound (failRes s n).st := h.keeps (State.Keeps.refl s).failRes
  have hput (k : KeyRec) : σ.Sound (okRes (s.putKey k)).st := h.putKey.keeps (State.Keeps.refl _).okRes
  unfold Machine.keyImportRes
  refine .iteRes (hbad _) (.iteRes (hbad _) (.iteRes (hbad _) (.iteRes (hbad _) (.iteRes (hfail _) ?_))))
  extract_lets
  refine .iteRes (.iteRes (hfail _) (.iteRes (hbad _) (hput _))) (.iteRes (hfail _) ?_)
  extract_lets
  split
  · exact hfail _
  · exact .iteRes (hbad _) (hput _)

theorem State.Sound.keyDeleteRes {d : Desc} (h : σ.Sound s) : σ.Sound (keyDeleteRes d s).st := by
  have hbad (n : Nat) : σ.Sound (badDesc s n).st := h.keeps (State.Keeps.refl s).badDesc
  unfold Machine.keyDeleteRes
  refine .iteRes (hbad _) (.iteRes (hbad _) (.iteRes (hbad _) ?_))
  split
  · exact hbad _
  · exact .iteRes (h.keeps (State.Keeps.refl s).failRes) ((State.Sound.updSec h).keeps (State.Keeps.refl _).siltWrite.okRes)

theorem State.Sound.keyGenRes {d : Desc} (h : σ.Sound s) : σ.Sound (keyGenRes d s).st := by
  unfold Machine.keyGenRes
  refine .iteRes (h.keeps (State.Keeps.refl s).badDesc) (.iteRes (h.keeps (State.Keeps.refl s).failRes) ?_)
  split
  next n s1 heq =>
    have h1 : s.Keeps s1 := by simpa only [heq] using (State.Keeps.refl s).fresh
    exact (h.keeps h1).putKey.keeps (State.Keeps.refl _).okRes

/-- ZEROISE erases, then closes sessions. -/
theorem keeps_zeroiseRes (d : Desc) (s : State) : (s.eraseKeys 2).Keeps (zeroiseRes d s).st :=
  (State.Keeps.refl _).endSessions.okRes

end

section
variable {s t u σ : State}

/-- What DEBUG_UNLOCK does after erasing (R888). -/
theorem debugUnlockRes_keeps (d : Desc) (s : State) :
    s.Keeps (debugUnlockRes d s).st ∨ (s.eraseKeys 2).Keeps (debugUnlockRes d s).st := by
  have h := State.Keeps.refl s
  unfold Machine.debugUnlockRes
  split
  · exact .inl h.badDesc
  · split
    · exact .inl h.failRes
    · split
      · exact .inl h.failRes
      · split
        · exact .inl h.failRes
        · extract_lets s1 sec s2
          have h1 : (s.eraseKeys 2).Keeps s1 := (State.Keeps.refl _).eraseScenes.siltWrite
          have h2 : (s.eraseKeys 2).Keeps s2 := (h1.updSec (x := { sec with challenge := none }) rfl).put
          exact .inr h2.showEval.okRes

theorem State.Sound.debugUnlockRes {d : Desc} (h : σ.Sound s) : σ.Sound (debugUnlockRes d s).st :=
  (debugUnlockRes_keeps d s).elim h.keeps h.eraseKeys.keeps

theorem keysOr_debugUnlockRes (d : Desc) (s : State) : s.KeepsOrErases (debugUnlockRes d s).st :=
  (debugUnlockRes_keeps d s).elim State.Keeps.keysOr (s.keysOr_eraseKeys 2).trans_keeps

/-- TAMPER_TRIP: the latch, then the erasure of ACTION 1, then the rest (R885). -/
theorem doTamper_eq (i : Nat) (s : State) : ∃ u, s.Keeps u ∧
    (u.Keeps (doTamper i s) ∨ (u.eraseKeys 1).Keeps (doTamper i s)) := by
  have h := State.Keeps.refl s
  unfold Machine.doTamper
  split
  · exact ⟨s, h, .inl h⟩
  · extract_lets act latch s1 s2
    refine ⟨s1, h.wr.wr, ?_⟩
    have rest (u : State) (hu : u.Keeps s2) : u.Keeps (if s.on Reg.BKUP.STATUS.ONVBAT then
        { s2 with sec := { s2.sec with trips := s2.sec.trips ++ [(i, act)] } }
      else ((if act = 1 then s2.endSessions (fun _ => true) else s2).count Reg.SEC.CNT.TAMPER).siltWrite 0x0804
        (le 1 i ++ le 1 act)) := .ite (hu.updSec rfl) (State.Keeps.siltWrite (.count (.ite hu.endSessions hu)))
    by_cases hact : act = 1
    · have hs2 : s2 = s1.eraseKeys 1 := if_pos hact
      exact .inr (rest _ (hs2 ▸ .refl _))
    · have hs2 : s2 = s1 := if_neg hact
      exact .inl (rest _ (hs2 ▸ .refl _))

theorem State.Sound.doTamper {i : Nat} (h : σ.Sound s) : σ.Sound (doTamper i s) := by
  obtain ⟨u, hu, hk | hk⟩ := doTamper_eq i s
  · exact (h.keeps hu).keeps hk
  · exact (h.keeps hu).eraseKeys.keeps hk

theorem keysOr_doTamper (i : Nat) (s : State) : s.KeepsOrErases (doTamper i s) := by
  obtain ⟨u, hu, hk | hk⟩ := doTamper_eq i s
  · exact (hu.trans hk).keysOr
  · exact hu.trans_keysOr ((u.keysOr_eraseKeys 1).trans_keeps hk)

/-! ### Resets -/

theorem State.Sound.doBackupPowerOn (h : σ.Sound s) : σ.Sound (doBackupPowerOn s) :=
  (State.Sound.updSec (h.keeps (State.Keeps.refl s).resetRange)).keeps (State.Keeps.refl _).put

theorem tblWf_foldl_tblSet {l t : Tbl Word} (h : tblWf resetWord t = true) :
    tblWf resetWord (l.foldl (fun t e => tblSet resetWord t e.1 e.2) t) = true := by
  induction l generalizing t with
  | nil => exact h
  | cons e l ih => exact ih (tblWf_tblSet resetWord _ e.1 e.2 h)

/-- What MRAM held comes back (R897): a canonical file and a bounded log. -/
theorem State.Sound.mramBack (h : σ.Sound s) : σ.Sound s.mramBack := by
  unfold State.mramBack
  split
  · exact h
  next m hm =>
    refine ⟨h.queue, fun hs => tblWf_foldl_tblSet (tblWf_filter resetWord _ _ (h.regs hs)), fun hs => ⟨?_, (h.silt hs).2⟩⟩
    have hall := (h.silt hs).2
    rw [hm] at hall
    simpa only [Option.all_some, decide_eq_true_eq] using hall

theorem State.Sound.packageReset (h : σ.Sound s) : σ.Sound s.packageReset :=
  ⟨h.queue, fun hs => tblWf_filter resetWord _ _ (h.regs hs), fun hs => ⟨(h.silt hs).1, rfl⟩⟩

theorem State.Sound.bootKeys {k had : Bool} (h : σ.Sound s) : σ.Sound (s.bootKeys k had) :=
  .ite (h.keeps (State.Keeps.refl s).put) ((State.Sound.ite h.eraseKeys h.updSec).keeps (State.Keeps.refl _).siltWrite)

theorem State.Keeps.bootTrips (h : σ.Keeps s) : σ.Keeps s.bootTrips :=
  .updSec (h.foldl fun _ _ ha => ha.count.siltWrite) rfl

theorem State.Sound.stewardUp {i : Nat} {l : List (Nat × Nat × Nat)} {had : Bool} {b : BootEnv} (h : σ.Sound s) :
    σ.Sound (s.stewardUp i l had b) := by
  unfold State.stewardUp
  extract_lets image s1 s2 s3 s4 s5 s6 s7 s8
  have h1 : s.Keeps s1 := (State.Keeps.refl s).wr.wr.put.setWord.put.wr
  have h4 : s.Keeps s4 := .showHealth (.foldl h1.put.put.wr.put.put.put.wr fun _ _ ha => ha.roleMap)
  have h6 : s.Keeps s6 := (h4.foldl fun _ _ ha => ha.siltWrite).foldl fun _ _ ha => ha.logInstall
  have h7 : s.Keeps s7 := .ite h6 h6.siltWrite
  exact (h.keeps h7).bootKeys.keeps (State.Keeps.refl _).bootTrips.siltWrite.mountScenes.setPw

theorem State.Sound.boot {had : Bool} {b : BootEnv} (h : σ.Sound s) : σ.Sound (s.boot had b) := by
  have h1 : s.Keeps ((s.put Reg.SEC.STATUS.KEK had).showVbat b.vbat) := (State.Keeps.refl s).put.showVbat
  unfold State.boot
  extract_lets
  refine .ite (h.keeps h1.halt) ?_
  split
  extract_lets
  split
  · exact h.keeps h1.count.halt
  · exact (h.keeps h1.count.wr).stewardUp

theorem State.Sound.doPowerOn {b : BootEnv} (h : σ.Sound s) : σ.Sound (doPowerOn b s) :=
  State.Sound.boot (h.mramBack.packageReset.keeps (State.Keeps.upd (.refl _)).put)

theorem State.Sound.doIodReset {c : ResetCause} {b : BootEnv} (h : σ.Sound s) : σ.Sound (doIodReset c b s) :=
  State.Sound.boot (h.packageReset.keeps (State.Keeps.refl _).setWord.put.put.resumeMirrors)

theorem State.Sound.doIodRow {c : ResetCause} {b : BootEnv} (h : σ.Sound s) : σ.Sound (doIodRow c b s) := by
  unfold Machine.doIodRow
  refine .ite h ?_
  split
  · split
    · exact h
    · exact (h.keeps (State.Keeps.refl s).reach).doIodReset
  · exact h.doIodReset
  · exact h.doIodReset
  · exact h.doIodReset

theorem State.Sound.doLockstep {b : BootEnv} (h : σ.Sound s) : σ.Sound (doLockstep b s) :=
  (h.keeps (State.Keeps.refl s).dropAuth).doIodRow

end

end Sys2Proof.Machine
end

section
/-! The statements that speak of every command: the invariants, the queue and the keys. -/
namespace Sys2Proof.Machine

/-- The commands that may change the stored keys. -/
def changesKeys : Instr → Bool
  | .keyImport _ | .keyDelete _ | .keyGen _ | .zeroise _ | .debugUnlock _ | .tamperTrip _ | .powerOnReset _ | .iodReset _ _
  | .stewardWatchdog _ | .stewardLockstepMismatch _ | .backupPowerOn => true
  | _ => false

/-- Every other command answers a next state and keeps queue, canonical registers, the log's bound and the keys, by the
rule of its function. -/
theorem exec_keeps (c : Instr) (s : State) (hc : changesKeys c = false) : ∃ t, exec c s = .next t ∧ s.Keeps t := by
  have h := State.Keeps.refl s
  cases c
  case keyImport | keyDelete | keyGen | zeroise | debugUnlock | tamperTrip | powerOnReset | iodReset | stewardWatchdog
      | stewardLockstepMismatch | backupPowerOn => cases hc
  case tickBoundary => exact ⟨_, rfl, h.doTick⟩
  case intakeCutoff => exact ⟨_, rfl, h.doCutoff⟩
  case eddyDeadline => exact ⟨_, rfl, h.doEddyClose⟩
  case finishLine => exact ⟨_, rfl, h.doFinish⟩
  case delayPrefetchMiss => exact ⟨_, rfl, h.doPrefetchMiss⟩
  case delayWriteMiss => exact ⟨_, rfl, h.doWriteMiss⟩
  case recordingGap => exact ⟨_, rfl, h.doRecGap⟩
  case sentinelFeedMiss => exact ⟨_, rfl, h.doFeedMiss⟩
  case bundleIssue => exact ⟨_, rfl, h.doBundle⟩
  case kendOverdue => exact ⟨_, rfl, h.doOverdue⟩
  case transferLine => exact ⟨_, rfl, h.doTransfer⟩
  case importWaitEnd => exact ⟨_, rfl, h.doWaitEnd⟩
  case eddyPassAdmission => exact ⟨_, rfl, h.doPassAdmission⟩
  case faultReplayAdmission => exact ⟨_, rfl, h.doReplayAdmission⟩
  case eddyPassRun => exact ⟨_, rfl, h.doPassRun⟩
  case laneSelftestEnd => exact ⟨_, rfl, h.doSelftestEnd⟩
  case spareRotation => exact ⟨_, rfl, h.doRotation⟩
  case clusterMemoryTestEnd => exact ⟨_, rfl, h.doMemTestEnd⟩
  case rebuildComplete => exact ⟨_, rfl, h.doRebuildComplete⟩
  case rebuildTimeout => exact ⟨_, rfl, h.doRebuildTimeout⟩
  case dieReloadComplete => exact ⟨_, rfl, h.doReload⟩
  case computeDieSupplyTrip => exact ⟨_, rfl, h.doDieSupply⟩
  case supplyMonitorTrip => exact ⟨_, rfl, h.doSupplyTrip⟩
  case launch => exact ⟨_, rfl, h.doLaunch⟩
  case primingStart => exact ⟨_, rfl, h.doPriming⟩
  case crossfadeEnd => exact ⟨_, rfl, h.doCrossfadeEnd⟩
  case collectionCommit => exact ⟨_, rfl, h.doCollect⟩
  case zeroCrossing => exact ⟨_, rfl, h.doZeroCross⟩
  case zcTimeout => exact ⟨_, rfl, h.doZcTimeout⟩
  case descriptorFetch => exact ⟨_, rfl, h.doFetch⟩
  case doorbellPoll => exact ⟨_, rfl, h.doPoll⟩
  case nudge => exact ⟨_, rfl, h.doNudge⟩
  case fetchDeadline => exact ⟨_, rfl, h.doDeadline⟩
  case pcieCompletionTimeout => exact ⟨_, rfl, h.doCplTimeout⟩
  case cpl0CompletionDrain => exact ⟨_, rfl, h.drainCpl0⟩
  case eventQueueDrain => exact ⟨_, rfl, h.drainEvents⟩
  case hostLinkReset => exact ⟨_, rfl, h.doLinkReset⟩
  case ringEnable | ringDisable | eventRingEnable | eventRingDisable | hostLock | blockLock | counterClear
      | shRegisterWrite | launchOutputArm | launchOutputDisarm | portStart | portStop | maskArm | groupEnable =>
    exact ⟨_, rfl, .ite h.writeReg h⟩
  case registerWrite => exact ⟨_, rfl, .ite h.writeReg h.violate⟩
  case routeWindowLowWrite => exact ⟨_, rfl, .ite h.violate h.routeLow⟩
  case routeWindowHighWrite => exact ⟨_, rfl, .ite h.violate (.ite h.routeWide h.routeHigh)⟩
  case sessionExpiry => exact ⟨_, rfl, h.doExpiry⟩
  case sessionOpen => exact ⟨_, rfl, h.hostCmd fun _ h => h.sessionOpenRes⟩
  case sessionClose => exact ⟨_, rfl, h.hostCmd fun _ h => h.sessionCloseRes⟩
  case writeItems => exact ⟨_, rfl, h.hostCmd fun _ h => h.writeItemsRes⟩
  case regWrite => exact ⟨_, rfl, h.hostCmd fun _ h => h.regWriteRes⟩
  case planLoad => exact ⟨_, rfl, .ite h (h.hostCmd fun _ h => h.planLoadRes)⟩
  case planLoadComplete => exact ⟨_, rfl, h.doPlanComplete⟩
  case txnBegin => exact ⟨_, rfl, h.hostCmd fun _ h => h.txnBeginRes⟩
  case txnPrepare => exact ⟨_, rfl, h.hostCmd fun _ h => h.txnPrepareRes⟩
  case txnCommit => exact ⟨_, rfl, h.hostCmd fun _ h => h.txnCommitRes⟩
  case txnRollback => exact ⟨_, rfl, h.hostCmd fun _ h => h.txnRollbackRes⟩
  case sceneStore => exact ⟨_, rfl, h.hostCmd fun _ h => h.sceneStoreRes⟩
  case sceneRecall => exact ⟨_, rfl, h.hostCmd fun _ h => h.sceneRecallRes⟩
  case sceneErase => exact ⟨_, rfl, h.hostCmd fun _ h => h.sceneEraseRes⟩
  case streamOpen => exact ⟨_, rfl, h.hostCmd fun _ h => h.streamOpenRes⟩
  case streamOpenEffect => exact ⟨_, rfl, h.doStreamOpened⟩
  case streamClose => exact ⟨_, rfl, h.hostCmd fun _ h => h.streamCloseRes⟩
  case streamCloseEffect => exact ⟨_, rfl, h.doStreamClosed⟩
  case streamStat => exact ⟨_, rfl, h.hostCmd fun _ h => h.streamStatRes⟩
  case timeSet => exact ⟨_, rfl, h.hostCmd fun _ h => h.timeSetRes⟩
  case reEpoch => exact ⟨_, rfl, h.hostCmd fun _ h => h.reEpochRes⟩
  case reEpochStep => exact ⟨_, rfl, h.doReEpoch⟩
  case realign => exact ⟨_, rfl, h.hostCmd fun _ h => h.realignRes⟩
  case realignApply => exact ⟨_, rfl, h.doRealign⟩
  case refHistory => exact ⟨_, rfl, h.hostCmd fun _ h => h.refHistoryRes⟩
  case dieReset => exact ⟨_, rfl, h.hostCmd fun _ h => h.dieResetRes⟩
  case authHandover => exact ⟨_, rfl, h.hostCmd fun _ h => h.authHandoverRes⟩
  case handoverBoundary => exact ⟨_, rfl, h.doHandBoundary⟩
  case allstop => exact ⟨_, rfl, h.doAllstop⟩
  case allstopRelease => exact ⟨_, rfl, h.hostCmd fun _ h => h.releaseRes⟩
  case scClear => exact ⟨_, rfl, h.hostCmd fun _ h => h.scClearRes⟩
  case senseCal => exact ⟨_, rfl, h.hostCmd fun _ h => h.senseCalRes⟩
  case senseCalibration => exact ⟨_, rfl, h.doCalibration⟩
  case senseCalTimeout => exact ⟨_, rfl, h.doCalTimeout⟩
  case sentSet => exact ⟨_, rfl, h.hostCmd fun _ h => h.sentSetRes⟩
  case sentSetEffect => exact ⟨_, rfl, h.doSentEffect⟩
  case sentStat => exact ⟨_, rfl, h.hostCmd fun _ h => h.sentStatRes⟩
  case zCapture => exact ⟨_, rfl, h.hostCmd fun _ h => h.zCaptureRes⟩
  case zCaptureTimeout => exact ⟨_, rfl, h.doCaptureTimeout⟩
  case sentRestart => exact ⟨_, rfl, h.hostCmd fun _ h => h.sentRestartRes⟩
  case selftestLanes => exact ⟨_, rfl, h.hostCmd fun _ h => h.selftestLanesRes⟩
  case selftestClusterMemory => exact ⟨_, rfl, h.hostCmd fun _ h => h.selftestMemRes⟩
  case dramFullRetrain | dramFrequencyChange => exact ⟨_, rfl, h.hostCmd fun _ h => h.dramRetrainRes⟩
  case frequencyChange => exact ⟨_, rfl, h.doFreqChange⟩
  case frequencyChangeTimeout => exact ⟨_, rfl, h.doFreqTimeout⟩
  case planUnload | standby | wake => exact ⟨_, rfl, h.hostCmd fun _ h => h.powerStateRes⟩
  case meter => exact ⟨_, rfl, h.hostCmd fun _ h => h.meterRes⟩
  case tapCapture => exact ⟨_, rfl, h.hostCmd fun _ h => h.tapRes⟩
  case objRead => exact ⟨_, rfl, h.hostCmd fun _ h => h.objReadRes⟩
  case recArm => exact ⟨_, rfl, h.bufferCmd fun _ h => h.recArmRes⟩
  case recStart => exact ⟨_, rfl, h.storeCmd fun _ h => h.recStartRes⟩
  case recordingStart => exact ⟨_, rfl, h.doRecStart⟩
  case recStop => exact ⟨_, rfl, h.storeCmd fun _ h => h.recStopRes⟩
  case recordingStop => exact ⟨_, rfl, h.doRecStop⟩
  case playOpen => exact ⟨_, rfl, h.bufferCmd fun _ h => h.playOpenRes⟩
  case playStart => exact ⟨_, rfl, h.storeCmd fun _ h => h.playStartRes⟩
  case playbackStart => exact ⟨_, rfl, h.doPlayStart⟩
  case playStop => exact ⟨_, rfl, h.storeCmd fun _ h => h.playStopRes⟩
  case playbackLeadExhausted => exact ⟨_, rfl, h.doLeadOut⟩
  case takeList => exact ⟨_, rfl, h.storeCmd fun _ h => h.takeListRes⟩
  case takeDelete => exact ⟨_, rfl, h.storeCmd fun _ h => h.takeDeleteRes⟩
  case storeFormat => exact ⟨_, rfl, h.storeCmd fun _ h => h.storeFormatRes⟩
  case fileWrite | fwStage => exact ⟨_, rfl, h.storeCmd fun _ h => h.pieceRes⟩
  case fileRead => exact ⟨_, rfl, h.storeCmd fun _ h => h.fileReadRes⟩
  case fileDelete => exact ⟨_, rfl, h.storeCmd fun _ h => h.fileDeleteRes⟩
  case fileList => exact ⟨_, rfl, h.storeCmd fun _ h => h.fileListRes⟩
  case pendingVersionTimeout => exact ⟨_, rfl, h.doPendTimeout⟩
  case logRead => exact ⟨_, rfl, h.hostCmd fun _ h => h.logReadRes⟩
  case logExport => exact ⟨_, rfl, h.storeCmd fun _ h => h.logExportRes⟩
  case fwInstall => exact ⟨_, rfl, h.storeCmd fun _ h => h.fwInstallRes⟩
  case fwStatus => exact ⟨_, rfl, h.hostCmd fun _ h => h.fwStatusRes⟩
  case sceneImport => exact ⟨_, rfl, h.storeCmd fun _ h => h.sceneImportRes⟩
  case sceneExport => exact ⟨_, rfl, h.storeCmd fun _ h => h.sceneExportRes⟩
  case keyActivate => exact ⟨_, rfl, h.hostCmd fun _ h => h.keyActivateRes⟩
  case keyList => exact ⟨_, rfl, h.hostCmd fun _ h => h.keyListRes⟩
  case svnCommit => exact ⟨_, rfl, h.hostCmd fun _ h => h.svnCommitRes⟩
  case tokenGen => exact ⟨_, rfl, h.hostCmd fun _ h => h.tokenGenRes⟩
  case devidCert => exact ⟨_, rfl, h.hostCmd fun _ h => h.devidCertRes⟩
  case tamperClear => exact ⟨_, rfl, h.hostCmd fun _ h => h.tamperClearRes⟩
  case debugChallenge => exact ⟨_, rfl, h.hostCmd fun _ h => h.debugChallengeRes⟩
  case packetReceive => exact ⟨_, rfl, h.doPacket⟩
  case arpRequest => exact ⟨_, rfl, h.doArp⟩
  case icmpEchoRequest => exact ⟨_, rfl, h.doEcho⟩
  case igmpReport => exact ⟨_, rfl, h.doIgmp⟩
  case frameForward => exact ⟨_, rfl, h.doFrameForward⟩
  case egressFrameStart => exact ⟨_, rfl, h.doEgress⟩
  case fdbAgeing => exact ⟨_, rfl, h.doAgeing⟩
  case linkStateChange => exact ⟨_, rfl, h.doLinkState⟩
  case streamPathDown => exact ⟨_, rfl, h.doPathDown⟩
  case slipWindowEnd => exact ⟨_, rfl, h.doSlipWindow⟩
  case lateDropWindowEnd => exact ⟨_, rfl, h.doLateDrops⟩
  case streamPacketLaunch => exact ⟨_, rfl, h.doPacketLaunch⟩
  case packetTxDeadline => exact ⟨_, rfl, h.doTxDeadline⟩
  case switchConfigWrite | ptpclkWrite | dmaStart | dmaStop | dmaAppend | softReset => exact ⟨_, rfl, h.writeReg⟩
  case ptpMessageReceive => exact ⟨_, rfl, h.doPtp⟩
  case delayReq => exact ⟨_, rfl, h.doDelayReq⟩
  case managementMessage => exact ⟨_, rfl, h.doManagement⟩
  case ptpEventForward => exact ⟨_, rfl, h.doForward⟩
  case syncTransmit => exact ⟨_, rfl, h.doSync⟩
  case followUp => exact ⟨_, rfl, h.doFollowUp⟩
  case announceTransmit => exact ⟨_, rfl, h.doAnnounce⟩
  case firstLockStep => exact ⟨_, rfl, h.doFirstLock⟩
  case referenceEdge => exact ⟨_, rfl, h.doRefEdge⟩
  case referenceActivityLoss => exact ⟨_, rfl, h.doActivityLoss⟩
  case frequencyGateEnd => exact ⟨_, rfl, h.doGateEnd⟩
  case waitToRestoreEnd => exact ⟨_, rfl, h.doWtrEnd⟩
  case holdoverHistoryWrite => exact ⟨_, rfl, h.doHistory⟩
  case eventInputEdge => exact ⟨_, rfl, h.doEdge⟩
  case launchOutputPulse => exact ⟨_, rfl, h.doPulse⟩
  case launchOutputPulseEnd => exact ⟨_, rfl, h.doPulseEnd⟩
  case heartbeat => exact ⟨_, rfl, h.doHeartbeat⟩
  case partnerLost => exact ⟨_, rfl, h.doPartnerLost⟩
  case config => exact ⟨_, rfl, h.doConfig⟩
  case configAckTimeout => exact ⟨_, rfl, h.doConfigTimeout⟩
  case image => exact ⟨_, rfl, h.doImage⟩
  case stateImageSend => exact ⟨_, rfl, h.doImageSend⟩
  case handover => exact ⟨_, rfl, h.doHandover⟩
  case ack => exact ⟨_, rfl, h.doAck⟩
  case handoverAckTimeout => exact ⟨_, rfl, h.doHandTimeout⟩
  case timeFrame => exact ⟨_, rfl, h.doTimeFrame⟩
  case authInSample => exact ⟨_, rfl, h.doAuthIn⟩
  case authorityWatchdog => exact ⟨_, rfl, h.doAuthWatchdog⟩
  case portFrame => exact ⟨_, rfl, h.doPortFrame⟩
  case slotUnderrun => exact ⟨_, rfl, h.doUnderrun⟩
  case sapLossOfClock => exact ⟨_, rfl, h.doLossOfClock⟩
  case sapRateMeasurement => exact ⟨_, rfl, h.doRateMeasure⟩
  case slipLogWindowEnd => exact ⟨_, rfl, h.doSlipLog⟩
  case railQualified => exact ⟨_, rfl, h.doRailQualified⟩
  case bootEnd => exact ⟨_, rfl, h.doBootEnd⟩
  case carrierPeriod => exact ⟨_, rfl, h.doCarrier⟩
  case scNFall => exact ⟨_, rfl, h.doScFall⟩
  case probeStart => exact ⟨_, rfl, h.doProbeStart⟩
  case probeResult => exact ⟨_, rfl, h.doProbeResult⟩
  case rearmRampEnd => exact ⟨_, rfl, h.doRearmEnd⟩
  case scWaitExpiry => exact ⟨_, rfl, h.doWaitExpiry⟩
  case muteNFall => exact ⟨_, rfl, h.doMuteFall⟩
  case muteNRise => exact ⟨_, rfl, h.doMuteRise⟩
  case pinAllstopEnd => exact ⟨_, rfl, h.doPinEnd⟩
  case railUndervoltage => exact ⟨_, rfl, h.doUndervoltage⟩
  case railOvervoltage => exact ⟨_, rfl, h.doOvervoltage⟩
  case stageStatusFrame => exact ⟨_, rfl, h.doStageFrame⟩
  case stageStatusTimeout => exact ⟨_, rfl, h.doStatusTimeout⟩
  case stageFaultRestart => exact ⟨_, rfl, h.doFaultRestart⟩
  case senseStuck => exact ⟨_, rfl, h.doSenseStuck⟩
  case senseStuckClear => exact ⟨_, rfl, h.doSenseClear⟩
  case pilotWindowEnd => exact ⟨_, rfl, h.doPilotWindow⟩
  case sentinelFault => exact ⟨_, rfl, h.doSentFault⟩
  case sentinelRestartDone => exact ⟨_, rfl, h.doSentRestarted⟩
  case sentinelRestartTimeout => exact ⟨_, rfl, h.doSentTimeout⟩
  case busRequest => exact ⟨_, rfl, h.doBusRequest⟩
  case targetGrant => exact ⟨_, rfl, h.doGrant⟩
  case targetResponse => exact ⟨_, rfl, h.doResponse⟩
  case targetResponseTimeout => exact ⟨_, rfl, h.doRespTimeout⟩
  case masterReset => exact ⟨_, rfl, h.doMasterReset⟩
  case masterPortClosed => exact ⟨_, rfl, h.doPortClosed⟩
  case dramTrainingEnd => exact ⟨_, rfl, h.doTrainingEnd⟩
  case trackingBurst => exact ⟨_, rfl, h.doTracking⟩
  case refreshDue => exact ⟨_, rfl, h.doRefreshDue⟩
  case refreshPayback => exact ⟨_, rfl, h.doPayback⟩
  case retryDataArrival => exact ⟨_, rfl, h.doRetry⟩
  case eccWriteback => exact ⟨_, rfl, h.doWriteback⟩
  case patrolScrub => exact ⟨_, rfl, h.doScrub⟩
  case dmaDescriptorFetch => exact ⟨_, rfl, h.doDmaFetch⟩
  case dmaRequest => exact ⟨_, rfl, .ite h h.raise⟩
  case dmaBurstIssue => exact ⟨_, rfl, h.doBurst⟩
  case dmaDescriptorComplete => exact ⟨_, rfl, h.doDescDone⟩
  case tailwaitPoll => exact ⟨_, rfl, h.doTailPoll⟩
  case codewordTimeout => exact ⟨_, rfl, h.doCodeword⟩
  case programFailure => exact ⟨_, rfl, h.doProgramFail⟩
  case blockRefresh => exact ⟨_, rfl, h.doRefresh⟩
  case wearMove => exact ⟨_, rfl, h.doWearMove⟩
  case nandScrub => exact ⟨_, rfl, h.doNandScrub⟩
  case journalCheckpoint => exact ⟨_, rfl, h.doCheckpoint⟩
  case storeMount => exact ⟨_, rfl, h.doMount⟩
  case storeFull => exact ⟨_, rfl, h.doStoreFull⟩
  case vbatSwitchover => exact ⟨_, rfl, h.doVbat⟩
  case engineStart => exact ⟨_, rfl, h.doEngineStart⟩
  case engineStop => exact ⟨_, rfl, h.doEngineStop⟩
  case latchingRead => exact ⟨_, rfl, h.readLatch⟩
  case ouvfelLinkStateChange => exact ⟨_, rfl, h.doOuvLink⟩
  case announceReceiptTimeout => exact ⟨_, rfl, h.doAnnTimeout⟩
  case delayReqTransmit => exact ⟨_, rfl, h.doReqTransmit⟩
  case fwInstallComplete => exact ⟨_, rfl, h.doFwDone⟩
  case dramRetrainComplete => exact ⟨_, rfl, h.doRetrainComplete⟩

theorem exec_sound (c : Instr) (s : State) : ∃ t, exec c s = .next t ∧ s.Sound t := by
  cases hc : changesKeys c with
  | false =>
    obtain ⟨t, ht, hk⟩ := exec_keeps c s hc
    exact ⟨t, ht, hk.toSound⟩
  | true =>
    have h := State.Sound.refl s
    have ring {op role : Nat} {d : Desc} {eff : State → Res} (he : ∀ u, s.Sound u → s.Sound (eff u).st) :
        s.Sound (hostCmd op role d eff s) := hostCmd_induct (fun _ _ hk ha => ha.keeps hk) h he
    cases c
    case keyImport => exact ⟨_, rfl, ring fun _ hu => hu.keyImportRes⟩
    case keyDelete => exact ⟨_, rfl, ring fun _ hu => hu.keyDeleteRes⟩
    case keyGen => exact ⟨_, rfl, ring fun _ hu => hu.keyGenRes⟩
    case zeroise d => exact ⟨_, rfl, ring fun u hu => hu.eraseKeys.keeps (keeps_zeroiseRes d u)⟩
    case debugUnlock => exact ⟨_, rfl, ring fun _ hu => hu.debugUnlockRes⟩
    case tamperTrip => exact ⟨_, rfl, h.doTamper⟩
    case powerOnReset => exact ⟨_, rfl, h.doPowerOn⟩
    case iodReset => exact ⟨_, rfl, h.doIodRow⟩
    case stewardWatchdog => exact ⟨_, rfl, h.doIodRow⟩
    case stewardLockstepMismatch => exact ⟨_, rfl, h.doLockstep⟩
    case backupPowerOn => exact ⟨_, rfl, h.doBackupPowerOn⟩
    all_goals cases hc

theorem exec_next_sound {c : Instr} {s t : State} (h : exec c s = .next t) : s.Sound t := by
  obtain ⟨u, hu, hs⟩ := exec_sound c s
  cases hu.symm.trans h
  exact hs

theorem exec_next_keeps {c : Instr} {s t : State} (hc : changesKeys c = false) (h : exec c s = .next t) : s.Keeps t := by
  obtain ⟨u, hu, hs⟩ := exec_keeps c s hc
  cases hu.symm.trans h
  exact hs

/-- A ring's command whose effect keeps or erases the keys does so itself. -/
theorem keysOr_hostCmd {op role : Nat} {d : Desc} {eff : State → Res} {s : State}
    (he : ∀ u : State, u.KeepsOrErases (eff u).st) : s.KeepsOrErases (hostCmd op role d eff s) :=
  hostCmd_induct (fun _ _ hk ha => ha.trans_keeps hk) (State.Keeps.refl s).keysOr fun u hu =>
    (he u).elim (fun h => hu.imp h.trans h.trans) .inr

/-- A step's command runs on the state with the rest of the queue, which holds the same registers and log; a clock cycle
moves time alone. -/
theorem step_sound {s t : State} (h : step s = .next t) :
    (s.RegsCanon → t.RegsCanon) ∧ (s.SiltBounded → t.SiltBounded) := by
  unfold step at h
  split at h
  · cases h
    have hk := (State.Keeps.refl s).clockCycle
    exact ⟨hk.regs, hk.silt⟩
  · have hs := exec_next_sound h
    exact ⟨hs.regs, hs.silt⟩

/-- Settles O54: every command, by its own rule, writes registers through `setWord`, or filters and refills the file. -/
theorem stepKeepsRegistersCanonical : Obligations.StepKeepsRegistersCanonical :=
  fun _ _ hs h => (step_sound h).1 hs

/-- Settles O55: an entry is written by `siltWrite` alone, which drops the oldest beyond the ring's size. -/
theorem stepKeepsSiltBounded : Obligations.StepKeepsSiltBounded :=
  fun _ _ hs h => (step_sound h).2 hs

/-- Settles O57: the rule of each command's function says what it answers and keeps. -/
theorem everyCommandAnswersAndLeavesTheQueue : Obligations.EveryCommandAnswersAndLeavesTheQueue := fun c s => by
  obtain ⟨t, ht, hs⟩ := exec_sound c s
  exact ⟨t, ht, hs.queue⟩

/-- Settles O59: all other commands keep the keys; TAMPER_TRIP, DEBUG_UNLOCK, ZEROISE and BACKUP_POWER_ON can only erase. -/
theorem onlySecurityCommandsChangeTheKeys : Obligations.OnlySecurityCommandsChangeTheKeys := by
  refine ⟨fun c s t h h1 h2 h3 h4 h5 h6 h7 h8 h9 h10 h11 => ?_, fun i d c s t hc h => ?_⟩
  · refine (exec_next_keeps ?_ h).keys
    unfold changesKeys
    split <;> simp_all
  · simp only [List.mem_cons, List.not_mem_nil, or_false] at hc
    obtain rfl | rfl | rfl | rfl := hc <;> cases h
    · exact keysOr_doTamper i s
    · exact keysOr_hostCmd (keysOr_debugUnlockRes d)
    · exact keysOr_hostCmd fun u => (u.keysOr_eraseKeys 2).trans_keeps (keeps_zeroiseRes d u)
    · exact .inr rfl

end Sys2Proof.Machine
end

section
/-! The reset state, the front command, and the switch to VBAT. -/
namespace Sys2Proof.Machine

/-- Settles O1: a step on a queue that is not empty is by its definition `exec` of the front on the rest. -/
theorem stepRunsTheFrontCommand : Obligations.StepRunsTheFrontCommand := fun _ _ _ => rfl

/-- Settles O52: the reset state lists no register, so each reads its Reset value, and no part of it holds anything. -/
theorem resetState : Obligations.ResetState := by
  exact ⟨rfl, fun _ => rfl, by decide, by decide, by decide, by decide, fun _ => List.eq_of_mem_replicate, rfl, rfl, rfl, rfl,
    rfl, rfl, rfl, rfl, rfl, rfl, rfl, rfl⟩

/-- Settles O53: every table of the reset state is empty. -/
theorem resetMeetsTheInvariants : Obligations.ResetMeetsTheInvariants :=
  ⟨rfl, rfl, ⟨Nat.zero_le _, rfl⟩, fun _ => Nat.zero_le _⟩

theorem State.sameButRegs_count {s t : State} (h : s.sameButRegs t) (f : Fld) (n : Nat) : s.sameButRegs (t.count f n) := by
  obtain ⟨r, rfl⟩ := h
  exact ⟨_, rfl⟩

/-- A switch to VBAT from VDDIO_18 sets ONVBAT and counts (R902). -/
theorem exec_vbatSwitchover_of_off {s : State} (h : s.on Reg.BKUP.STATUS.ONVBAT = false) :
    exec .vbatSwitchover s = .next ((s.put Reg.BKUP.STATUS.ONVBAT true).count Reg.BKUP.LOSSCNT.COUNT) :=
  congrArg Host.Outcome.next (if_neg (by simp [h]))

/-- Settles O50: both fields lie in registers of their own. -/
theorem lossOfSupplyIsCounted : Obligations.LossOfSupplyIsCounted := by
  intro s hoff
  refine ⟨_, exec_vbatSwitchover_of_off hoff, ?_, ?_, State.sameButRegs_count (s.sameButRegs_setWord _ _) _ _, fun o ho => ?_⟩
  · unfold State.on
    rw [State.rd_count_apart _ _ _ _ rfl rfl rfl]
    exact State.rd_put_same _ _ _ rfl rfl
  · rw [State.rd_count_same _ _ _ rfl]
    unfold State.put
    rw [State.rd_wr_apart _ _ _ _ rfl rfl rfl]
  · simp only [List.mem_cons, List.not_mem_nil, or_false, not_or] at ho
    obtain ⟨hstat, hcnt⟩ := ho
    exact (State.word_wr_other _ _ _ hcnt).trans (State.word_wr_other _ _ _ hstat)

end Sys2Proof.Machine
end

section
/-! The rows of the flash store: recording, playback, files, firmware, the log's commands and the medium. -/
namespace Sys2Proof.Machine

/-! ### Storage commands that complete -/

/-- With the replay ended, an admitted storage command leaves its effect and completes with OK (R827, R699). -/
theorem storeCmd_ok {s t : State} {op role : Nat} {d : Desc} {eff : State → Res} {r p : List Byte}
    (hjrn : s.on Reg.STORE.STAT.JRN = false) (h : s.Admits op role d) (e : eff (s.opened op d) = okRes t r p)
    (hp : p.length ≤ d.rlen) : storeCmd op role d eff s = t.completes d stOk r p :=
  (storeCmd_eq hjrn ..).trans (hostCmd_ok h e hp)

/-- The same of a command whose buffers are in DRAM, with no full retrain (R758). -/
theorem bufferCmd_ok {s t : State} {op role : Nat} {d : Desc} {eff : State → Res} {r p : List Byte}
    (hdram : s.on Reg.DRAM.STAT.RETRAIN = false) (hjrn : s.on Reg.STORE.STAT.JRN = false) (h : s.Admits op role d)
    (e : eff (s.opened op d) = okRes t r p) (hp : p.length ≤ d.rlen) : bufferCmd op role d eff s = t.completes d stOk r p :=
  (bufferCmd_eq hdram hjrn ..).trans (hostCmd_ok h e hp)

/-! ### Recording (R828 to R833) -/

/-- REC_ARM without encryption of channels that exist makes the next take (R829). -/
theorem recArmRes_of_free {d : Desc} {u : State} (hwidth : d.a0 < 2) (hplain : d.a2 = 0) (heven : d.buf.length % 2 = 0)
    (hsome : d.buf ≠ []) (hchans : firstBadIdx (u16s d.buf) (fun c => decide (c < u.cap 2048)) = none)
    (hcap : (u16s d.buf).length ≤ u.cap 2048) (hready : u.medium = 1) (hawake : u.inStandby = false)
    (hfree : u.store.rcd = none) (hrate : u.byteRate (u16s d.buf).length d.a0 ≤ u.rd Reg.STORE.PERF.WR * 600000) :
    recArmRes d u = okRes (({ u with store := { u.store with
      takes := u.store.takes ++ [{ num := u.store.nextTake, width := d.a0, chans := u16s d.buf, spt := u.spt }]
      nextTake := (u.store.nextTake + 1) % 2 ^ 32, rcd := some { take := u.store.nextTake } } } : State).journal)
      (le 4 u.store.nextTake) := by
  unfold recArmRes
  simp only [hchans]
  simp [hplain, heven, hsome, hready, hawake, hfree, Nat.not_le.mpr hwidth, Nat.not_lt.mpr hcap, Nat.not_lt.mpr hrate]
  split <;> rfl

theorem recStartRes_of_armed {d : Desc} {u : State} {r : RecS} (ha2 : d.a2 < 1000000000) (hrcd : u.store.rcd = some r)
    (hstart : r.start = none) :
    recStartRes d u = okRes { u with store := { u.store with rcd := some { r with start := some (u.boundaryOf d 2) } } }
      (le 8 (u.boundaryOf d 2)) := by
  simp [recStartRes, Nat.not_le.mpr ha2, hrcd, hstart]

theorem recStopRes_of_armed {d : Desc} {u : State} {r : RecS} (ha2 : d.a2 < 1000000000) (hrcd : u.store.rcd = some r) :
    recStopRes d u = okRes { u with store := { u.store with rcd := some { r with stop := some (u.boundaryOf d 2) } } }
      (le 8 (u.boundaryOf d 2 - 3)) := by
  simp [recStopRes, Nat.not_le.mpr ha2, hrcd]

theorem doRecStart_of_due {s : State} {r : RecS} {k : Nat} (hrcd : s.store.rcd = some r) (hstart : r.start = some k)
    (hdue : k ≤ s.tick) :
    doRecStart s = ({ s with store := { s.store with rcd := some { r with running := true, at_ := s.run } } } : State).showStore := by
  simp [doRecStart, hrcd, hstart, Nat.not_lt.mpr hdue]

theorem doRecStop_of_due {s : State} {r : RecS} {k : Nat} (hrcd : s.store.rcd = some r) (hstop : r.stop = some k)
    (hdue : k ≤ s.tick) :
    doRecStop s = (({ s with store := { s.store with rcd := none } } : State).journal).showStore := by
  simp [doRecStop, hrcd, hstop, Nat.not_lt.mpr hdue]

/-- RECORDING_GAP on a take of one block marks its newest frame (R831). -/
theorem doRecGap_of_block {s : State} {r : RecS} {t : Take} {b : TakeBlk} (hrcd : s.store.rcd = some r)
    (htakes : s.store.takes = [t]) (hnum : t.num = r.take) (hblk : t.blocks = [b]) :
    doRecGap s = s.setTakes [{ t with blocks := [{ b with
      gap := b.gap ||| 2 ^ (b.frames.length - 1)
      frames := b.frames.dropLast ++ [(b.frames.getLast?.getD []).map (fun c => c.map (fun _ => (0 : Int)))] }] }] := by
  simp [doRecGap, hrcd, State.modTake, htakes, hnum, hblk]

theorem doStoreFull_of_full {s : State} {r : RecS} (hrcd : s.store.rcd = some r)
    (hfull : ((s.take r.take).any fun t => s.frameFits t) = false) :
    doStoreFull s = ((({ s with store := { s.store with rcd := none } } : State).journal).showStore).log 0x0709
      (le 4 r.take ++ le 8 (((s.take r.take).map Take.lastFrame).getD 0)) := by
  simp [doStoreFull, hrcd, hfull]

/-- Settles O32: each row by the lemma about its function. -/
theorem recordingRowsTakeEffect : Obligations.RecordingRowsTakeEffect := by
  refine ⟨?arm, ?start, ?starts, ?stop, ?stops, ?gap, ?full⟩
  case arm =>
    rintro d s u n hdram hjrn hadm rfl h1 h2 h3 h4 h5 h6 h7 h8 h9 h10 rfl
    exact congrArg Host.Outcome.next
      (bufferCmd_ok hdram hjrn hadm (recArmRes_of_free h1 h2 h3 h4 h5 h6 h7 h8 h9 h10) (Nat.zero_le _))
  case start =>
    rintro d s u r hjrn hadm rfl ha2 hrcd hstart
    exact congrArg Host.Outcome.next (storeCmd_ok hjrn hadm (recStartRes_of_armed ha2 hrcd hstart) (Nat.zero_le _))
  case starts => exact fun k r s hrcd hstart hdue => congrArg Host.Outcome.next (doRecStart_of_due hrcd hstart hdue)
  case stop =>
    rintro d s u r hjrn hadm rfl ha2 hrcd
    exact congrArg Host.Outcome.next (storeCmd_ok hjrn hadm (recStopRes_of_armed ha2 hrcd) (Nat.zero_le _))
  case stops => exact fun k r s hrcd hstop hdue => congrArg Host.Outcome.next (doRecStop_of_due hrcd hstop hdue)
  case gap => exact fun r t b s hrcd htakes hnum hblk => congrArg Host.Outcome.next (doRecGap_of_block hrcd htakes hnum hblk)
  case full => exact fun r s hrcd hfull => congrArg Host.Outcome.next (doStoreFull_of_full hrcd hfull)

/-! ### Playback (R834 to R838) -/

/-- PLAY_OPEN on a store that plays nothing (R834). -/
theorem playOpenRes_of_idle {d : Desc} {u : State} {t : Take} (htake : u.take d.a0 = some t) (ha1 : d.a1 < 8)
    (hlen : d.buf.length = 2 * t.chans.length)
    (hmap : firstBadIdx (u16s d.buf) (fun c => c == 65535 || decide (c < u.cap 2048)) = none) (hready : u.medium = 1)
    (hawake : u.inStandby = false) (hidle : u.store.plays = []) (hcrypto : t.enc = none ∨ u.rd Reg.SEC.STATUS.CRYPTO ≠ 2)
    (hkey : u.playKeyOk t = true)
    (hrate : u.byteRate ((u16s d.buf).filter (fun c => c != 65535)).length t.width ≤ u.rd Reg.STORE.PERF.RD * 600000) :
    playOpenRes d u = okRes ({ u with store := { u.store with
      plays := [(d.a1, { take := d.a0, map := u16s d.buf })] } } : State).showStore := by
  have hrate0 : ¬ u.rd Reg.STORE.PERF.RD * 600000 <
      u.playRate + u.byteRate ((u16s d.buf).filter (fun c => c != 65535)).length t.width := by
    simp [State.playRate, hidle, hrate]
  have hplain : (t.enc.isSome && u.rd Reg.SEC.STATUS.CRYPTO == 2) = false := by
    rcases hcrypto with h | h <;> simp [h]
  have hset (x : PlayS) : mapSet u.store.plays d.a1 x = [(d.a1, x)] := by rw [hidle]; rfl
  unfold playOpenRes
  simp only [htake, hmap, hset, hrate0, hplain]
  simp [Nat.not_le.mpr ha1, hlen, hready, hawake, hidle, hkey, mapGet]

theorem playStartRes_of_open {d : Desc} {u : State} {x : PlayS} (ha1 : d.a1 < 8) (ha2 : d.a2 < 1000000000)
    (hopen : mapGet u.store.plays d.a1 = some x) :
    playStartRes d u = okRes { u with store := { u.store with
      plays := mapSet u.store.plays d.a1 { x with start := some (u.boundaryOf d 2), p0 := d.a3, running := false } } }
      (le 8 (u.boundaryOf d 2)) := by
  simp [playStartRes, Nat.not_le.mpr ha1, Nat.not_le.mpr ha2, hopen]

theorem playStopRes_of_open {d : Desc} {u : State} {x : PlayS} (ha1 : d.a1 < 8) (ha2 : d.a2 < 1000000000)
    (hopen : mapGet u.store.plays d.a1 = some x) :
    playStopRes d u = okRes { u with store := { u.store with
      plays := mapSet u.store.plays d.a1 { x with stop := some (u.boundaryOf d 0) } } } := by
  simp [playStopRes, Nat.not_le.mpr ha1, Nat.not_le.mpr ha2, hopen]

theorem doPlayStart_of_due {n k : Nat} {x : PlayS} {s : State} (hopen : mapGet s.store.plays n = some x)
    (hstart : x.start = some k) (hdue : k ≤ s.tick) :
    doPlayStart n s = { s with store := { s.store with plays := mapSet s.store.plays n { x with running := true } } } := by
  simp [doPlayStart, hopen, hstart, Nat.not_lt.mpr hdue]

/-- A session whose start boundary has come conceals from the position that now plays (R837). -/
theorem doLeadOut_of_started {n c k : Nat} {cite : Option Nat} {x : PlayS} {s : State}
    (hopen : mapGet s.store.plays n = some x) (hstart : x.start = some k) (hdue : k ≤ s.tick) :
    doLeadOut n c cite s = ({ s with store := { s.store with
      plays := mapSet s.store.plays n { x with missing := x.missing ++ [(x.p0 + (s.tick - k) * s.spt, c)] } } } :
        State).siltWrite 0x0705 (le 1 n ++ le 4 c) (s.citesBad cite) := by
  simp [doLeadOut, hopen, PlayS.posAt, hstart, Nat.not_lt.mpr hdue]

/-- TAKE_DELETE of a take that neither records nor plays (R838). -/
theorem takeDeleteRes_of_idle {d : Desc} {u : State} {t : Take} (htake : u.take d.a0 = some t) (hready : u.medium = 1)
    (hrcd : u.store.rcd = none) (hplays : u.store.plays = []) :
    takeDeleteRes d u =
      okRes ((((u.setTakes (u.store.takes.filter (fun t => t.num != d.a0))).eraseAll t.nand).journal).showStore) := by
  simp [takeDeleteRes, htake, hready, hrcd, hplays]

/-- Settles O33: each row by the lemma about its function. -/
theorem playbackRowsTakeEffect : Obligations.PlaybackRowsTakeEffect := by
  refine ⟨?opens, ?start, ?starts, ?stop, ?lead, ?list, ?delete⟩
  case opens =>
    rintro d s u t hdram hjrn hadm rfl h1 h2 h3 h4 h5 h6 h7 h8 h9 h10
    exact congrArg Host.Outcome.next
      (bufferCmd_ok hdram hjrn hadm (playOpenRes_of_idle h1 h2 h3 h4 h5 h6 h7 h8 h9 h10) (Nat.zero_le _))
  case start =>
    rintro d s u x hjrn hadm rfl ha1 ha2 hopen
    exact congrArg Host.Outcome.next (storeCmd_ok hjrn hadm (playStartRes_of_open ha1 ha2 hopen) (Nat.zero_le _))
  case starts => exact fun n k x s hopen hstart hdue => congrArg Host.Outcome.next (doPlayStart_of_due hopen hstart hdue)
  case stop =>
    rintro d s u x hjrn hadm rfl ha1 ha2 hopen
    exact congrArg Host.Outcome.next (storeCmd_ok hjrn hadm (playStopRes_of_open ha1 ha2 hopen) (Nat.zero_le _))
  case lead => exact fun n c k cite x s hopen hstart hdue => congrArg Host.Outcome.next (doLeadOut_of_started hopen hstart hdue)
  case list =>
    rintro d s u hjrn hadm rfl hnone
    have hres : takeListRes d (s.opened 0x86 d) = okRes (s.opened 0x86 d) (le 4 0) [] := by simp [takeListRes, hnone]
    exact congrArg Host.Outcome.next (storeCmd_ok hjrn hadm hres (Nat.zero_le _))
  case delete =>
    rintro d s u t hjrn hadm rfl htake hready hrcd hplays
    exact congrArg Host.Outcome.next
      (storeCmd_ok hjrn hadm (takeDeleteRes_of_idle htake hready hrcd hplays) (Nat.zero_le _))

/-! ### Files (R839 to R841) -/

/-- STORE_FORMAT while nothing records, plays or installs (R817). -/
theorem storeFormatRes_of_quiet {d : Desc} {good mib : Nat} {bad : List Nat} {u : State} (hmedium : u.medium = 1 ∨ u.medium = 3)
    (hruns : u.storeRuns = false) (hinst : u.store.install = none) :
    storeFormatRes good bad mib d u = okRes (((((({ u with store := { u.store with
      formatted := true, good := good, total := good + bad.length, bad := bad, blocks := [], spare := good * 2 / 100, journal := 0
      files := [], pend := [], takes := [], rcd := none, plays := [], mib := mib, grown := 0 } } : State).wr
        Reg.STORE.STAT.STATE 1).wrSat Reg.STORE.CAP.MIB mib).wr Reg.STORE.BLK.GROWN 0).showSpare).showWear).showStore
      (le 8 (min mib (2 ^ 22 - 1))) := by
  rcases hmedium with h | h <;> simp [storeFormatRes, h, hruns, hinst]

/-- The first piece of a version, with room and without LAST, is held in blocks of its own (R840). -/
theorem pieceRes_first {d : Desc} {u : State} (hbuf : 32 ≤ d.buf.length) (ha0 : d.a0 = 0) (ha2 : d.a2 = 0)
    (hpend : u.store.pend = []) (hroom : (u.setPend []).fileBar (fileName d.buf) (d.buf.drop 32).length = none) :
    pieceRes d u = okRes (((((u.setPend []).eraseAll []).holdBytes [] (d.buf.drop 32).length).2.setPend
      [{ name := fileName d.buf, data := d.buf.drop 32, last := u.run
         blocks := (((u.setPend []).eraseAll []).holdBytes [] (d.buf.drop 32).length).1 }]).showStore)
      (le 4 (d.buf.drop 32).length) := by
  simp only [pieceRes, Nat.not_lt.mpr hbuf, hpend, ha0, ha2, List.filter_nil, List.find?_nil, Option.map_none,
    Option.getD_none, List.nil_append, hroom]
  rfl

/-- The first piece with LAST makes the file stand (R839, R841). -/
theorem pieceRes_whole {d : Desc} {u : State} (hbuf : 32 ≤ d.buf.length) (ha0 : d.a0 = 0) (ha2 : d.a2 = 1)
    (hpend : u.store.pend = []) (hroom : (u.setPend []).fileBar (fileName d.buf) (d.buf.drop 32).length = none) :
    pieceRes d u = okRes (((u.setPend []).eraseAll []).putFile (fileName d.buf) (d.buf.drop 32))
      (le 4 (d.buf.drop 32).length) := by
  simp only [pieceRes, Nat.not_lt.mpr hbuf, hpend, ha0, ha2, List.filter_nil, List.find?_nil, Option.map_none,
    Option.getD_none, List.nil_append, hroom]
  rfl

/-- FILE_READ of a file without a bad codeword (R815, R848). -/
theorem fileReadRes_of_sound {d : Desc} {u : State} {f : FileRec} (hbuf : d.buf.length = 32) (hfile : u.file d.buf = some f)
    (hsound : f.corrupt = []) :
    fileReadRes d u = okRes (u.readPages f.blocks d.a0 ((f.data.drop d.a0).take d.rlen).length)
      (le 4 ((f.data.drop d.a0).take d.rlen).length) ((f.data.drop d.a0).take d.rlen) := by
  have hgood (o n : Nat) : f.needsBad o n = false := by simp [FileRec.needsBad, hsound]
  simp [fileReadRes, hbuf, hfile, hgood]

theorem fileDeleteRes_of_ready {d : Desc} {u : State} {f : FileRec} (hbuf : d.buf.length = 32) (hready : u.medium = 1)
    (hfile : u.file d.buf = some f) :
    fileDeleteRes d u =
      okRes ((((u.setFiles (otherFiles u.store.files d.buf)).eraseAll f.blocks).journal).showStore) := by
  simp [fileDeleteRes, hbuf, hready, hfile, State.fileBlocks]

/-- Settles O34: each row by the lemma about its function. -/
theorem fileRowsTakeEffect : Obligations.FileRowsTakeEffect := by
  refine ⟨?format, ?write, ?stage, ?read, ?delete, ?list, fun _ _ => rfl⟩
  case format =>
    rintro d good mib bad s u hjrn hadm rfl hmedium hruns hinst
    exact congrArg Host.Outcome.next
      (storeCmd_ok hjrn hadm (storeFormatRes_of_quiet hmedium hruns hinst) (Nat.zero_le _))
  case write =>
    rintro d s u r hjrn hadm rfl hbuf ha0 ha2 hpend hroom rfl
    exact congrArg Host.Outcome.next (storeCmd_ok hjrn hadm (pieceRes_first hbuf ha0 ha2 hpend hroom) (Nat.zero_le _))
  case stage =>
    rintro d s u hjrn hadm rfl hbuf ha0 ha2 hpend hroom
    exact congrArg Host.Outcome.next (storeCmd_ok hjrn hadm (pieceRes_whole hbuf ha0 ha2 hpend hroom) (Nat.zero_le _))
  case read =>
    rintro d s u f b hjrn hadm rfl hbuf hfile hsound rfl
    exact congrArg Host.Outcome.next
      (storeCmd_ok hjrn hadm (fileReadRes_of_sound hbuf hfile hsound) (List.length_take_le _ _))
  case delete =>
    rintro d s u f hjrn hadm rfl hbuf hready hfile
    exact congrArg Host.Outcome.next (storeCmd_ok hjrn hadm (fileDeleteRes_of_ready hbuf hready hfile) (Nat.zero_le _))
  case list =>
    rintro d s u hjrn hadm rfl hnone
    have hres : fileListRes d (s.opened 0x8C d) = okRes (s.opened 0x8C d) (le 4 0) [] := by simp [fileListRes, hnone]
    exact congrArg Host.Outcome.next (storeCmd_ok hjrn hadm hres (Nat.zero_le _))

/-! ### The log's commands and the firmware (R842 to R848, R854, R855) -/

/-- An entry of the silt log takes 32 bytes (R850). -/
theorem length_bytes (e : SiltEntry) : e.bytes.length = 32 := by
  simp [SiltEntry.bytes, length_leBytes, length_padTo]

theorem length_flatten_bytes (es : List SiltEntry) : (es.map SiltEntry.bytes).flatten.length = es.length * 32 := by
  induction es with
  | nil => rfl
  | cons e es ih => simp [length_bytes, ih]; omega

theorem logExportRes_of_response {d : Desc} {u : State} (ha2 : d.a2 = 0) (hcrypto : u.rd Reg.SEC.STATUS.CRYPTO ≠ 2)
    {es : List SiltEntry} {n : Nat} (hes : es = if d.a1 = 0 then u.siltFrom d.a0 else (u.siltFrom d.a0).take d.a1)
    (hn : n = (es.head?.map (fun e => e.seq)).getD d.a0) :
    logExportRes d u = okRes (u.siltWrite 0x070A (le 4 n ++ le 4 es.length)) (le 4 es.length) (u.siltExport es n) := by
  subst hn
  simp [logExportRes, ha2, hcrypto, ← hes]

/-- FW_INSTALL of a sound image into the slot that was not booted (R844). -/
theorem fwInstallRes_of_sound {d : Desc} {u : State} {f : FileRec} (hbuf : d.buf.length = 32)
    (hinst : u.store.install = none) (hfile : u.file d.buf = some f) (hcrypto : u.rd Reg.SEC.STATUS.CRYPTO ≠ 2)
    (hsound : f.corrupt = []) (hsize : f.data.length ≤ 33550336) (himage : u.imageCheck f.data = none) {i : Nat} {v : State}
    (hi : i = 1 - u.rd Reg.STORE.BOOT.BOOTED) (hv : v = u.setBootSlot i {}) :
    fwInstallRes d u = longRes ((({ v.fresh.2 with store := { v.fresh.2.store with install := some (i, f.data) } } : State).put
      Reg.STORE.BOOT.INSTALL true).wr Reg.STORE.BOOT.PROGRESS (min v.fresh.1 100)) := by
  simp [fwInstallRes, hbuf, hinst, hfile, hcrypto, hsound, Nat.not_lt.mpr hsize, himage, hv, hi]

theorem doFwDone_of_verified {i : Nat} {image : List Byte} {s u : State} (hinst : s.store.install = some (i, image))
    (hu : u = (({ s with store := { s.store with install := none } } : State).put Reg.STORE.BOOT.INSTALL false).wr
      Reg.STORE.BOOT.PROGRESS 0) :
    doFwDone true s = ((u.setBootSlot i { image := image, record := installRecord s.nextSeq image }).siltWrite 0x0707
      (le 1 i ++ le 4 s.nextSeq)).finishOp 0x99 stOk (le 4 s.nextSeq) := by
  simp [doFwDone, hinst, hu]

/-- Settles O35: each row by the lemma about its function. -/
theorem firmwareAndLogRowsTakeEffect : Obligations.FirmwareAndLogRowsTakeEffect := by
  refine ⟨?read, ?exports, ?install, ?done, ?status⟩
  case read =>
    rintro d s u es hadm rfl rfl
    refine congrArg Host.Outcome.next (hostCmd_ok (eff := logReadRes d) hadm rfl ?_)
    rw [length_flatten_bytes]
    have := List.length_take_le (d.rlen / 32) ((s.opened 0x90 d).siltFrom d.a0)
    omega
  case exports =>
    rintro d s u es n hjrn hadm rfl ha2 hcrypto hes hn hroom
    exact congrArg Host.Outcome.next (storeCmd_ok hjrn hadm (logExportRes_of_response ha2 hcrypto hes hn) hroom)
  case install =>
    rintro d s u v w f i r hjrn hadm rfl hbuf hinst hfile hcrypto hsound hsize himage hi hv hw
    cases hw
    exact congrArg Host.Outcome.next ((storeCmd_eq hjrn ..).trans
      (hostCmd_long hadm (fwInstallRes_of_sound hbuf hinst hfile hcrypto hsound hsize himage hi hv)))
  case done => exact fun i image s u hinst hu => congrArg Host.Outcome.next (doFwDone_of_verified hinst hu)
  case status =>
    rintro d s u hadm rfl hroom
    refine congrArg Host.Outcome.next (hostCmd_ok (eff := fwStatusRes d) hadm rfl ?_)
    simpa [length_padTo] using hroom

/-! ### The medium (R814 to R827) -/

/-- A grown bad block that held nothing is taken out of use (R818). -/
theorem doProgramFail_of_unused {ch ce b : Nat} {s u : State} (hgood : b ∉ s.store.bad) (hunused : (s.blk b).used = false)
    (hu : u = { s with store := { s.store with
      bad := s.store.bad ++ [b], blocks := mapErase s.store.blocks b, spare := s.store.spare - 1
      grown := s.store.grown + 1 } }) :
    doProgramFail ch ce b s = ((((u.wrSat Reg.STORE.BLK.GROWN (s.store.grown + 1)).siltWrite 0x0703
      (le 1 ch ++ le 1 ce ++ le 4 b)).journal).showSpare).showWear := by
  subst hu
  unfold doProgramFail
  simp only [List.contains_eq_mem, hgood, hunused, decide_false, if_false, Bool.false_eq_true]
  split <;> rfl

/-- One that held data gives it to a free block (R818). -/
theorem doProgramFail_of_used {ch ce b f : Nat} {s u : State} (hgood : b ∉ s.store.bad) (hused : (s.blk b).used = true)
    (hu : u = { s with store := { s.store with
      bad := s.store.bad ++ [b], blocks := mapErase s.store.blocks b, spare := s.store.spare - 1
      grown := s.store.grown + 1 } }) (hfree : u.freeBlk false = some f) :
    doProgramFail ch ce b s = (((((u.useBlk f).rehome b f).wrSat Reg.STORE.BLK.GROWN ((u.useBlk f).rehome b f).store.grown).siltWrite
      0x0703 (le 1 ch ++ le 1 ce ++ le 4 b)).journal).showSpare.showWear := by
  subst hu
  unfold doProgramFail
  simp only [List.contains_eq_mem, hgood, hused, decide_false, if_false, Bool.false_eq_true, hfree, if_true]

/-- Of two blocks in use whose erase counts differ by more than WDIFF the first, less erased, is moved (R821). -/
theorem wearDue_pair {a b : Nat} {x y : NandBlk} {s : State} (hblocks : s.store.blocks = [(a, x), (b, y)])
    (hx : x.used = true) (hy : y.used = true) (hle : x.erases ≤ y.erases)
    (hdiff : s.rd Reg.STORE.NCFG.WDIFF < y.erases - x.erases) : s.wearDue = some a := by
  simp [State.wearDue, hblocks, hx, hy, Nat.min_eq_left hle, Nat.max_eq_right hle, hdiff]

/-- A due scrub that the soft stage decodes counts its reads and marks the block (R816, R823). -/
theorem doNandScrub_soft {b c : Nat} {s : State} (hdue : s.scrubDue (s.blk b) = true) (hserves : s.nandServes .scrub = true) :
    doNandScrub b c 2 s = (s.setBlk b { s.blk b with
      reads := (s.blk b).reads + s.blockBytes / 16384, refresh := true, seen := s.run }).count Reg.STORE.ECCCNT.SOFT := by
  simp [doNandScrub, hdue, hserves]

/-- The mount of a formatted medium without a cut take (R827). -/
theorem doMount_of_formatted {n wr rd r : Nat} {s : State} (hjrn : s.on Reg.STORE.STAT.JRN = true) (hn : n ≠ 0)
    (hfmt : s.store.formatted = true) (hcut : s.store.cut = none) :
    doMount n wr rd r s = ((((((((((s.put Reg.STORE.STAT.JRN false).wr Reg.STORE.STAT.STATE 1).wrSat Reg.STORE.STAT.TARGETS
      (min n 16)).wrSat Reg.STORE.PERF.WR wr).wrSat Reg.STORE.PERF.RD rd).siltWrite 0x0701
      (le 4 s.store.journal ++ le 1 r)).wrSat Reg.STORE.CAP.MIB s.store.mib).wrSat Reg.STORE.BLK.GROWN
      s.store.grown).showSpare).showWear).showStore := by
  unfold doMount
  simp only [hjrn, hn, hfmt, Bool.not_true, Bool.false_eq_true, if_false]
  split
  · rfl
  · next c hc => cases hcut.symm.trans hc

/-- Settles O36: each row by the lemma about its function. -/
theorem mediumRowsTakeEffect : Obligations.MediumRowsTakeEffect := by
  refine ⟨?file, ?take, ?unused, ?used, ?refresh, ?wear, ?scrub, fun _ => rfl, ?mount⟩
  case file =>
    rintro ch ce b p k n s u rfl
    rfl
  case take =>
    rintro ch ce b p num first count ps s u rfl
    rfl
  case unused =>
    exact fun ch ce b s u hgood hunused hu => congrArg Host.Outcome.next (doProgramFail_of_unused hgood hunused hu)
  case used =>
    rintro ch ce b f s u v hgood hused hu hfree rfl
    exact congrArg Host.Outcome.next (doProgramFail_of_used hgood hused hu hfree)
  case refresh =>
    exact fun b s hdue hserves => congrArg Host.Outcome.next (if_pos (by rw [hdue, hserves]; rfl))
  case wear =>
    intro a b x y s hblocks hx hy hle hdiff hserves
    have hmove : doWearMove s = s.moveBlk a true := by
      simp [doWearMove, wearDue_pair hblocks hx hy hle hdiff, hserves]
    exact congrArg Host.Outcome.next hmove
  case scrub => exact fun b c s hdue hserves => congrArg Host.Outcome.next (doNandScrub_soft hdue hserves)
  case mount => exact fun n wr rd r s hjrn hn hfmt hcut => congrArg Host.Outcome.next (doMount_of_formatted hjrn hn hfmt hcut)

end Sys2Proof.Machine
end

section
/-! The rows of the security functions: keys, counters, tokens, scene files, tamper and debug. -/
namespace Sys2Proof.Machine

/-! ### Keys, anti-rollback and tokens (R865 to R877) -/

/-- A class 1 or 2 key comes in the clear (R872, R873). -/
theorem keyImportRes_clear {d : Desc} {u : State} (hcls : d.a0 = 1 ∨ d.a0 = 2) (hslot : keySlotOk d.a0 d.a1 = true)
    (hpos : d.a2 = 0) (hid : d.a3 < 256) (hcrypto : u.cryptoDown = false) (hbar : u.tamperBar = false)
    (hfirst : d.a0 = 2 ∨ d.session ≠ 0 ∨ u.keyAt 1 0 0 = none) (hlen : d.buf.length = 97) :
    keyImportRes d u = okRes (u.putKey { cls := d.a0, slot := d.a1, pos := 0, id := d.a3, key := d.buf }) := by
  have hdenied : (d.a0 = 1 && d.session = 0 && (u.keyAt 1 0 0).isSome) = false := by
    rcases hfirst with h | h | h <;> simp [h]
  unfold keyImportRes
  simp only [hdenied, hslot, hpos, hcrypto, hbar, hlen]
  rcases hcls with h | h <;> simp [h, Nat.not_le.mpr hid, keyLen]

/-- A class 3 or 4 key comes wrapped under the session's key (R872). -/
theorem keyImportRes_wrapped {d : Desc} {u : State} {x : Running} {key : List Byte} (hcls : d.a0 = 3 ∨ d.a0 = 4)
    (hslot : keySlotOk d.a0 d.a1 = true) (hpos : d.a2 < 2) (hid : d.a3 < 256) (hcrypto : u.cryptoDown = false)
    (hbar : u.tamperBar = false) (hsession : d.session ≠ 0) (hrun : (u.ring d.ring).run = some x)
    (hopen : Config.gcmOpen x.key d.ring d.seq d.buf = some key) (hlen : key.length = 32) :
    keyImportRes d u = okRes (u.putKey { cls := d.a0, slot := d.a1, pos := d.a2, id := d.a3, key := key }) := by
  unfold keyImportRes
  simp only [hslot, hcrypto, hbar, hsession, hrun, hopen, hlen]
  rcases hcls with h | h <;> simp [h, Nat.not_le.mpr hpos, Nat.not_le.mpr hid, keyLen]

theorem keyDeleteRes_of_stored {d : Desc} {u : State} {k : KeyRec} (hlo : 1 ≤ d.a0) (hhi : d.a0 ≤ 5)
    (hslot : keySlotOk d.a0 d.a1 = true) (hpos : d.a2 < 2) (hkey : u.keyAt d.a0 d.a1 d.a2 = some k)
    (hidle : u.keyBusy k = false) :
    keyDeleteRes d u = okRes (({ u with sec := { u.sec with keys := u.sec.keys.filter (fun x => x != k) } } : State).siltWrite
      0x0803 (le 1 k.cls ++ le 1 k.slot ++ le 1 k.id)) := by
  simp [keyDeleteRes, Nat.ne_of_gt hlo, Nat.not_lt.mpr hhi, hslot, Nat.not_le.mpr hpos, hkey, hidle]

theorem keyGenRes_of_free {d : Desc} {u : State} (ha1 : d.a1 < 16) (hcrypto : u.cryptoDown = false)
    (hbar : u.tamperBar = false) :
    keyGenRes d u = okRes (u.fresh.2.putKey { cls := 5, slot := d.a1, pos := 0, id := 0, key := padTo 64 (Config.drbgKey d.a1 u.fresh.1) })
      (le 4 (keyCheck (padTo 64 (Config.drbgKey d.a1 u.fresh.1)) 0)) := by
  simp [keyGenRes, Nat.not_le.mpr ha1, hcrypto, hbar]

theorem keyActivateRes_of_stored {d : Desc} {u : State} {k : KeyRec} (ha1 : d.a1 < 64) (hkey : u.keyById 4 d.a1 d.a3 = some k) :
    keyActivateRes d u = okRes { u with sec := { u.sec with active := mapSet u.sec.active d.a1 d.a3 } } := by
  simp [keyActivateRes, Nat.not_le.mpr ha1, hkey]

theorem svnCommitRes_of_above {d : Desc} {u : State} {f : Fld} {top : Nat} (ha0 : d.a0 < 3) (hsvn : u.svnOf d.a0 = (f, top))
    (habove : u.rd f < d.a1) (htop : d.a1 ≤ top) :
    svnCommitRes d u = okRes (((u.wr f d.a1).siltWrite 0x0802 (le 1 d.a0 ++ le 4 (u.rd f) ++ le 4 d.a1)).showEval u) := by
  simp [svnCommitRes, Nat.not_le.mpr ha0, hsvn, Nat.not_lt.mpr (Nat.le_of_lt habove), Nat.not_lt.mpr htop, Nat.ne_of_gt habove]

/-- Settles O38: each row by the lemma about its function. -/
theorem keyRowsTakeEffect : Obligations.KeyRowsTakeEffect := by
  refine ⟨?clear, ?wrapped, ?delete, ?gen, ?activate, ?list, ?svn, ?token⟩
  case clear =>
    rintro d s u hadm rfl h1 h2 h3 h4 h5 h6 h7 h8
    exact congrArg Host.Outcome.next (hostCmd_ok hadm (keyImportRes_clear h1 h2 h3 h4 h5 h6 h7 h8) (Nat.zero_le _))
  case wrapped =>
    rintro d key x s u hadm rfl h1 h2 h3 h4 h5 h6 h7 h8 h9 h10
    exact congrArg Host.Outcome.next
      (hostCmd_ok hadm (keyImportRes_wrapped h1 h2 h3 h4 h5 h6 h7 h8 h9 h10) (Nat.zero_le _))
  case delete =>
    rintro d s u k hadm rfl h1 h2 h3 h4 h5 h6
    exact congrArg Host.Outcome.next (hostCmd_ok hadm (keyDeleteRes_of_stored h1 h2 h3 h4 h5 h6) (Nat.zero_le _))
  case gen =>
    rintro d key s u hadm rfl ha1 hcrypto hbar rfl
    exact congrArg Host.Outcome.next (hostCmd_ok hadm (keyGenRes_of_free ha1 hcrypto hbar) (Nat.zero_le _))
  case activate =>
    rintro d s u k hadm rfl ha1 hkey
    exact congrArg Host.Outcome.next (hostCmd_ok hadm (keyActivateRes_of_stored ha1 hkey) (Nat.zero_le _))
  case list =>
    rintro d l s u hadm rfl rfl hroom
    exact congrArg Host.Outcome.next (hostCmd_ok (eff := keyListRes d) hadm rfl hroom)
  case svn =>
    rintro d f top s u hadm rfl ha0 hsvn habove htop
    exact congrArg Host.Outcome.next (hostCmd_ok hadm (svnCommitRes_of_above ha0 hsvn habove htop) (Nat.zero_le _))
  case token =>
    rintro d s u hadm rfl habove
    exact congrArg Host.Outcome.next
      (hostCmd_ok (eff := tokenGenRes d) hadm (if_neg (Nat.not_le.mpr habove)) (Nat.zero_le _))

/-! ### Scene files, tamper and debug (R868, R879 to R889) -/

/-- SCENE_IMPORT of a sound file whose record was made under the loaded plan recalls the record's items (R880). -/
theorem sceneImportRes_of_sound {d : Desc} {f : FileRec} {r : List Byte} {items : Tbl Nat} {u : State}
    (hbuf : d.buf.length = 32) (hcrypto : u.cryptoDown = false) (hfile : u.file d.buf = some f) (hsound : f.corrupt = [])
    (hhead : sceneHeadOk f.data = true) (hsig : u.sceneSigOk f.data = true)
    (hsn : rdLe f.data 12 8 = 0 ∨ rdLe f.data 12 8 = u.devSn) (hindex : d.a1 < rdLe f.data 10 2) (hnames : u.names d = 1)
    (hrec : (splitRecs 256 ((f.data.drop 64).take (rdLe f.data 28 4)))[d.a1]? = some r) (hplan : rdLe r 4 4 = u.planCrc)
    (hcrc : rdLe r (recLen (rdLe r 8 4) - 4) 4 = (crc32c (r.take (recLen (rdLe r 8 4) - 4))).toNat)
    (hitems : recItems r = some items) : sceneImportRes d u = recallItems u items := by
  have hdenied : (rdLe f.data 12 8 ≠ 0 && rdLe f.data 12 8 ≠ u.devSn || rdLe f.data 10 2 ≤ d.a1) = false := by
    rcases hsn with h | h <;> simp [h, hindex]
  unfold sceneImportRes
  simp only [hfile, hrec, hitems, hdenied]
  simp [hbuf, hcrypto, hsound, hhead, hsig, hnames, hplan, hcrc]

theorem sceneExportRes_of_stored {d : Desc} {r : SceneRec} {u : State} (hbuf : d.buf.length = 32)
    (hcrypto : u.cryptoDown = false) (ha0 : d.a0 = 0) (ha1 : d.a1 < 256) (hscene : mapGet u.txn.scenes d.a1 = some r)
    (hroom : u.fileBar d.buf (sceneFile r).length = none) :
    sceneExportRes d u = okRes (u.putFile d.buf (sceneFile r)) (le 4 (sceneFile r).length) := by
  simp [sceneExportRes, hbuf, hcrypto, ha0, ha1, hscene, hroom]

/-- TAMPER_CLEAR while no enabled input stands at its active level (R886). -/
theorem tamperClearRes_of_quiet {d : Desc} {levels : Nat} {u : State}
    (hquiet : ∀ i, i < 4 → u.on (tampFld i 0 1) = true → (if levels.testBit i then 1 else 0) ≠ u.rd (tampFld i 1 1)) :
    tamperClearRes levels d u = okRes ((u.wr Reg.BKUP.TAMPSTAT.LEVEL (levels % 16)).wr Reg.BKUP.TAMPSTAT.LATCH 0) := by
  have hnone : ((List.range 4).any fun i =>
      u.on (tampFld i 0 1) && (if levels.testBit i then 1 else 0) == u.rd (tampFld i 1 1)) = false := by
    rw [List.any_eq_false]
    intro i hi hactive
    rw [Bool.and_eq_true, beq_iff_eq] at hactive
    exact hquiet i (List.mem_range.mp hi) hactive.1 hactive.2
  exact if_neg (Bool.eq_false_iff.mp hnone)

theorem debugUnlockRes_of_signed {d : Desc} {c : List Byte} {u v : State} (hbuf : d.buf.length = 96)
    (hplan : u.on Reg.TICK.CFG.PLAN = false) (hcrypto : u.cryptoDown = false) (hchal : u.sec.challenge = some c)
    (hsig : Config.ecdsaVerify Config.debugKey (Config.sha384 c) d.buf = true)
    (hv : v = ((u.eraseKeys 2).eraseScenes).siltWrite 0x0806 ((c.drop 8).take 8)) :
    debugUnlockRes d u = okRes ((({ v with sec := { v.sec with challenge := none } } : State).put Reg.SEC.STATUS.DEBUG
      true).showEval u) := by
  subst hv
  unfold debugUnlockRes
  rw [if_neg (not_not_intro hbuf), if_neg (by simp [hplan, hcrypto]), hchal]
  exact if_neg (by simp [hsig])

/-- The latch and the level that a trip of an input shows (R885). -/
def State.latchTamper (s : State) (i : Nat) : State :=
  (s.wr Reg.BKUP.TAMPSTAT.LATCH (s.rd Reg.BKUP.TAMPSTAT.LATCH ||| 2 ^ i)).wr ⟨Reg.BKUP.TAMPSTAT.LEVEL.off, 4 + i, 1⟩
    (s.rd (tampFld i 1 1))

/-- A trip on VDDIO_18 (R885). -/
theorem doTamper_of_supplied {i : Nat} {s : State} (hi : i < 4) (hon : s.on (tampFld i 0 1) = true)
    (hvbat : s.on Reg.BKUP.STATUS.ONVBAT = false) :
    doTamper i s = ((if s.rd (tampFld i 2 1) = 1 then ((s.latchTamper i).eraseKeys 1).endSessions (fun _ => true)
      else s.latchTamper i).count Reg.SEC.CNT.TAMPER).siltWrite 0x0804 (le 1 i ++ le 1 (s.rd (tampFld i 2 1))) := by
  simp only [doTamper, hon, hvbat, Nat.not_le.mpr hi]
  by_cases hact : s.rd (tampFld i 2 1) = 1 <;> simp [hact, State.latchTamper]

/-- A trip on VBAT alone waits for the boot (R885). -/
theorem doTamper_of_vbat {i : Nat} {s u v : State} (hi : i < 4) (hon : s.on (tampFld i 0 1) = true)
    (hvbat : s.on Reg.BKUP.STATUS.ONVBAT = true) (hu : u = s.latchTamper i)
    (hv : v = (if s.rd (tampFld i 2 1) = 1 then u.eraseKeys 1 else u)) :
    doTamper i s = { v with sec := { v.sec with trips := v.sec.trips ++ [(i, s.rd (tampFld i 2 1))] } } := by
  subst hv hu
  simp [doTamper, hon, hvbat, Nat.not_le.mpr hi, State.latchTamper]

/-- Settles O39: each row by the lemma about its function. -/
theorem sceneFileAndTamperRowsTakeEffect : Obligations.SceneFileAndTamperRowsTakeEffect := by
  refine ⟨?imports, ?exports, ?cert, ?clear, ?zeroise, ?challenge, ?unlock, ?erases, ?logs, ?vbat⟩
  case imports =>
    rintro d f r items all s u hjrn hadm rfl h1 h2 h3 h4 h5 h6 h7 h8 h9 h10 h11 h12 h13 hparts rfl hfull hfit
    exact congrArg Host.Outcome.next (storeCmd_ok hjrn hadm
      ((sceneImportRes_of_sound h1 h2 h3 h4 h5 h6 h7 h8 h9 h10 h11 h12 h13).trans (recallItems_of_fit hparts hfull hfit))
      (Nat.zero_le _))
  case exports =>
    rintro d r s u hjrn hadm rfl h1 h2 h3 h4 h5 h6
    exact congrArg Host.Outcome.next (storeCmd_ok hjrn hadm (sceneExportRes_of_stored h1 h2 h3 h4 h5 h6) (Nat.zero_le _))
  case cert =>
    rintro d c s u hadm rfl rfl hroom
    exact congrArg Host.Outcome.next (hostCmd_ok (eff := devidCertRes d) hadm rfl hroom)
  case clear =>
    rintro d levels s u hadm rfl hquiet
    exact congrArg Host.Outcome.next (hostCmd_ok hadm (tamperClearRes_of_quiet hquiet) (Nat.zero_le _))
  case zeroise =>
    rintro d s u hadm rfl
    exact congrArg Host.Outcome.next (hostCmd_ok (eff := zeroiseRes d) hadm rfl (Nat.zero_le _))
  case challenge =>
    rintro d c s u hadm rfl hcrypto hroom rfl
    exact congrArg Host.Outcome.next (hostCmd_ok (eff := debugChallengeRes d) hadm
      (if_neg (Bool.eq_false_iff.mp hcrypto)) (by simpa [length_leBytes] using hroom))
  case unlock =>
    rintro d c s u v hadm rfl h1 h2 h3 h4 h5 hv
    exact congrArg Host.Outcome.next (hostCmd_ok hadm (debugUnlockRes_of_signed h1 h2 h3 h4 h5 hv) (Nat.zero_le _))
  case erases =>
    rintro i s u hi hon hvbat hact rfl
    refine congrArg Host.Outcome.next ((doTamper_of_supplied hi hon hvbat).trans ?_)
    rw [hact]
    rfl
  case logs =>
    rintro i s u hi hon hvbat hact rfl
    refine congrArg Host.Outcome.next ((doTamper_of_supplied hi hon hvbat).trans ?_)
    rw [hact]
    rfl
  case vbat => exact fun i s u v hi hon hvbat hu hv => congrArg Host.Outcome.next (doTamper_of_vbat hi hon hvbat hu hv)

end Sys2Proof.Machine
end

section
/-! The rows of power, resets and the backup domain. -/
namespace Sys2Proof.Machine

theorem State.showEval_pwr (s old : State) : (s.showEval old).pwr = s.pwr := by
  unfold State.showEval
  dsimp only
  split
  · rfl
  · rfl

/-- The fields of `SYS.SWRST`, both write-only (R905). -/
def softResetFields : List RField := [⟨0, 1, .wo, 0⟩, ⟨8, 8, .wo, 0⟩]

theorem regFields_softReset : regFields 0x34 = some softResetFields := by rfl

/-- A write of `SYS.SWRST` stores nothing and sets off only the reset (R905). -/
theorem State.writeMapped_softReset (s : State) (q : Requester) (v : Word) :
    s.writeMapped q 0x34 softResetFields v = ((s.setWord 0x34 (s.word 0x34)).hookSys q 0x34 v).showEval s := by
  rfl

/-- A write of a register that acts is in its row the register's write. -/
theorem exec_softReset_of_writes {q : Requester} {v : Word} {fs : List RField} {s : State} (h : s.Writes q 0x34 fs) :
    exec (.softReset q v) s = .next (((s.setWord 0x34 (s.word 0x34)).hookSys q 0x34 v).showEval s) := by
  obtain rfl : softResetFields = fs := Option.some.inj (regFields_softReset.symm.trans h.mapped)
  exact congrArg Host.Outcome.next ((State.writeReg_of_writes h v).trans (s.writeMapped_softReset q v))

/-- A boot whose ROM passes its test and finds a slot runs the steward from it (R859 to R861). -/
theorem State.boot_of_slot {s u : State} {had : Bool} {b : BootEnv} {i : Nat} {rejected : List (Nat × Nat × Nat)}
    (hrom : b.romOk = true) (hu : u = (s.put Reg.SEC.STATUS.KEK had).showVbat b.vbat)
    (htry : u.tryBoot u.bootOrder = (some i, rejected)) :
    s.boot had b = ((u.count Reg.SEC.CNT.SIGFAIL rejected.length).wr Reg.SEC.STATUS.REASON
      (if rejected.isEmpty then 0 else ((rejected.getLast?).map fun e => e.2.2).getD 6)).stewardUp i rejected had b := by
  unfold State.boot
  simp only [← hu, hrom, htry]
  rfl

/-- With no slot that passes the part halts (R861). -/
theorem State.boot_of_none {s u : State} {had : Bool} {b : BootEnv} {rejected : List (Nat × Nat × Nat)}
    (hrom : b.romOk = true) (hu : u = (s.put Reg.SEC.STATUS.KEK had).showVbat b.vbat)
    (htry : u.tryBoot u.bootOrder = (none, rejected)) :
    s.boot had b = (u.count Reg.SEC.CNT.SIGFAIL rejected.length).halt (((rejected.getLast?).map fun e => e.2.2).getD 6) := by
  unfold State.boot
  simp only [← hu, hrom, htry]
  rfl

/-- An IOD reset whose cause is not a software write happens at once (R903). -/
theorem doIodRow_of_cause {c : ResetCause} {b : BootEnv} {s : State} (hc : c ≠ .soft) (hlive : s.pwr.tripped = false) :
    doIodRow c b s = doIodReset c b s := by
  unfold doIodRow
  rw [if_neg (Bool.eq_false_iff.mp hlive)]
  cases c with
  | soft => exact absurd rfl hc
  | pin | watchdog | lockstep => rfl

theorem doIodRow_soft {b : BootEnv} {s : State} {t : Nat} (hlive : s.pwr.tripped = false) (hdue : s.pwr.softAt = some t) :
    doIodRow .soft b s = doIodReset .soft b (s.reach (s.ns + (t - s.run))) := by
  unfold doIodRow
  rw [if_neg (Bool.eq_false_iff.mp hlive)]
  simp only [hdue]

/-- Settles O45: the resets are a reset state and a boot, by the lemmas above; the other rows are their functions. -/
theorem powerAndResetRowsTakeEffect : Obligations.PowerAndResetRowsTakeEffect := by
  refine ⟨?slot, ?halts, ?cause, ?soft, ?watchdog, ?lockstep, ?supply, ?backup, ?vbat, ?sched, ?other⟩
  case slot =>
    exact fun b i rejected s u hrom hu htry => congrArg Host.Outcome.next (State.boot_of_slot hrom hu htry)
  case halts =>
    exact fun b rejected s u hrom hu htry => congrArg Host.Outcome.next (State.boot_of_none hrom hu htry)
  case cause =>
    rintro c b s u hc hlive rfl
    exact congrArg Host.Outcome.next (doIodRow_of_cause hc hlive)
  case soft =>
    rintro t b s v u hlive hdue rfl rfl
    exact congrArg Host.Outcome.next (doIodRow_soft hlive hdue)
  case watchdog =>
    rintro b s u hlive rfl
    exact congrArg Host.Outcome.next (doIodRow_of_cause (by decide) hlive)
  case lockstep =>
    rintro b s v u rfl hlive rfl
    exact congrArg Host.Outcome.next (doIodRow_of_cause (by decide) hlive)
  case supply =>
    intro n s hlo hhi
    have hrail : ¬ (n = 0 || 4 < n) = true := by simp; omega
    exact congrArg Host.Outcome.next (if_neg hrail)
  case backup =>
    rintro s u rfl
    rfl
  case vbat => exact fun s => ⟨exec_vbatSwitchover_of_off, fun hon => congrArg Host.Outcome.next (if_pos hon)⟩
  case sched =>
    intro q v fs s hw hgo hkey hnone
    refine ⟨_, exec_softReset_of_writes hw, ?_⟩
    rw [State.showEval_pwr, State.hookSys, if_pos (by simp [hgo, hkey])]
    change some (s.pwr.softAt.getD (s.run + 10000)) = _
    rw [hnone]
    rfl
  case other =>
    intro q v fs s hw hkey
    refine ⟨_, exec_softReset_of_writes hw, ?_⟩
    rw [State.showEval_pwr, State.hookSys, if_neg (by simp [hkey]), if_neg (by simp)]
    rfl

end Sys2Proof.Machine
end

section
/-! The rows of the tick. -/
namespace Sys2Proof.Machine

/-! ### What the lanes' work and the input block leave of the main pass -/

/-- Two states hold the same time, and the same frame in the main pass with the same marks, records and passes. -/
structure State.SameMain (s t : State) : Prop where
  time : t.time = s.time
  frame : t.eng.frame = s.eng.frame
  finished : t.eng.finished = s.eng.finished
  eddyClosed : t.eng.eddyClosed = s.eng.eddyClosed
  overrun : t.eng.overrun = s.eng.overrun
  pfMiss : t.eng.pfMiss = s.eng.pfMiss
  passes : t.eng.passes = s.eng.passes

section
variable {s σ : State}

theorem State.SameMain.refl (s : State) : s.SameMain s := ⟨rfl, rfl, rfl, rfl, rfl, rfl, rfl⟩

theorem State.SameMain.of_parts {t : State} (h : σ.SameMain s) (htime : t.time = s.time) (heng : t.eng = s.eng) :
    σ.SameMain t :=
  ⟨htime.trans h.time, heng ▸ h.frame, heng ▸ h.finished, heng ▸ h.eddyClosed, heng ▸ h.overrun, heng ▸ h.pfMiss,
    heng ▸ h.passes⟩

theorem State.SameMain.foldl {α : Type} {l : List α} {f : State → α → State} (h : σ.SameMain s)
    (hf : ∀ a x, σ.SameMain a → σ.SameMain (f a x)) : σ.SameMain (l.foldl f s) := by
  induction l generalizing s with
  | nil => exact h
  | cons x l ih => exact ih (hf s x h)

theorem State.SameMain.ite {c : Prop} [Decidable c] {t : State} (hs : σ.SameMain s) (ht : σ.SameMain t) :
    σ.SameMain (if c then s else t) := by
  split
  · exact hs
  · exact ht

theorem State.SameMain.setLaneP {p : Nat} {x : LaneP} (h : σ.SameMain s) : σ.SameMain (s.setLaneP p x) :=
  h.of_parts rfl rfl

theorem State.SameMain.setLogl {k : Nat} {x : LogL} (h : σ.SameMain s) : σ.SameMain (s.setLogl k x) := h.of_parts rfl rfl

theorem State.SameMain.setDsp {d : Nat} {x : DspS} (h : σ.SameMain s) : σ.SameMain (s.setDsp d x) :=
  .ite (h.of_parts rfl rfl) (h.of_parts rfl rfl)

theorem State.SameMain.repairCode {c : Nat} (h : σ.SameMain s) : σ.SameMain (s.repairCode c) := .ite h (h.of_parts rfl rfl)

theorem State.SameMain.startPass {p kid start descs cyc : Nat} {xfers : List Xfer} (h : σ.SameMain s) :
    σ.SameMain (s.startPass p kid start descs cyc xfers) :=
  State.SameMain.setLaneP (h.repairCode.of_parts rfl rfl)

theorem State.SameMain.startSched {p kid cyc : Nat} {primed : List Nat} (h : σ.SameMain s) :
    σ.SameMain (s.startSched p kid cyc primed) := by
  unfold State.startSched
  refine State.SameMain.setLaneP ?_
  split
  · exact h.startPass
  · exact h.startPass

theorem State.SameMain.startMain {primed : List Nat} (h : σ.SameMain s) : σ.SameMain (s.startMain primed) :=
  h.foldl fun _ _ ha => .ite ha.startSched ha

theorem State.SameMain.loadImage {p kid : Nat} (h : σ.SameMain s) : σ.SameMain (s.loadImage p kid) := h.setLaneP

theorem State.SameMain.moveIn {p kid : Nat} (h : σ.SameMain s) : σ.SameMain (s.moveIn p kid) :=
  h.foldl fun _ _ ha => ha.setLaneP

theorem State.SameMain.reseatLanes (h : σ.SameMain s) : σ.SameMain s.reseatLanes := by
  unfold State.reseatLanes
  extract_lets keeps pos lanes s1
  have h1 : σ.SameMain s1 := h.of_parts rfl rfl
  exact h1.foldl fun _ _ ha => .ite ha.loadImage ha

theorem State.SameMain.entryMoves (h : σ.SameMain s) : σ.SameMain s.entryMoves := by
  unfold State.entryMoves
  refine h.foldl fun a k ha => .ite ha ?_
  split
  · exact ha.moveIn
  · exact ha

theorem State.SameMain.promoteLanes (h : σ.SameMain s) : σ.SameMain s.promoteLanes := by
  unfold State.promoteLanes
  refine h.foldl fun a e ha => ?_
  extract_lets
  split
  · exact ha.setLogl
  · exact .ite ha.setLogl ha.setLogl.setLaneP

theorem State.SameMain.sendInput {src : Nat} {ys : List Int} (h : σ.SameMain s) : σ.SameMain (s.sendInput src ys) := by
  unfold State.sendInput
  split
  · exact h
  · exact h.of_parts rfl rfl

theorem State.SameMain.deliver {f src : Nat} {st : Conceal} (h : σ.SameMain s) : σ.SameMain (s.deliver f src st) :=
  State.SameMain.sendInput ⟨h.time, h.frame, h.finished, h.eddyClosed, h.overrun, h.pfMiss, h.passes⟩

theorem State.SameMain.soak {f : Nat} {data : List (Nat × Heard)} (h : σ.SameMain s) : σ.SameMain (s.soak f data) :=
  h.foldl fun _ _ ha => ⟨ha.time, ha.frame, ha.finished, ha.eddyClosed, ha.overrun, ha.pfMiss, ha.passes⟩

theorem State.SameMain.applyLate {f : Nat} {data : List (Nat × Heard)} (h : σ.SameMain s) : σ.SameMain (s.applyLate f data) :=
  .ite h.soak (h.soak.foldl fun _ _ ha => ha.deliver)

theorem State.SameMain.flagDie {d : Nat} (h : σ.SameMain s) : σ.SameMain (s.flagDie d) := by
  unfold State.flagDie
  split
  all_goals exact ⟨h.time, h.frame, h.finished, h.eddyClosed, h.overrun, h.pfMiss, h.passes⟩

theorem State.SameMain.refuseReplay {q : FaultReq} (h : σ.SameMain s) : σ.SameMain (s.refuseReplay q) :=
  State.SameMain.flagDie ⟨h.time, h.frame, h.finished, h.eddyClosed, h.overrun, h.pfMiss, h.passes⟩

theorem State.SameMain.refuseLeft (h : σ.SameMain s) : σ.SameMain s.refuseLeft := by
  unfold State.refuseLeft
  exact State.SameMain.foldl ⟨h.time, h.frame, h.finished, h.eddyClosed, h.overrun, h.pfMiss, h.passes⟩
    fun _ _ ha => ha.refuseReplay

theorem State.SameMain.applyBare {q : EddyReq} (h : σ.SameMain s) : σ.SameMain (s.applyBare q) := by
  unfold State.applyBare
  refine .ite ?_ (.ite ?_ (State.SameMain.applyLate ?_))
  all_goals exact ⟨h.time, h.frame, h.finished, h.eddyClosed, h.overrun, h.pfMiss, h.passes⟩

theorem State.SameMain.presentHeld {f : Nat} (h : σ.SameMain s) : σ.SameMain (s.presentHeld f) :=
  h.foldl fun _ _ ha =>
    State.SameMain.applyBare ⟨ha.time, ha.frame, ha.finished, ha.eddyClosed, ha.overrun, ha.pfMiss, ha.passes⟩

end

/-! ### The eddy deadline and the intake cutoff (R24, R29, R249, R256) -/

theorem doEddyClose_of_closed {s : State} (h : s.eng.eddyClosed = true) : doEddyClose s = s := by
  unfold doEddyClose
  rw [if_neg (by simp [h])]

theorem doEddyClose_of_open {s : State} (hrun : s.inRun s.eng.frame = true) (hopen : s.eng.eddyClosed = false)
    (htick : s.tick = s.eng.frame + 1) : doEddyClose s = s.closeWindow :=
  if_pos (by simp [hrun, hopen, htick])

/-- A window that closed stays closed. -/
theorem doEddyClose_idem (s : State) : doEddyClose (doEddyClose s) = doEddyClose s := by
  by_cases h : (s.inRun s.eng.frame && !s.eng.eddyClosed && s.tick == s.eng.frame + 1) = true
  · have hclose : doEddyClose s = s.closeWindow := if_pos h
    rw [hclose]
    exact doEddyClose_of_closed rfl
  · have hsame : doEddyClose s = s := if_neg h
    rw [hsame, hsame]

theorem doCutoff_of_closed {s : State} (hrun : s.inRun s.tick = true) (hcut : s.eng.cutDone = false)
    (hclosed : s.eng.eddyClosed = true) :
    doCutoff s = (s.reach (s.tAt (s.tick + 1) - 2000)).buildBlock s.tick := by
  unfold doCutoff
  rw [doEddyClose_of_closed hclosed]
  exact if_pos (by simp [hrun, hcut])

/-! ### The finish line (R31, R322, R323) -/

/-- The staged blocks of both dies with their CRC. -/
def State.setStaged (s : State) (b0 b1 : List DestBlock) (c0 c1 : Word) : State :=
  { s with eng := { s.eng with staged := b0, stage1 := b1, crc0 := c0, crc1 := c1 } }

theorem State.SameMain.setStaged {s σ : State} {b0 b1 : List DestBlock} {c0 c1 : Word} (h : σ.SameMain s) :
    σ.SameMain (s.setStaged b0 b1 c0 c1) := ⟨h.time, h.frame, h.finished, h.eddyClosed, h.overrun, h.pfMiss, h.passes⟩

/-- A die's block CRC does not look at what is staged. -/
theorem State.blockCrc_setStaged (s : State) (b0 b1 : List DestBlock) (c0 c1 : Word) (d : Nat) (l : List DestBlock) :
    (s.setStaged b0 b1 c0 c1).blockCrc d l = s.blockCrc d l := rfl

/-- The blocks that the dies stage of frame f, each with its CRC formed over it (R322, R323). -/
def State.stageFrame (s : State) (e : FinishEnv) (f : Nat) : State :=
  if s.duplex then
    let b0 := (s.dieFrame 0 f).2.map (stageBlock 0 e)
    let b1 := (s.dieFrame 1 f).2.map (stageBlock 1 e)
    let s0 := if s.computes 0 f then s.setDsp 0 (s.dieFrame 0 f).1 else s
    let s1 := if s.computes 1 f then s0.setDsp 1 (s.dieFrame 1 f).1 else s0
    s1.setStaged b0 b1 (s1.blockCrc 0 b0) (s1.blockCrc 1 b1)
  else
    let b := (s.dieFrame 0 f).2.map (s.stageSpan e)
    let s0 := s.setDsp 0 (s.dieFrame 0 f).1
    s0.setStaged b [] (s0.blockCrc 0 b) 0

theorem State.SameMain.stageFrame {s σ : State} {e : FinishEnv} {f : Nat} (h : σ.SameMain s) :
    σ.SameMain (s.stageFrame e f) :=
  .ite (State.SameMain.setStaged (.ite (.setDsp (.ite h.setDsp h)) (.ite h.setDsp h))) h.setDsp.setStaged

theorem State.duplex_setDsp (s : State) (d : Nat) (x : DspS) : (s.setDsp d x).duplex = s.duplex := by
  unfold State.setDsp
  split <;> rfl

/-- In every staged block's CRC the block itself stands. -/
theorem State.stageFrame_crc (s : State) (e : FinishEnv) (f : Nat) :
    (s.stageFrame e f).eng.crc0 = (s.stageFrame e f).blockCrc 0 (s.stageFrame e f).eng.staged ∧
      ((s.stageFrame e f).duplex = true →
        (s.stageFrame e f).eng.crc1 = (s.stageFrame e f).blockCrc 1 (s.stageFrame e f).eng.stage1) := by
  unfold State.stageFrame
  split
  next hdup => exact ⟨(State.blockCrc_setStaged ..).symm, fun _ => (State.blockCrc_setStaged ..).symm⟩
  next hdup =>
    refine ⟨(State.blockCrc_setStaged ..).symm, fun h => absurd ?_ hdup⟩
    exact (s.duplex_setDsp 0 (s.dieFrame 0 f).1).symm.trans h

/-- The finish line's last steps, as the model writes them, are the staging and the promotion. -/
theorem State.promoteLanes_stageFrame (s : State) (e : FinishEnv) (f : Nat) :
    (let a := s.dieFrame 0 f
      if s.duplex then
        let sa := a.2.map (stageBlock 0 e)
        let b := s.dieFrame 1 f
        let sb := b.2.map (stageBlock 1 e)
        let s2 := if s.computes 0 f then s.setDsp 0 a.1 else s
        let s3 := if s.computes 1 f then s2.setDsp 1 b.1 else s2
        let s4 : State := { s3 with eng := { s3.eng with
          staged := sa, stage1 := sb, crc0 := s3.blockCrc 0 sa, crc1 := s3.blockCrc 1 sb } }
        s4.promoteLanes
      else
        let sa := a.2.map (s.stageSpan e)
        let s2 := s.setDsp 0 a.1
        ({ s2 with eng := { s2.eng with staged := sa, stage1 := [], crc0 := s2.blockCrc 0 sa, crc1 := 0 } } : State).promoteLanes) =
    (s.stageFrame e f).promoteLanes := by
  unfold State.stageFrame
  extract_lets
  split
  · rfl
  · rfl

/-- FINISH_LINE of the frame in the main pass notes what it finds, stages the blocks and promotes the lanes. -/
theorem doFinish_of_due {s : State} {e : FinishEnv} (hrun : s.inRun s.eng.frame = true) (hopen : s.eng.finished = false)
    (htick : s.tick = s.eng.frame + 1) :
    doFinish e s = (((((doEddyClose s).reach (s.tAt (s.eng.frame + 2) - 4000)).noteFinish e).noteLoad).stageFrame e
      s.eng.frame).promoteLanes :=
  (if_pos (by simp [hrun, hopen, htick])).trans (State.promoteLanes_stageFrame _ e _)

/-- What the finish line notes leaves the time, and the frame is finished. -/
theorem State.noteFinish_load (s : State) (e : FinishEnv) :
    (s.noteFinish e).noteLoad.time = s.time ∧ (s.noteFinish e).noteLoad.eng.finished = true :=
  ⟨(State.SameMain.refl s).refuseLeft.time, rfl⟩

/-- The time of a finish line's result is the finish line's or later, and its frame is finished. -/
theorem State.stageFrame_noteFinish (s : State) (e : FinishEnv) (f n : Nat) :
    let m := (((s.reach n).noteFinish e).noteLoad).stageFrame e f
    n ≤ m.promoteLanes.ns ∧ m.promoteLanes.eng.finished = true := by
  intro m
  obtain ⟨htime, hfin⟩ := State.noteFinish_load (s.reach n) e
  have hm : (((s.reach n).noteFinish e).noteLoad).SameMain m.promoteLanes := (State.SameMain.refl _).stageFrame.promoteLanes
  refine ⟨?_, hm.finished.trans hfin⟩
  rw [State.ns, hm.time, htime]
  exact s.le_ns_reach n

/-! ### The boundary and the engine's start (R13, R28, R34, R912) -/

/-- A frame begins with clean marks and records. -/
theorem State.beginFrame_main (s : State) (f : Nat) :
    (s.beginFrame f).eng.frame = f ∧ (s.beginFrame f).eng.finished = false ∧ (s.beginFrame f).eng.eddyClosed = false ∧
      (s.beginFrame f).eng.overrun = [] ∧ (s.beginFrame f).eng.pfMiss = [] ∧ (s.beginFrame f).eng.passes = [] := by
  unfold State.beginFrame
  generalize s.joinDies f = s0
  extract_lets e keep lanes src g s1
  have main {t : State} (h : s1.SameMain t) : t.eng.frame = f ∧ t.eng.finished = false ∧ t.eng.eddyClosed = false ∧
      t.eng.overrun = [] ∧ t.eng.pfMiss = [] ∧ t.eng.passes = [] :=
    ⟨h.frame, h.finished, h.eddyClosed, h.overrun, h.pfMiss, h.passes⟩
  split
  · exact main (State.SameMain.refl s1).reseatLanes.entryMoves.startMain.presentHeld
  · exact main (.refl s1)

/-- The redundancy summary stands in one register. -/
theorem State.word_showHealth (s : State) {o : Nat} (h : o ≠ Reg.GUARD.HEALTH.NOSPARE.off) :
    s.showHealth.word o = s.word o := by
  have same (t : State) (f : Fld) (v : Nat) (hf : f.off = Reg.GUARD.HEALTH.NOSPARE.off) : (t.wr f v).word o = t.word o :=
    t.word_wr_other f v (hf ▸ h)
  unfold State.showHealth State.put
  dsimp only
  rw [same _ Reg.GUARD.HEALTH.ENGINE _ rfl, same _ Reg.GUARD.HEALTH.AUTH _ rfl, same _ Reg.GUARD.HEALTH.SINGLE _ rfl,
    same _ Reg.GUARD.HEALTH.ALTREG _ rfl, same _ Reg.GUARD.HEALTH.RETIRED _ rfl, same _ Reg.GUARD.HEALTH.NOSPARE _ rfl]

/-- ENGINE_START at a boundary that has come. -/
theorem doEngineStart_of_due {s : State} {m : Nat} (hfirst : s.eng.first = some m) (hidle : s.on Reg.TICK.STATUS.RUN = false)
    (hdue : s.tAt m ≤ s.ns) (hplan : s.on Reg.TICK.CFG.PLAN = true) (hgrid : s.on Reg.TICK.STATUS.GRID = true) :
    doEngineStart s = (State.put { s with
      eng := { s.eng.keep with
        first := some (max m s.tick), frame := max m s.tick - 1, finished := true
        ramp := s.eng.ramp.map fun _ => max m s.tick }
      modFade := [] } Reg.TICK.STATUS.RUN true).showHealth := by
  simp [doEngineStart, hfirst, hidle, Nat.not_lt.mpr hdue, hplan, hgrid]

/-- Settles O3: each row by the lemmas about its function. -/
theorem tickRowsTakeEffect : Obligations.TickRowsTakeEffect := by
  refine ⟨?eddyFirst, ?cutoff, ?eddy, ?finish, ?boundary, ?prefetch, ?write, ?start⟩
  case eddyFirst =>
    rintro s t h
    cases h
    have hcut : doCutoff (doEddyClose s) = doCutoff s := by
      unfold doCutoff
      rw [doEddyClose_idem]
    exact congrArg Host.Outcome.next hcut.symm
  case cutoff => exact fun s hrun hcut hclosed => congrArg Host.Outcome.next (doCutoff_of_closed hrun hcut hclosed)
  case eddy =>
    exact fun s hrun hopen htick => ⟨_, _, congrArg Host.Outcome.next (doEddyClose_of_open hrun hopen htick), rfl, rfl⟩
  case finish =>
    intro e s hrun hopen htick
    obtain ⟨hns, hfin⟩ := (doEddyClose s).stageFrame_noteFinish e s.eng.frame (s.tAt (s.eng.frame + 2) - 4000)
    obtain ⟨hcrc0, hcrc1⟩ := State.stageFrame_crc
      ((((doEddyClose s).reach (s.tAt (s.eng.frame + 2) - 4000)).noteFinish e).noteLoad) e s.eng.frame
    exact ⟨_, _, congrArg Host.Outcome.next (doFinish_of_due hrun hopen htick), rfl, hfin, hcrc0, hcrc1, hns⟩
  case boundary =>
    intro e s
    exact ⟨_, rfl, State.beginFrame_main _ _⟩
  case prefetch =>
    rintro d k c s hd hk rfl hrun
    refine ⟨_, _, rfl, rfl, congrArg Host.Outcome.next (if_neg ?_)⟩
    simp [hrun, Nat.not_le.mpr hd, Nat.not_le.mpr hk]
  case write => exact fun s hrun => congrArg Host.Outcome.next (if_neg (by simp [hrun]))
  case start =>
    intro m s hfirst hidle hdue hplan hgrid
    refine ⟨_, congrArg Host.Outcome.next (doEngineStart_of_due hfirst hidle hdue hplan hgrid), ?_, rfl, rfl⟩
    unfold State.on State.rd
    rw [State.word_showHealth _ (by decide)]
    exact State.rd_put_same _ _ _ rfl rfl

end Sys2Proof.Machine
end

section
/-! The rows of a compute die, and SELFTEST and DIE_RESET. -/
namespace Sys2Proof.Machine

/-! ### Rebuilds and reloads of a die (R327 to R335, R899) -/

/-- The one die in rebuild, as the rows find it. -/
theorem doRebuildComplete_of_age {d : Nat} {s : State} (hd : d = if s.die 0 = 1 then 0 else 1) (hdie : s.die d = 1)
    (hage : s.rebuildAge d < 64) : doRebuildComplete s = s.setDieS d { s.dieS d with ended := true } := by
  unfold doRebuildComplete
  by_cases h0 : s.die 0 = 1
  · rw [if_pos h0] at hd
    subst hd
    simp [h0, hage]
  · rw [if_neg h0] at hd
    subst hd
    simp [h0, hdie, hage]

theorem doRebuildTimeout_of_age {d : Nat} {b : Bool} {s : State} (hd : d = if s.die 0 = 1 then 0 else 1) (hdie : s.die d = 1)
    (hout : 64 ≤ s.rebuildAge d ∨ b = true) :
    doRebuildTimeout b s = s.dieOut d (if 64 ≤ s.rebuildAge d then 0 else 1) := by
  have hcause : (if 64 ≤ s.rebuildAge d then s.dieOut d 0 else if b = true then s.dieOut d 1 else s) =
      s.dieOut d (if 64 ≤ s.rebuildAge d then 0 else 1) := by
    by_cases hage : 64 ≤ s.rebuildAge d
    · rw [if_pos hage, if_pos hage]
    · rw [if_neg hage, if_neg hage, if_pos (hout.resolve_left hage)]
  unfold doRebuildTimeout
  by_cases h0 : s.die 0 = 1
  · rw [if_pos h0] at hd
    subst hd
    rw [if_pos h0]
    exact hcause
  · rw [if_neg h0] at hd
    subst hd
    rw [if_neg h0, if_pos hdie]
    exact hcause

/-- What brings die 0 back in. -/
def State.dieJoined (s : State) : State :=
  (((((s.wr (dieFld 0) 0).wr Reg.GUARD.NODE.RBTICKS 0).setDieS 0
    { s.dieS 0 with rebuild := none, ended := false, restart := some (s.tick - 1) }).count Reg.GUARD.DIECNT.REBUILD).hold 0x0123
      (le 1 0 ++ le 4 (s.rebuildAge 0))).showHealth

/-- It leaves the other die's state. -/
theorem State.die_dieJoined (s : State) : s.dieJoined.die 1 = s.die 1 := by
  unfold State.die State.dieJoined
  rw [State.rd, State.word_showHealth _ (by decide)]
  change ((((s.wr (dieFld 0) 0).wr Reg.GUARD.NODE.RBTICKS 0).setDieS 0 _).count Reg.GUARD.DIECNT.REBUILD).rd (dieFld 1) = _
  rw [State.rd_count_apart _ _ _ _ rfl rfl rfl]
  change ((s.wr (dieFld 0) 0).wr Reg.GUARD.NODE.RBTICKS 0).rd (dieFld 1) = _
  rw [State.rd_wr_apart _ _ _ _ rfl rfl rfl, State.rd_wr_apart _ _ _ _ rfl rfl rfl]

theorem foldl_dies {f : State → Nat → State} {s t u : State} (h0 : f s 0 = t) (h1 : f t 1 = u) : [0, 1].foldl f s = u := by
  rw [List.foldl_cons, List.foldl_cons, List.foldl_nil, h0, h1]

/-- A boundary after the copy of die 0 has ended, with die 1 not in rebuild (R329). -/
theorem State.rebuildTick_of_ended {s : State} (hdie : s.die 0 = 1) (hended : (s.dieS 0).ended = true) (hother : s.die 1 ≠ 1) :
    s.rebuildTick = s.dieJoined := by
  have hstay : s.dieJoined.die 1 ≠ 1 := by rwa [State.die_dieJoined]
  have hjoin : (if s.die 0 ≠ 1 then s else if (s.dieS 0).ended = true then s.dieJoined
      else if 64 ≤ s.rebuildAge 0 then s.dieOut 0 0 else s.wrSat Reg.GUARD.NODE.RBTICKS (s.rebuildAge 0)) = s.dieJoined := by
    rw [if_neg (not_not_intro hdie), if_pos hended]
  exact foldl_dies hjoin (if_pos hstay)

/-- What every end of a reload does first: the entry, the command that asked for it, and the die's further state. -/
def State.reloadEnded (s : State) (d : Nat) (ok : Bool) : State :=
  let v := s.hold 0x0125 (le 1 d ++ le 1 (if ok then 0 else 1)) (64 + d)
  let w := if (s.dieS d).asked then v.finishOp 0x48 stOk [] [] (fun o => o.a0 == d) else v
  w.setDieS d { w.dieS d with reload := none, asked := false, ready := ok, stays := (s.dieS d).stays || !ok }

theorem doReload_failed {d e : Nat} {b : Bool} {s : State} (hreload : (s.dieS d).reload = some e)
    (hok : (b && decide (s.run ≤ e)) = false) :
    doReload d b s = ((s.reloadEnded d false).wr (dieFld d) 2).showHealth := by
  unfold doReload
  simp only [hreload, hok]
  rfl

theorem doReload_good {d e : Nat} {b : Bool} {s : State} (hreload : (s.dieS d).reload = some e)
    (hok : (b && decide (s.run ≤ e)) = true) :
    doReload d b s = (((((match (s.reloadEnded d true).plan.image with
      | some p => (s.reloadEnded d true).loadDie p d
      | none => s.reloadEnded d true).put (railFld d) true).startTests d true).reloadAlts d).showHealth) := by
  unfold doReload
  simp only [hreload, hok]
  rfl

/-- Settles O7: each row by the lemmas about its function. -/
theorem dieRowsTakeEffect : Obligations.DieRowsTakeEffect := by
  refine ⟨?complete, ?boundary, ?timeout, ?reload, ?supply⟩
  case complete => exact fun d s hd hdie hage => congrArg Host.Outcome.next (doRebuildComplete_of_age hd hdie hage)
  case boundary => exact fun s hdie hended hother => State.rebuildTick_of_ended hdie hended hother
  case timeout => exact fun d b s hd hdie hout => congrArg Host.Outcome.next (doRebuildTimeout_of_age hd hdie hout)
  case reload =>
    intro d b s e _ hreload _ ok v w x
    have hgood (hb : b = true) (hdue : s.run ≤ e) : ok = true := by simp [ok, hb, hdue]
    have hx : x = s.reloadEnded d ok := rfl
    clear_value x
    refine ⟨fun hbad => ?_, fun hb hdue himage => ?_, fun p hb hdue himage => ?_⟩
    · have hok : ok = false := by
        rcases hbad with h | h <;> simp [ok, h]
      rw [hx, hok]
      exact congrArg Host.Outcome.next (doReload_failed hreload hok)
    · rw [hgood hb hdue] at hx
      refine congrArg Host.Outcome.next ((doReload_good hreload (hgood hb hdue)).trans ?_)
      rw [← hx, himage]
    · rw [hgood hb hdue] at hx
      refine congrArg Host.Outcome.next ((doReload_good hreload (hgood hb hdue)).trans ?_)
      rw [← hx, himage]
  case supply => exact fun d s hd => congrArg Host.Outcome.next (if_neg (Nat.not_le.mpr hd))

/-! ### SELFTEST and DIE_RESET (R309 to R311, R333) -/

theorem selftestLanesRes_of_free {d : Desc} {u : State} (ha0 : d.a0 = 0) (ha1 : d.a1 < 32)
    (hspare : (u.positions d.a1 1).isEmpty = false) (halt : u.altOf (regionOf d.a1) ≠ some d.a1)
    (hrun : u.on Reg.TICK.STATUS.RUN = true) (hwait : (u.clS d.a1).testWait = none) (hpos : (u.clS d.a1).testPos = none) :
    selftestLanesRes d u = longRes (u.setClS d.a1 { u.clS d.a1 with testWait := some u.tick }) := by
  simp [selftestLanesRes, ha0, Nat.not_le.mpr ha1, hspare, halt, hrun, hwait, hpos]

theorem selftestMemRes_of_free {d : Desc} {u : State} {p : PlanImage} (ha0 : d.a0 = 1) (ha1 : d.a1 < 32)
    (himage : u.plan.image = some p) (halt : (altFor p d.a1).isSome = true) (htxn : u.txnBusy = false)
    (hidle : u.on (Reg.GUARD.ALT.ACTIVE (regionOf d.a1)) = false) :
    selftestMemRes d u = longRes (u.setClS d.a1
      { u.clS d.a1 with memTest := (u.clS d.a1).memTest ++ [(u.tickFrom (u.readNs d) 0 2, d.ring)] }) := by
  have hbar : u.memTestBar d.a1 = 0 := by simp [State.memTestBar, State.altProvided, himage, halt, htxn, hidle]
  simp [selftestMemRes, ha0, Nat.not_le.mpr ha1, hbar]

theorem dieResetRes_of_partner {d : Desc} {u : State} (ha0 : d.a0 < 2) (hpartner : u.die (1 - d.a0) = 0)
    (himage : u.plan.image.isSome = true) (hstays : (u.dieS d.a0).stays = false)
    (hrail : u.on (if d.a0 = 0 then Reg.SYS.PWR.CD0OK else Reg.SYS.PWR.CD1OK) = true) :
    dieResetRes d u = longRes (u.dieReset d.a0 true).showHealth := by
  have hgood : (if d.a0 = 0 then u.on Reg.SYS.PWR.CD0OK else u.on Reg.SYS.PWR.CD1OK) = true := by
    rw [← hrail]
    split <;> rfl
  have hplan : u.plan.image.isNone = false := by rw [← Option.not_isSome, himage]; rfl
  simp only [dieResetRes, Nat.not_le.mpr ha0, hpartner, hplan, hstays, hgood]
  rfl

/-- Settles O8: each command by the lemma about its result. -/
theorem containmentCommandsTakeEffect : Obligations.ContainmentCommandsTakeEffect := by
  refine ⟨?lanes, ?memory, ?die⟩
  case lanes =>
    rintro d s u hadm rfl h1 h2 h3 h4 h5 h6 h7
    exact congrArg Host.Outcome.next (hostCmd_long hadm (selftestLanesRes_of_free h1 h2 h3 h4 h5 h6 h7))
  case memory =>
    rintro d s u p hadm rfl h1 h2 h3 h4 h5 h6
    exact congrArg Host.Outcome.next (hostCmd_long hadm (selftestMemRes_of_free h1 h2 h3 h4 h5 h6))
  case die =>
    rintro d s u hadm rfl h1 h2 h3 h4 h5
    exact congrArg Host.Outcome.next (hostCmd_long hadm (dieResetRes_of_partner h1 h2 h3 h4 h5))

end Sys2Proof.Machine
end

section
/-! Transactions and launches. -/
namespace Sys2Proof.Machine

/-! ### Transactions (R369 to R390) -/

theorem txnBeginRes_of_idle {d : Desc} {u : State} (hplan : u.on Reg.TICK.CFG.PLAN = true) (hlead : u.follower = false)
    (hidle : u.os = osIdle) :
    txnBeginRes d u = okRes (((u.clearOpen.takeNumber.2.wr Reg.TXN.STATUS.OSTATE osOpen).wr Reg.TXN.OID.ID
      u.clearOpen.takeNumber.1).wr Reg.TXN.STATUS.OWNER d.ring) (le 4 u.clearOpen.takeNumber.1) := by
  unfold txnBeginRes
  rw [if_neg (by simp [hplan, hlead]), if_neg (not_not_intro hidle)]

theorem txnPrepareRes_of_valid {d : Desc} {u : State} {v : View} (hnames : u.names d = 1)
    (hfull : u.on Reg.TXN.STATUS.FULL = false) (hv : v = { u.view with fin := [] }) (hbad : v.firstBad = none)
    (hbudget : v.budget (decide (d.a1 % 2 = 1)) = none) :
    txnPrepareRes d u = okRes (({ u with txn := { u.txn with
      against := decide (u.ls = 1), noCover := decide (d.a1 % 2 = 1), fin := v.lats } } : State).wr
        Reg.TXN.STATUS.OSTATE osPrepared) (le 8 (u.earliest u.ns) ++ le 2 v.bare.length) := by
  unfold txnPrepareRes
  rw [if_neg (by simp [hnames]), if_neg (not_not_intro hnames), if_neg (by simp [hfull])]
  simp only [← hv, hbad, hbudget]

/-- The checks of TXN_COMMIT that do not look at the items (R380, R381). -/
structure State.Commits (u : State) (d : Desc) : Prop where
  names : u.names d = 1
  notFull : u.on Reg.TXN.STATUS.FULL = false
  prepared : u.os = osPrepared
  fade : d.a1 ≤ 16
  nsecs : d.a2 < 1000000000
  near : d.rbuf * 1000000000 + d.a2 ≤ u.readNs d + 3600 * 1000000000
  grid : u.on Reg.TICK.STATUS.GRID = true

/-- Past these checks only items, slot, time and budget are left. -/
theorem txnCommitRes_of_empty {d : Desc} {u : State} (h : u.Commits d) (hitems : u.txn.items.isEmpty = true) :
    txnCommitRes d u = okRes (u.clearOpen.count Reg.TXN.CNT0.COMMIT) (le 8 0) := by
  unfold txnCommitRes
  rw [if_neg (by simp [h.names]), if_neg (not_not_intro h.names), if_neg (by simp [h.prepared, h.notFull]),
    if_neg (Nat.not_lt.mpr h.fade), if_neg (Nat.not_le.mpr h.nsecs)]
  exact (if_neg (Nat.not_lt.mpr h.near)).trans ((if_neg (by simp [h.grid])).trans (if_pos hitems))

theorem txnCommitRes_of_items {d : Desc} {u : State} {l : Nat} (h : u.Commits d) (hitems : u.txn.items.isEmpty = false)
    (hslot : u.ls = 0)
    (hl : l = if d.rbuf * 1000000000 + d.a2 = 0 then u.earliest (u.readNs d)
      else ceilDiv (d.rbuf * 1000000000 + d.a2) u.tickNs)
    (hlate : u.readNs d + 2 * u.tickNs ≤ u.tAt l) (hbudget : u.view.budget u.txn.noCover = none) :
    txnCommitRes d u = okRes (u.commitTo (u.rd Reg.TXN.OID.ID) l d.a1 u.txn.items u.txn.fin (some d.ring)
      (if u.txn.noCover then u.view.bare else [])).clearOpen (le 8 l) := by
  subst hl
  unfold txnCommitRes
  rw [if_neg (by simp [h.names]), if_neg (not_not_intro h.names), if_neg (by simp [h.prepared, h.notFull]),
    if_neg (Nat.not_lt.mpr h.fade), if_neg (Nat.not_le.mpr h.nsecs)]
  refine (if_neg (Nat.not_lt.mpr h.near)).trans ((if_neg (by simp [h.grid])).trans ?_)
  refine (if_neg (by simp [hitems])).trans ((if_neg (not_not_intro hslot)).trans ?_)
  refine (if_neg (Nat.not_lt.mpr hlate)).trans ?_
  rw [hbudget]

/-- Counting a rollback leaves the pairing of two nodes as it is: it reads the registers of the over-voltage link alone. -/
theorem State.paired_count_rollback (s : State) : (s.count Reg.TXN.CNT1.ROLLBACK).paired = s.paired := by
  have hen : (s.count Reg.TXN.CNT1.ROLLBACK).rd Reg.GUARD.OUVCFG.EN = s.rd Reg.GUARD.OUVCFG.EN :=
    State.rd_count_apart _ _ _ _ rfl rfl rfl
  have hrole : (s.count Reg.TXN.CNT1.ROLLBACK).rd Reg.GUARD.OUVCFG.ROLE = s.rd Reg.GUARD.OUVCFG.ROLE :=
    State.rd_count_apart _ _ _ _ rfl rfl rfl
  have hpartner : (s.count Reg.TXN.CNT1.ROLLBACK).partner = s.partner :=
    State.rd_count_apart _ _ _ _ rfl rfl rfl
  have hhb : (s.count Reg.TXN.CNT1.ROLLBACK).ouv = s.ouv := State.count_ouv _ _ _
  simp only [State.paired, State.opposite, State.on, hen, hrole, hpartner, hhb]

/-- TXN_ROLLBACK of a committed transaction marks its slot, with nothing prepared against it and no partner (R390). -/
theorem txnRollbackRes_of_committed {d : Desc} {u : State} (hnames : u.names d = 2) (hls : u.ls = 1)
    (hlive : u.txn.ending = false) (htime : u.readNs d < u.tAt (u.launchTick - 1)) (hos : u.os = osIdle)
    (halone : u.paired = false) :
    txnRollbackRes d u =
      okRes (({ u with txn := { u.txn with ending := true } } : State).count Reg.TXN.CNT1.ROLLBACK) := by
  have hos1 : (({ u with txn := { u.txn with ending := true } } : State).count Reg.TXN.CNT1.ROLLBACK).os = osIdle :=
    (State.rd_count_apart _ _ _ _ rfl rfl rfl).trans hos
  have hpaired1 : (({ u with txn := { u.txn with ending := true } } : State).count Reg.TXN.CNT1.ROLLBACK).paired = false :=
    (State.paired_count_rollback _).trans halone
  unfold txnRollbackRes
  rw [if_neg (by simp [hnames]), if_pos hnames, if_neg (by simp [hlive]), if_pos (by simp [hls, htime])]
  generalize ({ u with txn := { u.txn with ending := true } } : State).count Reg.TXN.CNT1.ROLLBACK = s1 at hos1 hpaired1
  have hprep : ¬ (s1.os = osPrepared && s1.txn.against) = true := by simp [hos1, osIdle, osPrepared]
  simp only [if_neg hprep, hpaired1]
  rfl

/-- Settles O9: each command by the lemma about its result. -/
theorem transactionSlotCommandsTakeEffect : Obligations.TransactionSlotCommandsTakeEffect := by
  refine ⟨?begins, ?prepare, ?commit, ?empty, ?rollOpen, ?rollLaunch⟩
  case begins =>
    rintro d s u hadm rfl hplan hlead hidle
    exact congrArg Host.Outcome.next (hostCmd_ok hadm (txnBeginRes_of_idle hplan hlead hidle) (Nat.zero_le _))
  case prepare =>
    rintro d s u v hadm rfl hnames hfull hv hbad hbudget
    exact congrArg Host.Outcome.next
      (hostCmd_ok hadm (txnPrepareRes_of_valid hnames hfull hv hbad hbudget) (Nat.zero_le _))
  case commit =>
    rintro d s u at_ l hadm rfl hnames hfull hos hfade hnsecs rfl hnear hgrid hitems hslot hl hlate hbudget
    exact congrArg Host.Outcome.next (hostCmd_ok hadm
      (txnCommitRes_of_items ⟨hnames, hfull, hos, hfade, hnsecs, hnear, hgrid⟩ hitems hslot hl hlate hbudget) (Nat.zero_le _))
  case empty =>
    rintro d s u hadm rfl hnames hfull hos hfade hnsecs hnear hgrid hitems
    exact congrArg Host.Outcome.next (hostCmd_ok hadm
      (txnCommitRes_of_empty ⟨hnames, hfull, hos, hfade, hnsecs, hnear, hgrid⟩ hitems) (Nat.zero_le _))
  case rollOpen =>
    rintro d s u hadm rfl hnames
    exact congrArg Host.Outcome.next
      (hostCmd_ok (eff := txnRollbackRes d) hadm (if_pos hnames) (Nat.zero_le _))
  case rollLaunch =>
    rintro d s u hadm rfl hnames hls hlive htime hos halone
    exact congrArg Host.Outcome.next
      (hostCmd_ok hadm (txnRollbackRes_of_committed hnames hls hlive htime hos halone) (Nat.zero_le _))

/-! ### Launches, collections and zero crossings (R92 to R95, R384 to R395) -/

theorem doLaunch_of_due {s u v : State} (hls : s.ls = 1) (hlive : s.txn.ending = false) (hdue : s.launchTick ≤ s.tick)
    (hu : u = s.keepOld) (hv : v = (u.makeTopcoat u.txn.lItems u.launchTick).wr Reg.TXN.STATUS.LSTATE 2) :
    doLaunch s = (({ v with ouv := { v.ouv with topGen := (v.ouv.topGen + 1) % 2 ^ 32 } } : State).count
      Reg.TXN.CNT0.LAUNCH).post 0x0010 (le 4 (u.rd Reg.TXN.LID.ID) ++ le 8 u.launchTick) := by
  subst hv hu
  have hdue' : (s.keepOld.ls = 1 && !s.keepOld.txn.ending && decide (s.keepOld.launchTick ≤ s.keepOld.tick)) = true := by
    change (s.ls = 1 && !s.txn.ending && decide (s.launchTick ≤ s.tick)) = true
    simp [hls, hlive, hdue]
  exact if_pos hdue'

/-- Nothing is discarded of a view that validates. -/
theorem winnow_of_valid {v : View} {out : List (Nat × Nat)} (h : v.firstBad = none) (n : Nat) :
    winnow n v out = (v.upper, out) := by
  cases n with
  | zero => rfl
  | succ n =>
    unfold winnow
    rw [h]

/-- COLLECTION_COMMIT of a collection that validates, of which nothing was rejected (R393 to R395). -/
theorem doCollect_of_valid {s t : State} {n : Nat} {it : Nat × Nat} {r : Tbl Nat} (hos : s.os = osCollecting) (hls : s.ls = 0)
    (hgrid : s.on Reg.TICK.STATUS.GRID = true) (hns : s.ns = s.tAt s.tick) (hrej : s.txn.rejected = none)
    (hitems : s.txn.items = it :: r) (hbad : s.view.firstBad = none) (hbudget : s.view.budget true = none)
    (hnum : s.takeNumber = (n, t)) :
    doCollect s = t.clearOpen.commitTo n (t.clearOpen.tick + 2) (t.clearOpen.rd Reg.TXN.CFG.IXF) s.txn.items s.view.lats none
      s.view.bare := by
  have hdue : (s.os = osCollecting && s.ls = 0 && s.on Reg.TICK.STATUS.GRID && s.ns == s.tAt s.tick) = true := by
    simp [hos, hls, hgrid, ← hns]
  have hleft : s.view.upper.isEmpty = false := by
    change s.txn.items.isEmpty = false
    rw [hitems]
    rfl
  have hview : ({ s.view with s := s, upper := s.view.upper } : View) = s.view := rfl
  unfold doCollect
  rw [if_pos hdue]
  simp only [winnow_of_valid hbad, hrej, List.head?_nil, List.length_nil, State.countN, if_true, hleft, hview, hbudget, hnum,
    Bool.false_eq_true, if_false]
  rfl

/-- The end of a wait that stands sets the mute to the hit's ramp (R92, R94). -/
theorem State.muteOf_endWait {s : State} {h : ZcHit} {m : Bool}
    (hwait : mapGet s.gains.mutes h.entry = some { ramp := (s.muteOf h.entry).ramp, wait := some (h.ramp.l, m) }) :
    (s.endWait h).muteOf h.entry = { ramp := h.ramp, wait := none } := by
  have hgains : s.gains.endWait h = { s.gains with mutes := mapSet s.gains.mutes h.entry { ramp := h.ramp, wait := none } } := by
    simp [GainS.endWait, hwait]
  change mapGetD (s.gains.endWait h).mutes h.entry _ = _
  rw [hgains]
  exact mapGetD_mapSet_same _ _ _ _

/-- Settles O11: each row by the lemma about its function. -/
theorem launchRowsTakeEffect : Obligations.LaunchRowsTakeEffect := by
  refine ⟨?priming, ?launch, ?fade, ?collect, ?crossing, ?timeout⟩
  case priming =>
    intro s hls hlive hmove hns
    exact congrArg Host.Outcome.next (if_pos (by simp [hls, hlive, hmove, ← hns]))
  case launch => exact fun s u v hls hlive hdue hu hv => congrArg Host.Outcome.next (doLaunch_of_due hls hlive hdue hu hv)
  case fade => exact fun s hls hdue => congrArg Host.Outcome.next (if_pos (by simp [hls, hdue]))
  case collect =>
    exact fun s t n it r h1 h2 h3 h4 h5 h6 h7 h8 h9 => congrArg Host.Outcome.next (doCollect_of_valid h1 h2 h3 h4 h5 h6 h7 h8 h9)
  case crossing =>
    intro i k m h s hfind hwait
    have hhit := List.find?_some hfind
    simp only [Bool.and_eq_true, beq_iff_eq, Bool.not_eq_true'] at hhit
    obtain ⟨⟨rfl, hcross⟩, -⟩ := hhit
    refine ⟨s.endWait h, ?_, rfl, State.muteOf_endWait hwait, ?_⟩
    · have hdo : doZeroCross h.entry k s = s.endWait h := by simp only [doZeroCross, hfind]
      exact congrArg Host.Outcome.next hdo
    · simp only [State.endWait, hcross]
      rfl
  case timeout =>
    intro i m h s hfind hwait
    have hhit := List.find?_some hfind
    simp only [Bool.and_eq_true, beq_iff_eq] at hhit
    obtain ⟨rfl, hout⟩ := hhit
    refine ⟨s.endWait h, ?_, rfl, State.muteOf_endWait hwait, ?_⟩
    · have hdo : doZcTimeout h.entry s = s.endWait h := by simp only [doZcTimeout, hfind]
      exact congrArg Host.Outcome.next hdo
    · simp only [State.endWait, hout]
      rfl

end Sys2Proof.Machine
end

section
/-! Tests, rotations, the eddy arbiter and the lanes. -/
namespace Sys2Proof.Machine

/-! ### Lane and cluster tests, and rotations (R299 to R311) -/

/-- What the end of a lane self-test does to its position, before a SELFTEST that waits for it completes. -/
def State.testJudged (s : State) (p : Nat) (pass : Bool) : State :=
  if pass then
    (s.setPosS p { s.posS p with passed := true, testEnd := none, fails := 0 }).hold 0x0104 (le 2 p)
  else
    let failed := (s.setPosS p { s.posS p with fails := (s.posS p).fails + 1, testEnd := some (s.run + laneTestNs) }).hold
      0x0105 (le 2 p ++ le 1 ((s.posS p).fails + 1))
    if 2 ≤ (s.posS p).fails + 1 then failed.retire (p / 9) (p % 9) 0 else failed

/-- The judgement of a position leaves the state of every cluster. -/
theorem State.clS_testJudged (s : State) (p : Nat) (pass : Bool) (c : Nat) : (s.testJudged p pass).clS c = s.clS c := by
  unfold State.testJudged
  cases pass with
  | true => rfl
  | false =>
    rw [if_neg Bool.false_ne_true]
    dsimp only
    split <;> rfl

/-- The end of a self-test whose time has come: the judgement, and the completion of a SELFTEST that waits for it. -/
theorem doSelftestEnd_of_due {p e : Nat} {pass : Bool} {s : State} (hp : p < 288) (htest : s.lstat (p / 9) (p % 9) = 2)
    (hend : (s.posS p).testEnd = some e) (hdue : e ≤ s.run) :
    doSelftestEnd p pass s = if (s.clS (p / 9)).testPos = some (p % 9) then
      ((s.testJudged p pass).setClS (p / 9) { s.clS (p / 9) with testPos := none }).finishOp 0x60 stOk
        (le 1 (if pass then 0 else 1) ++ le 1 (p % 9)) [] (fun d => d.a0 == 0 && d.a1 == p / 9)
      else s.testJudged p pass := by
  have hguard : ¬ (decide (288 ≤ p) || s.lstat (p / 9) (p % 9) != 2 ||
      !((s.posS p).testEnd.any fun t => decide (t ≤ s.run))) = true := by
    simp [Nat.not_le.mpr hp, htest, hend, hdue]
  rw [← State.clS_testJudged s p pass]
  exact if_neg hguard

theorem doRotation_of_permitted {c : Nat} {s : State} (hc : c < 32) (hmay : s.mayRotate c = true) :
    doRotation c s = s.setClS c { s.clS c with
      rotating := some ((s.clS c).rotNext, (s.clS c).testWait.any fun t => decide (t < s.tick)) } :=
  if_pos (by simp [hc, hmay])

/-- A reload of a cluster's instruction memory that matches ICRC sets LOADOK and completes the test (R310). -/
theorem doMemTestEnd_of_match {c : Nat} {b : Bool} {x y : List (Nat × BitVec 64)} {s u : State} {e : Nat × Nat}
    {r : List (Nat × Nat)} (hend : (s.clS c).memEnd = e :: r) (hdue : e.1 ≤ s.run) (hstuck : (s.clS c).stuck = false)
    (hu : u = (s.setClS c { s.clS c with memEnd := r }).fillCode c x)
    (hcrc : (u.memCrc c).toNat = u.rd (Reg.LANE.CL.ICRC.CRC c)) :
    doMemTestEnd c b ⟨x, y⟩ s = (u.wr Reg.LANE.LOADOK.OK (s.rd Reg.LANE.LOADOK.OK ||| 2 ^ c)).finishOp 0x60 stOk
      (le 1 (if b then 0 else 1)) [] (fun d => d.a0 == 1 && d.a1 == c && d.ring == e.2) := by
  unfold doMemTestEnd
  simp only [hend, if_neg (Nat.not_lt.mpr hdue)]
  rw [← hu, if_neg (by simp [hstuck]), if_pos (beq_iff_eq.mpr hcrc)]

/-- Two reloads in a row that do not match clear LOADOK, and the cluster stays on its alternate schedule (R310). -/
theorem doMemTestEnd_of_mismatch {c : Nat} {b : Bool} {x y : List (Nat × BitVec 64)} {s u v : State} {e : Nat × Nat}
    {r : List (Nat × Nat)} (hend : (s.clS c).memEnd = e :: r) (hdue : e.1 ≤ s.run) (hstuck : (s.clS c).stuck = false)
    (hu : u = (s.setClS c { s.clS c with memEnd := r }).fillCode c x) (hv : v = u.fillCode c y)
    (hfirst : (u.memCrc c).toNat ≠ u.rd (Reg.LANE.CL.ICRC.CRC c)) (hsecond : (v.memCrc c).toNat ≠ v.rd (Reg.LANE.CL.ICRC.CRC c))
    (hok : (s.rd Reg.LANE.LOADOK.OK).testBit c = true) :
    doMemTestEnd c b ⟨x, y⟩ s =
      ((v.wr Reg.LANE.LOADOK.OK (s.rd Reg.LANE.LOADOK.OK - 2 ^ c)).setClS c { v.clS c with stuck := true }).finishOp 0x60 stOk
        (le 1 (if b then 0 else 1)) [] (fun d => d.a0 == 1 && d.a1 == c && d.ring == e.2) := by
  unfold doMemTestEnd
  simp only [hend, if_neg (Nat.not_lt.mpr hdue)]
  rw [← hu, if_neg (by simp [hstuck]), if_neg (fun h => hfirst (beq_iff_eq.mp h)), ← hv, if_neg (fun h => hsecond (beq_iff_eq.mp h)), if_pos hok]

/-- Settles O6: a self-test by its judgement, a rotation and a memory test by the lemmas about their rows. -/
theorem laneTestRowsTakeEffect : Obligations.LaneTestRowsTakeEffect := by
  refine ⟨?pass, ?first, ?second, ?asked, ?rotation, ?equal, ?mismatch⟩
  case pass =>
    intro p s e hp htest hend hdue hpos
    exact congrArg Host.Outcome.next ((doSelftestEnd_of_due hp htest hend hdue).trans (if_neg hpos))
  case first =>
    intro p s e hp htest hend hdue hpos hfails
    refine congrArg Host.Outcome.next (((doSelftestEnd_of_due hp htest hend hdue).trans (if_neg hpos)).trans ?_)
    simp [State.testJudged, hfails]
  case second =>
    intro p s e hp htest hend hdue hpos hfails
    refine congrArg Host.Outcome.next (((doSelftestEnd_of_due hp htest hend hdue).trans (if_neg hpos)).trans ?_)
    simp [State.testJudged, hfails]
  case asked =>
    rintro p b s e hp htest hend hdue hpos rfl
    exact ⟨_, rfl, congrArg Host.Outcome.next ((doSelftestEnd_of_due hp htest hend hdue).trans (if_pos hpos))⟩
  case rotation => exact fun c s hc hmay => congrArg Host.Outcome.next (doRotation_of_permitted hc hmay)
  case equal =>
    intro c b x y s u e r hend hdue hstuck hu hcrc
    exact congrArg Host.Outcome.next (doMemTestEnd_of_match hend hdue hstuck hu hcrc)
  case mismatch =>
    rintro c b x y s u v w e r hend hdue hstuck hu hv hfirst hsecond hok rfl
    exact congrArg Host.Outcome.next (doMemTestEnd_of_mismatch hend hdue hstuck hu hv hfirst hsecond hok)

/-! ### The eddy arbiter (R241 to R285) -/

/-- The pass that a request admits, as R262 to R266 place it. -/
def EddyReq.pass (q : EddyReq) (insts : List (Nat × Bool)) (s0 s1 : Nat) (a b : List (Nat × Nat × Nat)) : Pass :=
  { stream := q.stream, frame := q.frame, parts := placed s0 a ++ placed s1 b
    s0 := if a.isEmpty then s1 else s0, s1 := s1, insts := insts, data := q.data }

/-- EDDY_PASS_ADMISSION takes the oldest request of the frame in the main pass off the queue and decides it. -/
theorem doPassAdmission_of_request {s : State} {p : PlanImage} {q : EddyReq}
    (hq : s.eng.reqs.find? (fun x => x.frame == s.eng.frame) = some q) (himage : s.plan.image = some p)
    (hrun : s.on Reg.TICK.STATUS.RUN = true) (hfin : s.eng.finished = false) (hopen : s.eng.eddyClosed = false)
    (hcome : s.tAt (q.frame + 1) ≤ s.ns) (hfault : s.faultFirst q.cycle = false) :
    doPassAdmission s = ({ s with eng := { s.eng with reqs := s.eng.reqs.erase q } } : State).decidePass p q := by
  have hguard : ¬ (!s.on Reg.TICK.STATUS.RUN || s.eng.finished || s.eng.eddyClosed || decide (s.tAt (q.frame + 1) > s.ns) ||
      s.faultFirst q.cycle) = true := by
    simp [hrun, hfin, hopen, hfault, hcome]
  unfold doPassAdmission
  rw [hq, himage]
  exact if_neg hguard

/-- A request of new samples that no pass of its stream can take in: R265 decides. -/
theorem State.decidePass_of_new {u : State} {p : PlanImage} {q : EddyReq} {c : List (Nat × Bool)}
    {a b : List (Nat × Nat × Nat)} {s0 s1 : Nat} (hc : c = u.cone p (q.data.map fun e => e.1))
    (hnew : u.alreadyIn q.frame q.data = false) (hcone : c.isEmpty = false) (hon : u.eddyOn q.frame = true)
    (hjoin : (u.eng.passes.any fun x => x.stream.isSome && x.stream == q.stream && x.frame == q.frame &&
      x.parts.all (fun y => !y.started) && decide (q.cycle + readyCycles ≤ x.s0) && decide (q.cycle + readyCycles ≤ x.s1)) = false)
    (hparts : u.passParts p c = (a, b)) (hs0 : s0 = u.passStart (q.cycle + readyCycles) a)
    (hs1 : s1 = if u.duplex && !b.isEmpty then u.passStart (q.cycle + readyCycles) b else s0) :
    u.decidePass p q = if u.fits s0 a && u.fits s1 b then
      (let t := (u.charge s0 a).charge s1 b
       ({ t with eng := { t.eng with passes := t.eng.passes ++ [q.pass c s0 s1 a b] } } : State).servePass q false)
      else u.refusePass q.stream true := by
  unfold State.decidePass
  simp only [← hc]
  rw [if_neg (by simp [hcone, hnew]), if_neg (by simp [hon]), if_neg (by rw [hjoin]; exact Bool.false_ne_true), hparts]
  subst hs1 hs0
  rfl

theorem doReplayAdmission_of_oldest {s : State} {p : PlanImage} {q : FaultReq} {rest : List FaultReq}
    (hq : s.eng.faults = q :: rest) (himage : s.plan.image = some p) (hfin : s.eng.finished = false)
    (hfirst : (s.eng.reqs.any fun x => x.frame == s.eng.frame && decide (x.cycle < q.f)) = false) :
    doReplayAdmission s = ({ s with eng := { s.eng with faults := rest } } : State).decideReplay p q := by
  unfold doReplayAdmission
  rw [hq, himage]
  exact if_neg (by rw [hfin, hfirst]; exact Bool.false_ne_true)

/-- A refused replay holds its lane and flags its die (R276, R322). -/
theorem State.refuseReplay_eq (s : State) (q : FaultReq) :
    s.refuseReplay q = { s with eng := { s.eng with
      decided := s.eng.decided ++ [(q, none)]
      counts := { s.eng.counts with hold := s.eng.counts.hold + 1 }
      flag0 := s.eng.flag0 || q.lane / 128 == 0
      flag1 := s.eng.flag1 || q.lane / 128 != 0 } } := by
  unfold State.refuseReplay State.flagDie
  by_cases h : q.lane / 128 = 0
  · rw [if_pos h]
    simp [h]
  · rw [if_neg h]
    simp [h]

/-- EDDY_PASS_RUN starts the next part at its placed cycle. -/
theorem doPassRun_of_next {s : State} {i : Nat} {q : PassPart} (hnext : s.nextPart = some (i, q)) (hfin : s.eng.finished = false) :
    doPassRun s = (s.reach (s.tAt (s.eng.frame + 1) + ceilDiv (q.start * 2) 3)).runPart i q := by
  unfold doPassRun
  rw [hnext]
  exact if_neg (by rw [hfin]; exact Bool.false_ne_true)

theorem State.runPart_of_pass {t : State} {i : Nat} {q : PassPart} {x : Pass} (hx : t.eng.passes[i]? = some x) :
    t.runPart i q = ((t.barredIn x).foldl (fun (a : State) l => a.fillExports l (exportLines (a.logl l) a.spt))
      ({ t with eng := { t.eng with passes := modAt t.eng.passes i fun z =>
        { z with parts := z.parts.map fun y => if y == q then { y with started := true } else y } } } : State)).startPart
          q.lane x.insts (t.passXfers x q.lane) (t.passDescs x q.lane) q.start := by
  unfold State.runPart
  simp only [hx]

/-- Settles O5: each request by the lemma about the function that decides it, and a lane part by its start. -/
theorem arbiterRowsTakeEffect : Obligations.ArbiterRowsTakeEffect := by
  refine ⟨?admission, ?replay, ?refused, ?run⟩
  case admission =>
    rintro s u p q c hq himage hrun hfin hopen hcome hfault rfl hc hnew hcone hon hjoin
    refine ⟨_, _, _, _, rfl, rfl, rfl, congrArg Host.Outcome.next ?_⟩
    exact (doPassAdmission_of_request hq himage hrun hfin hopen hcome hfault).trans
      (State.decidePass_of_new hc hnew hcone hon hjoin rfl rfl rfl)
  case replay =>
    exact fun s p q rest hq himage hfin hfirst => congrArg Host.Outcome.next (doReplayAdmission_of_oldest hq himage hfin hfirst)
  case refused =>
    intro s p q hserver
    unfold State.decideReplay
    rw [hserver]
    exact s.refuseReplay_eq q
  case run =>
    intro s i q x hnext hfin hx
    refine ⟨_, _, rfl, rfl, congrArg Host.Outcome.next ((doPassRun_of_next hnext hfin).trans (State.runPart_of_pass ?_))⟩
    rwa [State.reach_eng]

/-! ### Lane memory, region memory and upset bits -/

@[simp] theorem State.laneP_setLaneP_same (s : State) (p : Nat) (x : LaneP) : (s.setLaneP p x).laneP p = x :=
  mapGetD_mapSet_same _ _ _ _

/-- What a lane or region word reads after a list of words has been written. -/
theorem laneRead_foldl_laneWrite {f : Nat → Nat} (hf : Function.Injective f) (v : Nat → Word36) (w : Nat) (l : List Nat) :
    ∀ m : Tbl Word36, laneRead (l.foldl (fun m n => laneWrite m (f n) (v n)) m) (f w) = if w ∈ l then v w else laneRead m (f w) := by
  induction l with
  | nil => intro m; rfl
  | cons n r ih =>
    intro m
    rw [List.foldl_cons, ih]
    by_cases hr : w ∈ r
    · rw [if_pos hr, if_pos (List.mem_cons_of_mem _ hr)]
    · rw [if_neg hr]
      by_cases hn : w = n
      · subst hn
        rw [if_pos List.mem_cons_self]
        exact tblGet_tblSet_same _ _ _ _
      · rw [if_neg (by simp [hn, hr])]
        exact tblGet_tblSet_other _ _ _ (fun h => hn (hf h))

/-- A line of eight words that has been written reads as written. -/
theorem laneRead_line {f : Nat → Nat} (hf : Function.Injective f) (v : Nat → Word36) (m : Tbl Word36) {w : Nat} (hw : w < 8) :
    laneRead ((List.range 8).foldl (fun m n => laneWrite m (f n) (v n)) m) (f w) = v w := by
  rw [laneRead_foldl_laneWrite hf, if_pos (List.mem_range.mpr hw)]

/-- The eight words of a line in region memory after a line has been written there. -/
theorem State.setRegion_line {k : Nat} {v : Nat → Word36} {s : State} {w : Nat} (hw : w < 8) (r : Nat) :
    laneRead (s.setRegion ((List.range 8).map fun n => (regionKey r (k + n), v n))).lanes.region (regionKey r (k + w)) = v w := by
  have hinj : Function.Injective fun n => regionKey r (k + n) := fun a b h => by
    dsimp only [regionKey] at h
    omega
  unfold State.setRegion
  rw [List.foldl_map]
  exact laneRead_line hinj v _ hw

/-- A word without an upset bit has none among the 43 stored. -/
theorem testBit_of_eccOf_ok {mask i : Nat} (hok : eccOf mask = .ok) (hi : i < 43) : mask.testBit i = false := by
  by_contra hbit
  have hmem : i ∈ (List.range 43).filter mask.testBit := List.mem_filter.mpr ⟨List.mem_range.mpr hi, by simpa using hbit⟩
  unfold eccOf at hok
  split at hok
  next h0 => rw [List.length_eq_zero_iff.mp h0] at hmem; exact List.not_mem_nil hmem
  next => exact absurd hok (by decide)
  next => exact absurd hok (by decide)

/-- Two upset bits are detected. -/
theorem eccOf_of_two {mask i j : Nat} (hi : i < 43) (hj : j < 43) (hne : i ≠ j) (hbi : mask.testBit i = true)
    (hbj : mask.testBit j = true) : eccOf mask = .bad := by
  have hmi : i ∈ (List.range 43).filter mask.testBit := List.mem_filter.mpr ⟨List.mem_range.mpr hi, hbi⟩
  have hmj : j ∈ (List.range 43).filter mask.testBit := List.mem_filter.mpr ⟨List.mem_range.mpr hj, hbj⟩
  unfold eccOf
  split
  next h0 => rw [List.length_eq_zero_iff.mp h0] at hmi; exact absurd hmi List.not_mem_nil
  next h1 =>
    obtain ⟨a, ha⟩ := List.length_eq_one_iff.mp h1
    rw [ha, List.mem_singleton] at hmi hmj
    exact absurd (hmi.trans hmj.symm) hne
  next => rfl

/-- Two bits of a sound word that upset make it unreadable (R175, R176). -/
theorem LaneP.eccAt_of_two_upsets {x : LaneP} {a i j : Nat} (hok : x.eccAt a = .ok) (hi : i < 43) (hj : j < 43) (hne : i ≠ j) :
    ((x.upsetAt a [i]).upsetAt a [j]).eccAt a = .bad := by
  have hmask : mapGetD ((x.upsetAt a [i]).upsetAt a [j]).upset a 0 = mapGetD x.upset a 0 ^^^ 2 ^ i ^^^ 2 ^ j := by
    simp [LaneP.upsetAt, flipBits, hi, hj]
  unfold LaneP.eccAt
  rw [hmask]
  refine eccOf_of_two hi hj hne ?_ ?_
  · simp [Nat.testBit_xor, testBit_of_eccOf_ok hok hi, hne.symm]
  · simp [Nat.testBit_xor, testBit_of_eccOf_ok hok hj, hne]

/-! ### Bundles (R183, R200 to R212) -/

/-- A bundle of a running lane that waits on nothing and meets no error issues. -/
theorem doBundle_of_running {p : Nat} {s : State} {x : LaneP} (hp : p < 288) (hlog : (s.laneP p).log.isSome = true)
    (hhalt : (s.laneP p).halted = false) (hfault : (s.laneP p).faulted = false)
    (hx : x = (s.laneP p).mature (s.laneP p).cyc) (hwait : x.waiting = false) (hw : LaneHw) :
    doBundle p hw s = match x.seq, x.run with
      | some l, none => s.nextRun p x l
      | _, _ =>
        if s.mustWait p x && hw.fetch != .bad && !(s.cluMem (p / 9)).bad.contains x.pc then
          ((if hw.fetch = .corrected then s.count (Reg.LANE.CL.CECC.IM (p / 9)) else s).count
            (Reg.LANE.CL.ACCOVF.WAIT (p / 9))).setLaneP p { x with waiting := true, cyc := x.cyc + 1 }
        else s.issue p hw x := by
  have hnone : (s.laneP p).log.isNone = false := by rw [← Option.not_isSome, hlog]; rfl
  have hguard : ¬ (decide (288 ≤ p) || (s.laneP p).log.isNone || (s.laneP p).halted || (s.laneP p).faulted) = true := by
    simp [Nat.not_le.mpr hp, hnone, hhalt, hfault]
  subst hx
  exact (if_neg hguard).trans (if_neg (by rw [hwait]; exact Bool.false_ne_true))

/-- Between the runs of a repair pass, and only there, the sequence decides. -/
theorem match_seq_run {α : Type} {x : LaneP} {f : List (Nat × Nat) → α} {a : α} (h : (x.seq.isSome && x.run.isNone) = false) :
    (match x.seq, x.run with | some l, none => f l | _, _ => a) = a := by
  split
  next hs hr => simp [hs, hr] at h
  next => rfl

theorem match_seq_between {α : Type} {x : LaneP} {l : List (Nat × Nat)} {f : List (Nat × Nat) → α} {a : α}
    (hseq : x.seq = some l) (hrun : x.run = none) : (match x.seq, x.run with | some l, none => f l | _, _ => a) = f l := by
  rw [hseq, hrun]

/-- A bundle without an error in hardware, code or addresses takes effect (R200 to R218). -/
theorem State.issue_clean {p kid : Nat} {s : State} {x : LaneP} {k : LogL} {w : BitVec 64} {i : Issue}
    (hfetch : (s.cluMem (p / 9)).bad.contains x.pc = false) (hecc : ∀ a, x.eccAt a = .ok) (hkid : kid = x.log.getD 0)
    (hk : k = s.logl kid) (hw : w = tblGet (fun _ => 0) (s.cluMem (p / 9)).code x.pc)
    (hbits : illBits w = false) (hctl : illCtl x w = false)
    (hax : ((addrOp w 20).accesses && addrFault k (slotAddrs x (addrOp w 20) (addrOp w 36)).1) = false)
    (hay : ((addrOp w 36).accesses && addrFault k (slotAddrs x (addrOp w 20) (addrOp w 36)).2) = false)
    (hcx : collides x (addrOp w 20) (slotAddrs x (addrOp w 20) (addrOp w 36)).1 = false)
    (hcy : collides x (addrOp w 36) (slotAddrs x (addrOp w 20) (addrOp w 36)).2 = false)
    (hend : ∀ r, x.run = some r → bField w 60 4 = 7 → x.cyc + 1 - r.since = r.expect)
    (hi : i = runBundle (s.cluMem (p / 9)).kern s.spt w x k) :
    s.issue p .clean x = ((s.setLogl kid i.k).count (Reg.LANE.CL.ACCOVF.SAT (p / 9)) i.sat).setLaneP p
      (goOn { i.x with waiting := false, cyc := x.cyc + 1 }) := by
  have hkend : (match x.run with
      | some r => bField w 60 4 == 7 && x.cyc + 1 - r.since != r.expect
      | none => false) = false := by
    split
    next r hr => by_cases h7 : bField w 60 4 = 7 <;> simp [h7, hend r hr]
    next => rfl
  have hnoerr : ∀ l : List Nat, (l.filter fun a => x.eccAt a == .corrected) = [] := by simp [hecc]
  have hnobad : ∀ l : List Nat, (l.any fun a => x.eccAt a == .bad) = false := by simp [hecc]
  have hup : ∀ a, x.upsetAt a LaneHw.clean.x = x := fun _ => rfl
  have hup' : ∀ a, x.upsetAt a LaneHw.clean.y = x := fun _ => rfl
  unfold State.issue
  simp only [hup, hup', ite_self, hnoerr, List.foldl_nil, List.isEmpty_nil, if_true, hnobad, ← hkid, ← hk, ← hw]
  subst hi
  rw [if_neg (by rw [hfetch]; decide), if_neg (by rw [hbits, hctl]; decide), if_neg (by rw [hax, hay]; decide),
    if_neg (by rw [hcx, hcy]; decide), if_neg Bool.false_ne_true]
  refine (if_neg Bool.false_ne_true).trans ((if_neg fun h => Bool.false_ne_true (hkend.symm.trans h)).trans ?_)
  rfl

theorem doOverdue_of_late {p : Nat} {s : State} {r : LaneRun} (hrun : (s.laneP p).run = some r) (hhalt : (s.laneP p).halted = false)
    (hfault : (s.laneP p).faulted = false) (hlate : r.since + r.expect + 64 ≤ (s.laneP p).cyc) :
    doOverdue p s = s.laneFault p 3 (s.laneP p) := by
  unfold doOverdue
  simp only [hrun, hhalt, hfault, Bool.false_or]
  exact if_neg (by simpa using hlate)

theorem doWaitEnd_of_ready {p : Nat} {hw : LaneHw} {s : State} {x : LaneP} (hp : p < 288) (hwait : (s.laneP p).waiting = true)
    (hhalt : (s.laneP p).halted = false) (hfault : (s.laneP p).faulted = false)
    (hx : x = (s.laneP p).mature (s.laneP p).cyc) (hready : s.mustWait p x = false) :
    doWaitEnd ⟨p, hw⟩ s = if x.run.isNone then s.laneFault p 3 x else s.issue p hw { x with waiting := false } := by
  have hguard : ¬ (decide (288 ≤ p) || !(s.laneP p).waiting || (s.laneP p).halted || (s.laneP p).faulted) = true := by
    simp [Nat.not_le.mpr hp, hwait, hhalt, hfault]
  subst hx
  exact (if_neg hguard).trans (if_neg (by rw [hready]; exact Bool.false_ne_true))

/-! ### Lines that the transfer unit moves (R168, R175, R182, R321) -/

/-- A movement that names a line in range, while the frame runs, is one into lanes or one out of its first position. -/
theorem doTransfer_of_range {c l : Nat} {x : Transfer} {s : State} (hc : c < 32) (hl : l < 9) (hregion : x.regionLine < 262144)
    (haddr : x.laneAddr < 0x8000) (hpos : x.positions = [l]) (hfin : s.eng.finished = false) :
    doTransfer c x s = if x.toLanes then s.lineIn c x x.read else s.lineOut c l x := by
  unfold doTransfer
  rw [if_neg (by simp [hfin, Nat.not_le.mpr hc, Nat.not_le.mpr hregion, Nat.not_le.mpr haddr]), hpos]
  simp only [if_neg (Nat.not_le.mpr hl)]

/-- A line of a lane in which two bits of a word have upset is a MEM fault. -/
theorem State.lineOut_of_upset {c l w i j : Nat} {x : Transfer} {e : Xfer} {s : State}
    (he : xferOf (s.laneP (flatPos c l)) x = some e) (hecc : ∀ a, (s.laneP (flatPos c l)).eccAt a = .ok)
    (hw : w < 8) (hi : i < 43) (hj : j < 43) (hne : i ≠ j) (hflips : x.flips = [(w, i), (w, j)]) :
    s.lineOut c l x = s.laneFault (flatPos c l) 2
      (((s.laneP (flatPos c l)).upsetAt (x.laneAddr / 8 * 8 + w) [i]).upsetAt (x.laneAddr / 8 * 8 + w) [j]) := by
  have hfold : (x.flips.filter fun f => decide (f.1 < 8)).foldl
      (fun (y : LaneP) f => y.upsetAt (x.laneAddr / 8 * 8 + f.1) [f.2]) (s.laneP (flatPos c l)) =
      ((s.laneP (flatPos c l)).upsetAt (x.laneAddr / 8 * 8 + w) [i]).upsetAt (x.laneAddr / 8 * 8 + w) [j] := by
    simp [hflips, hw]
  have hbad : (((List.range 8).map (x.laneAddr / 8 * 8 + ·)).any fun a =>
      (((s.laneP (flatPos c l)).upsetAt (x.laneAddr / 8 * 8 + w) [i]).upsetAt (x.laneAddr / 8 * 8 + w) [j]).eccAt a == .bad) = true := by
    refine List.any_eq_true.mpr ⟨x.laneAddr / 8 * 8 + w, List.mem_map.mpr ⟨w, List.mem_range.mpr hw, rfl⟩, ?_⟩
    rw [LaneP.eccAt_of_two_upsets (hecc _) hi hj hne]
    rfl
  unfold State.lineOut
  rw [if_neg (by simp [he])]
  simp only [hfold]
  exact if_pos hbad

/-- A sound line of a lane goes to region memory. -/
theorem State.lineOut_of_sound {c l : Nat} {x : Transfer} {e : Xfer} {s : State}
    (he : xferOf (s.laneP (flatPos c l)) x = some e) (hecc : ∀ a, (s.laneP (flatPos c l)).eccAt a = .ok) (hflips : x.flips = []) :
    s.lineOut c l x = (s.setRegion ((List.range 8).map fun w =>
      (regionKey (c / 4) (x.regionLine * 8 + w), laneRead (s.laneP (flatPos c l)).mem (x.laneAddr / 8 * 8 + w)))).setLaneP (flatPos c l)
        { s.laneP (flatPos c l) with xfers := (s.laneP (flatPos c l)).xfers.erase e } := by
  have hnoerr : ∀ l' : List Nat, (l'.filter fun a => (s.laneP (flatPos c l)).eccAt a == .corrected) = [] := by simp [hecc]
  have hnobad : ∀ l' : List Nat, (l'.any fun a => (s.laneP (flatPos c l)).eccAt a == .bad) = false := by simp [hecc]
  unfold State.lineOut
  rw [if_neg (by simp [he])]
  simp only [hflips, List.filter_nil, List.foldl_nil, hnoerr, hnobad, he]
  rfl

/-- What a line into a lane leaves there: the words, checked anew, with the ready bit set. -/
def LaneP.lineIn (y : LaneP) (x : Transfer) (e : Xfer) (word : Nat → Word36) : LaneP :=
  { y.fresh ((List.range 8).map (x.laneAddr / 8 * 8 + ·)) with
    mem := (List.range 8).foldl (fun (m : Tbl Word36) w => laneWrite m (x.laneAddr / 8 * 8 + w) (word w)) y.mem
    unready := y.unready.filter (· != x.laneAddr / 8 * 8 / 8)
    xfers := y.xfers.erase e }

theorem LaneP.lineIn_mem (y : LaneP) (x : Transfer) (e : Xfer) (word : Nat → Word36) {w : Nat} (hw : w < 8) :
    laneRead (y.lineIn x e word).mem (x.laneAddr / 8 * 8 + w) = word w :=
  laneRead_line (f := fun n => x.laneAddr / 8 * 8 + n) (fun _ _ h => Nat.add_left_cancel h) word y.mem hw

theorem LaneP.lineIn_ready (y : LaneP) (x : Transfer) (e : Xfer) (word : Nat → Word36) :
    (y.lineIn x e word).unready.contains (x.laneAddr / 8) = false := by
  have hline : x.laneAddr / 8 * 8 / 8 = x.laneAddr / 8 := Nat.mul_div_cancel _ (by decide)
  simp [LaneP.lineIn, hline]

/-- A line of region memory that one lane awaits, read soundly. -/
theorem State.lineIn_of_sound {c l : Nat} {x : Transfer} {e : Xfer} {s : State} (hl : l < 9) (hpos : x.positions = [l])
    (he : xferOf (s.laneP (flatPos c l)) x = some e) :
    s.lineIn c x .ok = s.setLaneP (flatPos c l) ((s.laneP (flatPos c l)).lineIn x e
      fun w => s.regionWord (regionKey (c / 4) (x.regionLine * 8 + w))) := by
  unfold State.lineIn
  simp only [hpos, List.filter_cons, List.filter_nil, hl, he, decide_true, Option.isSome_some, Bool.and_self, if_true,
    List.isEmpty_cons, List.foldl_cons, List.foldl_nil, reduceCtorEq, if_false, Bool.false_eq_true]
  rfl

/-- One that reads uncorrectably: zeros, and the die's flag. -/
theorem State.lineIn_of_bad {c l : Nat} {x : Transfer} {e : Xfer} {s : State} (hl : l < 9) (hpos : x.positions = [l])
    (he : xferOf (s.laneP (flatPos c l)) x = some e) :
    s.lineIn c x .bad = (s.flagDie (c / 16)).setLaneP (flatPos c l) (((s.flagDie (c / 16)).laneP (flatPos c l)).lineIn x e fun _ => 0) := by
  have hflag : xferOf ((s.flagDie (c / 16)).laneP (flatPos c l)) x = some e := by
    rw [← he]
    unfold State.flagDie
    split <;> rfl
  unfold State.lineIn
  simp only [hpos, List.filter_cons, List.filter_nil, hl, he, decide_true, Option.isSome_some, Bool.and_self, if_true,
    List.isEmpty_cons, List.foldl_cons, List.foldl_nil, reduceCtorEq, if_false, Bool.false_eq_true, hflag]
  rfl

theorem State.flagDie_flag (s : State) (d : Nat) :
    (if d = 0 then (s.flagDie d).eng.flag0 else (s.flagDie d).eng.flag1) = true := by
  unfold State.flagDie
  by_cases h : d = 0
  · rw [if_pos h, if_pos h]
  · rw [if_neg h, if_neg h]

/-- Settles O4: a bundle, a wait and the end of a pass by what `doBundle` does, a line by the unit's movement. -/
theorem laneRowsTakeEffect : Obligations.LaneRowsTakeEffect := by
  refine ⟨?bundle, ?wait, ?last, ?overdue, ?out, ?into, ?ready⟩
  case bundle =>
    intro p kid s x k w i hp hlog hhalt hfault hx hwait hseq hmust hfetch hecc hkid hk hw hbits hctl hax hay hcx hcy hend hi
    refine congrArg Host.Outcome.next ((doBundle_of_running hp hlog hhalt hfault hx hwait _).trans ((match_seq_run hseq).trans ?_))
    rw [if_neg (by rw [hmust]; exact Bool.false_ne_true)]
    exact State.issue_clean hfetch hecc hkid hk hw hbits hctl hax hay hcx hcy hend hi
  case wait =>
    intro p s x hp hlog hhalt hfault hx hwait hseq hmust hfetch
    refine congrArg Host.Outcome.next ((doBundle_of_running hp hlog hhalt hfault hx hwait _).trans ((match_seq_run hseq).trans ?_))
    rw [if_pos (by rw [hmust, hfetch]; rfl)]
    rfl
  case last =>
    intro p hw s x hp hlog hhalt hfault hx hwait hseq hrun
    exact congrArg Host.Outcome.next ((doBundle_of_running hp hlog hhalt hfault hx hwait hw).trans (match_seq_between hseq hrun))
  case overdue => exact fun p s r hrun hhalt hfault hlate => congrArg Host.Outcome.next (doOverdue_of_late hrun hhalt hfault hlate)
  case out =>
    intro c l x e s hc hl hregion haddr hpos hdir hfin he hecc
    have hmove (flips : List (Nat × Nat)) : doTransfer c { x with flips := flips } s = s.lineOut c l { x with flips := flips } :=
      (doTransfer_of_range (x := { x with flips := flips }) hc hl hregion haddr hpos hfin).trans (if_neg (by simp [hdir]))
    constructor
    · intro w i j hw hi hj hne
      exact congrArg Host.Outcome.next ((hmove _).trans
        (State.lineOut_of_upset (x := { x with flips := [(w, i), (w, j)] }) he hecc hw hi hj hne rfl))
    · refine ⟨_, congrArg Host.Outcome.next ((hmove _).trans (State.lineOut_of_sound (x := { x with flips := [] }) he hecc rfl)),
        fun w hw => ?_, ?_, rfl⟩
      · exact State.setRegion_line (s := s) (k := x.regionLine * 8)
          (v := fun n => laneRead (s.laneP (flatPos c l)).mem (x.laneAddr / 8 * 8 + n)) hw (c / 4)
      · rw [State.laneP_setLaneP_same]
  case into =>
    intro c l x e s hc hl hregion haddr hpos hdir hfin he
    have hmove (read : Ecc) : doTransfer c { x with read := read } s = s.lineIn c { x with read := read } read :=
      (doTransfer_of_range (x := { x with read := read }) hc hl hregion haddr hpos hfin).trans (if_pos hdir)
    constructor
    · refine ⟨_, congrArg Host.Outcome.next ((hmove _).trans (State.lineIn_of_sound (x := { x with read := .ok }) hl hpos he)),
        fun w hw => ?_, ?_, rfl, rfl⟩
      · rw [State.laneP_setLaneP_same]
        exact LaneP.lineIn_mem _ { x with read := .ok } _ _ hw
      · rw [State.laneP_setLaneP_same]
        exact LaneP.lineIn_ready _ { x with read := .ok } _ _
    · refine ⟨_, congrArg Host.Outcome.next ((hmove _).trans (State.lineIn_of_bad (x := { x with read := .bad }) hl hpos he)),
        fun w hw => ?_, s.flagDie_flag (c / 16)⟩
      rw [State.laneP_setLaneP_same]
      exact LaneP.lineIn_mem _ { x with read := .bad } _ _ hw
  case ready =>
    exact fun p hw s x hp hwait hhalt hfault hx hready => congrArg Host.Outcome.next (doWaitEnd_of_ready hp hwait hhalt hfault hx hready)

end Sys2Proof.Machine
end

section
/-! Writes of registers: clears, locks, shadowed fields and plain ones. -/
namespace Sys2Proof.Machine

/-! ### Clearing counters (R931) -/

theorem State.word_clrWords (os : List Nat) : ∀ (s : State) (o : Nat),
    (s.clrWords os).word o = if o ∈ os then resetWord o else s.word o := by
  induction os with
  | nil => intro s o; rfl
  | cons a r ih =>
    intro s o
    change ((s.setWord a (resetWord a)).clrWords r).word o = _
    rw [ih]
    by_cases hr : o ∈ r
    · rw [if_pos hr, if_pos (List.mem_cons_of_mem _ hr)]
    · rw [if_neg hr]
      by_cases ha : o = a
      · subst ha
        rw [if_pos List.mem_cons_self, State.word_setWord_same]
      · rw [if_neg (by simp [ha, hr]), State.word_setWord_other _ _ ha]

theorem State.word_clrWords_other (s : State) {os : List Nat} {o : Nat} (h : o ∉ os) : (s.clrWords os).word o = s.word o := by
  rw [State.word_clrWords, if_neg h]

/-- Clearing fields leaves the registers that hold none of them. -/
theorem State.word_clr_other (fs : List Fld) : ∀ (s : State) {o : Nat}, (∀ f ∈ fs, f.off ≠ o) → (s.clr fs).word o = s.word o := by
  induction fs with
  | nil => intro s o _; rfl
  | cons f r ih =>
    intro s o h
    obtain ⟨hf, hr⟩ := List.forall_mem_cons.mp h
    change ((s.wr f _).clr r).word o = _
    rw [ih _ hr, State.word_wr_other _ _ _ (Ne.symm hf)]

theorem arrIdx_ctrl {p : Nat} (hp : p < 32) : arrIdx 0xD002C 64 32 (0xD002C + 64 * p) = some p :=
  arrIdx_elem (by decide) hp

theorem mem_clearOffs {off : Nat} (h : off ∈ clearOffs) :
    off ∈ [0x10008, 0x1003C, 0x20010, 0x40000, 0x60000, 0x7003C, 0x80000, 0x90000, 0xA0000, 0xC0000, 0x100000, 0x120000,
      0x140000, 0x150000, 0x160000, 0x170000, 0x180000, 0x190000] ∨ ∃ p < 32, off = 0xD002C + 64 * p := by
  rcases List.mem_append.mp h with h | h
  · exact .inl h
  · obtain ⟨p, hp, rfl⟩ := List.mem_map.mp h
    exact .inr ⟨p, List.mem_range.mp hp, rfl⟩

/-- The port's own clear. -/
theorem State.clearAt_port (s : State) {p : Nat} (hp : p < 32) :
    s.clearAt (0xD002C + 64 * p) = s.clrWords [0xD0018 + 64 * p, 0xD001C + 64 * p, 0xD0020 + 64 * p] := by
  unfold State.clearAt
  split
  iterate 18 · omega
  rw [arrIdx_ctrl hp]

theorem clearedBy_port {p : Nat} (hp : p < 32) :
    clearedBy (0xD002C + 64 * p) = [0xD0018 + 64 * p, 0xD001C + 64 * p, 0xD0020 + 64 * p] := by
  unfold clearedBy
  split
  iterate 10 · omega
  rw [arrIdx_ctrl hp]

/-- Whole registers cleared before some fields elsewhere. -/
theorem State.word_clr_clrWords (s : State) {os : List Nat} {fs : List Fld} {o : Nat} (hmem : o ∈ os) (hfs : ∀ f ∈ fs, f.off ≠ o) :
    ((s.clrWords os).clr fs).word o = resetWord o := by
  rw [State.word_clr_other fs _ hfs, State.word_clrWords, if_pos hmem]

/-- A clear takes each counter register that its block names back to its Reset value. -/
theorem State.word_clearAt (s : State) {off c : Nat} (hoff : off ∈ clearOffs) (hc : c ∈ clearedBy off) :
    (s.clearAt off).word c = resetWord c := by
  have hwhole (t : State) {os : List Nat} (h : c ∈ os) : (t.clrWords os).word c = resetWord c := by
    rw [State.word_clrWords, if_pos h]
  rcases mem_clearOffs hoff with h | ⟨p, hp, rfl⟩
  · simp only [List.mem_cons, List.not_mem_nil, or_false] at h
    rcases h with rfl | rfl | rfl | rfl | rfl | rfl | rfl | rfl | rfl | rfl | rfl | rfl | rfl | rfl | rfl | rfl | rfl | rfl
    · exact absurd hc List.not_mem_nil
    · exact hwhole _ hc
    · exact absurd hc List.not_mem_nil
    · exact absurd hc List.not_mem_nil
    · exact State.word_clr_clrWords _ hc ((by decide : ∀ c ∈ clearedBy 0x60000, ∀ f ∈ Reg.GUARD.OUVSTAT.CRCERR :: (List.range 8).map fun r => Reg.GUARD.ALT.ENTRIES r, f.off ≠ c) c hc)
    · exact hwhole _ hc
    · exact hwhole _ hc
    · exact hwhole _ hc
    · exact hwhole _ hc
    · exact absurd hc List.not_mem_nil
    · exact hwhole _ hc
    · exact hwhole _ hc
    · exact absurd hc List.not_mem_nil
    · exact State.word_clr_clrWords _ hc ((by decide : ∀ c ∈ clearedBy 0x150000, ∀ f ∈ ((List.range 14).map fun m => Reg.BUS.M.STAT.RESETS m) ++ (List.range 9).map fun t => Reg.BUS.T.STAT.WAITMAX t, f.off ≠ c) c hc)
    · exact State.word_clr_clrWords _ hc ((by decide : ∀ c ∈ clearedBy 0x160000, ∀ f ∈ [Reg.DRAM.REF.FORCED], f.off ≠ c) c hc)
    · exact absurd hc List.not_mem_nil
    · exact absurd hc List.not_mem_nil
    · exact absurd hc List.not_mem_nil
  · rw [clearedBy_port hp] at hc
    rw [State.clearAt_port s hp]
    exact hwhole s hc

/-! ### What stands behind a write (R8, R931, R934) -/

theorem arrIdx_none {base stride count off : Nat} (h : (off - base) % stride ≠ 0) : arrIdx base stride count off = none := by
  unfold arrIdx
  rw [if_neg (by simp [h])]

/-- Outside HOST a clearing register sets off its clear alone. -/
theorem State.hook_of_clear (t old : State) (q : Requester) {off : Nat} {v : Word} (hoff : off ∈ clearOffs)
    (hhost : off ≠ 0x140000) (hv : getBits v 0 1 = 1) : t.hook old q off v = t.clearAt off := by
  unfold State.hook
  rw [if_pos (by simp [hoff, hv])]
  rcases mem_clearOffs hoff with h | ⟨p, hp, rfl⟩
  · simp only [List.mem_cons, List.not_mem_nil, or_false] at h
    rcases h with rfl | rfl | rfl | rfl | rfl | rfl | rfl | rfl | rfl | rfl | rfl | rfl | rfl | rfl | rfl | rfl | rfl | rfl
    iterate 12 · rfl
    · exact absurd rfl hhost
    iterate 5 · rfl
  · have hblock : (0xD002C + 64 * p) / 0x10000 = 13 := by omega
    have hport : arrIdx 0xD0000 64 32 (0xD002C + 64 * p) = none := arrIdx_none (by omega)
    have hmask : arrIdx 0xD0010 64 32 (0xD002C + 64 * p) = none := arrIdx_none (by omega)
    rw [hblock]
    unfold State.hookSap
    rw [hport, hmask]
    rfl

/-- The registers that counting a violation and showing EVAL leave: all but `SYS.VIOL_COUNT`, `SEC.STATUS` and the head of
the silt log. -/
def besideWrites (o : Nat) : Prop :=
  o ≠ Reg.SYS.VIOL_COUNT.PCIE.off ∧ o ≠ Reg.SEC.STATUS.EVAL.off ∧ o ≠ Reg.STORE.SILT.HEAD.off

/-- What a write stores: its word, or the item of its shadowed fields. -/
def State.written (s : State) (off : Nat) (fs : List RField) (v : Word) : State :=
  let s1 := s.setWord off (fs.foldl (s.writeField off v) (s.word off, false)).1
  if fs.any (fun f => f.ty == .sh) then s1.shItem off v else s1

theorem State.writeMapped_eq (s : State) (q : Requester) (off : Nat) (fs : List RField) (v : Word) :
    s.writeMapped q off fs v = (if (fs.foldl (s.writeField off v) (s.word off, false)).2 then
      ((s.written off fs v).hook s q off v).violate q else (s.written off fs v).hook s q off v).showEval s := rfl

theorem State.word_writeMapped (s : State) (q : Requester) (off : Nat) (fs : List RField) (v : Word) {o : Nat}
    (ho : besideWrites o) : (s.writeMapped q off fs v).word o = ((s.written off fs v).hook s q off v).word o := by
  obtain ⟨hviol, hstatus, hhead⟩ := ho
  rw [State.writeMapped_eq, State.word_showEval _ _ hstatus hhead]
  split
  · exact State.word_violate_other _ _ hviol
  · rfl

/-- They lie in the blocks SYS, STORE and SEC. -/
theorem besideWrites_of_range {o : Nat} (h : 0x10000 ≤ o ∧ o < 0x180000) : besideWrites o := by
  obtain ⟨hlow, hhigh⟩ := h
  refine ⟨?_, ?_, ?_⟩ <;> rintro rfl
  · exact absurd hlow (by decide)
  · exact absurd hhigh (by decide)
  · exact absurd hhigh (by decide)

theorem clearedBy_range {off c : Nat} (hoff : off ∈ clearOffs) (hc : c ∈ clearedBy off) : 0x10000 ≤ c ∧ c < 0x180000 := by
  rcases mem_clearOffs hoff with h | ⟨p, hp, rfl⟩
  · exact (by decide +kernel : ∀ off ∈ [0x10008, 0x1003C, 0x20010, 0x40000, 0x60000, 0x7003C, 0x80000, 0x90000, 0xA0000, 0xC0000,
      0x100000, 0x120000, 0x140000, 0x150000, 0x160000, 0x170000, 0x180000, 0x190000], ∀ c ∈ clearedBy off,
        0x10000 ≤ c ∧ c < 0x180000) off h c hc
  · rw [clearedBy_port hp] at hc
    simp only [List.mem_cons, List.not_mem_nil, or_false] at hc
    omega

/-- A write of CLR_CNT leaves each counter register that its block names at its Reset value (R931). -/
theorem State.word_writeMapped_cleared (s : State) (q : Requester) {off c : Nat} (fs : List RField) {v : Word}
    (hoff : off ∈ clearOffs) (hv : getBits v 0 1 = 1) (hc : c ∈ clearedBy off) :
    (s.writeMapped q off fs v).word c = resetWord c := by
  have hhost : off ≠ 0x140000 := by
    rintro rfl
    exact absurd hc List.not_mem_nil
  have hbeside : besideWrites c := besideWrites_of_range (clearedBy_range hoff hc)
  rw [State.word_writeMapped s q off fs v hbeside, State.hook_of_clear _ s q hoff hhost hv, State.word_clearAt _ hoff hc]

/-! ### Writes in the blocks whose registers set nothing off (R8) -/

theorem State.written_of_plain (s : State) (off : Nat) {fs : List RField} (v : Word) (h : (fs.any fun f => f.ty == .sh) = false) :
    s.written off fs v = s.setWord off (fs.foldl (s.writeField off v) (s.word off, false)).1 :=
  if_neg (by rw [h]; exact Bool.false_ne_true)

/-- The blocks without a hook of their own. -/
theorem State.hook_of_quiet (t old : State) (q : Requester) {off : Nat} (v : Word)
    (hblock : off / 0x10000 ∈ [1, 2, 6, 10, 12, 18, 21, 22]) (hclear : clearOffs.contains off = false) :
    t.hook old q off v = t := by
  unfold State.hook
  rw [if_neg (by simp only [hclear, Bool.false_and, Bool.false_eq_true, not_false_iff])]
  simp only [List.mem_cons, List.not_mem_nil, or_false] at hblock
  rcases hblock with h | h | h | h | h | h | h | h <;> rw [h] <;> rfl

/-! ### What leaves the transaction slots and the parameters -/

/-- The transaction slots and the parameters. -/
def State.scene (s : State) : TxnS × Tbl Word36 := (s.txn, s.params)

@[simp] theorem State.scene_post (s : State) (t : Nat) (p : List Byte) : (s.post t p).scene = s.scene :=
  Prod.ext (State.post_txn s t p) (State.post_params s t p)

theorem State.scene_foldl {α : Type} {f : State → α → State} (h : ∀ a x, (f a x).scene = a.scene) (l : List α) :
    ∀ s : State, (l.foldl f s).scene = s.scene := by
  induction l with
  | nil => intro s; rfl
  | cons x r ih =>
    intro s
    rw [List.foldl_cons, ih, h]

@[simp] theorem State.scene_setMc (s : State) (n : Nat) (x : ModCh) : (s.setMc n x).scene = s.scene := rfl

@[simp] theorem State.scene_showCh (s : State) (n : Nat) : (s.showCh n).scene = s.scene := by
  unfold State.showCh
  dsimp only
  split
  · rfl
  · rfl

@[simp] theorem State.scene_eachCh (s : State) (g : Nat) (f : Nat → ModCh → ModCh) : (s.eachCh g f).scene = s.scene :=
  State.scene_foldl (fun a n => (State.scene_showCh (a.setMc n (f n (a.mc n))) n).trans (a.scene_setMc n _)) _ s

@[simp] theorem State.scene_chooseCarrier (s : State) (g tick : Nat) : (s.chooseCarrier g tick).scene = s.scene := by
  unfold State.chooseCarrier
  extract_lets
  split
  · rfl
  · extract_lets
    split
    · rfl
    · exact State.scene_post _ _ _

@[simp] theorem scene_groupOn (g : Nat) (s : State) : (groupOn g s).scene = s.scene := by
  unfold groupOn
  split
  · rfl
  · split
    · rfl
    · exact (State.scene_eachCh _ _ _).trans (State.scene_chooseCarrier _ _ _)

@[simp] theorem scene_groupOff (g : Nat) (s : State) : (groupOff g s).scene = s.scene :=
  State.scene_eachCh _ _ _

@[simp] theorem scene_chanEnable (n : Nat) (on : Bool) (s : State) : (chanEnable n on s).scene = s.scene := by
  unfold chanEnable
  extract_lets
  split
  · exact State.scene_showCh _ _
  · split
    · exact State.scene_showCh _ _
    · exact State.scene_showCh _ _

theorem State.scene_hookMod (s old : State) (off : Nat) (w : Word) : (s.hookMod old off w).scene = s.scene := by
  unfold State.hookMod
  split
  · split
    · exact scene_groupOn _ s
    · split
      · exact scene_groupOff _ s
      · rfl
  · split
    · split
      · exact scene_chanEnable _ _ s
      · rfl
    · rfl

theorem State.scene_showEval (s old : State) : (s.showEval old).scene = s.scene := by
  unfold State.showEval
  dsimp only
  split
  · rfl
  · rfl

/-- A register item enters a slot; it changes no parameter (R363). -/
theorem State.params_shItem (s : State) (off : Nat) (v : Word) : (s.shItem off v).params = s.params := by
  unfold State.shItem State.barItem
  split
  · unfold State.addOpen
    split <;> rfl
  · split
    · rfl
    · unfold State.addCollect
      split <;> rfl

/-- Whether no register of a block has a shadowed field. -/
def unshadowed (l : List RDesc) : Bool := l.all fun d => d.fields.all fun f => f.ty != .sh

theorem not_shadow_of_unshadowed {l : List RDesc} {d : RDesc} (hl : unshadowed l = true) (hd : d ∈ l) :
    (d.fields.any fun f => f.ty == .sh) ≠ true := by
  intro h
  obtain ⟨f, hf, hsh⟩ := List.any_eq_true.mp h
  have hno := List.all_eq_true.mp (List.all_eq_true.mp hl d hd) f hf
  simp [beq_iff_eq.mp hsh] at hno

theorem unshadowed_ite {c : Prop} [Decidable c] {a b : List RDesc} (ha : c → unshadowed a = true)
    (hb : ¬ c → unshadowed b = true) : unshadowed (if c then a else b) = true := by
  by_cases h : c
  · rw [if_pos h]
    exact ha h
  · rw [if_neg h]
    exact hb h

/-- Only the blocks TICK, GRAPH and MOD have shadowed fields (chapters 1, 2 and 12). -/
theorem unshadowed_blockRegs {off : Nat} (h : off / 0x10000 ∉ [1, 2, 3, 16, 17]) : unshadowed (blockRegs off) = true := by
  simp only [List.mem_cons, List.not_mem_nil, or_false] at h
  unfold blockRegs
  refine unshadowed_ite (fun _ => rfl) fun _ => ?_
  refine unshadowed_ite (fun _ => by omega) fun _ => ?_
  refine unshadowed_ite (fun _ => by omega) fun _ => ?_
  iterate 8 refine unshadowed_ite (fun _ => rfl) fun _ => ?_
  refine unshadowed_ite (fun _ => by omega) fun _ => ?_
  iterate 8 refine unshadowed_ite (fun _ => rfl) fun _ => ?_
  rfl

theorem block_of_shadow {off : Nat} {fs : List RField} (hfs : regFields off = some fs) (hsh : (fs.any fun f => f.ty == .sh) = true) :
    off / 0x10000 ∈ [1, 2, 3, 16, 17] := by
  unfold regFields at hfs
  obtain ⟨d, hfind, rfl⟩ := Option.map_eq_some_iff.mp hfs
  by_contra hblock
  exact not_shadow_of_unshadowed (unshadowed_blockRegs hblock) (List.mem_of_find?_eq_some hfind) hsh

/-- What a write of shadowed fields sets off leaves the slots and the parameters: no clearing register has any. -/
theorem State.scene_hook_of_shadow (s old : State) (q : Requester) {off : Nat} (v : Word)
    (hblock : off / 0x10000 ∈ [1, 2, 3, 16, 17]) (hclear : clearOffs.contains off = false) :
    (s.hook old q off v).scene = s.scene := by
  unfold State.hook
  rw [if_neg (by simp only [hclear, Bool.false_and, Bool.false_eq_true, not_false_iff])]
  simp only [List.mem_cons, List.not_mem_nil, or_false] at hblock
  rcases hblock with h | h | h | h | h <;> rw [h]
  case inr.inr.inr.inl => exact State.scene_hookMod s old off v
  case inr.inr.inr.inr => exact State.scene_hookMod s old off v
  all_goals rfl

theorem not_clear_of_shadow {off : Nat} {fs : List RField} (hfs : regFields off = some fs)
    (hsh : (fs.any fun f => f.ty == .sh) = true) : clearOffs.contains off = false := by
  rw [List.contains_eq_mem, decide_eq_false_iff_not]
  intro hoff
  have hplain : ∀ o ∈ clearOffs, ((regFields o).any fun fs => fs.any fun f => f.ty == .sh) = false := by decide +kernel
  have h := hplain off hoff
  rw [hfs] at h
  exact Bool.false_ne_true (h.symm.trans hsh)

/-! ### The lock bits (R715, R934) -/

/-- The control registers with a lock bit (Table 20.1). -/
def lockOffs : List Nat := [0x100000, 0x120000, 0x140000, 0x150000, 0x160000, 0x190000]

/-- Their fields: CLR_CNT and LOCK. -/
def lockFields : List RField := [⟨0, 1, .wo, 0⟩, ⟨1, 1, .w1s, 0⟩]

theorem regFields_lock : ∀ off ∈ lockOffs, regFields off = some lockFields := by decide +kernel

theorem lockFld_own {off : Nat} {f : Fld} (h : lockFld off = some f) (hown : f.off = off) : off ∈ lockOffs ∧ f = ⟨off, 1, 1⟩ := by
  unfold lockFld at h
  split at h
  case h_10 => exact absurd h (Option.some_ne_none f).symm
  all_goals
    obtain rfl := Option.some.inj h
    subst hown
    exact ⟨by decide, rfl⟩

/-- A written 1 is taken. -/
theorem State.fieldOk_lock (s : State) {off : Nat} (hoff : off ∈ lockOffs) (v : Word) : s.fieldOk off 1 (getBits v 1 1) v = true := by
  simp only [lockOffs, List.mem_cons, List.not_mem_nil, or_false] at hoff
  rcases hoff with rfl | rfl | rfl | rfl | rfl | rfl <;> rfl

/-- A clear leaves the register that holds its bit. -/
theorem State.word_clearAt_own (t : State) {off : Nat} (hoff : off ∈ lockOffs) : (t.clearAt off).word off = t.word off := by
  simp only [lockOffs, List.mem_cons, List.not_mem_nil, or_false] at hoff
  rcases hoff with rfl | rfl | rfl | rfl | rfl | rfl
  · exact State.word_clrWords_other t (by decide)
  · exact State.word_clrWords_other t (by decide)
  · exact (State.word_clr_other [Reg.HOST.STAT.CPL0LOST] _ (by decide)).trans (State.word_clrWords_other t (by decide))
  · exact (State.word_clr_other (((List.range 14).map fun m => Reg.BUS.M.STAT.RESETS m) ++
      (List.range 9).map fun t => Reg.BUS.T.STAT.WAITMAX t) _ (by decide)).trans (State.word_clrWords_other _ (by decide))
  · exact (State.word_clr_other [Reg.DRAM.REF.FORCED] _ (by decide)).trans (State.word_clrWords_other t (by decide))
  · exact State.word_clrWords_other t (by decide)

/-- What a written CLR_CNT bit leaves behind the stored word. -/
def State.cleared (t : State) (off : Nat) (v : Word) : State :=
  if clearOffs.contains off && getBits v 0 1 = 1 then t.clearAt off else t

theorem State.word_cleared_own (t : State) {off : Nat} (hoff : off ∈ lockOffs) (v : Word) : (t.cleared off v).word off = t.word off := by
  unfold State.cleared
  split
  · exact t.word_clearAt_own hoff
  · rfl

/-- The lock of HOST, which REQ makes hard (R715). -/
theorem State.hook_hostCtrl (t old : State) (q : Requester) (v : Word) :
    t.hook old q 0x140000 v =
      if (t.cleared 0x140000 v).on Reg.HOST.CTRL.LOCK && !old.on Reg.HOST.CTRL.LOCK && (t.cleared 0x140000 v).on Reg.HOST.CFG.REQ then
        ({ t.cleared 0x140000 v with host := { (t.cleared 0x140000 v).host with lockHard := true } } : State).put Reg.HOST.STAT.LOCKED true
      else t.cleared 0x140000 v := rfl

/-- What a write of a control register sets off leaves the register. -/
theorem State.word_hook_own (t old : State) (q : Requester) {off : Nat} (hoff : off ∈ lockOffs) (v : Word) :
    (t.hook old q off v).word off = t.word off := by
  have hown := t.word_cleared_own hoff v
  simp only [lockOffs, List.mem_cons, List.not_mem_nil, or_false] at hoff
  rcases hoff with rfl | rfl | rfl | rfl | rfl | rfl
  · exact hown
  · exact hown
  · rw [State.hook_hostCtrl]
    split
    · exact (State.word_wr_other _ _ _ (by decide)).trans hown
    · exact hown
  · exact hown
  · exact hown
  · exact hown

/-- The stored word of a control register holds the lock where a 1 was written. -/
theorem State.lock_written (s : State) {off : Nat} (hoff : off ∈ lockOffs) {v : Word} (hv : getBits v 1 1 = 1) :
    getBits ((s.written off lockFields v).word off) 1 1 = 1 := by
  have hold : getBits (s.word off) 1 1 < 2 := Nat.mod_lt _ (by decide)
  have hstored : (lockFields.foldl (s.writeField off v) (s.word off, false)).1 =
      putBits (s.word off) 1 1 (getBits (s.word off) 1 1 ||| getBits v 1 1) := by
    simp only [lockFields, List.foldl_cons, List.foldl_nil, State.writeField, s.fieldOk_lock hoff v, if_true]
  rw [s.written_of_plain off v rfl, State.word_setWord_same, hstored, getBits_putBits_same _ _ _ _ (by decide), hv]
  generalize getBits (s.word off) 1 1 = n at hold
  interval_cases n <;> rfl

theorem besideWrites_lock : ∀ off ∈ lockOffs, besideWrites off := by
  unfold besideWrites
  decide

/-- A write of 1 to a lock bit leaves it set (R934). -/
theorem State.on_lock_writeMapped (s : State) (q : Requester) {off : Nat} (hoff : off ∈ lockOffs) {v : Word} (hv : getBits v 1 1 = 1) :
    (s.writeMapped q off lockFields v).on ⟨off, 1, 1⟩ = true := by
  unfold State.on State.rd
  rw [s.word_writeMapped q off lockFields v (besideWrites_lock off hoff), State.word_hook_own _ s q hoff v,
    s.lock_written hoff hv]
  rfl

/-- The clear of HOST leaves `HOST.CFG`. -/
theorem State.word_cleared_cfg (t : State) (v : Word) :
    (t.cleared 0x140000 v).word Reg.HOST.CFG.REQ.off = t.word Reg.HOST.CFG.REQ.off := by
  unfold State.cleared
  split
  · exact (State.word_clr_other [Reg.HOST.STAT.CPL0LOST] _ (by decide)).trans (State.word_clrWords_other t (by decide))
  · rfl

/-- Counting a violation and showing EVAL stand outside HOST. -/
theorem State.keepsHost_hook_writeMapped (s : State) (q : Requester) (off : Nat) (fs : List RField) (v : Word) :
    ((s.written off fs v).hook s q off v).KeepsHost (s.writeMapped q off fs v) := by
  rw [State.writeMapped_eq]
  refine State.KeepsHost.showEval ?_ s
  split
  · exact (State.KeepsHost.refl _).violate q
  · exact .refl _

/-- With REQ at 1 the lock of HOST is hard from its write on, and shows (R715). -/
theorem State.hard_lock_writeMapped (s : State) (q : Requester) {v : Word} (hv : getBits v 1 1 = 1)
    (hopen : s.on Reg.HOST.CTRL.LOCK = false) (hreq : s.on Reg.HOST.CFG.REQ = true) :
    (s.writeMapped q 0x140000 lockFields v).host.lockHard = true ∧
      (s.writeMapped q 0x140000 lockFields v).on Reg.HOST.STAT.LOCKED = true := by
  have hoff : 0x140000 ∈ lockOffs := by decide
  have hlock : ((s.written 0x140000 lockFields v).cleared 0x140000 v).on Reg.HOST.CTRL.LOCK = true :=
    congrArg (· != 0) ((congrArg (getBits · 1 1) (State.word_cleared_own _ hoff v)).trans (s.lock_written hoff hv))
  have hcfg : ((s.written 0x140000 lockFields v).cleared 0x140000 v).on Reg.HOST.CFG.REQ = true := by
    unfold State.on State.rd
    rw [State.word_cleared_cfg, s.written_of_plain _ v rfl, State.word_setWord_other _ _ (by decide)]
    exact hreq
  have hhook : (s.written 0x140000 lockFields v).hook s q 0x140000 v =
      ({ (s.written 0x140000 lockFields v).cleared 0x140000 v with
        host := { ((s.written 0x140000 lockFields v).cleared 0x140000 v).host with lockHard := true } } : State).put
          Reg.HOST.STAT.LOCKED true := by
    rw [State.hook_hostCtrl, if_pos (by rw [hlock, hopen, hcfg]; rfl)]
  have hkeeps := State.keepsHost_hook_writeMapped s q 0x140000 lockFields v
  rw [hhook] at hkeeps
  exact ⟨congrArg HostS.lockHard hkeeps.host, (hkeeps.on (by decide)).trans (State.rd_put_same _ _ _ rfl rfl)⟩

/-- A write of shadowed fields makes its register item and changes no parameter (R363, R936). -/
theorem State.scene_writeMapped_shadow (s : State) (q : Requester) {off : Nat} {fs : List RField} (v : Word)
    (hfs : regFields off = some fs) (hsh : (fs.any fun f => f.ty == .sh) = true) :
    (s.writeMapped q off fs v).scene =
      ((s.setWord off (fs.foldl (s.writeField off v) (s.word off, false)).1).shItem off v).scene := by
  have hstored : s.written off fs v = (s.setWord off (fs.foldl (s.writeField off v) (s.word off, false)).1).shItem off v :=
    if_pos hsh
  have hhook := State.scene_hook_of_shadow (s.written off fs v) s q v (block_of_shadow hfs hsh) (not_clear_of_shadow hfs hsh)
  rw [State.writeMapped_eq, State.scene_showEval, ← hstored]
  split
  · exact hhook
  · exact hhook

/-- In a block without a hook a write stores its word, and leaves the other registers and the parameters (R8). -/
theorem State.writeMapped_quiet (s : State) (q : Requester) {off : Nat} {fs : List RField} (v : Word)
    (hblock : off / 0x10000 ∈ [1, 2, 6, 10, 12, 18, 21, 22]) (hclear : clearOffs.contains off = false)
    (hsh : (fs.any fun f => f.ty == .sh) = false) :
    (s.writeMapped q off fs v).word off = (fs.foldl (s.writeField off v) (s.word off, false)).1 ∧
      (s.writeMapped q off fs v).params = s.params ∧
      ∀ o, o / 0x10000 ∈ [1, 2, 6, 10, 12, 18, 21, 22] → o ≠ off → (s.writeMapped q off fs v).word o = s.word o := by
  have hbeside {o : Nat} (ho : o / 0x10000 ∈ [1, 2, 6, 10, 12, 18, 21, 22]) : besideWrites o := by
    simp only [List.mem_cons, List.not_mem_nil, or_false] at ho
    exact besideWrites_of_range (by omega)
  have hhook : (s.written off fs v).hook s q off v = s.setWord off (fs.foldl (s.writeField off v) (s.word off, false)).1 := by
    rw [State.hook_of_quiet _ s q v hblock hclear, s.written_of_plain off v hsh]
  refine ⟨?_, ?_, fun o ho hne => ?_⟩
  · rw [s.word_writeMapped q off fs v (hbeside hblock), hhook, State.word_setWord_same]
  · have hscene : (s.writeMapped q off fs v).scene = s.scene := by
      rw [State.writeMapped_eq, State.scene_showEval, hhook]
      split <;> rfl
    exact congrArg Prod.snd hscene
  · rw [s.word_writeMapped q off fs v (hbeside ho), hhook, State.word_setWord_other _ _ hne]

/-- A row that acts under a condition on its operands is then the write of its register. -/
theorem next_write_of {c : Prop} [Decidable c] {s : State} {q : Requester} {off : Nat} {fs : List RField}
    (hc : c) (hw : s.Writes q off fs) (v : Word) :
    (Host.Outcome.next (if c then s.writeReg q off v else s) : Out) = .next (s.writeMapped q off fs v) :=
  congrArg Host.Outcome.next ((if_pos hc).trans (State.writeReg_of_writes hw v))

/-- Settles O12: each row is its register's write; what a plain write, a shadowed one, a lock and a clear leave is said by
the lemmas about `writeMapped`. -/
theorem registerWriteRowsTakeEffect : Obligations.RegisterWriteRowsTakeEffect := by
  refine ⟨?plain, ?shadow, ?ringOn, ?ringOff, ?evtOn, ?evtOff, ?hostLock, ?blockLock, ?clear, ?switch, ?ptp, ?arm, ?disarm,
    ?portStart, ?portStop, ?mask, ?group, ?dmaStart, ?dmaStop, ?dmaAppend, ?soft⟩
  case plain =>
    exact fun q v off s fs hw => ⟨_, congrArg Host.Outcome.next ((if_pos rfl).trans (State.writeReg_of_writes hw v)), rfl, fun hblock hclear hsh =>
      s.writeMapped_quiet q v hblock hclear hsh⟩
  case shadow =>
    intro q v off s fs hw hsh
    have hscene := s.scene_writeMapped_shadow q v hw.mapped hsh
    refine ⟨_, next_write_of (by simpa [hw.mapped] using hsh) hw v, rfl, congrArg Prod.fst hscene, ?_⟩
    exact (congrArg Prod.snd hscene).trans (State.params_shItem _ off v)
  case ringOn => exact fun q v r s fs hw hr hv => next_write_of (by simp [hr, hv]) hw v
  case ringOff => exact fun q v r s fs hw hr hv => next_write_of (by simp [hr, hv]) hw v
  case evtOn => exact fun q v s fs hw hv => next_write_of hv hw v
  case evtOff => exact fun q v s fs hw hv => next_write_of hv hw v
  case hostLock =>
    intro q v s fs hw hv
    obtain rfl : lockFields = fs := Option.some.inj ((regFields_lock _ (by decide)).symm.trans hw.mapped)
    exact ⟨_, next_write_of hv hw v, rfl, s.on_lock_writeMapped q (off := 0x140000) (by decide) hv,
      fun hopen hreq => s.hard_lock_writeMapped q hv hopen hreq⟩
  case blockLock =>
    intro q v off s fs hw hlock hv
    refine ⟨_, next_write_of (by rw [hlock, hv]; rfl) hw v, rfl, fun f hf hown => ?_⟩
    obtain ⟨hoff, rfl⟩ := lockFld_own hf hown
    obtain rfl : lockFields = fs := Option.some.inj ((regFields_lock _ hoff).symm.trans hw.mapped)
    exact s.on_lock_writeMapped q hoff hv
  case clear =>
    exact fun q v off s fs hw hoff hv => ⟨_, next_write_of (by simp [hoff, hv]) hw v, rfl, fun c hc =>
      s.word_writeMapped_cleared q fs hoff hv hc⟩
  case switch => exact fun q v s fs hw => congrArg Host.Outcome.next (State.writeReg_of_writes hw v)
  case ptp => exact fun q v s fs hw => congrArg Host.Outcome.next (State.writeReg_of_writes hw v)
  case arm => exact fun q v j s fs hw hj hv => next_write_of (by simp [hj, hv]) hw v
  case disarm => exact fun q v j s fs hw hj hv => next_write_of (by simp [hj, hv]) hw v
  case portStart => exact fun q v p s fs hw hp hv => next_write_of (by simp [hp, hv]) hw v
  case portStop => exact fun q v p s fs hw hp hv => next_write_of (by simp [hp, hv]) hw v
  case mask => exact fun q v p s fs hw hp hv => next_write_of (by simp [hp, hv]) hw v
  case group => exact fun q v g s fs hw hg hv => next_write_of (by simp [hg, hv]) hw v
  case dmaStart => exact fun q v s fs hw => congrArg Host.Outcome.next (State.writeReg_of_writes hw v)
  case dmaStop => exact fun q v s fs hw => congrArg Host.Outcome.next (State.writeReg_of_writes hw v)
  case dmaAppend => exact fun q v s fs hw => congrArg Host.Outcome.next (State.writeReg_of_writes hw v)
  case soft => exact fun q v s fs hw => congrArg Host.Outcome.next (State.writeReg_of_writes hw v)

end Sys2Proof.Machine
end

section
/-! Host rings, and the steps of the local time. -/
namespace Sys2Proof.Machine

/-! ### Fetches, doorbells and nudges (R684 to R694, R719 to R722) -/

theorem doFetch_of_turn {r : Nat} {s : State} (ds : List RawDesc) (hr : r < 16) (hturn : s.fetchTurn r = true) :
    doFetch r ds s =
      (let got := (ds.take (s.fetchable r)).zipIdx.map (fun x => rawAt x.1 r ((s.ring r).cmdC + x.2) s.run)
       let c := ((s.ring r).cmdC + got.length) % 65536
       let u := ((s.linkSeen.setRing r { s.ring r with fetched := (s.ring r).fetched ++ got, cmdC := c }).wr
         (Reg.HOST.RING.STAT.CIDX r) c)
       pumpUnknown 8 r { u with host := { u.host with retried := u.host.retried.filter (fun x => x != r) } }) :=
  if_neg (by simp [Nat.not_le.mpr hr, hturn])

/-- The page's indices where polling is enabled. -/
theorem doPoll_of_enabled {s : State} (page : Doorbells) (hen : s.on Reg.HOST.CFG.DBEN = true) :
    doPoll page s = ((List.range 16).foldl (fun (a : State) r => (page.cpl[r]?).elim a (a.learnCpl r))
      ((List.range 16).foldl (fun (a : State) r => (page.cmd[r]?).elim a (a.learnCmd r)) s.linkSeen)).learnEvt page.evt := by
  unfold doPoll
  rw [if_neg (by simp [hen])]
  refine congrArg (State.learnEvt · page.evt) ((List.foldl_ext _ _ _ fun a r _ => ?_).trans
    (congrArg (List.foldl _ · _) (List.foldl_ext _ _ _ fun a r _ => ?_)))
  · cases page.cpl[r]? <;> rfl
  · cases page.cmd[r]? <;> rfl

/-- A timeout beneath a fetch is noted twice at most. -/
theorem doCplTimeout_of_first {r : Nat} {s : State} (hr : r < 16) (h : (s.host.retried.filter fun x => x == r).length < 2) :
    doCplTimeout r s = { s with host := { s.host with retried := s.host.retried ++ [r] } } :=
  if_neg (by simp [Nat.not_le.mpr hr, Nat.not_le.mpr h])

theorem doCplTimeout_of_third {r : Nat} {s : State} (h : 2 ≤ (s.host.retried.filter fun x => x == r).length) :
    doCplTimeout r s = s :=
  if_pos (by simp [h])

/-- What a missed deadline leaves behind it, whatever was fetched: the count, the link's generation and entry 0x0401. -/
def State.missed (s : State) (r : Nat) (k : FetchKind) (e : Bool) : State :=
  let n := (s.host.retried.filter fun x => x == r).length
  ((({ s with host := { s.host with retried := s.host.retried.filter fun x => x != r } } : State).count Reg.HOST.CNT.FTO).advanceGen
    0 4).siltWrite 0x0401 (le 1 r ++ le 1 (Config.fetchCode (fetchKindNo k)) ++ le 4 n ++ le 4 (if e || 0 < n then 1 else 0))

theorem doDeadline_descriptor {r : Nat} {e : Bool} {s : State} (hr : r < 16) :
    doDeadline r .descriptor e s = ((s.missed r .descriptor e).put (Reg.HOST.RING.STAT.HALT r) true).siltWrite 0x0403 [] :=
  if_neg (Nat.not_le.mpr hr)

theorem doDeadline_posted {r : Nat} {k : FetchKind} {e : Bool} {s : State} (hr : r < 16) (hk : k = .completion ∨ k = .event) :
    doDeadline r k e s = s.missed r k e := by
  obtain rfl | rfl := hk
  · exact if_neg (Nat.not_le.mpr hr)
  · exact if_neg (Nat.not_le.mpr hr)

theorem doDeadline_running {r : Nat} {k : FetchKind} {e : Bool} {s : State} (hr : r < 16) (hk : k = .input ∨ k = .response)
    (hrun : ((s.missed r k e).ring r).run.isSome = true) :
    doDeadline r k e s = (s.missed r k e).finish r stIoError
      (le 1 (if k = .response then 1 else 0) ++ le 1 (if e then 0 else 1)) [] := by
  obtain rfl | rfl := hk
  · exact (if_neg (Nat.not_le.mpr hr)).trans (if_pos hrun)
  · exact (if_neg (Nat.not_le.mpr hr)).trans (if_pos hrun)

/-! ### What waits for a free entry (R709, R725) -/

theorem HostS.owe_held (h : HostS) (v : Nat) : (h.owe v).cpl0Held = h.cpl0Held := by
  unfold HostS.owe
  split <;> rfl

@[simp] theorem State.writeCpl_held (s : State) (r : Nat) (c : Cpl) (key resp : List Byte) (n : Nat) :
    (s.writeCpl r c key resp n).host.cpl0Held = s.host.cpl0Held := by
  unfold State.writeCpl
  simp only [State.showFull_host]
  split
  · split
    · rfl
    · exact HostS.owe_held _ r
  · rfl

theorem drainCpl0_of_empty (n : Nat) {s : State} (h : s.host.cpl0Held = []) : drainCpl0 n s = s := by
  cases n with
  | zero => rfl
  | succ n => simp only [drainCpl0, h]

/-- The one held completion is written where an entry is free. -/
theorem drainCpl0_of_one (n : Nat) {s : State} {c : Cpl} (hheld : s.host.cpl0Held = [c]) (hfree : s.cplFree 0 ≠ 0)
    (hen : s.on (Reg.HOST.RING.CFG.EN 0) = true) :
    drainCpl0 (n + 1) s = ({ s with host := { s.host with cpl0Held := [] } } : State).writeCpl 0 c [] [] 0 := by
  have hguard : ¬ (decide (s.cplFree 0 = 0) || !s.on (Reg.HOST.RING.CFG.EN 0)) = true := by simp [hfree, hen]
  rw [drainCpl0, hheld]
  exact (if_neg hguard).trans (drainCpl0_of_empty n (State.writeCpl_held _ _ _ _ _ _))

/-- The one waiting event is written where the ring has room, and no edge waits behind it. -/
theorem State.drainEvents_of_one {s : State} {e : Evt} (hqueue : s.host.evQueue = [e]) (hlost : s.host.evLost = 0)
    (hedges : ∀ i < 16, (s.evins.getD i {}).queue = []) (hfree : 0 < s.evFree) :
    s.drainEvents = { s.writeEvt e with host := { (s.writeEvt e).host with evQueue := [] } } := by
  unfold State.drainEvents
  rw [if_neg (Nat.ne_of_gt hfree)]
  simp only [if_pos hlost, hqueue, drainFrom, if_pos hfree]
  exact State.postInputs_of_empty hedges

/-- Settles O15: each row by the lemma about its function. -/
theorem hostRingRowsTakeEffect : Obligations.HostRingRowsTakeEffect := by
  refine ⟨?fetch, ?poll, ?nudgeCmd, ?nudgeCpl, ?nudgeEvt, ?nudgeBad, ?deadline, ?timeout, ?third, ?held, ?events⟩
  case fetch =>
    rintro r ds s u got c hr hturn rfl rfl rfl
    exact congrArg Host.Outcome.next (doFetch_of_turn ds hr hturn)
  case poll => exact fun page s hen => congrArg Host.Outcome.next (doPoll_of_enabled page hen)
  case nudgeCmd => exact fun v s h => congrArg Host.Outcome.next (if_pos h)
  case nudgeCpl =>
    exact fun v s hlow hhigh => congrArg Host.Outcome.next ((if_neg (Nat.not_lt.mpr hlow)).trans (if_pos hhigh))
  case nudgeEvt =>
    exact fun v s h => congrArg Host.Outcome.next ((if_neg (by omega)).trans ((if_neg (by omega)).trans (if_pos h)))
  case nudgeBad =>
    exact fun v s h => congrArg Host.Outcome.next ((if_neg (by omega)).trans ((if_neg (by omega)).trans (if_neg (by omega))))
  case deadline =>
    rintro r n k e s u v hr rfl rfl rfl
    refine ⟨?_, fun hk => congrArg Host.Outcome.next (doDeadline_posted hr hk), fun hk hrun =>
      congrArg Host.Outcome.next (doDeadline_running hr hk hrun)⟩
    rintro rfl
    exact congrArg Host.Outcome.next (doDeadline_descriptor hr)
  case timeout => exact fun r k s hr h => congrArg Host.Outcome.next (doCplTimeout_of_first hr h)
  case third => exact fun r k s _ h => congrArg Host.Outcome.next (doCplTimeout_of_third h)
  case held => exact fun c s hheld hfree hen => congrArg Host.Outcome.next (drainCpl0_of_one 63 hheld hfree hen)
  case events =>
    rintro e s u hqueue hlost hedges hfree rfl
    exact congrArg Host.Outcome.next (State.drainEvents_of_one hqueue hlost hedges hfree)

/-! ### Steps of the local time (R419 to R423) -/

theorem State.showOut_time (s : State) (j : Nat) : (s.showOut j).time = s.time := by
  unfold State.showOut
  split
  · rfl
  · rfl

theorem State.setTheta_now (s : State) (th : Int) : (s.setTheta th).time.now = s.time.now := by
  unfold State.setTheta
  extract_lets lim s1
  split
  · split
    · rfl
    · rw [State.post_time]
      rfl
  · split <;> rfl

theorem State.foldl_showOut_time (l : List Nat) (s : State) : (l.foldl (fun (a : State) j => a.showOut j) s).time = s.time :=
  List.foldlRecOn l _ (motive := fun t : State => t.time = s.time) rfl fun t ht j _ => (t.showOut_time j).trans ht

/-- A step of the local time sets it (R431). -/
theorem State.setLocal_now (s : State) (n : Nat) : (s.setLocal n).time.now = n * tu := by
  unfold State.setLocal
  dsimp only
  split
  · rw [State.foldl_showOut_time]
  · rw [State.setTheta_now, State.foldl_showOut_time]

theorem State.setLocal_ns (s : State) (n : Nat) : (s.setLocal n).ns = n := by
  unfold State.ns
  rw [State.setLocal_now, Nat.mul_div_cancel _ (by decide)]

theorem State.planStart_regs (s : State) : s.planStart.regs = s.regs := by
  unfold State.planStart
  split <;> rfl

theorem State.planStart_time (s : State) : s.planStart.time = s.time := by
  unfold State.planStart
  split <;> rfl

/-- A field of another register than the log's reads the same behind an entry and the plan's start. -/
theorem State.rd_log_planStart (s : State) (code : Nat) (data : List Byte) {f : Fld} (hlost : f.off ≠ Reg.HOST.CNT.EVTLOST.off)
    (hhead : f.off ≠ Reg.STORE.SILT.HEAD.off) : ((s.log code data).planStart).rd f = s.rd f := by
  unfold State.rd State.word
  rw [State.planStart_regs]
  exact congrArg (getBits · f.lo f.w) (s.word_log_other code data none hlost hhead)

/-- The step at first lock sets the local time and shows STEPPED, STEPSRC and GRID (R420, R423). -/
theorem State.stepTime_shows (s : State) (n : Nat) {i : Nat} (hi : i < 16) :
    (s.stepTime n i).ns = n ∧ (s.stepTime n i).on Reg.TIME.STATUS.STEPPED = true ∧
      (s.stepTime n i).rd Reg.TIME.STATUS.STEPSRC = i ∧ (s.stepTime n i).on Reg.TICK.STATUS.GRID = true := by
  unfold State.stepTime
  generalize hset : ({ s with time := { s.time with ppsSet := none } } : State).setLocal n = u
  have hns : u.ns = n := by
    rw [← hset, State.setLocal_ns]
  refine ⟨?_, ?_, ?_, ?_⟩
  · unfold State.ns
    rw [State.planStart_time, State.log_time]
    exact hns
  · unfold State.on
    rw [State.rd_log_planStart _ _ _ (by decide) (by decide), State.rd_put_apart _ _ _ _ rfl rfl rfl,
      State.rd_wr_apart _ _ _ _ rfl rfl rfl]
    exact State.rd_put_same _ _ _ rfl rfl
  · rw [State.rd_log_planStart _ _ _ (by decide) (by decide), State.rd_put_apart _ _ _ _ rfl rfl rfl,
      State.rd_wr_same _ _ _ rfl]
    exact Nat.mod_eq_of_lt hi
  · unfold State.on
    rw [State.rd_log_planStart _ _ _ (by decide) (by decide)]
    exact State.rd_put_same _ _ _ rfl rfl

theorem doFirstLock_of_port {s : State} (hstep : s.on Reg.TIME.STATUS.STEPPED = false) (hsel : s.sel < 4)
    (hslave : s.rd (Reg.TIME.PORT.PSTAT.STATE s.sel) = 9) (hagree : 4 ≤ (s.port s.sel).agree) :
    doFirstLock s = (s.stepTime (s.ns + (s.port s.sel).offset).toNat s.sel).setTheta 0 := by
  unfold doFirstLock
  rw [if_neg (by simp [hstep]), if_pos hsel]
  exact if_pos (by simp [hslave, hagree])

/-- TIME_SET without a reference that gives the time, or with one of 10 MHz or word clock (R420). -/
theorem timeSetRes_of_set {d : Desc} {u : State} (hns : d.a2 < 1000000000) (hstep : u.on Reg.TIME.STATUS.STEPPED = false)
    (hsel : u.sel ∈ [4, 5, 6, 15]) :
    timeSetRes d u = okRes (u.stepTime (d.rbuf * 1000000000 + d.a2 + u.readAgo d) u.sel) := by
  unfold timeSetRes
  simp only [List.mem_cons, List.not_mem_nil, or_false] at hsel
  generalize u.sel = i at hsel
  obtain rfl | rfl | rfl | rfl := hsel <;> simp [Nat.not_le.mpr hns, hstep]

/-- With a PPS slot it keeps the second for an edge at least 10 ms on (R421). -/
theorem timeSetRes_of_pps {d : Desc} {u : State} (hns : d.a2 = 0) (hstep : u.on Reg.TIME.STATUS.STEPPED = false)
    (hsel : u.sel ∈ [7, 8]) :
    timeSetRes d u = okRes { u with time := { u.time with ppsSet := some (d.rbuf, d.readAt + 10000000) } } := by
  unfold timeSetRes
  simp only [List.mem_cons, List.not_mem_nil, or_false] at hsel
  generalize u.sel = i at hsel
  obtain rfl | rfl := hsel <;> simp [hns, hstep]

/-- RE_EPOCH of a node at rest (R430). -/
theorem reEpochRes_of_set {d : Desc} {u : State} (hns : d.a2 < 1000000000) (hstep : u.on Reg.TIME.STATUS.STEPPED = true)
    (hstreams : u.anyStream = false) (hstore : u.storeRuns = false) (hls : u.ls = 0) (hnone : u.epoch = none)
    (hsel : u.sel ∈ [4, 5, 6, 15]) :
    reEpochRes d u = okRes { u with epoch := some ⟨u.tickFrom (u.readNs d) 0 2, 2, d.rbuf * 1000000000 + d.a2, u.readNs d⟩ }
      (le 8 (u.tickFrom (u.readNs d) 0 2)) := by
  unfold reEpochRes
  simp only [List.mem_cons, List.not_mem_nil, or_false] at hsel
  generalize u.sel = i at hsel
  obtain rfl | rfl | rfl | rfl := hsel <;> simp [Nat.not_le.mpr hns, hstep, hstreams, hstore, hls, hnone]

theorem reEpochRes_of_pps {d : Desc} {u : State} (hns : d.a2 = 0) (hstep : u.on Reg.TIME.STATUS.STEPPED = true)
    (hstreams : u.anyStream = false) (hstore : u.storeRuns = false) (hls : u.ls = 0) (hnone : u.epoch = none)
    (hsel : u.sel ∈ [7, 8]) :
    reEpochRes d u = longRes { u with epoch := some ⟨0, 1, d.rbuf * 1000000000, u.readNs d + 10000000⟩ } := by
  unfold reEpochRes
  simp only [List.mem_cons, List.not_mem_nil, or_false] at hsel
  generalize u.sel = i at hsel
  obtain rfl | rfl := hsel <;> simp [hns, hstep, hstreams, hstore, hls, hnone]

/-! ### The step of RE_EPOCH (R431 to R433) -/

theorem State.disarmAll_time (s : State) : s.disarmAll.time = s.time :=
  List.foldlRecOn (List.range 8) _ (motive := fun t : State => t.time = s.time) rfl fun _ ht _ _ => ht

/-- The local time steps, the captured edges are marked and the launch outputs disarm. -/
def State.epochMoved (s : State) (x : EpochS) : State :=
  let u := ({ s with epoch := none, past := [] } : State).setLocal (s.epochTime x)
  (({ u with evins := u.evins.map fun y => { y with epoch := true } } : State).disarmAll).count Reg.TIME.STATUS.EPOCHS

theorem State.epochMoved_secs (s : State) (x : EpochS) :
    (s.epochMoved x).secs = (({ s with epoch := none, past := [] } : State).setLocal (s.epochTime x)).secs := by
  unfold State.secs State.ns State.epochMoved
  rw [State.count_time, State.disarmAll_time]

/-- What the step does to the node beside its engine. -/
def State.epochStepped (s : State) (x : EpochS) : State :=
  (s.epochMoved x).log 0x0212 (le 8 x.k ++ le 6 (s.epochMoved x).secs)

theorem doReEpoch_of_due {refTime : Nat} {s : State} {x : EpochS} (hx : s.epoch = some x) (hk : x.k ≠ 0) (hdue : s.tAt x.k ≤ s.ns) :
    doReEpoch refTime s = if s.on Reg.TICK.STATUS.RUN then
      ((({ (s.epochStepped x).deliverPorts (fun _ => false) with eng := { (s.epochStepped x).eng.keep with
        first := some (s.epochStepped x).time.gridFirst, ramp := some (s.epochStepped x).time.gridFirst } } : State).put
          Reg.TICK.STATUS.RUN false).showHealth)
      else ({ s.epochStepped x with eng := { (s.epochStepped x).eng with first := none } } : State).planStart := by
  unfold doReEpoch State.epochStepped State.epochMoved
  rw [hx]
  dsimp only
  rw [if_neg (by simp [hk, hdue])]

/-! ### Edges of the event inputs (R456 to R461) -/

/-- The filter of an input holds a new level. -/
def State.filtered (s : State) (i : Nat) (level : Bool) : State :=
  { s with evins := s.evins.set i { atD s.evins i {} with level := some level } }

theorem State.evin_filtered {s : State} {i : Nat} (hi : i < s.evins.length) (level : Bool) :
    atD (s.filtered i level).evins i {} = { atD s.evins i {} with level := some level } := by
  simp [State.filtered, atD, hi]

/-- What the input holds then stands alone. -/
theorem State.set_evin_filtered (s : State) (i : Nat) (level : Bool) (y : EvIn) :
    ({ s.filtered i level with evins := (s.filtered i level).evins.set i y } : State) = { s with evins := s.evins.set i y } := by
  unfold State.filtered
  rw [List.set_set]

/-- The filter takes an edge to a level that it does not hold, held for its time; an enabled input of both edges judges it. -/
theorem doEdge_of_taken {i held t : Nat} {falling : Bool} {s : State} (hi : i < 16) (hen : s.on (Reg.TIME.EVCFG.EN i) = true)
    (hedge : s.rd (Reg.TIME.EVCFG.EDGE i) = 3) (hfilt : s.rd (Reg.TIME.EVCFG.FILT i) ≤ held)
    (hlevel : (atD s.evins i {}).level ≠ some (!falling)) :
    doEdge i falling held t s =
      (s.filtered i (!falling)).qualify i falling t := by
  have hguard : ¬ (decide (16 ≤ i) || decide (held < s.rd (Reg.TIME.EVCFG.FILT i)) ||
      (atD s.evins i {}).level == some (!falling)) = true := by
    simp [Nat.not_le.mpr hi, Nat.not_lt.mpr hfilt, hlevel]
  have hwanted : ¬ (!s.on (Reg.TIME.EVCFG.EN i) ||
      !(if falling then s.rd (Reg.TIME.EVCFG.EDGE i) / 2 % 2 == 1 else s.rd (Reg.TIME.EVCFG.EDGE i) % 2 == 1)) = true := by
    rw [hen, hedge]
    cases falling <;> decide
  exact (if_neg hguard).trans (if_neg hwanted)

theorem doEdge_of_ignored {i held t : Nat} {falling : Bool} {s : State}
    (h : held < s.rd (Reg.TIME.EVCFG.FILT i) ∨ (atD s.evins i {}).level = some (!falling)) : doEdge i falling held t s = s := by
  have hguard : (decide (16 ≤ i) || decide (held < s.rd (Reg.TIME.EVCFG.FILT i)) ||
      (atD s.evins i {}).level == some (!falling)) = true := by
    obtain h | h := h <;> simp [h]
  exact if_pos hguard

section
variable {a : State} {i t : Nat} {falling : Bool} {x : EvIn}

/-- Within 50 ns of the last captured edge (R459). -/
theorem State.qualify_of_close {l : Nat} (hx : atD a.evins i {} = x) (hlast : x.last = some l) (hclose : t < l + 50) :
    a.qualify i falling t =
      ({ a with evins := a.evins.set i { x with seen := x.seen + 1 } } : State).count (Reg.TIME.EVSTAT.CLOSE i) := by
  unfold State.qualify
  rw [hx]
  simp only [hlast]
  exact if_pos (by simp [hclose])

theorem not_close {x : EvIn} {t : Nat} (h : ∀ l, x.last = some l → l + 50 ≤ t) :
    (match x.last with
      | some l => decide (t < l + 50)
      | none => false) = false := by
  split
  next l hl => simpa using h l hl
  next => rfl

/-- An edge that DIV does not pass on. -/
theorem State.qualify_of_skipped (hx : atD a.evins i {} = x) (hlast : ∀ l, x.last = some l → l + 50 ≤ t)
    (hturn : x.seen % (a.rd (Reg.TIME.EVCFG.DIV i) + 1) ≠ 0) :
    a.qualify i falling t = { a with evins := a.evins.set i { x with seen := x.seen + 1 } } := by
  unfold State.qualify
  rw [hx]
  exact (if_neg fun h => Bool.false_ne_true ((not_close hlast).symm.trans h)).trans (if_pos (by simp [hturn]))

/-- One that finds 64 waiting (R460). -/
theorem State.qualify_of_full (hx : atD a.evins i {} = x) (hlast : ∀ l, x.last = some l → l + 50 ≤ t)
    (hturn : x.seen % (a.rd (Reg.TIME.EVCFG.DIV i) + 1) = 0) (hfull : 64 ≤ x.queue.length) :
    a.qualify i falling t = ({ a with evins := a.evins.set i { x with seen := x.seen + 1, last := some t, ovf := true } } : State).count
      (Reg.TIME.EVSTAT.LOST i) := by
  have hwait : 64 ≤ a.waitingEdges i := by
    unfold State.waitingEdges
    rwa [hx]
  unfold State.qualify
  rw [hx]
  exact (if_neg fun h => Bool.false_ne_true ((not_close hlast).symm.trans h)).trans
    ((if_neg (by simp [hturn])).trans (if_pos hwait))

/-- One that joins the queue, which goes on as far as it may (R460, R461). -/
theorem State.qualify_of_captured (hx : atD a.evins i {} = x) (hlast : ∀ l, x.last = some l → l + 50 ≤ t)
    (hturn : x.seen % (a.rd (Reg.TIME.EVCFG.DIV i) + 1) = 0) (hroom : x.queue.length < 64) :
    a.qualify i falling t = ({ a with evins := a.evins.set i { x with
      seen := x.seen + 1, last := some t, seq := (x.seq + 1) % 65536, epoch := false
      queue := x.queue ++ [a.capturePayload i falling t x] } } : State).postInput i := by
  have hwait : ¬ 64 ≤ a.waitingEdges i := by
    unfold State.waitingEdges
    rwa [hx, Nat.not_le]
  unfold State.qualify
  rw [hx]
  exact (if_neg fun h => Bool.false_ne_true ((not_close hlast).symm.trans h)).trans
    ((if_neg (by simp [hturn])).trans (if_neg hwait))

theorem postEdges_of_empty (n : Nat) (h : (a.evins.getD i {}).queue = []) : postEdges n i a = a := by
  cases n with
  | zero => rfl
  | succ n => simp only [postEdges, h]

/-- With the event ring full the edges wait. -/
theorem State.postInput_of_full (hfull : a.evFree = 0) : a.postInput i = a := by
  have hstay : postEdges 64 i a = a := by
    unfold postEdges
    dsimp only
    split
    · rfl
    · exact if_pos hfull
  unfold State.postInput
  rw [hstay, ite_self]

/-- With room and nothing before it the one waiting edge is posted at once. -/
theorem State.postInput_of_one {x : EvIn} {p : List Byte} (hi : i < a.evins.length) (hx : a.evins.getD i {} = x) (hq : x.queue = [p])
    (hevents : a.host.evQueue = []) (hlost : a.host.evLost = 0) (hfree : 0 < a.evFree) :
    a.postInput i = ({ a with evins := a.evins.set i { x with queue := [], ovf := false } } : State).writeEvt
      ⟨0x0001, padTo 24 (withOvf p x.ovf)⟩ := by
  unfold State.postInput
  rw [if_pos (by simp [hevents, hlost]), postEdges]
  simp only [hx, hq]
  rw [if_neg (Nat.ne_of_gt hfree)]
  refine postEdges_of_empty 63 ?_
  rw [State.writeEvt_evins]
  simp [hi]

end

/-- An input's one edge, captured now. -/
theorem State.postInput_set_evin {s : State} {i : Nat} {y : EvIn} {p : List Byte} (hi : i < s.evins.length) (hq : y.queue = [p])
    (hevents : s.host.evQueue = []) (hlost : s.host.evLost = 0) (hfree : 0 < s.evFree) :
    ({ s with evins := s.evins.set i y } : State).postInput i =
      ({ s with evins := s.evins.set i { y with queue := [], ovf := false } } : State).writeEvt
        ⟨0x0001, padTo 24 (withOvf p y.ovf)⟩ := by
  rw [State.postInput_of_one (a := { s with evins := s.evins.set i y }) (x := y) (by simpa using hi) (by simp [hi]) hq hevents
    hlost hfree]
  exact congrArg (State.writeEvt · _) (by rw [List.set_set])

/-- Settles O17: each command by its result, the step by `epochStepped`, and an edge by how its input judges it. -/
theorem timeStepRowsTakeEffect : Obligations.TimeStepRowsTakeEffect := by
  refine ⟨?first, ?setTime, ?setPps, ?epochSet, ?epochPps, ?step, ?reEpoch, ?captured, ?counted, ?ignored⟩
  case first => exact fun s hstep hsel hslave hagree => congrArg Host.Outcome.next (doFirstLock_of_port hstep hsel hslave hagree)
  case setTime =>
    rintro d s u hadm rfl hns hstep hsel
    exact congrArg Host.Outcome.next (hostCmd_ok hadm (timeSetRes_of_set hns hstep hsel) (Nat.zero_le _))
  case setPps =>
    rintro d s u hadm rfl hns hstep hsel
    exact congrArg Host.Outcome.next (hostCmd_ok hadm (timeSetRes_of_pps hns hstep hsel) (Nat.zero_le _))
  case epochSet =>
    rintro d s u hadm rfl hns hstep hstreams hstore hls hnone hsel
    exact congrArg Host.Outcome.next
      (hostCmd_ok hadm (reEpochRes_of_set hns hstep hstreams hstore hls hnone hsel) (Nat.zero_le _))
  case epochPps =>
    rintro d s u hadm rfl hns hstep hstreams hstore hls hnone hsel
    exact congrArg Host.Outcome.next (hostCmd_long hadm (reEpochRes_of_pps hns hstep hstreams hstore hls hnone hsel))
  case step => exact fun s n i hi => s.stepTime_shows n hi
  case reEpoch =>
    rintro refTime x s u v hx hk hdue rfl hv
    have hv : v = s.epochStepped x := by
      unfold State.epochStepped
      rw [State.epochMoved_secs]
      exact hv
    rw [hv]
    refine ⟨fun hrun => ?_, fun hrun => ?_⟩
    · exact congrArg Host.Outcome.next ((doReEpoch_of_due hx hk hdue).trans (if_neg (by simp [hrun])))
    · exact congrArg Host.Outcome.next ((doReEpoch_of_due hx hk hdue).trans (if_pos hrun))
  case captured =>
    rintro i held t falling x y s hi hlen hen hedge hfilt rfl hlevel hlast hturn hroom rfl
    have hlt : i < s.evins.length := by omega
    have hcapture := (doEdge_of_taken (t := t) hi hen hedge hfilt hlevel).trans
      ((State.qualify_of_captured (State.evin_filtered hlt _) hlast hturn hroom).trans
        (congrArg (State.postInput · i) (s.set_evin_filtered i (!falling) _)))
    refine ⟨fun hfull => congrArg Host.Outcome.next (hcapture.trans (State.postInput_of_full hfull)),
      fun hfree hq hevents hlost => congrArg Host.Outcome.next (hcapture.trans ?_)⟩
    refine (State.postInput_set_evin (p := s.capturePayload i falling t (atD s.evins i {})) hlt ?_ hevents hlost hfree).trans ?_
    · rw [hq]
      rfl
    · rw [hq]
  case counted =>
    rintro i held t falling x y s hi hlen hen hedge hfilt rfl hlevel rfl
    have hat := State.evin_filtered (s := s) (i := i) (by omega) (!falling)
    have htaken := doEdge_of_taken (t := t) hi hen hedge hfilt hlevel
    refine ⟨fun l hl hclose => congrArg Host.Outcome.next (htaken.trans ((State.qualify_of_close hat hl hclose).trans ?_)),
      fun hlast hturn => congrArg Host.Outcome.next (htaken.trans ((State.qualify_of_skipped hat hlast hturn).trans ?_)),
      fun hlast hturn hfull => congrArg Host.Outcome.next (htaken.trans ((State.qualify_of_full hat hlast hturn hfull).trans ?_))⟩
    · exact congrArg (State.count · (Reg.TIME.EVSTAT.CLOSE i)) (s.set_evin_filtered i (!falling) _)
    · exact s.set_evin_filtered i (!falling) _
    · exact congrArg (State.count · (Reg.TIME.EVSTAT.LOST i)) (s.set_evin_filtered i (!falling) _)
  case ignored => exact fun i held t falling s _ h => congrArg Host.Outcome.next (doEdge_of_ignored h)

end Sys2Proof.Machine
end

section
/-! Reference slots and their monitors. -/
namespace Sys2Proof.Machine

/-! ### What a measurement leaves of a waiting RE_EPOCH -/

theorem State.epoch_discardMeasures (s : State) (i : Nat) : (s.discardMeasures i).epoch = s.epoch := by
  unfold State.discardMeasures
  dsimp only
  split <;> rfl

theorem State.epoch_disqualify (s : State) (i bit : Nat) : (s.disqualify i bit).epoch = s.epoch := by
  unfold State.disqualify
  dsimp only
  split
  · rfl
  · split
    · rfl
    · rw [State.log_epoch]
      exact State.epoch_discardMeasures _ i

theorem State.epoch_judge (s : State) (i : Nat) : (s.judge i).epoch = s.epoch := by
  unfold State.judge
  dsimp only
  split <;> rfl

theorem State.epoch_sourceTest (s : State) (i : Nat) : (s.sourceTest i).epoch = s.epoch := by
  unfold State.sourceTest
  rw [State.epoch_judge]
  split
  · exact s.epoch_disqualify i reasonSrc
  · rfl

theorem State.epoch_setTheta (s : State) (th : Int) : (s.setTheta th).epoch = s.epoch := by
  unfold State.setTheta
  dsimp only
  split
  · split
    · rfl
    · rw [State.post_epoch]
      rfl
  · split <;> rfl

theorem State.epoch_measure (s : State) (i : Nat) (th : Int) : (s.measure i th).epoch = s.epoch := by
  unfold State.measure
  dsimp only
  have hmonitor (a : State) (bad : Bool) (ha : a.epoch = s.epoch) : (State.sourceTest (if bad then
      (a.count (Reg.REFSEL.SLOT.CNT.PHIT i)).disqualify i reasonPhase else a.putReason i reasonPhase false) i).epoch = s.epoch := by
    rw [State.epoch_sourceTest]
    split
    · exact (State.epoch_disqualify _ i reasonPhase).trans ha
    · exact ha
  split
  · rw [State.epoch_setTheta]
    exact hmonitor _ _ rfl
  · exact hmonitor _ _ rfl

/-! ### The rows (R469, R473 to R476, R491) -/

theorem doRefEdge_of_slot {i e : Nat} {s : State} (hlow : 4 ≤ i) (hhigh : i ≤ 8) (hen : s.on (Reg.REFSEL.SLOT.CFG.EN i) = true)
    (hnone : s.epoch = none) :
    doRefEdge i e s = s.measure i (gridOffset (if i < 6 then s.nomRate i else if i = 6 then 10000000 else 1) e) := by
  unfold doRefEdge
  rw [if_neg (by simp [Nat.not_lt.mpr hlow, Nat.not_lt.mpr hhigh, hen])]
  simp only [State.epoch_measure, hnone]

theorem doActivityLoss_of_silent {i t : Nat} {s : State} (hi : i < 10) (hen : s.on (Reg.REFSEL.SLOT.CFG.EN i) = true)
    (hlast : (s.slot i).last = some t) (hdue : t + s.twoPeriods i ≤ s.run) :
    doActivityLoss i s = ((s.disqualify i reasonLos).setSlot i
      { (s.disqualify i reasonLos).slot i with last := none, gates := 0, gateFrom := none, freqs := [] }).judge i := by
  unfold doActivityLoss
  simp only [hlast]
  exact if_neg (by simp [Nat.not_le.mpr hi, hen, hdue])

/-- A slot with the measurement of a gate that has ended. -/
def State.gated (s : State) (i : Nat) (f : Int) : State :=
  (s.setSlot i { s.slot i with gates := (s.slot i).gates + 1, gateFrom := some s.run, freqs := ((s.run, f) :: (s.slot i).freqs).take 10 }).wrInt
    (Reg.REFSEL.SLOT.FREQ i) (average ((((s.run, f) :: (s.slot i).freqs).take 10).map fun m => m.2))

/-- The Frequency monitor at the end of a gate of 1 s. -/
theorem doGateEnd_of_due {i t : Nat} {f : Int} {s : State} (hi : i < 10) (hen : s.on (Reg.REFSEL.SLOT.CFG.EN i) = true)
    (hgate : (s.slot i).gateFrom = some t) (hdue : t + 1000000000 ≤ s.run) :
    doGateEnd i f s =
      (let bad := decide ((s.rd (Reg.REFSEL.SLOT.CFG.FWIN i) : Int) * 1000000 < |f|)
       let judged := (if bad then (s.gated i f).disqualify i reasonFreq else (s.gated i f).putReason i reasonFreq false).judge i
       if s.sel = i && !bad then judged.setFreq (judged.slotFreq i) else judged) := by
  have hdue' : ¬ (decide (10 ≤ i) || !s.on (Reg.REFSEL.SLOT.CFG.EN i) || !(match (s.slot i).gateFrom with
      | some t => decide (t + 1000000000 ≤ s.run)
      | none => false)) = true := by
    rw [hgate]
    simp [Nat.not_le.mpr hi, hen, hdue]
  exact if_neg hdue'

theorem doHistory_of_selected {s : State} (hsel : s.sel ≠ 15) (hforce : s.on Reg.REFSEL.CTRL.FORCEHO = false) :
    doHistory s =
      (let h : HistEntry := { secs := s.secs, slot := s.sel, valid := s.ref.whole, freq := if s.ref.accN = 0 then s.time.freq else quot s.ref.acc s.ref.accN }
       let u : State := { s with ref := { s.ref with history := (s.ref.history ++ [h]).drop ((s.ref.history ++ [h]).length - 1024), acc := 0, accN := 0, whole := s.on (Reg.REFSEL.SLOT.STAT.QUALIFIED s.sel) } }
       u.showHoldover (u.holdoverValue u.secs)) :=
  if_neg (by simp [hsel, hforce])

/-! ### The end of a wait to restore (R476) -/

theorem Fld.apart_of_below {f g : Fld} (h : f.lo + f.w ≤ g.lo) : f.apart g = true := by
  simp [Fld.apart, h]

theorem Fld.apart_of_above {f g : Fld} (h : g.lo + g.w ≤ f.lo) : f.apart g = true := by
  simp [Fld.apart, h]

/-- A slot that is set to what it holds holds it. -/
theorem State.slot_setSlot_self (s : State) (i : Nat) : (s.setSlot i (s.slot i)).slot i = s.slot i := by
  unfold State.slot State.setSlot atD
  by_cases h : i < s.ref.slots.length
  · simp [h]
  · rw [List.set_eq_of_length_le (Nat.not_lt.mp h)]

/-- A slot that is shown qualified, with what is left of its wait in seconds. -/
def State.qualified (s : State) (i left : Nat) : State :=
  (((s.wr (Reg.REFSEL.SLOT.STAT.EFFQ i) (s.quality i)).setSlot i (s.slot i)).put (Reg.REFSEL.SLOT.STAT.QUALIFIED i) true).wr
    (Reg.REFSEL.SLOT.STAT.WTRLEFT i) left

theorem State.rd_qualified (s : State) (i left : Nat) {f : Fld} (hfits : f.fits = true)
    (hq : (Reg.REFSEL.SLOT.STAT.QUALIFIED i).apart f = true) (hw : (Reg.REFSEL.SLOT.STAT.WTRLEFT i).apart f = true)
    (he : (Reg.REFSEL.SLOT.STAT.EFFQ i).apart f = true) : (s.qualified i left).rd f = s.rd f := by
  unfold State.qualified
  rw [State.rd_wr_apart _ _ _ _ rfl hfits hw, State.rd_put_apart _ _ _ _ rfl hfits hq]
  exact State.rd_wr_apart s _ _ _ rfl hfits he

theorem State.slot_qualified (s : State) (i left : Nat) : (s.qualified i left).slot i = s.slot i :=
  s.slot_setSlot_self i

theorem State.slot_wr (s : State) (f : Fld) (n i : Nat) : (s.wr f n).slot i = s.slot i := rfl

theorem State.slot_setSlot_of_eq {s : State} {i : Nat} {x : RefSlot} (h : s.slot i = x) : (s.setSlot i x).slot i = x := by
  rw [← h, State.slot_setSlot_self]

theorem State.time_qualified (s : State) (i left : Nat) : (s.qualified i left).time = s.time := rfl

/-- A slot whose wait is over is restored, and nothing outvotes it. -/
theorem State.restored_qualified {s : State} {i t : Nat} (left : Nat) (hsince : (s.slot i).since = some t)
    (hover : t + s.rd Reg.REFSEL.CFG.WTR * 1000000000 ≤ s.run) (hvoted : s.on (Reg.REFSEL.SLOT.STAT.OUTVOTED i) = false)
    (hquality : s.quality i ≠ 255) :
    ((s.qualified i left).restored i && !(s.qualified i left).on (Reg.REFSEL.SLOT.STAT.OUTVOTED i) && s.quality i != 255) = true := by
  have hoff : 589892 + 16 * i ≠ Reg.REFSEL.CFG.WTR.off := by
    change 589892 + 16 * i ≠ 589828
    omega
  have hwtr : (s.qualified i left).rd Reg.REFSEL.CFG.WTR = s.rd Reg.REFSEL.CFG.WTR :=
    s.rd_qualified i left rfl (Fld.apart_of_off hoff) (Fld.apart_of_off hoff) (Fld.apart_of_off hoff)
  have hout : (s.qualified i left).on (Reg.REFSEL.SLOT.STAT.OUTVOTED i) = false := by
    unfold State.on
    rw [s.rd_qualified i left rfl (Fld.apart_of_below (Nat.le_of_ble_eq_true rfl)) (Fld.apart_of_above (Nat.le_of_ble_eq_true rfl))
      (Fld.apart_of_above (Nat.le_of_ble_eq_true rfl))]
    exact hvoted
  have hrun : (s.qualified i left).run = s.run := by
    unfold State.run
    rw [State.time_qualified]
  unfold State.restored
  rw [State.slot_qualified, hwtr, hrun, hout]
  dsimp only
  rw [hsince]
  simp [hover, hquality]

/-- The judgement of a slot that every monitor passes. -/
theorem State.judge_of_passed {s : State} {i t : Nat} (hreasons : s.reasons i = 0) (hgates : 1 ≤ (s.slot i).gates)
    (hen : s.on (Reg.REFSEL.SLOT.CFG.EN i) = true) (hsince : (s.slot i).since = some t) :
    ∃ left, (t + s.rd Reg.REFSEL.CFG.WTR * 1000000000 ≤ s.run → left = 0) ∧
      s.judge i = (s.qualified i left).put (Reg.REFSEL.SLOT.STAT.SELECTABLE i)
        ((s.qualified i left).restored i && !(s.qualified i left).on (Reg.REFSEL.SLOT.STAT.OUTVOTED i) && s.quality i != 255) := by
  refine ⟨if (s.slot i).hit then ceilDiv (t + s.rd Reg.REFSEL.CFG.WTR * 1000000000 - s.run) 1000000000 else 0, fun hover => ?_, ?_⟩
  · rw [Nat.sub_eq_zero_of_le hover]
    exact ite_self _
  · have hkept (n : Nat) : ({ s.slot i with since := some ((s.slot i).since.getD n) } : RefSlot) = s.slot i := by
      rw [hsince, Option.getD_some, ← hsince]
    unfold State.judge State.qualified
    dsimp only
    rw [if_neg (by simp [hreasons, hgates, hen]), State.slot_wr, hkept, State.slot_setSlot_of_eq (State.slot_wr _ _ _ _)]
    simp only [hsince]

/-- A qualified slot whose wait is over is selectable, and shows nothing left of it (R476). -/
theorem doWtrEnd_of_over {s : State} {i t : Nat} (hi : i < 10) (hreasons : s.reasons i = 0) (hgates : 1 ≤ (s.slot i).gates)
    (hen : s.on (Reg.REFSEL.SLOT.CFG.EN i) = true) (hsince : (s.slot i).since = some t)
    (hover : t + s.rd Reg.REFSEL.CFG.WTR * 1000000000 ≤ s.run) (hvoted : s.on (Reg.REFSEL.SLOT.STAT.OUTVOTED i) = false)
    (hquality : s.quality i ≠ 255) :
    (doWtrEnd i s).on (Reg.REFSEL.SLOT.STAT.SELECTABLE i) = true ∧ (doWtrEnd i s).on (Reg.REFSEL.SLOT.STAT.QUALIFIED i) = true ∧
      (doWtrEnd i s).rd (Reg.REFSEL.SLOT.STAT.WTRLEFT i) = 0 := by
  obtain ⟨left, hleft, hjudge⟩ := State.judge_of_passed hreasons hgates hen hsince
  have hend : doWtrEnd i s = (s.qualified i 0).put (Reg.REFSEL.SLOT.STAT.SELECTABLE i) true := by
    unfold doWtrEnd
    rw [if_pos hi, hjudge, hleft hover, State.restored_qualified 0 hsince hover hvoted hquality]
  rw [hend]
  refine ⟨State.rd_put_same _ _ _ rfl rfl, ?_, ?_⟩
  · rw [State.on_put_apart _ _ _ _ rfl rfl (Fld.apart_of_above (Nat.le_of_ble_eq_true rfl))]
    unfold State.qualified
    rw [State.on_wr_apart _ _ _ _ rfl rfl (Fld.apart_of_above (Nat.le_of_ble_eq_true rfl))]
    exact State.rd_put_same _ _ _ rfl rfl
  · rw [State.rd_put_apart _ _ _ _ rfl rfl (Fld.apart_of_below (Nat.le_of_ble_eq_true rfl))]
    unfold State.qualified
    exact State.rd_wr_same _ _ _ rfl

/-- Settles O20: each row by the lemma about its function. -/
theorem referenceRowsTakeEffect : Obligations.ReferenceRowsTakeEffect := by
  refine ⟨?edge, ?loss, ?within, ?outside, ?restore, ?history⟩
  case edge => exact fun i e s hlow hhigh hen hnone => congrArg Host.Outcome.next (doRefEdge_of_slot hlow hhigh hen hnone)
  case loss =>
    rintro i t s u hi hen hlast hdue rfl
    exact congrArg Host.Outcome.next (doActivityLoss_of_silent hi hen hlast hdue)
  case within =>
    rintro i t f s u hi hen hgate hdue hin rfl
    have hbad : decide ((s.rd (Reg.REFSEL.SLOT.CFG.FWIN i) : Int) * 1000000 < |f|) = false := decide_eq_false (not_lt.mpr hin)
    have hend := doGateEnd_of_due (f := f) hi hen hgate hdue
    rw [hbad] at hend
    refine ⟨fun hsel => congrArg Host.Outcome.next (hend.trans (if_neg (by simp [hsel]))),
      fun hsel => congrArg Host.Outcome.next (hend.trans (if_pos (by simp [hsel])))⟩
  case outside =>
    rintro i t f s u hi hen hgate hdue hout rfl
    have hend := doGateEnd_of_due (f := f) hi hen hgate hdue
    rw [decide_eq_true hout] at hend
    exact congrArg Host.Outcome.next (hend.trans (if_neg (by simp)))
  case restore =>
    intro i t s hi hreasons hgates hen _ hsince hover hvoted hquality
    exact ⟨_, rfl, doWtrEnd_of_over hi hreasons hgates hen hsince hover hvoted hquality⟩
  case history =>
    rintro h s u hsel hforce rfl rfl
    exact congrArg Host.Outcome.next (doHistory_of_selected hsel hforce)

end Sys2Proof.Machine
end

section
/-! Serial audio ports. -/
namespace Sys2Proof.Machine

/-! ### A frame start at a serial port (R567, R570, R587, R591) -/

/-- Whether the frame start before came within two periods (R587). -/
def State.steadyClock (s : State) (p fs : Nat) : Bool := (s.sp p).last.any fun l => decide (fs < l + 2 * s.ts3)

theorem State.steadyClock_of_last {s : State} {p fs l : Nat} (hl : (s.sp p).last = some l) :
    s.steadyClock p fs = decide (fs < l + 2 * s.ts3) := by
  unfold State.steadyClock
  rw [hl]
  rfl

theorem State.not_steadyClock {s : State} {p fs : Nat} (h : ∀ l, (s.sp p).last = some l → l + 2 * s.ts3 ≤ fs) :
    s.steadyClock p fs = false := by
  unfold State.steadyClock
  cases hl : (s.sp p).last with
  | none => rfl
  | some l => exact decide_eq_false (Nat.not_lt.mpr (h l hl))

theorem State.ts3_reach (s : State) (n : Nat) : (s.reach n).ts3 = s.ts3 := by
  unfold State.ts3 State.rd State.word
  rw [State.reach_regs]

/-- What a frame start does once it has been noted in `v`. -/
def State.frameAt (s v : State) (p : Nat) (rx : List Word) (fs from_ : Nat) (steady : Bool) : State :=
  if s.sapState p = sapStarting then
    if s.on (Reg.SAP.P.CFG.ROLE p) then
      if fs / 3 < from_ then v else (v.sapEnter p).moveFrame p rx fs
    else if steady then (v.sapEnter p).moveFrame p rx fs else v
  else if s.on (Reg.SAP.P.STATUS.LOS p) then
    if steady then (v.clockBack p).moveFrame p rx fs else v
  else v.moveFrame p rx fs

theorem doPortFrame_of_noted {p fs : Nat} {rx : List Word} {s u v : State} (hp : p < 32) (hlive : s.sapState p ≠ 0)
    (hgrid : s.on (Reg.SAP.P.CFG.ROLE p) = true → fs % s.ts3 = 0) (hu : u = s.reach (fs / 3))
    (hv : v = u.setSp p { u.sp p with last := some fs }) :
    doPortFrame p rx fs s = s.frameAt v p rx fs (u.sp p).from_ (u.steadyClock p fs) := by
  have hno : ¬ (32 ≤ p || s.sapState p == sapStopped || (s.on (Reg.SAP.P.CFG.ROLE p) && fs % s.ts3 != 0)) = true := by
    simp only [Bool.or_eq_true, decide_eq_true_eq, beq_iff_eq, Bool.and_eq_true, bne_iff_ne, not_or, not_and, not_not]
    exact ⟨⟨Nat.not_le.mpr hp, hlive⟩, hgrid⟩
  unfold doPortFrame State.frameAt State.steadyClock
  rw [if_neg hno, hu, State.ts3_reach, ← hu]
  dsimp only
  rw [← hv]
  cases (u.sp p).last <;> rfl

section
variable {s v : State} {p fs from_ : Nat} {rx : List Word} {steady : Bool}

theorem State.frameAt_of_moving (h : 2 ≤ s.sapState p) (hlos : s.on (Reg.SAP.P.STATUS.LOS p) = false) :
    s.frameAt v p rx fs from_ steady = v.moveFrame p rx fs := by
  have hne : s.sapState p ≠ sapStarting := Nat.ne_of_gt h
  unfold State.frameAt
  rw [if_neg hne, hlos, if_neg Bool.false_ne_true]

theorem State.frameAt_of_lost (h : 2 ≤ s.sapState p) (hlos : s.on (Reg.SAP.P.STATUS.LOS p) = true) :
    s.frameAt v p rx fs from_ steady = if steady then (v.clockBack p).moveFrame p rx fs else v := by
  have hne : s.sapState p ≠ sapStarting := Nat.ne_of_gt h
  unfold State.frameAt
  rw [if_neg hne, if_pos hlos]

theorem State.frameAt_of_master (h : s.sapState p = 1) (hrole : s.on (Reg.SAP.P.CFG.ROLE p) = true) :
    s.frameAt v p rx fs from_ steady = if fs / 3 < from_ then v else (v.sapEnter p).moveFrame p rx fs := by
  unfold State.frameAt
  rw [if_pos (show s.sapState p = sapStarting from h), if_pos hrole]

theorem State.frameAt_of_slave (h : s.sapState p = 1) (hrole : s.on (Reg.SAP.P.CFG.ROLE p) = false) :
    s.frameAt v p rx fs from_ steady = if steady then (v.sapEnter p).moveFrame p rx fs else v := by
  unfold State.frameAt
  rw [if_pos (show s.sapState p = sapStarting from h), hrole, if_neg Bool.false_ne_true]

end

/-! ### The rows of a running port (R584, R587, R588, R590) -/

section
variable {s : State} {p : Nat}

theorem doLossOfClock_of_running (hp : p < 32) (hrun : s.sapState p = 2) (hrole : s.on (Reg.SAP.P.CFG.ROLE p) = false)
    (hlos : s.on (Reg.SAP.P.STATUS.LOS p) = false) (hclock : s.noClock p = true) :
    doLossOfClock p s = (((s.setSp p { s.sp p with out := [], tail := none }).put (Reg.SAP.P.STATUS.LOS p) true).count
      (Reg.SAP.P.ERR.LOSCNT p)).post 0x0018 (le 1 p ++ le 1 1) :=
  (if_neg (by simp [Nat.not_le.mpr hp, hrun, hrole, hlos, hclock, sapRun])).trans (if_neg (by rw [hrun]; decide))

theorem doRateMeasure_of_slave (ppb : Int) (hp : p < 32) (hrun : 2 ≤ s.sapState p) (hrole : s.on (Reg.SAP.P.CFG.ROLE p) = false) :
    doRateMeasure p ppb s =
      if 1000000 < ppb.natAbs then (s.wrInt (Reg.SAP.P.RATE.PPB p) ppb).put (Reg.SAP.P.STATUS.FREQ p) true
      else if ppb.natAbs ≤ 500000 then (s.wrInt (Reg.SAP.P.RATE.PPB p) ppb).put (Reg.SAP.P.STATUS.FREQ p) false
      else s.wrInt (Reg.SAP.P.RATE.PPB p) ppb :=
  if_neg (by simp [Nat.not_le.mpr hp, hrole, sapRun, Nat.not_lt.mpr hrun])

theorem doSlipLog_of_window {t d r : Nat} (hslips : (s.sp p).slips = some (t, d, r)) (hlate : t + 1000000000 ≤ s.run) :
    doSlipLog p s = (s.setSp p { s.sp p with slips := none }).siltWrite 0x0A01 (le 1 p ++ le 4 d ++ le 4 r) := by
  unfold doSlipLog
  dsimp only
  split
  next h => exact absurd (h.symm.trans hslips) (Option.some_ne_none _).symm
  next h =>
    obtain ⟨rfl, rfl, rfl⟩ : _ ∧ _ ∧ _ := by simpa using h.symm.trans hslips
    exact if_neg (Nat.not_lt.mpr hlate)

end

/-! ### The fields of a port's registers -/

/-- The fields of `SAP.P[p].CFG` (R569, R571). -/
def sapCfgFields : List RField :=
  [⟨0, 1, .rw, 0⟩, ⟨1, 1, .rw, 0⟩, ⟨2, 2, .rw, 0⟩, ⟨4, 1, .rw, 0⟩, ⟨5, 2, .rw, 0⟩, ⟨7, 1, .rw, 0⟩, ⟨8, 1, .rw, 0⟩, ⟨9, 1, .rw, 0⟩,
    ⟨10, 1, .rw, 1⟩, ⟨11, 1, .rw, 0⟩, ⟨12, 3, .rw, 0⟩]

/-- The fields of `SAP.P[p].MCTRL` (R574). -/
def sapMaskFields : List RField := [⟨0, 1, .w1s, 0⟩, ⟨1, 1, .rw, 0⟩, ⟨2, 4, .rw, 7⟩, ⟨6, 1, .rw, 0⟩]

theorem regFields_sapCfg : ∀ p < 32, regFields (0xD0000 + 64 * p) = some sapCfgFields := by decide +kernel

theorem regFields_sapMask : ∀ p < 32, regFields (0xD0010 + 64 * p) = some sapMaskFields := by decide +kernel

/-- EN of a port is not a field that a write stores: it acts through start and stop (R591, R592). -/
theorem State.fieldOk_sapEn (s : State) {p : Nat} (hp : p < 32) (n : Nat) (v : Word) :
    s.fieldOk (0xD0000 + 64 * p) 0 n v = false := by
  simp [State.fieldOk, State.fieldOk2, onArr, arrIdx_elem (base := 0xD0000) (stride := 64) (by decide) hp]

/-- ARM is not stored either (R574). -/
theorem State.fieldOk_sapArm (s : State) {p : Nat} (hp : p < 32) (n : Nat) (v : Word) :
    s.fieldOk (0xD0010 + 64 * p) 0 n v = false := by
  simp [State.fieldOk, State.fieldOk2, onArr, arrIdx_elem (base := 0xD0010) (stride := 64) (by decide) hp]

/-- A set bit that its rule refuses stays as it was. -/
theorem State.writeField_of_refused_w1s (s : State) {off : Nat} {v : Word} {f : RField} (hty : f.ty = .w1s)
    (hno : s.fieldOk off f.lo (getBits v f.lo f.w) v = false) (acc : Word × Bool) : s.writeField off v acc f = acc := by
  simp only [State.writeField, hty, hno, Bool.false_eq_true, if_false]

/-- The stored word of `SAP.P[p].CFG` keeps EN. -/
theorem State.sapEn_stored (s : State) {p : Nat} (hp : p < 32) (v : Word) (acc : Word × Bool) :
    getBits (sapCfgFields.foldl (s.writeField (0xD0000 + 64 * p) v) acc).1 0 1 = getBits acc.1 0 1 := by
  refine State.getBits_foldl_writeField_kept (f := ⟨0, 1, .rw, 0⟩) (by decide) (by decide) (fun g hg => ?_) acc
  rcases List.mem_cons.mp hg with rfl | hrest
  · exact .inr (State.writeField_of_refused (.inl rfl) (s.fieldOk_sapEn hp _ v))
  · exact .inl (.inl ((by decide : ∀ g ∈ sapCfgFields.tail, 1 ≤ g.lo) g hrest))

/-- The stored word of `SAP.P[p].MCTRL` keeps ARM. -/
theorem State.sapArm_stored (s : State) {p : Nat} (hp : p < 32) (v : Word) (acc : Word × Bool) :
    getBits (sapMaskFields.foldl (s.writeField (0xD0010 + 64 * p) v) acc).1 0 1 = getBits acc.1 0 1 := by
  refine State.getBits_foldl_writeField_kept (f := ⟨0, 1, .w1s, 0⟩) (by decide) (by decide) (fun g hg => ?_) acc
  rcases List.mem_cons.mp hg with rfl | hrest
  · exact .inr (s.writeField_of_refused_w1s rfl (s.fieldOk_sapArm hp _ v))
  · exact .inl (.inl ((by decide : ∀ g ∈ sapMaskFields.tail, 1 ≤ g.lo) g hrest))

/-! ### What a write of a port's register sets off -/

theorem not_clear_sapCfg : ∀ p < 32, clearOffs.contains (0xD0000 + 64 * p) = false := by decide +kernel

theorem not_clear_sapMask : ∀ p < 32, clearOffs.contains (0xD0010 + 64 * p) = false := by decide +kernel

theorem State.hook_sapCfg (t old : State) (q : Requester) {p : Nat} (v : Word) (hp : p < 32) :
    t.hook old q (0xD0000 + 64 * p) v =
      if getBits v 0 1 = 1 then (if t.on (Reg.SAP.P.CFG.EN p) then t else sapStart p t) else sapStop p t := by
  unfold State.hook
  rw [not_clear_sapCfg p hp, show (0xD0000 + 64 * p) / 0x10000 = 13 by omega]
  unfold State.hookSap
  rw [arrIdx_elem (by decide) hp]
  rfl

theorem State.hook_sapMask (t old : State) (q : Requester) {p : Nat} (v : Word) (hp : p < 32) :
    t.hook old q (0xD0010 + 64 * p) v = if getBits v 0 1 = 1 then sapArm p t else t := by
  have hcfg : arrIdx 0xD0000 64 32 (0xD0010 + 64 * p) = none := arrIdx_none (by omega)
  unfold State.hook
  rw [not_clear_sapMask p hp, show (0xD0010 + 64 * p) / 0x10000 = 13 by omega]
  unfold State.hookSap
  rw [hcfg, arrIdx_elem (by decide) hp]
  rfl

/-- What the model holds of the ports is left by counting a violation and showing EVAL. -/
theorem State.sp_writeMapped (s : State) (q : Requester) (off : Nat) (fs : List RField) (v : Word) (p : Nat) :
    (s.writeMapped q off fs v).sp p = ((s.written off fs v).hook s q off v).sp p := by
  have heval (t : State) : (t.showEval s).sp p = t.sp p := by
    unfold State.showEval
    dsimp only
    split
    · rfl
    · rfl
  rw [State.writeMapped_eq, heval]
  split
  · rfl
  · rfl

/-- A field in the blocks between SYS and STORE reads what the write and its hook leave. -/
theorem State.rd_writeMapped (s : State) (q : Requester) (off : Nat) (fs : List RField) (v : Word) {f : Fld}
    (hf : 0x10000 ≤ f.off ∧ f.off < 0x180000) :
    (s.writeMapped q off fs v).rd f = ((s.written off fs v).hook s q off v).rd f :=
  congrArg (getBits · f.lo f.w) (s.word_writeMapped q off fs v (besideWrites_of_range hf))

theorem State.on_writeMapped (s : State) (q : Requester) (off : Nat) (fs : List RField) (v : Word) {f : Fld}
    (hf : 0x10000 ≤ f.off ∧ f.off < 0x180000) :
    (s.writeMapped q off fs v).on f = ((s.written off fs v).hook s q off v).on f :=
  congrArg (· != 0) (s.rd_writeMapped q off fs v hf)

/-! ### Start, stop and arming of a port (R569, R574, R591, R592) -/

theorem State.rd_setSp (s : State) (p : Nat) (x : SapS) (f : Fld) : (s.setSp p x).rd f = s.rd f := rfl

theorem State.on_setSp (s : State) (p : Nat) (x : SapS) (f : Fld) : (s.setSp p x).on f = s.on f := rfl

theorem State.sp_setSp_same (s : State) (p : Nat) (x : SapS) :
    (s.setSp p x).sp p = { x with out := if s.pwr.tripped then [] else x.out } := mapGetD_mapSet_same ..

theorem sapEn_apart_status (p : Nat) {f : Fld} (h : f.off = 851988 + 64 * p) : (Reg.SAP.P.CFG.EN p).apart f = true :=
  Fld.apart_of_off (by rw [h]; exact fun h => absurd (Nat.add_right_cancel h) (by decide))

theorem sapStatus_apart_en (p : Nat) {f : Fld} (h : f.off = 851988 + 64 * p) : f.apart (Reg.SAP.P.CFG.EN p) = true :=
  Fld.apart_of_off (by rw [h]; exact fun h => absurd (Nat.add_right_cancel h) (by decide))

theorem sapCfgerr_apart_state (p : Nat) : (Reg.SAP.P.STATUS.CFGERR p).apart (Reg.SAP.P.STATUS.STATE p) = true :=
  Fld.apart_of_above (Nat.le_of_ble_eq_true rfl)

theorem sapState_apart_cfgerr (p : Nat) : (Reg.SAP.P.STATUS.STATE p).apart (Reg.SAP.P.STATUS.CFGERR p) = true :=
  Fld.apart_of_below (Nat.le_of_ble_eq_true rfl)

section
variable {s : State} {p : Nat}

/-- A port whose settings R569 refuses stays stopped. -/
theorem sapStart_of_bad (hstop : s.sapState p = 0) (hbad : s.sapBad p = true) :
    sapStart p s = (s.put (Reg.SAP.P.CFG.EN p) false).put (Reg.SAP.P.STATUS.CFGERR p) true :=
  (if_neg (not_not.mpr hstop)).trans (if_pos hbad)

theorem sapStart_of_good (hstop : s.sapState p = 0) (hgood : s.sapBad p = false) :
    sapStart p s = (((s.put (Reg.SAP.P.CFG.EN p) true).put (Reg.SAP.P.STATUS.CFGERR p) false).wr
      (Reg.SAP.P.STATUS.STATE p) sapStarting).setSp p
        { no := (s.sp p).no, from_ := s.ns + 1000, arm := (s.sp p).arm, slips := (s.sp p).slips } :=
  (if_neg (not_not.mpr hstop)).trans (if_neg (by rw [hgood]; exact Bool.false_ne_true))

/-- EN follows the check of R569. -/
theorem on_en_sapStart (hstop : s.sapState p = 0) : (sapStart p s).on (Reg.SAP.P.CFG.EN p) = !s.sapBad p := by
  cases hbad : s.sapBad p with
  | true =>
    rw [sapStart_of_bad hstop hbad, State.on_put_apart _ _ _ _ rfl rfl (sapStatus_apart_en p rfl), State.rd_put_same _ _ _ rfl rfl]
    rfl
  | false =>
    rw [sapStart_of_good hstop hbad, State.on_setSp, State.on_wr_apart _ _ _ _ rfl rfl (sapStatus_apart_en p rfl),
      State.on_put_apart _ _ _ _ rfl rfl (sapStatus_apart_en p rfl), State.rd_put_same _ _ _ rfl rfl]
    rfl

theorem on_cfgerr_sapStart (hstop : s.sapState p = 0) : (sapStart p s).on (Reg.SAP.P.STATUS.CFGERR p) = s.sapBad p := by
  cases hbad : s.sapBad p with
  | true => rw [sapStart_of_bad hstop hbad, State.rd_put_same _ _ _ rfl rfl]
  | false =>
    rw [sapStart_of_good hstop hbad, State.on_setSp, State.on_wr_apart _ _ _ _ rfl rfl (sapState_apart_cfgerr p),
      State.rd_put_same _ _ _ rfl rfl]

theorem sapState_sapStart (hstop : s.sapState p = 0) : (sapStart p s).sapState p = if s.sapBad p then 0 else 1 := by
  unfold State.sapState
  cases hbad : s.sapBad p with
  | true =>
    rw [sapStart_of_bad hstop hbad, State.rd_put_apart _ _ _ _ rfl rfl (sapCfgerr_apart_state p),
      State.rd_put_apart _ _ _ _ rfl rfl (sapEn_apart_status p rfl), if_pos rfl]
    exact hstop
  | false =>
    rw [sapStart_of_good hstop hbad, State.rd_setSp, State.rd_wr_same _ _ _ rfl]
    rfl

/-- Its first frame comes at least 1 us on (R591). -/
theorem from_sapStart (hstop : s.sapState p = 0) (hgood : s.sapBad p = false) :
    ((sapStart p s).sp p).from_ = s.ns + 1000 := by
  rw [sapStart_of_good hstop hgood, State.sp_setSp_same]

/-- The state in which a stop leaves EN and the armed mask. -/
def State.sapDisarm (s : State) (p : Nat) : State :=
  let s1 := s.put (Reg.SAP.P.CFG.EN p) false
  if (s1.sp p).swap.isNone then (s1.wr (Reg.SAP.P.MCTRL.ARM p) 0).setSp p { s1.sp p with arm := none } else s1

theorem State.on_en_sapDisarm (s : State) (p : Nat) : (s.sapDisarm p).on (Reg.SAP.P.CFG.EN p) = false := by
  have hput : (s.put (Reg.SAP.P.CFG.EN p) false).on (Reg.SAP.P.CFG.EN p) = false := State.rd_put_same _ _ _ rfl rfl
  have harm : (Reg.SAP.P.MCTRL.ARM p).apart (Reg.SAP.P.CFG.EN p) = true :=
    Fld.apart_of_off fun h => absurd (Nat.add_right_cancel h) (by decide)
  unfold State.sapDisarm
  dsimp only
  split
  · rw [State.on_setSp, State.on_wr_apart _ _ _ _ rfl rfl harm, hput]
  · exact hput

/-- A running port that has its clock fades out (R592). -/
theorem sapStop_of_running (hrun : s.sapState p = 2) (hlos : s.on (Reg.SAP.P.STATUS.LOS p) = false) :
    sapStop p s = (s.sapDisarm p).wr (Reg.SAP.P.STATUS.STATE p) sapStopping :=
  (if_neg (by rw [hrun]; decide)).trans (if_neg (by rw [hrun, hlos]; decide))

/-- A starting one is silent already (R592). -/
theorem sapStop_of_starting (hstart : s.sapState p = 1) : sapStop p s = (s.sapDisarm p).sapHalt p :=
  (if_neg (by rw [hstart]; decide)).trans (if_pos (by rw [hstart]; rfl))

theorem sapArm_of_idle (h : s.on (Reg.SAP.P.MCTRL.ARM p) = false) :
    sapArm p s = (s.wr (Reg.SAP.P.MCTRL.ARM p) 1).setSp p { s.sp p with arm := some s.now3 } :=
  if_neg (by rw [h]; exact Bool.false_ne_true)

end

/-! ### The three writes -/

section
variable {s : State} {p : Nat} (q : Requester) (v : Word)

theorem State.written_sapCfg (s : State) (p : Nat) (v : Word) : s.written (0xD0000 + 64 * p) sapCfgFields v =
    s.setWord (0xD0000 + 64 * p) (sapCfgFields.foldl (s.writeField (0xD0000 + 64 * p) v) (s.word (0xD0000 + 64 * p), false)).1 :=
  s.written_of_plain _ v rfl

theorem State.written_sapMask (s : State) (p : Nat) (v : Word) : s.written (0xD0010 + 64 * p) sapMaskFields v =
    s.setWord (0xD0010 + 64 * p) (sapMaskFields.foldl (s.writeField (0xD0010 + 64 * p) v) (s.word (0xD0010 + 64 * p), false)).1 :=
  s.written_of_plain _ v rfl

/-- The stored settings leave EN and the status. -/
theorem State.on_en_written_sapCfg (s : State) (hp : p < 32) : (s.written (0xD0000 + 64 * p) sapCfgFields v).on (Reg.SAP.P.CFG.EN p) =
    s.on (Reg.SAP.P.CFG.EN p) := by
  rw [State.written_sapCfg]
  unfold State.on State.rd
  rw [show (Reg.SAP.P.CFG.EN p).off = 0xD0000 + 64 * p from rfl, State.word_setWord_same]
  exact congrArg (· != 0) (s.sapEn_stored hp v _)

theorem State.rd_status_written_sapCfg (s : State) {f : Fld} (hf : f.off = 851988 + 64 * p) :
    (s.written (0xD0000 + 64 * p) sapCfgFields v).rd f = s.rd f := by
  rw [State.written_sapCfg]
  unfold State.rd
  rw [hf, State.word_setWord_other _ _ fun h => absurd (Nat.add_right_cancel h) (by decide)]

theorem State.on_arm_written_sapMask (s : State) (hp : p < 32) :
    (s.written (0xD0010 + 64 * p) sapMaskFields v).on (Reg.SAP.P.MCTRL.ARM p) = s.on (Reg.SAP.P.MCTRL.ARM p) := by
  rw [State.written_sapMask]
  unfold State.on State.rd
  rw [show (Reg.SAP.P.MCTRL.ARM p).off = 0xD0010 + 64 * p from rfl, State.word_setWord_same]
  exact congrArg (· != 0) (s.sapArm_stored hp v _)

/-- The registers of the ports lie between SYS and STORE. -/
theorem sap_between (hp : p < 32) {k : Nat} (h : 851968 ≤ k ∧ k < 852032) : 0x10000 ≤ k + 64 * p ∧ k + 64 * p < 0x180000 := by omega

/-- A write of EN = 1 is the start (R591). -/
theorem State.hook_sapStart (s : State) (hp : p < 32) (hv : getBits v 0 1 = 1) (hoff : s.on (Reg.SAP.P.CFG.EN p) = false) :
    (s.written (0xD0000 + 64 * p) sapCfgFields v).hook s q (0xD0000 + 64 * p) v =
      sapStart p (s.written (0xD0000 + 64 * p) sapCfgFields v) := by
  rw [State.hook_sapCfg _ s q v hp, if_pos hv, State.on_en_written_sapCfg v s hp, hoff, if_neg Bool.false_ne_true]

theorem State.hook_sapStop (s : State) (hp : p < 32) (hv : getBits v 0 1 = 0) :
    (s.written (0xD0000 + 64 * p) sapCfgFields v).hook s q (0xD0000 + 64 * p) v =
      sapStop p (s.written (0xD0000 + 64 * p) sapCfgFields v) := by
  rw [State.hook_sapCfg _ s q v hp, if_neg (by rw [hv]; decide)]

variable {fs : List RField} (hw : s.Writes q (0xD0000 + 64 * p) fs) (hp : p < 32)
include hw hp

/-- What PORT_START leaves of the port (R569, R591). -/
theorem portStart_of_stopped (hv : getBits v 0 1 = 1) (hstop : s.sapState p = 0) (hoff : s.on (Reg.SAP.P.CFG.EN p) = false)
    {u : State} (hu : u = s.setWord (0xD0000 + 64 * p) (fs.foldl (s.writeField (0xD0000 + 64 * p) v) (s.word (0xD0000 + 64 * p), false)).1) :
    ∃ t, exec (.portStart q p v) s = .next t ∧ t.on (Reg.SAP.P.CFG.EN p) = !u.sapBad p ∧ t.on (Reg.SAP.P.STATUS.CFGERR p) = u.sapBad p ∧
      t.sapState p = (if u.sapBad p then 0 else 1) ∧ (u.sapBad p = false → (t.sp p).from_ = s.ns + 1000) := by
  obtain rfl : sapCfgFields = fs := Option.some.inj ((regFields_sapCfg p hp).symm.trans hw.mapped)
  rw [← State.written_sapCfg] at hu
  have hhook := s.hook_sapStart q v hp hv hoff
  rw [← hu] at hhook
  have hustop : u.sapState p = 0 := by rw [hu]; exact (s.rd_status_written_sapCfg v rfl).trans hstop
  have huns : u.ns = s.ns := by rw [hu, State.written_sapCfg]; rfl
  refine ⟨_, next_write_of (by simp [hp, hv]) hw v, ?_, ?_, ?_, fun hgood => ?_⟩
  · rw [s.on_writeMapped q _ _ v (sap_between hp (by decide)), ← hu, hhook, on_en_sapStart hustop]
  · rw [s.on_writeMapped q _ _ v (sap_between hp (by decide)), ← hu, hhook, on_cfgerr_sapStart hustop]
  · exact (s.rd_writeMapped q _ _ v (sap_between hp (by decide))).trans
      (by rw [← hu, hhook]; exact sapState_sapStart hustop)
  · rw [s.sp_writeMapped, ← hu, hhook, from_sapStart hustop hgood, huns]

/-- What PORT_STOP leaves of a port that runs with its clock (R592). -/
theorem portStop_of_running (hv : getBits v 0 1 = 0) (hrun : s.sapState p = 2) (hlos : s.on (Reg.SAP.P.STATUS.LOS p) = false) :
    ∃ t, exec (.portStop q p v) s = .next t ∧ t.on (Reg.SAP.P.CFG.EN p) = false ∧ t.sapState p = 3 := by
  obtain rfl : sapCfgFields = fs := Option.some.inj ((regFields_sapCfg p hp).symm.trans hw.mapped)
  have hhook := s.hook_sapStop q v hp hv
  rw [sapStop_of_running ((s.rd_status_written_sapCfg v rfl).trans hrun)
    ((congrArg (· != 0) (s.rd_status_written_sapCfg v rfl)).trans hlos)] at hhook
  refine ⟨_, next_write_of (by simp [hp, hv]) hw v, ?_, ?_⟩
  · rw [s.on_writeMapped q _ _ v (sap_between hp (by decide)), hhook,
      State.on_wr_apart _ _ _ _ rfl rfl (sapStatus_apart_en p rfl), State.on_en_sapDisarm]
  · exact (s.rd_writeMapped q _ _ v (sap_between hp (by decide))).trans (by rw [hhook, State.rd_wr_same _ _ _ rfl]; rfl)

/-- What it leaves of one that is starting (R592). -/
theorem portStop_of_starting (hv : getBits v 0 1 = 0) (hstart : s.sapState p = 1) :
    ∃ t, exec (.portStop q p v) s = .next t ∧ t.on (Reg.SAP.P.CFG.EN p) = false ∧ t.sapState p = 0 := by
  obtain rfl : sapCfgFields = fs := Option.some.inj ((regFields_sapCfg p hp).symm.trans hw.mapped)
  have hhook := s.hook_sapStop q v hp hv
  rw [sapStop_of_starting ((s.rd_status_written_sapCfg v rfl).trans hstart)] at hhook
  unfold State.sapHalt at hhook
  dsimp only at hhook
  refine ⟨_, next_write_of (by simp [hp, hv]) hw v, ?_, ?_⟩
  · rw [s.on_writeMapped q _ _ v (sap_between hp (by decide)), hhook, State.on_setSp,
      State.on_wr_apart _ _ _ _ rfl rfl (sapStatus_apart_en p rfl), State.on_en_sapDisarm]
  · exact (s.rd_writeMapped q _ _ v (sap_between hp (by decide))).trans
      (by rw [hhook, State.rd_setSp, State.rd_wr_same _ _ _ rfl]; rfl)

end

/-- What MASK_ARM leaves of a port without an armed change (R574). -/
theorem maskArm_of_idle {s : State} {p : Nat} (q : Requester) (v : Word) {fs : List RField} (hw : s.Writes q (0xD0010 + 64 * p) fs)
    (hp : p < 32) (hv : getBits v 0 1 = 1) (hidle : s.on (Reg.SAP.P.MCTRL.ARM p) = false) :
    ∃ t, exec (.maskArm q p v) s = .next t ∧ t.on (Reg.SAP.P.MCTRL.ARM p) = true ∧ (t.sp p).arm = some s.now3 := by
  obtain rfl : sapMaskFields = fs := Option.some.inj ((regFields_sapMask p hp).symm.trans hw.mapped)
  have hhook := State.hook_sapMask (s.written (0xD0010 + 64 * p) sapMaskFields v) s q v hp
  rw [if_pos hv, sapArm_of_idle ((s.on_arm_written_sapMask v hp).trans hidle)] at hhook
  refine ⟨_, next_write_of (by simp [hp, hv]) hw v, ?_, ?_⟩
  · rw [s.on_writeMapped q _ _ v (sap_between hp (by decide)), hhook, State.on_setSp]
    exact congrArg (· != 0) (State.rd_wr_same _ _ _ rfl)
  · rw [s.sp_writeMapped, hhook, State.sp_setSp_same, State.written_sapMask]
    rfl

/-- Settles O25: PORT_FRAME is `frameAt`, whose branches are the cases of R570, R587 and R591; start, stop and arming are
register writes whose own field is stored by what they set off. -/
theorem serialRowsTakeEffect : Obligations.SerialRowsTakeEffect := by
  refine ⟨?frame, ?underrun, ?loss, ?fast, ?near, ?slips, ?start, ?stopRunning, ?stopStarting, ?mask⟩
  case frame =>
    intro p fs rx s u v hp hgrid hu hv
    have hframe (hlive : s.sapState p ≠ 0) : exec (.portFrame p rx fs) s =
        .next (s.frameAt v p rx fs (u.sp p).from_ (u.steadyClock p fs)) :=
      congrArg Host.Outcome.next (doPortFrame_of_noted hp hlive hgrid hu hv)
    have hlive1 (h : s.sapState p = 1) : s.sapState p ≠ 0 := by omega
    have hlive2 (h : 2 ≤ s.sapState p) : s.sapState p ≠ 0 := by omega
    refine ⟨fun hst hlos => ?_, fun hst hrole hfrom => ?_, fun hst hrole hfrom => ?_, fun l hl hnext hrole => ⟨fun hst => ?_, fun hst hlos => ?_⟩,
      fun hlast hrole hst => ?_⟩
    · rw [hframe (hlive2 hst), State.frameAt_of_moving hst hlos]
    · rw [hframe (hlive1 hst), State.frameAt_of_master hst hrole, if_neg (Nat.not_lt.mpr hfrom)]
    · rw [hframe (hlive1 hst), State.frameAt_of_master hst hrole, if_pos hfrom]
    · rw [hframe (hlive1 hst), State.frameAt_of_slave hst hrole, State.steadyClock_of_last hl, if_pos (decide_eq_true hnext)]
    · rw [hframe (hlive2 hst), State.frameAt_of_lost hst hlos, State.steadyClock_of_last hl, if_pos (decide_eq_true hnext)]
    · rcases hst with hst | ⟨hst, hlos⟩
      · rw [hframe (hlive1 hst), State.frameAt_of_slave hst hrole, State.not_steadyClock hlast, if_neg Bool.false_ne_true]
      · rw [hframe (hlive2 hst), State.frameAt_of_lost hst hlos, State.not_steadyClock hlast, if_neg Bool.false_ne_true]
  case underrun =>
    exact fun p s hp hst => congrArg Host.Outcome.next (if_neg (by simp [Nat.not_le.mpr hp, sapRun, Nat.not_lt.mpr hst]))
  case loss =>
    exact fun p s hp hst hrole hlos hclock => congrArg Host.Outcome.next (doLossOfClock_of_running hp hst hrole hlos hclock)
  case fast =>
    exact fun p ppb s hp hst hrole hppb =>
      congrArg Host.Outcome.next ((doRateMeasure_of_slave ppb hp hst hrole).trans (if_pos hppb))
  case near =>
    exact fun p ppb s hp hst hrole hppb => congrArg Host.Outcome.next
      ((doRateMeasure_of_slave ppb hp hst hrole).trans ((if_neg (by omega)).trans (if_pos hppb)))
  case slips => exact fun p t d r s hslips hlate => congrArg Host.Outcome.next (doSlipLog_of_window hslips hlate)
  case start => exact fun q v p fs s u hw hp hv hst hoff hu => portStart_of_stopped q v hw hp hv hst hoff hu
  case stopRunning => exact fun q v p fs s hw hp hv hst hlos => portStop_of_running q v hw hp hv hst hlos
  case stopStarting => exact fun q v p fs s hw hp hv hst => portStop_of_starting q v hw hp hv hst
  case mask => exact fun q v p fs s hw hp hv hidle => maskArm_of_idle q v hw hp hv hidle

end Sys2Proof.Machine
end

section
/-! Stage groups. -/
namespace Sys2Proof.Machine

/-! ### The rows of a stage group (R599, R605, R615 to R620) -/

theorem State.lasted_some {s : State} {since : Option Nat} {t ns : Nat} (hs : since = some t) (h : t + ns ≤ s.run) :
    s.lasted since ns = true := by
  rw [hs]
  exact decide_eq_true h

section
variable {g : Nat} {s : State}

theorem doRailQualified_of_lasted {t : Nat} (hg : g < 16) (hstate : s.rd (Reg.MOD.G.STAT.STATE g) = 1) (hboot : (s.mg g).boot = none)
    (hin : (s.mg g).inAt = some t) (hlate : t + 10000000 ≤ s.run) : doRailQualified g s = s.groupBoot g :=
  if_neg (by simp [Nat.not_le.mpr hg, hstate, hboot, State.lasted_some hin hlate])

/-- A group that has spent its BOOT periods and is not released from an all-stop runs (R619). -/
theorem doBootEnd_of_done {k : Nat} {u : State} (hg : g < 16) (hstop : s.stopped g = false) (hrel : (s.mg g).rel = false)
    (hboot : (s.mg g).boot = some k) (hk : s.rd (Reg.MOD.G.CFG.BOOT g) ≤ k)
    (hu : u = (s.wr (Reg.MOD.G.STAT.STATE g) 2).setMg g { s.mg g with rel := false, boot := none }) :
    doBootEnd g s = u.eachCh g fun n y => if y.due then { y with base := chProbe, due := false, offAt := s.run, fade := s.fadeAt g }
      else if s.booted g n then { y with base := chRun, lower := false, fade := s.rampTo { g0 := 0, g1 := 0 } (s.fadeGoal g) 256 } else y := by
  have hdriving : s.driving g = true := by simp [State.driving, hboot]
  have hacts : ¬ (decide (16 ≤ g) || !s.driving g || s.stopped g || !(true || (chansOf g).any (s.booted g))) = true := by
    simp [Nat.not_le.mpr hg, hdriving, hstop]
  unfold doBootEnd
  simp only [hboot, decide_eq_true hk]
  rw [if_neg hacts, hrel, hu]
  simp only [Bool.false_eq_true, if_false, if_true]

/-- The measured rail of a period (R605). -/
def State.railAt (s : State) (g bits : Nat) : Rat := (s.rd (Reg.MOD.G.RAIL.RAILFS g) * railDensity bits : Nat) / 10648

/-- A period that begins on time computes its eight channels (R599). -/
theorem doCarrier_of_due {bits : Nat} {u : State} (hg : g < 16) (hstate : s.rd (Reg.MOD.G.STAT.STATE g) ≠ 0) (hnext : (s.mg g).next = none)
    (hfc : (s.mg g).fc ≠ 0) (hrail : s.on (Reg.MOD.G.STAT.RAILFAIL g) = false) (hdue : (s.mg g).due ≤ s.time.now)
    (hsoon : s.time.now < (s.mg g).due + 100000000 * tu / (s.mg g).fc)
    (hu : u = ((s.setMg g { s.mg g with period := (s.mg g).due, boot := (s.mg g).boot.map fun k => k + 1 }).measureRail g
      (s.railAt g bits)).noteClear g) :
    doCarrier g bits s = (List.range 8).foldl (fun (a : State) q => a.chPeriod g q (s.railAt g bits)) u := by
  subst hu
  have hbegins : ¬ (decide ((s.mg g).fc = 0) || decide ((s.mg g).fc ≠ 0) && decide (s.time.now < (s.mg g).due)) = true := by
    rw [decide_eq_false hfc, decide_eq_false (Nat.not_lt.mpr hdue), Bool.and_false]
    exact Bool.false_ne_true
  have honTime : (decide ((s.mg g).fc ≠ 0) && decide (s.time.now < (s.mg g).due + 100000000 * tu / (s.mg g).fc)) = true := by
    rw [decide_eq_true hfc, decide_eq_true hsoon, Bool.and_true]
  unfold doCarrier State.railAt
  rw [if_neg (by simp [Nat.not_le.mpr hg, hstate])]
  simp only [hnext]
  rw [if_neg hbegins, hrail, honTime, if_neg Bool.false_ne_true]
  rfl

theorem doUndervoltage_of_lasted {t : Nat} (hg : g < 16) (hstate : s.rd (Reg.MOD.G.STAT.STATE g) = 2)
    (huv : s.on (Reg.MOD.G.STAT.UV g) = false) (hunder : (s.mg g).underAt = some t) (hlate : t + 1000000 ≤ s.run) :
    doUndervoltage g s = ((s.put (Reg.MOD.G.STAT.UV g) true).underOff g).modEvent g 2 (Reg.MOD.G.STAT.STATE g) := by
  have hheld : s.rd (Reg.MOD.G.STAT.STATE g) ≠ 3 := by rw [hstate]; decide
  refine (if_neg (by simp [Nat.not_le.mpr hg, hstate, huv, State.lasted_some hunder hlate])).trans ?_
  dsimp only
  rw [if_neg hheld]

theorem doOvervoltage_of_above (hg : g < 16) (hstate : s.rd (Reg.MOD.G.STAT.STATE g) ≠ 0) (hov : s.on (Reg.MOD.G.STAT.OV g) = false)
    (habove : ((s.rd (Reg.MOD.G.RAILLIM.OV g) : Nat) : Rat) < (s.mg g).vrail) :
    doOvervoltage g s = ((s.put (Reg.MOD.G.STAT.OV g) true).stageOff g).modEvent g 2 (Reg.MOD.G.STAT.STATE g) :=
  if_neg (by simp [Nat.not_le.mpr hg, hstate, hov, habove])

/-- A sound status frame without a fault bit shows its fields (R616, R617). -/
theorem doStageFrame_of_clear {v : Nat} {b : Word} {u : State} (hg : g < 16) (hv : v = b.toNat) (hpre : v / 2 ^ 28 = 0xA)
    (hcrc : crc8Of v = v % 256) (hotf : v.testBit 16 = false) (huvlo : v.testBit 15 = false) (hgdf : v.testBit 14 = false)
    (hu : u = (((((s.wr (Reg.MOD.G.STAT.TEMP g) (v / 2 ^ 18 % 1024)).put (Reg.MOD.G.STAT.OTW g) (v.testBit 17)).put
        (Reg.MOD.G.STAT.OTF g) false).put (Reg.MOD.G.STAT.UVLO g) false).put (Reg.MOD.G.STAT.GDF g) false).put
        (Reg.MOD.G.STAT.STATLOS g) false) :
    doStageFrame g b s = (u.setMg g { u.mg g with frameAt := s.run }).noteClear g := by
  unfold doStageFrame
  rw [← hv]
  dsimp only
  rw [if_neg (by simp [Nat.not_le.mpr hg, (show v / 268435456 = 10 from hpre), hcrc]), hotf, huvlo, hgdf, ← hu]
  rfl

theorem doStatusTimeout_of_late (hg : g < 16) (hlos : s.on (Reg.MOD.G.STAT.STATLOS g) = false)
    (hlate : (s.mg g).frameAt + 10000000 ≤ s.run) :
    doStatusTimeout g s = (s.put (Reg.MOD.G.STAT.STATLOS g) true).modEvent g 4 (Reg.MOD.G.STAT.STATE g) :=
  if_neg (by simp [Nat.not_le.mpr hg, hlos, State.lasted_some (rfl : some (s.mg g).frameAt = _) hlate])

theorem doFaultRestart_of_clear {t : Nat} (hg : g < 16) (hstate : s.rd (Reg.MOD.G.STAT.STATE g) = 3)
    (hclear : (s.mg g).clearAt = some t) (hlate : t + 100000000 ≤ s.run) :
    doFaultRestart g s = (((s.put (Reg.MOD.G.STAT.UV g) false).put (Reg.MOD.G.STAT.OV g) false).cutProbes g).groupBoot g :=
  if_neg (by simp [Nat.not_le.mpr hg, hstate, State.lasted_some hclear hlate])

end

theorem doSenseStuck_of_clear {n k : Nat} {f : Fld} {s : State} (hf : senseBit n k = some f) (hoff : s.on f = false) :
    doSenseStuck n k s = if k = 2 then ((s.put f true).modEvent n 1 f).railBefore n
      else ((s.put f true).modEvent n 1 f).count (Reg.MOD.CH.CNT.SNSF n) := by
  unfold doSenseStuck
  simp only [hf, hoff, Bool.false_eq_true, if_false]

theorem doSenseClear_of_bit {n k : Nat} {f : Fld} {s : State} (hf : senseBit n k = some f) : doSenseClear n k s = s.put f false := by
  unfold doSenseClear
  simp only [hf]

/-! ### A group is enabled (R618, R619) -/

theorem State.word_showCh_other (s : State) {n o : Nat} (ho : o ≠ 1049604 + 16 * n) : (s.showCh n).word o = s.word o := by
  unfold State.showCh State.put
  dsimp only
  rw [State.word_wr_other _ _ _ ho, State.word_wr_other _ _ _ ho, State.word_wr_other _ _ _ ho, State.word_wr_other _ _ _ ho]
  split <;> rfl

/-- What the channels of a group go through leaves the registers below theirs. -/
theorem State.word_eachCh_below (s : State) (g : Nat) (f : Nat → ModCh → ModCh) {o : Nat} (ho : o < 1049604) :
    (s.eachCh g f).word o = s.word o := by
  unfold State.eachCh
  refine List.foldlRecOn (motive := fun t : State => t.word o = s.word o) _ _ rfl fun t ht n _ => ?_
  exact (State.word_showCh_other _ (by omega)).trans ht

theorem State.word_setMg (s : State) (g : Nat) (x : ModG) (o : Nat) : (s.setMg g x).word o = s.word o := rfl

/-- The choice of a carrier writes the group's carrier status alone. -/
theorem State.word_chooseCarrier_other (s : State) (g tick : Nat) {o : Nat} (hcar : o ≠ 1048840 + 32 * g)
    (hevt : o ≠ Reg.HOST.CNT.EVTLOST.off) : (s.chooseCarrier g tick).word o = s.word o := by
  unfold State.chooseCarrier
  extract_lets
  split
  · rfl
  · extract_lets s1 x s2
    have hs1 : s1.word o = s.word o := by
      unfold s1 State.wrSat State.put
      rw [State.word_wr_other _ _ _ hcar, State.word_wr_other _ _ _ hcar, State.word_wr_other _ _ _ hcar]
    have hs2 : s2.word o = s.word o := (s1.word_setMg g _ o).trans hs1
    split
    · exact hs2
    · rw [State.word_post_other _ _ _ hevt, hs2]

/-! ### A register item changes no register but the transactions' (R363) -/

theorem State.word_shItem_other (s : State) (off : Nat) (v : Word) {o : Nat} (hstatus : o ≠ Reg.TXN.STATUS.OSTATE.off)
    (himpl : o ≠ Reg.TXN.IMPL.IGN.off) : (s.shItem off v).word o = s.word o := by
  have hitems (items : Tbl Nat) (n : Nat) : ((s.setItems items).wr Reg.TXN.STATUS.OSTATE n).word o = s.word o :=
    (State.word_wr_other _ _ _ hstatus).trans (State.word_wr_other _ _ _ hstatus)
  unfold State.shItem State.barItem
  split
  · unfold State.addOpen
    split
    · exact State.word_wr_other _ _ _ hstatus
    · exact hitems _ _
  · split
    · exact State.word_wr_other _ _ _ himpl
    · unfold State.addCollect
      split
      · exact State.word_wr_other _ _ _ himpl
      · exact hitems _ _

/-! ### The check of an enable (R618) -/

/-- The check reads registers of block MOD alone. -/
theorem State.groupBad_congr {s t : State} {g : Nat} (h : ∀ f : Fld, 0x100000 ≤ f.off → t.rd f = s.rd f) :
    t.groupBad g = s.groupBad g := by
  have hmod (k : Nat) (hk : 0x100000 ≤ k) : 0x100000 ≤ k + 32 * g := Nat.le_add_right_of_le hk
  unfold State.groupBad State.kMax State.on
  rw [h (Reg.MOD.G.CFG.ABOVE g) (hmod _ (by decide)), h (Reg.MOD.G.CAR.IMAX g) (hmod _ (by decide)),
    h (Reg.MOD.G.RAIL.VNOM g) (hmod _ (by decide)), h (Reg.MOD.G.RAIL.RAILFS g) (hmod _ (by decide)),
    h (Reg.MOD.G.RAILLIM.OV g) (hmod _ (by decide)), h (Reg.MOD.G.RAILLIM.UV g) (hmod _ (by decide)),
    h (Reg.MOD.G.CFG.MINPW g) (hmod _ (by decide)), h (Reg.MOD.G.CFG.DT g) (hmod _ (by decide))]

/-! ### An enable (R618, R619) -/

theorem modStatus_apart_en (g : Nat) {f : Fld} (h : f.off = 1048856 + 32 * g) : f.apart (Reg.MOD.G.CFG.EN g) = true :=
  Fld.apart_of_off (by rw [h]; exact fun h => absurd (Nat.add_right_cancel h) (by decide))

theorem modEn_apart_status (g : Nat) {f : Fld} (h : f.off = 1048856 + 32 * g) : (Reg.MOD.G.CFG.EN g).apart f = true :=
  Fld.apart_of_off (by rw [h]; exact fun h => absurd (Nat.add_right_cancel h) (by decide))

theorem modCfgerr_apart_state (g : Nat) : (Reg.MOD.G.STAT.CFGERR g).apart (Reg.MOD.G.STAT.STATE g) = true :=
  Fld.apart_of_above (Nat.le_of_ble_eq_true rfl)

theorem modState_apart_cfgerr (g : Nat) : (Reg.MOD.G.STAT.STATE g).apart (Reg.MOD.G.STAT.CFGERR g) = true :=
  Fld.apart_of_below (Nat.le_of_ble_eq_true rfl)

section
variable {s : State} {g : Nat}

theorem groupOn_of_bad (hbad : s.groupBad g = true) : groupOn g s = s.put (Reg.MOD.G.STAT.CFGERR g) true := if_pos hbad

/-- The registers of an admitted group at the begin of its start. -/
def State.enabled (s : State) (g : Nat) : State :=
  ((s.put (Reg.MOD.G.CFG.EN g) true).put (Reg.MOD.G.STAT.CFGERR g) false).wr (Reg.MOD.G.STAT.STATE g) 1

/-- The start of an admitted group leaves EN and its status as it began with. -/
theorem word_groupOn_of_good (hgood : s.groupBad g = false) (hstate : s.rd (Reg.MOD.G.STAT.STATE g) = 0) {o : Nat}
    (hcar : o ≠ 1048840 + 32 * g) (ho : o < 1049604) : (groupOn g s).word o = (s.enabled g).word o := by
  unfold groupOn
  rw [hgood, if_neg Bool.false_ne_true, if_neg (not_not.mpr hstate)]
  dsimp only
  rw [State.word_eachCh_below _ _ _ ho,
    State.word_chooseCarrier_other _ _ _ hcar (Nat.ne_of_lt (Nat.lt_trans ho (by decide))), State.word_setMg]
  rfl

/-- A field of the group's CFG or STAT. -/
theorem rd_groupOn_of_good (hg : g < 16) (hgood : s.groupBad g = false) (hstate : s.rd (Reg.MOD.G.STAT.STATE g) = 0) {f : Fld}
    (hf : f.off = 1048832 + 32 * g ∨ f.off = 1048856 + 32 * g) : (groupOn g s).rd f = (s.enabled g).rd f :=
  congrArg (getBits · f.lo f.w) (word_groupOn_of_good hgood hstate (by omega) (by omega))

variable (hstate : s.rd (Reg.MOD.G.STAT.STATE g) = 0)
include hstate

theorem on_en_groupOn (hg : g < 16) : (groupOn g s).on (Reg.MOD.G.CFG.EN g) = (!s.groupBad g || s.on (Reg.MOD.G.CFG.EN g)) := by
  cases hbad : s.groupBad g with
  | true =>
    rw [groupOn_of_bad hbad, State.on_put_apart _ _ _ _ rfl rfl (modStatus_apart_en g rfl)]
    rfl
  | false =>
    refine (congrArg (· != 0) (rd_groupOn_of_good hg hbad hstate (f := Reg.MOD.G.CFG.EN g) (.inl rfl))).trans ?_
    exact ((State.on_wr_apart _ _ _ _ rfl rfl (modStatus_apart_en g rfl)).trans
      (State.on_put_apart _ _ _ _ rfl rfl (modStatus_apart_en g rfl))).trans (State.rd_put_same _ _ _ rfl rfl)

theorem on_cfgerr_groupOn (hg : g < 16) : (groupOn g s).on (Reg.MOD.G.STAT.CFGERR g) = s.groupBad g := by
  cases hbad : s.groupBad g with
  | true => rw [groupOn_of_bad hbad, State.rd_put_same _ _ _ rfl rfl]
  | false =>
    refine (congrArg (· != 0) (rd_groupOn_of_good hg hbad hstate (f := Reg.MOD.G.STAT.CFGERR g) (.inr rfl))).trans ?_
    exact (State.on_wr_apart _ _ _ _ rfl rfl (modState_apart_cfgerr g)).trans (State.rd_put_same _ _ _ rfl rfl)

theorem rd_state_groupOn (hg : g < 16) : (groupOn g s).rd (Reg.MOD.G.STAT.STATE g) = if s.groupBad g then 0 else 1 := by
  cases hbad : s.groupBad g with
  | true =>
    rw [groupOn_of_bad hbad, State.rd_put_apart _ _ _ _ rfl rfl (modCfgerr_apart_state g), hstate]
    rfl
  | false =>
    rw [rd_groupOn_of_good hg hbad hstate (.inr rfl), State.enabled, State.rd_wr_same _ _ _ rfl]
    rfl

end

/-! ### The write of GROUP_ENABLE -/

/-- The fields of `MOD.G[g].CFG` (R599, R618). -/
def modCfgFields : List RField :=
  [⟨0, 1, .rw, 0⟩, ⟨1, 1, .sh, 0⟩, ⟨2, 10, .lk, 128⟩, ⟨12, 10, .lk, 256⟩, ⟨22, 8, .lk, 16⟩, ⟨30, 1, .lk, 1⟩]

theorem regFields_modCfg : ∀ g < 16, regFields (0x100100 + 32 * g) = some modCfgFields := by decide +kernel

theorem not_clear_modCfg : ∀ g < 16, clearOffs.contains (0x100100 + 32 * g) = false := by decide +kernel

/-- EN of a group acts through its own rule (R618). -/
theorem State.fieldOk_modEn (s : State) {g : Nat} (hg : g < 16) (n : Nat) (v : Word) :
    s.fieldOk (0x100100 + 32 * g) 0 n v = false := by
  simp [State.fieldOk, State.fieldOk2, onArr, arrIdx_elem (base := 0x100100) (stride := 32) (by decide) hg]

theorem State.modEn_stored (s : State) {g : Nat} (hg : g < 16) (v : Word) (acc : Word × Bool) :
    getBits (modCfgFields.foldl (s.writeField (0x100100 + 32 * g) v) acc).1 0 1 = getBits acc.1 0 1 := by
  refine State.getBits_foldl_writeField_kept (f := ⟨0, 1, .rw, 0⟩) (by decide) (by decide) (fun f hf => ?_) acc
  rcases List.mem_cons.mp hf with rfl | hrest
  · exact .inr (State.writeField_of_refused (.inl rfl) (s.fieldOk_modEn hg _ v))
  · exact .inl (.inl ((by decide : ∀ f ∈ modCfgFields.tail, 1 ≤ f.lo) f hrest))

theorem State.hook_modCfg (t old : State) (q : Requester) {g : Nat} {v : Word} (hg : g < 16) (hv : getBits v 0 1 = 1) :
    t.hook old q (0x100100 + 32 * g) v = groupOn g t := by
  unfold State.hook
  rw [not_clear_modCfg g hg, show (0x100100 + 32 * g) / 0x10000 = 16 by omega]
  unfold State.hookMod
  rw [arrIdx_elem (by decide) hg]
  exact if_pos hv

/-- What GROUP_ENABLE leaves of a group that is off (R618, R619). -/
theorem groupEnable_of_off {s u : State} (q : Requester) (v : Word) {g : Nat} {fs : List RField} (hw : s.Writes q (0x100100 + 32 * g) fs)
    (hg : g < 16) (hv : getBits v 0 1 = 1) (hoff : s.rd (Reg.MOD.G.STAT.STATE g) = 0)
    (hu : u = s.setWord (0x100100 + 32 * g) (fs.foldl (s.writeField (0x100100 + 32 * g) v) (s.word (0x100100 + 32 * g), false)).1) :
    ∃ t, exec (.groupEnable q g v) s = .next t ∧ t.on (Reg.MOD.G.CFG.EN g) = (!u.groupBad g || s.on (Reg.MOD.G.CFG.EN g)) ∧
      t.on (Reg.MOD.G.STAT.CFGERR g) = u.groupBad g ∧ t.rd (Reg.MOD.G.STAT.STATE g) = if u.groupBad g then 0 else 1 := by
  obtain rfl : modCfgFields = fs := Option.some.inj ((regFields_modCfg g hg).symm.trans hw.mapped)
  have hwritten : s.written (0x100100 + 32 * g) modCfgFields v = u.shItem (0x100100 + 32 * g) v := by
    unfold State.written
    rw [if_pos (by decide), hu]
  have hitem (f : Fld) (hf : 0x100000 ≤ f.off) : (u.shItem (0x100100 + 32 * g) v).rd f = u.rd f :=
    congrArg (getBits · f.lo f.w) (State.word_shItem_other u _ v (Nat.ne_of_gt (Nat.lt_of_lt_of_le (by decide) hf))
      (Nat.ne_of_gt (Nat.lt_of_lt_of_le (by decide) hf)))
  have hfld (k : Nat) (hk : 0x100000 ≤ k) : 0x100000 ≤ k + 32 * g := Nat.le_add_right_of_le hk
  have hbad : (u.shItem (0x100100 + 32 * g) v).groupBad g = u.groupBad g := State.groupBad_congr hitem
  have hstate : (u.shItem (0x100100 + 32 * g) v).rd (Reg.MOD.G.STAT.STATE g) = 0 := by
    rw [hitem _ (hfld _ (by decide)), hu]
    unfold State.rd
    rw [show (Reg.MOD.G.STAT.STATE g).off = 1048856 + 32 * g from rfl,
      State.word_setWord_other _ _ fun h => absurd (Nat.add_right_cancel h) (by decide)]
    exact hoff
  have hen : (u.shItem (0x100100 + 32 * g) v).on (Reg.MOD.G.CFG.EN g) = s.on (Reg.MOD.G.CFG.EN g) := by
    unfold State.on
    rw [hitem _ (hfld _ (by decide)), hu]
    unfold State.rd
    rw [show (Reg.MOD.G.CFG.EN g).off = 0x100100 + 32 * g from rfl, State.word_setWord_same]
    exact congrArg (· != 0) (s.modEn_stored hg v _)
  have hhook : (s.written (0x100100 + 32 * g) modCfgFields v).hook s q (0x100100 + 32 * g) v =
      groupOn g (u.shItem (0x100100 + 32 * g) v) := (State.hook_modCfg _ s q hg hv).trans (congrArg (groupOn g) hwritten)
  have hbetween (k : Nat) (hk : 0x100000 ≤ k ∧ k < 0x100200) : 0x10000 ≤ k + 32 * g ∧ k + 32 * g < 0x180000 := by omega
  refine ⟨_, next_write_of (by simp [hg, hv]) hw v, ?_, ?_, ?_⟩
  · rw [s.on_writeMapped q _ _ v (hbetween _ (by decide)), hhook, on_en_groupOn hstate hg, hbad, hen]
  · rw [s.on_writeMapped q _ _ v (hbetween _ (by decide)), hhook, on_cfgerr_groupOn hstate hg, hbad]
  · rw [s.rd_writeMapped q _ _ v (hbetween _ (by decide)), hhook, rd_state_groupOn hstate hg, hbad]

/-- Settles O26: each row is its branch of the group's rules; an enable is the register write whose EN bit `groupOn` sets
where R618 allows it. -/
theorem stageGroupRowsTakeEffect : Obligations.StageGroupRowsTakeEffect := by
  refine ⟨?qualified, ?boot, ?carrier, ?undervoltage, ?overvoltage, ?frame, ?timeout, ?restart, ?stuck, ?clear, ?enable⟩
  case qualified =>
    exact fun g t s hg hstate hboot hin hlate => congrArg Host.Outcome.next (doRailQualified_of_lasted hg hstate hboot hin hlate)
  case boot =>
    exact fun g k s u hg hstop hrel hboot hk hu => congrArg Host.Outcome.next (doBootEnd_of_done hg hstop hrel hboot hk hu)
  case carrier =>
    rintro g bits s u _ hg hstate hnext hfc hrail hdue hsoon rfl hu
    exact congrArg Host.Outcome.next (doCarrier_of_due hg hstate hnext hfc hrail hdue hsoon hu)
  case undervoltage =>
    exact fun g t s hg hstate huv hunder hlate =>
      congrArg Host.Outcome.next (doUndervoltage_of_lasted hg hstate huv hunder hlate)
  case overvoltage => exact fun g s hg hstate hov habove => congrArg Host.Outcome.next (doOvervoltage_of_above hg hstate hov habove)
  case frame =>
    exact fun g v b s u hg hv hpre hcrc hotf huvlo hgdf hu =>
      congrArg Host.Outcome.next (doStageFrame_of_clear hg hv hpre hcrc hotf huvlo hgdf hu)
  case timeout => exact fun g s hg hlos hlate => congrArg Host.Outcome.next (doStatusTimeout_of_late hg hlos hlate)
  case restart =>
    exact fun g t s hg hstate hclear hlate => congrArg Host.Outcome.next (doFaultRestart_of_clear hg hstate hclear hlate)
  case stuck => exact fun n k f s hf hoff => congrArg Host.Outcome.next (doSenseStuck_of_clear hf hoff)
  case clear => exact fun n k f s hf => congrArg Host.Outcome.next (doSenseClear_of_bit hf)
  case enable => exact fun q v g fs s u hw hg hv hoff hu => groupEnable_of_off q v hw hg hv hoff hu

end Sys2Proof.Machine
end

section
/-! The sentinels. -/
namespace Sys2Proof.Machine

/-! ### The sentinels' commands (R641, R663, R671 to R673) -/

section
variable {d : Desc} {u : State}

theorem sentSetRes_of_sound (hn : d.a0 < 128) (hlen : d.buf.length = 64)
    (hsound : recordBad d.buf (u.on Reg.TICK.CFG.PLAN && u.rd Reg.TICK.CFG.RATE == 0) = none) (hopen : u.on Reg.TILCA.CTRL.LOCK = false) :
    sentSetRes d u = okRes (u.setTc d.a0 { u.tc d.a0 with
      next := ((u.tc d.a0).next.filter fun e => e.2 != u.stepTick d) ++ [(d.buf, u.stepTick d)] }) (le 8 (u.stepTick d)) := by
  unfold sentSetRes
  rw [if_neg (Nat.not_le.mpr hn), if_neg (not_not_intro hlen), hsound]
  dsimp only
  rw [hopen]
  rfl

theorem sentStatRes_of_published {x : TilCh} (hn : d.a0 < 128) (hx : mapGet u.tilCh d.a0 = some x) :
    sentStatRes d u = okRes u [] x.pub := by
  unfold sentStatRes
  rw [if_neg (Nat.not_le.mpr hn), hx]

theorem zCaptureRes_of_pilot (hn : d.a0 < 128) (hpilot : u.pilotSet d.a0 = true) :
    zCaptureRes d u = longRes (u.setTc d.a0 { u.tc d.a0 with capt := some [] }) := by
  unfold zCaptureRes
  rw [if_neg (Nat.not_le.mpr hn), hpilot]
  rfl

theorem sentRestartRes_of_down (hg : d.a0 < 16) (hdown : u.rd (Reg.TILCA.G.GSTAT.STATE d.a0) = 2) :
    sentRestartRes d u = okRes ((((u.setTg d.a0 { u.tg d.a0 with asked := true, restartAt := u.run }).wr
      (Reg.TILCA.G.GSTAT.STATE d.a0) 1).count (Reg.TILCA.G.GCNT.RESTART d.a0)).showTil d.a0) := by
  unfold sentRestartRes
  rw [if_neg (Nat.not_le.mpr hg), if_neg (not_not_intro hdown)]

end

/-! ### Their rows (R641, R663, R668 to R671) -/

theorem doSentEffect_of_next {n t : Nat} {b : List Byte} {r : List (List Byte × Nat)} {s : State} {y : TilCh}
    (hnext : (s.tc n).next = (b, t) :: r) (hy : y = { s.tc n with record := b, next := r }) :
    doSentEffect n s = (s.reach (s.tAt t)).setTc n (if ((s.tc n).cls == 0) != (y.cls == 0) then { y with m := {} } else y) := by
  subst hy
  unfold doSentEffect
  dsimp only
  split
  next h => exact absurd (h.symm.trans hnext) (List.cons_ne_nil _ _).symm
  next h =>
    obtain ⟨⟨rfl, rfl⟩, rfl⟩ : _ ∧ _ := by simpa using h.symm.trans hnext
    rfl

theorem doCaptureTimeout_of_ran {n r : Nat} {s : State} (hring : s.ringOf 0x56 (fun d => d.a0 == n) = some r)
    (hran : s.ranFor r 30000000000 = true) :
    doCaptureTimeout n s = (s.setTc n { s.tc n with capt := none }).finish r stDeferred [] [] := by
  unfold doCaptureTimeout
  rw [hring]
  exact if_pos hran

section
variable {g : Nat} {s : State}

theorem doFeedMiss_of_plain (hg : g < 16) (hchans : s.tilChans g = []) :
    doFeedMiss g s = (s.setTg g { s.tg g with misses := (s.tg g).misses + 1, missed := true }).count (Reg.TILCA.G.GCNT.MISS g) := by
  unfold doFeedMiss
  rw [if_neg (Nat.not_le.mpr hg), hchans]
  rfl

/-- A sentinel with fewer than three faults in 600 s restarts (R671). -/
theorem doSentFault_of_few {cause : Nat} {l : List Nat} (hg : g < 16) (hrun : s.rd (Reg.TILCA.G.GSTAT.STATE g) = 0) (hcause : cause ≠ 0)
    (hl : l = ((s.tg g).faults.filter fun t => decide (s.run < t + 600000000000)) ++ [s.run]) (hfew : l.length < 3) :
    doSentFault g cause s = ((((s.setTg g { s.tg g with faults := l, misses := 0, asked := false, restartAt := s.run }).logSent g cause).wr
      (Reg.TILCA.G.GSTAT.STATE g) 1).count (Reg.TILCA.G.GCNT.RESTART g)).showTil g := by
  have hacts : ¬ (decide (16 ≤ g) || decide (s.rd (Reg.TILCA.G.GSTAT.STATE g) ≠ 0) || (cause == 0 && decide ((s.tg g).misses < 8))) = true := by
    simp [Nat.not_le.mpr hg, hrun, hcause]
  unfold doSentFault
  dsimp only
  rw [if_neg hacts, ← hl, if_neg (Nat.not_le.mpr hfew)]

/-- A restart without a mirror resumes from the models as they stand (R670). -/
theorem doSentRestarted_of_plain {u : State} (hg : g < 16) (hstate : s.rd (Reg.TILCA.G.GSTAT.STATE g) = 1)
    (hmirror : (s.tg g).mirror = none) (hasked : (s.tg g).asked = false)
    (hu : u = (s.wr (Reg.TILCA.G.GSTAT.STATE g) 0).logSent g 3) :
    doSentRestarted g s = (u.setTg g { u.tg g with asked := false }).showTil g := by
  unfold doSentRestarted
  rw [if_neg (by simp [Nat.not_le.mpr hg, hstate])]
  dsimp only
  rw [hmirror, hasked]
  dsimp only
  rw [← hu]
  rfl

theorem doSentTimeout_of_late (hg : g < 16) (hstate : s.rd (Reg.TILCA.G.GSTAT.STATE g) = 1)
    (hlate : (s.tg g).restartAt + 50000000 ≤ s.run) : doSentTimeout g s = s.sentDown g :=
  if_neg (by simp [Nat.not_le.mpr hg, hstate, State.lasted_some (rfl : some (s.tg g).restartAt = _) hlate])

end

/-! ### A window without voltage (R660 to R664) -/

theorem State.tc_setTc_same (s : State) (n : Nat) (x : TilCh) : (s.setTc n x).tc n = x := mapGetD_mapSet_same ..

theorem State.tc_showTil (s : State) (g n : Nat) : (s.showTil g).tc n = s.tc n := by
  unfold State.showTil
  extract_lets
  exact List.foldlRecOn (motive := fun t : State => t.tc n = s.tc n) _ _ rfl fun t ht _ _ => ht

/-- An alarm whose condition does not hold in an invalid window stays (R664). -/
theorem alarmStep_invalid (met unmet : Nat) (up : Bool) : alarmStep met unmet up false false = (met, unmet, up) := rfl

/-- The channel after a window without voltage: nothing but its second and the count of valid windows moves. -/
def State.windowLost (s : State) (n : Nat) : TilCh :=
  let x := s.tc n
  { x with
    met := (List.range 4).map fun i => atD x.met i 0
    unmet := (List.range 4).map fun i => atD x.unmet i 0
    alarms := (List.range 4).map fun i => atD x.alarms i false
    winSec := s.ns / 1000000000
    valid := (x.valid.filter fun t => decide (s.run < t + 60000000000)) ++ [] }

theorem atD_map_range {α : Type} (l : List α) (d : α) {i n : Nat} (h : i < n) :
    atD ((List.range n).map fun j => atD l j d) i d = atD l i d := by
  unfold atD
  rw [List.getElem?_map, List.getElem?_range h]
  rfl

/-- The first four runs of a list, filled up with zeros. -/
theorem map_atD_range_four (l : List Nat) :
    (List.range 4).map (fun i => atD l i 0) = l.take 4 ++ List.replicate (4 - l.length) 0 := by
  match l with
  | [] | [_] | [_, _] | [_, _, _] => rfl
  | _ :: _ :: _ :: _ :: r => simp [atD, List.range_succ]

theorem doPilotWindow_of_noVoltage {w : PilotWindow} {s : State} (hn : w.ch < 128) (hpilot : s.pilotSet w.ch = true)
    (hv : s.vMeets w = false) (hsec : (s.tc w.ch).winSec < s.ns / 1000000000) :
    doPilotWindow w s = (s.setTc w.ch (s.windowLost w.ch)).showTil (w.ch / 8) := by
  have hlive : ¬ (decide (128 ≤ w.ch) || !s.pilotSet w.ch || decide (s.ns / 1000000000 ≤ (s.tc w.ch).winSec)) = true := by
    simp [Nat.not_le.mpr hn, hpilot, Nat.not_le.mpr hsec]
  unfold doPilotWindow
  extract_lets n x injected vOk iOk valid z dev conds steps y s1 turned s2
  rw [if_neg hlive]
  have hvalid : valid = false := by
    unfold valid vOk
    rw [hv, Bool.and_false]
    rfl
  have hdev : dev = false := by
    unfold dev
    rw [hvalid]
    cases x.ref <;> rfl
  have hconds : conds = [false, false, false, false] := by
    unfold conds vOk
    rw [hdev, hvalid, hv, Bool.and_false]
    rfl
  have hsteps : steps = (List.range 4).map fun i => (atD x.met i 0, atD x.unmet i 0, atD x.alarms i false) := by
    unfold steps
    rw [hconds, hvalid]
    rfl
  have hy : y = s.windowLost w.ch := by
    unfold y
    rw [hvalid, hsteps]
    rfl
  have hturned : turned = [] := by
    unfold turned
    rw [hy]
    refine List.filter_eq_nil_iff.mpr fun i hi => ?_
    have hsame := atD_map_range x.alarms false (Nat.lt_trans (List.mem_range.mp hi) (by decide : 3 < 4))
    rw [show (s.windowLost w.ch).alarms = (List.range 4).map fun i => atD x.alarms i false from rfl, hsame, bne_self_eq_false]
    exact Bool.false_ne_true
  rw [hvalid, if_neg Bool.false_ne_true]
  unfold s2 s1
  rw [hturned, hy]
  rfl

/-- Settles O29: each command and row is its branch of the sentinels' rules; a window without voltage is invalid and meets no
alarm's condition, so that every alarm's runs stay. -/
theorem sentinelRowsTakeEffect : Obligations.SentinelRowsTakeEffect := by
  refine ⟨?set, ?effect, ?stat, ?capture, ?captureTimeout, ?restart, ?miss, ?fault, ?done, ?timeout, ?window⟩
  case set =>
    rintro d s u hadm rfl hn hlen hsound hopen
    exact congrArg Host.Outcome.next (hostCmd_ok hadm (sentSetRes_of_sound hn hlen hsound hopen) (Nat.zero_le _))
  case effect => exact fun n t b r s y hnext hy => congrArg Host.Outcome.next (doSentEffect_of_next hnext hy)
  case stat =>
    rintro d s u x hadm rfl hn hx hroom
    exact congrArg Host.Outcome.next (hostCmd_ok hadm (sentStatRes_of_published hn hx) hroom)
  case capture =>
    rintro d s u hadm rfl hn hpilot
    exact congrArg Host.Outcome.next (hostCmd_long hadm (zCaptureRes_of_pilot hn hpilot))
  case captureTimeout => exact fun n r s hring hran => congrArg Host.Outcome.next (doCaptureTimeout_of_ran hring hran)
  case restart =>
    rintro d s u hadm rfl hg hdown
    exact congrArg Host.Outcome.next (hostCmd_ok hadm (sentRestartRes_of_down hg hdown) (Nat.zero_le _))
  case miss => exact fun g s hg hchans => congrArg Host.Outcome.next (doFeedMiss_of_plain hg hchans)
  case fault =>
    exact fun g cause s l hg hrun hcause hl hfew => congrArg Host.Outcome.next (doSentFault_of_few hg hrun hcause hl hfew)
  case done =>
    exact fun g s u hg hstate hmirror hasked hu =>
      congrArg Host.Outcome.next (doSentRestarted_of_plain hg hstate hmirror hasked hu)
  case timeout => exact fun g s hg hstate hlate => congrArg Host.Outcome.next (doSentTimeout_of_late hg hstate hlate)
  case window =>
    intro w s hn hpilot hv hsec halarms
    have htc : ((s.setTc w.ch (s.windowLost w.ch)).showTil (w.ch / 8)).tc w.ch = s.windowLost w.ch := by
      rw [State.tc_showTil, State.tc_setTc_same]
    refine ⟨_, congrArg Host.Outcome.next (doPilotWindow_of_noVoltage hn hpilot hv hsec), ?_, ?_, ?_, ?_⟩ <;> rw [htc]
    · rfl
    · rfl
    · exact congrArg (fun l => (List.range 4).map fun i => atD l i false) halarms
    · exact map_atD_range_four _

end Sys2Proof.Machine
end
